-- ==== Sys2Proof/Word.lean ====
section
/-! DEFINITION. The byte and word types, the four pairs, and the sparse tables that addressed stores are held in. -/

namespace Sys2Proof

/-- One byte. -/
abbrev Byte := BitVec 8

/-- A pair of the cable: A, B, C, D at the MDI are 0 to 3 inside the device (00_scope, "Notation and conventions"). -/
abbrev Pair := Fin 4

/-- Four like things, one per pair, pair 0 first. -/
structure Quad (α : Type) where
  p0 : α
  p1 : α
  p2 : α
  p3 : α
deriving DecidableEq, Repr

/-- The same value for every pair. -/
def Quad.all {α : Type} (a : α) : Quad α := ⟨a, a, a, a⟩

/-- The entry of one pair. -/
def Quad.at {α : Type} (q : Quad α) (p : Pair) : α :=
  match p with
  | 0 => q.p0
  | 1 => q.p1
  | 2 => q.p2
  | 3 => q.p3

/-- The four entries with one replaced. -/
def Quad.put {α : Type} (q : Quad α) (p : Pair) (a : α) : Quad α :=
  match p with
  | 0 => { q with p0 := a }
  | 1 => { q with p1 := a }
  | 2 => { q with p2 := a }
  | 3 => { q with p3 := a }

/-- Change one entry. -/
def Quad.upd {α : Type} (q : Quad α) (p : Pair) (f : α → α) : Quad α := q.put p (f (q.at p))

/-- Change every entry, knowing its pair. -/
def Quad.mapIdx {α β : Type} (q : Quad α) (f : Pair → α → β) : Quad β :=
  ⟨f 0 q.p0, f 1 q.p1, f 2 q.p2, f 3 q.p3⟩

/-- Change every entry. -/
def Quad.map {α β : Type} (q : Quad α) (f : α → β) : Quad β := ⟨f q.p0, f q.p1, f q.p2, f q.p3⟩

/-- The entries in pair order. -/
def Quad.toList {α : Type} (q : Quad α) : List α := [q.p0, q.p1, q.p2, q.p3]

/-- The four pairs in order. -/
def pairs : List Pair := [0, 1, 2, 3]

/-- A sparse table: key and value, keys strictly rising, no entry equal to the table's default. -/
abbrev Sparse (α : Type) := List (Nat × α)

end Sys2Proof
end

