-- ==== Sys2Proof/Config.lean ====
section
/-! DEFINITION. What is fixed for a device: the parts of the family, the code tables the chapters share, and the free values that the spec leaves open (opaque constants with no body). -/

namespace Sys2Proof

/-- The four parts of the family (R1, Table 0-2). -/
inductive Part
  | wq100s | wq100e | wq50s | wq40s
deriving DecidableEq, Repr

/-- FP_CAPS.PART (Table 0-3). -/
def Part.code : Part → Nat
  | .wq100s => 1 | .wq100e => 2 | .wq50s => 3 | .wq40s => 4

/-- Engines enabled by fuse: the lowest-numbered set (R1, R2). -/
def Part.engines : Part → Nat
  | .wq100s => 96 | .wq100e => 96 | .wq50s => 64 | .wq40s => 40

/-- FP_CAPS.N100 (Table 0-2). -/
def Part.n100 : Part → Bool
  | .wq100s => true | .wq100e => true | .wq50s => false | .wq40s => false

/-- FP_CAPS.N50. -/
def Part.n50 : Part → Bool
  | .wq100s => true | .wq100e => true | .wq50s => true | .wq40s => false

/-- FP_CAPS.KNUCKLE. -/
def Part.knuckle : Part → Bool
  | .wq100s => true | .wq100e => true | .wq50s => true | .wq40s => false

/-- FP_CAPS.WARD. -/
def Part.ward : Part → Bool
  | .wq100s => true | .wq100e => false | .wq50s => true | .wq40s => true

/-- FP_CAPS.DIAG. -/
def Part.diag : Part → Bool
  | .wq100s => true | .wq100e => true | .wq50s => true | .wq40s => false

/-- FP_CAPS.LEGACY_WAKE. -/
def Part.legacyWake : Part → Bool
  | .wq100s => true | .wq100e => true | .wq50s => false | .wq40s => false

/-- FP_CAPS (R4, Table 0-3). -/
def Part.capsValue (p : Part) : Nat :=
  let b := fun (x : Bool) (i : Nat) => if x then 2 ^ i else 0
  b p.n100 0 + b p.n50 1 + b p.knuckle 2 + b p.ward 3 + b p.diag 4 + b p.legacyWake 5 + 0x3F00 + 2 ^ 16 * p.engines + 2 ^ 24 * p.code

/-- Status codes (R11, Table 0-7). -/
inductive Status
  | ok | deferred | busySelftest | unitAbsent | badOpcode | lenRange | spanBad | flowInvalid
  | windowFault | notReady | authFail | range | stale | genConflict | discard | lateDrop
  | gateRefused | approvedMode | ringFault | timeout
deriving DecidableEq, Repr

/-- The code of a status (Table 0-7). -/
def Status.code : Status → Nat
  | .ok => 0x0000 | .deferred => 0x0001 | .busySelftest => 0x0002 | .unitAbsent => 0x0003
  | .badOpcode => 0x0004 | .lenRange => 0x0005 | .spanBad => 0x0006 | .flowInvalid => 0x0007
  | .windowFault => 0x0008 | .notReady => 0x0009 | .authFail => 0x000A | .range => 0x000B
  | .stale => 0x000C | .genConflict => 0x000D | .discard => 0x000E | .lateDrop => 0x000F
  | .gateRefused => 0x0010 | .approvedMode => 0x0011 | .ringFault => 0x0012 | .timeout => 0x0013

/-- Tier of a status in the order of R10, for statuses that a request can meet. -/
def Status.tier : Status → Nat
  | .badOpcode => 1 | .lenRange => 1 | .spanBad => 1 | .flowInvalid => 1
  | .unitAbsent => 2 | .notReady => 3 | .busySelftest => 4 | .deferred => 4 | .approvedMode => 5
  | .ok => 7 | _ => 6

/-- Link rungs are numbered 0 to 7 (R156, Table 5-1); a lower number is a higher rung. -/
abbrev Rung := Nat

/-- A rung is present when its FP_CAPS bit reads 1 (R156). -/
def Part.rungPresent (p : Part) (r : Rung) : Bool :=
  if r = 0 then p.n100 else if r = 1 then p.n50 else decide (r < 8)

/-- The highest present rung: "Top" of R189 (R3). -/
def Part.top : Part → Rung
  | .wq100s => 0 | .wq100e => 0 | .wq50s => 1 | .wq40s => 2

/-- One bit per present rung (LINK_CTL.RUNG_EN's reset value, Table 5-11). -/
def Part.rungMask : Part → Nat
  | .wq100s => 0xFF | .wq100e => 0xFF | .wq50s => 0xFE | .wq40s => 0xFC

/-- Engine cycles in one timeline period, C (Table 4-2). -/
def periodCycles : Option Rung → Nat
  | none => 256
  | some 0 => 256 | some 1 => 512 | some 2 => 640 | some 3 => 1024 | some 4 => 2560
  | some 5 => 5120 | some 6 => 10240 | some _ => 16384

/-- Period length in ns (Table 4-2): C cycles of 0.5 ns. -/
def periodNs (r : Option Rung) : Nat := periodCycles r / 2

/-- Die-link sample cycle: whole periods `c` and frames `F` of a cycle (Table 1-5). -/
def sampleCycle : Rung → Nat × Nat
  | 0 => (1, 1) | 1 => (1, 2) | 2 => (2, 5) | 3 => (1, 4) | 4 => (1, 10) | 5 => (1, 20) | 6 => (1, 40) | _ => (1, 64)

/-- Samples per pair in frame j of a cycle (R26). -/
def samplesInFrame (r : Rung) (j : Nat) : Nat :=
  let n := 1024 * (sampleCycle r).1
  let f := (sampleCycle r).2
  (j + 1) * n / f - j * n / f

/-- LCLK division of the root by rung (Table 9-2). -/
def lclkDivision : Rung → Nat
  | 0 => 2 | 1 => 4 | 2 => 5 | 3 => 8 | 4 => 20 | 5 => 40 | 6 => 80 | _ => 128

/-- Engine profiles (Table 4-5). -/
inductive Profile
  | n100 | n100k | n50 | n50k | g40 | g25 | g10 | g5 | g2p5 | g1 | ql100 | ql50 | noLink
deriving DecidableEq, Repr

/-- Profile code (Table 4-5). -/
def Profile.code : Profile → Nat
  | .n100 => 0x01 | .n100k => 0x02 | .n50 => 0x03 | .n50k => 0x04 | .g40 => 0x10 | .g25 => 0x11
  | .g10 => 0x12 | .g5 => 0x13 | .g2p5 => 0x14 | .g1 => 0x15 | .ql100 => 0x20 | .ql50 => 0x21
  | .noLink => 0x31

/-- Engines used by a profile (Table 4-5). -/
def Profile.engines : Profile → Nat
  | .n100 => 84 | .n100k => 66 | .n50 => 44 | .n50k => 34 | .g40 => 34 | .g25 => 24 | .g10 => 12
  | .g5 => 8 | .g2p5 => 6 | .g1 => 6 | .ql100 => 10 | .ql50 => 8 | .noLink => 2

/-- The profile of a rung, in four-pair or Knuckle form. -/
def Profile.ofRung (r : Rung) (kn : Bool) : Profile :=
  match r with
  | 0 => if kn then .n100k else .n100
  | 1 => if kn then .n50k else .n50
  | 2 => .g40 | 3 => .g25 | 4 => .g10 | 5 => .g5 | 6 => .g2p5 | _ => .g1

/-- SNR_REQ of a mode in 0.1 dB (Table 3-11). -/
def snrReq : Rung → Nat
  | 0 => 240 | 1 => 240 | 7 => 170 | _ => 235

/-- Mean squared amplitude per dimension of the mode's constellation (Table 3-11). -/
def meanPower : Rung → Nat
  | 7 => 2 | _ => 85

/-! ### Free values

Each is an opaque constant: nothing in Lean can evaluate it. A free value that is drawn anew is
applied to the counter `State.draws`, which the step advances (log entry 8). -/

/-- Random master-slave seed of a negotiation, 11 bits (R159). -/
opaque freeSeed : Nat → BitVec 11

/-- Length of an idle run that the framer chooses, taken modulo 125 (R72: 0 to 124 bytes). -/
opaque freeIdleRun : Nat → Nat

/-- Frames beyond the 16 that R31 asks for by which Benash announces the switch of a lane (R31: at least 16 frames ahead). -/
opaque freeFrameLead : Nat → Nat

/-- How far past its last slice the device sets AT_SEQ of a THP_SWITCH that it sends, taken modulo 125 and raised by 4 (R79: 4 to 128). -/
opaque freeSwitchLead : Nat → Nat

/-- Start value of the TAMP_OUT sequence of a power-up (R403). -/
opaque freeTampOut : Nat → BitVec 32

/-- Random bytes that an SPDM response carries (R385: nonces and exchange data). -/
opaque freeNonce : Nat → BitVec 256

/-- Whether a RESET# pulse of 100 ns to 1 µs starts a warm reset (R449: it may or may not). -/
opaque freeResetPulse : Nat → Bool

/-- A word of the signed profile set (R473): profile code, engine position within the profile, entry. -/
opaque freeProfileEntry : Nat → Nat → Nat → BitVec 64

/-- Segments, START, BUDGET and BANKS of an entry whose task Table 4-6 or 6-1 fixes (R473). -/
opaque freeProfilePlan : Nat → Nat → Nat → BitVec 64

/-- Background work that the signed set puts on a free engine (R132, R473): profile code, position among the free engines after the hot spares, entry. -/
opaque freeBackground : Nat → Nat → Nat → BitVec 64

/-- The fixed internal echo delay of a pair in ps, as measured on the internal loopback at bring-up (R278). -/
opaque freeInternalDelay : Nat → Nat

/-- ADC codes that the incident pulse of the diagnostics unit makes: its peak, and its squared spectrum at a band centre of R267, each as one more than the
numerator over one more than the denominator (R265, R267: the levels are not given). -/
opaque freePulsePeak : Nat × Nat
opaque freePulsePower : Nat → Nat × Nat

/-- NEXT of the active pairs in a sample of a block on the shed pair, from its held NEXT coefficients and their transmit codes (R264); pair coefficients, draw,
sample. -/
opaque freeNextShare : List (List (Int × Int)) → Nat → Nat → Int

/-- Content of a coefficient vector after a store error or before the first training (R139, R145). -/
opaque freeCoefficients : Nat → List Int

/-- The value e^(−2πik/2^n) as the transform unit holds it (R92): the spec gives no precision. Arguments: n, k. -/
opaque freeTwiddle : Nat → Nat → Rat × Rat

/-- Value of one unit of an echo or NEXT coefficient's real or imaginary part (R92: "two 16-bit values", no format). -/
opaque freeBinUnit : Rat

/-- Amplitude units per ADC code at 0 dB of digital gain (R91: x has no stated unit), as one more than the numerator over one more than the denominator. -/
opaque freeSampleUnit : Nat × Nat

/-- The same as a number above 0. -/
def sampleUnit : Rat := ((freeSampleUnit.1 + 1 : Nat) : Rat) / ((freeSampleUnit.2 + 1 : Nat) : Rat)

/-- The gain of n × 0.01 dB as block 4 holds it, for n other than 0 (R86). -/
opaque freeGainFactor : Int → Rat

/-- The interpolator's output at a fraction of 1/256 UI other than 0, from the 16 samples around it (R90: no kernel is given). -/
opaque freeInterpolate : Nat → List Rat → Rat

/-- The phase detector over one period (R90: no detector is given): combined output, tentative decisions, segments left out; in 1/256 UI. -/
opaque freePhaseError : List Rat → List Int → BitVec 16 → Int

/-- Share of the phase error that the first-order loop takes off in one period at the mode's bandwidth (R90). -/
opaque freePhaseGain : Rung → Rat

/-- Factory baseline of an aging monitor's element, 0.01 % (R418): by monitor and element. -/
opaque freeAgingBaseline : Nat → Nat → Int

/-- ML1's next frequency word in 0.001 ppm (R293, R294: its loop filter is not given): by its word, the latched FREQ_OFS and the mean phase correction in 1/256 UI. -/
opaque freeMl1Word : Int → Int → Rat → Int

/-- Tracking step of a block class: 0 FFE, 1 echo, 2 NEXT, 3 FEXT (R106: fixed by the signal programs). -/
opaque freeTrackStep : Nat → Rat

/-- RMS frequency of a pair's received spectrum in Hz, estimated from the statistics of its slices (R228: the method is not given): per position the mean,
mean square and mean product, and the symbol time in seconds. -/
opaque freeRmsFrequency : List (Rat × Rat × Rat) → Rat → Rat

/-- Cell errors in 1/128 of a unit cell from what the rotations left in the echo residual (R233: the correlation is not given): per rotation the probe periods and
the sum of mean squared residuals. -/
opaque freeCellErrors : List (Nat × Rat) → List Int

/-- Timing phase of a preamble in 1/256 UI against the phase held (R88: how it is measured is not given): the chips and the samples under them. -/
opaque freePreamblePhase : List Int → List Rat → Rat

/-- A segment's chips from samples at 8.0 GS/s (R220: the resampling is not given): the rate, 0 for 3.2 GBd, and the samples up to the peak; 256 values. -/
opaque freeResample : Nat → List Int → List Rat

/-- Predicted level of a transmitter at a frequency, 0.01 dBm/Hz at 0 dB of backoff (R60): rung, FIR taps in 1/16384, the factory line-driver response, MHz. -/
opaque freeSpectrum : Rung → List Int → List Int → Nat → Int

/-- SHA-384, named by R391, R424 and R388. -/
opaque sha384 : List Byte → BitVec 384

/-- ECDSA P-384 verification over a SHA-384 digest (R424, R385): key, digest, r and s. -/
opaque ecdsaVerify : List Byte → BitVec 384 → List Byte → Bool

/-- Signature by the identity key over a digest (R390, R391); the counter makes each one fresh. -/
opaque identitySign : Nat → BitVec 384 → List Byte

/-- The digest of signing key n that the boot ROM holds (R424). -/
opaque romKeyDigest : Nat → BitVec 384

/-- AES key unwrap under SP 800-38F (R387): KEK and wrapped bytes; none when the integrity check fails. -/
opaque aesUnwrap : List Byte → List Byte → Option (List Byte)

/-- AES-256-GCM protection of a frame under IEEE 802.1AE (R379): SAK, salt, SSCI, packet number, whether the
text is encrypted, bytes authenticated only, bytes to protect; answers the secure data and the 16-byte ICV. -/
opaque gcmSeal : List Byte → List Byte → List Byte → Nat → Bool → List Byte → List Byte → List Byte

/-- AES-256-GCM check of a frame (R381): as `gcmSeal`, with secure data and ICV; none when the ICV fails. -/
opaque gcmOpen : List Byte → List Byte → List Byte → Nat → Bool → List Byte → List Byte → Option (List Byte)

/-- What decryption gives before the ICV is checked (R345): as `gcmOpen`. -/
opaque gcmText : List Byte → List Byte → List Byte → Nat → Bool → List Byte → List Byte → List Byte

/-- Steps that a running self-test has completed (R443), taken modulo the steps planned: by the draw of the run and the instant. -/
opaque freeTestSteps : Nat → Nat → Nat

/-- Whether a completed step of a self-test that is cut short has failed (R437): by the draw of the run and the instant. -/
opaque freeTestFailed : Nat → Nat → Bool

/-- The partial signature of a self-test that is cut short (R437): by the draw of the run and the instant. -/
opaque freeTestSignature : Nat → Nat → BitVec 64

/-- Signature of a self-test that the image holds (R437): test code and target. -/
opaque expectedSignature : Nat → Nat → BitVec 64


end Sys2Proof
end

