-- ==== Sys2Proof/Syntax.lean ====
section
/-! DEFINITION. The commands. -/

namespace Sys2Proof

/-- A capsule as read from a submission ring (R335, Table 10-13); RING_SEQ and TIMESTAMP are ignored in submissions. -/
structure Capsule where
  opcode : Byte
  flags : Byte
  /-- Bytes 2 and 3: FLOW and FCOUNT. -/
  flowWord : BitVec 16
  length : BitVec 16
  spanWord : BitVec 16
  tag : BitVec 16
  status : BitVec 16
  /-- Bytes 24 to 63. -/
  args : List Byte
  payload : List Byte
deriving DecidableEq, Repr

/-- A SAK that MKA distributes (R382). -/
structure MkaSak where
  an : Nat
  sak : List Byte
  salt : List Byte
  ssci : List Byte
deriving DecidableEq, Repr

/-- What a received MKPDU holds: its ICV's outcome, a live peer and its SCI, a distributed SAK, and whether MKA moves to it. -/
structure MkaIn where
  icvGood : Bool
  live : Bool
  peerSci : List Byte
  sak : Option MkaSak
  advance : Bool
deriving DecidableEq, Repr

/-- A Ward message (R386): the session it came over (none: in clear), its MTAG and message bytes 8 onward. -/
structure WardMsg where
  sid : Option Nat
  mtag : Nat
  body : List Byte
deriving DecidableEq, Repr

/-- A configuration write that acts on Keyway (R313, R324, R351). -/
inductive ConfigWrite
  | power (d3 : Bool)
  | pme (en : Bool)
  | cache (en : Bool)
  | aspm (en : Bool)
deriving DecidableEq, Repr

/-- How an on-demand or full self-test ended (R435, R437). -/
structure TestEnd where
  done : Nat
  failed : Bool
  restored : Bool
  signature : BitVec 64
deriving DecidableEq, Repr

/-- How the start-up test ended: an excursion, or what failed (R432); slices and cells as pair and number. -/
structure StartUpEnd where
  excursion : Bool
  engines : List Nat
  lanesOut : List Nat
  lanesIn : List Nat
  slices : List (Nat × Nat)
  cells : List (Nat × Nat)
  ldpc : Bool
  pairs : BitVec 4
  signature : BitVec 64
deriving DecidableEq, Repr

/-- Where NVM lost a line (R419). -/
inductive NvmArea
  | slotA | slotB | trim1 | trim2
  | log (seq : Nat)
  | shutdown | tamper | keks | cak | cert
deriving DecidableEq, Repr

/-- Figures that the receiver measures in one training period (Table 5-6): echo and NEXT residual below own transmit level in
0.1 dB, PAM-2 SNR in 0.1 dB, AFC movement in 0.001 ppm, and the pair map found with a skew within 400 symbols. -/
structure TrainMeas where
  residual : Quad Int
  snr : Quad Int
  afcMove : Nat
  mapDone : Bool
deriving DecidableEq, Repr

/-- What a phase change brings (R166 to R169): background powers in 0.1 dBm, the master's T1 signal heard, the pair map, the symbols
from the transmit to the receive boundary, and the frequency offset in 0.001 ppm. At the end of a clause's training also its PGA settings and mean squared
errors in 1/65536. -/
structure PhaseEnd where
  background : Quad Int
  heard : Bool
  far : Quad Pair
  inv : Quad Bool
  delay : Quad Nat
  offset : Nat
  pga : Quad Nat
  freq : Int
  mse : Quad Nat
deriving DecidableEq, Repr

/-- A codeword of a standard mode (R115): where the clause puts its bits, as periods before the one released, pair, segment and number of bits; its length; and
the iterations that the clause's code needs on its soft values (none: not converged). -/
structure StdCodeword where
  places : List (Nat × Pair × Nat × Nat)
  length : Nat
  iters : Option Nat
deriving DecidableEq, Repr

/-- A frame of a standard mode: bytes without FCS, each with the codeword that carries it, counted back from the last one released (none: received in error,
in 1000BASE-T); its FCS outcome, and the instant at which the symbol of its first bit crossed the MDI, ns. -/
structure StdFrame where
  bytes : List (Option Byte × Nat)
  good : Bool
  stamp : Nat
deriving DecidableEq, Repr

/-- What a clause's code and PCS make of a period: codewords in the order of their last symbols, frames, and the decoded amplitudes of each pair. Empty in
native modes, whose decoding is the model's own. -/
structure DecodeIn where
  stdWords : List StdCodeword
  stdFrames : List StdFrame
  points : Quad (List Int)
deriving DecidableEq, Repr

/-- A request that reaches the coefficient store (R140); an engine's names the slot entry it runs and the segments that slot has completed. `line`: the first
line of the burst in each bank. -/
structure StoreAsk where
  who : Nat
  slot : Nat
  banks : BitVec 8
  lines : Nat
  line : Nat
  write : Bool
  done : Nat
deriving DecidableEq, Repr

/-- One engine cycle of the coefficient store: cycle number, requests that arrive, requesters that withdraw, and read errors
(bank, line, uncorrectable). -/
structure StoreCycle where
  cycle : Nat
  asks : List StoreAsk
  withdrawn : List Nat
  errors : List (Nat × Nat × Bool)
deriving DecidableEq, Repr

/-- What an engine did in a timeline period: cycles used, slots that ran longer than BUDGET without reaching their deadline,
corrected and uncorrectable errors of its memories (R128, R146, R152). -/
structure EngineLoad where
  engine : Nat
  used : Nat
  overruns : Nat
  memCe : Nat
  memUe : Bool
deriving DecidableEq, Repr

/-- The test of a physical lane (R29): word lock reached, bit slips, eye in ps, PRBS31 errors. -/
structure LaneTest where
  locked : Bool
  slips : Nat
  eye : Nat
  errors : Nat
deriving DecidableEq, Repr

/-- A burst or link codeword from the partner (R157 to R160): whether it carries a base page, and the standard abilities that it
and the ability message give, one bit per rung. -/
structure LinkPage where
  basePage : Option Nat
  rungs : Nat
  eee : Nat
  fr : Nat
deriving DecidableEq, Repr

/-- An instant in a receive period (R207 to R213): the symbol of the period under way, and the ADC samples of each pair that have entered in it,
those that the blocks look ahead to among them. -/
structure RxInstant where
  pos : Nat
  part : Quad (List Int)
deriving DecidableEq, Repr

/-- A calibration estimate that is complete on a pair (R228, R230, R233), or what the eye monitors read (R234): direction, lane, eye and phase of its centre. -/
inductive CalEst
  | adc (pair : Pair)
  | dac (pair : Pair)
  | hybrid (pair : Pair)
  | dielink (lanes : List (Bool × Nat × Nat × Int))
deriving DecidableEq, Repr

/-- A block of diagnostics (R264, R269): per pulse the ADC samples of every pair at 8.0 GS/s; the pairs whose energy detector reported energy from outside, and
those of which a sample carried an erasure mark. -/
structure DiagBlock where
  pulses : List (Quad (List Int))
  energy : BitVec 4
  marked : BitVec 4
deriving DecidableEq, Repr

/-- What the clock monitors measure in a window (R288, R289), in 0.01 ppm; none: no edges. The IFO against the ISO, off the ratio of 50;
XIN0 and XIN1 against the IFO, off the configured nominal; and whether the ISO runs. -/
structure ClockWindow where
  ifo : Option Int
  iso : Bool
  x0 : Option Int
  x1 : Option Int
deriving DecidableEq, Repr

/-- RESET#: low for a time in ns, or high again with BOOT_SEL and the SMBus address straps as they then read (R448, R449). -/
inductive ResetLevel
  | low (ns : Nat)
  | high (bootSel : Bool) (smbAddr : BitVec 2)
deriving DecidableEq, Repr

/-- The commands: one constructor for each row of the opcode table. `tag` names the waiting Cyoner request (R359), `i` a ring,
`sid` a secured session, `a` the SMBus address used and `pec` whether the read carries a PEC. -/
inductive Instr
  /-- IDENTIFY (R359). -/
  | identify (tag : BitVec 16)
  /-- GET_CAPS (R359). -/
  | getCaps (tag : BitVec 16)
  /-- GET_PARAM (R361). -/
  | getParam (tag : BitVec 16)
  /-- SET_PARAM (R361). -/
  | setParam (tag : BitVec 16)
  /-- REPAIR_GO (R146). -/
  | repairGo (tag : BitVec 16)
  /-- REVERT (R257). -/
  | revert (tag : BitVec 16)
  /-- REF_SEL (R292). -/
  | refSel (tag : BitVec 16)
  /-- GATE_CTL (R297). -/
  | gateCtl (tag : BitVec 16)
  /-- ALARM_STATUS_CLEAR (R283). -/
  | alarmStatusClear (tag : BitVec 16)
  /-- LINK_UP (R184). -/
  | linkUp (tag : BitVec 16)
  /-- LINK_DOWN (R184). -/
  | linkDown (tag : BitVec 16)
  /-- TRAIN_FULL (R184): TRAIN with KIND 0. -/
  | trainFull (tag : BitVec 16)
  /-- TRAIN_FAST (R184): TRAIN with KIND 1. -/
  | trainFast (tag : BitVec 16)
  /-- KNUCKLE_SHED (R248). -/
  | knuckleShed (tag : BitVec 16)
  /-- KNUCKLE_REINSTATE (R255). -/
  | knuckleReinstate (tag : BitVec 16)
  /-- CAL_RUN (R238). -/
  | calRun (tag : BitVec 16)
  /-- CAL_EXPORT (R243). -/
  | calExport (tag : BitVec 16)
  /-- CAL_IMPORT (R246): `bytes`: what the host window holds. -/
  | calImport (tag : BitVec 16) (bytes : List Byte)
  /-- DIAG_TDR (R263). -/
  | diagTdr (tag : BitVec 16)
  /-- BIST_RUN (R434). -/
  | bistRun (tag : BitVec 16)
  /-- BIST_ABORT (R436). -/
  | bistAbort (tag : BitVec 16)
  /-- LOG_READ (R423). -/
  | logRead (tag : BitVec 16)
  /-- FW_STAGE (R425): `bytes`: what the host window holds. -/
  | fwStage (tag : BitVec 16) (bytes : List Byte)
  /-- FW_COMMIT (R426). -/
  | fwCommit (tag : BitVec 16)
  /-- FW_ACTIVATE (R427). -/
  | fwActivate (tag : BitVec 16)
  /-- SHUTDOWN_PREP (R433). -/
  | shutdownPrep (tag : BitVec 16)
  /-- FLOW_CREATE (R350). -/
  | flowCreate (tag : BitVec 16)
  /-- FLOW_MODIFY (R350). -/
  | flowModify (tag : BitVec 16)
  /-- FLOW_DESTROY (R350). -/
  | flowDestroy (tag : BitVec 16)
  /-- SLOT_STAGE_OPEN (R134). -/
  | slotStageOpen (tag : BitVec 16)
  /-- SLOT_STAGE_WRITE (R134). -/
  | slotStageWrite (tag : BitVec 16)
  /-- SLOT_STAGE_CLEAR (R134). -/
  | slotStageClear (tag : BitVec 16)
  /-- SLOT_COMMIT (R135). -/
  | slotCommit (tag : BitVec 16)
  /-- WARD_KAT (R396). -/
  | wardKat (tag : BitVec 16)
  /-- SA_ADVANCE (R384). -/
  | saAdvance (tag : BitVec 16)
  /-- KEY_ERASE (R407). -/
  | keyErase (tag : BitVec 16)
  /-- KEK_INSTALL (R387). -/
  | kekInstall (m : WardMsg)
  /-- KEK_ERASE (R388). -/
  | kekErase (m : WardMsg)
  /-- KEY_INSTALL (R389). -/
  | keyInstall (m : WardMsg)
  /-- KEY_ERASE_MSG (R388). -/
  | keyEraseMsg (m : WardMsg)
  /-- CAK_INSTALL (R387). -/
  | cakInstall (m : WardMsg)
  /-- HASP_SET (R400). -/
  | haspSet (m : WardMsg)
  /-- TAMPER_CLEAR (R402). -/
  | tamperClear (m : WardMsg)
  /-- MODE_SET (R376). -/
  | modeSet (m : WardMsg)
  /-- LIFECYCLE (R394). -/
  | lifecycle (m : WardMsg)
  /-- GET_VERSION (R385). -/
  | getVersion
  /-- GET_CAPABILITIES (R385). -/
  | getCapabilities
  /-- NEGOTIATE_ALGORITHMS (R385): what the requester offers. -/
  | negotiateAlgorithms (p384 sha384 ecdhe aead : Bool)
  /-- GET_DIGESTS (R385). -/
  | getDigests
  /-- GET_CERTIFICATE (R385): slot, offset and length in bytes. -/
  | getCertificate (slot off len : Nat)
  /-- SET_CERTIFICATE (R390): `sid`: the session it comes over; none: in clear. -/
  | setCertificate (sid : Option Nat) (chain : List Byte)
  /-- CHALLENGE (R385). -/
  | challenge (slot : Nat) (nonce : BitVec 256)
  /-- GET_MEASUREMENTS (R391): `index`: 1 to 6, or 0xFF for all. -/
  | getMeasurements (index : Nat) (sign : Bool)
  /-- KEY_EXCHANGE (R385). -/
  | keyExchange
  /-- FINISH (R385): `good`: the check passed; `auth`: identity and root hash of a mutually authenticated requester. -/
  | finish (sid : Nat) (good : Bool) (auth : Option (BitVec 384 × BitVec 384))
  /-- KEY_UPDATE (R385). -/
  | keyUpdate (sid : Nat)
  /-- HEARTBEAT (R385). -/
  | heartbeat (sid : Nat)
  /-- END_SESSION (R385). -/
  | endSession (sid : Nat)
  /-- IDE_KM (R385): `cache`: the CXL.cachemem stream; `go`: into use, else stopped. -/
  | ideKm (sid : Nat) (cache go : Bool)
  /-- SUBMISSION_FETCH (R328): `i`: the ring; `c`: the capsule at SQ_HEAD. -/
  | submissionFetch (i : Nat) (c : Capsule)
  /-- NOP (R340). -/
  | nop (i : Nat)
  /-- SEND (R341). -/
  | send (i : Nat)
  /-- SEND_MULTI (R337). -/
  | sendMulti (i : Nat)
  /-- FENCE (R341). -/
  | fence (i : Nat)
  /-- SEND_DONE (R341). -/
  | sendDone (i : Nat)
  /-- FP_RESET_CORE (R302). -/
  | fpResetCore (v : BitVec 32)
  /-- FP_RESET_WARM (R298). -/
  | fpResetWarm (v : BitVec 32)
  /-- FP_RESET_BENASH (R303). -/
  | fpResetBenash (v : BitVec 32)
  /-- FP_EVENT_WRITE (R318). -/
  | fpEventWrite (v : BitVec 32)
  /-- FP_EVENT_EN_WRITE (R318). -/
  | fpEventEnWrite (v : BitVec 32)
  /-- FP_EVENT_CNT_READ (R318): 32-bit word number and width. -/
  | fpEventCntRead (word : Nat) (wide : Bool)
  /-- FP_NME_STATUS_WRITE (R319). -/
  | fpNmeStatusWrite (v : BitVec 32)
  /-- FP_NME_CNT_READ (R319): 32-bit word number and width. -/
  | fpNmeCntRead (word : Nat) (wide : Bool)
  /-- FP_FAULT_INFO_READ (R322). -/
  | fpFaultInfoRead
  /-- FP_STATE_ADDR_WRITE (R321). -/
  | fpStateAddrWrite (v : BitVec 64)
  /-- WINDOW_WRITE (R323): window, byte offset in its entry, width, value. -/
  | windowWrite (w off : Nat) (wide : Bool) (v : BitVec 64)
  /-- RING_ENABLE (R326): `v`: the word at 0x10. -/
  | ringEnable (i : Nat) (v : BitVec 32)
  /-- RING_STOP (R329): `v`: the word at 0x10. -/
  | ringStop (i : Nat) (v : BitVec 32)
  /-- SQ_TAIL_WRITE (R328). -/
  | sqTailWrite (i : Nat) (v : BitVec 32)
  /-- CQ_HEAD_WRITE (R328). -/
  | cqHeadWrite (i : Nat) (v : BitVec 32)
  /-- RING_RESET (R330). -/
  | ringReset (i : Nat)
  /-- REGISTER_WRITE (R15): BAR, byte offset, width, value. -/
  | registerWrite (bar off : Nat) (wide : Bool) (v : BitVec 64)
  /-- H2D_SNOOP (R312). -/
  | h2dSnoop
  /-- CXL_LINK_UP (R313): `gt`: GT/s. -/
  | cxlLinkUp (width gt : Nat)
  /-- FRAME_CLASSIFY (R343). -/
  | frameClassify
  /-- WARD_RX_FRAME (R380). -/
  | wardRxFrame
  /-- MKPDU (R382). -/
  | mkpdu (m : MkaIn)
  /-- COMPLETION_WRITE (R344). -/
  | completionWrite (i : Nat)
  /-- COMPLETION_OBSERVED (R344). -/
  | completionObserved (i : Nat)
  /-- RX_MULTI_CLOSE (R346). -/
  | rxMultiClose (i : Nat)
  /-- IRQ_HOLDOFF_EXPIRY (R334). -/
  | irqHoldoffExpiry (i : Nat)
  /-- EVENT_SIGNAL_MERGE (R318). -/
  | eventSignalMerge
  /-- HELD_FRAME_DELIVERY (R301). -/
  | heldFrameDelivery (f : Nat)
  /-- TIMELINE_BOUNDARY (R125): what each engine did in the period that ends, and the ADC samples of each pair that entered in it. -/
  | timelineBoundary (ls : List EngineLoad) (adc : Quad (List Int))
  /-- SLOT_BANK_SWITCH (R137). -/
  | slotBankSwitch
  /-- SLOT_DEADLINE (R128): engine, entry, segments complete, and the cycle at which the engine's previous slot of the period ended. -/
  | slotDeadline (e i doneSegs prevEnd : Nat)
  /-- STORE_GRANT (R140). -/
  | storeGrant (c : StoreCycle)
  /-- OVERHOLD_CUTOFF (R142): the bank. -/
  | overholdCutoff (b : Nat)
  /-- STORE_SCRUB (R139): errors: bank, line, uncorrectable. -/
  | storeScrub (es : List (Nat × Nat × Bool))
  /-- DRIFT_GUARD_EVAL (R111). -/
  | driftGuardEval
  /-- DECODE_RELEASE (R98). -/
  | decodeRelease (d : DecodeIn)
  /-- THP_COEF (R79). -/
  | thpCoef
  /-- THP_SWITCH (R79). -/
  | thpSwitch
  /-- ACK (R78). -/
  | ack
  /-- PEER_ID (R76). -/
  | peerId
  /-- INFOFIELD_RETRY (R78). -/
  | infofieldRetry
  /-- THP_SET_ACTIVATE (R56). -/
  | thpSetActivate
  /-- REMOTE_FAULT (R175). -/
  | remoteFault
  /-- RA_SET (R177). -/
  | raSet
  /-- RATE_CONFIRMED (R177). -/
  | rateConfirmed
  /-- STD_RATE_CONFIRM (R177). -/
  | stdRateConfirm
  /-- ALIGNMENT_SEARCH (R30). -/
  | alignmentSearch
  /-- ALIGNMENT_SEARCH_END (R30): the 26 outbound and the 26 inbound lanes. -/
  | alignmentSearchEnd (outb inb : List LaneTest)
  /-- ALIGNMENT_RETRY (R30). -/
  | alignmentRetry
  /-- LANE_FRAME_CHECK (R28): direction, lane, frames counted up to this one, 64 words. -/
  | laneFrameCheck (inb : Bool) (lane frame : Nat) (ws : List (BitVec 32))
  /-- LANE_SUBSTITUTION (R31): direction, physical lane, and cause in the order of the list before R31, from 1. -/
  | laneSubstitution (inb : Bool) (lane cause : Nat)
  /-- SPARE_CLEAN_COUNT (R31): direction. -/
  | spareCleanCount (inb : Bool)
  /-- SUBSTITUTION_SWITCH (R31): direction. -/
  | substitutionSwitch (inb : Bool)
  /-- DEEP_LOW_POWER_EXIT (R34): lanes that show no marker words. -/
  | deepLowPowerExit (outb inb : List Nat)
  /-- ENERGY_DETECT (R172). -/
  | energyDetect (p : Pair)
  /-- ENERGY_LOSS (R174). -/
  | energyLoss (p : Pair)
  /-- DORMANT_ENTRY (R42). -/
  | dormantEntry
  /-- DORMANT_EXIT (R43). -/
  | dormantExit
  /-- NEGOTIATION_START (R157). -/
  | negotiationStart
  /-- NATIVE_ABILITY_MESSAGE (R159): OUI and unformatted fields. -/
  | nativeAbilityMessage (oui u1 u2 u3 : Nat)
  /-- NEGOTIATION_RESOLVE (R160): standard modes: the partner's manual configuration as MS_MODE has it, and the role (true: slave) that the clause gives where neither
  end forces one; none: equal seeds. -/
  | negotiationResolve (farMs : Nat) (autoRole : Option Bool)
  /-- NO_PARTNER_TIMER (R176). -/
  | noPartnerTimer
  /-- LADDER_RESET_TIMER (R179). -/
  | ladderResetTimer
  /-- TRAINING_WORD (R165). -/
  | trainingWord (w : BitVec 64) (m : TrainMeas)
  /-- PHASE_CHANGE (R167). -/
  | phaseChange (e : PhaseEnd)
  /-- PHASE_TIMER (R172): `seen`: pairs with energy; in T1, with partner signal in its last turn. -/
  | phaseTimer (seen : BitVec 4)
  /-- BREAK_END (R173). -/
  | breakEnd
  /-- HDR_LOSS (R174). -/
  | hdrLoss
  /-- STD_TRAINING_DONE (R162). -/
  | stdTrainingDone (e : PhaseEnd)
  /-- STD_LINK_FAIL (R172): `seen`: pairs with energy. -/
  | stdLinkFail (seen : BitVec 4)
  /-- FAST_RETRAIN_REQUEST (R180). -/
  | fastRetrainRequest
  /-- FAST_RETRAIN_START (R181). -/
  | fastRetrainStart
  /-- FAST_RETRAIN_END (R181). -/
  | fastRetrainEnd
  /-- FAST_RETRAIN_TIMEOUT (R181). -/
  | fastRetrainTimeout
  /-- LCLK_DIVISION_CHANGE (R286): divisions of the root. -/
  | lclkDivisionChange (dac adc : Nat)
  /-- QL_IDLE_TIMER (R195). -/
  | qlIdleTimer
  /-- QUIET_WITHDRAW (R196). -/
  | quietWithdraw
  /-- QUIET_START (R197). -/
  | quietStart
  /-- ENTRY_ABORT (R199). -/
  | entryAbort
  /-- REFRESH_WINDOW (R200): none: this end's; in a standard mode also one that the clause expects of the partner, and whether it came (R218). -/
  | refreshWindow (far : Option Bool)
  /-- WAKE_BURST_START (R206). -/
  | wakeBurstStart
  /-- ONSET (R207). -/
  | onset (k : RxInstant)
  /-- ACQUISITION_TIMEOUT (R207). -/
  | acquisitionTimeout (k : RxInstant)
  /-- LATCH_POINT (R209). -/
  | latchPoint (k : RxInstant)
  /-- SYNC_WORD (R210). -/
  | syncWord (k : RxInstant)
  /-- SYNC_SEARCH_TIMEOUT (R211). -/
  | syncSearchTimeout
  /-- SETTLE_HEADER_TIMEOUT (R211). -/
  | settleHeaderTimeout
  /-- RECEPTION_CONFIRMED (R211). -/
  | receptionConfirmed
  /-- LISTEN_TIMEOUT (R211). -/
  | listenTimeout
  /-- CAPTURE (R213). -/
  | capture (k : RxInstant)
  /-- QL_HDR_LOSS (R216). -/
  | qlHdrLoss
  /-- LEGACY_BURST_DETECT (R220): 0: 3.2 GBd, 1: 2.0 GBd, 2: 0.8 GBd. -/
  | legacyBurstDetect (rate : Nat) (k : RxInstant)
  /-- LEGACY_WAKE_TIMEOUT (R220). -/
  | legacyWakeTimeout
  /-- KNUCKLE_REQUEST_RECEIVED (R249). -/
  | knuckleRequestReceived
  /-- KNUCKLE_ACK_RECEIVED (R249). -/
  | knuckleAckReceived
  /-- KNUCKLE_FORM_CHANGE (R249). -/
  | knuckleFormChange
  /-- RX_FORM_CHANGE (R250). -/
  | rxFormChange
  /-- KNUCKLE_ACK_TIMEOUT (R251). -/
  | knuckleAckTimeout
  /-- PAIR_TRAINING_DONE (R254). -/
  | pairTrainingDone
  /-- PAIR_TRAINING_TIMEOUT (R254). -/
  | pairTrainingTimeout
  /-- CAL_ESTIMATE_DONE (R228). -/
  | calEstimateDone (e : CalEst)
  /-- SLICE_SHADOW_DONE (R236): offset, gain and skew codes. -/
  | sliceShadowDone (p : Pair) (o g k : Int)
  /-- CAL_NO_ENGINE (R231). -/
  | calNoEngine
  /-- CAL_TIMEOUT (R240). -/
  | calTimeout
  /-- TDR_BLOCK_DONE (R264). -/
  | tdrBlockDone (b : DiagBlock)
  /-- DIAG_TIMEOUT (R263). -/
  | diagTimeout
  /-- DIAG_NO_ENGINE (R269). -/
  | diagNoEngine
  /-- QUIET_REQ (R270). -/
  | quietReq
  /-- QUIET_ACK (R270). -/
  | quietAck
  /-- QUIET_ACK_TIMEOUT (R270). -/
  | quietAckTimeout
  /-- QUIET_DURATION_EXPIRY (R270). -/
  | quietDurationExpiry
  /-- FAR_REPORT_TIMER (R277). -/
  | farReportTimer
  /-- FAR_REPORT (R277). -/
  | farReport
  /-- STATE_PAGE_EPOCH (R368). -/
  | statePageEpoch
  /-- STATE_PAGE_PUBLISHED (R368). -/
  | statePagePublished
  /-- TREND_INTERVAL (R280). -/
  | trendInterval
  /-- GATE_CLOSE_REQUEST (R295): the gate. -/
  | gateCloseRequest (g : Nat)
  /-- GATE_IDLE_ACK (R295): the gate. -/
  | gateIdleAck (g : Nat)
  /-- GATE_CLOSE_REFUSED (R295): the gate. -/
  | gateCloseRefused (g : Nat)
  /-- GATE_REOPEN (R296): `access`: a held access, else an open request. -/
  | gateReopen (g : Nat) (access : Bool)
  /-- UNIT_RESET (R304): the unit, as its gate; `acked`: it went idle. -/
  | unitReset (u : Nat) (acked : Bool)
  /-- REPAIR_START (R147). -/
  | repairStart
  /-- REPAIR_LOAD_DONE (R147): `good`: the read-back matched. -/
  | repairLoadDone (good : Bool)
  /-- PROGRAM_SWAP (R430). -/
  | programSwap
  /-- CLOCK_MONITOR_WINDOW (R289). -/
  | clockMonitorWindow (w : ClockWindow)
  /-- REFERENCE_EDGE_LOSS (R289). -/
  | referenceEdgeLoss
  /-- HOLDOVER_EXPIRY (R290). -/
  | holdoverExpiry
  /-- ML0_RELOCK (R291). -/
  | ml0Relock
  /-- POWER_ON_RESET (R455): straps. -/
  | powerOnReset (bootSel : Bool) (smbAddr : BitVec 2) (lcHold : Bool)
  /-- START_UP_TEST_END (R432). -/
  | startUpTestEnd (e : StartUpEnd)
  /-- POWER_ON_RESET_ASSERT (R456). -/
  | powerOnResetAssert
  /-- RESET_PIN (R449). -/
  | resetPin (e : ResetLevel)
  /-- CORE_RESET_RELEASE (R302). -/
  | coreResetRelease
  /-- PERST_ASSERT (R301): rings with a half-fetched capsule. -/
  | perstAssert (fetching : List Nat)
  /-- PERST_RELEASE (R305). -/
  | perstRelease
  /-- BENASH_WATCHDOG (R303). -/
  | benashWatchdog
  /-- BENASH_RESTART_END (R366): `sramGood`: the march test passed. -/
  | benashRestartEnd (sramGood : Bool)
  /-- ESCALATION (R303). -/
  | escalation
  /-- RAIL_UNDERVOLTAGE (R457): 0 VDD_LINE, 1 VDDA_LINE, 2 VDD_CXL, 3 VDDH_CXL, 4 VDD_IO. -/
  | railUndervoltage (rail : Nat)
  /-- RAIL_RECOVERY (R457): as RAIL_UNDERVOLTAGE. -/
  | railRecovery (rail : Nat)
  /-- SUPPLY_LOSS (R458). -/
  | supplyLoss
  /-- MESH_CHECK (R398). -/
  | meshCheck (intact : Bool)
  /-- HASP_TRIP (R399): sensor, whether its condition is present, junction temperature in 0.1 °C. -/
  | haspTrip (i : Nat) (present : Bool) (temp : Int)
  /-- ZEROIZE_NVM_ERASE (R401). -/
  | zeroizeNvmErase
  /-- WARD_SELF_TEST_DONE (R395). -/
  | wardSelfTestDone
  /-- WARD_SELF_TEST_FAIL (R397). -/
  | wardSelfTestFail
  /-- MKA_HELLO (R382). -/
  | mkaHello
  /-- MKA_LIFE_EXPIRY (R382). -/
  | mkaLifeExpiry
  /-- SENSOR_READ (R417): 0.1 °C and mV. -/
  | sensorRead (temps : List Int) (supplies : List Nat)
  /-- AGING_MEASURE (R418): for each monitor the frequencies f_ref and f_stress of its elements, in their order. -/
  | agingMeasure (fs : List (List (Nat × Nat)))
  /-- SRAM_SCRUB (R419). -/
  | sramScrub (corrected : Nat) (bad : Bool)
  /-- NVM_SCRUB (R419): `bad`: uncorrectable. -/
  | nvmScrub (corrected : Nat) (bad : List NvmArea)
  /-- LOG_SUPPRESSED_RECORD (R422). -/
  | logSuppressedRecord
  /-- FW_TRIAL_CONFIRM (R427). -/
  | fwTrialConfirm
  /-- SD_RECORD_DISARM (R433). -/
  | sdRecordDisarm
  /-- BIST_TEST_END (R437). -/
  | bistTestEnd (e : TestEnd)
  /-- LED1_TIMER (R449). -/
  | led1Timer
  /-- SMB_READ_FP_ID (R451). -/
  | smbReadFpId (a : Nat) (pec : Bool)
  /-- SMB_READ_FP_CAPS (R451). -/
  | smbReadFpCaps (a : Nat) (pec : Bool)
  /-- SMB_READ_FP_READY (R451). -/
  | smbReadFpReady (a : Nat) (pec : Bool)
  /-- SMB_READ_FP_NME_STATUS (R451). -/
  | smbReadFpNmeStatus (a : Nat) (pec : Bool)
  /-- SMB_READ_LINK_STATUS (R452). -/
  | smbReadLinkStatus (a : Nat) (pec : Bool)
  /-- SMB_READ_POWER_STATE (R452). -/
  | smbReadPowerState (a : Nat) (pec : Bool)
  /-- SMB_READ_TEMP (R452). -/
  | smbReadTemp (a : Nat) (pec : Bool)
  /-- SMB_READ_SUPPLY (R452). -/
  | smbReadSupply (a : Nat) (pec : Bool)
  /-- SMB_READ_AGING (R452). -/
  | smbReadAging (a : Nat) (pec : Bool)
  /-- FAST_LINK_PULSE_BURST (R176). -/
  | fastLinkPulseBurst (p : LinkPage)
  /-- CABLE_DISCHARGE (R38). -/
  | cableDischarge (p : Pair)
  /-- CONFIGURATION_WRITE (R313). -/
  | configurationWrite (w : ConfigWrite)
  /-- LPI_SLEEP (R218): `own`: sent, else received. -/
  | lpiSleep (own : Bool)
  /-- LPI_WAKE (R218): `own`: sent, else received. -/
  | lpiWake (own : Bool)
  /-- COMMAND_TIMEOUT (R365). -/
  | commandTimeout (tag : BitVec 16)
deriving DecidableEq, Repr

end Sys2Proof
end

