-- ==== Sys2Proof/Decode.lean ====
section
/-! DEFINITION. The command a table word spells. No row of the opcode table gives a command any bits: commands reach the block as register accesses, capsules, messages, periods and pins, so no word spells one. -/

namespace Sys2Proof

/-- The command that a word of `nbits` bits spells by the opcode table: none, since every row's list of bit fields is empty. -/
def decodeTableWord (_nbits _w : Nat) : Option Instr := none

end Sys2Proof
end

