-- ==== Sys2Proof/Machine/Bits.lean ====
section
/-! DEFINITION. Bit fields, byte order, saturating counts, sparse tables and checksums that every chapter uses (R14, R19). -/

namespace Sys2Proof.Machine

/-- Add to a counter of w bits that saturates. -/
def satAdd (w n k : Nat) : Nat := min (n + k) (2 ^ w - 1)

/-- Count one on a saturating counter of w bits. -/
def inc (w n : Nat) : Nat := satAdd w n 1

/-- Bits [lo + w − 1 : lo] of a number. -/
def bitsAt (v lo w : Nat) : Nat := v / 2 ^ lo % 2 ^ w

/-- One bit of a number. -/
def bitAt (v i : Nat) : Bool := v / 2 ^ i % 2 = 1

/-- A Bool as a bit. -/
def b2n (b : Bool) : Nat := if b then 1 else 0

/-- Two's complement of w bits: the number that a field holds for a signed value. -/
def ofInt (w : Nat) (i : Int) : Nat := (i % (2 ^ w : Nat)).toNat

/-- The signed value that a field of w bits holds. -/
def toInt (w : Nat) (v : Nat) : Int :=
  let m := v % 2 ^ w
  if m < 2 ^ (w - 1) then (m : Int) else (m : Int) - (2 ^ w : Nat)

/-- A signed value held within lo to hi. -/
def clampInt (lo hi i : Int) : Int := if i < lo then lo else if hi < i then hi else i

/-- Little-endian bytes of a number (R19). -/
def leBytes : Nat → Nat → List Byte
  | 0, _ => []
  | n + 1, v => BitVec.ofNat 8 v :: leBytes n (v / 256)

/-- The number that little-endian bytes spell (R19). -/
def leNat : List Byte → Nat
  | [] => 0
  | b :: bs => b.toNat + 256 * leNat bs

/-- Little-endian number in bytes [at, at + n) of a list; bytes beyond its end count as 0. -/
def leAt (bs : List Byte) (pos n : Nat) : Nat := leNat ((bs.drop pos).take n)

/-- Most-significant-first number in bytes. -/
def beNat (bs : List Byte) : Nat := bs.foldl (fun a b => 256 * a + b.toNat) 0

/-- Most-significant-first bytes of a number. -/
def beBytes (n v : Nat) : List Byte := (leBytes n v).reverse

/-- Fields, lowest first, packed into one number. -/
def packNat : List (Nat × Nat) → Nat
  | [] => 0
  | (w, v) :: fs => v % 2 ^ w + 2 ^ w * packNat fs

/-- Fields, lowest first, packed into `size` little-endian bytes. -/
def packBytes (size : Nat) (fs : List (Nat × Nat)) : List Byte := leBytes size (packNat fs)

/-- A list of bytes cut or filled with zeros to a length. -/
def fitBytes (n : Nat) (bs : List Byte) : List Byte := bs.take n ++ List.replicate (n - bs.length) 0

/-- Number of bits that are 1. -/
def popCount (w v : Nat) : Nat := ((List.range w).filter (fun i => bitAt v i)).length

/-- Position of the lowest bit that is 1 among the first w. -/
def lowestBit (w v : Nat) : Option Nat := (List.range w).find? (fun i => bitAt v i)

/-- Bits of a list of Bools as a number, first lowest. -/
def ofBools : List Bool → Nat
  | [] => 0
  | b :: bs => b2n b + 2 * ofBools bs

/-- The first w bits of a number, lowest first. -/
def toBools (w v : Nat) : List Bool := (List.range w).map (fun i => bitAt v i)

/-- Sum of a list. -/
def sumNat (l : List Nat) : Nat := l.foldl (· + ·) 0

/-- Replace the entry at a position of a list. -/
def setAt {α : Type} (l : List α) (i : Nat) (a : α) : List α := l.set i a

/-- Change the entry at a position of a list. -/
def modAt {α : Type} (l : List α) (i : Nat) (f : α → α) : List α := l.modify i f

/-- The bytes of a frame that are present from its start on. -/
def presentBytes (bs : List (Option Byte)) : List Byte := (bs.takeWhile Option.isSome).map (·.getD 0)

/-! ### Sparse tables -/

/-- Entry at a key. -/
def sget {α : Type} (d : α) : Sparse α → Nat → α
  | [], _ => d
  | (k, v) :: t, n => if k = n then v else sget d t n

/-- Put an entry at a key, keeping the keys strictly rising and leaving out the default. -/
def sset {α : Type} [DecidableEq α] (d : α) : Sparse α → Nat → α → Sparse α
  | [], n, a => if a = d then [] else [(n, a)]
  | (k, v) :: t, n, a =>
    if n < k then (if a = d then (k, v) :: t else (n, a) :: (k, v) :: t)
    else if n = k then (if a = d then t else (k, a) :: t)
    else (k, v) :: sset d t n a

/-- Change the entry at a key. -/
def smod {α : Type} [DecidableEq α] (d : α) (t : Sparse α) (n : Nat) (f : α → α) : Sparse α :=
  sset d t n (f (sget d t n))

/-- Change every listed entry, keeping the canonical form. -/
def smap {α : Type} [DecidableEq α] (d : α) (t : Sparse α) (f : Nat → α → α) : Sparse α :=
  t.foldl (fun acc e => sset d acc e.1 (f e.1 e.2)) []

/-- The canonical form of a sparse table: keys strictly rising, no entry equal to the default. -/
def Sparse.wf {α : Type} [DecidableEq α] (d : α) : Sparse α → Bool
  | [] => true
  | [(_, v)] => v ≠ d
  | (k, v) :: (k', v') :: t => v ≠ d && k < k' && Sparse.wf d ((k', v') :: t)

/-! ### Checksums -/

/-- One step of a CRC that shifts left: register of w bits, polynomial, input bit. -/
def crcStepLeft (w poly reg : Nat) (b : Bool) : Nat :=
  let top := bitAt reg (w - 1)
  let sh := reg * 2 % 2 ^ w
  if top ≠ b then sh ^^^ poly else sh

/-- CRC over bits, shifting left. -/
def crcLeft (w poly init : Nat) (bits : List Bool) : Nat := bits.foldl (crcStepLeft w poly) init

/-- One step of a CRC that shifts right with a reflected polynomial. -/
def crcStepRight (poly reg : Nat) (b : Bool) : Nat :=
  let low := bitAt reg 0
  if low ≠ b then (reg / 2) ^^^ poly else reg / 2

/-- The bits of bytes, each least significant bit first (R19). -/
def byteBits (bs : List Byte) : List Bool := bs.flatMap (fun b => toBools 8 b.toNat)

/-- The Ethernet CRC-32 of bytes: reflected, start all ones, complemented. -/
def crc32 (bs : List Byte) : Nat := ((byteBits bs).foldl (crcStepRight 0xEDB88320) 0xFFFFFFFF) ^^^ 0xFFFFFFFF

/-- Bits, least significant of each byte first, gathered into bytes. -/
def bitsToBytes (bits : List Bool) : List Byte :=
  (List.range (bits.length / 8)).map (fun i => BitVec.ofNat 8 (ofBools ((bits.drop (8 * i)).take 8)))

/-- Put an entry before the first one that it does not have to follow. -/
def insertBy {α : Type} (le : α → α → Bool) (x : α) : List α → List α
  | [] => [x]
  | y :: t => if le x y then x :: y :: t else y :: insertBy le x t

/-- A list in order; entries that are equal keep their order. -/
def sortBy {α : Type} (le : α → α → Bool) (l : List α) : List α := l.foldr (insertBy le) []

/-- A quotient to the nearest integer, halves away from zero. -/
def roundQuot (n d : Int) : Int := if 0 ≤ n then (2 * n + d) / (2 * d) else -((-2 * n + d) / (2 * d))

end Sys2Proof.Machine
end

