-- ==== Sys2Proof/Machine/UnitsHost.lean ====
section
/-! DEFINITION. State of the fuses, the non-volatile memory, the Front Panel, Keyway, the flows, Cyoner and Benash (10_keyway, 11_cyoner, 13_benash, 12_ward R393). A field's default value is its value at reset. -/

namespace Sys2Proof.Machine

/-- Lifecycle states (R393). -/
inductive Lifecycle
  | factory | provisioned | deployed | retired
deriving DecidableEq, Repr

/-- Fuses (R1, R317, R359, R393, R394, R424, R427). Their values are a DESIGN CHOICE (log entry 3). -/
structure Fuse where
  part : Part := .wq100s
  step : Nat := 0
  serial : List Byte := List.replicate 16 0
  lifecycle : Lifecycle := .provisioned
  /-- Identity of the owner's root, burnt on the move to DEPLOYED (R394). -/
  ownerHash : Option (BitVec 384) := none
  /-- Anti-rollback counter, 0 to 63 (R427). -/
  rollback : Nat := 0
  /-- One revocation fuse for each signing key (R424). -/
  revoked : BitVec 4 := 0
  romver : Nat := 0x01000000
  identityKey : Bool := true
deriving DecidableEq, Repr

/-- One log entry (R420, Table 13-5). -/
structure LogEntry where
  seq : Nat
  /-- Device time in µs. -/
  time : Nat
  boot : Nat
  /-- UNIT byte. -/
  unitId : Nat
  sev : Nat
  kind : Nat
  detail : Nat
  /-- Low byte of the object ID that records the event, or 0xFF. -/
  obj : Nat
  arg0 : Nat
  arg1 : Nat
  arg2 : Nat
  arg3 : Nat
deriving DecidableEq, Repr

/-- A firmware slot (R414, R424). -/
structure FwSlot where
  image : List Byte := []
  valid : Bool := false
  fwver : Nat := 0
  svn : Nat := 0
  progver : Nat := 0
  layout : Nat := 0
  secpHash : BitVec 384 := 0
deriving DecidableEq, Repr

/-- The shut-down record (R433, Table 13-19). -/
structure SdRecord where
  armed : Bool
  used : Bool
  result : Nat
  disarm : Nat
  boot : Nat
  slotB : Bool
  fwver : Nat
  temp : Int
  signature : BitVec 64
  /-- Hasp's tamper COUNT at writing. -/
  tamperCount : Nat
deriving DecidableEq, Repr

/-- A KEK kept in the security store, wrapped there; here as what it unwraps to (R373, R387, R406). -/
structure StoredKek where
  installer : Option (BitVec 384) := none
  key : List Byte := []
deriving DecidableEq, Repr

/-- Factory trim of one pair (Table 7-1): slice map and the offset, gain and skew of the 36 slices; cell map, errors of the 71 cells and the LSB segment's trim;
balance codes; K_FS in 0.01 dBm; the response of R60. The contents of the default device are a DESIGN CHOICE (log entry 5). -/
structure TrimPair where
  sliceMap : List Nat := List.range 32
  slices : List (Int × Int × Int) := List.replicate 36 (0, 0, 0)
  cellMap : List Nat := List.range 63
  cellErr : List Int := List.replicate 71 0
  lsb : Int := 0
  hybR : Nat := 128
  hybC : Nat := 32
  kfs : Int := 850
  /-- Line-driver response at multiples of 100 MHz, in 0.1 dB. -/
  driver : List Int := List.replicate 121 0
deriving DecidableEq, Repr

/-- Factory trim (R225, Table 7-1): the pairs, the nominal phase of every physical lane in 1/64 UI, and the mode sets. -/
structure Trim where
  pair : Quad TrimPair := Quad.all {}
  laneOut : List Int := List.replicate 26 0
  laneIn : List Int := List.replicate 26 0
  n100 : Bool := true
  n50 : Bool := true
deriving DecidableEq, Repr

/-- Non-volatile memory (R414). Contents at first power-on are a DESIGN CHOICE (log entry 4). -/
structure Nvm where
  slotA : FwSlot := { valid := true, fwver := 0x01000000, progver := 0x01000000, layout := 1 }
  slotB : FwSlot := {}
  /-- The slot the activation marker names: true for B. -/
  markB : Bool := false
  /-- Log, newest first, at most 65,536 entries (R422). -/
  log : List LogEntry := []
  /-- SEQ of the next entry. -/
  nextSeq : Nat := 0
  boots : Nat := 0
  sd : Option SdRecord := none
  /-- Tamper record (R405, R413). -/
  tamperCount : Nat := 0
  tamperLast : Nat := 0
  tamperZeroized : Bool := false
  tamperLc : Nat := 0
  tamperUptime : Nat := 0
  /-- HASP_CFG as stored, 32 bits; Table 12-11's defaults. -/
  haspCfg : BitVec 32 := 0x00023333
  keks : Sparse StoredKek := []
  cak : Option (List Byte × List Byte) := none
  /-- R401: the stored wrapped keys are to be erased. -/
  erasePending : Bool := false
  approved : Bool := false
  cert0 : List Byte := []
  cert1 : List Byte := []
  /-- Factory trim, and whether the CRC of each of its two copies passes (R225). -/
  trim : Trim := {}
  trim1Good : Bool := true
  trim2Good : Bool := true
  /-- Powered time of the last completed scrub (scrub clock, R419). -/
  scrubAt : Nat := 0
deriving DecidableEq, Repr

/-! ### Front Panel -/

/-- Host Window Table entry as its two 64-bit words (R323, Table 10-9). -/
structure Window where
  lo : BitVec 64 := 0
  hi : BitVec 64 := 0
deriving DecidableEq, Repr

/-- EN. -/
def Window.en (w : Window) : Bool := w.lo.getLsbD 0
/-- COHERENT. -/
def Window.coherent (w : Window) : Bool := w.lo.getLsbD 1
/-- IDE_REQ. -/
def Window.ideReq (w : Window) : Bool := w.lo.getLsbD 2
/-- RD. -/
def Window.rd (w : Window) : Bool := w.lo.getLsbD 3
/-- WR. -/
def Window.wr (w : Window) : Bool := w.lo.getLsbD 4
/-- BASE as a host address. -/
def Window.base (w : Window) : Nat := w.lo.toNat / 4096 * 4096
/-- SIZE in 4 KiB units. -/
def Window.size (w : Window) : Nat := w.hi.toNat % 2 ^ 24

/-- MSI-X table entry and its bit of the pending array (R315). Masked at reset: PRESUMED, PCIe (log entry 10). -/
structure MsixEntry where
  addr : BitVec 64 := 0
  data : BitVec 32 := 0
  masked : Bool := true
  pending : Bool := false
deriving DecidableEq, Repr

/-- Front Panel registers (R316 to R323, R299). -/
structure FrontPanel where
  event : BitVec 13 := 0
  eventEn : BitVec 13 := 0
  eventCnt : Sparse Nat := []
  nme : BitVec 7 := 0
  nmeCnt : Sparse Nat := []
  /-- FP_STATE_ADDR. -/
  pageEn : Bool := false
  pageFault : Bool := false
  pageAddr : Nat := 0
  /-- FP_RESET. -/
  resetRefused : Bool := false
  resetCause : Nat := 0
  /-- FP_FAULT_ADDR and FP_FAULT_INFO. -/
  faultAddr : Nat := 0
  faultSource : Nat := 0
  faultKind : Nat := 0
  faultCount : Nat := 0
  windows : Sparse Window := []
  msix : Sparse MsixEntry := []
  /-- Device time of the last vector 1,002 signal, and whether a merged one is due (R318). -/
  lastGeneral : Option Nat := none
  mergeDue : Bool := false
deriving DecidableEq, Repr

/-! ### Keyway -/

/-- A completion or notice placed in a completion ring and not yet written (R344). -/
structure Completion where
  opcode : Nat
  flags : Nat
  flow : Nat
  fcount : Nat
  tag : Nat
  status : Status
  seq : BitVec 32
  /-- Timestamp fixed when placed (RECV, SEND_DONE); none: the device time at writing (R347). -/
  stamp : Option Nat
  /-- Bytes 24 to 63. -/
  args : List Byte
  /-- Payload bytes; a line with a lost byte is not written (R345). -/
  payload : List (Option Byte)
  /-- SPAN, lines. -/
  span : Nat
  /-- False: an early-head capsule whose frame has no verdict yet (R345). -/
  ready : Bool := true
  /-- Frames and frame bytes it delivers (R353). -/
  frames : Nat := 0
  frameBytes : Nat := 0
  /-- Bytes to free from the receive staging buffer when observed (R343). -/
  staged : Nat := 0
deriving DecidableEq, Repr

/-- A capsule taken up, with the flow generation and association in force then (R350). -/
structure Accepted where
  cap : Capsule
  gen : Nat
  assoc : List Byte
deriving DecidableEq, Repr

/-- A capsule accepted on a flow ring whose last frame has not been passed to the line (R341). -/
structure InFlight where
  opcode : Nat
  tag : Nat
  /-- It completes by SEND_DONE. -/
  doneReq : Bool
  gen : Nat
  /-- Frames in the transmit buffer or at the framer, and frames sent. -/
  left : Nat
  sent : Nat
  /-- Some of its frames were discarded (R341, R379). -/
  failed : Bool := false
  /-- Instant the first frame's tag crossed the MDI. -/
  stamp : Option Nat
deriving DecidableEq, Repr

/-- The RECV_MULTI capsule that is open on a ring (R346). -/
structure OpenMulti where
  gen : Nat
  stamp : Nat
  byDefault : Bool
  /-- Frames with RXINFO and timestamp, first first. -/
  frames : List (List Byte × Nat × Nat)
  sci : Nat
  /-- Lines reserved for it. -/
  lines : Nat
deriving DecidableEq, Repr

/-- A ring pair: register entry, doorbell page and Keyway's own state (R325 to R346). -/
structure Ring where
  sqAddr : BitVec 64 := 0
  cqAddr : BitVec 64 := 0
  sqLog2 : Nat := 16
  cqLog2 : Nat := 16
  en : Bool := false
  earlyHead : Bool := false
  rxMulti : Bool := false
  downDiscard : Bool := false
  irqHoldoff : Nat := 0
  seqBase : BitVec 32 := 0
  sqTail : BitVec 32 := 0
  cqHead : BitVec 32 := 0
  sqHead : BitVec 32 := 0
  cqTail : BitVec 32 := 0
  cqSeq : BitVec 32 := 0
  halted : Bool := false
  resetting : Bool := false
  fault : Nat := 0
  /-- Lines of the completion ring reserved for completions not yet placed (R340, R355). -/
  reserved : Nat := 0
  /-- Capsules taken up and passed to their row, oldest first. -/
  accepted : List Accepted := []
  inflight : List InFlight := []
  /-- Completions placed and not written, oldest first. -/
  placed : List Completion := []
  /-- Completions written whose header has not been observed, oldest first. -/
  written : List Completion := []
  /-- A RING_FAULT notice is owed (R332). -/
  noticeDue : Bool := false
  multi : Option OpenMulti := none
  lastSignal : Option Nat := none
  signalDue : Bool := false
  /-- Payload bytes that the ring may still have fetched in the round (R341). -/
  deficit : Nat := 0
deriving DecidableEq, Repr

/-- The classification rule of a flow (R349, Table 11-3), a field's bytes as sent. -/
structure FlowRule where
  matchBits : BitVec 4 := 0
  da : List Byte := List.replicate 6 0
  vid : Nat := 0
  ethertype : Nat := 0
  sci : List Byte := List.replicate 8 0
deriving DecidableEq, Repr

/-- FLOW_STATS (R353). -/
structure FlowStats where
  txBytes : Nat := 0
  rxBytes : Nat := 0
  txFrames : Nat := 0
  rxFrames : Nat := 0
  txCapsules : Nat := 0
  rxCapsules : Nat := 0
  rxNospace : Nat := 0
  rxDropRing : Nat := 0
  rxDiscard : Nat := 0
  refused : Nat := 0
  dbBad : Nat := 0
  txDiscard : Nat := 0
  ringFaults : Nat := 0
deriving DecidableEq, Repr

/-- A flow context (R349, R350). `gen` keeps the last generation the number held. -/
structure Flow where
  exist : Bool := false
  rule : FlowRule := {}
  /-- WARD_ASSOC, 32 bytes; all zeros: none. -/
  assoc : List Byte := List.replicate 32 0
  gen : Nat := 0
  stats : FlowStats := {}
  /-- Not set up again since the last PERST# (R301). -/
  heldOver : Bool := false
deriving DecidableEq, Repr

/-- A frame in the transmit buffer (R341). -/
structure TxFrame where
  ring : Nat
  /-- Frame as it leaves for the line, without its FCS (Ward's fields included). -/
  bytes : List Byte
  /-- Bytes of host payload it occupies in the buffer. -/
  size : Nat
  gen : Nat
deriving DecidableEq, Repr

/-- How a frame was classified (R343, R350). -/
structure Class where
  flow : Nat
  gen : Nat
  /-- No rule matched (RXINFO.DEFAULT). -/
  byDefault : Bool
  /-- Early head is in effect on the frame (R345), with the RING_SEQ reserved for it. -/
  early : Option (BitVec 32)
  /-- Found at classification (R343): 1 the ring was not running, 2 no room for the whole capsule, 3 the staging buffer full under early head; 0 none of these. -/
  refuse : Nat := 0
deriving DecidableEq, Repr

/-- A frame from the deframer: its bytes without FCS (none: lost), time of its tag, verdict. -/
structure RxFrame where
  bytes : List (Option Byte)
  stamp : Nat
  good : Bool := true
  cls : Option Class := none
  /-- The flow whose association chose the frame's SC (R380 step 1). -/
  forced : Option Nat := none
  /-- Set once Ward has had the frame (R380): RXINFO.PROTECTED and SCI. -/
  warded : Bool := false
  isProtected : Bool := false
  sci : Nat := 0
deriving DecidableEq, Repr

/-- A frame in the hold buffer of PERST# (R301). -/
structure HeldFrame where
  flow : Nat
  frame : RxFrame
deriving DecidableEq, Repr

/-- KW_COUNTERS (R352). -/
structure KwCounters where
  capsIn : Nat := 0
  capsOut : Nat := 0
  refOpcode : Nat := 0
  refLen : Nat := 0
  refSpan : Nat := 0
  refFlow : Nat := 0
  refOther : Nat := 0
  ringFaults : Nat := 0
  windowFaults : Nat := 0
  dbBad : Nat := 0
  rxNospace : Nat := 0
  rxDropRing : Nat := 0
  rxOverflow : Nat := 0
  rxDiscard : Nat := 0
  doneLost : Nat := 0
  capPeak : Nat := 0
deriving DecidableEq, Repr

/-- KW_STATUS and Keyway's configuration state (R351, R313). -/
structure KwStatus where
  width : Nat := 0
  speed : Nat := 0
  linkUp : Bool := false
  cacheEn : Bool := false
  ideIo : Bool := false
  ideCache : Bool := false
  l1En : Bool := false
  l1Entries : Nat := 0
  retrains : Nat := 0
  d3hot : Bool := false
  pmeEn : Bool := false
  /-- WAKE# is asserted. -/
  wake : Bool := false
deriving DecidableEq, Repr

/-- Keyway (10_keyway). -/
structure Keyway where
  status : KwStatus := {}
  cnt : KwCounters := {}
  rings : Sparse Ring := []
  txBuf : List TxFrame := []
  /-- Frames from the deframer waiting for Ward (R380), and those ready for classification (R343). -/
  arrived : List RxFrame := []
  ready : List RxFrame := []
  /-- Bytes in the 512 KiB receive staging buffer (R343). -/
  stagingUsed : Nat := 0
  hold : List HeldFrame := []
  /-- Device times of the capsules of the last 1 µs (CAP_PEAK). -/
  capTimes : List Nat := []
  /-- The flow ring whose turn it is in the round of R341. -/
  turn : Option Nat := none
deriving DecidableEq, Repr

/-! ### Cyoner and Benash -/

/-- Where the completion of a request goes: its ring has stopped (R329), or PERST# came (R301). -/
inductive Fate
  | ring | stopped | perst
deriving DecidableEq, Repr

/-- A request that Benash has taken (R356). -/
structure Request where
  cap : Capsule
  fate : Fate := .ring
  /-- Lines reserved for it: RSPAN + 1, or 2 (R355). -/
  room : Nat
  /-- It has completed DEFERRED once. -/
  deferred : Bool := false
  /-- Device time at which it was started. -/
  since : Nat := 0
deriving DecidableEq, Repr

/-- Cyoner's requests (R355 to R357, R363). -/
structure Cyoner where
  /-- Taken, not started, in ring order. -/
  inbox : List Request := []
  /-- Started and not finished. -/
  running : List Request := []
  /-- Held under DEFERRED until a test ends. -/
  held : List Request := []
  /-- Ended while Benash restarts: their completions are written after it (R366). -/
  ended : List (Request × Status × List (Nat × Nat)) := []
deriving DecidableEq, Repr

/-- An aging monitor (R418, R441). -/
structure Aging where
  reading : Nat := 0
  element : Nat := 0
  alarm : Bool := false
  drift30 : Nat := 0
  /-- READING at the measurements of the last 30 powered days, newest first. -/
  past : List Nat := []
deriving DecidableEq, Repr

/-- A condition of Table 13-3 in force. -/
structure Conditions where
  hot : Bool := false
  cold : Bool := false
  critical : Bool := false
  /-- SUPPLY sensors outside ±3 % (or SUPPLY8 below 1.60 V): in force, and seen once. -/
  warn : BitVec 10 := 0
  warnOnce : BitVec 10 := 0
  /-- SUPPLY sensors outside ±5 % (or SUPPLY8 below 1.45 V). -/
  crit : BitVec 10 := 0
  critOnce : BitVec 10 := 0
deriving DecidableEq, Repr

/-- Benash (13_benash). -/
structure Benash where
  /-- The processor runs (FP_READY.BENASH before R428). -/
  up : Bool := false
  /-- A restart is in progress, and when it began. -/
  restartSince : Option Nat := none
  recovery : Bool := false
  runB : Bool := false
  trial : Bool := false
  trialSince : Nat := 0
  fallback : Bool := false
  /-- FW_ACTIVATE's restart is in progress. -/
  activating : Bool := false
  sdUsed : Bool := false
  startFull : Bool := false
  restarts : Nat := 0
  watchdogs : Nat := 0
  /-- Times of the restarts of the last 10 minutes (R303). -/
  restartTimes : List Nat := []
  nvmCe : Nat := 0
  sramCe : Nat := 0
  tempMax : Int := -32768
  /-- MGMT_CTL. -/
  thermalAct : Bool := true
  agingThr : Nat := 60
  logSev : Nat := 1
  logRate : Nat := 2
  temps : List Int := List.replicate 6 0
  supplies : List Nat := List.replicate 10 0
  cond : Conditions := {}
  aging : List Aging := List.replicate 12 {}
  /-- Rate limiter (R422): thousandths of a token and the time of the last refill, ms. -/
  tokens : Nat := 1024000
  tokenTime : Nat := 0
  suppressed : Nat := 0
  suppressedNew : Nat := 0
  lost : Nat := 0
  lostNew : Nat := 0
  critical : Nat := 0
  /-- Entries raised while Benash restarts (at most 64), oldest first. -/
  queue : List LogEntry := []
  /-- FW_STATUS. -/
  staged : Nat := 0
  commitReject : Nat := 0
  /-- PROGVER and layout loaded in each engine (R430). -/
  progver : Nat := 0x01000000
  progverOld : Nat := 0x01000000
  progLayout : Nat := 1
  swapLeft : Nat := 0
  swapDeferred : Bool := false
  /-- NVM slots and images: bytes staged belong to the inactive slot. SHUTDOWN_PREP has its test running or waiting. -/
  sdPrep : Bool := false
deriving DecidableEq, Repr

/-- A running self-test (R434 to R437). -/
structure BistRun where
  test : Nat
  target : Nat
  planned : Nat
  since : Nat
  /-- The draw that its free values come from (log entry 8). -/
  draw : Nat := 0
deriving DecidableEq, Repr

/-- The BIST controller (R431 to R437, R443). -/
structure Bist where
  run : Option BistRun := none
  runs : Nat := 0
  fails : Nat := 0
  lastTest : Nat := 0
  lastTarget : Nat := 0
  lastResult : Nat := 0
  lastEnd : Nat := 0
  lastDone : Nat := 0
  lastPlanned : Nat := 0
  lastCoverage : Nat := 0
  lastDuration : Nat := 0
  lastSignature : BitVec 64 := 0
  /-- The start-up test is running (R432), and how often an excursion restarted it. -/
  startup : Bool := false
  startupSince : Nat := 0
  startupRestarts : Nat := 0
  /-- What the start-up tests have left usable. -/
  passed : Bool := false
  ldpcFail : Bool := false
  lineFail : BitVec 4 := 0
deriving DecidableEq, Repr

/-- The state page (R367 to R369). -/
structure StatePage where
  seq : BitVec 32 := 0
  skipped : Nat := 0
  /-- A publication is being written: at this device address, with these header bytes 8 to 63. -/
  busy : Bool := false
  addr : Nat := 0
  head : List Byte := []
  /-- The page's bytes 8 to 4,095 at the last snapshot boundary. -/
  snapshot : List Byte := []
deriving DecidableEq, Repr

end Sys2Proof.Machine
end

