-- ==== Sys2Proof/Machine/UnitsCore.lean ====
section
/-! DEFINITION. State of Ward, the SPDM responder, Hasp, the clock unit, the clock gates, the resets and the board's pins (12_ward_and_hasp, 09_clocks_and_resets, 14_balls_and_electrical). A field's default value is its value at reset. -/

namespace Sys2Proof.Machine

/-- An SA slot (R377, R383). -/
structure SaSlot where
  /-- 0 EMPTY, 1 NEXT, 2 CURRENT, 3 OLD (Table 12-5). -/
  state : Nat := 0
  an : Nat := 0
  sak : List Byte := []
  salt : List Byte := []
  ssci : List Byte := []
  /-- Next transmit PN. -/
  nextPn : Nat := 1
  /-- Highest PN verified; 0 for none. -/
  highPn : Nat := 0
deriving DecidableEq, Repr

/-- What Ward keeps of an association beside its slots (R384, R388, R411); the link is number 1,000. -/
structure SaInfo where
  rotateDue : Bool := false
  tenant : Option Nat := none
  advances : Nat := 0
  /-- Highest PN verified on the last slot received. -/
  rxPn : Nat := 0
deriving DecidableEq, Repr

/-- A tenant KEK slot (R387, R388). -/
structure Kek where
  key : Option (List Byte) := none
  installer : Option (BitVec 384) := none
  persist : Bool := false
deriving DecidableEq, Repr

/-- WARD_COUNTERS (R410). -/
structure WardCounters where
  txProtected : Nat := 0
  rxVerified : Nat := 0
  rxIcvFail : Nat := 0
  rxReplay : Nat := 0
  rxNoSa : Nat := 0
  rxUntaggedDrop : Nat := 0
  txNoSaDrop : Nat := 0
  saAdvances : Nat := 0
  keyInstalls : Nat := 0
  keyRefused : Nat := 0
  sessionsOpened : Nat := 0
  mkpduRx : Nat := 0
  mkpduTx : Nat := 0
  mkpduBad : Nat := 0
  zeroizations : Nat := 0
deriving DecidableEq, Repr

/-- The link participant of MKA (R382). -/
structure Mka where
  /-- SCI of the live peer, 8 bytes. -/
  peer : Option (List Byte) := none
  /-- Message number of the next MKPDU. -/
  mn : Nat := 1
deriving DecidableEq, Repr

/-- Ward (12_ward_and_hasp). -/
structure Ward where
  slots : Sparse SaSlot := []
  info : Sparse SaInfo := []
  keks : Sparse Kek := []
  /-- CAK and CKN, and whether they persist. -/
  cak : Option (List Byte × List Byte × Bool) := none
  mka : Mka := {}
  cnt : WardCounters := {}
  /-- WARD_CTL (Table 12-15). -/
  linkEn : Bool := false
  linkSc : Bool := true
  linkConf : Bool := true
  linkValidate : Nat := 2
  mkaEn : Bool := false
  ksPriority : Nat := 16
  linkReplay : Nat := 0
  linkSci : List Byte := List.replicate 8 0
  /-- Power-on self-tests passed since the last reset, latch clear or lifecycle change (R395). -/
  tested : Bool := false
  /-- Error state (R397). -/
  error : Bool := false
  katLast : Nat := 0
  /-- A frame inside Ward is discarded on zeroization; keys of Keyway's IDE streams (R385). -/
  ideKeys : Bool := false
  drbg : Bool := false
  storageKey : Bool := false
deriving DecidableEq, Repr

/-- An SPDM session (R385, R388). -/
structure Session where
  sid : Nat
  /-- FINISH has been accepted. -/
  established : Bool := false
  /-- Mutual authentication: the requester's identity and its chain's root hash. -/
  requester : Option (BitVec 384 × BitVec 384) := none
  /-- Key updates made. -/
  updates : Nat := 0
deriving DecidableEq, Repr

/-- The SPDM responder (R385, R390). -/
structure Spdm where
  /-- GET_VERSION, GET_CAPABILITIES and NEGOTIATE_ALGORITHMS done: 0 to 3. -/
  phase : Nat := 0
  sessions : List Session := []
deriving DecidableEq, Repr

/-- Hasp (R398 to R405, R413). -/
structure Hasp where
  /-- HASP_CFG in force, 32 bits; until its load the default classes (R398). -/
  cfg : BitVec 32 := 0x00023333
  armed : Bool := false
  tripped : BitVec 7 := 0
  meshBroken : Bool := false
  latched : Bool := false
  temp : Int := 0
  tampOut : BitVec 32 := 0
deriving DecidableEq, Repr

/-- Record of a clock monitor (R308). -/
structure ClkMon where
  offset : Int := 0
  vs : Nat := 0
  running : Bool := false
  goodWin : Nat := 0
  worst : Nat := 0
  fails : Nat := 0
deriving DecidableEq, Repr

/-- The clock unit (09_clocks_and_resets). -/
structure Clock where
  /-- CLK_CTL (Table 9-7). -/
  refSel : Nat := 0
  xin0Cfg : Nat := 0
  xin1Cfg : Nat := 0
  rclkEn : Bool := false
  rclkSrc : Bool := false
  rclkSquelch : Bool := false
  rclkFreq : Nat := 1
  revert : Bool := false
  /-- CM0 IFO, CM1 ISO, CM2 XIN0, CM3 XIN1. -/
  mon : Quad ClkMon := Quad.all {}
  /-- IFO-to-ISO ratio in the first window of the present count, in 0.01 ppm of 50 (R288). -/
  ifoFirst : Int := 0
  /-- Judged stable, judged failed: IFO, XIN0, XIN1. -/
  stable : BitVec 3 := 0
  failed : BitVec 3 := 0
  isoFailed : Bool := false
  srcInUse : Nat := 0
  ml0Lock : Bool := false
  holdover : Bool := false
  holdSince : Nat := 0
  /-- FP_READY.CLOCK. -/
  ready : Bool := false
  /-- ML1's frequency word, 0.001 ppm (R293). -/
  ml1 : Int := 0
  switches : Nat := 0
  fails : Nat := 0
  /-- LCLK divisions of the DACs and ADCs (R286); before any mode the division of N100 (DESIGN CHOICE, log entry 5). -/
  dacDiv : Nat := 2
  adcDiv : Nat := 2
deriving DecidableEq, Repr

/-- What RCLK_OUT does (R294): off, both outputs low, or RCLK_FREQ from the local root or from ML1 at its frequency word. -/
inductive RclkOut
  | off
  | low
  | root (freq : Nat)
  | recovered (freq : Nat) (word : Int)
deriving DecidableEq, Repr

/-- The clock gates (R295 to R297, R309, R310): gate numbers of R310. -/
structure Gates where
  closed : BitVec 106 := 0
  /-- Close requests raised and not answered. -/
  asked : BitVec 106 := 0
  /-- GATE_CTL: DIAG, LEGACY, BIST. -/
  ctl : BitVec 3 := 0
  /-- A GATE_CTL write waits for its gates: bits it closes, and whether one was refused. -/
  hostAsked : BitVec 3 := 0
  hostRefused : Bool := false
  closes : Nat := 0
  wakes : Nat := 0
  refusals : Nat := 0
  lastRefused : Nat := 0xFF
deriving DecidableEq, Repr

/-- The power state (R39, R40). -/
inductive PowerState
  | active | quietLatch | dormant
deriving DecidableEq, Repr

/-- Resets, rails, straps, pins and RESET_LAST (R298 to R311, R448 to R458). -/
structure Power where
  /-- Power-on reset is asserted; FP_CAPS and HASP not yet fixed. -/
  porHeld : Bool := true
  /-- RESET# low, or a warm reset whose units have not been released. -/
  warmHeld : Bool := false
  /-- A core reset is in progress, and when it began (R302). -/
  coreSince : Option Nat := none
  /-- PERST# is asserted, and since when (R301). -/
  perst : Bool := true
  perstSince : Nat := 0
  /-- The CXL side has come up since the last PERST# and the core's Keyway can take capsules. -/
  kwUp : Bool := false
  /-- Between a core reset and FP_READY.KEYWAY (R302). -/
  afterCore : Bool := false
  /-- Rails held below their UV threshold: VDD_LINE, VDDA_LINE, VDD_CXL, VDDH_CXL, VDD_IO. -/
  railLow : BitVec 5 := 0
  /-- A CXL rail has been low, and PERST# has not been released since (R457). -/
  cxlHeld : Bool := false
  /-- Straps as read at reset; LC_HOLD as the board ties it (R448). -/
  bootSel : Bool := false
  smbAddr : Nat := 0
  lcHold : Bool := false
  /-- TRST# as the board drives it; none: unconnected (R450). -/
  trst : Option Bool := none
  state : PowerState := .active
  /-- Exit from Dormant has begun (R43); the lanes are still in deep low power. -/
  dormExit : Bool := false
  /-- ADMIN, not AUTO, allowed the present Dormant entry (R42, R43). -/
  dormByAdmin : Bool := false
  /-- DORMANT_CTL (Table 1-10). -/
  dormAdmin : Bool := false
  dormAuto : Bool := false
  dormIdle : Nat := 10
  /-- Discharge counts (R38). -/
  discharge : Quad Nat := Quad.all 0
  /-- LED1 (R449): on; in the 30 ms off that follow; frames seen since it last changed. -/
  led1 : Bool := false
  led1Off : Bool := false
  traffic : Bool := false
  /-- RESET_LAST (Table 9-12). -/
  cause : Nat := 0
  benashRestarts : Nat := 0
  persts : Nat := 0
  perstMs : Nat := 0
  txDiscard : Nat := 0
  rxDropFrames : Nat := 0
  rxHeldFrames : Nat := 0
  ctrlLost : Nat := 0
  heldMaxKib : Nat := 0
  /-- RESET_LAST is still to be announced after PERST# (R301). -/
  perstNote : Bool := false
deriving DecidableEq, Repr

end Sys2Proof.Machine
end

