-- ==== Sys2Proof/Machine/UnitsLine.lean ====
section
/-! DEFINITION. State of the die link, the link, the line code, the receive chain, the engines, Quiet-Latch, calibration, Knuckle, diagnostics and monitoring (01 to 08). A field's default value is its value at reset. -/

namespace Sys2Proof.Machine

/-! ### Die link (01) -/

/-- A physical lane (Table 1-8): LOGICAL is 0 to 23, 0xFF spare, 0xFE retired. -/
structure Lane where
  logical : Nat := 0xFE
  eye : Nat := 0
  slips : Nat := 0
  crcFail : Nat := 0
  /-- Sampling phase: offset from the factory phase in 1/64 UI, and its target (R234, R247). -/
  phase : Int := 0
  phaseTo : Int := 0
  /-- A target of an import or a reversion, held until the link is in data or down (R247). -/
  phaseHeld : Option Int := none
  /-- Frame numbers of the failures of the last 8,192 frames (R31). -/
  recent : List Nat := []
deriving DecidableEq, Repr

/-- A substitution in progress (R31). -/
structure Subst where
  logical : Nat
  /-- Failing lane and duplicating spare. -/
  old : Nat
  spare : Nat
  /-- Cause, numbered from 1 in the order of the list before R31: failed frames, word lock, eye opening, aging (DESIGN CHOICE, log entry 68). -/
  cause : Nat := 1
  /-- The switch frame announced. -/
  announced : Option Nat := none
deriving DecidableEq, Repr

/-- Control words that were discarded with a failed lane frame: their frame, logical lane and number (R28). -/
structure Resend where
  frame : Nat
  lane : Nat
  words : Nat
deriving DecidableEq, Repr

/-- Lanes of one direction at reset: no search has run. Table 1-8 gives PHYS only; LOGICAL before the first search is a
DESIGN CHOICE: lane n carries logical lane n, and 24 and 25 are spares, which gives DL_STATUS its reset value (log entry 15). -/
def resetLanes : List Lane := (List.range 26).map (fun p => { logical := if p < 24 then p else 0xFF })

/-- One direction of the die link. -/
structure DlDir where
  lanes : List Lane := resetLanes
  epoch : Nat := 0
  /-- The frame from which this epoch is in force (R31). -/
  epochFrom : Nat := 0
  mapped : Bool := false
  reduced : Bool := false
  subst : Option Subst := none
  /-- Lanes whose cause waits for the running substitution, with the cause (R32). -/
  waiting : List (Nat × Nat) := []
  /-- Control words that the sender sends again, oldest first (R28). -/
  resend : List Resend := []
deriving DecidableEq, Repr

/-- The die link (R24 to R36). -/
structure DieLink where
  outb : DlDir := {}
  inb : DlDir := {}
  /-- FP_READY.DIELINK without the hold of a full test. -/
  ready : Bool := false
  searching : Option Nat := none
  deep : Bool := false
  searches : Nat := 0
  substs : Nat := 0
  /-- Lane frames so far, and the count at which the sample cycle restarted (R286). -/
  frameNo : Nat := 0
  cycleAt : Nat := 0
  /-- The timeline period at whose start the sample cycle restarted. -/
  cyclePeriod : Nat := 0
  /-- Images of the line-die objects 0x0141, 0x0142 and 0x0150 as they were last read (R472). -/
  lastRead : List (Nat × List (Nat × Nat)) := []
deriving DecidableEq, Repr

/-! ### Link (05) -/

/-- LINK_CTL (Table 5-11). -/
structure LinkCtl where
  rungEn : Nat := 0xFF
  cap : Nat := 0
  pinEn : Bool := false
  pin : Nat := 0
  msMode : Nat := 0
  frEn : Bool := true
  eeeEn : Bool := true
  pause : Bool := false
  asmDir : Bool := false
  trainMargin : Nat := 10
  reclimb : Nat := 24
deriving DecidableEq, Repr

/-- PARTNER (Table 5-13). -/
structure Partner where
  basePage : Nat := 0
  rungs : Nat := 0
  eee : Bool := false
  fr : Bool := false
  family : Nat := 0
  u2 : Nat := 0
  u3 : Nat := 0
  peerId : Nat := 0
deriving DecidableEq, Repr

/-- TRAIN_LAST (Table 5-14). -/
structure TrainLast where
  phase : Nat := 0
  cause : Nat := 0
  rung : Nat := 0
  counted : Bool := false
  elapsed : Nat := 0
  uptime : Nat := 0
deriving DecidableEq, Repr

/-- A negotiation in progress: what the partner has sent (R157 to R161). -/
structure Negotiation where
  since : Nat := 0
  /-- NEGOTIATION_START has come: fast link pulses are sent. -/
  begun : Bool := false
  seed : BitVec 11 := 0
  /-- Rungs advertised, one bit per rung. -/
  rungs : Nat := 0
  /-- Own U2 as sent; none: no native message. T40 compatibility message sent with U2[3] = 1 (R159, R188). -/
  sent : Option Nat := none
  sentLegacy : Bool := false
  burst : Bool := false
  /-- The base page, once received, and the standard abilities that the pages give, one bit per rung. -/
  basePage : Option Nat := none
  stdRungs : Nat := 0
  stdEee : Nat := 0
  stdFr : Nat := 0
  native : Option (Nat × Nat × Nat) := none
  t40 : Option (Nat × Nat × Nat) := none
  other : Option (Nat × Nat × Nat) := none
deriving DecidableEq, Repr

/-- A native training in progress (R163 to R171). -/
structure Train where
  tseq : Nat := 0
  /-- Periods since T1 began. -/
  pos : Nat := 0
  cd : Nat := 0
  ready : Bool := false
  /-- The master's present turn began with both READY conditions met (R167). -/
  turnReady : Bool := false
  /-- Expected TSEQ of the partner, run of its READY words, a word of the next phase seen, run of slave's PHASE 2 words. -/
  expect : Option Nat := none
  farReady : Nat := 0
  farNext : Bool := false
  farTwo : Nat := 0
  /-- Consecutive periods with every MARGIN at TRAIN_MARGIN. -/
  good : Nat := 0
  noise : Bool := false
  silent : Bool := false
  switchAcked : Bool := false
  farSwitch : Bool := false
  idAcked : Bool := false
  idSeen : Bool := false
  /-- Durations of T0 to T4 so far, 0.1 ms. -/
  times : List Nat := List.replicate 5 0
deriving DecidableEq, Repr

/-- A fast retrain (R180 to R183). -/
structure Frt where
  /-- STATUS.FR is set, and since when. -/
  want : Bool := false
  since : Nat := 0
  /-- The retrain has started, at this time. -/
  started : Option Nat := none
deriving DecidableEq, Repr

/-- LINK_COUNTERS (Table 5-15). -/
structure LinkCounters where
  negStarts : Nat := 0
  linkUps : Nat := 0
  linkDowns : Nat := 0
  trainFails : Nat := 0
  trainAborts : Nat := 0
  stepDowns : Nat := 0
  fastRetrains : Nat := 0
  frFails : Nat := 0
deriving DecidableEq, Repr

/-- PAIR_MAP (R168). -/
structure PairMap where
  far : Quad Pair := ⟨0, 1, 2, 3⟩
  inv : Quad Bool := Quad.all false
  delay : Quad Nat := Quad.all 0
deriving DecidableEq, Repr

/-- The link (05). -/
structure Link where
  ctl : LinkCtl := {}
  /-- LINK_CTL as the present negotiation took it (R185). -/
  used : LinkCtl := {}
  /-- LINK_STATUS.STATE. -/
  state : Nat := 1
  mode : Option Rung := none
  role : Bool := false
  noPartner : Bool := false
  confirmed : Bool := false
  eee : Bool := false
  legacyIdle : Bool := false
  qlOk : Bool := false
  frOk : Bool := false
  knOk : Bool := false
  ladderPos : Nat := 0
  failCount : Nat := 0
  /-- Rung that FAIL_COUNT counts. -/
  countRung : Nat := 0
  partnerKind : Nat := 0
  /-- Time of entry into the present state, and into data. -/
  since : Nat := 0
  upSince : Nat := 0
  partner : Partner := {}
  trainLast : TrainLast := {}
  /-- Last cause recorded of MS_FAULT and NO_COMMON (R173 step 5). -/
  lastNegCause : Nat := 0
  times : List Nat := List.replicate 5 0
  frtTime : Nat := 0
  cnt : LinkCounters := {}
  map : PairMap := {}
  neg : Negotiation := {}
  train : Train := {}
  frt : Frt := {}
  /-- STATUS.RA set at this end. -/
  ra : Bool := false
  /-- Base page and native fields of the partner of the last link, and its PEER_ID (R179). -/
  lastPartner : Option (Nat × Nat × Nat × Nat) := none
  lastPeerId : Option Nat := none
  /-- A ladder reset waits for the next negotiation (R179). -/
  resetDue : Bool := false
  lastStep : Option Nat := none
  /-- Pairs that have energy (R172), and when any pair last had it. -/
  energy : BitVec 4 := 0
  lastEnergy : Nat := 0
deriving DecidableEq, Repr

/-! ### Line code (02) -/

/-- Precoder sets and memories of one pair's transmitter (R56, R57, R79). -/
structure Precoder where
  activeOn : Bool := false
  actSet : Nat := 0
  /-- h_1 to h_48 in 1/2048; empty: all 0. -/
  taps : List Int := []
  stgSet : Nat := 0
  /-- FIRST values received of the staged set. -/
  stgSeen : BitVec 16 := 0
  stgTaps : List Int := []
  /-- Past precoder outputs, newest first, in 1/256; and past FIR inputs. -/
  mem : List Int := []
  fir : List Int := []
deriving DecidableEq, Repr

/-- Shaping settings (R62). -/
structure Shape where
  mask100 : Nat := 0
  mask50 : Nat := 2
  firEn : BitVec 4 := 0
  mainTap : Nat := 4
  backoff : Nat := 0
  fir : Quad (List Int) := Quad.all (List.replicate 4 0 ++ [16384] ++ List.replicate 27 0)
  count : Nat := 2
  freq : List Nat := [1, 12000] ++ List.replicate 14 0
  level : List Int := [-900, -900] ++ List.replicate 14 0
deriving DecidableEq, Repr

/-- An InfoField message of this end that awaits its ACK (R78). -/
structure IfOut where
  /-- The 63 bits. -/
  msg : Nat
  /-- Times its last slice has been sent, and periods since. -/
  sends : Nat := 0
  waited : Nat := 0
  /-- To be sent at the next start of a message. -/
  due : Bool := true
deriving DecidableEq, Repr

/-- LC_COUNTERS (Table 2-16). -/
structure LcCounters where
  hdrFail : Nat := 0
  seqMismatch : Nat := 0
  tagFail : Nat := 0
  resync : Nat := 0
  framesOk : Nat := 0
  framesErrored : Nat := 0
  discLost : Nat := 0
  discFcs : Nat := 0
  discChain : Nat := 0
  ifRx : Nat := 0
  ifDrop : Nat := 0
  ifRetry : Nat := 0
  ifFail : Nat := 0
  dacClip : Nat := 0
deriving DecidableEq, Repr

/-- A STATUS field as sent: the value wanted, the value sent, and periods sent with it (R67). -/
structure FieldTx where
  want : Nat := 0
  now : Nat := 0
  age : Nat := 8
deriving DecidableEq, Repr

/-- A STATUS field as received: the value acted on, the newest value, and its run of valid headers (R67). -/
structure FieldRx where
  val : Nat := 0
  cand : Nat := 0
  count : Nat := 0
deriving DecidableEq, Repr

/-- The item that the deframer is in, its tag read (R73). -/
structure RxItem where
  isFrame : Bool
  /-- Neither frame nor OAM: an idle run. -/
  isIdle : Bool
  /-- LENGTH. -/
  len : Nat
  /-- Bytes of the item so far (none: lost). -/
  bytes : List (Option Byte)
  /-- Pad bytes still to come, and whether a pad byte was lost. -/
  pad : Nat
  padLost : Bool := false
  stamp : Nat
  cls : Option Class := none
deriving DecidableEq, Repr

/-- A frame or OAM item at the framer: bytes of `stream` up to its end, and what it is (R69, R182). -/
structure Leaving where
  stop : Nat
  frame : Option TxFrame
  oam : List Byte := []
deriving DecidableEq, Repr

/-- A switch accepted: its AT_SEQ, and the label and taps that each named pair takes there (R79). -/
structure Switch where
  at' : Nat
  sets : Quad (Option (Nat × List Int))
deriving DecidableEq, Repr

/-- What the line code keeps while a link is up; it starts afresh with each training. -/
structure LcRun where
  txSeq : Nat := 0
  /-- The next receive period is a data period (R167); its sequence. -/
  rxOn : Bool := false
  rxSeq : Nat := 0
  stTx : List FieldTx := List.replicate 7 {}
  stRx : List FieldRx := List.replicate 7 {}
  /-- Stream bytes of items begun and not yet sent. -/
  stream : List Byte := []
  /-- Items in `stream` that have not left. -/
  leaving : List Leaving := []
  /-- OAM items waiting for the framer. -/
  oam : List (List Byte) := []
  oamSeq : Nat := 0
  /-- Messages of this end waiting, the one unacknowledged, ACKs due, the one being sliced with slices sent. -/
  ifQueue : List Nat := []
  ifOut : Option IfOut := none
  ifAcks : List Nat := []
  ifNow : Option Nat := none
  mseq : Nat := 0
  /-- Slices of the message in progress, first first (none: lost); none: no message begun in this header form. -/
  ifIn : Option (List (Option Nat)) := none
  /-- TYPE, MSEQ and NAK of the acknowledged message accepted last (R78). -/
  ifLast : Option (Nat × Nat × Bool) := none
  /-- Accepted messages that their rows have not acted on, with the sequence of the last slice, oldest first. -/
  ifMsgs : List (Nat × Nat) := []
  /-- Switches accepted whose AT_SEQ has not come, oldest first (R79). -/
  pendSwitch : List Switch := []
  /-- Deframer: bytes of a tag so far, the item in progress, whether it searches. -/
  tag : List (Option Byte) := []
  tagStamp : Nat := 0
  search : Bool := false
  /-- Run of periods without a valid header, and time of the last valid one. -/
  badRun : Nat := 0
  lastValid : Nat := 0
  /-- Transmit segments late in this timeline period (R130). -/
  thpLate : Quad (BitVec 16) := Quad.all 0
  firLate : Quad (BitVec 16) := Quad.all 0
  /-- DAC codes of the last period sent. -/
  dac : Quad (List Int) := Quad.all []
deriving DecidableEq, Repr

/-- The line code (02). -/
structure LineCode where
  stored : Shape := {}
  force : Shape := {}
  effBackoff : Quad Nat := Quad.all 0
  shapePend : Bool := false
  /-- The native mode last trained (R60). -/
  shapeRung : Option Rung := none
  pre : Quad Precoder := Quad.all {}
  lastAt : Nat := 0
  cnt : LcCounters := {}
  run : LcRun := {}
  /-- OAM items delivered, waiting for their row (R276). -/
  oamIn : List (List Byte) := []
  /-- The item in progress at the deframer. -/
  item : Option RxItem := none
deriving DecidableEq, Repr

/-! ### Receive chain (03) -/

/-- RX_CTL (Table 3-5). -/
structure RxCtl where
  iterCap : Nat := 10
  adaptEn : BitVec 4 := 0xF
  ffeMain : Nat := 8
  dgEn : Bool := true
  dgAction : Bool := false
  dgMse : Nat := 30
  dgNorm : Nat := 16
deriving DecidableEq, Repr

/-- Codeword and drop counters of one pair (Tables 3-8, 3-9): drops are GAIN, FFE, ECN, REF, TENT, FEXT, DEMAP, ADAPT. -/
structure RxCounters where
  total : Nat := 0
  clean : Nat := 0
  corr : Nat := 0
  noconv : Nat := 0
  erased : Nat := 0
  erasedSeg : Nat := 0
  iterSum : Nat := 0
  dgainLimit : Nat := 0
  drops : List Nat := List.replicate 8 0
deriving DecidableEq, Repr

/-- The adaptive coefficients of one pair (R91, R92, R94): w_k in 1/8192; complex bins of the two echo partitions and of the NEXT partition from each
other pair, in the transform's unit; g_k from each other pair in 1/32768. An empty list stands for zeros throughout. -/
structure Coefs where
  ffe : List Int := []
  echo0 : List (Int × Int) := []
  echo1 : List (Int × Int) := []
  next : Quad (List (Int × Int)) := Quad.all []
  fext : Quad (List Int) := Quad.all []
deriving DecidableEq, Repr

/-- The update drawn from one period (R106), as changes to add; none: not computed, or skipped. -/
structure CoefUpd where
  ffe : Option (List Int) := none
  echo : Option (List (Int × Int) × List (Int × Int)) := none
  next : Option (Quad (List (Int × Int))) := none
  fext : Option (Quad (List Int)) := none
  /-- Change of the digital gain in 0.01 dB, and the period's mean squared error for the MSE (Table 4-3, ADAPT_GAIN). -/
  gain : Option Rat := none
  err : Option Rat := none
deriving DecidableEq, Repr

/-- The receive state of one pair. -/
structure RxPair where
  /-- MSE in squared amplitude units (R113), its snapshot, whether it was ever set, and its values of the last 4,096 periods, newest first (R110). -/
  mse : Rat := 0
  snap : Rat := 0
  mseSet : Bool := false
  mseLast : List Rat := []
  /-- STRENGTH and PEAK_STRENGTH in 0.25 dBm; none: never latched. -/
  strength : Option Int := none
  peak : Option Int := none
  pga : Nat := 12
  /-- The fast gain loop's state, in 1/40 dB (R84). -/
  gainAcc : Int := 0
  /-- Least and greatest setting since the loop began (Table 5-6, T1). -/
  pgaMin : Nat := 12
  pgaMax : Nat := 12
  /-- Slow digital gain in 0.01 dB, with its fraction (R86). -/
  gain : Rat := 0
  /-- Interpolator position in 1/256 UI, with the loop's fraction (R90). -/
  phase : Rat := 0
  phaseLag : Int := 0
  /-- Run of PHASE_LAG samples beyond 0.125 UI. -/
  lagRun : Nat := 0
  stale : Bool := true
  ffeMain : Nat := 8
  /-- Segments erased (R102): of the period after the next, of the next period, of the one in its processing window, in its decode window, and just released. -/
  eraseAfter : BitVec 16 := 0
  eraseNext : BitVec 16 := 0
  erase : BitVec 16 := 0
  eraseD : BitVec 16 := 0
  eraseR : BitVec 16 := 0
  /-- The same of the period released before (R115). -/
  eraseO : BitVec 16 := 0
  /-- Gain-and-interpolation segments erased: of the next period, of the one in its processing window, and of the one before (R101, R102). -/
  gainNext : BitVec 16 := 0
  gainE : BitVec 16 := 0
  gainD : BitVec 16 := 0
  /-- Segments that only a late FEXT or demapper block erased, whose tentative decisions stand: of the three periods in flight (R94). -/
  lateE : BitVec 16 := 0
  lateD : BitVec 16 := 0
  lateR : BitVec 16 := 0
  /-- A reference transform of this pair was late: its ECN block of the period after the next is late too (R105). -/
  refLate : Bool := false
  /-- Samples that arrived with a die-link erasure mark: period and symbol (R104, R229). -/
  marks : List (Nat × Nat) := []
  /-- Transmit periods whose codes of this pair no echo or NEXT update may use (R109, R230). -/
  badRef : List Nat := []
  /-- Tentative decisions of the last 255 symbols, oldest first (R94). -/
  tent : List Int := []
  /-- Coefficients in force, those of the snapshot (R110), and the updates drawn from the last periods, newest first (R106). -/
  coef : Coefs := {}
  snapCoef : Coefs := {}
  upd : List CoefUpd := []
  /-- Partition that takes the gradient constraint next: 0 and 1 echo, 2 to 4 NEXT (R106). -/
  turn : Nat := 0
  cnt : RxCounters := {}
  /-- MSE_DB and MARGIN at link down are held (R114). -/
  heldMode : Rung := 0
deriving DecidableEq, Repr

/-- What one receive period brought: the number of the transmit period that ended with it, the ADC samples of each pair, ITER_CAP when its decode
window opened, and in training the interval of Table 5-7 with the periods of the phase before it (R83, R93, R117, R170). Intervals: 0 none, 1 T1 own turn,
2 T1 partner turn, 3 T2, 4 T3, 5 T4, 6 fast retrain. -/
structure RxPeriod where
  no : Nat
  adc : Quad (List Int)
  cap : Nat := 10
  kind : Nat := 0
  pos : Nat := 0
deriving DecidableEq, Repr

/-- The receive chain (03). -/
structure Receive where
  ctl : RxCtl := {}
  pair : Quad RxPair := Quad.all {}
  /-- The last receive periods and the DAC codes of the last transmit periods with their numbers, newest first. -/
  adc : List RxPeriod := []
  dacs : List (Nat × Quad (List Int)) := []
  /-- Symbols from the transmit boundary to the receive boundary, set by training (R83). -/
  offset : Nat := 0
  /-- Codewords of the standard mode so far, and whether each of the last was flagged, newest first (R115). -/
  wordNo : Nat := 0
  flagged : List Bool := []
  freqOfs : Int := 0
  afcRun : Bool := false
  gainRun : Bool := false
  /-- Samples of the period under way that the fast gain loop has taken; the symbol at which the last burst ended (R84, R88). -/
  gainPos : Nat := 0
  burstEnd : Nat := 0
  freqClamp : Nat := 0
  /-- The AFC offset and PGA settings before the reception in progress (R85, R88). -/
  heldFreq : Int := 0
  heldPga : Quad Nat := Quad.all 12
  heldPeak : Quad (Option Int) := Quad.all none
  /-- DRIFT_STATUS. -/
  tripPair : BitVec 4 := 0
  tripCause : Nat := 0
  pending : Bool := false
  tripBlock : Nat := 0
  trips : Nat := 0
  worstRise : Int := 0
  worstNorm : Nat := 0
  /-- Data periods since the last evaluation, and a refresh window's last content update that has not been evaluated (R111, R203). -/
  dgCount : Nat := 0
  dgRefresh : Bool := false
deriving DecidableEq, Repr

/-! ### Engines and the coefficient store (04) -/

/-- One engine (R152). -/
structure Engine where
  retired : Bool := false
  gateRefused : Bool := false
  failing : Bool := false
  /-- Cause for which it is failing; the next profile is built without it (R149). -/
  cause : Nat := 0
  dropped : Bool := false
  loading : Bool := false
  overrun : Nat := 0
  drops : Nat := 0
  overholds : Nat := 0
  bankViol : Nat := 0
  memCe : Nat := 0
  /-- Cycles used in each of the last 1,024 periods, newest first; store waits of those periods: period and cycles. -/
  busy : List Nat := []
  waits : List (Nat × Nat) := []
  /-- Loaded with the new programs while a swap is under way (R430). -/
  newProg : Bool := false
  /-- Period counts of overholds and violations of the last 1,024 periods (R146). -/
  ovhAt : List Nat := []
  violAt : List Nat := []
deriving DecidableEq, Repr

/-- A request at the store (R140). -/
structure StoreReq where
  who : Nat
  slot : Nat
  banks : BitVec 8
  lines : Nat
  /-- First line, whether it writes, and segments that the slot had completed when it asked. -/
  line : Nat := 0
  write : Bool := false
  done : Nat := 0
  base : Nat
  /-- Cycles waited so far. -/
  wait : Nat := 0
deriving DecidableEq, Repr

/-- A grant in force: lines still to move, cycles held. -/
structure Grant where
  who : Nat
  slot : Nat
  lines : Nat
  /-- The line that moves in this cycle, whether it is written, and segments complete at the request. -/
  line : Nat := 0
  write : Bool := false
  done : Nat := 0
  held : Nat := 0
deriving DecidableEq, Repr

/-- A store bank and its arbiter (R140 to R143, Table 4-15). -/
structure StoreBank where
  pointer : Nat := 0
  grant : Option Grant := none
  dead : Bool := false
  reserved : Option Nat := none
  /-- How far the current priority of waiting requesters lies above their base. -/
  aged : Sparse Nat := []
  grants : Nat := 0
  duals : Nat := 0
  reservedCyc : Nat := 0
  deadCyc : Nat := 0
  waits : List (Nat × Nat) := []
  overholds : Nat := 0
  ce : Nat := 0
  ue : Nat := 0
  /-- Granted cycles in the present period, and in each of the last 1,024, newest first. -/
  granted : Nat := 0
  occ : List Nat := []
deriving DecidableEq, Repr

/-- An open staging (R133, R134). -/
structure Staging where
  gen : Nat
  host : Bool
  /-- 1 open, 2 validating, 3 armed. -/
  state : Nat := 1
  /-- TAG of the SLOT_COMMIT that waits for it. -/
  tag : Option (BitVec 16) := none
  /-- Profile that the switch brings in; none: the profile stays. -/
  profile : Option Profile := none
deriving DecidableEq, Repr

/-- A repair in progress (R147). -/
structure Repair where
  failed : Nat
  spare : Nat
  cause : Nat
  committed : Bool := false
  gen : Nat := 0
deriving DecidableEq, Repr

/-- The engines (04). -/
structure Engines where
  autoRepair : Bool := true
  agingRepair : Bool := true
  ovhLimit : Nat := 4
  eng : List Engine := List.replicate 96 {}
  /-- Slot entries of the two banks, key 16e + i. -/
  bankA : Sparse (BitVec 64) := []
  bankB : Sparse (BitVec 64) := []
  useB : Bool := false
  staging : Option Staging := none
  /-- What waits for the armed switch: Benash's next profile, and a repair's move of slots from one engine to another (R136). -/
  laterProfile : Option Profile := none
  laterMove : Option (Nat × Nat) := none
  activeGen : Nat := 1
  /-- Highest generation issued. -/
  lastGen : Nat := 1
  switchPeriod : Nat := 0
  profile : Profile := .noLink
  lastReject : Nat := 0
  lastRejectEng : Nat := 0
  /-- Period count, and the engine cycle within the period that comes next. -/
  period : Nat := 0
  cycle : Nat := 0
  repair : Option Repair := none
  repairQueue : List (Nat × Nat) := []
  ovhReq : Nat := 0
  ovhBank : Nat := 0
  ovhCycle : Nat := 0
  ovhPeriod : Nat := 0
  repFailed : Nat := 0
  repSpare : Nat := 0
  repCause : Nat := 0
  repGen : Nat := 0
  txThp : Quad Nat := Quad.all 0
  txFir : Quad Nat := Quad.all 0
  store : List StoreBank := List.replicate 8 {}
  waiting : List StoreReq := []
  /-- Store lines with an uncorrectable error, bank and line (R145). -/
  marked : List (Nat × Nat) := []
deriving DecidableEq, Repr

/-! ### Quiet-Latch (06) -/

/-- QL_CTL (Table 6-7) and LEGACY_CTL (Table 6-11). -/
structure QlCtl where
  en : Bool := true
  captureEn : Bool := true
  detThr : Nat := 64
  detPairs : Nat := 2
  captureMargin : Nat := 24
  idleTime : Nat := 20
  onset : Int := -240
  legacyEn : Bool := true
  legacyThr : Nat := 72
deriving DecidableEq, Repr

/-- QL_COUNTERS and LEGACY_COUNTERS. -/
structure QlCounters where
  entries : Nat := 0
  entryAborts : Nat := 0
  wakesTx : Nat := 0
  wakesRx : Nat := 0
  falseWakes : Nat := 0
  captures : Nat := 0
  syncRejects : Nat := 0
  peaksIgnored : Nat := 0
  refreshTx : Nat := 0
  refreshRx : Nat := 0
  refreshMiss : Nat := 0
  missedWakes : Nat := 0
  listenFails : Nat := 0
  onsets : Nat := 0
  quietNs : Nat := 0
  det3g2 : Nat := 0
  det2g0 : Nat := 0
  det0g8 : Nat := 0
  legacyFalse : Nat := 0
deriving DecidableEq, Repr

/-- QL_LAST_RX (Table 6-10). -/
structure QlLast where
  result : Nat := 0
  pairs : BitVec 4 := 0
  latchToSync : Nat := 0
  peak : Option Int := none
  capture : Option Int := none
  period : Nat := 0
  latchSym : Nat := 0
  rho : Nat := 0
deriving DecidableEq, Repr

/-- A reception in progress (R207 to R213), instants as symbols counted from the first timeline period. -/
structure Reception where
  /-- Onset. -/
  since : Nat := 0
  /-- Latch point; none before it. -/
  latch : Option Nat := none
  /-- Reference peak, when a capture made it (R210). -/
  capture : Option Nat := none
  /-- A second-repetition peak has been seen. -/
  second : Bool := false
  pairs : BitVec 4 := 0
  /-- Reference strength of each pair: PEAK_STRENGTH, or the estimate at the capture peak. -/
  ref : Quad Int := Quad.all 0
  /-- A valid sync word has been accepted; receive periods still before settle period 0, settle periods decoded, and whether one gave
  a valid header. -/
  synced : Bool := false
  lead : Nat := 0
  settle : Nat := 0
  hdr : Bool := false
  /-- Timeline boundaries until the data bank is in force; 0: it is (R210, R213). -/
  bankIn : Option Nat := none
  /-- Its record, which QL_LAST_RX takes at its end (R223). -/
  record : QlLast := {}
deriving DecidableEq, Repr

/-- What Quiet-Latch keeps while a link is up. -/
structure QlRun where
  txState : Nat := 0
  rxState : Nat := 0
  stdLpi : Bool := false
  legacy : Bool := false
  /-- Time from which the idle conditions have held, and the idle time in ns (R195). -/
  idleSince : Option (Nat × Nat) := none
  /-- Own and partner's quiet counts; none: not quiet. -/
  qc : Option Nat := none
  farQc : Option Nat := none
  /-- Receive periods since this end's quiet period 0 without the partner's (R199). -/
  waitFar : Nat := 0
  /-- Wake cause waiting for a start point, and when it arose. -/
  wakeDue : Option (Nat × Nat) := none
  /-- Settle periods still to send, and when the burst began (R216). -/
  settleTx : Nat := 0
  burstAt : Option Nat := none
  /-- The Quiet-Latch profile has been committed, and its bank is the one in force (R217). -/
  laid : Bool := false
  committed : Bool := false
  rx : Option Reception := none
  /-- Expected partner windows without a valid header in a row, header seen in this window, window cancelled (R203, R216). -/
  missRow : Nat := 0
  winHdr : Bool := false
  /-- Listening: periods left, valid headers in a row. -/
  listen : Option (Nat × Nat) := none
  /-- What the receivers held when listening began (R211). -/
  listenHeld : Option (Quad RxPair) := none
  /-- A rate-hunting burst in progress: segments sent (R219). -/
  hunt : Option Nat := none
  /-- QL_CTL as it was when the receive direction fell quiet (R221). -/
  use : QlCtl := {}
  /-- The run of partner QR = 0 headers since own quiet (R199). -/
  farQr0 : Nat := 0
deriving DecidableEq, Repr

/-- Quiet-Latch (06). -/
structure Quiet where
  ctl : QlCtl := {}
  cnt : QlCounters := {}
  wakeCause : Nat := 0
  exitNs : Nat := 0
  waitMax : Nat := 0
  last : QlLast := {}
  run : QlRun := {}
deriving DecidableEq, Repr

/-! ### Calibration and Knuckle (07) -/

/-- A slice: trims in force and their targets; 0 active, 1 spare, 2 retired (Table 7-6). -/
structure Slice where
  offset : Int := 0
  gain : Int := 0
  skew : Int := 0
  offsetTo : Int := 0
  gainTo : Int := 0
  skewTo : Int := 0
  state : Nat := 0
  /-- The state it takes once a swap or an import that concerns it is in force. -/
  stateTo : Nat := 0
  unfit : Bool := false
deriving DecidableEq, Repr

/-- A slice swap (R236): position, outgoing, incoming; crossfade weight in 1/64 once the shadow comparison is done. -/
structure Swap where
  pos : Nat
  out : Nat
  inc : Nat
  alpha : Option Nat := none
deriving DecidableEq, Repr

/-- What the calibration task sums over the qualifying samples at one interleave position (R228): samples, their sum and sum of squares, and the products with
the sample one symbol later. -/
structure SliceSum where
  n : Nat := 0
  sum : Int := 0
  sq : Nat := 0
  prodN : Nat := 0
  prod : Int := 0
deriving DecidableEq, Repr

/-- What an estimate on a pair has accumulated (R228 to R230, R233). -/
structure PairEst where
  sums : List SliceSum := List.replicate 32 {}
  /-- The last sample of the period before, where that period contributed. -/
  tail : Option Int := none
  /-- DAC: probe periods, next rotation, transmit periods in flight with their rotation, and per rotation the periods seen and the residual they left. -/
  dacN : Nat := 0
  rotation : Nat := 0
  flight : List (Nat × Nat) := []
  seen : List (Nat × Rat) := List.replicate 71 (0, 0)
  /-- HYBRID: the code that is dithered (0 HYB_R, 1 HYB_C, 2 none left), probe periods of this step, transmit periods in flight with the dither's sign, echo power
  under each sign, direction of the last step, and the codes at the start. -/
  axis : Nat := 0
  hybN : Nat := 0
  dither : List (Nat × Bool) := []
  up : Rat := 0
  down : Rat := 0
  last : Int := 0
  start : Nat × Nat := (0, 0)
deriving DecidableEq, Repr

/-- Operating calibration values of one pair; the factory trim they start as is a DESIGN CHOICE of the default device (log entry 5). -/
structure CalPair where
  mismatch : Option Int := none
  map : List Nat := List.range 32
  mapTo : List Nat := List.range 32
  slices : List Slice := List.replicate 32 ({} : Slice) ++ List.replicate 4 ({ state := 1, stateTo := 1 } : Slice)
  cells : List Nat := List.range 63
  cellsTo : List Nat := List.range 63
  cellErr : List Int := List.replicate 71 0
  cellRetired : List Nat := []
  hybR : Nat := 128
  hybC : Nat := 32
  hybRTo : Nat := 128
  hybCTo : Nat := 32
  noSpare : Bool := false
  swaps : Nat := 0
  /-- One swap per pair at a time (R232). -/
  swap : Option Swap := none
deriving DecidableEq, Repr

/-- A CAL_RUN in progress. -/
structure CalRun where
  tag : BitVec 16
  items : Nat
  pairs : BitVec 4
  /-- Items and pairs still to estimate: item, pair (4 for the die link). -/
  left : List (Nat × Nat)
  results : List Nat
  /-- Pairs whose ADC_SELECT replacements are under way (R236). -/
  swapping : BitVec 4 := 0
deriving DecidableEq, Repr

/-- Calibration (07). -/
structure Cal where
  probeData : Bool := true
  pair : Quad CalPair := Quad.all {}
  run : Option CalRun := none
  /-- A REVERT waits for the run to end. -/
  revertDue : Bool := false
  dirty : Bool := false
  partialImport : Bool := false
  fwDiff : Bool := false
  tempDiff : Bool := false
  reject : Nat := 0
  results : List Nat := List.replicate 5 0
  gen : Nat := 0
  /-- Estimates in progress (R228, R230). -/
  est : Quad PairEst := Quad.all {}
  /-- Targets of an import (its blob), or of a reversion (none), held until the link is in T5 or down (R247, R257). -/
  heldTargets : Option (Option (List Byte)) := none
  /-- Periods since the last hybrid and cell steps of each pair. -/
  hybAge : Quad Nat := Quad.all 0
  cellAge : Quad Nat := Quad.all 0
  /-- Pairs on which a run moved HYBRID or DAC values, until their snapshot follows (R241). -/
  echoMoving : BitVec 4 := 0
deriving DecidableEq, Repr

/-- What Knuckle keeps while a link is up (R248 to R256). -/
structure KnRun where
  /-- KN_STATUS.STATE. -/
  state : Nat := 0
  shed : Pair := 0
  partnerAsked : Bool := false
  /-- This end's request: SHED (true) or REINSTATE, its command's TAG, when KR was first sent. -/
  request : Option (Bool × BitVec 16) := none
  krSince : Option Nat := none
  /-- SEQ at which the transmit and receive directions change form. -/
  txAt : Option Nat := none
  rxAt : Option Nat := none
  /-- Forms in force: true Knuckle. -/
  txForm : Bool := false
  rxForm : Bool := false
  /-- The partner's KA was seen changing and no valid header has come since the change of form (R250). -/
  formSearch : Bool := false
  /-- Pair training: periods at margin, own and partner's READY. -/
  good : Nat := 0
  ready : Bool := false
  farReady : Bool := false
  trainSince : Nat := 0
deriving DecidableEq, Repr

/-- Knuckle (07). -/
structure Knuckle where
  accept : Bool := true
  txSwitch : Nat := 0
  rxSwitch : Nat := 0
  entries : Nat := 0
  reinstates : Nat := 0
  refused : Nat := 0
  formSearches : Nat := 0
  run : KnRun := {}
deriving DecidableEq, Repr

/-- KN_STATUS.STATE. -/
def Knuckle.state (k : Knuckle) : Nat := k.run.state
/-- The shed pair. -/
def Knuckle.shed (k : Knuckle) : Pair := k.run.shed

/-! ### Diagnostics and monitoring (08) -/

/-- A finding (Table 8-7). -/
structure Finding where
  dist : Nat
  gamma : Int
  z : Nat
  kind : Nat
deriving DecidableEq, Repr

/-- TDR_FIND record of a pair (Table 8-6). -/
structure TdrFind where
  more : Bool := false
  ending : Nat := 0
  length : Nat := 0xFFFF
  rl : List Nat := List.replicate 8 0
  finds : List Finding := []
deriving DecidableEq, Repr

/-- A DIAG_TDR run. -/
structure DiagRun where
  tag : BitVec 16
  tests : Nat
  pairs : BitVec 4
  outAddr : Nat
  outLen : Nat
  /-- Measurements left: pairs 0 to 3 for TDR, 4 + aggressor for the NEXT map. -/
  left : List Nat
  accepted : Nat := 0
  discardedHere : Nat := 0
  /-- The run is on the shed pair (R270): waiting for its QUIET_ACK, and when the silence asked for ends. -/
  onShed : Bool := false
  asking : Bool := false
  grantEnd : Nat := 0
  /-- Settings in force at the start. -/
  blocks : Nat
  range : Nat
  stepThr : Nat
  endThr : Nat
  /-- Accumulated responses of the accepted blocks of the measurement under way, in ADC codes (R264). -/
  acc : Quad (List Int) := Quad.all []
  /-- Bins of each measured pair. -/
  bins : Quad (List Int) := Quad.all []
  suspended : Bool := false
  /-- NEXT losses measured with each aggressor: aggressor, victim, eight bands, in 0.1 dB. -/
  next : List (Nat × Nat × List Nat) := []
  since : Nat := 0
deriving DecidableEq, Repr

/-- The diagnostics unit (08). -/
structure Diag where
  blocks : Nat := 64
  stepThr : Nat := 13
  endThr : Nat := 154
  range : Nat := 1000
  nextResult : Nat := 0
  tdrResult : List Nat := List.replicate 4 0
  restarts : Nat := 0
  discarded : Nat := 0
  elapsed : Nat := 0
  find : Quad TdrFind := Quad.all {}
  crossShort : BitVec 6 := 0
  nextMap : List (List Nat) := List.replicate 6 (List.replicate 8 0)
  run : Option DiagRun := none
  /-- The partner asked for silence on the shed pair, until a time (R270). -/
  quietUntil : Option Nat := none
deriving DecidableEq, Repr

/-- CABLE_EST record (Table 8-10). -/
structure CableEst where
  length : Nat := 0xFFFF
  reach : Nat := 0
  refl : List (Nat × Int) := [(0, 0), (0, 0), (0, 0)]
  rung : Nat := 0xF
  valid : Bool := false
deriving DecidableEq, Repr

/-- An alarm entry (R281, R282): its 64 bits, and what its evaluation keeps per pair. -/
structure Alarm where
  cfg : BitVec 64 := 0
  active : Bool := false
  /-- Runs of snapshots beyond and inside the threshold, per pair. -/
  beyond : Quad Nat := Quad.all 0
  inside : Quad Nat := Quad.all 0
  /-- Past source values at the 10 ms evaluations, newest first, per pair. -/
  past : Quad (List (List Nat)) := Quad.all []
deriving DecidableEq, Repr

/-- FAR_QUALITY record. -/
structure FarQuality where
  mse : Int := 0
  margin : Int := 0
  uncorr : Nat := 0
  stale : Bool := true
deriving DecidableEq, Repr

/-- A trend entry: MIN, MEAN and MAX; none: 0x8000. -/
abbrev TrendEntry := Option (Int × Int × Int)

/-- Monitoring (08). -/
structure Monitor where
  nvp : Nat := 700
  offsetCm : Nat := 0
  trendS : Nat := 60
  reportMs : Nat := 100
  est : Quad CableEst := Quad.all {}
  /-- MSE_TREND. -/
  head : Nat := 0
  count : Nat := 0
  rung : Nat := 0xF
  trend : Quad (List TrendEntry) := Quad.all []
  /-- MSE_DB at the snapshots of the present interval. -/
  samples : Quad (List Int) := Quad.all []
  alarms : List Alarm := List.replicate 16 {}
  latched : BitVec 16 := 0
  sat : BitVec 16 := 0
  /-- 1 ms evaluations so far. -/
  evals : Nat := 0
  oamTx : Nat := 0
  oamRx : Nat := 0
  oamDrop : Nat := 0
  quietRefused : Nat := 0
  far : Quad FarQuality := Quad.all {}
  /-- Device time of the last FAR_REPORT accepted. -/
  farAt : Option Nat := none
deriving DecidableEq, Repr

end Sys2Proof.Machine
end

