-- ==== Sys2Proof/Machine/State.lean ====
section
/-! DEFINITION. The state of the block, its faults and refusals, and its state after reset. -/

namespace Sys2Proof.Machine

/-- What the device has sent out; the newest stands first in `State.out` (log entry 9). -/
inductive Out
  /-- An MSI-X write (R331). -/
  | msix (vector : Nat) (addr : BitVec 64) (data : BitVec 32)
  /-- A whole line written to host memory (R314): coherent or not, host address, 64 bytes. -/
  | hostWrite (coherent : Bool) (addr : Nat) (line : List Byte)
  /-- Data of a register read. -/
  | regRead (value : Nat)
  /-- The answer to a snoop (R312). -/
  | rspIHitI
  /-- An SPDM response: its code and body (R385). -/
  | spdm (code : Nat) (body : List Byte)
  /-- The response to a Ward message (Table 12-6). -/
  | ward (msg : Nat) (status : Status) (mtag : Nat)
  /-- Bytes of an SMBus block read (R451). -/
  | smb (bytes : List Byte)
  /-- The base link codeword of auto-negotiation (R157). -/
  | basePage (word : Nat)
  /-- Rows 1 to 3 of Table 5-2, whose pages the clauses define: the row, the rungs it advertises, those with fast retrain, MS_MODE and the seed (R158, R161). -/
  | abilities (row rungs retrain role seed : Nat)
  /-- An OUI-tagged next-page message: message code, OUI, and user-defined bits in the order they are sent (R159, R188). -/
  | ouiMessage (code oui : Nat) (user : List Bool)
  /-- What is sent on the cable from training on: 1 a wake burst, 2 a rate-hunting burst, 3 a training period,
  4 a data period; with its DAC codes or chips per pair (R56, R157, R164, R204, R219). -/
  | line (kind : Nat) (codes : Quad (List Int))
  /-- An MKPDU originated by the security partition (R382): its message number. -/
  | mkpdu (mn : Nat)
deriving DecidableEq, Repr

/-- The block's state. -/
structure State where
  fuse : Fuse := {}
  nvm : Nvm := {}
  pwr : Power := {}
  fp : FrontPanel := {}
  kw : Keyway := {}
  flows : Sparse Flow := [(0, { exist := true, gen := 1 })]
  cyo : Cyoner := {}
  ben : Benash := {}
  bist : Bist := {}
  page : StatePage := {}
  ward : Ward := {}
  spdm : Spdm := {}
  hasp : Hasp := {}
  clk : Clock := {}
  gate : Gates := {}
  dl : DieLink := {}
  link : Link := {}
  lc : LineCode := {}
  rx : Receive := {}
  eng : Engines := {}
  ql : Quiet := {}
  cal : Cal := {}
  kn : Knuckle := {}
  diag : Diag := {}
  mon : Monitor := {}
  /-- What has been sent, newest first (log entry 9). -/
  out : List Out := []
  /-- Waiting commands, first in first out. -/
  pending : List Instr := []
  /-- Free values drawn so far (log entry 8). -/
  draws : Nat := 0
  /-- FP_TIME, ns (R320). -/
  time : Nat := 0
  /-- Time since power-on, ns (R192). -/
  porNs : Nat := 0
deriving DecidableEq, Repr

/-- No rule of the spec stops the block, so no fault exists. -/
inductive Fault
deriving DecidableEq, Repr

/-- A command without a meaning. -/
inductive Refusal
  /-- Raised by a dispatch arm that has no meaning yet; safe: the block stops where the device goes on. -/
  | notModelled (mnemonic : String)
deriving DecidableEq, Repr

/-- The block right after the power-on reset is asserted (R298, R456; log entry 2). -/
def State.reset : State := {}

end Sys2Proof.Machine
end

