-- ==== Sys2Proof/Machine/Ops.lean ====
section
/-! DEFINITION. Named operations over the state that every chapter uses: outputs, interrupts, events, the log, windows and host writes, rings and completions, and the end of a Cyoner request. -/

namespace Sys2Proof.Machine

/-! ### Outputs and interrupts -/

/-- Record an output. -/
def State.emit (s : State) (o : Out) : State := { s with out := o :: s.out }

/-- Take a free value: the counter that the opaque constants are applied to (log entry 8). -/
def State.drawn (s : State) : State := { s with draws := s.draws + 1 }

/-- MSI-X writes can be made: the CXL link is up, and until Keyway is ready again only vector 1,001 (R302, R331). -/
def State.canSignal (s : State) (v : Nat) : Bool := s.kw.status.linkUp && (s.pwr.kwUp || v = 1001)

/-- Signal a vector: an MSI-X write, or its pending bit while the entry is masked (R315, R331). -/
def State.signalVector (s : State) (v : Nat) : State :=
  let e := sget {} s.fp.msix v
  { s with
    fp := { s.fp with msix := if s.canSignal v && e.masked then sset {} s.fp.msix v { e with pending := true } else s.fp.msix }
    out := if s.canSignal v && !e.masked then .msix v e.addr e.data :: s.out else s.out }

/-- Signal vector 1,002, merging signals within 1 µs of the previous one (R318). -/
def State.signalGeneral (s : State) : State :=
  let soon := match s.fp.lastGeneral with
    | some t => decide (s.time < t + 1000)
    | none => false
  if soon then { s with fp := { s.fp with mergeDue := true } }
  else
    let s1 := s.signalVector 1002
    { s1 with fp := { s1.fp with lastGeneral := some s.time } }

/-- FP_EVENT flags of units that can be absent (Table 10-5, R9). -/
def State.eventPresent (s : State) (i : Nat) : Bool :=
  if i = 6 then s.fuse.part.diag else if i = 8 then s.fuse.part.ward else true

/-- An occurrence of general event i: count it, set its flag, signal an enabled flag that rises (R318). -/
def State.raiseEvent (s : State) (i : Nat) : State :=
  if s.eventPresent i then
    let rising := !s.fp.event.getLsbD i && s.fp.eventEn.getLsbD i
    let s1 := { s with fp := { s.fp with
      event := s.fp.event ||| BitVec.twoPow 13 i
      eventCnt := smod 0 s.fp.eventCnt i (inc 16) } }
    if rising then s1.signalGeneral else s1
  else s

/-- Event flag numbers (Table 10-5). -/
abbrev evLink : Nat := 0
abbrev evRxq : Nat := 1
abbrev evEngines : Nat := 2
abbrev evDielink : Nat := 3
abbrev evClock : Nat := 4
abbrev evCal : Nat := 5
abbrev evDiag : Nat := 6
abbrev evMonitor : Nat := 7
abbrev evWard : Nat := 8
abbrev evHasp : Nat := 9
abbrev evBenash : Nat := 10
abbrev evKeyway : Nat := 11
abbrev evReset : Nat := 12

/-- Disarm the shut-down record (R433): DISARM code. -/
def Nvm.disarm (n : Nvm) (code : Nat) : Nvm :=
  { n with sd := n.sd.map (fun r => if r.armed then { r with armed := false, disarm := code } else r) }

/-- An occurrence of non-maskable event i (R319); it disarms the shut-down record (R433). -/
def State.raiseNme (s : State) (i : Nat) : State :=
  let rising := !s.fp.nme.getLsbD i
  let s1 := { s with
    fp := { s.fp with
      nme := s.fp.nme ||| BitVec.twoPow 7 i
      nmeCnt := smod 0 s.fp.nmeCnt i (inc 16) }
    nvm := s.nvm.disarm 4 }
  if rising then s1.signalVector 1001 else s1

/-- Non-maskable event numbers (Table 10-6). -/
abbrev nmeClock : Nat := 0
abbrev nmeTamper : Nat := 1
abbrev nmeZeroized : Nat := 2
abbrev nmeThermal : Nat := 3
abbrev nmeSupply : Nat := 4
abbrev nmeEscalation : Nat := 5
abbrev nmeMemory : Nat := 6

/-! ### The log -/

/-- SEQ after n: 0xFFFFFFFF is never taken (R420). -/
def nextLogSeq (n : Nat) : Nat := if n ≥ 0xFFFFFFFE then 0 else n + 1

/-- Write an entry into NVM: it takes the next SEQ, and the newest 65,536 are kept (R422). -/
def Nvm.writeLog (n : Nvm) (e : LogEntry) : Nvm :=
  { n with
    log := { e with seq := n.nextSeq } :: n.log.take 65535
    nextSeq := nextLogSeq n.nextSeq }

/-- The limiter's tokens now, in thousandths: LOG_RATE tokens a second up to 1,024 (R422). -/
def State.tokensNow (s : State) : Nat :=
  min 1024000 (s.ben.tokens + s.ben.logRate * (s.time / 1000000 - s.ben.tokenTime))

/-- Admit an entry under R422. -/
def State.admitLog (s : State) (e : LogEntry) : State :=
  if e.sev < 3 && e.sev < s.ben.logSev then s
  else if !s.ben.up then
    { s with ben := if s.ben.queue.length < 64 then { s.ben with queue := s.ben.queue ++ [e] }
      else { s.ben with lost := inc 16 s.ben.lost, lostNew := s.ben.lostNew + 1 } }
  else if e.sev ≥ 3 then
    { s with
      nvm := s.nvm.writeLog e
      ben := { s.ben with critical := if e.sev = 4 then inc 32 s.ben.critical else s.ben.critical } }
  else
    let t := s.tokensNow
    { s with
      nvm := if t ≥ 1000 then s.nvm.writeLog e else s.nvm
      ben := if t ≥ 1000 then { s.ben with tokens := t - 1000, tokenTime := s.time / 1000000 }
        else { s.ben with
          tokens := t, tokenTime := s.time / 1000000
          suppressed := inc 16 s.ben.suppressed
          suppressedNew := s.ben.suppressedNew + 1 } }

/-- Units of log entries (Table 13-5). -/
abbrev unitBenash : Nat := 0
abbrev unitLine : Nat := 1
abbrev unitEngines : Nat := 2
abbrev unitCal : Nat := 3
abbrev unitDiag : Nat := 4
abbrev unitClock : Nat := 5
abbrev unitKeyway : Nat := 6
abbrev unitWard : Nat := 7
abbrev unitMgmt : Nat := 8
abbrev unitQuiet : Nat := 9
abbrev unitKnuckle : Nat := 10
abbrev unitBist : Nat := 11
abbrev unitHasp : Nat := 12

/-- Log kinds (Table 13-6). -/
abbrev kindState : Nat := 1
abbrev kindLimit : Nat := 2
abbrev kindFault : Nat := 3
abbrev kindRepair : Nat := 4
abbrev kindCommand : Nat := 5
abbrev kindConfig : Nat := 6
abbrev kindLog : Nat := 7

/-- Make a log entry (R420, R421). R9: no entry names an absent unit. -/
def State.logEntry (s : State) (unitId sev kind detail obj : Nat) (a0 a1 a2 a3 : Nat := 0) : State :=
  if (unitId = unitWard && !s.fuse.part.ward) || (unitId = unitDiag && !s.fuse.part.diag)
      || (unitId = unitKnuckle && !s.fuse.part.knuckle) then s
  else s.admitLog
    { seq := 0, time := s.time / 1000 % 2 ^ 48, boot := s.nvm.boots % 65536, unitId := unitId, sev := sev,
      kind := kind, detail := detail % 16, obj := obj % 256, arg0 := a0 % 2 ^ 32, arg1 := a1 % 2 ^ 32,
      arg2 := a2 % 2 ^ 32, arg3 := a3 % 2 ^ 32 }

/-! ### Windows and host memory (R323, R324) -/

/-- FP_FAULT_INFO.KIND of an access to n bytes at a device address, 0 when the access is made (R324, Table 10-8). -/
def State.windowKind (s : State) (a n : Nat) (wr : Bool) : Nat :=
  let w := sget {} s.fp.windows (a / 2 ^ 35 % 64)
  let off := a % 2 ^ 35
  if !w.en then 1
  else if off + n > w.size * 4096 then 2
  else if !wr && !w.rd then 3
  else if wr && !w.wr then 4
  else if w.ideReq && !(if w.coherent then s.kw.status.ideCache else s.kw.status.ideIo) then 5
  else if w.coherent && !s.kw.status.cacheEn then 6
  else 0

/-- Record a window fault (R322, R324). -/
def State.windowFault (s : State) (source a kind : Nat) : State :=
  State.raiseEvent { s with
    fp := { s.fp with faultAddr := a % 2 ^ 41, faultSource := source, faultKind := kind, faultCount := inc 16 s.fp.faultCount }
    kw := { s.kw with cnt := { s.kw.cnt with windowFaults := inc 32 s.kw.cnt.windowFaults } } } evKeyway

/-- Write one whole line to host memory through its window (R314). -/
def State.writeLine (s : State) (a : Nat) (line : List Byte) : State :=
  let w := sget {} s.fp.windows (a / 2 ^ 35 % 64)
  s.emit (.hostWrite w.coherent (w.base + a % 2 ^ 35) (fitBytes 64 line))

/-- Write bytes as whole lines from an aligned device address (R314). -/
def State.writeLines (s : State) (a : Nat) : Nat → List Byte → State
  | 0, _ => s
  | n + 1, bs => State.writeLines (s.writeLine a (bs.take 64)) (a + 64) n (bs.drop 64)

/-! ### Rings and completions -/

/-- The ring numbers: flows 0 to 999 and the control ring. -/
abbrev controlRing : Nat := 1023

/-- A ring's entry. -/
def State.ring (s : State) (i : Nat) : Ring := sget {} s.kw.rings i

/-- Change a ring. -/
def State.modRing (s : State) (i : Nat) (f : Ring → Ring) : State :=
  { s with kw := { s.kw with rings := smod {} s.kw.rings i f } }

/-- RUNNING (R327). -/
def Ring.running (r : Ring) : Bool := r.en && !r.halted && !r.resetting

/-- Lines of completions placed and not observed. -/
def Ring.unobserved (r : Ring) : Nat := sumNat (r.placed.map (·.span)) + sumNat (r.written.map (·.span))

/-- Free bytes of the completion ring that are not reserved. -/
def Ring.free (r : Ring) : Nat :=
  2 ^ r.cqLog2 - ((r.cqTail - r.cqHead).toNat + 64 * r.unobserved + 64 * r.reserved)

/-- Place a completion: it takes CQ_SEQ, which advances by its SPAN, and gives up reserved lines (R344). -/
def Ring.place (r : Ring) (release : Nat) (c : Completion) : Ring :=
  { r with
    placed := r.placed ++ [{ c with seq := r.cqSeq }]
    cqSeq := r.cqSeq + BitVec.ofNat 32 c.span
    reserved := r.reserved - release }

/-- Count completions given up (R329, R332). -/
def State.doneLost (s : State) (n : Nat) : State :=
  { s with kw := { s.kw with cnt := { s.kw.cnt with doneLost := satAdd 32 s.kw.cnt.doneLost n } } }

/-- Place a completion on a ring that runs; on any other it is given up (R329). -/
def State.complete (s : State) (i release : Nat) (c : Completion) : State :=
  if (s.ring i).running then s.modRing i (fun r => r.place release c)
  else (s.modRing i (fun r => { r with reserved := r.reserved - release })).doneLost 1

/-- SPAN of a payload length (R335). -/
def spanOf (len : Nat) : Nat := 1 + (len + 63) / 64

/-- A SEND_DONE (Table 10-16). -/
def sendDone (opcode flow tag : Nat) (st : Status) (sent gen : Nat) (stamp : Option Nat) : Completion :=
  { opcode := 0x83, flags := 0, flow := flow, fcount := 0, tag := tag, status := st, seq := 0, stamp := stamp,
    args := packBytes 40 [(8, opcode), (8, sent), (16, 0), (32, gen)], payload := [], span := 1 }

/-- Change a flow. -/
def State.modFlow (s : State) (f : Nat) (g : Flow → Flow) : State :=
  { s with flows := smod {} s.flows f g }

/-- Change the statistics of a flow. -/
def State.modStats (s : State) (f : Nat) (g : FlowStats → FlowStats) : State :=
  s.modFlow f (fun fl => { fl with stats := g fl.stats })

/-- A flow's context. -/
def State.flow (s : State) (f : Nat) : Flow := sget {} s.flows f

/-- Count a capsule for CAP_PEAK: the most in any 1 µs (R352). -/
def State.countCapsule (s : State) : State :=
  let ts := s.time :: s.kw.capTimes.filter (fun t => decide (s.time < t + 1000))
  { s with kw := { s.kw with capTimes := ts, cnt := { s.kw.cnt with capPeak := max s.kw.cnt.capPeak (min ts.length (2 ^ 32 - 1)) } } }

/-! ### The end of a Cyoner request (R354 to R356) -/

/-- Write a request's final completion under its reservation, or count it lost (R301, R329, R355). -/
def State.finish (s : State) (q : Request) (st : Status) (results : List (Nat × Nat)) (payload : List Byte) : State :=
  let pl := if st = .ok then payload else []
  let c : Completion :=
    { opcode := q.cap.opcode.toNat + 0x80, flags := 0, flow := 0, fcount := 0, tag := q.cap.tag.toNat, status := st,
      seq := 0, stamp := none, args := packBytes 40 results, payload := pl.map some, span := spanOf pl.length }
  if !s.ben.up then { s with cyo := { s.cyo with ended := s.cyo.ended ++ [(q, st, results)] } }
  else match q.fate with
  | .ring => s.complete controlRing q.room c
  | .stopped => s.doneLost 1
  | .perst =>
    State.logEntry { s with pwr := { s.pwr with ctrlLost := inc 16 s.pwr.ctrlLost } } unitBenash 1 kindCommand 0 0x05
      (q.cap.opcode.toNat + 65536 * q.cap.tag.toNat) st.code (leAt (packBytes 40 results) 0 4) (leAt (packBytes 40 results) 4 4)

/-- The DEFERRED completion of a request: test code and remaining maximum duration in ms (R363). -/
def State.deferRequest (s : State) (q : Request) (test remainMs : Nat) : State :=
  let c : Completion :=
    { opcode := q.cap.opcode.toNat + 0x80, flags := 0, flow := 0, fcount := 0, tag := q.cap.tag.toNat, status := .deferred,
      seq := 0, stamp := none, args := packBytes 40 [(16, test), (16, 0), (32, remainMs)], payload := [], span := 1 }
  let s1 := match q.fate with
    | .ring => s.complete controlRing 1 c
    | _ => s.doneLost 1
  { s1 with cyo := { s1.cyo with held := s1.cyo.held ++ [{ q with deferred := true, room := q.room - 1 }] } }

/-- The first condition of a list that holds gives the status (R10). -/
def firstFail : List (Bool × Status) → Option Status
  | [] => none
  | (b, st) :: t => if b then some st else firstFail t

/-- Remove one running request, by TAG. -/
def State.unrun (s : State) (tag : BitVec 16) : State :=
  { s with cyo := { s.cyo with running := s.cyo.running.filter (fun q => q.cap.tag ≠ tag) } }

/-- Note a request as running until a later step ends it. -/
def State.startRun (s : State) (q : Request) : State :=
  { s with cyo := { s.cyo with running := s.cyo.running ++ [{ q with since := s.time }] } }

/-- The running request with an opcode that meets a test. -/
def State.findRun (s : State) (op : Nat) (p : Capsule → Bool) : Option Request :=
  s.cyo.running.find? (fun q => q.cap.opcode.toNat = op && p q.cap)

/-- End the running request with an opcode that meets a test, if there is one. -/
def State.endRun (s : State) (op : Nat) (p : Capsule → Bool) (st : Status) (results : List (Nat × Nat)) : State :=
  match s.findRun op p with
  | some q => (s.unrun q.cap.tag).finish q st results []
  | none => s

/-! ### Shorthands -/

/-- Set the front panel. -/
def State.setFp (s : State) (f : FrontPanel → FrontPanel) : State := { s with fp := f s.fp }
/-- Set Keyway's counters. -/
def State.modKwCnt (s : State) (f : KwCounters → KwCounters) : State := { s with kw := { s.kw with cnt := f s.kw.cnt } }
/-- Set Benash. -/
def State.modBen (s : State) (f : Benash → Benash) : State := { s with ben := f s.ben }
/-- A frame has been sent or received: LED1 turns on unless it is on or in the 30 ms off that follow (R449). -/
def State.frameSeen (s : State) : State :=
  { s with pwr := if s.pwr.led1 || s.pwr.led1Off then { s.pwr with traffic := true } else { s.pwr with led1 := true } }
/-- Set Ward. -/
def State.modWard (s : State) (f : Ward → Ward) : State := { s with ward := f s.ward }
/-- Set the power unit. -/
def State.modPwr (s : State) (f : Power → Power) : State := { s with pwr := f s.pwr }

end Sys2Proof.Machine
end

