-- ==== Sys2Proof/Machine/Flags.lean ====
section
/-! DEFINITION. Readiness (FP_READY) and the derived conditions that many chapters test (00_scope R7, R8; 09 R305; R30, R148, R225, R428, R432). -/

namespace Sys2Proof.Machine

/-- The bits of FP_READY (Table 0-5). -/
inductive Rdy
  | keyway | benash | clock | dielink | line | engines | ldpc | hasp | ward | diag | legacyWake | n100 | n50 | knuckle | bist
deriving DecidableEq, Repr

/-- The running firmware slot. -/
def State.runSlot (s : State) : FwSlot := if s.ben.runB then s.nvm.slotB else s.nvm.slotA

/-- Lifecycle code (Table 11-2). -/
def Lifecycle.code : Lifecycle → Nat
  | .factory => 0 | .provisioned => 1 | .deployed => 2 | .retired => 3

/-- Engines that the fuses enable and that are not retired (ENG_STATUS.HEALTHY). -/
def State.healthyEngines (s : State) : Nat := ((s.eng.eng.take s.fuse.part.engines).filter (fun e => !e.retired)).length

/-- The link is in data or in a fast retrain. -/
def State.linkInData (s : State) : Bool := s.link.state = 8 || s.link.state = 9

/-- A native link is in data. -/
def State.nativeData (s : State) : Bool :=
  s.link.state = 8 && (s.link.mode = some 0 || s.link.mode = some 1)

/-- The link's mode is native. -/
def State.nativeMode (s : State) : Bool := s.link.mode = some 0 || s.link.mode = some 1

/-- Both directions are in Knuckle form, or a change of form is under way from it (KN_STATUS.STATE 2 to 4). -/
def State.inKnuckle (s : State) : Bool := 2 ≤ s.kn.state

/-- A pair carries the stream: it is not shed (R116). -/
def State.activePair (s : State) (p : Pair) : Bool := !(s.kn.run.rxForm && s.kn.shed = p)

/-- The T40 idle is in use on the link. -/
def State.inT40Idle (s : State) : Bool := s.link.state = 8 && !s.nativeMode && s.link.legacyIdle && (s.ql.run.txState ≠ 0 || s.ql.run.rxState ≠ 0)

/-- The active pairs in rank order. -/
def State.activePairs (s : State) : List Pair := pairs.filter s.activePair

/-- The highest of the junction temperatures, 0.1 °C (R416). -/
def State.junction (s : State) : Int := s.ben.temps.foldl max (s.ben.temps.headD 0)

/-- Nominal value of SUPPLY sensor i, mV (Table 13-2). -/
def supplyNominal (i : Nat) : Nat := [750, 750, 900, 1500, 750, 1200, 1800, 900, 1800, 750].getD i 0

/-- A supply reading lies outside its nominal value by more than a percentage. -/
def supplyOutside (v i pct : Nat) : Bool := 100 * v > supplyNominal i * (100 + pct) || 100 * v < supplyNominal i * (100 - pct)

/-- A full self-test of the line-side units is running (R363, R434). -/
def State.fullTest (s : State) : Bool := match s.bist.run with | some r => r.test ≥ 0x10 | none => false

/-- The start-up test has passed for the units it covers, and its gate is not closed by the host. -/
def State.tested (s : State) : Bool := s.bist.passed && !s.ben.recovery

/-- FP_READY.DIELINK. -/
def State.dieReady (s : State) : Bool := s.dl.ready && !s.fullTest && !s.ben.recovery

/-- FP_READY.LINE: the die link, a trim copy, the start-up test of the line units, the line rails (R30, R225, R432, R457). -/
def State.lineReady (s : State) : Bool :=
  s.dieReady && s.tested && s.bist.lineFail = 0 && (s.nvm.trim1Good || s.nvm.trim2Good) && s.pwr.railLow &&& 3 = 0

/-- Two hot spares where the part has that many free engines (R132): an engine count that fits a profile. -/
def State.fitsEngines (s : State) (p : Profile) : Bool := p.engines + 2 ≤ s.healthyEngines

/-- A gate of GATE_CTL is closed by the host (R297): 0 DIAG, 1 LEGACY, 2 BIST. -/
def Gates.hostClosed (g : Gates) (i : Nat) : Bool := g.ctl.getLsbD i && g.closed.getLsbD (102 + i)

/-- A readiness bit; an absent unit's reads 0 (R8). -/
def State.ready (s : State) : Rdy → Bool
  | .keyway => s.pwr.kwUp
  | .benash => s.ben.up
  | .clock => s.clk.ready
  | .dielink => s.dieReady
  | .line => s.lineReady
  | .engines => s.tested && !s.fullTest && s.eng.lastGen ≠ 0
  | .ldpc => s.tested && !s.fullTest && !s.bist.ldpcFail
  | .hasp => s.hasp.armed
  | .ward => s.fuse.part.ward && s.ward.tested && !s.ward.error && !s.hasp.latched && s.fuse.lifecycle ≠ .retired && !s.ben.recovery
  | .diag => s.fuse.part.diag && s.tested && !s.gate.hostClosed 0
  | .legacyWake => s.fuse.part.legacyWake && s.tested && !s.gate.hostClosed 1
  | .n100 => s.fuse.part.n100 && s.lineReady && s.nvm.trim.n100 && s.fitsEngines .n100 && !s.dl.outb.reduced && !s.dl.inb.reduced
  | .n50 => s.fuse.part.n50 && s.lineReady && s.nvm.trim.n50 && s.fitsEngines .n50
  | .knuckle => s.fuse.part.knuckle && s.lineReady
  | .bist => s.tested && !s.gate.hostClosed 2

/-- FP_READY as a register (R7). -/
def State.readyValue (s : State) : Nat :=
  ofBools ([Rdy.keyway, .benash, .clock, .dielink, .line, .engines, .ldpc, .hasp, .ward, .diag, .legacyWake, .n100, .n50, .knuckle, .bist].map
    s.ready)

/-- A rung is available (R156). -/
def State.rungAvailable (s : State) (r : Rung) : Bool :=
  s.fuse.part.rungPresent r && s.fitsEngines (Profile.ofRung r false) &&
    (if r = 0 then s.ready .n100 else if r = 1 then s.ready .n50 else s.ready .line)

/-- A running test, if it is of a part (R363). -/
def State.testOn (s : State) (test target : Nat) : Bool :=
  match s.bist.run with
  | some r => r.test ≥ 0x10 || (r.test = test && r.target = target)
  | none => false

/-- A unit is held by its reset, or Benash is not there to command it (R457). -/
def State.heldReset (s : State) : Bool := s.pwr.porHeld || s.pwr.warmHeld || s.pwr.coreSince.isSome

/-- The level of LC_HOLD; it reads high while VDD_IO is low (R448, R457). -/
def State.lcHoldHigh (s : State) : Bool := s.pwr.lcHold || s.pwr.railLow.getLsbD 4

end Sys2Proof.Machine
end

