-- ==== Sys2Proof/Machine/EngOps.lean ====
section
/-! DEFINITION. The engines' slot entries, profiles, staging, commit validation and late blocks (04_signal_engines R124 to R138, R146 to R149, R473), shared by commands and link events. -/

namespace Sys2Proof.Machine

/-! ### Slot entries (R127) -/

/-- TASK of an entry. -/
def slotTask (e : BitVec 64) : Nat := bitsAt e.toNat 0 8
/-- PAIR. -/
def slotPair (e : BitVec 64) : Nat := bitsAt e.toNat 8 2
/-- SEG_FIRST. -/
def slotFirst (e : BitVec 64) : Nat := bitsAt e.toNat 10 4
/-- SEG_LAST. -/
def slotLast (e : BitVec 64) : Nat := bitsAt e.toNat 14 4
/-- PRIO. -/
def slotPrio (e : BitVec 64) : Nat := bitsAt e.toNat 18 3
/-- BANKS. -/
def slotBanks (e : BitVec 64) : Nat := bitsAt e.toNat 24 8
/-- START. -/
def slotStart (e : BitVec 64) : Nat := bitsAt e.toNat 32 16
/-- BUDGET. -/
def slotBudget (e : BitVec 64) : Nat := bitsAt e.toNat 48 16

/-- Deadline of a task in a period of C cycles (Table 4-3). -/
def taskDeadline (task c : Nat) : Nat :=
  if task = 1 then c / 4
  else if task = 2 || task = 3 then 3 * c / 8
  else if task = 5 || task = 0x10 then c / 2
  else if task = 6 || task = 0x11 then 3 * c / 4
  else if task = 7 then 15 * c / 16
  else c

/-- Assigned task codes (Table 4-3). -/
def taskCodes : List Nat :=
  [0x00, 0x01, 0x02, 0x03, 0x04, 0x05, 0x06, 0x07, 0x08, 0x10, 0x11, 0x20, 0x21, 0x22, 0x23, 0x24, 0x30, 0x31, 0x38, 0x39, 0x3F]

/-- A task whose grain is a segment. -/
def taskSegments (task : Nat) : Bool := [0x01, 0x02, 0x05, 0x06, 0x07, 0x10, 0x11].contains task

/-- A background task (Table 4-3). -/
def taskBackground (task : Nat) : Bool := [0x30, 0x31, 0x38, 0x39, 0x3F].contains task

/-- A task whose unit the part lacks (Table 4-3). -/
def taskAbsent (p : Part) (task : Nat) : Bool := (task = 0x31 && !p.legacyWake) || (task = 0x39 && !p.diag)

/-- An entry breaks a field rule of R127 or R134. -/
def entryBad (e : BitVec 64) : Bool :=
  !taskCodes.contains (slotTask e) || bitsAt e.toNat 21 3 ≠ 0 || slotLast e < slotFirst e || popCount 8 (slotBanks e) > 2
    || (slotTask e = 0 && e ≠ 0) || (slotTask e = 0x3F && slotPair e ≠ 0)

/-! ### Profiles (R132, R473) -/

/-- Tasks that a profile requires and the pairs they cover, for a shed pair in Knuckle form (Table 4-6a). -/
def requiredTasks (p : Profile) (shed : Nat) : List (Nat × List Nat) :=
  let rx := [0x01, 0x02, 0x03, 0x04, 0x05, 0x06, 0x07, 0x10, 0x11, 0x20, 0x21, 0x22, 0x23, 0x24]
  let all := [0, 1, 2, 3]
  match p with
  | .n100k | .n50k => rx.map (fun t => (t, if [0x04, 0x10, 0x11].contains t then all else all.filter (· ≠ shed)))
  | .g1 => [0x01, 0x02, 0x03, 0x04, 0x05, 0x06, 0x08, 0x11, 0x20, 0x21, 0x22, 0x23, 0x24].map (·, all)
  | .ql100 | .ql50 => [0x01, 0x30, 0x11].map (·, all)
  | .noLink => [0x01, 0x11].map (·, [0, 1])
  | _ => rx.map (·, all)

/-- PRIO that the Parnelys profiles give a task (Table 4-3). -/
def taskPrio (task : Nat) : Nat :=
  if task = 0x01 then 7
  else if [0x02, 0x03].contains task then 6
  else if [0x04, 0x05, 0x10, 0x11].contains task then 5
  else if [0x06, 0x07, 0x08].contains task then 4
  else if [0x30, 0x31].contains task then 3
  else if [0x20, 0x21, 0x22, 0x23, 0x24].contains task then 2
  else if [0x38, 0x39].contains task then 1
  else 0

/-- Tasks and pairs of the engine at a position of a profile that Table 4-6 or 6-1 lays out; none: the signed set fixes it. -/
def layoutAt (p : Profile) (pos : Nat) : Option (List (Nat × Nat)) :=
  match p with
  | .n100 =>
    if pos < 8 then some [(0x01, pos / 2)]
    else if pos < 32 then some [(0x02, (pos - 8) / 6)]
    else if pos < 48 then some [([0x04, 0x03, 0x22, 0x23].getD ((pos - 32) % 4) 0, (pos - 32) / 4)]
    else if pos < 52 then some [(0x05, pos - 48)]
    else if pos < 64 then some [(0x06, (pos - 52) / 3)]
    else if pos < 68 then some [(0x07, pos - 64)]
    else if pos < 80 then some [([0x20, 0x21, 0x24].getD ((pos - 68) % 3) 0, (pos - 68) / 3)]
    else some [(0x10, pos - 80), (0x11, pos - 80)]
  | .ql100 =>
    if pos < 4 then some [(0x01, pos)] else if pos < 8 then some [(0x30, pos - 4)]
    else some [(0x11, 2 * (pos - 8)), (0x11, 2 * (pos - 8) + 1)]
  | .ql50 =>
    if pos < 2 then some [(0x01, 2 * pos), (0x01, 2 * pos + 1)] else if pos < 6 then some [(0x30, pos - 2)]
    else some [(0x11, 2 * (pos - 6)), (0x11, 2 * (pos - 6) + 1)]
  | .noLink => if pos = 0 then some [(0x01, 0), (0x01, 1)] else some [(0x11, 0), (0x11, 1)]
  | _ => none

/-- An entry of a task on a pair over segments a to b. -/
def slotEntry (task pair a b prio banks start budget : Nat) : BitVec 64 :=
  BitVec.ofNat 64 (packNat [(8, task), (2, pair), (4, a), (4, b), (3, prio), (3, 0), (8, banks), (16, start), (16, budget)])

/-- An entry of a laid-out engine as the signed set gives it: task, pair and PRIO as the tables say, the rest free; a task of pair grain covers segments 0 to
15. -/
def laidEntry (code pos i task pair : Nat) : BitVec 64 :=
  let w := (freeProfilePlan code pos i).toNat
  let seg := taskSegments task
  slotEntry task pair (if seg then bitsAt w 10 4 else 0) (if seg then bitsAt w 14 4 else 15) (taskPrio task) (bitsAt w 24 8) (bitsAt w 32 16) (bitsAt w 48 16)

/-- Entries of the engine at a position of a profile as the signed set gives them. -/
def profileEntries (p : Profile) (pos : Nat) : List (BitVec 64) :=
  match layoutAt p pos with
  | some l => l.zipIdx.map (fun x => laidEntry p.code pos x.2 x.1.1 x.1.2)
  | none => (List.range 16).map (fun i => freeProfileEntry p.code pos i)

/-- The required work of a profile that nothing lays out: task and pair, in the order of Table 4-6a. -/
def profileWork (p : Profile) (shed : Nat) : List (Nat × Nat) := (requiredTasks p shed).flatMap (fun r => r.2.map (fun q => (r.1, q)))

/-- That work in as many pieces as there are engines at least: tasks of segment grain are split in two from the first on while engines are left. Task and pair,
piece, number of pieces. -/
def profilePieces (p : Profile) (shed : Nat) : List ((Nat × Nat) × Nat × Nat) :=
  let work := profileWork p shed
  let split := (work.filter (fun w => taskSegments w.1)).take (p.engines - work.length)
  work.flatMap (fun w => if split.contains w then [(w, 0, 2), (w, 1, 2)] else [(w, 0, 1)])

/-- Engines at the positions before n that a layout gives the task of an engine on its pair. -/
def layoutMates (p : Profile) (work : Nat × Nat) (n : Nat) : Nat :=
  ((List.range n).filter (fun k => match layoutAt p k with | some l => l.contains work | none => false)).length

/-- A table that covers every required task exactly once and meets every check of Table 4-7: engines that share a task and pair split its segments evenly,
and slots follow each other by one cycle. It stands in where the free entries of the signed set would break R473, which they never do (log entry 86). -/
def plainEntries (p : Profile) (shed pos : Nat) : List (BitVec 64) :=
  let entry := fun (i : Nat) (w : Nat × Nat) (k n : Nat) =>
    let seg := taskSegments w.1
    slotEntry w.1 w.2 (if seg then 16 * k / n else 0) (if seg then 16 * (k + 1) / n - 1 else 15) (taskPrio w.1) 0 i 1
  match layoutAt p pos with
  | some l => l.zipIdx.map (fun x => entry x.2 x.1 (layoutMates p x.1 pos) (layoutMates p x.1 p.engines))
  | none => (((profilePieces p shed).zipIdx.filter (fun x => x.2 % p.engines = pos)).map (·.1)).zipIdx.map (fun x => entry x.2 x.1.1 x.1.2.1 x.1.2.2)

/-- Background entries of a free engine: those that are not a well-formed background task are left out (R132, R473). -/
def backgroundEntries (part : Part) (p : Profile) (pos : Nat) : List (BitVec 64) :=
  ((List.range 16).map (fun i => freeBackground p.code pos i)).filter (fun e =>
    taskBackground (slotTask e) && !taskAbsent part (slotTask e) && !entryBad e && slotFirst e = 0 && slotLast e = 15)

/-- An engine. -/
def State.engine (s : State) (e : Nat) : Engine := s.eng.eng.getD e {}

/-- Change an engine. -/
def State.modEngine (s : State) (e : Nat) (f : Engine → Engine) : State := { s with eng := { s.eng with eng := modAt s.eng.eng e f } }

/-- Set the engine unit. -/
def State.modEng (s : State) (f : Engines → Engines) : State := { s with eng := f s.eng }

/-- An engine is under an on-demand test. -/
def State.engineTested (s : State) (e : Nat) : Bool := s.testOn 1 e

/-- Engines that a profile may use: enabled, neither retired nor under test, lowest first (R132), and not one whose repair a training or link down has
abandoned (R149). -/
def State.usable (s : State) : List Nat :=
  (List.range s.fuse.part.engines).filter (fun e => !(s.engine e).retired && !(s.engine e).dropped && !s.engineTested e)

/-- A slot table with the entries of engines: engine and entries. -/
def bankOf (l : List (Nat × List (BitVec 64))) : Sparse (BitVec 64) :=
  l.foldl (fun t x => x.2.zipIdx.foldl (fun t y => sset 0 t (16 * x.1 + y.2) y.1) t) []

/-- The active bank. -/
def Engines.active (g : Engines) : Sparse (BitVec 64) := if g.useB then g.bankB else g.bankA
/-- The inactive bank. -/
def Engines.inactive (g : Engines) : Sparse (BitVec 64) := if g.useB then g.bankA else g.bankB
/-- Put the inactive bank. -/
def Engines.putInactive (g : Engines) (t : Sparse (BitVec 64)) : Engines := if g.useB then { g with bankA := t } else { g with bankB := t }

/-- Non-empty entries of an engine in a bank, with their index. -/
def slotsOf (t : Sparse (BitVec 64)) (e : Nat) : List (Nat × BitVec 64) :=
  ((List.range 16).map (fun i => (i, sget 0 t (16 * e + i)))).filter (fun x => slotTask x.2 ≠ 0)

/-- An engine has slots in the active bank. -/
def State.hasSlots (s : State) (e : Nat) : Bool := slotsOf s.eng.active e ≠ []

/-- A task is background work in the active profile: Table 4-3 says so and the profile does not require it (R152, R473). -/
def State.isBackground (s : State) (task : Nat) : Bool :=
  taskBackground task && !(requiredTasks s.eng.profile s.kn.shed).any (fun r => r.1 = task)

/-- Its slots are background work only. -/
def State.backgroundOnly (s : State) (e : Nat) : Bool := s.hasSlots e && (slotsOf s.eng.active e).all (fun x => s.isBackground (slotTask x.2))

/-- ENG_STATE of an engine (R152). -/
def State.engineState (s : State) (e : Nat) : Nat :=
  let x := s.engine e
  if e ≥ s.fuse.part.engines then 0
  else if x.retired then (if x.gateRefused then 7 else 6)
  else if x.loading then 5
  else if s.engineTested e then 4
  else if x.failing then 8
  else if s.backgroundOnly e then 3
  else if s.hasSlots e then 1
  else 2

/-- An engine may be tested: spare or background (R434). -/
def State.engineIdle (s : State) (e : Nat) : Bool := s.engineState e = 2 || s.engineState e = 3

/-- An engine is free for a CAL or DIAG slot. -/
def State.backgroundEngine (s : State) : Bool := (List.range s.fuse.part.engines).any (fun e => s.engineState e = 2 || s.engineState e = 3)

/-! ### Commit validation (R135, Table 4-7) -/

/-- Cycles of a period now (R125). -/
def State.cycles (s : State) : Nat :=
  periodCycles (if s.link.state ≥ 3 then s.link.mode else none)

/-- Entries of an engine in START order. -/
def inStart (l : List (Nat × BitVec 64)) : List (Nat × BitVec 64) := sortBy (fun a b => slotStart a.2 ≤ slotStart b.2) l

/-- Two slots of one engine overlap. -/
def overlaps : List (Nat × BitVec 64) → Bool
  | a :: b :: t => slotStart a.2 + slotBudget a.2 > slotStart b.2 || overlaps (b :: t)
  | _ => false

/-- The first failure of Table 4-7 of a bank against a profile: code and engine (0 where the failure names none; log entry 16). A task is valid (0x04)
when it is background work or the profile requires it, on whatever pair; the power state enters through the profile only (DESIGN CHOICE, log entry 86). -/
def State.validate (s : State) (t : Sparse (BitVec 64)) (p : Profile) : Option (Nat × Nat) :=
  let c := s.cycles
  let es := List.range s.fuse.part.engines
  let slots := es.map (fun e => (e, slotsOf t e))
  let first := fun (f : Nat × List (Nat × BitVec 64) → Bool) => (slots.find? f).map (·.1)
  let req := requiredTasks p s.kn.shed
  let cover := fun (task pair seg : Nat) =>
    sumNat (slots.map (fun x => (x.2.filter (fun y => slotTask y.2 = task && slotPair y.2 = pair && slotFirst y.2 ≤ seg && seg ≤ slotLast y.2)).length))
  let counts := req.flatMap (fun r => r.2.flatMap (fun q => (List.range 16).map (fun g => cover r.1 q g)))
  let free := (slots.filter (fun x => x.2 = [] && !(s.engine x.1).retired)).length
  match first (fun x => x.2 ≠ [] && ((s.engine x.1).retired || (s.engine x.1).loading)) with
  | some e => some (1, e)
  | none =>
  match first (fun x => overlaps (inStart x.2)) with
  | some e => some (2, e)
  | none =>
  match first (fun x => x.2.any (fun y => slotStart y.2 + slotBudget y.2 > taskDeadline (slotTask y.2) c)) with
  | some e => some (3, e)
  | none =>
  match first (fun x => x.2.any (fun y => !(taskBackground (slotTask y.2) || req.any (fun r => r.1 = slotTask y.2)))) with
  | some e => some (4, e)
  | none =>
  if counts.any (· = 0) then some (5, 0)
  else if counts.any (1 < ·) then some (6, 0)
  else
  match first (fun x => x.2.any (fun y => !taskSegments (slotTask y.2) && slotTask y.2 ≠ 0x3F && (slotFirst y.2 ≠ 0 || slotLast y.2 ≠ 15))) with
  | some e => some (7, e)
  | none => if free < min 2 (s.healthyEngines - p.engines) then some (8, 0) else none

/-! ### Staging and the switch (R133 to R138) -/

/-- Ask a unit to go idle, unless its gate is closed (R295 step 1). -/
def Gates.ask (t : Gates) (g : Nat) : Gates := if t.closed.getLsbD g then t else { t with asked := t.asked ||| BitVec.twoPow 106 g }

/-- The gate controller opens gates, or withdraws its requests to close them (R296). -/
def Gates.openAll (t : Gates) (l : List Nat) : Gates :=
  { t with asked := l.foldl (fun b e => b &&& ~~~(BitVec.twoPow 106 e)) t.asked, closed := l.foldl (fun b e => b &&& ~~~(BitVec.twoPow 106 e)) t.closed }

/-- A unit is to be gated (R39, R98, R138): an engine without slots in the active bank, and in Dormant every engine; the LDPC cores, the framer and the deframer in
Dormant and between the windows of Quiet-Latch; LDPC core 3 in Knuckle; ML1 in Dormant. -/
def State.gateDue (s : State) (g : Nat) : Bool :=
  if g < 96 then s.pwr.state = .dormant || !s.hasSlots g
  else if g = 105 then s.pwr.state = .dormant
  else s.pwr.state = .dormant || s.ql.run.committed || (g = 99 && s.kn.state = 2)

/-- Gates that follow the power state and the bank in force: those due are asked to close, the others open. A refused gate of an engine is settled once the engine has
slots again (R39, R138). -/
def State.gateEngines (s : State) : State :=
  let all := List.range s.fuse.part.engines ++ [96, 97, 98, 99, 100, 105]
  let s1 := s.modEng (fun g => { g with eng := g.eng.zipIdx.map (fun x => if x.1.gateRefused && s.hasSlots x.2 then { x.1 with gateRefused := false } else x.1) })
  { s1 with gate := (all.filter s.gateDue).foldl Gates.ask (s.gate.openAll (all.filter (fun g => !s.gateDue g))) }

/-- At a timeline boundary the gates of engines that have slots are open, whatever the period before skipped (R138). -/
def State.openEngines (s : State) : State :=
  { s with gate := s.gate.openAll ((List.range s.fuse.part.engines).filter (fun e => (s.gate.closed.getLsbD e || s.gate.asked.getLsbD e) && !s.gateDue e)) }

/-- The slot table of a profile: the signed set's entries where they meet R473, and background work on free engines beyond the two hot spares. -/
def State.profileBank (s : State) (p : Profile) : Sparse (BitVec 64) :=
  let used := s.usable.take p.engines
  let rest := (s.usable.drop (p.engines + 2)).zipIdx.map (fun x => (x.1, backgroundEntries s.fuse.part p x.2))
  let table := fun (f : Nat → List (BitVec 64)) => bankOf (used.zipIdx.map (fun x => (x.1, f x.2)))
  let signed := table (profileEntries p)
  let base := if (s.validate signed p).isNone && used.all (fun e => slotsOf signed e ≠ []) then signed else table (plainEntries p s.kn.shed)
  let full := rest.foldl (fun t x => x.2.zipIdx.foldl (fun t y => sset 0 t (16 * x.1 + y.2) y.1) t) base
  if (s.validate full p).isNone then full else base

/-- The results of a SLOT_COMMIT. -/
def State.commitResults (s : State) : List (Nat × Nat) := [(32, s.eng.activeGen), (8, s.eng.lastReject), (8, s.eng.lastRejectEng)]

/-- Benash loads the first profile, No link, as generation 1, once the engines' start-up test has passed: FP_READY.ENGINES waits for it (R127, R133). -/
def State.loadFirst (s : State) : State :=
  if s.eng.lastGen ≠ 0 || !s.ben.up || !s.tested then s
  else
    let bank := s.profileBank .noLink
    (s.modEng (fun g => { g with
      bankA := if g.useB then g.bankA else bank, bankB := if g.useB then bank else g.bankB
      lastGen := 1, activeGen := 1, profile := .noLink, switchPeriod := g.period % 2 ^ 32 })).gateEngines

/-- A repair whose slots have moved is complete: the failed engine is isolated (R147). -/
def State.finishRepair (s : State) : State :=
  match s.eng.repair with
  | some r =>
    if !r.committed then s
    else
      let s1 := (s.modEngine r.failed (fun e => { e with retired := true, failing := false })).modEngine r.spare (fun e => { e with loading := false })
      let s2 := s1.modEng (fun g => { g with repair := none, repFailed := r.failed, repSpare := r.spare, repCause := r.cause, repGen := r.gen })
      (s2.logEntry unitEngines 2 kindRepair r.cause 0x06 r.failed r.spare r.cause r.gen).raiseEvent evEngines
  | none => s

/-- A failing engine that has no slots is retired, without a commit (R146). -/
def State.retireIdle (s : State) (e cause : Nat) : State :=
  ((s.modEngine e (fun x => { x with retired := true, failing := false })).logEntry unitEngines 2 kindRepair cause 0x02 e).raiseEvent evEngines

/-- Failing engines that the new bank gives no slots are retired while automatic causes act (R146; DESIGN CHOICE, log entry 86: with AUTO_REPAIR at 0 they stay
marked). -/
def State.retireFailing (s : State) : State :=
  if !s.eng.autoRepair then s
  else ((List.range s.fuse.part.engines).filter (fun e => (s.engine e).failing && !(s.engine e).retired && !s.hasSlots e)).foldl
    (fun st e => st.retireIdle e (s.engine e).cause) s

/-- A commit is armed: no staging may be opened until its switch (R136). -/
def State.armed (s : State) : Bool := match s.eng.staging with | some g => g.state = 3 | none => false

/-- Open a staging: the active bank is copied, a new generation taken (R134, R136). -/
def State.openStaging (s : State) (host : Bool) : State :=
  s.modEng (fun g => { (g.putInactive g.active) with lastGen := g.lastGen + 1, staging := some { gen := g.lastGen + 1, host := host } })

/-- Benash commits a profile; the switch comes at the next boundary (R132, R136). A commit that is armed is allowed to finish first. -/
def State.commitProfile (s : State) (p : Profile) : State :=
  if s.armed then s.modEng (fun g => { g with laterProfile := some p })
  else
    let s1 := s.openStaging false
    let bank := s1.profileBank p
    s1.modEng (fun g => { (g.putInactive bank) with laterProfile := none, staging := g.staging.map (fun x => { x with state := 3, profile := some p }) })

/-- The slots of one engine move, unchanged, to another, whose background slots go (R147 step 3). -/
def moveSlots (t : Sparse (BitVec 64)) (src dst : Nat) : Sparse (BitVec 64) :=
  (List.range 16).foldl (fun u i => sset 0 (sset 0 u (16 * dst + i) (sget 0 t (16 * src + i))) (16 * src + i) 0) t

/-- Stage a copy of the active bank with one engine's slots moved, and arm it if it validates (R147 steps 3 and 4). -/
def State.stageMove (s : State) (src dst : Nat) : State × Bool :=
  let s1 := s.openStaging false
  let t := moveSlots s1.eng.active src dst
  let s2 := s1.modEng (·.putInactive t)
  match s2.validate t s2.eng.profile with
  | none => (s2.modEng (fun g => { g with staging := g.staging.map (fun x => { x with state := 3 }) }), true)
  | some (code, e) => (s2.modEng (fun g => { g with staging := none, lastReject := code, lastRejectEng := e }), false)

/-- The moved slots of a repair are staged and committed; a copy that does not validate leaves the engine failing (R147, R148). -/
def State.stageRepair (s : State) (r : Repair) : State :=
  let (s2, ok) := s.stageMove r.failed r.spare
  if ok then s2.modEng (fun g => { g with repair := some { r with committed := true, gen := g.lastGen } })
  else ((s2.modEngine r.failed (fun x => { x with failing := true, cause := r.cause })).modEng (fun g => { g with repair := none })).logEntry unitEngines 3 kindFault r.cause 0x02 r.failed

/-- The transmit direction is quiet, or in a refresh window, or waking. -/
def State.txQuiet (s : State) : Bool := s.ql.run.txState = 2 || s.ql.run.txState = 3 || s.ql.run.txState = 4

/-- A SLOT_STAGE OPEN that waited for Quiet-Latch to end, or for an armed switch, opens its staging (R136, R217). -/
def State.openWaiting (s : State) : State :=
  if s.armed || s.txQuiet || s.pwr.state = .quietLatch then s
  else match s.findRun 0x64 (fun _ => true) with
  | some q =>
    let s1 := s.openStaging true
    (s1.unrun q.cap.tag).finish q .ok [(32, s1.eng.lastGen)] []
  | none => s

/-- What waited for the switch goes on: Benash's profile, else a repair's move, else a host's OPEN (R136). -/
def State.afterSwitch (s : State) : State :=
  match s.eng.laterProfile, s.eng.laterMove, s.eng.repair with
  | some p, _, _ => s.commitProfile p
  | none, some _, some r => (s.modEng (fun g => { g with laterMove := none })).stageRepair r
  | none, some _, none => (s.modEng (fun g => { g with laterMove := none })).openWaiting
  | none, none, _ => s.openWaiting

/-- The active bank changes at a timeline boundary (R137). -/
def State.bankSwitch (s : State) : State :=
  match s.eng.staging with
  | some g =>
    if g.state ≠ 3 then s
    else
      let s1 := s.modEng (fun x => { x with
        useB := !x.useB, activeGen := g.gen, switchPeriod := x.period % 2 ^ 32, staging := none
        profile := g.profile.getD x.profile
        eng := if g.profile.isSome then x.eng.map (fun e => { e with dropped := false }) else x.eng })
      let s2 := match g.tag with
        | some t => s1.endRun 0x65 (fun c => c.tag = t) .ok s1.commitResults
        | none => s1
      s2.finishRepair.retireFailing.gateEngines.afterSwitch
  | none => s

/-- Link down or the start of a training supersedes any open staging (R136). -/
def State.supersede (s : State) : State :=
  s.modEng (fun g => { g with staging := match g.staging with | some x => if x.state = 3 then some x else none | none => none })

/-! ### Repair causes (R146 to R149) -/

/-- A training or link down abandons a repair: the engine is failing and the next profile is built without it (R149). -/
def State.abandonRepair (s : State) : State :=
  match s.eng.repair with
  | some r =>
    let s1 := (s.modEngine r.failed (fun e => { e with failing := true, dropped := true, cause := r.cause })).modEngine r.spare (fun e => { e with loading := false })
    s1.modEng (fun g => { g with repair := none, laterMove := none, repFailed := r.failed, repSpare := r.spare, repCause := 7, repGen := r.gen })
  | none => s

/-- A repair cause of an engine that exists: it waits its turn (R146, R149), and an engine without slots is retired at once. With AUTO_REPAIR at 0 an automatic
cause only marks the engine as failing and is logged, with slots or without (DESIGN CHOICE, log entry 86). -/
def State.repairCause (s : State) (e cause : Nat) (auto : Bool) : State :=
  if s.fuse.part.engines ≤ e || (s.engine e).retired || s.eng.repairQueue.any (fun x => x.1 = e) || (match s.eng.repair with | some r => r.failed = e | none => false) then s
  else if auto && !s.eng.autoRepair then
    ((s.modEngine e (fun x => { x with failing := true, cause := cause })).logEntry unitEngines 3 kindFault cause 0x02 e).raiseEvent evEngines
  else if !s.hasSlots e then s.retireIdle e cause
  else s.modEng (fun g => { g with repairQueue := g.repairQueue ++ [(e, cause)] })

/-- An aging alarm of an engine is a cause while AGING_REPAIR is 1 (R146). -/
def State.agingRepair (s : State) (e : Nat) : State := if s.eng.agingRepair then s.repairCause e 4 true else s

/-! ### Late blocks (R101 to R105, R130) -/

/-- Segments from one to another as bits. -/
def segBits (a b : Nat) : BitVec 16 := BitVec.ofNat 16 (ofBools ((List.range 16).map (fun i => decide (a ≤ i) && decide (i ≤ b))))

/-- Change the receive state of a pair. -/
def State.modRx (s : State) (p : Pair) (f : RxPair → RxPair) : State := { s with rx := { s.rx with pair := s.rx.pair.upd p f } }

/-- Mark segments of the period in its processing window as erased; new ones count (R101). -/
def RxPair.eraseNow (x : RxPair) (b : BitVec 16) : RxPair :=
  { x with erase := x.erase ||| b, lateE := x.lateE &&& ~~~b
           cnt := { x.cnt with erasedSeg := satAdd 32 x.cnt.erasedSeg (popCount 16 (b &&& ~~~x.erase).toNat) } }

/-- The same where only the FEXT or the demapper was late: the tentative decisions stand (R94, Table 3-2). -/
def RxPair.eraseEnd (x : RxPair) (b : BitVec 16) : RxPair :=
  let n := b &&& ~~~x.erase
  let y := x.eraseNow b
  { y with lateE := x.lateE ||| n }

/-- The same for the period before, in its decode window. -/
def RxPair.erasePrev (x : RxPair) (b : BitVec 16) : RxPair :=
  { x with eraseD := x.eraseD ||| b, cnt := { x.cnt with erasedSeg := satAdd 32 x.cnt.erasedSeg (popCount 16 (b &&& ~~~x.eraseD).toNat) } }

/-- The same for the next period. -/
def RxPair.eraseAhead (x : RxPair) (b : BitVec 16) : RxPair :=
  { x with eraseNext := x.eraseNext ||| b, cnt := { x.cnt with erasedSeg := satAdd 32 x.cnt.erasedSeg (popCount 16 (b &&& ~~~x.eraseNext).toNat) } }

/-- The same for the period after the next. -/
def RxPair.eraseLater (x : RxPair) (b : BitVec 16) : RxPair :=
  { x with eraseAfter := x.eraseAfter ||| b, cnt := { x.cnt with erasedSeg := satAdd 32 x.cnt.erasedSeg (popCount 16 (b &&& ~~~x.eraseAfter).toNat) } }

/-- Erase segments of a period: 0 the one in its decode window, 1 in its processing window, 2 the next, 3 the one after. -/
def RxPair.eraseAt (x : RxPair) (k : Nat) (b : BitVec 16) : RxPair :=
  match k with
  | 0 => x.erasePrev b
  | 1 => x.eraseNow b
  | 2 => x.eraseAhead b
  | _ => x.eraseLater b

/-- An erased gain-and-interpolation segment of a period erases the equaliser segments that use its samples (R102): itself, the next
one, and with M above 0 the one before. -/
def RxPair.eraseGainAt (x : RxPair) (k g : Nat) : RxPair :=
  let x0 : RxPair := if k = 1 then { x with gainE := x.gainE ||| segBits g g } else if k = 2 then { x with gainNext := x.gainNext ||| segBits g g } else x
  let x1 := x0.eraseAt k (segBits (if x.ffeMain = 0 then g else g - 1) (g + 1))
  let x2 := if g = 15 then x1.eraseAt (k + 1) 1 else x1
  if g = 0 && x.ffeMain ≠ 0 && 0 < k then x2.eraseAt (k - 1) 0x8000 else x2

/-- The same in the processing window. -/
def RxPair.eraseGain (x : RxPair) (g : Nat) : RxPair := x.eraseGainAt 1 g

/-- Count late blocks of a stage of a pair (Table 3-9). -/
def RxPair.drop (x : RxPair) (stage n : Nat) : RxPair :=
  { x with cnt := { x.cnt with drops := modAt x.cnt.drops stage (fun k => satAdd 32 k n) } }

/-- Every gain-and-interpolation segment that an equaliser segment of the processing window uses is erased (R91, R102). -/
def RxPair.ffeDead (x : RxPair) (g : Nat) : Bool :=
  (if g = 0 then x.gainD.getLsbD 15 else x.gainE.getLsbD (g - 1)) && x.gainE.getLsbD g &&
    (x.ffeMain = 0 || (if g = 15 then x.gainNext.getLsbD 0 else x.gainE.getLsbD (g + 1)))

/-- Every tentative decision that a FEXT segment of a pair uses is missing: of the other active pairs, over the segment and the 255 symbols before it (R94). -/
def State.fextDead (s : State) (p : Pair) (g : Nat) : Bool :=
  (s.activePairs.filter (· ≠ p)).all (fun q =>
    let x := s.rx.pair.at q
    (List.range 5).all (fun k => if k ≤ g then (x.erase &&& ~~~x.lateE).getLsbD (g - k) else (x.eraseD &&& ~~~x.lateD).getLsbD (16 + g - k)))

/-- Segments a to b that a test admits, as bits. -/
def segsWhere (a b : Nat) (f : Nat → Bool) : BitVec 16 := BitVec.ofNat 16 (ofBools ((List.range 16).map (fun i => decide (a ≤ i) && decide (i ≤ b) && f i)))

/-- Segments a to b of a task on a pair whose inputs are all erased: they are skipped (R101, R128). -/
def State.deadSegs (s : State) (task : Nat) (p : Pair) (a b : Nat) : BitVec 16 :=
  let x := s.rx.pair.at p
  match task with
  | 0x02 => segsWhere a b x.ffeDead
  | 0x05 => segBits a b &&& x.erase
  | 0x06 => segsWhere a b (s.fextDead p)
  | 0x07 => segBits a b &&& x.erase
  | _ => 0

/-- A late adaptation task skips its part of the newest update (R101, R106); whether there was one. -/
def CoefUpd.skip (u : CoefUpd) (task : Nat) : CoefUpd × Bool :=
  match task with
  | 0x20 => ({ u with gain := none, err := none }, u.gain.isSome || u.err.isSome)
  | 0x21 => ({ u with ffe := none }, u.ffe.isSome)
  | 0x22 => ({ u with echo := none }, u.echo.isSome)
  | 0x23 => ({ u with next := none }, u.next.isSome)
  | 0x24 => ({ u with fext := none }, u.fext.isSome)
  | _ => (u, false)

/-- A late adaptation task: the newest update of its pair loses its part and DROP_ADAPT counts; a part that was frozen is none (R106, R107). -/
def RxPair.lateAdapt (x : RxPair) (task : Nat) : RxPair :=
  match x.upd with
  | u :: t => let r := u.skip task; if r.2 then { (x.drop 7 1) with upd := r.1 :: t } else x
  | [] => x

/-- What follows from a late block of a task over segments a to b of a pair; a segment whose inputs are all erased is skipped, which is no
drop (R101). A late STD1G_DECODE has no counter in Table 3-9 and no rule says what it erases: it counts nowhere (DESIGN CHOICE, log entry 85). -/
def State.lateBlock (s : State) (task : Nat) (p : Pair) (a b : Nat) : State :=
  let live := segBits a b &&& ~~~s.deadSegs task p a b
  let n := popCount 16 live.toNat
  match task with
  | 0x01 => s.modRx p (fun x => (List.range 16).foldl (fun y g => if a ≤ g && g ≤ b then y.eraseGain g else y) (x.drop 0 n))
  | 0x02 => s.modRx p (fun x => (x.drop 1 n).eraseNow (segBits a b))
  | 0x03 => s.modRx p (fun x => (x.drop 2 1).eraseNow (segBits 0 15))
  | 0x04 =>
    let s1 := s.modRx p (fun x => { (x.drop 3 1) with refLate := s.activePair p })
    s1.activePairs.foldl (fun st q => st.modRx q (fun x => (x.drop 2 1).eraseAhead (segBits 0 15))) s1
  | 0x05 => s.modRx p (fun x => (x.drop 4 n).eraseNow (segBits a b))
  | 0x06 => s.modRx p (fun x => (x.drop 5 n).eraseEnd live)
  | 0x07 => s.modRx p (fun x => (x.drop 6 n).eraseEnd (segBits a b))
  | 0x10 => { s with
      eng := { s.eng with txThp := s.eng.txThp.upd p (fun k => satAdd 32 k n) }
      lc := { s.lc with run := { s.lc.run with thpLate := s.lc.run.thpLate.upd p (· ||| segBits a b) } } }
  | 0x11 => { s with
      eng := { s.eng with txFir := s.eng.txFir.upd p (fun k => satAdd 32 k n) }
      lc := { s.lc with run := { s.lc.run with firLate := s.lc.run.firLate.upd p (· ||| segBits a b) } } }
  | 0x20 | 0x21 | 0x22 | 0x23 | 0x24 => s.modRx p (fun x => x.lateAdapt task)
  | _ => s

/-- A slot has no work left once some segments are complete. -/
def slotComplete (w : BitVec 64) (doneSegs : Nat) : Bool := taskSegments (slotTask w) && decide (slotLast w < slotFirst w + doneSegs)

/-- A slot of an engine is stopped as a late block, with the segments it had completed (R101, R128). -/
def State.lateSlot (s : State) (e i doneSegs : Nat) : State :=
  let w := sget 0 s.eng.active (16 * e + i)
  if slotTask w = 0 || slotComplete w doneSegs then s
  else s.lateBlock (slotTask w) ⟨slotPair w, Nat.mod_lt _ (by decide)⟩ (slotFirst w + if taskSegments (slotTask w) then doneSegs else 0) (slotLast w)

/-! ### Program swap (R430) -/

/-- Enabled engines that still run the old programs. -/
def State.oldEngines (s : State) : List Nat := (List.range s.fuse.part.engines).filter (fun e => !(s.engine e).retired && !(s.engine e).newProg)

/-- An engine is loaded with the new programs; with the last one the swap is over. -/
def State.loadNew (s : State) (es : List Nat) : State :=
  let s1 := es.foldl (fun st e => st.modEngine e (fun x => { x with newProg := true })) s
  let n := s1.oldEngines.length
  if 0 < n then { s1 with ben := { s1.ben with swapLeft := n } }
  else
    let s2 : State := { s1 with
      ben := { s1.ben with swapLeft := 0, swapDeferred := false, progverOld := s1.ben.progver, progLayout := s1.runSlot.layout }
      eng := { s1.eng with eng := s1.eng.eng.map (fun x => { x with newProg := false }) } }
    (s2.logEntry unitBenash 1 kindState 14 0x30 s.ben.progverOld s2.ben.progver).raiseEvent evBenash

/-- At a training or link down every engine left is loaded before the next profile commits. -/
def State.finishSwap (s : State) : State := if s.ben.swapLeft = 0 then s else s.loadNew s.oldEngines

/-! ### Objects 0x0200 to 0x0211 (R150 to R155) -/

/-- ENG_CTL. -/
def State.engCtlImage (s : State) : List (Nat × Nat) := [(1, b2n s.eng.autoRepair), (1, b2n s.eng.agingRepair), (6, 0), (4, s.eng.ovhLimit), (52, 0)]

/-- Longest of the waits in the last 1,024 periods, saturating (R151 to R153). -/
def Engines.longest (g : Engines) (ws : List (Nat × Nat)) : Nat :=
  min 65535 ((ws.filter (fun w => decide (g.period < w.1 + 1024))).foldl (fun m w => max m w.2) 0)

/-- Mean of the values of the last 1,024 periods, in 1/k. -/
def meanOf (k : Nat) (l : List Nat) : Nat := if l = [] then 0 else sumNat l * k / l.length

/-- ENG_STATUS. -/
def State.engStatusImage (s : State) : List (Nat × Nat) :=
  let g := s.eng
  let st := match g.staging with | some x => x.state | none => 0
  [(1, b2n g.useB), (2, st), (5, 0), (8, s.healthyEngines),
   (8, ((List.range s.fuse.part.engines).filter (fun e => s.engineState e = 2)).length), (8, g.profile.code), (32, g.activeGen),
   (32, match g.staging with | some x => x.gen | none => 0), (32, g.switchPeriod), (16, s.cycles), (8, g.lastReject), (8, g.lastRejectEng),
   (16, g.longest (g.store.flatMap (·.waits))), (80, 0)]

/-- ENG_STATE. -/
def State.engStateImage (s : State) : List (Nat × Nat) := (List.range 96).map (fun e => (8, s.engineState e))

/-- ENG_COUNTERS. -/
def State.engCountersImage (s : State) : List (Nat × Nat) :=
  (List.range 96).flatMap (fun e =>
    let x := if e < s.fuse.part.engines then s.engine e else {}
    [(16, x.overrun), (16, x.drops), (16, x.overholds), (16, x.bankViol), (16, x.memCe), (16, meanOf 1 x.busy), (16, s.eng.longest x.waits), (16, 0)])

/-- STORE_STATUS. -/
def State.storeImage (s : State) : List (Nat × Nat) :=
  s.eng.store.flatMap (fun b =>
    [(32, b.grants), (32, b.duals), (32, b.reservedCyc), (32, b.deadCyc), (16, s.eng.longest b.waits), (16, b.overholds), (16, b.ce), (16, b.ue),
     (16, meanOf 1024 b.occ / s.cycles), (48, 0)])

/-- OVERHOLD_LAST. -/
def State.overholdImage (s : State) : List (Nat × Nat) :=
  [(8, s.eng.ovhReq), (3, s.eng.ovhBank), (5, 0), (16, s.eng.ovhCycle), (32, s.eng.ovhPeriod)]

/-- REPAIR_LAST. -/
def State.repairImage (s : State) : List (Nat × Nat) :=
  [(8, s.eng.repFailed), (8, s.eng.repSpare), (4, s.eng.repCause), (12, 0), (32, s.eng.repGen)]

/-- TX_DROPS. -/
def State.txDropsImage (s : State) : List (Nat × Nat) := pairs.flatMap (fun p => [(32, s.eng.txThp.at p), (32, s.eng.txFir.at p)])

/-- SLOT_BANK_A and SLOT_BANK_B. -/
def State.bankImage (s : State) (b : Bool) : List (Nat × Nat) :=
  let t := if b then s.eng.bankB else s.eng.bankA
  (List.range 1536).map (fun k => (64, if k / 16 < s.fuse.part.engines then (sget 0 t k).toNat else 0))

end Sys2Proof.Machine
end

