-- ==== Sys2Proof/Machine/QuietOps.lean ====
section
/-! DEFINITION. Quiet-Latch and retrain requests that other units make: STATUS fields, wake causes, fast retrain requests (02 R67, 05 R180, 06 R194 to R217). -/

namespace Sys2Proof.Machine

/-! ### STATUS fields (R66, R67): 0 RF, 1 QR, 2 KR, 3 KA, 4 RA, 5 FR, 6 KPAIR -/

/-- Change the line code's run. -/
def State.modRun (s : State) (f : LcRun → LcRun) : State := { s with lc := { s.lc with run := f s.lc.run } }

/-- The value wanted for a STATUS field. -/
def State.setStatus (s : State) (i v : Nat) : State :=
  s.modRun (fun r => { r with stTx := modAt r.stTx i (fun x => { x with want := v }) })

/-- A STATUS field as sent now. -/
def State.statusTx (s : State) (i : Nat) : FieldTx := s.lc.run.stTx.getD i {}

/-- The partner's STATUS field as acted on under R67. -/
def State.statusRx (s : State) (i : Nat) : Nat := (s.lc.run.stRx.getD i {}).val

/-- One period of a sender's STATUS fields: a new value starts once the present one has been held for 8 periods (R67). -/
def FieldTx.step (x : FieldTx) (allow : Bool) : FieldTx :=
  if x.want ≠ x.now && 8 ≤ x.age && allow then { x with now := x.want, age := 1 } else { x with age := x.age + 1 }

/-- One valid header of a receiver's STATUS fields: a new value counts at its third in a row (R67). -/
def FieldRx.step (x : FieldRx) (v : Nat) : FieldRx :=
  if v = x.val then { x with cand := v, count := 0 }
  else
    let n := if v = x.cand then x.count + 1 else 1
    if 3 ≤ n then { val := v, cand := v, count := 0 } else { x with cand := v, count := n }

/-! ### Quiet-Latch -/

/-- Change Quiet-Latch's run. -/
def State.modQl (s : State) (f : QlRun → QlRun) : State := { s with ql := { s.ql with run := f s.ql.run } }

/-- Change Quiet-Latch's counters. -/
def State.modQlCnt (s : State) (f : QlCounters → QlCounters) : State := { s with ql := { s.ql with cnt := f s.ql.cnt } }

/-- Native Quiet-Latch is in force: POWER_STATE reads 0b01 (R39, R194). -/
def State.inQuiet (s : State) : Bool := s.pwr.state = .quietLatch && s.nativeMode

/-- The framer has nothing to send and no submission for the line is held (R195). -/
def State.txIdle (s : State) : Bool :=
  s.kw.txBuf = [] && s.lc.run.oam = [] && s.lc.run.leaving = [] && s.kw.rings.all (fun e => e.1 = controlRing || e.2.accepted = [])

/-- The conditions of R195. -/
def State.quietAllowed (s : State) : Bool :=
  s.nativeData && s.kn.state = 0 && s.link.qlOk && s.ql.ctl.en && !s.link.frt.want && s.statusRx 5 = 0 && !s.rx.pending && s.txIdle

/-- Withdraw before the quiet start: QR = 0 and the profile that Benash staged goes (R196). -/
def State.withdrawQuiet (s : State) : State :=
  if s.ql.run.txState = 1 then
    ((s.setStatus 1 0).modQl (fun q => { q with txState := 0, idleSince := none })).modEng (fun g => { g with
      staging := match g.staging with | some x => if x.host || x.state = 3 then some x else none | none => none })
  else s

/-- A wake cause arises (R214): a quiet transmit direction will wake at its next start point; a direction that only asked for quiet
withdraws. -/
def State.wakeCause (s : State) (n : Nat) : State :=
  if s.ql.run.txState = 1 then s.withdrawQuiet
  else if (s.ql.run.txState = 2 || s.ql.run.txState = 3) && s.ql.run.wakeDue.isNone then
    State.modQl { s with ql := { s.ql with wakeCause := n } } (fun q => { q with wakeDue := some (n, s.time) })
  else s

/-- Put back the gain, the AFC and the peak strengths held from before a reception (R85, R87, R88). -/
def State.restoreReception (s : State) : State :=
  { s with rx := { s.rx with
    freqOfs := s.rx.heldFreq, afcRun := false, gainRun := false
    pair := s.rx.pair.mapIdx (fun p x => { x with pga := s.rx.heldPga.at p, peak := s.rx.heldPeak.at p }) } }

/-! ### Fast retrain requests (R180) -/

/-- Both ends set FR, LINK_CTL.FR_EN is 1 (R185), and a native link is in data. -/
def State.retrainPossible (s : State) : Bool := s.nativeData && s.link.frOk && s.link.ctl.frEn

/-- Set STATUS.FR; later requests merge into the pending one. -/
def State.askRetrain (s : State) : State :=
  if s.link.frt.want then s
  else ((({ s with link := { s.link with frt := { s.link.frt with want := true, since := s.time } } } : State).setStatus 5 1).wakeCause 3)

/-- Frames of a ring at the framer. -/
def LcRun.framesOf (r : LcRun) (i : Nat) : Nat := (r.leaving.filter (fun x => x.frame.any (fun f => f.ring = i))).length

end Sys2Proof.Machine
end

