-- ==== Sys2Proof/Machine/CalOps.lean ====
section
/-! DEFINITION. Calibration values on their way to targets, and the return to the factory trim, which the end of a CAL_RUN can start (07 R235, R247, R257). -/

namespace Sys2Proof.Machine

/-- Change the calibration values of a pair. -/
def State.modCal (s : State) (p : Pair) (f : CalPair → CalPair) : State := { s with cal := { s.cal with pair := s.cal.pair.upd p f } }

/-- A slice of a pair. -/
def CalPair.slice (c : CalPair) (k : Nat) : Slice := c.slices.getD k {}

/-- One step toward a target. -/
def toward (x t : Int) : Int := if x < t then x + 1 else if t < x then x - 1 else x

/-- Every value of a pair goes to its target at once. -/
def CalPair.settle (c : CalPair) : CalPair :=
  { c with
    swaps := satAdd 16 c.swaps (((c.map.zip c.mapTo).filter (fun x => x.1 ≠ x.2)).length + ((c.cells.zip c.cellsTo).filter (fun x => x.1 ≠ x.2)).length)
    map := c.mapTo
    slices := c.slices.map (fun x => { x with offset := x.offsetTo, gain := x.gainTo, skew := x.skewTo, state := x.stateTo })
    cells := c.cellsTo, hybR := c.hybRTo, hybC := c.hybCTo, swap := none }

/-- HYBRID or DAC detents are in motion. -/
def CalPair.echoMoving (c : CalPair) : Bool := c.cells ≠ c.cellsTo || c.hybR ≠ c.hybRTo || c.hybC ≠ c.hybCTo

/-- Detents pause in a fast retrain and during a Knuckle countdown (R239). -/
def State.detentsPause (s : State) : Bool := s.link.state = 9 || s.kn.run.state = 1 || s.kn.run.state = 4

/-- A lane's phase moves one step per 16 lane frames (R235). Held targets are taken in link states 0 to 2, at once, and in T5 (R247). -/
def State.lanePhase (s : State) (k : Nat) (l : Lane) : Lane :=
  match l.phaseHeld with
  | some t =>
    if s.link.state ≤ 2 then { l with phase := t, phaseTo := t, phaseHeld := none }
    else if s.nativeData then { l with phaseTo := t, phaseHeld := none } else l
  | none => if s.detentsPause then l else { l with phase := (List.range k).foldl (fun x _ => toward x l.phaseTo) l.phase }

/-- Lane frames pass, and with them the lane phases move. -/
def State.lanePhases (s : State) (frames : Nat) : State :=
  let k := (s.dl.frameNo + frames) / 16 - s.dl.frameNo / 16
  let move := s.lanePhase k
  { s with dl := { s.dl with
    frameNo := s.dl.frameNo + frames
    outb := { s.dl.outb with lanes := s.dl.outb.lanes.map move }, inb := { s.dl.inb with lanes := s.dl.inb.lanes.map move } } }

/-- Targets of an imported map: a position whose imported element is retired now keeps the device's element (R247). -/
def importMap (now imported : List Nat) (retired : Nat → Bool) (all : List Nat) : List Nat :=
  let kept := imported.filter (fun k => !retired k)
  ((List.range imported.length).foldl (fun (acc : List Nat × List Nat) k =>
    let w := imported.getD k 0
    if !retired w then (acc.1 ++ [w], acc.2)
    else
      let own := now.getD k 0
      let pick := if !acc.2.contains own then own else (all.find? (fun j => !retired j && !acc.2.contains j)).getD own
      (acc.1 ++ [pick], pick :: acc.2)) (([], kept) : List Nat × List Nat)).1

/-- The operating values that a pair's factory trim gives (R225, R226). -/
def TrimPair.values (t : TrimPair) : CalPair :=
  { map := t.sliceMap, mapTo := t.sliceMap
    slices := t.slices.zipIdx.map (fun x =>
      let n := if t.sliceMap.contains x.2 then 0 else 1
      { offset := x.1.1, gain := x.1.2.1, skew := x.1.2.2, offsetTo := x.1.1, gainTo := x.1.2.1, skewTo := x.1.2.2, state := n, stateTo := n })
    cells := t.cellMap, cellsTo := t.cellMap, cellErr := t.cellErr, hybR := t.hybR, hybC := t.hybC, hybRTo := t.hybR, hybCTo := t.hybC }

/-- A pair's targets are the factory trim again; what is retired stays so (R247, R257). -/
def CalPair.revert (c : CalPair) (f : CalPair) : CalPair :=
  let dead := fun (k : Nat) => decide ((c.slice k).state = 2)
  let map := importMap c.map f.map dead (List.range 36)
  { c with
    mapTo := map
    slices := c.slices.zipIdx.map (fun x => if x.1.state = 2 then x.1 else
      let y := f.slice x.2
      { x.1 with offsetTo := y.offset, gainTo := y.gain, skewTo := y.skew, stateTo := if map.contains x.2 then 0 else 1 })
    cellsTo := importMap c.cells f.cells c.cellRetired.contains (List.range 71), cellErr := f.cellErr, hybRTo := f.hybR, hybCTo := f.hybC }

/-- The factory trim is loaded: at power-on and at core reset (R225, R226). Lane phases are kept as offsets from the factory phase, which is 0. -/
def State.loadTrim (s : State) : State :=
  if !(s.nvm.trim1Good || s.nvm.trim2Good) then s else { s with cal := { s.cal with pair := s.nvm.trim.pair.map (·.values) } }

/-- A pair's new targets come into force at once in link states 0 to 2, and in detents in T5 (R247). -/
def State.release (s : State) (c : CalPair) : CalPair := if s.link.state ≤ 2 then c.settle else c

/-- REVERT: the factory trim as targets (R257, R247); in other states than 0 to 2 and T5 they are held. -/
def State.revert (s : State) : State :=
  let home := fun (ls : List Lane) => ls.map (fun l => { l with phaseHeld := some 0 })
  let free := s.link.state ≤ 2 || s.nativeData
  let s1 : State := { s with
    cal := { s.cal with
      pair := if free then s.cal.pair.mapIdx (fun p c => s.release (c.revert (s.nvm.trim.pair.at p).values)) else s.cal.pair
      heldTargets := if free then none else some none
      dirty := true }
    dl := { s.dl with outb := { s.dl.outb with lanes := home s.dl.outb.lanes }, inb := { s.dl.inb with lanes := home s.dl.inb.lanes } } }
  s1.lanePhases 0

/-- The partial accumulation of every estimate is discarded, and the estimates start again (R231). -/
def State.restartEstimates (s : State) : State :=
  { s with cal := { s.cal with est := s.cal.est.map (fun e => { ({} : PairEst) with axis := e.axis, last := e.last, start := e.start }) } }

end Sys2Proof.Machine
end

