-- ==== Sys2Proof/Machine/Operands.lean ====
section
/-! DEFINITION. The operand form that every Cyoner request shares: which waiting request a row executes, the fields of its capsule, and the order of its checks (R10, R354 to R357, R428, R433). -/

namespace Sys2Proof
open Machine

/-- SPAN of a capsule as written: bits [8:0]. -/
def Capsule.span (c : Capsule) : Nat := c.spanWord.toNat % 512
/-- LENGTH. -/
def Capsule.len (c : Capsule) : Nat := c.length.toNat
/-- Flow number of the header. -/
def Capsule.flowNo (c : Capsule) : Nat := c.flowWord.toNat % 1024
/-- Frame count less 1. -/
def Capsule.fcount (c : Capsule) : Nat := c.flowWord.toNat / 1024
/-- DONE_REQ. -/
def Capsule.doneReq (c : Capsule) : Bool := c.flags.getLsbD 0
/-- PREEMPT. -/
def Capsule.preempt (c : Capsule) : Bool := c.flags.getLsbD 1
/-- An ARGS field: header bytes [pos, pos + n). -/
def Capsule.arg (c : Capsule) (pos n : Nat) : Nat := leAt c.args (pos - 24) n
/-- RSPAN (R354). -/
def Capsule.rspan (c : Capsule) : Nat := c.arg 24 2
/-- The opcode as a number. -/
def Capsule.op (c : Capsule) : Nat := c.opcode.toNat

/-- The form of a request is kept: FLAGS but PREEMPT, FLOW, FCOUNT, SPAN[15:9] and STATUS are 0, RSPAN is 1 to 257, bytes 26 and 27
are 0, and so is every byte from 28 on that the command does not use (R354, R355). `used`: first byte and length. -/
def Capsule.fieldsOk (c : Capsule) (used : List (Nat × Nat)) : Bool :=
  c.flags &&& 0xFD = 0 && c.flowWord = 0 && c.spanWord.toNat / 512 = 0 && c.status = 0 &&
    1 ≤ c.rspan && c.rspan ≤ 257 && c.arg 26 2 = 0 &&
    (List.range 36).all (fun i => c.arg (28 + i) 1 = 0 || used.any (fun u => u.1 ≤ 28 + i && 28 + i < u.1 + u.2))

/-- Objects that a request names: GET_PARAM and SET_PARAM. -/
def Capsule.object (c : Capsule) : Option Nat := if c.op = 0x42 || c.op = 0x43 then some (c.arg 28 2) else none

/-- The flow that a request names (R357). -/
def Capsule.namedFlow (c : Capsule) : Option Nat :=
  if [0x60, 0x61, 0x62, 0x71, 0x72].contains c.op then some (c.arg 28 2)
  else if c.op = 0x42 && [0x0610, 0x0611, 0x0710].contains (c.arg 28 2) then some (c.arg 30 2)
  else none

end Sys2Proof

namespace Sys2Proof.Machine

/-- Two self-tests are of one part (R364, R434): the same test and target, or one of them of the whole device. -/
def samePart (t1 a1 t2 a2 : Nat) : Bool := t1 ≥ 0x10 || t2 ≥ 0x10 || (t1 = t2 && a1 = a2)

/-- Two requests conflict (R238, R357, R396, R434). Two BIST_RUN of one part do not wait: the later one completes with BUSY_SELFTEST. -/
def conflict (a b : Capsule) : Bool :=
  let in2 := fun (l : List Nat) => l.contains a.op && l.contains b.op
  (a.object.isSome && a.object = b.object && (a.op = 0x43 || b.op = 0x43)) ||
  (a.namedFlow.isSome && a.namedFlow = b.namedFlow) ||
  in2 [0x64, 0x65] || in2 [0x59, 0x5A, 0x5B] || in2 [0x50, 0x52] ||
  (a.op = 0x70 && (b.op = 0x71 || b.op = 0x72)) || (b.op = 0x70 && (a.op = 0x71 || a.op = 0x72)) ||
  (in2 [0x54] && !samePart (a.arg 28 2) (a.arg 30 2) (b.arg 28 2) (b.arg 30 2))

/-- A waiting request conflicts with an earlier outstanding one (R357). -/
def State.blocked (s : State) (q : Request) : Bool :=
  ((s.cyo.inbox.takeWhile (fun o => o.cap.tag ≠ q.cap.tag)) ++ s.cyo.running ++ s.cyo.held).any (fun o => conflict o.cap q.cap)

/-- A request that recovery does not execute (R428). -/
def recoveryRefuses (c : Capsule) : Bool :=
  !([0x40, 0x41, 0x58, 0x59, 0x5A, 0x5B].contains c.op || (c.op = 0x42 && c.arg 28 2 / 256 = 8))

/-- Requests that leave the shut-down record armed (R433). -/
def keepsRecord (c : Capsule) : Bool := [0x40, 0x41, 0x42, 0x58, 0x5C].contains c.op

/-- The waiting request with a TAG and opcode that may start now. -/
def State.startable (s : State) (tag : BitVec 16) (op : Nat) : Option Request :=
  match s.cyo.inbox.find? (fun q => q.cap.tag = tag) with
  | some q => if q.cap.op = op && s.ben.up && !s.blocked q then some q else none
  | none => none

/-- Benash starts a request: it leaves the waiting ones, and the shut-down record is disarmed where R433 says. -/
def State.begin (s : State) (q : Request) : State :=
  { s with
    cyo := { s.cyo with inbox := s.cyo.inbox.filter (fun o => o.cap.tag ≠ q.cap.tag) }
    nvm := if keepsRecord q.cap then s.nvm else s.nvm.disarm 1 }

/-- Execute the waiting request with a TAG and opcode. -/
def State.runRequest (s : State) (tag : BitVec 16) (op : Nat) (body : Request → State → State) : State :=
  match s.startable tag op with
  | none => s
  | some q => body q (s.begin q)

/-- Conditions with the statuses they give. -/
abbrev Checks := List (Bool × Status)

/-- A status of tier 1 or 2 of R10. -/
def earlyStatus : Status → Bool
  | .badOpcode | .lenRange | .spanBad | .flowInvalid | .unitAbsent => true
  | _ => false

/-- The status that checks in the order of R10 give a request: in recovery NOT_READY takes its place behind tiers 1 and 2, for requests that recovery does not
execute (R428). -/
def State.failing (s : State) (q : Request) (checks : Checks) : Option Status :=
  if s.ben.recovery && recoveryRefuses q.cap then some ((firstFail (checks.reverse.dropWhile (fun c => !earlyStatus c.2)).reverse).getD .notReady)
  else firstFail checks

/-- The checks of a request in the order of R10: the first that fails ends it with its status and these results; else it goes on. -/
def State.guarded (s : State) (q : Request) (checks : List (Bool × Status)) (results : List (Nat × Nat)) (go : State → State) : State :=
  match s.failing q checks with
  | some st => s.finish q st results []
  | none => go s

/-- First line and bytes of whole lines of an access to n bytes (R314). -/
def wholeLines (a n : Nat) : Nat × Nat := (a / 64 * 64, (a % 64 + n + 63) / 64 * 64)

/-- The window fault of a command's buffer, if any (R324). -/
def State.bufferFault (s : State) (a n : Nat) (wr : Bool) : Option Nat :=
  let (b, m) := wholeLines a n
  let k := s.windowKind b m wr
  if k = 0 then none else some k

end Sys2Proof.Machine
end

