-- ==== Sys2Proof/Machine/Shaping.lean ====
section
/-! DEFINITION. Transmit shaping: the masks, the predicted spectrum, and the backoff it needs (02_native_line_code R57 to R61). -/

namespace Sys2Proof.Machine

/-- The FIR of a pair: its taps, or a single tap of 1.0 at the main-tap index (R57). -/
def Shape.taps (x : Shape) (p : Pair) : List Int := if x.firEn.getLsbD p then x.fir.at p else List.replicate x.mainTap 0 ++ [16384]

/-- The factory masks of Table 2-5: breakpoints in MHz and 0.1 dBm/Hz (R58). -/
def factoryMask : Nat → List (Nat × Int)
  | 0 => [(1, -840), (3000, -840), (4000, -890), (8000, -1000), (12000, -1100)]
  | 1 => [(1, -870), (2500, -870), (4000, -930), (8000, -1040), (12000, -1140)]
  | 2 => [(1, -810), (1500, -810), (2000, -860), (4000, -970), (12000, -1100)]
  | _ => [(1, -840), (1250, -840), (2000, -900), (4000, -1010), (12000, -1140)]

/-- The breakpoints of a mask: 0 to 3 factory, 4 user (Table 2-6). -/
def Shape.mask (x : Shape) (n : Nat) : List (Nat × Int) := if n = 4 then (List.zip x.freq x.level).take x.count else factoryMask n

/-- The level of a mask at a frequency in MHz, 0.1 dBm/Hz: linear between breakpoints (R58). -/
def maskLevel : List (Nat × Int) → Nat → Rat
  | (f0, l0) :: (f1, l1) :: t, f =>
    if f ≤ f1 then (l0 : Rat) + ((l1 - l0 : Int) : Rat) * (((f : Int) - f0 : Int) : Rat) / (((f1 : Int) - f0 : Int) : Rat) else maskLevel ((f1, l1) :: t) f
  | [(_, l)], _ => l
  | [], _ => 0

/-- Backoff in 0.25 dB that a predicted level in 0.01 dBm/Hz needs to lie at or below a mask level in 0.1 dBm/Hz. -/
def stepsFor (level : Int) (mask : Rat) : Nat := ⌈((level : Rat) - 10 * mask) / 25⌉.toNat

/-- The least backoff with which a prediction complies with a mask at every frequency from 1 to 12,000 MHz, taken in steps of 1 MHz (DESIGN CHOICE, log entry 91). -/
def neededBackoff (level : Nat → Int) (mask : List (Nat × Int)) : Nat :=
  (List.range 12000).foldl (fun n k => max n (stepsFor (level (k + 1)) (maskLevel mask (k + 1)))) 0

/-- Effective backoff of a pair under a mask in a mode (R60): the one asked for, raised until the prediction complies. With the FIR off and no backoff asked no
device adds any under factory masks 0 and 2, nor more than 20 steps under masks 1 and 3. -/
def Shape.effective (x : Shape) (driver : List Int) (m : Rung) (mask : Nat) (p : Pair) : Nat :=
  let need := neededBackoff (freeSpectrum m (x.taps p) driver) (x.mask mask)
  if !x.firEn.getLsbD p && x.backoff = 0 && mask < 4 then (if mask = 0 || mask = 2 then 0 else min 20 need) else max x.backoff need

/-- The native mode that a prediction is made for: the one trained, else the one last trained, else the part's highest (DESIGN CHOICE, log entry 91). -/
def State.shapeMode (s : State) : Rung :=
  match s.link.mode with
  | some m => if m < 2 then m else s.lc.shapeRung.getD s.fuse.part.top
  | none => s.lc.shapeRung.getD s.fuse.part.top

/-- Settings that came into force: the effective backoff of every pair, and a log entry where some was added (R60). -/
def State.predictShape (s : State) : State :=
  let x := s.lc.force
  let m := s.shapeMode
  let mask := if m = 0 then x.mask100 else x.mask50
  let eff : Quad Nat := (⟨0, 1, 2, 3⟩ : Quad Pair).map (fun p => x.effective (s.nvm.trim.pair.at p).driver m mask p)
  let s1 : State := { s with lc := { s.lc with effBackoff := eff } }
  if eff.toList.any (fun e => x.backoff < e) then s1.logEntry unitLine 2 kindLimit 7 0x20 (eff.toList.foldl max 0) x.backoff mask else s1

/-- Shaping settings come into force at a training (R60, R61): those stored where some are pending. -/
def State.shapeTraining (s : State) (m : Rung) : State :=
  let s1 : State := { s with lc := { s.lc with
    force := if s.lc.shapePend then s.lc.stored else s.lc.force, shapePend := false, shapeRung := if m < 2 then some m else s.lc.shapeRung } }
  if s.lc.shapePend || m < 2 then s1.predictShape else s1

/-- Shaping settings are written (R61): stored during a native training or link, else in force at once, where settings stored earlier stay pending. -/
def State.storeShape (s : State) (f : Shape → Shape) : State :=
  let x := f s.lc.stored
  if s.nativeMode && 3 ≤ s.link.state && s.link.state ≤ 9 then { s with lc := { s.lc with stored := x, shapePend := true } }
  else State.predictShape { s with lc := { s.lc with stored := x, force := f s.lc.force } }

end Sys2Proof.Machine
end

