-- ==== Sys2Proof/Machine/LinkOps.lean ====
section
/-! DEFINITION. Link up, link down, failures and the rate ladder, and what they do to every unit (05_negotiation R156 to R185, with 01 R33, 04 R136 and R149, 06 R216, 07 R236, R239 and R256, 08 R269). -/

namespace Sys2Proof.Machine

/-- Change the link. -/
def State.modLink (s : State) (f : Link → Link) : State := { s with link := f s.link }

/-- Change the link's counters. -/
def State.modLinkCnt (s : State) (f : LinkCounters → LinkCounters) : State := { s with link := { s.link with cnt := f s.link.cnt } }

/-- Change the line code's counters. -/
def State.modLc (s : State) (f : LcCounters → LcCounters) : State := { s with lc := { s.lc with cnt := f s.lc.cnt } }

/-- A rung may be advertised under settings, LADDER_POS apart (R158). -/
def State.mayAdvertise (s : State) (c : LinkCtl) (r : Rung) : Bool :=
  s.rungAvailable r && bitAt c.rungEn r && c.cap ≤ r && (!c.pinEn || c.pin = r)

/-- A rung may be advertised at the next negotiation. -/
def State.advertisable (s : State) (r : Rung) : Bool := s.mayAdvertise s.link.ctl r

/-- A rung is advertised in the present negotiation (R158). -/
def State.advertised (s : State) (r : Rung) : Bool := s.mayAdvertise s.link.used r && s.link.ladderPos ≤ r

/-- The highest advertisable rung (R179). -/
def State.ladderTop (s : State) : Rung := ((List.range 8).find? s.advertisable).getD s.fuse.part.top

/-- LADDER_POS returns to the highest advertisable rung, and FAIL_COUNT to 0 (R179). -/
def State.ladderReset (s : State) : State := s.modLink (fun l => { l with ladderPos := s.ladderTop, failCount := 0, resetDue := false })

/-- A cause of a ladder reset: kept while a link is up (R179). -/
def State.askLadderReset (s : State) : State := if 3 ≤ s.link.state then s.modLink (fun l => { l with resetDue := true }) else s.ladderReset

/-- A counted failure's step (R178). -/
def State.ladderStep (s : State) (rung : Rung) : State :=
  let n := (if s.link.countRung = rung then s.link.failCount else 0) + 1
  if n < 3 then s.modLink (fun l => { l with failCount := n, countRung := rung })
  else
    let below := (List.range 8).find? (fun r => rung < r && s.advertisable r)
    let s1 := match below with
      | some r =>
        if s.link.ctl.pinEn then s.modLink (fun l => { l with failCount := 0, countRung := rung })
        else s.modLink (fun l => { l with
          failCount := 0, countRung := rung, ladderPos := r, lastStep := some s.porNs, cnt := { l.cnt with stepDowns := inc 32 l.cnt.stepDowns } })
      | none => s.modLink (fun l => { l with failCount := 0, countRung := rung })
    (s1.logEntry unitLine 1 kindState 10 0x01 s.link.ladderPos s1.link.ladderPos rung).raiseEvent evLink

/-! ### What a link down ends -/

/-- A capsule fetched and not yet passed on fails with its frames. -/
def Accepted.fail (a : Accepted) (control : Bool) : InFlight :=
  { opcode := a.cap.opcode.toNat, tag := a.cap.tag.toNat, doneReq := a.cap.doneReq || control, gen := a.gen, left := 0, sent := 0, stamp := none
    failed := a.cap.opcode = 1 || a.cap.opcode = 2 }

/-- Frames that capsules fetched and not yet passed on hold. -/
def Ring.fetchedFrames (r : Ring) : Nat := sumNat (r.accepted.map (fun a => if a.cap.opcode = 1 || a.cap.opcode = 2 then a.cap.fcount + 1 else 0))

/-- Frames fetched or in the transmit buffer are discarded and counted, and those at the framer are lost; their capsules have failed
(R341). -/
def State.dropTx (s : State) : State :=
  let counts := s.kw.txBuf.foldl (fun st f => st.modStats f.ring (fun t => { t with txDiscard := inc 16 t.txDiscard })) s
  let more := (counts.kw.rings.filter (fun e => e.1 ≠ controlRing && e.2.fetchedFrames ≠ 0)).foldl
    (fun st e => st.modStats e.1 (fun t => { t with txDiscard := satAdd 16 t.txDiscard e.2.fetchedFrames })) counts
  { more with kw := { more.kw with
    txBuf := []
    rings := smap {} more.kw.rings (fun i r => if i = controlRing then r else
      { r with
        inflight := r.inflight.map (fun f => if 0 < f.left then { f with left := 0, failed := true } else f)
          ++ (r.accepted.filter (fun a => a.cap.opcode ≠ 3)).map (·.fail false)
        accepted := r.accepted.filter (fun a => a.cap.opcode = 3) }) } }

/-- A REVERT that was held behind the run takes effect (R257). -/
def State.heldRevert (s : State) : State := if s.cal.revertDue then State.revert { s with cal := { s.cal with revertDue := false } } else s

/-- A CAL_RUN completes: OK, or TIMEOUT when an item ended TIMEOUT (R240). -/
def State.finishCal (s : State) : State :=
  match s.cal.run with
  | none => s
  | some r =>
    let st := if r.results.contains 7 then Status.timeout else .ok
    let v := packNat (r.results.map (fun x => (3, x)))
    (State.endRun { s with cal := { s.cal with run := none, results := r.results } } 0x50 (fun c => c.tag = r.tag) st [(16, v)]).heldRevert

/-- End every item left of a CAL_RUN with a result (R239, R240), on the pairs a test admits. -/
def State.endCalItems (s : State) (code : Nat) (which : Nat → Bool) : State :=
  match s.cal.run with
  | none => s
  | some r =>
    let gone := r.left.filter (fun x => which x.2)
    let rest := r.left.filter (fun x => !which x.2)
    let res := gone.foldl (fun l x => setAt l x.1 code) r.results
    let s1 : State := { s with cal := { s.cal with run := some { r with left := rest, results := res } } }
    if rest = [] then s1.finishCal else s1

/-- A swap is abandoned with the outgoing slice active (R236). -/
def CalPair.dropSwap (c : CalPair) : CalPair :=
  match c.swap with
  | none => c
  | some w => { c with swap := none, mapTo := setAt c.mapTo w.pos w.out, slices := modAt c.slices w.out (fun x => { x with stateTo := 0 }) }

/-- Replacements that have not begun are given up. -/
def CalPair.dropSelect (c : CalPair) : CalPair :=
  { c with mapTo := c.map, slices := c.slices.map (fun x => { x with stateTo := x.state }) }

/-- CAL_RUN at link down or training start (R236, R239). -/
def State.calLinkChange (s : State) : State :=
  let left := match s.cal.run with | some r => r.left | none => []
  let s1 : State := { s with cal := { s.cal with
    pair := s.cal.pair.mapIdx (fun p c => if left.contains (1, p.val) then c.dropSwap.dropSelect else c.dropSwap) } }
  s1.endCalItems 4 (fun _ => true)

/-- The trace of a run, 8,256 bytes (Table 8-3). -/
def State.traceBytes (s : State) (r : DiagRun) : List Byte :=
  let head := packBytes 64 [(32, 0x52544451), (16, 1), (16, 64), (32, 8256), (16, s.mon.nvp), (8, s.mon.offsetCm), (8, r.pairs.toNat), (16, r.range), (16, r.blocks)]
  head ++ pairs.flatMap (fun p =>
    let b := r.bins.at p
    let got := b ≠ []
    packBytes 16 [(8, if got then p.val else 0xFF), (8, s.diag.tdrResult.getD p 0)] ++
      ((List.range 1000).flatMap (fun j => leBytes 2 (ofInt 16 (if got && j < r.range then b.getD j 0 else 0)))) ++ List.replicate 32 0)

/-- The image of DIAG_STATUS (Table 8-5). -/
def State.diagStatusImage (s : State) : List (Nat × Nat) :=
  let d := s.diag
  [(1, b2n d.run.isSome), (3, d.nextResult)] ++ d.tdrResult.map (fun x => (3, x)) ++ [(8, d.restarts), (8, 0), (16, d.discarded), (16, d.elapsed)]

/-- Queue a link OAM item of a type with its body, bytes 8 to 59 (R276): it takes the next OAM_SEQ. Standard modes have no OAM. -/
def State.sendOam (s : State) (typ : Nat) (body : List Byte) : State :=
  if !s.nativeData then s
  else
    let item := packBytes 8 [(16, typ), (8, 1), (8, 0), (32, s.lc.run.oamSeq)] ++ fitBytes 52 body
    { s with
      lc := { s.lc with run := { s.lc.run with oam := s.lc.run.oam ++ [item ++ leBytes 4 (crc32 item)], oamSeq := (s.lc.run.oamSeq + 1) % 2 ^ 32 } }
      mon := { s.mon with oamTx := inc 32 s.mon.oamTx } }

/-- QUIET_REQ: pair in this end's numbering, ACTION and DURATION in ms (R270). -/
def State.sendQuietReq (s : State) (p : Pair) (action ms : Nat) : State := s.sendOam 2 (packBytes 4 [(8, p.val), (8, action), (16, ms)])

/-- QUIET_ACK: pair in this end's numbering, ACTION answered and RESULT (R270, R283). -/
def State.sendQuietAck (s : State) (p : Pair) (action result : Nat) : State :=
  let s1 := s.sendOam 3 (packBytes 3 [(8, p.val), (8, action), (8, result)])
  if result = 0 then s1 else { s1 with mon := { s1.mon with quietRefused := inc 32 s1.mon.quietRefused } }

/-- A DIAG_TDR run ends: the partner is released, the trace is written, negotiation restarts, and the command completes (R262, R263,
R270, R271). -/
def State.finishDiag (s : State) (st : Status) : State :=
  match s.diag.run with
  | none => s
  | some r =>
    let t : State := if r.onShed then s.sendQuietReq s.kn.shed 0 1 else s
    let s0 : State := { t with diag := { t.diag with run := none, elapsed := min 65535 ((t.time - r.since) / 1000000) } }
    let s1 := if r.outAddr = 0 then s0 else s0.writeLines r.outAddr 129 (s0.traceBytes r)
    let s2 := if r.suspended && s1.link.state = 1 then s1.modLink (fun l => { l with neg := {} }) else s1
    s2.endRun 0x53 (fun c => c.tag = r.tag) st [(64, packNat s2.diagStatusImage)]

/-- Tests of a run not yet ended take a result, and the run ends (R263, R269). -/
def State.endDiagTests (s : State) (code : Nat) (st : Status) : State :=
  match s.diag.run with
  | none => s
  | some r =>
    let tdr := r.left.foldl (fun l k => if k < 4 then setAt l k code else l) s.diag.tdrResult
    let nx := if r.left.any (4 ≤ ·) then code else s.diag.nextResult
    State.finishDiag { s with diag := { s.diag with tdrResult := tdr, nextResult := nx, run := some { r with left := [] } } } st

/-- LINK_UP, TRAIN, LINK_DOWN or a REINSTATE ends a run's tests with INTERRUPTED (R269). -/
def State.interruptDiagRun (s : State) : State := s.endDiagTests 4 .ok

/-- A DIAG_TDR found running after a Benash restart (R366). -/
def State.interruptDiag (s : State) (_q : Request) : State := s.interruptDiagRun

/-- After a Benash restart a CAL_RUN completes with its items not complete as INTERRUPTED (R239). -/
def State.resumeCalibration (s : State) : State := s.endCalItems 4 (fun _ => true)

/-- A KNUCKLE command that runs ends with a status (R248, R251). -/
def State.endKnuckle (s : State) (st : Status) : State :=
  match s.kn.run.request with
  | some (_, t) => State.endRun { s with kn := { s.kn with run := { s.kn.run with request := none } } } 0x4B (fun c => c.tag = t) st []
  | none => s

/-- Change Knuckle's run. -/
def State.modKn (s : State) (f : KnRun → KnRun) : State := { s with kn := { s.kn with run := f s.kn.run } }

/-- A direction has changed form: once both have, the Knuckle profile is committed, or the return to four-pair form is complete (R252,
R255). -/
def State.formsChanged (s : State) : State :=
  let k := s.kn.run
  if k.state = 1 && k.txForm && k.rxForm then s.commitProfile (Profile.ofRung (s.link.mode.getD 0) true)
  else if k.state = 4 && !k.txForm && !k.rxForm then
    State.endKnuckle { s with kn := { s.kn with reinstates := inc 8 s.kn.reinstates, run := { k with state := 0, formSearch := k.formSearch } } } .ok
  else s

/-- The Knuckle profile has taken effect: the link is in Knuckle form and the command completes (R248, R252). -/
def State.knuckleSettled (s : State) : State :=
  let k := s.kn.run
  if k.state = 1 && k.txForm && k.rxForm && (s.eng.profile = .n100k || s.eng.profile = .n50k) then
    (State.endKnuckle { s with kn := { s.kn with entries := inc 8 s.kn.entries, run := { k with state := 2 } } } .ok).gateEngines
  else s

/-- The item that the deframer is in is given up: a frame or OAM item counts as errored, and a frame already delivered under early head is reported as discarded
(R73, R74, R345). -/
def State.dropItem (s : State) : State :=
  match s.lc.item with
  | none => s
  | some it =>
    let s0 := if it.isIdle then s else s.modLc (fun c => { c with framesErrored := inc 32 c.framesErrored })
    let s1 : State := { s0 with lc := { s0.lc with item := none } }
    match it.cls with
    | some c =>
      if c.early.isSome then { s1 with kw := { s1.kw with arrived := s1.kw.arrived ++ [{ bytes := it.bytes, stamp := it.stamp, good := false, cls := some c }] } }
      else s1
    | none => s1

/-- Everything that a link down ends in the line units (R136, R149, R114, R256, R184, R262). `retrain`: the status of a TRAIN fast. -/
def State.lineDown (s : State) (retrain : Status) : State :=
  let m := s.link.mode.getD 0
  let s1 := ((s.dropItem.calLinkChange.endKnuckle .notReady).endRun 0x4A (fun _ => true) retrain []).dropTx
  let s2 := (s1.abandonRepair.supersede).finishSwap.commitProfile .noLink
  let s3 : State := { s2 with
    lc := { s2.lc with run := {}, item := none }
    rx := { s2.rx with pending := false, gainRun := false, afcRun := false, pair := s2.rx.pair.map (fun x => { x with stale := true, heldMode := m, lagRun := 0 }) }
    ql := { s2.ql with run := {} }
    kn := { s2.kn with run := {} }
    pwr := { s2.pwr with state := if s2.pwr.state = .quietLatch then .active else s2.pwr.state }
    link := { s2.link with mode := none, confirmed := false, ra := false, frt := {}, train := {} }
    diag := { s2.diag with quietUntil := none } }
  let onShed := match s3.diag.run with | some r => r.onShed | none => false
  State.openWaiting (if onShed then s3.interruptDiagRun else s3)

/-! ### Failures (R172, R173) -/

/-- A cause counts toward the ladder (Table 5-8). -/
def State.causeCounts (s : State) (cause : Nat) : Bool :=
  [1, 3, 0xB].contains cause || ([6, 7, 8, 0xC].contains cause && !s.link.confirmed)

/-- TRAIN_LAST of a failure now. -/
def State.trainLast (s : State) (cause : Nat) (counted : Bool) : TrainLast :=
  { phase := s.link.state, cause := cause, rung := s.link.mode.getD s.link.ladderPos, counted := counted
    elapsed := min 65535 ((s.time - s.link.since) / 100000), uptime := s.porNs / 1000000000 % 2 ^ 32 }

/-- Steps 2 to 5 of R173: the record, the counter, the event and the log entry. -/
def State.recordFailure (s : State) (cause : Nat) (counted quiet : Bool) : State :=
  let s1 : State := { s with link := { s.link with
    trainLast := s.trainLast cause counted
    lastNegCause := if cause = 4 || cause = 5 then cause else 0
    cnt := { s.link.cnt with
      trainFails := if counted then inc 32 s.link.cnt.trainFails else s.link.cnt.trainFails
      trainAborts := if counted then s.link.cnt.trainAborts else inc 32 s.link.cnt.trainAborts } } }
  let s2 := s1.raiseEvent evLink
  if quiet then s2 else s2.logEntry unitLine 1 kindState 1 0x03 s.link.trainLast.cause cause s1.link.trainLast.rung

/-- Enter a state of LINK_STATUS. -/
def State.enter (s : State) (n : Nat) : State := s.modLink (fun l => { l with state := n, since := s.time })

/-- A training, a negotiation or a link fails with a cause (R173, R174): what ran ends, it is recorded, the ladder steps, and the
break begins. A cause that arises in the break or in negotiation is recorded only, MS_FAULT and NO_COMMON apart. -/
def State.linkFail (s : State) (cause : Nat) (retrain : Status := .notReady) (silent : Bool := false) : State :=
  let counted := s.causeCounts cause
  let rung := s.link.mode.getD s.link.ladderPos
  let quiet := silent || ((cause = 4 || cause = 5) && s.link.lastNegCause = cause)
  let s1 := s.recordFailure cause counted quiet
  let s2 := if counted then s1.ladderStep rung else s1
  if s.link.state = 0 then s
  else if (s.link.state = 1 && cause ≠ 4 && cause ≠ 5) || s.link.state = 2 then s2
  else
    let s3 := if s.linkInData then s2.modLinkCnt (fun c => { c with linkDowns := inc 32 c.linkDowns }) else s2
    (s3.lineDown retrain).enter 2

/-- A failure of a link in training or data only. -/
def State.linkDown (s : State) (cause : Nat) : State := if 3 ≤ s.link.state then s.linkFail cause else s

/-- The link is taken down and stays administratively down (R184). -/
def State.adminDown (s : State) : State :=
  if s.link.state = 0 then s
  else
    let s1 := s.interruptDiagRun
    let s2 := if s1.linkInData then s1.modLinkCnt (fun c => { c with linkDowns := inc 32 c.linkDowns }) else s1
    let s3 := s2.recordFailure 9 false false
    (if 3 ≤ s.link.state then s3.lineDown .notReady else s3).enter 0

/-- FP_READY.DIELINK falls to 0: cause DIELINK (R33, R173, R174). -/
def State.dielinkFall (s : State) : State := if s.dl.ready then State.linkFail { s with dl := { s.dl with ready := false } } 0xA else s

/-! ### Negotiation and data -/

/-- A cause to leave Dormant (R43): exit begins; DEEP_LOW_POWER_EXIT ends it. -/
def State.leaveDormant (s : State) : State :=
  if s.pwr.state = .dormant then { s with pwr := { s.pwr with dormExit := true } } else s

/-- More than RECLIMB hours have passed since the last step down (R179). -/
def State.reclimbDue (s : State) : Bool :=
  match s.link.lastStep with
  | some t => s.link.ctl.reclimb ≠ 0 && s.link.ctl.reclimb * 3600000000000 < s.porNs - t
  | none => false

/-- At the start of a negotiation the ladder resets that waited are made (R179). -/
def State.dueReset (s : State) : State :=
  if s.link.resetDue || s.reclimbDue then s.ladderReset.modLink (fun l => { l with lastStep := if s.reclimbDue then none else l.lastStep }) else s

/-- Negotiation is to begin from the start of Clause 28 (R173). -/
def State.startNegotiation (s : State) : State := (s.enter 1).modLink (fun l => { l with neg := {}, noPartner := false, mode := none })

/-- U2 of the native ability message (Table 5-3). -/
def State.ownU2 (s : State) : Nat :=
  packNat [(1, b2n (s.advertised 0)), (1, b2n (s.advertised 1)), (1, b2n (s.ready .knuckle)), (1, b2n s.ql.ctl.en), (1, b2n s.link.used.frEn),
    (2, s.link.used.msMode), (4, 1)]

/-- U2[3] of the T40 compatibility message (R188). -/
def State.offersLegacy (s : State) : Bool := s.ready .legacyWake && s.ql.ctl.legacyEn && s.link.used.eeeEn

/-- The base link codeword (R157): selector 1, PAUSE, ASM_DIR and Next Page at the places of IEEE 802.3 (PRESUMED, log entry 12). -/
def LinkCtl.basePage (c : LinkCtl) : Nat := 1 + 2 ^ 10 * b2n c.pause + 2 ^ 11 * b2n c.asmDir + 2 ^ 15

/-- Negotiation may begin: negotiating, not begun, the line ready, not in Dormant, and no DIAG_TDR holds it off (R157, R184, R262). -/
def State.mayNegotiate (s : State) : Bool :=
  s.link.state = 1 && !s.link.neg.begun && s.lineReady && !s.heldReset && s.pwr.state ≠ .dormant && !(match s.diag.run with | some r => r.suspended | none => false)

/-- One bit per rung of a list. -/
def rungBits (l : List Rung) : Nat := sumNat (l.map (fun r => 2 ^ r))

/-- Rungs advertised in the present negotiation (R158). -/
def State.advertisedRungs (s : State) : List Rung := (List.range 8).filter s.advertised

/-- The user-defined bits of the three fields of Table 5-3: U1, U2, U3, each least significant bit first (R159). -/
def fieldBits (u1 u2 u3 : Nat) : List Bool := toBools 11 u1 ++ toBools 11 u2 ++ toBools 11 u3

/-- The Parnelys OUI (R159). -/
abbrev parnelysOui : Nat := 0x2A7D19

/-- The native ability message is sent. -/
def State.sendsNative (s : State) : Bool := s.advertised 0 || s.advertised 1

/-- The T40 compatibility message is sent (R188). -/
def State.sendsLegacy (s : State) : Bool := s.fuse.part.legacyWake && s.advertisedRungs.any (2 ≤ ·)

/-- The base page and the messages of Table 5-2, in the order they are sent (R157 to R159, R188). Which standard rungs have a fast retrain in their clause is
PRESUMED: all but 1000BASE-T (log entry 12). -/
def State.negotiationPages (s : State) (seed : Nat) : List Out :=
  let u := s.link.used
  let mid := s.advertisedRungs.filter (fun r => 2 ≤ r && r < 7)
  [.basePage u.basePage] ++
    (if s.advertised 7 then [.abilities 1 (2 ^ 7) 0 u.msMode seed] else []) ++
    (if mid ≠ [] then [.abilities 2 (rungBits mid) (if u.frEn then rungBits mid else 0) u.msMode seed] else []) ++
    (if u.eeeEn && s.advertisedRungs.any (2 ≤ ·) then [.abilities 3 (rungBits (s.advertisedRungs.filter (2 ≤ ·))) 0 0 0] else []) ++
    (if s.sendsNative then [.ouiMessage 5 parnelysOui (fieldBits 0x5A7 s.ownU2 seed)] else []) ++
    (if s.sendsLegacy then [.ouiMessage 5 parnelysOui (fieldBits 0x2E1 (8 * b2n s.offersLegacy) 0)] else [])

/-- Negotiation begins (R157 to R159, R179): waiting ladder resets are made, the settings are taken, a seed is drawn, the messages go out, and a LINK_UP
completes. -/
def State.beginNegotiation (s : State) : State :=
  if !s.mayNegotiate then s
  else
    let s1 := s.dueReset.modLink (fun l => { l with used := l.ctl })
    let seed := freeSeed s1.draws
    let s2 := s1.modLink (fun l => { l with
      neg := { since := s1.time, begun := true, seed := seed, rungs := rungBits s1.advertisedRungs
               sent := if s1.sendsNative then some s1.ownU2 else none, sentLegacy := s1.sendsLegacy && s1.offersLegacy }
      cnt := { l.cnt with negStarts := inc 32 l.cnt.negStarts } })
    let s3 := (s1.negotiationPages seed.toNat).foldl State.emit s2.drawn
    s3.endRun 0x48 (fun _ => true) .ok []

/-- Distance of a lag in ps, in 0.1 m: t × NVP × c / 2 − OFFSET (R265); c = 299,792,458 m/s. -/
def State.distance (s : State) (ps : Nat) : Int :=
  (((ps * s.mon.nvp * 299792458 : Nat) : Int) - (s.mon.offsetCm : Int) * 20000000000000) / 200000000000000

/-- A lag in ps lies beyond a distance in m. -/
def State.beyond (s : State) (ps m : Nat) : Bool := decide ((m : Int) * 2000000000000000 < ((ps * s.mon.nvp * 299792458 : Nat) : Int) - (s.mon.offsetCm : Int) * 20000000000000)

/-- Entry into data (R166, R173, R280): the counter, the confirmation and the trend's rung. -/
def State.enterData (s : State) : State :=
  let r := s.link.mode.getD 0
  let s1 := (s.enter 8).modLink (fun l => { l with upSince := s.time, confirmed := false, cnt := { l.cnt with linkUps := inc 32 l.cnt.linkUps } })
  let s2 : State := { s1 with mon := if s1.mon.rung = r then s1.mon else { s1.mon with rung := r, head := 0, count := 0, trend := Quad.all [], samples := Quad.all [] } }
  s2.raiseEvent evLink

/-- The sample cycle of R26 restarts with the period under way (R286; DEDUCED at the start of a training, log entry 21). -/
def State.restartCycle (s : State) : State := { s with dl := { s.dl with cycleAt := s.dl.frameNo, cyclePeriod := s.eng.period } }

/-- RX_CTL.FFE_MAIN and stored shaping come into force at a training (R61, R91, R117). -/
def State.startTraining (s : State) (m : Rung) (n : Nat) : State :=
  let s1 := (s.dropItem.calLinkChange.abandonRepair.supersede).finishSwap.commitProfile (Profile.ofRung m false)
  let s2 := (s1.restartCycle.enter n).modLink (fun l => { l with mode := some m, train := {}, frt := {}, ra := false })
  State.shapeTraining (m := m) { s2 with
    lc := { s2.lc with run := {}, item := none, pre := Quad.all {} }
    rx := { s2.rx with pair := s2.rx.pair.map (fun x => { x with ffeMain := s2.rx.ctl.ffeMain }) } }

/-- A fast retrain request of a drift trip or a store error (R180): without FR at both ends the link goes down with FR_FAIL. -/
def State.requestRetrain (s : State) : State :=
  if s.retrainPossible then s.askRetrain
  else if s.nativeData then ((s.logEntry unitLine 1 kindState 9 0x01).linkFail 8 .timeout) else s

/-! ### Hooks of self-tests and aging (R146, R232, R432) -/

/-- Background work on an engine stops for a test as for a repair (R434, R147). -/
def State.stopBackground (s : State) (test target : Nat) : State :=
  if test = 1 && s.backgroundOnly target && s.diag.run.isSome then { s with diag := { s.diag with restarts := inc 8 s.diag.restarts } } else s

/-- An on-demand self-test failed: an engine is a repair cause (R146). -/
def State.retireElement (s : State) (test target : Nat) : State := if test = 1 then s.repairCause target 5 true else s

/-- Change one direction of the die link. -/
def State.modDir (s : State) (inb : Bool) (f : DlDir → DlDir) : State :=
  { s with dl := if inb then { s.dl with inb := f s.dl.inb } else { s.dl with outb := f s.dl.outb } }

/-- One direction. -/
def State.dir (s : State) (inb : Bool) : DlDir := if inb then s.dl.inb else s.dl.outb

/-- Direction and lane of a BIST lane target. -/
def laneTarget (t : Nat) : Bool × Nat := (decide (t ≥ 0x100), t % 0x100)

/-- A lane is spare or retired (R434). -/
def State.laneIdle (s : State) (t : Nat) : Bool :=
  0x18 ≤ ((s.dir (laneTarget t).1).lanes.getD (laneTarget t).2 {}).logical

/-- A retired lane that passes its test becomes a spare again (R434). -/
def State.laneToSpare (s : State) (t : Nat) : State :=
  s.modDir (laneTarget t).1 (fun d => { d with lanes := modAt d.lanes (laneTarget t).2 (fun l => if l.logical = 0xFE then { l with logical := 0xFF } else l) })

/-- A slice that an aging monitor calls unfit (R232). -/
def State.sliceUnfit (s : State) (p e : Nat) : State :=
  { s with cal := { s.cal with pair := s.cal.pair.upd ⟨p % 4, Nat.mod_lt _ (by decide)⟩ (fun c => { c with slices := modAt c.slices e (fun x => { x with unfit := true }) }) } }

/-! ### Lanes of the die link (R31 to R35) -/

/-- A lane of a direction. -/
def DlDir.lane (d : DlDir) (k : Nat) : Lane := d.lanes.getD k {}

/-- Change a lane. -/
def DlDir.modLane (d : DlDir) (k : Nat) (f : Lane → Lane) : DlDir := { d with lanes := modAt d.lanes k f }

/-- Logical lanes of a map, ascending: full or reduced (R30, R33). -/
def logicalLanes (reduced : Bool) : List Nat := (List.range 24).filter (fun l => !reduced || l % 6 ≠ 5)

/-- Map logical lanes in ascending order onto the healthy physical lanes in ascending order; those left over are spares. -/
def mapLanes (ls : List Lane) (healthy : List Nat) (logical : List Nat) : List Lane :=
  ls.zipIdx.map (fun x => { x.1 with logical := match healthy.idxOf? x.2 with
    | some i => logical.getD i 0xFF
    | none => 0xFE })

/-- The lowest free spare of a direction (DEDUCED from the example of R32, log entry 68). -/
def DlDir.spare (d : DlDir) : Option Nat :=
  (List.range 26).find? (fun k => (d.lane k).logical = 0xFF && !(match d.subst with | some x => x.spare = k | none => false))

/-- A lane carries a logical lane. -/
def DlDir.carries (d : DlDir) (k : Nat) : Bool := (d.lane k).logical < 24

/-- The lanes of a direction run: it is mapped, not searched, not in deep low power, and the line die is not held in reset (R30, R34, R457). -/
def State.lanesRun (s : State) (inb : Bool) : Bool :=
  (s.dir inb).mapped && s.dl.searching.isNone && !s.dl.deep && decide (s.pwr.railLow &&& 3 = 0)

/-- DL_STATUS.REDUCED (Table 1-7). -/
def DieLink.reduced (d : DieLink) : Bool := d.outb.reduced || d.inb.reduced

/-- A direction has taken the reduced map: a log entry of REDUCED's old and new value, and a general event (R30, R33). -/
def State.noteReduced (s : State) (inb was : Bool) : State :=
  (s.logEntry unitLine 1 kindState 2 0x40 (b2n was) 1 (b2n inb)).raiseEvent evDielink

/-- A logical lane that must be replaced without a free spare: the reduced map, or no map at all (R33). -/
def State.reduceMap (s : State) (inb : Bool) (bad : Nat) : State :=
  let d := s.dir inb
  let healthy := (List.range 26).filter (fun k => k ≠ bad && (d.lane k).logical ≠ 0xFE)
  if d.reduced || healthy.length < 20 then
    (s.modDir inb (fun d => { (d.modLane bad (fun l => { l with logical := 0xFE })) with mapped := false, subst := none, waiting := [] })).dielinkFall
  else
    let s1 := s.modDir inb (fun d => { d with lanes := mapLanes d.lanes healthy (logicalLanes true), reduced := true, subst := none, waiting := d.waiting.filter (·.1 ≠ bad) })
    let s2 := s1.noteReduced inb s.dl.reduced
    if s2.link.mode = some 0 then s2.linkDown 0xA else s2

/-- Duplication of a failing lane onto a spare begins, or waits its turn (R31, R32). -/
def State.substitute (s : State) (inb : Bool) (lane cause : Nat) : State :=
  let d := s.dir inb
  if !d.carries lane then s
  else if d.subst.isSome || !s.lanesRun inb then
    s.modDir inb (fun d => { d with waiting := if d.waiting.any (·.1 = lane) then d.waiting else d.waiting ++ [(lane, cause)] })
  else match d.spare with
    | some k => s.modDir inb (fun d => { d with
        subst := some { logical := (d.lane lane).logical, old := lane, spare := k, cause := cause }, waiting := d.waiting.filter (·.1 ≠ lane) })
    | none => s.reduceMap inb lane

/-- The next waiting causes, until one of them runs (R32). -/
def State.nextSubst (s : State) (inb : Bool) : Nat → State
  | 0 => s
  | n + 1 =>
    if (s.dir inb).subst.isSome || !s.lanesRun inb then s
    else match (s.dir inb).waiting with
      | l :: _ => State.nextSubst ((s.modDir inb (fun d => { d with waiting := d.waiting.drop 1 })).substitute inb l.1 l.2) inb n
      | [] => s

/-- A cause is taken up, and with it those that a change of the map leaves waiting; in deep low power it waits for the exit (R31, R32, R35). -/
def State.laneCause (s : State) (inb : Bool) (lane cause : Nat) : State :=
  if (s.dir inb).mapped && s.dl.searching.isNone then (s.substitute inb lane cause).nextSubst inb 26 else s

/-- Benash starts the alignment search in both directions (R30). The lanes leave alignment, so DIELINK reads 0 and a link goes down. -/
def State.startSearch (s : State) : State :=
  let s1 : State := { s with dl := { s.dl with
    searching := some s.time, searches := inc 16 s.dl.searches
    outb := { s.dl.outb with subst := none, waiting := [] }, inb := { s.dl.inb with subst := none, waiting := [] } } }
  s1.dielinkFall

/-- A slice is retired; where it was active the lowest spare takes its position. -/
def CalPair.retireSlice (c : CalPair) (k : Nat) : CalPair :=
  let c1 : CalPair := { c with slices := modAt c.slices k (fun x => { x with state := 2, stateTo := 2 }) }
  match c1.map.idxOf? k, (List.range 36).find? (fun j => (c1.slices.getD j {}).state = 1 && !(c1.slices.getD j {}).unfit) with
  | some pos, some j => { c1 with
      map := setAt c1.map pos j, mapTo := setAt c1.mapTo pos j
      slices := modAt c1.slices j (fun x => { x with state := 0, stateTo := 0 }) }
  | _, _ => c1

/-- A DAC cell is retired; where it was in use the spare cell with the smallest error takes its position (R233). -/
def CalPair.spareCell (c : CalPair) (used : List Nat) : Option Nat :=
  let ok := (List.range 71).filter (fun j => !used.contains j && !c.cellRetired.contains j && (c.cellErr.getD j 0).natAbs ≤ 16)
  ok.foldl (fun b j => match b with
    | none => some j
    | some m => if (c.cellErr.getD j 0).natAbs < (c.cellErr.getD m 0).natAbs then some j else b) none

/-- Retire a cell at once. -/
def CalPair.retireCell (c : CalPair) (k : Nat) : CalPair :=
  let c1 : CalPair := { c with cellRetired := if c.cellRetired.contains k then c.cellRetired else k :: c.cellRetired }
  match c1.cells.idxOf? k, c1.spareCell c1.cells with
  | some pos, some j => { c1 with cells := setAt c1.cells pos j, cellsTo := setAt c1.cellsTo pos j }
  | _, _ => c1

/-- The start-up test's failures retire their elements (R432). -/
def State.retireFailed (s : State) (e : StartUpEnd) : State :=
  let s1 := e.engines.foldl (fun st k => st.modEngine k (fun x => { x with retired := true })) s
  let lane := fun (d : DlDir) (ks : List Nat) => { d with lanes := ks.foldl (fun l k => modAt l k (fun x => { x with logical := 0xFE })) d.lanes }
  let s2 := (s1.modDir false (lane · e.lanesOut)).modDir true (lane · e.lanesIn)
  let onPair := fun (st : State) (p : Nat) (f : CalPair → CalPair) =>
    ({ st with cal := { st.cal with pair := st.cal.pair.upd ⟨p % 4, Nat.mod_lt _ (by decide)⟩ f } } : State)
  let s3 := e.slices.foldl (fun st k => onPair st k.1 (·.retireSlice k.2)) s2
  e.cells.foldl (fun st k => onPair st k.1 (·.retireCell k.2)) s3

end Sys2Proof.Machine
end

