-- ==== Sys2Proof/Machine/WardPath.lean ====
section
/-! DEFINITION. Ward's datapath: associations, key slots, protection of frames sent and checks of frames received, and MKA (12_ward_and_hasp R374 to R384). -/

namespace Sys2Proof.Machine

/-! ### Associations (R377, Table 12-3) -/

/-- All 32 bytes 0: no association. -/
def assocNone (a : List Byte) : Bool := a.all (fun b => b = 0)
/-- TX_SCI. -/
def assocTxSci (a : List Byte) : List Byte := a.take 8
/-- RX_SCI. -/
def assocRxSci (a : List Byte) : List Byte := (a.drop 8).take 8
/-- FLAGS.SC. -/
def assocSc (a : List Byte) : Bool := bitAt (leAt a 16 1) 1
/-- FLAGS.CONF. -/
def assocConf (a : List Byte) : Bool := bitAt (leAt a 16 1) 2
/-- VALIDATE. -/
def assocValidate (a : List Byte) : Nat := leAt a 17 1
/-- REPLAY_WINDOW. -/
def assocReplay (a : List Byte) : Nat := leAt a 20 4
/-- ROTATE_PN. -/
def assocRotate (a : List Byte) : Nat := leAt a 24 8

/-- The association number of the link. -/
abbrev linkAssoc : Nat := 1000

/-- A flow is Ward-protected: its own association, or the link's while LINK_EN is 1 (R375). -/
def State.isProtected (s : State) (f : Nat) : Bool := s.fuse.part.ward && (!assocNone (s.flow f).assoc || s.ward.linkEn)

/-- E: the bytes that Ward adds to a frame of a flow (R338, R378). -/
def State.wardExtra (s : State) (f : Nat) : Nat :=
  let a := (s.flow f).assoc
  if !s.fuse.part.ward then 0
  else if !assocNone a then (if assocSc a then 32 else 24)
  else if s.ward.linkEn then (if s.ward.linkSc then 32 else 24)
  else 0

/-- Class of a sensor in a HASP_CFG (R413). -/
def haspClass (cfg : BitVec 32) (i : Nat) : Nat := bitsAt cfg.toNat (4 * i) 2

/-- Approved minimum of a sensor's class (Table 12-11). -/
def approvedMin (i : Nat) : Nat := if i < 4 then 3 else if i = 4 then 2 else 0

/-- Every class is at or above its approved minimum. -/
def classesApproved (cfg : BitVec 32) : Bool := (List.range 7).all (fun i => approvedMin i ≤ haspClass cfg i)

/-- Ward is in approved mode (R374). -/
def State.wardApproved (s : State) : Bool :=
  s.fuse.part.ward && s.fuse.lifecycle = .deployed && s.nvm.approved && s.ward.tested && !s.ward.error && classesApproved s.hasp.cfg

/-! ### Slots (R383, R384) -/

/-- A slot of an association. -/
def State.slot (s : State) (a k : Nat) : SaSlot := sget {} s.ward.slots (2 * a + k)

/-- Which slot of an association is in a state. -/
def State.slotIn (s : State) (a st : Nat) : Option Nat :=
  if (s.slot a 0).state = st then some 0 else if (s.slot a 1).state = st then some 1 else none

/-- Put a slot. -/
def State.putSlot (s : State) (a k : Nat) (x : SaSlot) : State := s.modWard (fun w => { w with slots := sset {} w.slots (2 * a + k) x })

/-- Advance an association: NEXT becomes CURRENT and CURRENT becomes OLD (R384); false: no NEXT slot. -/
def State.advance (s : State) (a : Nat) : State × Bool :=
  match s.slotIn a 1 with
  | none => (s, false)
  | some k =>
    let s1 := match s.slotIn a 2 with
      | some c => s.putSlot a c { s.slot a c with state := 3 }
      | none => s
    let s2 := s1.putSlot a k { s.slot a k with state := 2 }
    let s3 := s2.modWard (fun w => { w with
      info := smod {} w.info a (fun i => { i with advances := inc 32 i.advances, rotateDue := false })
      cnt := { w.cnt with saAdvances := inc 32 w.cnt.saAdvances } })
    (s3.raiseEvent evWard, true)

/-- ROTATE_PN (R384): an advance when the transmit PN reaches ROTATE_PN, else ROTATE_DUE. -/
def State.rotatePn (s : State) (a rotate pn : Nat) : State :=
  if rotate ≠ 0 && pn = rotate then
    let (s1, ok) := s.advance a
    if ok then s1
    else (s.modWard (fun w => { w with info := smod {} w.info a (fun i => { i with rotateDue := true }) })).raiseEvent evWard
  else s

/-- Install a key into the slot that is not CURRENT (R383). -/
def State.installSlot (s : State) (a an : Nat) (sak salt ssci : List Byte) : State :=
  let k := if s.slotIn a 2 = some 0 then 1 else 0
  let st := if (s.slotIn a 2).isSome then 1 else 2
  s.putSlot a k { state := st, an := an, sak := sak, salt := salt, ssci := ssci }

/-- Erase both slots of an association; its tenant binding ends (R378, R388). -/
def State.eraseSlots (s : State) (a : Nat) : State :=
  s.modWard (fun w => { w with
    slots := sset {} (sset {} w.slots (2 * a) {}) (2 * a + 1) {}
    info := smod {} w.info a (fun i => { i with tenant := none, rotateDue := false }) })

/-- Zeroize every SA slot, every volatile KEK and the CAK (R376, R392, R394, R397, R401). -/
def Ward.eraseKeys (w : Ward) : Ward :=
  { w with
    slots := []
    keks := []
    cak := none
    info := smap {} w.info (fun _ i => { i with tenant := none, rotateDue := false })
    mka := {}
    cnt := { w.cnt with zeroizations := inc 32 w.cnt.zeroizations } }

/-- Erase the stored wrapped KEKs and CAK (R401). -/
def Nvm.eraseKeys (n : Nvm) : Nvm := { n with keks := [], cak := none, erasePending := false }

/-- Every SPDM session ends (R397, R401, R406). -/
def State.endSessions (s : State) : State :=
  let had := s.spdm.sessions ≠ []
  let s1 : State := { s with spdm := { s.spdm with sessions := [], phase := 0 } }
  if had then s1.raiseEvent evWard else s1

/-! ### Frames -/

/-- The fields of a frame that rules and Ward look at. -/
structure FrameFields where
  /-- Outer VLAN ID. -/
  vid : Option Nat
  /-- EtherType after at most two VLAN tags. -/
  ethertype : Nat
  /-- Effective SCI of a SecTAG (R380). -/
  sci : Option (List Byte)
deriving DecidableEq, Repr

/-- EtherTypes of a VLAN tag (PRESUMED: IEEE 802.1Q; log entry 12). -/
def isVlanType (t : Nat) : Bool := t = 0x8100 || t = 0x88A8

/-- The fields of a frame. -/
def frameFields (bs : List Byte) : FrameFields :=
  let t0 := beNat ((bs.drop 12).take 2)
  let v0 := isVlanType t0
  let t1 := if v0 then beNat ((bs.drop 16).take 2) else t0
  let v1 := v0 && isVlanType t1
  let t2 := if v1 then beNat ((bs.drop 20).take 2) else t1
  { vid := if v0 then some (beNat ((bs.drop 14).take 2) % 4096) else none
    ethertype := t2
    sci := if t0 = 0x88E5 then
        some (if bitAt (leAt bs 14 1) 5 then (bs.drop 20).take 8 else (bs.drop 6).take 6 ++ [0, 1])
      else none }

/-- An MKPDU: EAPOL to the PAE group address (R382). -/
def isMkpdu (bs : List Byte) : Bool :=
  bs.take 6 = [0x01, 0x80, 0xC2, 0x00, 0x00, 0x03] && beNat ((bs.drop 12).take 2) = 0x888E

/-- The octet of a SecTAG's TCI and AN: SC, E and C, AN (IEEE 802.1AE). -/
def tciAn (sc conf : Bool) (an : Nat) : Nat := an % 4 + 12 * b2n conf + 32 * b2n sc

/-- The SL octet of a SecTAG: the length of short secure data. -/
def slOctet (len : Nat) : Nat := if len < 48 then len else 0

/-- Protect one frame with a slot: SecTAG, secure data and ICV (R378, R379, IEEE 802.1AE). -/
def protectFrame (x : SaSlot) (txSci : List Byte) (sc conf : Bool) (bs : List Byte) : List Byte :=
  let body := bs.drop 12
  let tag := beBytes 2 0x88E5 ++ [BitVec.ofNat 8 (tciAn sc conf x.an), BitVec.ofNat 8 (slOctet body.length)]
    ++ beBytes 4 (x.nextPn % 2 ^ 32) ++ (if sc then txSci else [])
  let head := bs.take 12 ++ tag
  head ++ gcmSeal x.sak x.salt x.ssci x.nextPn conf head body

/-- Send one frame of an association (R379); none: discarded. -/
def State.protectWith (s : State) (a : Nat) (txSci : List Byte) (sc conf : Bool) (rotate : Nat) (bs : List Byte) :
    State × Option (List Byte) :=
  let dropped := s.modWard (fun w => { w with cnt := { w.cnt with txNoSaDrop := inc 32 w.cnt.txNoSaDrop } })
  match s.slotIn a 2 with
  | none => (dropped, none)
  | some k =>
    let x := s.slot a k
    if x.nextPn ≥ 2 ^ 64 then (dropped, none)
    else
      let s1 := (s.putSlot a k { x with nextPn := x.nextPn + 1 }).modWard
        (fun w => { w with cnt := { w.cnt with txProtected := inc 32 w.cnt.txProtected } })
      (s1.rotatePn a rotate (x.nextPn + 1), some (protectFrame x txSci sc conf bs))

/-- A frame of a flow on its way to the framer (R379): `assoc` is the association it was taken up under. -/
def State.wardTransmit (s : State) (f : Nat) (assoc bs : List Byte) : State × Option (List Byte) :=
  if !s.fuse.part.ward then (s, some bs)
  else if !assocNone assoc then
    s.protectWith f (assocTxSci assoc) (assocSc assoc) (assocConf assoc) (assocRotate assoc) bs
  else if s.ward.linkEn then
    s.protectWith linkAssoc s.ward.linkSci s.ward.linkSc s.ward.linkConf 0 bs
  else (s, some bs)

/-- The flow whose association receives a frame (R380 step 1). -/
def State.associationOf (s : State) (bs : List Byte) : Option Nat :=
  match (frameFields bs).sci with
  | none => none
  | some sci =>
    if !s.fuse.part.ward then none
    else (s.flows.find? (fun e => e.2.exist && !assocNone e.2.assoc && assocRxSci e.2.assoc = sci)).map (·.1)

/-- What Ward decides about a received frame (Table 12-4). -/
inductive Verdict
  /-- Discarded; after a failed ICV with the frame that decryption gave, which early head has written (R345). -/
  | discard (text : Option (List Byte))
  | plain
  | verified (bytes : List Byte)
deriving DecidableEq, Repr

/-- The 64-bit PN of a received 32-bit PN: the value nearest the lowest acceptable one (IEEE 802.1AE; log entry 12). -/
def recoverPn (lowest low : Nat) : Nat :=
  let hi := lowest / 2 ^ 32
  if low + 2 ^ 31 ≤ lowest % 2 ^ 32 then (hi + 1) * 2 ^ 32 + low else hi * 2 ^ 32 + low

/-- A SecTAG is well formed: V clear, SL right, E and C as CONF (Table 12-4 row 2). -/
def tagOk (bs : List Byte) (conf : Bool) : Bool :=
  let tci := leAt bs 14 1
  let hdr := if bitAt tci 5 then 28 else 20
  let len := bs.length - hdr - 16
  !bitAt tci 7 && bitAt tci 3 = conf && bitAt tci 2 = conf && leAt bs 15 1 = slOctet len && hdr + 16 ≤ bs.length

/-- The receive checks of a tagged frame under an association (R381, Table 12-4). -/
def State.receiveWith (s : State) (a validate : Nat) (conf : Bool) (replay : Nat) (bs : List Byte) : State × Verdict :=
  let cnt := fun (f : WardCounters → WardCounters) => s.modWard (fun w => { w with cnt := f w.cnt })
  let tci := leAt bs 14 1
  let hdr := if bitAt tci 5 then 28 else 20
  let an := tci % 4
  if !tagOk bs conf then (cnt (fun c => { c with rxIcvFail := inc 32 c.rxIcvFail }), .discard none)
  else
    let hit := fun (k : Nat) => (s.slot a k).state ≠ 0 && (s.slot a k).an = an
    match (if hit 0 then some 0 else if hit 1 then some 1 else none) with
    | none => (cnt (fun c => { c with rxNoSa := inc 32 c.rxNoSa }), .discard none)
    | some k =>
      let x := s.slot a k
      let lowest := x.highPn - replay
      let pn := recoverPn lowest (beNat ((bs.drop 16).take 4))
      if pn < lowest then (cnt (fun c => { c with rxReplay := inc 32 c.rxReplay }), .discard none)
      else match gcmOpen x.sak x.salt x.ssci pn conf (bs.take hdr) (bs.drop hdr) with
      | none =>
        (cnt (fun c => { c with rxIcvFail := inc 32 c.rxIcvFail }),
          if validate = 1 && !conf then .plain
          else .discard (some (bs.take 12 ++ gcmText x.sak x.salt x.ssci pn conf (bs.take hdr) (bs.drop hdr))))
      | some body =>
        let high := max x.highPn pn
        let s1 := (s.putSlot a k { x with highPn := high }).modWard (fun w => { w with
          info := smod {} w.info a (fun i => { i with rxPn := high })
          cnt := { w.cnt with rxVerified := inc 32 w.cnt.rxVerified } })
        (s1, .verified (bs.take 12 ++ body))

/-- Pass a frame on to classification. -/
def State.wardPass (s : State) (x : RxFrame) : State :=
  { s with kw := { s.kw with arrived := s.kw.arrived.drop 1, ready := s.kw.ready ++ [x] } }

/-- Discard a frame; one whose capsule is reserved under early head goes on as discarded (R345). -/
def State.wardDiscard (s : State) (x : RxFrame) (text : Option (List Byte)) : State :=
  if (x.cls.bind (·.early)).isSome then s.wardPass { x with good := false, bytes := match text with | some t => t.map some | none => x.bytes }
  else { s with kw := { s.kw with arrived := s.kw.arrived.drop 1 } }

/-- WARD_RX_FRAME: Ward chooses the receive SC of the oldest frame received and checks it (R380, R381). -/
def execWardRxFrame (s : State) : Host.Outcome State Fault Refusal :=
  .next <| match s.kw.arrived with
    | [] => s
    | x :: _ =>
      let bs := x.bytes.map (·.getD 0)
      let sci := (frameFields bs).sci
      let n := leNat (sci.getD [])
      if !s.fuse.part.ward then s
      else if !x.good then s.wardPass x
      else if isMkpdu bs then s
      else match s.associationOf bs with
      | some f =>
        let a := (s.flow f).assoc
        match s.receiveWith f (assocValidate a) (assocConf a) (assocReplay a) bs with
        | (s1, .discard t) => s1.wardDiscard x t
        | (s1, .plain) => s1.wardPass { x with warded := true, forced := some f }
        | (s1, .verified out) =>
          s1.wardPass { x with bytes := out.map some, warded := true, isProtected := true, sci := n, forced := some f }
      | none =>
        let strict := s.ward.linkEn && s.ward.linkValidate = 2
        if sci.isSome && s.ward.linkEn && s.ward.mka.peer = sci then
          match s.receiveWith linkAssoc s.ward.linkValidate s.ward.linkConf s.ward.linkReplay bs with
          | (s1, .discard t) => s1.wardDiscard x t
          | (s1, .plain) => s1.wardPass { x with warded := true }
          | (s1, .verified out) => s1.wardPass { x with bytes := out.map some, warded := true, isProtected := true, sci := n }
        else if strict then
          (s.modWard (fun w => { w with cnt :=
            if sci.isSome then { w.cnt with rxNoSa := inc 32 w.cnt.rxNoSa }
            else { w.cnt with rxUntaggedDrop := inc 32 w.cnt.rxUntaggedDrop } })).wardDiscard x none
        else s.wardPass { x with warded := true }

/-- MKA runs: MKA_EN is 1 and a CAK is installed, and Ward is operational (R382). -/
def State.mkaRuns (s : State) : Bool := s.ready .ward && s.ward.mkaEn && s.ward.cak.isSome

/-- MKPDU: a received MKPDU is taken for the MKA participant: its ICV's outcome, the live peer, a distributed SAK, and whether MKA
moves the slots on (R382 to R384). -/
def execMkpdu (m : MkaIn) (s : State) : Host.Outcome State Fault Refusal :=
  .next <| match s.kw.arrived with
    | [] => s
    | x :: _ =>
      if !s.fuse.part.ward || !x.good || !isMkpdu (x.bytes.map (·.getD 0)) then s
      else
        let s1 : State := { s with kw := { s.kw with arrived := s.kw.arrived.drop 1 } }
        if !m.icvGood then s1.modWard (fun w => { w with cnt := { w.cnt with mkpduBad := inc 32 w.cnt.mkpduBad } })
        else
          let s2 := s1.modWard (fun w => { w with cnt := { w.cnt with mkpduRx := inc 32 w.cnt.mkpduRx } })
          if !s2.mkaRuns then s2
          else
            let s3 := s2.modWard (fun w => { w with mka := { w.mka with peer := if m.live then some m.peerSci else w.mka.peer } })
            let s4 := match m.sak with
              | some k => (s3.installSlot linkAssoc k.an k.sak k.salt k.ssci).raiseEvent evWard
              | none => s3
            if m.advance then (s4.advance linkAssoc).1 else s4

/-- MKA_LIFE_EXPIRY: the peer is no longer live (R382). -/
def execMkaLifeExpiry (s : State) : Host.Outcome State Fault Refusal :=
  .next (s.modWard (fun w => { w with mka := { w.mka with peer := none } }))

end Sys2Proof.Machine
end

