-- ==== Sys2Proof/Machine/BenashOps.lean ====
section
/-! DEFINITION. Benash: self-test ends, restarts and the boot, which the management commands and the resets share (13_benash_management R415, R427 to R437; 09 R303). -/

namespace Sys2Proof.Machine

/-! ### Self-test (R431 to R437) -/

/-- Steps planned of a test (Table 13-13). -/
def bistSteps : Nat → Nat
  | 0x01 => 64 | 0x02 => 24 | 0x03 => 4 | 0x04 => 16 | 0x10 => 40 | 0x11 => 12 | _ => 0

/-- COVERAGE reported, 0.1 %. -/
def bistCoverage : Nat → Nat
  | 0x01 => 985 | 0x02 => 1000 | 0x03 => 1000 | 0x04 => 970 | 0x10 => 960 | 0x11 => 167 | _ => 0

/-- Maximum duration of a test, ms. -/
def bistMaxMs : Nat → Nat
  | 0x01 => 2 | 0x02 => 20 | 0x03 => 3 | 0x04 => 1 | 0x10 => 240 | 0x11 => 12 | _ => 0

/-- Remaining maximum duration of the running test, ms (R363, R443). -/
def State.bistRemain (s : State) : Nat :=
  match s.bist.run with
  | some r => bistMaxMs r.test - (s.time - r.since) / 1000000
  | none => 0

/-- Start conditions of a test: supplies within ±3 % and ML0 locked without holdover (R436). -/
def State.bistMayStart (s : State) : Bool :=
  s.ben.cond.warn &&& 0x2FF = 0 && s.ben.supplies.zipIdx.all (fun e => e.2 = 8 || !supplyOutside e.1 e.2 3) && s.clk.ml0Lock && !s.clk.holdover

/-- A deferrable request that needs a part under test completes DEFERRED, once, and is held until the test ends (R363). -/
def State.defer (s : State) (q : Request) (test : Nat) : State :=
  if q.deferred then { s with cyo := { s.cyo with held := s.cyo.held ++ [q] } } else s.deferRequest q test s.bistRemain

/-- Steps that a test has completed so far: a free number below those planned. -/
def State.stepsDone (s : State) (r : BistRun) : Nat := freeTestSteps r.draw s.time % r.planned

/-- A test begins. -/
def State.startTest (s : State) (test target : Nat) : State :=
  State.drawn { s with bist := { s.bist with run := some { test := test, target := target, planned := bistSteps test, since := s.time, draw := s.draws } } }

/-- Results fields 24 to 43 of BIST_RUN and SHUTDOWN_PREP (Table 11-2), from BIST_LAST. -/
def Bist.results (b : Bist) : List (Nat × Nat) :=
  [(8, b.lastResult), (8, 0), (16, b.lastDone), (16, b.lastPlanned), (16, b.lastCoverage), (32, b.lastDuration), (64, b.lastSignature.toNat)]

/-- Record the end of a test in BIST_LAST; a result other than PASS sets FP_EVENT.BENASH (R437, R443, R444). -/
def State.recordTest (s : State) (test target result ended done : Nat) (since : Nat) (sig : BitVec 64) : State :=
  let s1 : State := { s with bist := { s.bist with
    run := none
    runs := inc 16 s.bist.runs
    fails := if result = 1 then inc 16 s.bist.fails else s.bist.fails
    lastTest := test, lastTarget := target, lastResult := result, lastEnd := ended, lastDone := done, lastPlanned := bistSteps test
    lastCoverage := bistCoverage test, lastDuration := (s.time - since) / 1000, lastSignature := sig } }
  if result = 0 then s1 else s1.raiseEvent evBenash

/-- Requests held behind a test execute when it ends: they wait first (R363). -/
def State.releaseHeld (s : State) : State :=
  { s with cyo := { s.cyo with inbox := s.cyo.held ++ s.cyo.inbox, held := [] } }

/-- The shut-down record is written and SHUTDOWN_PREP completes (R433 steps 3 and 4). -/
def State.finishShutdown (s : State) : State :=
  if !s.ben.sdPrep then s
  else
    let b := s.bist
    let rec0 : SdRecord :=
      { armed := true, used := false, result := b.lastResult, disarm := 0, boot := s.nvm.boots, slotB := s.ben.runB, fwver := s.runSlot.fwver,
        temp := s.junction, signature := b.lastSignature, tamperCount := s.nvm.tamperCount }
    let s1 : State := { s with nvm := { s.nvm with sd := some rec0 }, ben := { s.ben with sdPrep := false } }
    s1.endRun 0x5C (fun _ => true) .ok b.results

/-- A test stops before its end: its region is restored and it records the cause, with INCOMPLETE, or FAIL if a completed step failed
(R436, R437). -/
def State.abortTest (s : State) (ended : Nat) : State :=
  match s.bist.run with
  | none => s
  | some r =>
    let done := s.stepsDone r
    let fail := 0 < done && freeTestFailed r.draw s.time
    let s0 := s.recordTest r.test r.target (if fail then 1 else 2) ended done r.since (freeTestSignature r.draw s.time)
    let s1 := if fail then s0.retireElement r.test r.target else s0
    let s2 := s1.endRun 0x54 (fun c => c.arg 28 2 = r.test && c.arg 30 2 = r.target) .ok s1.bist.results
    let s3 := s2.finishShutdown
    (if r.test ≥ 0x10 then s3.startSearch else s3).releaseHeld

/-- A supply or clock excursion during the start-up test restarts it; after three the test units' bits stay 0 (R432). -/
def State.startupExcursion (s : State) : State :=
  if !s.bist.startup then s
  else if s.bist.startupRestarts ≥ 3 then
    State.logEntry { s with bist := { s.bist with startup := false, passed := false } } unitBist 4 kindFault 3 0x01
  else { s with bist := { s.bist with startupRestarts := s.bist.startupRestarts + 1, startupSince := s.time } }

/-- An excursion of R436. -/
def State.excursion (s : State) : State := (s.startupExcursion).abortTest 3

/-! ### Restarts (R303, R366, R415, R427 to R429) -/

/-- A trial image has failed, once the restart has begun: the other slot boots, the trial slot becomes invalid (R427). -/
def State.failTrial (s : State) : State :=
  if !s.ben.trial then s
  else
    let s1 : State := { s with
      nvm := { s.nvm with
        slotA := if s.ben.runB then s.nvm.slotA else { s.nvm.slotA with valid := false }
        slotB := if s.ben.runB then { s.nvm.slotB with valid := false } else s.nvm.slotB
        markB := !s.ben.runB }
      ben := { s.ben with trial := false, fallback := true } }
    (s1.logEntry unitBenash 4 kindFault 3 0x30).raiseEvent evBenash

/-- A Benash restart begins (R303, R366, R406, R429). -/
def State.startRestart (s : State) : State :=
  let s1 := (s.abortTest 4).endSessions
  { s1 with
    ben := { s1.ben with
      up := false, restartSince := some s.time, fallback := false, restarts := inc 16 s1.ben.restarts
      restartTimes := s.time :: s1.ben.restartTimes.filter (fun t => decide (s.time < t + 600000000000)) }
    pwr := { s1.pwr with benashRestarts := inc 8 s1.pwr.benashRestarts }
    page := { s1.page with busy := false } }

/-- A slot's image passes the boot ROM's checks (R415 step 2, R426): it is valid, and its SVN is not below the anti-rollback counter, the one check whose outcome
can change after FW_COMMIT. -/
def State.boots (s : State) (x : FwSlot) : Bool := x.valid && s.fuse.rollback ≤ x.svn

/-- The slot that the boot ROM takes (R415 step 2); none: recovery (R428). -/
def State.bootSlot (s : State) : Option Bool :=
  let named := if s.nvm.markB then s.nvm.slotB else s.nvm.slotA
  let other := if s.nvm.markB then s.nvm.slotA else s.nvm.slotB
  if s.pwr.bootSel && !s.ben.activating then none
  else if s.boots named then some s.nvm.markB
  else if s.boots other then some (!s.nvm.markB)
  else none

/-- The chosen image runs; a slot other than the one named is a fallback, and so is leaving a trial (R415, R427, R440). -/
def State.boot (s : State) : State :=
  match s.bootSlot with
  | none => { s with ben := { s.ben with up := true, restartSince := none, recovery := true, activating := false, trial := false } }
  | some b =>
    let slot := if b then s.nvm.slotB else s.nvm.slotA
    let trial := s.ben.activating && b = s.nvm.markB
    let change := decide (slot.progver ≠ s.ben.progver)
    -- back to the programs that some engines still run
    let back := change && decide (s.ben.swapLeft ≠ 0) && decide (slot.progver = s.ben.progverOld)
    { s with
     eng := if change then { s.eng with eng := s.eng.eng.map (fun x => { x with newProg := back && !x.newProg }) } else s.eng
     ben := { s.ben with
      up := true, restartSince := none, recovery := false, runB := b, activating := false
      trial := trial || (s.ben.trial && b = s.ben.runB), trialSince := if trial then s.time else s.ben.trialSince
      fallback := s.ben.fallback || b ≠ s.nvm.markB
      swapLeft := if back then s.healthyEngines - s.ben.swapLeft else if change then s.healthyEngines else s.ben.swapLeft
      swapDeferred := if change then slot.layout ≠ s.ben.progLayout else s.ben.swapDeferred
      progver := slot.progver
      progverOld := if change && (back || s.ben.swapLeft = 0) then s.ben.progver else s.ben.progverOld } }

/-- Entries that waited in the hardware queue reach the log, then the count of those lost (R422). -/
def State.flushQueue (s : State) : State :=
  let s1 := s.ben.queue.foldl (fun st e => st.admitLog e) { s with ben := { s.ben with queue := [] } }
  if s.ben.lostNew = 0 then s1
  else (State.logEntry { s1 with ben := { s1.ben with lostNew := 0 } } unitBenash 2 kindLog 1 0x20 s.ben.lostNew).raiseEvent evBenash

end Sys2Proof.Machine
end

