-- ==== Sys2Proof/Machine/Benash.lean ====
section
/-! DEFINITION. Benash's commands and events: identity, the log, firmware, self-test, sensors, aging and scrubs (13_benash_management, 11_cyoner R359). -/

namespace Sys2Proof.Machine

/-- The other firmware slot. -/
def State.otherSlot (s : State) : FwSlot := if s.ben.runB then s.nvm.slotA else s.nvm.slotB

/-- Put the inactive slot. -/
def State.putOther (s : State) (x : FwSlot) : State :=
  { s with nvm := if s.ben.runB then { s.nvm with slotA := x } else { s.nvm with slotB := x } }

/-- IDENTIFY (Table 11-2). -/
def execIdentify (tag : BitVec 16) (s : State) : Host.Outcome State Fault Refusal :=
  .next <| s.runRequest tag 0x40 fun q s =>
    s.guarded q [(q.cap.len ≠ 0, .lenRange), (!q.cap.fieldsOk [] || q.cap.rspan < 2, .range)] [] fun s =>
      s.finish q .ok [] (fitBytes 16 s.fuse.serial ++ packBytes 48
        [(32, s.runSlot.fwver), (32, if s.otherSlot.valid then s.otherSlot.fwver else 0), (32, s.fuse.romver), (8, s.fuse.part.code),
         (8, s.fuse.step), (8, s.fuse.lifecycle.code), (8, b2n s.ben.runB), (32, s.fuse.rollback), (32, s.runSlot.progver)])

/-- Opcodes assigned whose unit is present (GET_CAPS.OPCODES): Knuckle, DIAG_TDR and the Ward commands need their units. -/
def State.opcodeMap (s : State) : Nat :=
  ofBools ((List.range 64).map (fun i =>
    let op := 0x40 + i
    [0x40, 0x41, 0x42, 0x43, 0x48, 0x49, 0x4A, 0x50, 0x51, 0x52, 0x54, 0x55, 0x58, 0x59, 0x5A, 0x5B, 0x5C, 0x60, 0x61, 0x62, 0x64, 0x65].contains op
      || (op = 0x4B && s.fuse.part.knuckle) || (op = 0x53 && s.fuse.part.diag) || (0x70 ≤ op && op ≤ 0x72 && s.fuse.part.ward)))

/-- GET_CAPS (Table 11-2). -/
def execGetCaps (tag : BitVec 16) (s : State) : Host.Outcome State Fault Refusal :=
  .next <| s.runRequest tag 0x41 fun q s =>
    s.guarded q [(q.cap.len ≠ 0, .lenRange), (!q.cap.fieldsOk [] || q.cap.rspan < 2, .range)] [] fun s =>
      s.finish q .ok [] (packBytes 32
        [(64, s.fuse.part.capsValue), (32, s.readyValue), (8, s.healthyEngines), (8, 64), (8, 0), (8, 1), (64, s.opcodeMap)])

/-! ### The log (R420 to R423) -/

/-- A log entry's 32 bytes (Table 13-5). -/
def LogEntry.bytes (e : LogEntry) : List Byte :=
  packBytes 32 [(32, e.seq), (48, e.time), (16, e.boot), (8, e.unitId), (8, e.sev), (8, e.obj), (4, e.detail), (4, e.kind),
    (32, e.arg0), (32, e.arg1), (32, e.arg2), (32, e.arg3)]

/-- SEQ of the newest and of the oldest entry kept; 0xFFFFFFFF, the value SEQ never takes, when the log is empty (log entry 14). -/
def Nvm.newest (n : Nvm) : Nat := match n.log with | e :: _ => e.seq | [] => 0xFFFFFFFF
/-- SEQ of the oldest entry kept. -/
def Nvm.oldest (n : Nvm) : Nat := match n.log.getLast? with | some e => e.seq | none => 0xFFFFFFFF

/-- a is newer than b (R247, R423). -/
def newer (a b : Nat) : Bool := let d := (a + 2 ^ 32 - b % 2 ^ 32) % 2 ^ 32; 1 ≤ d && d < 2 ^ 31

/-- LOG_READ: entries in ascending SEQ from FIRST, up to COUNT and no further than NEWEST (R423). -/
def execLogRead (tag : BitVec 16) (s : State) : Host.Outcome State Fault Refusal :=
  .next <| s.runRequest tag 0x58 fun q s =>
    let first := q.cap.arg 28 4
    let count := q.cap.arg 32 2
    s.guarded q [(q.cap.len ≠ 0, .lenRange),
      (!q.cap.fieldsOk [(28, 4), (32, 2)] || count = 0 || count > 512 || q.cap.rspan < 1 + (count + 1) / 2, .range)] [] fun s =>
      let old := s.nvm.oldest
      let gap := first ≠ 0xFFFFFFFF && newer old first && s.nvm.log ≠ []
      let start := if first = 0xFFFFFFFF || gap then old else first
      let es := (s.nvm.log.reverse.filter (fun e => e.seq = start || newer e.seq start)).take count
      s.finish q .ok [(32, old), (32, s.nvm.newest), (16, es.length), (8, b2n gap)] (es.flatMap LogEntry.bytes)

/-- LOG_SUPPRESSED_RECORD: once a token is available a KIND 7 entry records the suppressed count (R422). -/
def execLogSuppressedRecord (s : State) : Host.Outcome State Fault Refusal :=
  .next <| if s.ben.up && 0 < s.ben.suppressedNew && 1000 ≤ s.tokensNow then
    (State.logEntry { s with ben := { s.ben with suppressedNew := 0 } } unitBenash 2 kindLog 0 0x20 s.ben.suppressedNew).raiseEvent evBenash
  else s

/-! ### Firmware (R424 to R428) -/

/-- Fields of a firmware image (Table 13-7). -/
def imageField (img : List Byte) (pos n : Nat) : Nat := leAt img pos n

/-- A section's bounds lie between the header and the signature block. -/
def sectionOk (img : List Byte) (pos : Nat) : Bool :=
  256 ≤ imageField img pos 4 && imageField img pos 4 + imageField img (pos + 4) 4 + 512 ≤ imageField img 8 4

/-- Check 1 of Table 13-9. -/
def imageConsistent (img : List Byte) (len : Nat) : Bool :=
  imageField img 8 4 = img.length && imageField img 8 4 = len && imageField img 8 4 % 4096 = 0 && len ≤ 4194304 &&
    imageField img 0 4 = 0x57594D46 && imageField img 4 2 = 1 && imageField img 6 2 = 256 && sectionOk img 32 && sectionOk img 40 && sectionOk img 48

/-- The first failing check of Table 13-9: COMMIT_REJECT and status (R426). -/
def State.commitCheck (s : State) (img : List Byte) (len : Nat) : Option (Nat × Status) :=
  let sig := img.length - 512
  let kid := imageField img (sig + 2) 1
  let key := (img.drop (sig + 4)).take 97
  let secp := (img.drop (imageField img 40 4)).take (imageField img 44 4)
  if s.ben.staged ≠ len || !imageConsistent img len then some (1, .range)
  else if !bitAt (imageField img 24 1) s.fuse.part.code then some (2, .range)
  else if kid > 3 || s.fuse.revoked.getLsbD kid || sha384 key ≠ romKeyDigest kid then some (3, .authFail)
  else if !ecdsaVerify key (sha384 (img.take sig)) ((img.drop (sig + 104)).take 96) then some (4, .authFail)
  else if imageField img 16 4 < s.fuse.rollback then some (5, .range)
  else if beNat ((img.drop 64).take 48) ≠ (sha384 secp).toNat then some (6, .authFail)
  else none

/-- FW_STAGE: a chunk from a host window goes into the inactive slot (R425); `bytes` is what the window holds. -/
def execFwStage (tag : BitVec 16) (bytes : List Byte) (s : State) : Host.Outcome State Fault Refusal :=
  .next <| s.runRequest tag 0x59 fun q s =>
    let first := bitAt (q.cap.arg 28 1) 0
    let a := q.cap.arg 32 8
    let n := q.cap.arg 40 4
    let off := q.cap.arg 44 4
    let staged := if first then 0 else s.ben.staged
    s.guarded q [(q.cap.len ≠ 0, .lenRange),
      (!q.cap.fieldsOk [(28, 1), (32, 16)] || q.cap.arg 28 1 > 1 || a ≥ 2 ^ 41 || n < 4096 || n > 1048576 || n % 4096 ≠ 0
        || off ≠ staged || off + n > 4194304, .range)] [(32, s.ben.staged)] fun s =>
      match s.bufferFault a n false with
      | some k => (s.windowFault 1001 a k).finish q .windowFault [(32, s.ben.staged)] []
      | none =>
        let x := s.otherSlot
        let s1 := s.putOther { x with image := (if first then [] else x.image) ++ fitBytes n bytes, valid := x.valid && !first }
        State.finish { s1 with ben := { s1.ben with staged := off + n } } q .ok [(32, off + n)] []

/-- FW_COMMIT: the checks of Table 13-9; the inactive slot becomes valid when all pass (R426). -/
def execFwCommit (tag : BitVec 16) (s : State) : Host.Outcome State Fault Refusal :=
  .next <| s.runRequest tag 0x5A fun q s =>
    s.guarded q [(q.cap.len ≠ 0, .lenRange), (!q.cap.fieldsOk [(28, 4)], .range)] [] fun s =>
      let x := s.otherSlot
      match s.commitCheck x.image (q.cap.arg 28 4) with
      | some (code, st) =>
        (State.raiseEvent { s with ben := { s.ben with commitReject := code } } evBenash).finish q st [(32, imageField x.image 12 4)] []
      | none =>
        let f := fun (pos n : Nat) => imageField x.image pos n
        let s1 := s.putOther { x with
          valid := true, fwver := f 12 4, svn := f 16 4, progver := f 20 4, layout := f 56 4
          secpHash := BitVec.ofNat 384 (beNat ((x.image.drop 64).take 48)) }
        (State.raiseEvent { s1 with ben := { s1.ben with commitReject := 0 } } evBenash).finish q .ok [(32, f 12 4)] []

/-- FW_ACTIVATE: the marker names the inactive slot and Benash restarts into it on trial; a changed security partition zeroizes
every key first (R392, R427). -/
def execFwActivate (tag : BitVec 16) (s : State) : Host.Outcome State Fault Refusal :=
  .next <| s.runRequest tag 0x5B fun q s =>
    let target := if s.ben.recovery then (if s.otherSlot.valid then !s.ben.runB else s.ben.runB) else !s.ben.runB
    let x := if target then s.nvm.slotB else s.nvm.slotA
    s.guarded q [(q.cap.len ≠ 0, .lenRange), (!q.cap.fieldsOk [] || !x.valid, .range)] [] fun s =>
      let swap := x.secpHash ≠ s.runSlot.secpHash
      let s1 : State := { s with
        nvm := { (if swap then s.nvm.eraseKeys else s.nvm) with markB := target }
        ward := if swap then s.ward.eraseKeys else s.ward
        ben := { s.ben with activating := true } }
      ((s1.startRun q).raiseEvent evBenash).startRestart

/-- FW_TRIAL_CONFIRM: 10 minutes without a restart confirm the image and raise the anti-rollback counter (R427). -/
def execFwTrialConfirm (s : State) : Host.Outcome State Fault Refusal :=
  .next <| if !s.ben.trial || !s.ben.up || s.time < s.ben.trialSince + 600000000000 then s
    else
      let s1 : State := { s with
        fuse := { s.fuse with rollback := max s.fuse.rollback (min 63 s.runSlot.svn) }
        ben := { s.ben with trial := false } }
      (s1.logEntry unitBenash 1 kindState 2 0x01 1 0).raiseEvent evBenash

/-! ### Restart events (R303, R366, R429) -/

/-- BENASH_WATCHDOG: 100 ms without service restarts Benash; a trial image has then failed (R303, R427). -/
def execBenashWatchdog (s : State) : Host.Outcome State Fault Refusal :=
  .next <| if !s.ben.up then s
    else
      let s1 : State := { s with ben := { s.ben with watchdogs := inc 16 s.ben.watchdogs } }
      s1.startRestart.failTrial

/-- What each request in progress receives after a restart (R366): DIAG_TDR and FW_ACTIVATE complete with OK; a change that took
effect would have ended its request already, so the others complete with TIMEOUT. CAL_RUN follows R239. -/
def State.resumeRun (s : State) (q : Request) : State :=
  let s1 := s.unrun q.cap.tag
  match q.cap.op with
  | 0x50 => s
  | 0x53 => s1.interruptDiag q
  | 0x5B => s1.finish q .ok [(32, s1.runSlot.fwver)] []
  | 0x65 => s
  | _ => s1.finish q .timeout [] []

/-- BENASH_RESTART_END: the boot ROM has passed its SRAM test and Cyoner runs; waiting completions are written, interrupted requests
end (R366, R415, R422). A failed march test sets FP_NME_STATUS.MEMORY and Benash stays unready. -/
def execBenashRestartEnd (sramGood : Bool) (s : State) : Host.Outcome State Fault Refusal :=
  .next <|
    if s.ben.up || s.pwr.porHeld || s.pwr.warmHeld || s.pwr.coreSince.isSome then s
    else if !sramGood && s.ben.restartSince.isNone then s.raiseNme nmeMemory
    else
      let s1 := s.boot.flushQueue.loadFirst
      let s2 := s1.cyo.ended.foldl (fun st e => st.finish e.1 e.2.1 e.2.2 []) { s1 with cyo := { s1.cyo with ended := [] } }
      let s3 := if s.ben.restartSince.isSome then s2.cyo.running.foldl (fun st q => st.resumeRun q) s2 else s2
      s3.resumeCalibration

/-! ### Self-test commands -/

/-- A target that a test code admits (R434, Table 13-13). -/
def State.bistTargetOk (s : State) (test target : Nat) : Bool :=
  match test with
  | 0x01 => target < s.fuse.part.engines
  | 0x02 => target < 4
  | 0x03 => target < 26 || (0x100 ≤ target && target < 0x100 + 26)
  | 0x04 => target < 4
  | 0x10 | 0x11 => target = 0
  | _ => false

/-- The target is in the state that the table allows. -/
def State.bistTargetFree (s : State) (test target : Nat) : Bool :=
  match test with
  | 0x01 => s.engineIdle target
  | 0x02 => (s.kn.state = 2 && s.kn.shed.val = target) || s.link.state = 0
  | 0x03 => s.laneIdle target
  | 0x04 => (s.inKnuckle && target = 3) || !(s.link.state = 8 || s.link.state = 9)
  | _ => s.link.state = 0

/-- BIST_RUN (R434 to R436, R364). -/
def execBistRun (tag : BitVec 16) (s : State) : Host.Outcome State Fault Refusal :=
  .next <| s.runRequest tag 0x54 fun q s =>
    let t := q.cap.arg 28 2
    let a := q.cap.arg 30 2
    let same := match s.bist.run with | some r => samePart r.test r.target t a | none => false
    s.guarded q [(q.cap.len ≠ 0, .lenRange),
      (!s.ready .bist || ((t = 2 || t = 3) && !s.ready .line) || !s.bistMayStart || (s.bistTargetOk t a && !same && !s.bistTargetFree t a), .notReady),
      (same, .busySelftest), (!q.cap.fieldsOk [(28, 4)] || !s.bistTargetOk t a, .range)] s.bist.results fun s =>
      let s := if 2 ≤ t && t ≠ 4 then s.leaveDormant else s
      ((s.startTest t a).startRun q).stopBackground t a

/-- BIST_ABORT: the named running test stops, its region is restored, it records INCOMPLETE (R436). -/
def execBistAbort (tag : BitVec 16) (s : State) : Host.Outcome State Fault Refusal :=
  .next <| s.runRequest tag 0x55 fun q s =>
    let hit := match s.bist.run with
      | some r => r.test = q.cap.arg 28 2 && r.target = q.cap.arg 30 2 && !s.ben.sdPrep
      | none => false
    s.guarded q [(q.cap.len ≠ 0, .lenRange), (!s.ready .bist, .notReady), (!q.cap.fieldsOk [(28, 4)] || !hit, .range)] [] fun s =>
      (s.abortTest 1).finish q .ok [] []

/-- BIST_TEST_END: the test's steps, whether one failed, its signature, and whether the region's restore passed its CRC (R435, R437). -/
def execBistTestEnd (e : TestEnd) (s : State) : Host.Outcome State Fault Refusal :=
  .next <| match s.bist.run with
    | none =>
      if s.ben.sdPrep then
        -- the wait of SHUTDOWN_PREP's step 2 ended without a test
        (s.recordTest 0x10 0 2 3 0 s.time 0).finishShutdown
      else s
    | some r =>
      let full := e.done ≥ r.planned
      let fail := e.failed || !e.restored || (full && e.signature ≠ expectedSignature r.test r.target)
      let result := if fail then 1 else if full then 0 else 2
      let s1 := s.recordTest r.test r.target result 0 (min e.done r.planned) r.since e.signature
      let s2 := if fail then s1.retireElement r.test r.target else if r.test = 0x03 && result = 0 then s1.laneToSpare r.target else s1
      let s3 := s2.endRun 0x54 (fun c => c.arg 28 2 = r.test && c.arg 30 2 = r.target) .ok s2.bist.results
      let s4 := s3.finishShutdown
      (if r.test ≥ 0x10 then s4.startSearch else s4).releaseHeld

/-- SHUTDOWN_PREP: the link goes down, an on-demand test is aborted, the full test runs, then the record is written (R433). -/
def execShutdownPrep (tag : BitVec 16) (s : State) : Host.Outcome State Fault Refusal :=
  .next <| s.runRequest tag 0x5C fun q s =>
    s.guarded q [(q.cap.len ≠ 0, .lenRange), (!q.cap.fieldsOk [], .range)] [] fun s =>
      let s1 := (s.abortTest 5).adminDown
      let s2 := s1.startRun q
      let s3 := s2.modBen (fun b => { b with sdPrep := true })
      if s3.bistMayStart then s3.startTest 0x10 0 else s3

end Sys2Proof.Machine

namespace Sys2Proof
open Machine

/-- What failed in the start-up test, each with a cause code and its element (R432, R421): 1 engine, 2 lane (inbound from 0x100 on), 3 slice and 4 DAC cell (with the pair
from bit 8 on), 5 the LDPC cores and the framer group, 6 a pair's analogue parameters. -/
def StartUpEnd.failed (e : StartUpEnd) : List (Nat × Nat) :=
  e.engines.map (fun k => (1, k)) ++ e.lanesOut.map (fun k => (2, k)) ++ e.lanesIn.map (fun k => (2, 0x100 + k)) ++
    e.slices.map (fun k => (3, k.2 + 256 * k.1)) ++ e.cells.map (fun k => (4, k.2 + 256 * k.1)) ++ (if e.ldpc then [(5, 0)] else []) ++
    ((List.range 4).filter (fun p => e.pairs.getLsbD p)).map (fun p => (6, p))

end Sys2Proof

namespace Sys2Proof.Machine

/-- START_UP_TEST_END: what failed, or that an excursion restarts the test (R432). -/
def execStartUpTestEnd (e : StartUpEnd) (s : State) : Host.Outcome State Fault Refusal :=
  .next <|
    if !s.bist.startup then s
    else if e.excursion then s.startupExcursion
    else
      let e : StartUpEnd := { e with engines := e.engines.filter (· < s.fuse.part.engines) }
      let fails := e.failed.length
      let s1 : State := { s with bist := { s.bist with
        startup := false, passed := true, ldpcFail := e.ldpc, lineFail := e.pairs } }
      let t := if s.ben.startFull then 0x10 else 0x11
      let result := if fails = 0 && e.signature = expectedSignature t 0 then 0 else 1
      let s2 := s1.recordTest t 0 result 0 (bistSteps t) s.bist.startupSince e.signature
      let s3 := s2.retireFailed e
      (e.failed.foldl (fun st k => st.logEntry unitBist 4 kindFault k.1 0x01 k.2) s3).loadFirst

/-- SD_RECORD_DISARM: 10 minutes without power removal (R433). -/
def execSdRecordDisarm (s : State) : Host.Outcome State Fault Refusal := .next { s with nvm := s.nvm.disarm 2 }

/-! ### Sensors (R416 to R418) -/

/-- The entry of a sensor condition that begins or ends: DETAIL names SUPPLY_WARN or TEMP_WARN of MGMT_STATUS (R417, R421). -/
def State.limitLog (s : State) (field sev value limit sensor : Nat) : State := s.logEntry unitBenash sev kindLimit field 0x01 value limit sensor

/-- Rows of SUPPLY_WARN and TEMP_WARN in Table 13-16. -/
def supplyWarnRow : Nat := 16
/-- TEMP_WARN's. -/
def tempWarnRow : Nat := 17

/-- The limit that a supply reading is held to, mV: the nearer bound of the ±3 % or ±5 % band, or that of SUPPLY8 (Table 13-3). -/
def supplyLimit (i : Nat) (critical : Bool) (v : Nat) : Nat :=
  if i = 8 then (if critical then 1450 else 1600)
  else
    let pct := if critical then 5 else 3
    if v < supplyNominal i then supplyNominal i * (100 - pct) / 100 else supplyNominal i * (100 + pct) / 100

/-- Begin or end one supply limit of a sensor (Table 13-3). -/
def State.supplyChange (s : State) (i : Nat) (critical begins : Bool) (v : Nat) : State :=
  let limit := supplyLimit i critical v
  if begins then
    if critical then (s.raiseNme nmeSupply).limitLog supplyWarnRow 4 v limit i
    else (s.raiseEvent evBenash).limitLog supplyWarnRow (if i = 8 then 3 else 2) v limit i
  else (s.raiseEvent evBenash).limitLog supplyWarnRow 1 v limit i

/-- A supply limit judged on one reading: in force after two consecutive readings outside, ended by one inside (R417). -/
def State.judgeSupply (s : State) (critical : Bool) (i v : Nat) : State :=
  let c := s.ben.cond
  let out := if i = 8 then decide (v < (if critical then 1450 else 1600)) else supplyOutside v i (if critical then 5 else 3)
  let now := if critical then c.crit.getLsbD i else c.warn.getLsbD i
  let once := if critical then c.critOnce.getLsbD i else c.warnOnce.getLsbD i
  let bit := BitVec.twoPow 10 i
  let force := out && (now || once)
  let upd := fun (b : BitVec 10) (x : Bool) => if x then b ||| bit else b &&& ~~~bit
  let s1 : State := { s with ben := { s.ben with cond :=
    if critical then { c with crit := upd c.crit force, critOnce := upd c.critOnce out }
    else { c with warn := upd c.warn force, warnOnce := upd c.warnOnce out } } }
  if force ≠ now then s1.supplyChange i critical force v else s1

/-- The temperature conditions of Table 13-3. -/
def State.judgeTemps (s : State) : State :=
  let j := s.junction
  let c := s.ben.cond
  let hot := if c.hot then decide (1000 ≤ j) else decide (1050 ≤ j)
  let cold := if c.cold then decide (j < -370) else decide (j < -400)
  let crit := decide (1150 ≤ j)
  let s0 : State := { s with ben := { s.ben with cond := { c with hot := hot, cold := cold, critical := crit }, tempMax := max s.ben.tempMax j } }
  let v := ofInt 32 j
  let s1 := if hot ≠ c.hot then (s0.raiseEvent evBenash).limitLog tempWarnRow (if hot then 2 else 1) v 1050 0 else s0
  let s2 := if cold ≠ c.cold then (s1.raiseEvent evBenash).limitLog tempWarnRow (if cold then 2 else 1) v (ofInt 32 (-400)) 0 else s1
  if crit = c.critical then s2
  else if crit then
    let s3 := (s2.raiseNme nmeThermal).limitLog tempWarnRow 4 v 1150 0
    if s.ben.thermalAct then s3.adminDown else s3
  else (s2.raiseEvent evBenash).limitLog tempWarnRow 1 v 1150 0

/-- SENSOR_READ: six temperatures in 0.1 °C and ten supplies in mV, read each millisecond (R416, R417, R436). -/
def execSensorRead (temps : List Int) (supplies : List Nat) (s : State) : Host.Outcome State Fault Refusal :=
  .next <| if s.pwr.porHeld || s.pwr.warmHeld || temps.length ≠ 6 || supplies.length ≠ 10 then s
    else
      let s1 : State := { s with ben := { s.ben with temps := temps, supplies := supplies } }
      let s2 := s1.judgeTemps
      let s3 := supplies.zipIdx.foldl (fun st e => (st.judgeSupply false e.2 e.1).judgeSupply true e.2 e.1) s2
      if supplies.zipIdx.any (fun e => e.2 ≠ 8 && supplyOutside e.1 e.2 3) then s3.excursion
      -- SHUTDOWN_PREP waits for the start conditions (R433 step 2)
      else if s3.ben.sdPrep && s3.bist.run.isNone && s3.bistMayStart then s3.startTest 0x10 0
      else s3

/-- The action of an aging alarm (Table 13-4). -/
def State.agingAct (s : State) (m e : Nat) : State :=
  if m < 4 then s.agingRepair e
  else if m = 6 then s.laneCause false e 4
  else if m = 7 then s.laneCause true e 4
  else if 8 ≤ m then s.sliceUnfit (m - 8) e
  else s

/-- Number that ELEMENT gives the i-th element of a monitor (Table 13-4): engines and LDPC cores are numbered over the monitors. -/
def agingElement (m i : Nat) : Nat := if m < 4 then 24 * m + i else if m < 6 then 2 * (m - 4) + i else i

/-- What a monitor finds at an element, 0.01 %: the slowing of the stressed oscillator less the factory baseline (R418). -/
def agingValue (m e : Nat) (f : Nat × Nat) : Int := roundQuot (10000 * ((f.1 : Int) - f.2)) f.1 - freeAgingBaseline m e

/-- READING and ELEMENT of a monitor: the largest value and the first element that gives it, engines that the part lacks left out; none: nothing is measured
(R2, R418). -/
def State.agingReading (s : State) (m : Nat) (fs : List (Nat × Nat)) : Option (Nat × Nat) :=
  let vs := (fs.zipIdx.map (fun f => (agingElement m f.2, f.1))).filter (fun f => !(m < 4 && s.fuse.part.engines ≤ f.1))
  let best := vs.foldl (fun (b : Option (Int × Nat)) f =>
    let v := agingValue m f.1 f.2
    match b with | some x => if x.1 < v then some (v, f.1) else some x | none => some (v, f.1)) none
  best.map (fun b => (min 65535 b.1.toNat, b.2))

/-- One aging monitor's measurement is recorded and acted on (R418). -/
def State.measureAging (s : State) (m reading element : Nat) : State :=
  let a := s.ben.aging.getD m {}
  let alarm := a.alarm || decide (s.ben.agingThr * 10 ≤ reading)
  let past := (reading :: a.past).take 4321
  let a1 : Aging := { reading := reading, element := element, alarm := alarm, past := past, drift30 := 10 * (reading - past.getLastD 0) }
  let s1 : State := { s with ben := { s.ben with aging := setAt s.ben.aging m a1 } }
  if alarm && (!a.alarm || a.element ≠ element) then
    ((s1.raiseEvent evBenash).logEntry unitBenash 2 kindLimit 2 0x10 reading (s.ben.agingThr * 10) (packNat [(8, element), (8, m)])).agingAct m element
  else s1

/-- AGING_MEASURE: each monitor measures its elements (R418). -/
def execAgingMeasure (fs : List (List (Nat × Nat))) (s : State) : Host.Outcome State Fault Refusal :=
  .next <| if !s.ben.up || fs.length ≠ 12 then s
    else fs.zipIdx.foldl (fun st x => match s.agingReading x.2 x.1 with | some r => st.measureAging x.2 r.1 r.2 | none => st) s

/-! ### Memory integrity (R419) -/

/-- SRAM_SCRUB: corrected errors count; an uncorrectable one sets FP_NME_STATUS.MEMORY, is logged and restarts Benash. -/
def execSramScrub (corrected : Nat) (bad : Bool) (s : State) : Host.Outcome State Fault Refusal :=
  .next <| if !s.ben.up then s
    else
      let s1 : State := { s with ben := { s.ben with sramCe := satAdd 16 s.ben.sramCe corrected } }
      if bad then ((s1.raiseNme nmeMemory).logEntry unitBenash 4 kindFault 1 0x01).startRestart else s1

/-- What follows an uncorrectable NVM error (R419). -/
def Nvm.lose (n : Nvm) : NvmArea → Nvm
  | .slotA => { n with slotA := { n.slotA with valid := false } }
  | .slotB => { n with slotB := { n.slotB with valid := false } }
  | .trim1 => { n with trim1Good := false }
  | .trim2 => { n with trim2Good := false }
  | .log seq => { n with log := n.log.filter (fun e => e.seq ≠ seq) }
  | .shutdown => { n with sd := none }
  | .tamper => { n with tamperCount := 0, tamperLast := 0, tamperZeroized := false, tamperLc := 0, tamperUptime := 0 }
  | .keks => { n with keks := [] }
  | .cak => { n with cak := none }
  | .cert => { n with cert1 := [] }

/-- One uncorrectable NVM error. -/
def State.nvmError (s : State) (a : NvmArea) : State :=
  let lost := match a with | .log _ => true | _ => false
  let s1 : State := { s with nvm := s.nvm.lose a, ben := if lost then { s.ben with lost := inc 16 s.ben.lost } else s.ben }
  (s1.raiseNme nmeMemory).logEntry unitBenash 4 kindFault 2 0x01

/-- NVM_SCRUB: lines corrected, and uncorrectable errors by area (R419). -/
def execNvmScrub (corrected : Nat) (bad : List NvmArea) (s : State) : Host.Outcome State Fault Refusal :=
  .next <| if !s.ben.up then s
    else
      let s1 : State := { s with
        ben := { s.ben with nvmCe := satAdd 16 s.ben.nvmCe corrected }
        nvm := { s.nvm with scrubAt := s.porNs } }
      let s2 := bad.foldl (fun st a => st.nvmError a) s1
      if corrected = 0 then s2 else s2.raiseEvent evBenash

/-! ### Objects (R439 to R443) -/

/-- Object 0x0800 MGMT_CTL. -/
def State.mgmtCtlImage (s : State) : List (Nat × Nat) :=
  [(1, b2n s.ben.thermalAct), (7, 0), (8, s.ben.agingThr), (3, s.ben.logSev), (5, 0), (4, s.ben.logRate), (36, 0)]

/-- A MGMT_CTL image in range (R439). -/
def mgmtCtlOk (v : Nat) : Bool :=
  bitsAt v 1 7 = 0 && 20 ≤ bitsAt v 8 8 && bitsAt v 8 8 ≤ 80 && bitsAt v 16 3 ≤ 3 && bitsAt v 19 5 = 0 && 1 ≤ bitsAt v 24 4 && bitsAt v 24 4 ≤ 8
    && bitsAt v 28 36 = 0

/-- Store MGMT_CTL. -/
def State.storeMgmtCtl (s : State) (v : Nat) : State :=
  { s with ben := { s.ben with
    tokens := s.tokensNow, tokenTime := s.time / 1000000
    thermalAct := bitAt v 0, agingThr := bitsAt v 8 8, logSev := bitsAt v 16 3, logRate := bitsAt v 24 4 } }

/-- Object 0x0801 MGMT_STATUS. -/
def State.mgmtStatusImage (s : State) : List (Nat × Nat) :=
  let b := s.ben
  [(1, b2n b.recovery), (1, b2n b.runB), (1, b2n b.trial), (1, b2n b.fallback), (1, b2n b.sdUsed),
   (1, b2n (match s.nvm.sd with | some r => r.armed | none => false)), (1, b2n b.startFull), (9, 0), (16, b.restarts), (32, s.nvm.boots),
   (32, s.time / 1000000000), (16, min 65535 ((s.porNs - s.nvm.scrubAt) / 3600000000000)), (16, b.nvmCe), (16, b.sramCe), (16, b.watchdogs),
   (16, ofInt 16 b.tempMax), (10, b.cond.warn.toNat), (6, ofBools (b.temps.map (fun t => decide (1050 ≤ t)))), (64, 0)]

/-- Object 0x0810 AGING. -/
def State.agingImage (s : State) : List (Nat × Nat) :=
  s.ben.aging.flatMap (fun a => [(16, a.reading), (8, a.element), (1, b2n a.alarm), (7, 0), (16, min 65535 a.drift30), (16, 0)])

/-- Object 0x0820 LOG_STATUS. -/
def State.logStatusImage (s : State) : List (Nat × Nat) :=
  [(32, s.nvm.oldest), (32, s.nvm.newest), (16, s.ben.suppressed), (16, s.ben.lost), (32, s.ben.critical)]

/-- Object 0x0830 FW_STATUS. -/
def State.fwStatusImage (s : State) : List (Nat × Nat) :=
  let a := s.nvm.slotA
  let b := s.nvm.slotB
  [(32, if a.valid then a.fwver else 0), (32, if b.valid then b.fwver else 0), (1, b2n a.valid), (1, b2n b.valid), (1, b2n s.nvm.markB), (1, 0),
   (4, s.ben.commitReject), (6, s.fuse.rollback), (2, 0), (6, a.svn), (6, b.svn), (4, 0), (32, s.ben.staged), (32, s.runSlot.progver),
   (32, if s.ben.swapLeft = 0 then s.ben.progver else s.ben.progverOld), (8, s.ben.swapLeft), (1, b2n s.ben.swapDeferred), (55, 0)]

/-- Object 0x0B00 BIST_STATUS. -/
def State.bistStatusImage (s : State) : List (Nat × Nat) :=
  let b := s.bist
  let r := b.run.getD { test := 0, target := 0, planned := 0, since := 0 }
  [(8, r.test), (16, r.target), (8, 0), (16, if s.bist.run.isSome then s.stepsDone r else 0), (16, r.planned), (32, s.bistRemain), (16, b.runs), (16, b.fails)]

/-- Object 0x0B01 BIST_LAST. -/
def State.bistLastImage (s : State) : List (Nat × Nat) :=
  let b := s.bist
  [(8, b.lastTest), (16, b.lastTarget), (2, b.lastResult), (3, b.lastEnd), (3, 0), (16, b.lastDone), (16, b.lastPlanned), (16, b.lastCoverage),
   (16, 0), (32, b.lastDuration), (64, b.lastSignature.toNat), (64, 0)]

/-- Object 0x0B02 SD_RECORD. -/
def State.sdRecordImage (s : State) : List (Nat × Nat) :=
  match s.nvm.sd with
  | none => [(256, 0)]
  | some r => [(1, 1), (1, b2n r.armed), (1, b2n r.used), (2, r.result), (3, r.disarm), (8, 0), (32, r.boot), (32, r.fwver), (16, ofInt 16 r.temp),
      (32, 0), (64, r.signature.toNat), (64, 0)]

end Sys2Proof.Machine
end

