-- ==== Sys2Proof/Machine/LineCode.lean ====
section
/-! DEFINITION. The native line code as plain functions on numbers and lists: CRCs, DSQ-128, LDPC, scrambler, precoder, transmit FIR, header, tags and InfoField slices (02_native_line_code R49 to R79; 05 R164, R165; 06 R204, R205). A codeword, header or message is a number whose bit i is bit i of the spec. -/

namespace Sys2Proof.Machine

/-- The bits of a number from the most significant of w down. -/
def msbBits (w v : Nat) : List Bool := (toBools w v).reverse

/-- CRC-16 of R65 over bits taken most significant first. -/
def crc16 (bits : List Bool) : Nat := crcLeft 16 0x1021 0xFFFF bits

/-- CRC-8 of R69. -/
def crc8 (bits : List Bool) : Nat := crcLeft 8 0x07 0 bits

/-! ### DSQ-128 (R50, R51) -/

/-- Reflected binary Gray code. -/
def gray (k : Nat) : Nat := k ^^^ (k / 2)

/-- Its inverse on 4 bits. -/
def ungray (g : Nat) : Nat := g ^^^ (g / 2) ^^^ (g / 4) ^^^ (g / 8)

/-- Level index to amplitude. -/
def level (k : Nat) : Int := 2 * (k : Int) - 15

/-- The point of a label. -/
def dsq128 (l : Nat) : Int × Int :=
  let j := ungray (bitsAt l 3 4)
  let i := 2 * ungray (bitsAt l 0 3) + j % 2
  (level i, level j)

/-- The label of the point at level indices i and j (i and j of the same parity). -/
def dsqLabel (i j : Nat) : Nat := 8 * gray j + gray (i / 2)

/-- The symbols of n labels held in a number, 7 bits each from a bit position on. -/
def pointSymbols (v pos : Nat) : Nat → List Int
  | 0 => []
  | n + 1 =>
    let q := dsq128 (bitsAt v pos 7)
    q.1 :: q.2 :: pointSymbols v (pos + 7) n

/-! ### LDPC (R52, R53) -/

/-- rot(v, s)[a] = v[(a + s) mod 128]. -/
def rot (v s : Nat) : Nat := (v / 2 ^ (s % 128) + v * 2 ^ (128 - s % 128)) % 2 ^ 128

/-- Shift of base row k in information column b. -/
def baseShift (k b : Nat) : Nat := if k = 0 then 0 else if k = 1 then 5 * (b + 1) % 128 else 23 * (b + 1) % 128

/-- Block b of a codeword. -/
def block (c b : Nat) : Nat := bitsAt c (128 * b) 128

/-- lam_k over the 25 information blocks. -/
def lam (u k : Nat) : Nat := (List.range 25).foldl (fun a b => a ^^^ rot (block u b) (baseShift k b)) 0

/-- The codeword of 3,200 information bits. -/
def ldpcEncode (u : Nat) : Nat :=
  let l0 := lam u 0
  let l1 := lam u 1
  let l2 := lam u 2
  let p0 := l0 ^^^ l1 ^^^ l2
  let p1 := l0 ^^^ rot p0 1
  let p2 := l2 ^^^ rot p0 1
  u % 2 ^ 3200 + 2 ^ 3200 * (p0 + 2 ^ 128 * (p1 + 2 ^ 128 * p2))

/-- A word of 3,584 bits meets every parity equation. -/
def ldpcValid (c : Nat) : Bool := ldpcEncode c = c

/-! ### Scrambler (R54) -/

/-- The seed of a pair and sequence. -/
def scrambleSeed (pair seq : Nat) : Nat := 0x1A5B * 1024 + (pair % 4) * 256 + seq % 256

/-- One step: the bit and the next state. -/
def scrambleStep (s : Nat) : Bool × Nat :=
  let k := bitAt s 22 ≠ bitAt s 17
  (k, (2 * s + b2n k) % 2 ^ 23)

/-- The first n bits from a state as a number. -/
def keystream : Nat → Nat → Nat
  | 0, _ => 0
  | n + 1, s => let r := scrambleStep s; b2n r.1 + 2 * keystream n r.2

/-- Scramble or descramble a codeword. -/
def scramble (c seq pair : Nat) : Nat := c ^^^ keystream 3584 (scrambleSeed pair seq)

/-! ### Header (R63 to R65, R68) -/

/-- Width of the header. -/
def headerBits (kn : Bool) : Nat := if kn then 48 else 64

/-- The header above its CHECK. -/
def headerTop (kn : Bool) (firstTag seq status info : Nat) : Nat :=
  if kn then packNat [(2, 0), (3, info), (8, status), (8, seq), (11, firstTag)]
  else packNat [(21, info), (8, status), (8, seq), (11, firstTag)]

/-- A header with its CHECK. -/
def makeHeader (kn : Bool) (firstTag seq status info : Nat) : Nat :=
  let top := headerTop kn firstTag seq status info
  crc16 (msbBits (headerBits kn - 16) top) + 2 ^ 16 * top

/-- CHECK of a header matches. -/
def headerCheck (kn : Bool) (h : Nat) : Bool := h % 65536 = crc16 (msbBits (headerBits kn - 16) (h / 65536))

/-- FIRST_TAG. -/
def headerFirst (kn : Bool) (h : Nat) : Nat := bitsAt h (headerBits kn - 11) 11
/-- SEQ. -/
def headerSeq (kn : Bool) (h : Nat) : Nat := bitsAt h (headerBits kn - 19) 8
/-- STATUS. -/
def headerStatus (kn : Bool) (h : Nat) : Nat := bitsAt h (headerBits kn - 27) 8
/-- INFO. -/
def headerInfo (kn : Bool) (h : Nat) : Nat := if kn then bitsAt h 18 3 else bitsAt h 16 21

/-- Payload bytes of a period. -/
def periodBytes (kn : Bool) : Nat := if kn then 1194 else 1592

/-- FIRST_TAG is in range or 0x7FF, and the Knuckle form's zero bits are 0 (R68). -/
def headerFieldsOk (kn : Bool) (h : Nat) : Bool :=
  (headerFirst kn h < periodBytes kn || headerFirst kn h = 0x7FF) && (!kn || bitsAt h 16 2 = 0)

/-! ### Tags (R69 to R71) -/

/-- TCHECK over bits [31:16]. -/
def tagCheck (top : Nat) : Nat := crc8 (msbBits 16 top)

/-- The four bytes of a tag: TYPE and LENGTH. -/
def tagBytes (typ len : Nat) : List Byte :=
  let top := len * 4 + typ
  leBytes 4 (2 ^ 16 * top + 2 ^ 8 * tagCheck top)

/-- LENGTH is in the range of its TYPE. -/
def tagLengthOk (typ len : Nat) : Bool :=
  if typ = 0 then 64 ≤ len && len ≤ 16000 else if typ = 1 then 64 ≤ len && len ≤ 1518 else typ = 3

/-- TYPE and LENGTH of a tag; none: a tag failure (R70). -/
def readTag (bs : List Byte) : Option (Nat × Nat) :=
  let v := leNat bs
  let top := v / 2 ^ 16
  if v % 256 = 0 && bitsAt v 8 8 = tagCheck top && tagLengthOk (top % 4) (top / 4) then some (top % 4, top / 4) else none

/-- Bytes from one tag to the next: 4 × ceil((LENGTH + 4) / 4). -/
def itemSize (len : Nat) : Nat := (len + 7) / 4 * 4

/-- An item with its tag and pad. -/
def itemBytes (typ : Nat) (body : List Byte) : List Byte :=
  tagBytes typ body.length ++ body ++ List.replicate (itemSize body.length - body.length - 4) 0

/-- A frame as it goes on the line: padded to 60 bytes, with its FCS (R72). -/
def lineFrame (bs : List Byte) : List Byte :=
  let b := bs ++ List.replicate (60 - bs.length) 0
  b ++ leBytes 4 (crc32 b)

/-- The FCS of a frame or OAM item holds. -/
def fcsOk (bs : List Byte) : Bool := 4 ≤ bs.length && leNat (bs.drop (bs.length - 4)) = crc32 (bs.take (bs.length - 4))

/-! ### Precoder and FIR (R56, R57) -/

/-- One precoder step: taps h_k in 1/2048, memory newest first and output in 1/256 of an amplitude. The sum is rounded to 1/256,
halves up (DESIGN CHOICE, log entry 18). -/
def precodeStep (taps mem : List Int) (a : Int) : Int :=
  let sum := (List.zipWith (· * ·) taps mem).foldl (· + ·) 0
  (256 * a - (sum + 1024) / 2048 + 4096) % 8192 - 4096

/-- Precode symbols; a late THP segment gives output 0 (R130). Answers outputs in order and the memory after them. -/
def precodeRun (taps : List Int) (late : BitVec 16) : Nat → List Int → List Int → List Int × List Int
  | _, mem, [] => ([], mem)
  | n, mem, a :: as =>
    let v := if late.getLsbD (n / 64) then 0 else precodeStep taps mem a
    let r := precodeRun taps late (n + 1) (v :: mem.take 47) as
    (v :: r.1, r.2)

/-- FIR output in 1/256/16384 of an amplitude: taps f_k in 1/16384, v newest first. -/
def firStep (f vs : List Int) : Int := (List.zipWith (· * ·) f vs).foldl (· + ·) 0

/-- The magnitude of a DAC code before its clamp: the greatest n with (2n − 1) × den × 10^(b/80) ≤ 2 × num, both sides taken to
the 80th power (b: backoff in 0.25 dB); a half is rounded away from zero (DESIGN CHOICE, log entry 18). -/
def dacMagnitude (num b : Nat) : Nat :=
  let den := 256 * 16384
  let below := fun (n : Nat) => if b = 0 then decide ((2 * n - 1) * den ≤ 2 * num) else decide (((2 * n - 1) * den) ^ 80 * 10 ^ b ≤ (2 * num) ^ 80)
  (List.range 10).foldl (fun acc k => let c := acc + 2 ^ (9 - k); if below c then c else acc) 0

/-- DAC code of a FIR output, and whether it was clamped (R57). -/
def dacCode (b : Nat) (y : Int) : Int × Bool :=
  let n : Int := dacMagnitude (28 * y.natAbs) b
  let c := if y < 0 then -n else n
  if c < -512 then (-512, true) else if 511 < c then (511, true) else (c, false)

/-- DAC codes of precoder outputs; a late FIR segment gives code 0 (R130). `vs`: outputs before, newest first. -/
def firRun (f : List Int) (b : Nat) (late : BitVec 16) : Nat → List Int → List Int → List (Int × Bool)
  | _, _, [] => []
  | n, vs, v :: rest =>
    let w := v :: vs.take 31
    (if late.getLsbD (n / 64) then (0, false) else dacCode b (firStep f w)) :: firRun f b late (n + 1) w rest

/-! ### Training periods and the wake burst (R164, R204, R205) -/

/-- Four equal symbols for each bit of a word, ±15. -/
def wordSymbols (w v : Nat) : List Int := (toBools w v).flatMap (fun b => List.replicate 4 (if b then -15 else 15))

/-- The 64-bit training word (Table 5-5). -/
def trainingWord (phase : Nat) (ready role frt : Bool) (tseq info cd : Nat) : Nat :=
  let top := packNat [(7, 0), (4, cd), (21, info), (8, tseq), (1, 0), (1, b2n frt), (1, b2n role), (1, b2n ready), (4, phase)]
  crc16 (msbBits 48 top) + 2 ^ 16 * top

/-- The symbols of a training period of pair q. -/
def trainingSymbols (q phase word tseq : Nat) : List Int :=
  let seed := scrambleSeed q tseq
  wordSymbols 16 (bitsAt word (16 * q) 16) ++
    (if phase = 4 then pointSymbols (keystream 3360 seed) 0 480
     else (toBools 960 (keystream 960 seed)).map (fun b => if b then -15 else 15))

/-- The chips of R204 from a state. -/
def wakeChipsFrom : Nat → Nat → List Int
  | 0, _ => [0]
  | n + 1, s =>
    let b := bitAt s 8 ≠ bitAt s 4
    (if (510 - n) % 4 = 3 then 0 else if b then -1 else 1) :: wakeChipsFrom n ((2 * s + b2n b) % 512)

/-- `wake_chips`. -/
def wakeChips : List Int := wakeChipsFrom 511 0x1FF

/-- The sync word of a SEQ and KIND (Table 6-3). -/
def syncWord (seq kind : Nat) : Nat :=
  packNat [(8, seq), (4, kind), (4, bitsAt seq 0 4 ^^^ bitsAt seq 4 4 ^^^ kind ^^^ 0xC)]

/-- The 1,088 symbols of a wake burst of pair q before settle period 0. -/
def burstSymbols (q seq kind : Nat) : List Int :=
  let c := wakeChips
  let r := (c.drop (128 * q % 512) ++ c.take (128 * q % 512)).map (15 * ·)
  r ++ r ++ wordSymbols 16 (syncWord seq kind)

/-- Chips of the rate-hunting burst from a state (R219). -/
def legacyChipsFrom : Nat → Nat → List Int
  | 0, _ => [15]
  | n + 1, s =>
    let b := (bitAt s 7 ≠ bitAt s 5) ≠ (bitAt s 4 ≠ bitAt s 3)
    (if b then -15 else 15) :: legacyChipsFrom n ((2 * s + b2n b) % 256)

/-- One segment of a rate-hunting burst: four repetitions of 256 chips. -/
def legacySegment : List Int := let w := legacyChipsFrom 255 0xFF; w ++ w ++ w ++ w

/-! ### InfoField messages (R75 to R77) -/

/-- Width of a slice, and slices per message. -/
def sliceWidth (kn : Bool) : Nat := if kn then 3 else 21
/-- Slices per message. -/
def sliceCount (kn : Bool) : Nat := if kn then 21 else 3

/-- The slice index of a period; none: it carries no slice. -/
def sliceIndex (kn : Bool) (seq : Nat) : Option Nat := if sliceCount kn * (256 / sliceCount kn) ≤ seq then none else some (seq % sliceCount kn)

/-- TYPE of a message. -/
def msgType (m : Nat) : Nat := bitsAt m 0 6
/-- MSEQ. -/
def msgSeq (m : Nat) : Nat := bitsAt m 59 4

/-- THP_COEF. -/
def coefMsg (pair first set t0 t1 t2 mseq : Nat) : Nat :=
  packNat [(6, 1), (2, pair), (6, first), (1, b2n (first = 46)), (2, set), (14, t0), (14, t1), (14, t2), (4, mseq)]
/-- THP_SWITCH. -/
def switchMsg (pairs set at' mseq : Nat) : Nat := packNat [(6, 2), (4, pairs), (2, set), (8, at'), (39, 0), (4, mseq)]
/-- ACK. -/
def ackMsg (typ mseq : Nat) (nak : Bool) : Nat := packNat [(6, 3), (2, 0), (6, typ), (4, mseq), (1, b2n nak), (44, 0)]
/-- PEER_ID. -/
def peerMsg (part caps fwver mseq : Nat) : Nat := packNat [(6, 4), (4, part), (6, caps), (16, fwver), (12, 0x5A7), (15, 0), (4, mseq)]

/-- A message is accepted: assigned TYPE, reserved bits 0, FIRST and LAST agree (R77). FIRST is one of 1, 4, …, 46. -/
def msgOk (m : Nat) : Bool :=
  match msgType m with
  | 0 => m = 0
  | 1 => let f := bitsAt m 8 6; f % 3 = 1 && f ≤ 46 && (bitAt m 14 = decide (f = 46))
  | 2 => bitsAt m 20 39 = 0
  | 3 => bitsAt m 6 2 = 0 && bitsAt m 19 44 = 0
  | 4 => bitsAt m 44 15 = 0
  | _ => false

end Sys2Proof.Machine
end

