-- ==== Sys2Proof/Machine/Chain.lean ====
section
/-! DEFINITION. The receive chain of one period: transforms, alignment, gain, interpolation, equaliser, echo, NEXT and FEXT cancellers, slicers, soft
demapper, the LDPC decoder, and the updates that the coefficients draw from a period (03_receive_chain R82 to R113; 05 R170). Amplitudes are exact
rationals (DESIGN CHOICE, log entry 82): the spec gives formats only for what is held. -/

namespace Sys2Proof.Machine

/-! ### The transforms (R92, R93) -/

/-- A complex number. -/
abbrev Cx := Rat × Rat

/-- Sum. -/
def cadd (a b : Cx) : Cx := (a.1 + b.1, a.2 + b.2)
/-- Difference. -/
def csub (a b : Cx) : Cx := (a.1 - b.1, a.2 - b.2)
/-- Product. -/
def cmul (a b : Cx) : Cx := (a.1 * b.1 - a.2 * b.2, a.1 * b.2 + a.2 * b.1)
/-- Conjugate. -/
def conj (a : Cx) : Cx := (a.1, -a.2)
/-- Squared magnitude. -/
def cnorm (a : Cx) : Rat := a.1 * a.1 + a.2 * a.2

/-- Entries at even positions. -/
def evens {α : Type} : List α → List α
  | [] => []
  | [a] => [a]
  | a :: _ :: t => a :: evens t

/-- Entries at odd positions. -/
def odds {α : Type} : List α → List α
  | [] => []
  | [_] => []
  | _ :: b :: t => b :: odds t

/-- The transform of 2^n values, or its inverse without the division by 2^n. -/
def transform (inverse : Bool) : Nat → List Cx → List Cx
  | 0, l => l
  | n + 1, l =>
    let e := transform inverse n (evens l)
    let o := (transform inverse n (odds l)).zipIdx.map (fun x => cmul (let w := freeTwiddle (n + 1) x.2; if inverse then conj w else w) x.1)
    List.zipWith cadd e o ++ List.zipWith csub e o

/-- The 1,025 bins of 2,048 real values. -/
def realBins (x : List Rat) : List Cx := (transform false 11 (x.map (·, 0))).take 1025

/-- The 2,048 real values of 1,025 bins. -/
def ofBins (b : List Cx) : List Rat := (transform true 11 (b ++ ((b.drop 1).take 1023).reverse.map conj)).map (fun v => v.1 / 2048)

/-- Coefficients of a partition as bins. -/
def binsOf (c : List (Int × Int)) : List Cx := c.map (fun v => ((v.1 : Rat) * freeBinUnit, (v.2 : Rat) * freeBinUnit))

/-- Sum of two lists of bins; an empty one is all zeros. -/
def addBins (a b : List Cx) : List Cx := if a = [] then b else if b = [] then a else List.zipWith cadd a b

/-- A list of 1,024 symbols: cut, or filled with zeros. -/
def fit1024 (l : List Int) : List Int := (l ++ List.replicate (1024 - l.length) 0).take 1024

/-- DAC codes of a pair in a transmit period; silence where none are held. -/
def State.codesOf (s : State) (q : Pair) (j : Nat) : List Int :=
  match s.rx.dacs.find? (fun e => e.1 = j) with
  | some e => fit1024 (e.2.at q)
  | none => List.replicate 1024 0

/-- X^q_j: the reference transform of a pair over transmit periods j − 1 and j. -/
def State.reference (s : State) (q : Pair) (j : Nat) : List Cx := realBins ((s.codesOf q (j - 1) ++ s.codesOf q j).map (fun (v : Int) => (v : Rat)))

/-- Half the change, halves away from zero: the nearest integer (R114; elsewhere DESIGN CHOICE, log entry 82). -/
def roundRat (v : Rat) : Int := if v < 0 then -⌊(1 / 2 : Rat) - v⌋ else ⌊v + 1 / 2⌋

/-! ### Blocks 4 to 8 -/

/-- A receive period by age: 0 the newest. -/
def State.rxPeriod (s : State) (age : Nat) : RxPeriod := s.rx.adc.getD age { no := 0, adc := Quad.all [] }

/-- The samples of a pair over the period of an age, the one before and the one after, aligned: 3,072 of them from `shift` symbols later on (R82 block 4,
R83, R168). -/
def State.alignedRaw (s : State) (p : Pair) (age shift : Nat) : List Int :=
  let raw := fun (k : Nat) => fit1024 ((s.rxPeriod k).adc.at p)
  ((raw (age + 2) ++ raw (age + 1) ++ raw age ++ (if age = 0 then [] else raw (age - 1))).drop (512 + shift - min 400 (s.link.map.delay.at p))).take 4096

/-- The gain of a digital gain in 0.01 dB (R86). -/
def gainFactor (g : Int) : Rat := if g = 0 then 1 else freeGainFactor g

/-- Each sample with the 15 after it, through the interpolator. -/
def interpolated (f : Nat) : List Rat → List Rat
  | [] => []
  | a :: t => freeInterpolate f ((a :: t).take 16) :: interpolated f t

/-- Blocks 4 and 5 in some unit per ADC code: samples inverted where the pair is reversed, gained and interpolated (R82, R86, R90, R168); the period before, the period
and the period after, 1,024 symbols each. -/
def State.gainedIn (s : State) (scale : Rat) (p : Pair) (age : Nat) : List Rat :=
  let x := s.rx.pair.at p
  let unit := (if s.link.map.inv.at p then -1 else 1) * scale * gainFactor (roundRat x.gain)
  let pos := ⌊x.phase⌋
  let whole := (512 + clampInt (-500) 500 (pos / 256)).toNat
  let f := (pos % 256).toNat
  if f = 0 then ((s.alignedRaw p age whole).take 3072).map (fun v => unit * (v : Rat))
  else (interpolated f ((s.alignedRaw p age (whole - 7)).map (fun v => unit * (v : Rat)))).take 3072

/-- The same in amplitude units. -/
def State.gained (s : State) (p : Pair) (age : Nat) : List Rat := s.gainedIn sampleUnit p age

/-- Scalar product. -/
def dot (a b : List Rat) : Rat := (List.zipWith (· * ·) a b).foldl (· + ·) 0

/-- The products of a list of weights with the first n windows of a stream. -/
def slide (w : List Rat) : Nat → List Rat → List Rat
  | 0, _ => []
  | n + 1, l => dot w l :: slide w n (l.drop 1)

/-- Block 6: z_n = Σ w_k x_(n+M−k) (R91). `x`: the stream with 1,024 symbols before the period. -/
def equalised (w : List Int) (m : Nat) (x : List Rat) : List Rat :=
  if w = [] then List.replicate 1024 0 else slide ((w.map (fun (v : Int) => (v : Rat) / 8192)).reverse) 1024 (x.drop (1025 + m - w.length))

/-- The bins of the cancellation estimate of a pair for receive period j (R92). -/
def State.cancelBins (s : State) (p : Pair) (j : Nat) : List Cx :=
  let c := (s.rx.pair.at p).coef
  let term := fun (e : List (Int × Int)) (q : Pair) (k : Nat) => if e = [] then [] else List.zipWith cmul (binsOf e) (s.reference q k)
  pairs.foldl (fun acc q => if q = p then acc else addBins acc (term (c.next.at q) q j)) (addBins (term c.echo0 p j) (term c.echo1 p (j - 1)))

/-- Blocks 7 and 8: echo and NEXT as estimated over a period, the last 1,024 outputs of the inverse transform (R92). -/
def State.cancelled (s : State) (p : Pair) (j : Nat) : List Rat :=
  let b := s.cancelBins p j
  if b = [] then List.replicate 1024 0 else (ofBins b).drop 1024

/-- u_n = z_n − ec_n − next_n of a pair over the period of an age (R95). -/
def State.combined (s : State) (p : Pair) (age : Nat) : List Rat :=
  let x := s.rx.pair.at p
  List.zipWith (· - ·) (equalised x.coef.ffe x.ffeMain (s.gained p age)) (s.cancelled p (s.rxPeriod age).no)

/-! ### Slicers, FEXT and the demapper (R94 to R96) -/

/-- mod32 of R95. -/
def mod32 (t : Rat) : Rat := t - 32 * ⌊(t + 16) / 32⌋

/-- Squared distance of a received point to the point of a label. -/
def pointDist (y0 y1 : Rat) (l : Nat) : Rat :=
  let q := dsq128 l
  let a := mod32 (y0 - q.1)
  let b := mod32 (y1 - q.2)
  a * a + b * b

/-- The nearest of 128 labels, ties to the smaller. -/
def nearest (y0 y1 : Rat) : Nat :=
  ((List.range 128).foldl (fun (best : Nat × Option Rat) l =>
    let d := pointDist y0 y1 l
    match best.2 with
    | some m => if d < m then (l, some d) else best
    | none => (l, some d)) (0, none)).1

/-- Symbols two by two. -/
def inPairs {α : Type} : List α → List (α × α)
  | a :: b :: t => (a, b) :: inPairs t
  | _ => []

/-- Block 9: the tentative decisions of a period; those of missing segments are 0 (R94, R95). -/
def tentative (u : List Rat) (missing : BitVec 16) : List Int :=
  (inPairs u).zipIdx.flatMap (fun e =>
    if missing.getLsbD (e.2 / 32) then [0, 0] else let q := dsq128 (nearest e.1.1 e.1.2); [q.1, q.2])

/-- The PAM-5 level nearest to a value; between two levels the lower (DESIGN CHOICE, log entry 82). -/
def pam5 (v : Rat) : Int := clampInt (-2) 2 (-⌊(1 / 2 : Rat) - v⌋)

/-- Tentative decisions of a mode's constellation: PAM-5 in 1000BASE-T, else DSQ-128 modulo 32 (R95, R115, Table 3-11). -/
def decisions (m : Option Rung) (u : List Rat) (missing : BitVec 16) : List Int :=
  if m = some 7 then u.zipIdx.map (fun e => if missing.getLsbD (e.2 / 64) then 0 else pam5 e.1) else tentative u missing

/-- Errors against amplitudes, modulo 32 but in 1000BASE-T (R113). -/
def errorsOf (m : Option Rung) (y : List Rat) (a : List Int) : List Rat :=
  List.zipWith (fun v (x : Int) => if m = some 7 then v - x else mod32 (v - x)) y a

/-- Segments of the period released whose tentative decisions are missing. -/
def RxPair.missing (x : RxPair) : BitVec 16 := x.eraseR &&& ~~~x.lateR

/-- The decision stream of a pair with the 255 symbols before it. -/
def RxPair.stream (x : RxPair) (d : List Int) : List Int := (List.replicate (255 - x.tent.length) 0 ++ x.tent).drop (x.tent.length - 255) ++ d

/-- Block 10: the FEXT of a pair from the decisions of the other active pairs (R94, R116). -/
def State.fext (s : State) (p : Pair) (d : Quad (List Int)) : List Rat :=
  let g := (s.rx.pair.at p).coef.fext
  s.activePairs.foldl (fun acc q =>
    if q = p || g.at q = [] then acc
    else
      let st := ((s.rx.pair.at q).stream (d.at q)).map (fun (v : Int) => (v : Rat))
      List.zipWith (· + ·) acc (slide (((g.at q).map (fun (v : Int) => (v : Rat) / 32768)).reverse) 1024 (st.drop (256 - (g.at q).length))))
    (List.replicate 1024 0)

/-- The least distance over the labels with bit i equal to b. -/
def bitDist (ds : List (Rat × Nat)) (i : Nat) (b : Bool) : Rat :=
  ((ds.filter (fun e => bitAt e.2 i = b)).foldl (fun (m : Option Rat) e => some (match m with | some v => min v e.1 | none => e.1)) none).getD 0

/-- The soft value of label bit i: 2 × LLR rounded and clipped to 6 bits (R96); a half is rounded away from zero, and with σ² = 0 the value takes its limit
(DESIGN CHOICE, log entry 82). -/
def softValue (ds : List (Rat × Nat)) (sigma2 : Rat) (i : Nat) : Int :=
  let d := bitDist ds i true - bitDist ds i false
  if sigma2 = 0 then (if 0 < d then 31 else if d < 0 then -31 else 0) else clampInt (-31) 31 (roundRat (d / sigma2))

/-- Block 11 and the descrambler: the 3,584 soft values of a codeword; erased segments give 0 (R55, R96, R102). -/
def softValues (y : List Rat) (erased : BitVec 16) (sigma2 : Rat) (key : Nat) : List Int :=
  let raw := (inPairs y).zipIdx.flatMap (fun e =>
    if erased.getLsbD (e.2 / 32) then List.replicate 7 (0 : Int)
    else
      let ds := (List.range 128).map (fun l => (pointDist e.1.1 e.1.2 l, l))
      (List.range 7).map (softValue ds sigma2))
  List.zipWith (fun (v : Int) k => if k then -v else v) raw (toBools 3584 key)

/-! ### The LDPC decoder (R97, R99) -/

/-- S[k][b] of Table 2-4; none: the all-zero matrix. -/
def baseEntry (k b : Nat) : Option Nat :=
  if b < 25 then some (baseShift k b)
  else match b, k with
    | 25, 1 => some 0
    | 25, _ => some 1
    | 26, 2 => none
    | 27, 0 => none
    | _, _ => some 0

/-- The codeword bits of row a of base row k. -/
def rowBits (k a : Nat) : List Nat := (List.range 28).filterMap (fun b => (baseEntry k b).map (fun sh => 128 * b + (a + sh) % 128))

/-- Hard decisions: a value below 0 decides 1 (a value of 0 decides 0: DESIGN CHOICE, log entry 19). -/
def hardWord (v : List Int) : Nat := ofBools (v.map (fun x => decide (x < 0)))

/-- Outcomes of a codeword (R99). -/
inductive Outcome
  | clean | corrected | noConv | erased
deriving DecidableEq, Repr

/-- A codeword's outcome, iterations and bits. -/
structure WordOut where
  res : Outcome := .erased
  iters : Nat := 0
  bits : Nat := 0
deriving DecidableEq, Repr

/-- Not flagged uncorrectable. -/
def WordOut.good (w : WordOut) : Bool := w.res = .clean || w.res = .corrected

/-- Magnitude that goes to one bit of a row: three quarters of the least of the others, cut to 6 bits; a fraction is dropped
(DESIGN CHOICE, log entry 82). -/
def checkMagnitude (least second : Nat) (x : Int) : Int := min 31 (3 * (if x.natAbs = least then second else least) / 4 : Nat)

/-- One row of a layer on the posteriors and the row's messages: min-sum with factor 0.75, messages of 6 bits, posteriors of 8 (R97). -/
def layerRow (vars : List Nat) (st : Array Int × Array (List Int)) (row : Nat) : Array Int × Array (List Int) :=
  let old := st.2.getD row []
  let q := vars.zipIdx.map (fun v => clampInt (-128) 127 (st.1.getD v.1 0 - old.getD v.2 0))
  let least := q.foldl (fun m x => min m x.natAbs) 255
  let rest := (q.map Int.natAbs).erase least
  let second := rest.foldl min 255
  let odd := (q.filter (· < 0)).length % 2 = 1
  let new := q.map (fun x => let m := checkMagnitude least second x; if decide (x < 0) != odd then -m else m)
  let post := (List.zip vars (List.zip q new)).foldl (fun a e => a.setIfInBounds e.1 (clampInt (-128) 127 (e.2.1 + e.2.2))) st.1
  (post, st.2.setIfInBounds row new)

/-- One iteration: the base rows in the order 0, 1, 2. -/
def iteration (st : Array Int × Array (List Int)) : Array Int × Array (List Int) :=
  (List.range 384).foldl (fun a r => layerRow (rowBits (r / 128) (r % 128)) a r) st

/-- Iterate until the syndrome is zero, at most the given number of times: iterations run, whether it became zero, and the hard decisions. -/
def iterate : Nat → Nat → Array Int × Array (List Int) → Nat × Bool × Nat
  | 0, n, st => (n, false, hardWord st.1.toList)
  | k + 1, n, st =>
    let st1 := iteration st
    let h := hardWord st1.1.toList
    if ldpcValid h then (n + 1, true, h) else iterate k (n + 1) st1

/-- Decode 3,584 soft values with an iteration cap (R97, R99). -/
def ldpcDecode (soft : List Int) (cap : Nat) : WordOut :=
  let h := hardWord soft
  if ldpcValid h then { res := .clean, bits := h }
  else
    let r := iterate cap 0 (soft.toArray, (List.replicate 384 ([] : List Int)).toArray)
    { res := if r.2.1 then .corrected else .noConv, iters := r.1, bits := r.2.2 }

/-! ### The updates (R106 to R109, R170) -/

/-- Sign. -/
def signOf (v : Rat) : Rat := if v < 0 then -1 else if v = 0 then 0 else 1

/-- Sums of a sequence of weights with the windows of a stream, window by window: entry k is Σ_n w_n x_(n+k). -/
def correlate (w : List Rat) : Nat → List Rat → List Rat
  | 0, _ => []
  | n + 1, l => dot w l :: correlate w n (l.drop 1)

/-- Sign-error LMS on a filter of n taps: the change −μ Σ sign(e_n) x_(n+lead−k) of each tap, in units of 1/2^frac. `x`: the stream from lag n − 1 before
the period's first reference on. -/
def lmsChange (mu : Rat) (frac n : Nat) (e x : List Rat) : List Int :=
  ((correlate (e.map signOf) n x).map (fun c => roundRat (-(mu * c) * (2 ^ frac : Nat)))).reverse

/-- Normalised LMS on a partition: μ conj(X) E / |X|² bin by bin, where X is its reference and E the transform of the error; with the gradient constraint the
change keeps lags 0 to 1,023 only (R106). The power that normalises is that of the reference in the bin (DESIGN CHOICE, log entry 83). -/
def nlmsChange (mu : Rat) (constrained : Bool) (x : List Cx) (e : List Rat) : List (Int × Int) :=
  let err := realBins (List.replicate 1024 0 ++ e)
  let g := List.zipWith (fun a b => let n := cnorm a; let v := cmul (conj a) b; if n = 0 then (0, 0) else (mu * v.1 / n, mu * v.2 / n)) x err
  let g1 := if constrained then realBins ((ofBins g).take 1024 ++ List.replicate 1024 0) else g
  g1.map (fun v => (roundRat (v.1 / freeBinUnit), roundRat (v.2 / freeBinUnit)))

/-- Sum of squares. -/
def norm2 (l : List Int) : Nat := sumNat (l.map (fun v => v.natAbs * v.natAbs))
/-- Sum of squares of bins, real and imaginary parts counted separately (R108). -/
def binNorm2 (l : List (Int × Int)) : Nat := sumNat (l.map (fun v => v.1.natAbs * v.1.natAbs + v.2.natAbs * v.2.natAbs))

/-- Scale in 1/65536 that clips a change to 1/256 of the vector: the change is scaled as a whole, never to more than the bound
(DESIGN CHOICE, log entry 83). -/
def clipScale (change base : Nat) : Nat := if change * 65536 ≤ base then 65536 else Nat.sqrt (base * 65536 / change)

/-- A value scaled by n/65536, its fraction dropped. -/
def scaled (n : Nat) (v : Int) : Int := (v * n).tdiv 65536

/-- The change of a refresh update is clipped, block class by block class (R108). -/
def CoefUpd.clip (u : CoefUpd) (c : Coefs) : CoefUpd :=
  let quad := fun {α : Type} (f : α → Nat) (q : Quad α) => sumNat (q.toList.map f)
  { u with
    ffe := u.ffe.map (fun l => l.map (scaled (clipScale (norm2 l) (norm2 c.ffe))))
    echo := u.echo.map (fun l =>
      let n := clipScale (binNorm2 l.1 + binNorm2 l.2) (binNorm2 c.echo0 + binNorm2 c.echo1)
      (l.1.map (fun v => (scaled n v.1, scaled n v.2)), l.2.map (fun v => (scaled n v.1, scaled n v.2))))
    next := u.next.map (fun l =>
      let n := clipScale (quad binNorm2 l) (quad binNorm2 c.next)
      l.map (fun b => b.map (fun v => (scaled n v.1, scaled n v.2))))
    fext := u.fext.map (fun l =>
      let n := clipScale (quad norm2 l) (quad norm2 c.fext)
      l.map (fun b => b.map (scaled n))) }

/-- A 16-bit coefficient; a sum beyond its range takes its limit (DESIGN CHOICE, log entry 83). -/
def coef16 (v : Int) : Int := clampInt (-32768) 32767 v

/-- A vector of coefficients with a change; an empty one is zeros. -/
def addCoefs (w d : List Int) : List Int := if w = [] then d.map coef16 else List.zipWith (fun a b => coef16 (a + b)) w d
/-- The same for bins. -/
def addCoefBins (w d : List (Int × Int)) : List (Int × Int) :=
  if w = [] then d.map (fun v => (coef16 v.1, coef16 v.2)) else List.zipWith (fun a b => (coef16 (a.1 + b.1), coef16 (a.2 + b.2))) w d

/-- A set of coefficients with an update. -/
def Coefs.add (c : Coefs) (u : CoefUpd) : Coefs :=
  { ffe := match u.ffe with | some d => addCoefs c.ffe d | none => c.ffe
    echo0 := match u.echo with | some d => addCoefBins c.echo0 d.1 | none => c.echo0
    echo1 := match u.echo with | some d => addCoefBins c.echo1 d.2 | none => c.echo1
    next := match u.next with | some d => c.next.mapIdx (fun q w => if d.at q = [] then w else addCoefBins w (d.at q)) | none => c.next
    fext := match u.fext with | some d => c.fext.mapIdx (fun q w => if d.at q = [] then w else addCoefs w (d.at q)) | none => c.fext }

/-- The MSE with a period's mean squared error (R113). -/
def RxPair.average (x : RxPair) (m : Rat) : RxPair :=
  let v := x.mse + (m - x.mse) / 4096
  { x with mse := v, mseSet := true }

/-- The digital gain with a change, held at a range limit (R86). -/
def limitGain (g : Rat) : Rat := if g < -300 then -300 else if 300 < g then 300 else g

/-- What comes into force at the start of a receive period: the mean squared error of the period before enters the MSE, and the update drawn three periods before
becomes part of the coefficients (R106, R113). A period with the digital gain at a limit counts (R86, Table 3-8). -/
def RxPair.takeUpdates (x : RxPair) : RxPair :=
  let x1 := match (x.upd.getD 0 {}).err with | some m => x.average m | none => x
  let u := x.upd.getD 2 {}
  let g := match u.gain with | some d => limitGain (x1.gain + d) | none => x1.gain
  { x1 with
    coef := x1.coef.add u
    gain := g
    upd := x1.upd.take 2
    mseLast := if x1.mseSet then (x1.mse :: x1.mseLast).take 4096 else x1.mseLast
    cnt := { x1.cnt with dgainLimit := if g = 300 || g = -300 then inc 32 x1.cnt.dgainLimit else x1.cnt.dgainLimit } }

/-- Steps of the four block classes as multiples of the tracking step; 0 is frozen. -/
structure Steps where
  ffe : Rat := 1
  echo : Rat := 1
  next : Rat := 1
  fext : Rat := 1
deriving DecidableEq, Repr

/-- The step of a class. -/
def Steps.of (m : Steps) (cls : Nat) : Rat := if cls = 0 then m.ffe else if cls = 1 then m.echo else if cls = 2 then m.next else m.fext

/-- References of a receive period that no update may use: codes of the periods its partitions reach were not delivered, or carried a probe (R109, R230). -/
def RxPair.refBad (x : RxPair) (j : Nat) : Bool := x.badRef.any (fun b => b ≤ j && j ≤ b + 2)

/-- The update of a pair from the period of an age (R106 to R109): `e` its errors, `d` the decisions of every pair, `m` the steps; a class that ADAPT_EN disables,
whose step is 0 or whose reference is spoilt draws none. -/
def State.drawUpdate (s : State) (p : Pair) (age : Nat) (e : List Rat) (d : Quad (List Int)) (m : Steps) : CoefUpd :=
  let x := s.rx.pair.at p
  let j := (s.rxPeriod age).no
  let on := fun (k : Nat) => s.rx.ctl.adaptEn.getLsbD k && m.of k ≠ 0
  let mu := fun (k : Nat) => m.of k * freeTrackStep k
  { ffe := if on 0 then some (lmsChange (mu 0) 13 64 e ((s.gained p age).drop (1024 + x.ffeMain - 63))) else none
    echo := if on 1 && !x.refBad j then
      some (nlmsChange (mu 1) (x.turn = 0) (s.reference p j) e, nlmsChange (mu 1) (x.turn = 1) (s.reference p (j - 1)) e) else none
    next := if on 2 then
      some ((⟨0, 1, 2, 3⟩ : Quad Pair).map (fun q =>
        if q = p || (s.rx.pair.at q).refBad j then []
        else nlmsChange (mu 2) (x.turn = 2 + (if q.val < p.val then q.val else q.val - 1)) (s.reference q j) e)) else none
    fext := if on 3 then
      some ((⟨0, 1, 2, 3⟩ : Quad Pair).map (fun q =>
        if q = p || !s.activePair q then []
        else lmsChange (-mu 3) 15 256 e (((s.rx.pair.at q).stream (d.at q)).map (fun (v : Int) => (v : Rat))))) else none }

/-- Mean of squares of a period's errors. -/
def meanSquare (l : List Rat) : Rat := if l = [] then 0 else (l.map (fun v => v * v)).foldl (· + ·) 0 / l.length

/-- Put an update at the front of a pair's queue; the gradient constraint turns to the next partition. -/
def RxPair.push (x : RxPair) (u : CoefUpd) : RxPair :=
  { x with upd := (u :: x.upd).take 3, turn := if u.echo.isSome || u.next.isSome then (x.turn + 1) % 5 else x.turn }

/-! ### Levels (R84, R86, R87, R113) -/

/-- 10 log10 of a positive number in 0.1 dB, halves away from zero (R114): the integer n with 10^(2n − 1) ≤ v^20 < 10^(2n + 1), found between −900 and 900;
−900 for 0 (DESIGN CHOICE, log entry 84). -/
def tenLog (v : Rat) : Int :=
  if v ≤ 0 then -900
  else
    let p := v ^ 20
    let below := fun (n : Int) => -- 10^((2n - 1)/10) ≤ v^20, both sides to the tenth power
      if 2 * n - 1 ≥ 0 then decide ((10 : Rat) ^ (2 * n - 1).toNat ≤ p ^ 10) else decide (1 ≤ p ^ 10 * (10 : Rat) ^ (1 - 2 * n).toNat)
    (List.range 11).foldl (fun (acc : Int) k =>
      let step : Int := 2 ^ (10 - k)
      if below (acc + step) && acc + step ≤ 900 then acc + step else acc) (-900)

/-- Mean power of ADC codes against that of a full-scale sine, whose peak is taken as 127 codes (DESIGN CHOICE, log entry 84). -/
def fullScaleShare (l : List Int) : Rat := if l = [] then 0 else (norm2 l : Rat) * 2 / (l.length * 16129 : Nat)

/-- MSE_DB of a pair (R113). -/
def RxPair.mseDb (x : RxPair) : Int := if x.mseSet then tenLog x.mse else 0

/-- MARGIN of a pair in a mode, 0.1 dB (R113); 0 where the MSE is 0 (DESIGN CHOICE, log entry 84). -/
def RxPair.margin (x : RxPair) (m : Rung) : Int :=
  if x.mseSet && 0 < x.mse then tenLog ((meanPower m : Rat) / x.mse) - (snrReq m : Int) else 0

/-- 10 to a power. -/
def tenPow (n : Int) : Rat := if 0 ≤ n then (10 : Rat) ^ n.toNat else 1 / (10 : Rat) ^ (-n).toNat

/-- A level of 10 log10 v + c/100 dB in 0.25 dB, halves away from zero: the greatest n with 10^((2n − 1)/80) ≤ v × 10^(c/1000) for positive results, found
between −1,023 and 1,024; −1,023 for no power. -/
def quarterDb (v : Rat) (c : Int) : Int :=
  if v ≤ 0 then -1023
  else
    let p := v ^ 2000 * tenPow (2 * c)
    let atLeast := fun (n : Int) => if 0 < n then decide (tenPow (25 * (2 * n - 1)) ≤ p) else decide (tenPow (25 * (2 * n - 1)) < p)
    (List.range 11).foldl (fun (acc : Int) k =>
      let step : Int := 2 ^ (10 - k)
      if atLeast (acc + step) then acc + step else acc) (-1023)

/-- A level of 10 log10 v + c/100 dB is at least n × 0.25 dB. -/
def levelAtLeast (v : Rat) (c n : Int) : Bool := decide (tenPow (25 * n - c) ≤ v ^ 1000)

/-- What a pair's level at the ADC is referred to the MDI with, in 0.01 dB: K_FS less the PGA and digital gains (R87). -/
def State.mdiOffset (s : State) (p : Pair) : Int :=
  let x := s.rx.pair.at p
  (s.nvm.trim.pair.at p).kfs - (50 * (x.pga : Int) - 600) - roundRat x.gain

/-- The strength of a pair referred to the MDI from ADC samples, in 0.25 dBm (R87). -/
def State.strengthOf (s : State) (p : Pair) (l : List Int) : Int := quarterDb (fullScaleShare l) (s.mdiOffset p)

/-- The mean power of samples of a pair, referred to the MDI, is at least a level in 0.25 dBm. -/
def State.powerAtLeast (s : State) (p : Pair) (l : List Int) (n : Int) : Bool := levelAtLeast (fullScaleShare l) (s.mdiOffset p) n

/-- The last n samples of a stream. -/
def lastSamples {α : Type} (n : Nat) (l : List α) : List α := l.drop (l.length - n)

/-- The running strength of a pair: its most recent 256 samples. -/
def State.strengthNow (s : State) (p : Pair) : Int := s.strengthOf p (lastSamples 256 (fit1024 ((s.rxPeriod 0).adc.at p)))

/-- One update of the fast gain loop from 16 samples (R84): a quarter of the error to −9.0 dBFS, since 16 of the 64 symbols of its time constant have passed
(DESIGN CHOICE, log entry 84); the setting is quantised to 0.5 dB and clamped to the range. -/
def RxPair.gainStep (x : RxPair) (l : List Int) : RxPair :=
  let acc := clampInt 0 1440 (x.gainAcc + (-90 - tenLog (fullScaleShare l)))
  let g := ((acc + 10) / 20).toNat
  { x with gainAcc := acc, pga := g, pgaMin := min x.pgaMin g, pgaMax := max x.pgaMax g }

/-- The fast gain loop over samples, 16 at a time. -/
def RxPair.gainLoop (x : RxPair) : Nat → List Int → RxPair
  | 0, _ => x
  | n + 1, l => if l.length < 16 then x else (x.gainStep (l.take 16)).gainLoop n (l.drop 16)

/-- The loop begins from the setting in force (R84); its movement is counted from there (Table 5-6, T1). -/
def RxPair.gainStart (x : RxPair) : RxPair := { x with gainAcc := 20 * x.pga, pgaMin := x.pga, pgaMax := x.pga }

/-- The fast gain loop of every pair runs on the samples of the period under way that it has not seen yet. -/
def State.runGain (s : State) (adc : Quad (List Int)) : State :=
  { s with rx := { s.rx with pair := s.rx.pair.mapIdx (fun p x => x.gainLoop ((adc.at p).length / 16) ((adc.at p).drop s.rx.gainPos)) } }

/-- Change of the slow digital gain in a period: 1,024 of the 1,048,576 symbols of its time constant (R86), in 0.01 dB. -/
def RxPair.gainChange (x : RxPair) (l : List Int) : Rat := ((-900 : Rat) - (10 * tenLog (fullScaleShare l) : Int) - x.gain) / 1024

/-- The phase loop over a period: PHASE_LAG, the run of R111 and the interpolator (R90). -/
def RxPair.phaseStep (x : RxPair) (m : Rung) (err : Int) : RxPair :=
  { x with
    phaseLag := err, lagRun := if 32 < err.natAbs then min 1024 (x.lagRun + 1) else 0
    phase := x.phase + freePhaseGain m * (err : Rat) }

/-! ### What a pair learns from a period (R90, R106, R107) -/

/-- What Table 3-4 or 5-7 lets a pair do with a period: coefficient steps (none: frozen), the refresh step's clip, the digital gain, the MSE, the phase loop. -/
structure Learning where
  steps : Option Steps := none
  clip : Bool := false
  gain : Bool := false
  mse : Bool := false
  loops : Bool := false
deriving DecidableEq, Repr

/-- The update a pair draws from the period of an age. The MSE takes part only where its FFE is not frozen (R113). -/
def State.updateOf (s : State) (p : Pair) (age : Nat) (e : List Rat) (d : Quad (List Int)) (k : Learning) : CoefUpd :=
  let x := s.rx.pair.at p
  let u := match k.steps with | some m => s.drawUpdate p age e d m | none => {}
  let v := if k.clip then u.clip x.coef else u
  { v with
    gain := if k.gain then some (x.gainChange (fit1024 ((s.rxPeriod age).adc.at p))) else none
    err := if k.mse && s.rx.ctl.adaptEn.getLsbD 0 then some (meanSquare e) else none }

/-- A pair after a period: its phase loop, the update drawn, the decisions kept for FEXT. `u`: the combined outputs, `d`: the decisions of every pair. -/
def State.learn (s : State) (p : Pair) (age : Nat) (u e : List Rat) (d : Quad (List Int)) (k : Learning) (x : RxPair) : RxPair :=
  let y := if k.loops then x.phaseStep (s.link.mode.getD 0) (freePhaseError u (d.at p) x.missing) else x
  { y.push (s.updateOf p age e d k) with tent := (d.at p).drop 769 }

/-- A pair that draws nothing from a period and has no decisions in it. -/
def RxPair.rest (x : RxPair) : RxPair := { x.push {} with tent := [] }

/-! ### The drift guard's movements (R108, R111) -/

/-- Difference of two vectors; an empty one is zeros. -/
def coefDiff (a b : List Int) : List Int := if a = [] then b else if b = [] then a else List.zipWith (· - ·) a b
/-- The same for bins. -/
def binDiff (a b : List (Int × Int)) : List (Int × Int) := if a = [] then b else if b = [] then a else List.zipWith (fun x y => (x.1 - y.1, x.2 - y.2)) a b

/-- ‖w − w_snap‖² and ‖w_snap‖² of the four block classes of a pair: FFE, echo, NEXT, FEXT. -/
def RxPair.movement (x : RxPair) : List (Nat × Nat) :=
  let c := x.coef
  let o := x.snapCoef
  [(norm2 (coefDiff c.ffe o.ffe), norm2 o.ffe),
   (binNorm2 (binDiff c.echo0 o.echo0) + binNorm2 (binDiff c.echo1 o.echo1), binNorm2 o.echo0 + binNorm2 o.echo1),
   (sumNat (pairs.map (fun q => binNorm2 (binDiff (c.next.at q) (o.next.at q)))), sumNat (pairs.map (fun q => binNorm2 (o.next.at q)))),
   (sumNat (pairs.map (fun q => norm2 (coefDiff (c.fext.at q) (o.fext.at q)))), sumNat (pairs.map (fun q => norm2 (o.fext.at q))))]

/-! ### Snapshots and the passive cable estimates (R110, R278) -/

/-- A pair's echo response over 2,048 lags: the inverse transforms of its two echo partitions (R92, R278). -/
def echoResponse (c : Coefs) : List Rat :=
  let part := fun (e : List (Int × Int)) => if e = [] then List.replicate 1024 0 else (ofBins (binsOf e)).take 1024
  part c.echo0 ++ part c.echo1

/-- Local peaks of a list of magnitudes with their positions: above the value before and not below the one after (DESIGN CHOICE for equal values, log entry 94). -/
def localPeaks (h : List Rat) : List (Nat × Rat) :=
  ((List.zip (List.zip (0 :: h) h) (h.drop 1 ++ [0])).zipIdx.filter (fun x => x.1.1.1 < x.1.1.2 && x.1.2 ≤ x.1.1.2)).map (fun x => (x.2, x.1.1.2))

/-- Time of an echo lag in ps, less the fixed internal delay; none before it (R278). -/
def State.lagPs (s : State) (p : Pair) (i : Nat) : Option Nat :=
  let t := i * periodNs s.link.mode * 1000 / 1024
  if freeInternalDelay p ≤ t then some (t - freeInternalDelay p) else none

/-- Reflections of a pair: local peaks of its echo response beyond 2.0 m, at least −45 dB under its greatest value; lag in ps, distance in 0.1 m, level in
0.1 dB (R278). -/
def State.reflections (s : State) (p : Pair) : List (Int × Int) :=
  let h := (echoResponse (s.rx.pair.at p).coef).map (fun v => v * v)
  let top := h.foldl max 0
  ((localPeaks h).filterMap (fun x => (s.lagPs p x.1).map (fun t => (t, tenLog (x.2 / top))))).filterMap (fun x =>
    if s.beyond x.1 2 && decide (-450 ≤ x.2) then some (s.distance x.1, x.2) else none)

/-- The passive cable estimate of a pair (R278). -/
def State.estimateCable (s : State) (p : Pair) : CableEst :=
  let ok := s.reflections p
  let three : List (Int × Int) := sortBy (fun a b => a.1 ≤ b.1) ((sortBy (fun a b => b.2 ≤ a.2) ok).take 3)
  { length := (ok.foldl (fun (m : Option Nat) (k : Int × Int) => some (max (m.getD 0) k.1.toNat)) none).getD 0xFFFF
    reach := (match s.lagPs p 2047 with | some t => s.distance t | none => 0).toNat
    refl := (three.map (fun (k : Int × Int) => (k.1.toNat, k.2)) ++ List.replicate 3 (0, 0)).take 3
    rung := s.link.mode.getD 0xF, valid := true }

/-- A new cable estimate of a pair. -/
def State.reestimate (s : State) (p : Pair) : State := { s with mon := { s.mon with est := s.mon.est.put p (s.estimateCable p) } }

/-- The snapshot of R110 of a pair: its MSE averaged over the last 4,096 periods, or over those there are, and its coefficients; MSE restarts from it (R114). -/
def RxPair.snapshot (x : RxPair) : RxPair :=
  let m := if x.mseLast = [] then x.mse else x.mseLast.foldl (· + ·) 0 / x.mseLast.length
  { x with snap := m, snapCoef := x.coef, mse := m, mseSet := true, stale := false, lagRun := 0 }

/-- The snapshot of a pair, and its passive cable estimate (R110, R278). -/
def State.snapshotPair (s : State) (p : Pair) : State := (s.modRx p (·.snapshot)).reestimate p

/-- The snapshot of every active pair, and its passive cable estimates (R110, R278). -/
def State.takeSnapshot (s : State) : State := s.activePairs.foldl State.snapshotPair s

end Sys2Proof.Machine
end

