-- ==== Sys2Proof/Machine/Engines.lean ====
section
/-! DEFINITION. The engine commands: slot staging and commit, deadlines, the coefficient store, repair and the program swap (04_signal_engines R124 to R155, 13 R430). -/

namespace Sys2Proof.Machine

/-! ### The coefficient store (R139 to R145) -/

/-- Change a store bank. -/
def State.modBank (s : State) (b : Nat) (f : StoreBank → StoreBank) : State := s.modEng (fun g => { g with store := modAt g.store b f })

/-- A store bank. -/
def State.storeBank (s : State) (b : Nat) : StoreBank := s.eng.store.getD b {}

/-- Banks that a request names. -/
def StoreReq.names (q : StoreReq) (b : Nat) : Bool := q.banks.getLsbD b

/-- The banks of a request, in order. -/
def StoreReq.list (q : StoreReq) : List Nat := (List.range 8).filter q.names

/-- The other bank of a dual request. -/
def StoreReq.other (q : StoreReq) (b : Nat) : Option Nat := q.list.find? (· ≠ b)

/-- Current priority of a waiting request at a bank (R140). -/
def StoreBank.priority (k : StoreBank) (q : StoreReq) : Nat := min 15 (q.base + sget 0 k.aged q.who)

/-- A waiting request that is withdrawn costs nothing; its priority returns to base and a reservation for it ends (R141). Its wait enters no WAIT_MAX
(DESIGN CHOICE, log entry 86). -/
def State.withdrawWaiting (s : State) (who : Nat) : State :=
  s.modEng (fun g => { g with
    waiting := g.waiting.filter (fun q => q.who ≠ who)
    store := if g.waiting.any (fun q => q.who = who) then
        g.store.map (fun k => { k with aged := sset 0 k.aged who 0, reserved := if k.reserved = some who then none else k.reserved })
      else g.store })

/-- A grant that is withdrawn costs one dead cycle (R141). -/
def State.withdrawGrant (s : State) (who : Nat) : State :=
  s.modEng (fun g => { g with store := g.store.map (fun k =>
    match k.grant with
    | some x => if x.who = who then { k with grant := none, dead := true } else k
    | none => k) })

/-- An engine's slot is stopped: its request is withdrawn and its block is late, save the segments it had completed (R101, R128, R141). -/
def State.stopSlot (s : State) (e i doneSegs : Nat) : State := ((s.withdrawWaiting e).withdrawGrant e).lateSlot e i doneSegs

/-- The priority a requester starts with (R139). -/
def State.storeBase (s : State) (who slot : Nat) : Nat :=
  if who < 96 then slotPrio (sget 0 s.eng.active (16 * who + slot)) else if who = 98 then 2 else 1

/-- A refused request: the slot is stopped as a late block, and 4 violations within 1,024 periods are a repair cause (R131, R146). -/
def State.bankViolation (s : State) (e i doneSegs : Nat) : State :=
  let at' := s.eng.period :: (s.engine e).violAt.filter (fun p => decide (s.eng.period < p + 1024))
  let s1 := s.modEngine e (fun x => { x with bankViol := inc 16 x.bankViol, violAt := at' })
  let s2 := s1.stopSlot e i doneSegs
  if 4 ≤ at'.length then s2.repairCause e 2 true else s2

/-- A request arrives (R131, R140, R143): a requester with a grant in force, or waiting, cannot enter a second one; an engine names
banks of its slot's BANKS only, and both of them with a dual request. -/
def State.enterRequest (s : State) (a : StoreAsk) : State :=
  let n := popCount 8 a.banks.toNat
  let busy := s.eng.waiting.any (fun q => q.who = a.who) || s.eng.store.any (fun k => match k.grant with | some x => x.who = a.who | none => false)
  let w := sget 0 s.eng.active (16 * a.who + a.slot)
  let legal := a.who < 96 → a.banks.toNat ||| slotBanks w = slotBanks w ∧ (n = 2 → popCount 8 (slotBanks w) = 2)
  if n = 0 || 2 < n || a.lines = 0 || 98 < a.who || (a.who = 97 && !s.fuse.part.diag) || busy then s
  else if a.who < 96 && (s.fuse.part.engines ≤ a.who || (s.engine a.who).retired || 16 ≤ a.slot || slotTask w = 0) then s
  else if !decide legal then s.bankViolation a.who a.slot a.done
  else s.modEng (fun g => { g with waiting := g.waiting ++ [{ who := a.who, slot := a.slot, banks := a.banks, lines := a.lines, line := a.line, write := a.write, done := a.done
                                                              base := s.storeBase a.who a.slot }] })

/-- A bank at the start of a cycle: a dead cycle passes, or a line of the grant in force moves. A grant that has held 64 cycles
stands until its cut-off. Answers the bank and whether it is free for a round. -/
def StoreBank.tick (k : StoreBank) : StoreBank × Bool :=
  if k.dead then ({ k with dead := false, deadCyc := satAdd 32 k.deadCyc 1 }, false)
  else match k.grant with
    | some x =>
      if 64 ≤ x.held then (k, false)
      else ({ k with grant := some { x with lines := x.lines - 1, line := x.line + 1, held := x.held + 1 }, granted := k.granted + 1 }, false)
    | none => (k, k.reserved.isNone)

/-- A request is granted at a bank in this cycle: its first line moves (R140). -/
def StoreBank.give (k : StoreBank) (q : StoreReq) (dual : Bool) (period : Nat) : StoreBank :=
  { k with
    grant := some { who := q.who, slot := q.slot, lines := q.lines - 1, line := q.line, write := q.write, done := q.done, held := 1 }
    reserved := none
    aged := sset 0 k.aged q.who 0
    grants := satAdd 32 k.grants 1
    duals := if dual then satAdd 32 k.duals 1 else k.duals
    granted := k.granted + 1
    waits := (period, q.wait) :: k.waits.filter (fun w => decide (period < w.1 + 1024)) }

/-- Every eligible request but the winner ages by 1, up to priority 15 (R140 step 3). -/
def StoreBank.age (k : StoreBank) (es : List StoreReq) (winner : Nat) : StoreBank :=
  es.foldl (fun k q => if q.who = winner || 15 ≤ k.priority q then k else { k with aged := smod 0 k.aged q.who (· + 1) }) k

/-- Distance of a requester from the pointer in rising order modulo 99. -/
def fromPointer (p who : Nat) : Nat := (who + 99 - p % 99) % 99

/-- The winner among eligible requests (R140 step 2). -/
def StoreBank.winner (k : StoreBank) : List StoreReq → Option StoreReq
  | [] => none
  | q :: qs =>
    match k.winner qs with
    | none => some q
    | some r =>
      if k.priority q > k.priority r || (k.priority q = k.priority r && fromPointer k.pointer q.who < fromPointer k.pointer r.who) then some q else some r

/-- A granted requester leaves the waiting ones; its wait is recorded. -/
def State.granted (s : State) (q : StoreReq) : State :=
  let s1 := s.modEng (fun g => { g with waiting := g.waiting.filter (fun r => r.who ≠ q.who) })
  if q.who < 96 then s1.modEngine q.who (fun x => { x with
    waits := (s.eng.period, q.wait) :: x.waits.filter (fun w => decide (s.eng.period < w.1 + 1024)) }) else s1

/-- Requests eligible at a bank (R140 step 1). -/
def State.eligible (s : State) (b : Nat) : List StoreReq :=
  s.eng.waiting.filter (fun q => q.names b && (match q.other b with
    | some o => (match (s.storeBank o).reserved with | some r => r = q.who | none => true)
    | none => true))

/-- A round at a free bank (R140, R143). `free`: banks free in this cycle; answers with the banks whose reservation ends after it. -/
def State.round (s : State) (free : Nat → Bool) (b : Nat) : State × List Nat :=
  let es := s.eligible b
  let k := s.storeBank b
  match k.winner es with
  | none => (s, [])
  | some w =>
    let s1 := s.modBank b (fun k => { (k.age es w.who) with pointer := (w.who + 1) % 99 })
    -- a dual that waits with this bank as its other one, and does not win here, loses its reservation
    let losers := fun (at' : Nat) (qs : List StoreReq) => qs.flatMap (fun q => match q.other at' with
      | some o => if q.who ≠ w.who && (s.storeBank o).reserved = some q.who then [o] else []
      | none => [])
    let lost := losers b es
    match w.other b with
    | none => ((s1.modBank b (·.give w false s.eng.period)).granted w, lost)
    | some o =>
      let both := fun (st : State) => ((st.modBank b (·.give w true s.eng.period)).modBank o (·.give w true s.eng.period)).granted w
      if (s1.storeBank o).reserved = some w.who then (both s1, lost)
      else if free o && b < o && (s1.storeBank o).grant.isNone && (s1.storeBank o).reserved.isNone then
        (both (s1.modBank o (fun k => { (k.age (s1.eligible o) w.who) with pointer := (w.who + 1) % 99 })), lost ++ losers o (s1.eligible o))
      else (s1.modBank b (fun k => { k with reserved := some w.who }), lost)

/-- The rounds of a cycle, banks in ascending order; a bank granted earlier in the cycle holds none. -/
def State.rounds (s : State) (free : Nat → Bool) : List Nat → State × List Nat
  | [] => (s, [])
  | b :: bs =>
    if free b && (s.storeBank b).grant.isNone && (s.storeBank b).reserved.isNone then
      let (s1, l1) := s.round free b
      let (s2, l2) := s1.rounds free bs
      (s2, l1 ++ l2)
    else s.rounds free bs

/-- An uncorrectable store error (R145): counted, the line marked, an engine's slot stopped, a fast retrain requested. `reader`: who, slot, segments complete. -/
def State.storeError (s : State) (b line : Nat) (reader : Option (Nat × Nat × Nat)) : State :=
  let s1 := (s.modBank b (fun k => { k with ue := inc 16 k.ue })).modEng (fun g => { g with marked := if g.marked.contains (b, line) then g.marked else (b, line) :: g.marked })
  let s2 := match reader with
    | some (e, i, n) => if e < 96 then s1.stopSlot e i n else s1
    | none => s1
  s2.requestRetrain

/-- Errors read in a cycle by the requester that holds the bank. -/
def State.storeReads (s : State) (es : List (Nat × Nat × Bool)) : State :=
  es.foldl (fun st e =>
    match (st.storeBank e.1).grant with
    | some x => if e.2.2 then st.storeError e.1 e.2.1 (some (x.who, x.slot, x.done)) else st.modBank e.1 (fun k => { k with ce := inc 16 k.ce })
    | none => st) s

/-- Engines that read a marked line in this cycle: their tasks drop (R145). -/
def State.markedReads (s : State) : State :=
  (List.range 8).foldl (fun st b =>
    match (st.storeBank b).grant with
    | some x => if x.who < 96 && !x.write && s.eng.marked.contains (b, x.line) then st.stopSlot x.who x.slot x.done else st
    | none => st) s

/-- STORE_GRANT: one engine cycle of the eight bank arbiters (R140 to R145). -/
def execStoreGrant (c : StoreCycle) (s : State) : Host.Outcome State Fault Refusal :=
  .next <|
    let s0 := s.modEng (fun g => { g with cycle := c.cycle })
    let s1 := c.withdrawn.foldl (fun st w => st.withdrawWaiting w) s0
    let s2 := c.asks.foldl (fun st a => st.enterRequest a) s1
    let ticked := s2.eng.store.map (·.tick)
    let s3 := s2.modEng (fun g => { g with store := ticked.map (·.1) })
    let (s4, lost) := s3.rounds (fun b => (ticked.getD b ({}, false)).2) (List.range 8)
    let s5 := s4.markedReads.storeReads c.errors
    let s6 := s5.modEng (fun g => { g with
      cycle := c.cycle + 1
      store := g.store.zipIdx.map (fun x =>
        let k := if x.1.reserved.isSome then { x.1 with reservedCyc := satAdd 32 x.1.reservedCyc 1 } else x.1
        let k1 := if lost.contains x.2 then { k with reserved := none } else k
        match k1.grant with
        | some y => if y.lines = 0 then { k1 with grant := none } else k1
        | none => k1)
      waiting := g.waiting.map (fun q => { q with wait := q.wait + 1 }) })
    c.withdrawn.foldl (fun st w => st.withdrawGrant w) s6

/-- OVERHOLD_CUTOFF: a grant that has held its bank for 64 cycles is cut off (R142); OVH_LIMIT cut-offs within 1,024 periods are a
repair cause (R146). A dual grant ends at both banks. -/
def execOverholdCutoff (b : Nat) (s : State) : Host.Outcome State Fault Refusal :=
  .next <| match (s.storeBank b).grant with
    | some x =>
      if x.held < 64 || x.lines = 0 then s
      else
        let s1 := s.modEng (fun g => { g with
          store := g.store.map (fun k => match k.grant with
            | some y => if y.who = x.who then { k with grant := none, overholds := inc 16 k.overholds } else k
            | none => k)
          ovhReq := x.who, ovhBank := b, ovhCycle := g.cycle % 65536, ovhPeriod := g.period % 2 ^ 32 })
        let s2 := (s1.logEntry unitEngines 3 kindFault 1 0x05 x.who 0 b).raiseEvent evEngines
        if x.who < 96 then
          let at' := s.eng.period :: (s.engine x.who).ovhAt.filter (fun p => decide (s.eng.period < p + 1024))
          let s3 := s2.modEngine x.who (fun e => { e with overholds := inc 16 e.overholds, ovhAt := at' })
          let s4 := s3.stopSlot x.who x.slot x.done
          if s.eng.ovhLimit ≤ at'.length then s4.repairCause x.who 1 true else s4
        else s2
    | none => s

/-- STORE_SCRUB: Benash reads every line of the store; errors as bank, line, and whether uncorrectable (R139, R145). -/
def execStoreScrub (es : List (Nat × Nat × Bool)) (s : State) : Host.Outcome State Fault Refusal :=
  .next <| if !s.ben.up then s else es.foldl (fun st e =>
    if 8 ≤ e.1 then st
    else if e.2.2 then st.storeError e.1 e.2.1 none
    else st.modBank e.1 (fun k => { k with ce := inc 16 k.ce })) s

/-! ### Deadlines and the switch -/

/-- A slot whose inputs are all erased: it is skipped (R128). In a standard mode's low-power idle the receive slots have none. -/
def State.slotSkipped (s : State) (w : BitVec 64) : Bool :=
  let p : Pair := ⟨slotPair w, Nat.mod_lt _ (by decide)⟩
  (0x01 ≤ slotTask w && slotTask w ≤ 0x08 && slotTask w ≠ 0x04 && s.linkInData && !s.nativeMode && s.ql.run.rxState ≠ 0) ||
    (taskSegments (slotTask w) && segBits (slotFirst w) (slotLast w) &&& ~~~s.deadSegs (slotTask w) p (slotFirst w) (slotLast w) = 0)

/-- SLOT_DEADLINE: the slot of an engine's entry reaches its deadline with some segments complete. It began at the later of its START and the end of the
engine's previous slot; a slot that was skipped, or had completed its work, is no late block (R128). -/
def execSlotDeadline (e i doneSegs prevEnd : Nat) (s : State) : Host.Outcome State Fault Refusal :=
  .next <|
    let w := sget 0 s.eng.active (16 * e + i)
    let used := taskDeadline (slotTask w) s.cycles - max (slotStart w) prevEnd
    if s.fuse.part.engines ≤ e || 16 ≤ i || slotTask w = 0 || s.slotSkipped w || slotComplete w doneSegs then s
    else
      let s1 := if slotBudget w < used then s.modEngine e (fun x => { x with overrun := inc 16 x.overrun }) else s
      (s1.modEngine e (fun x => { x with drops := inc 16 x.drops })).stopSlot e i doneSegs

/-- SLOT_BANK_SWITCH: the armed bank comes into force at a timeline boundary (R137). -/
def execSlotBankSwitch (s : State) : Host.Outcome State Fault Refusal := .next s.bankSwitch.knuckleSettled

/-- What the engines did in the period that ends (R128, R146, R152), and the banks' granted cycles (R153). -/
def State.recordLoad (s : State) (ls : List EngineLoad) : State :=
  let s1 := (List.range s.fuse.part.engines).foldl (fun st e =>
    let l := ls.find? (fun x => x.engine = e)
    let st1 := st.modEngine e (fun x => { x with
      busy := (match l with | some y => y.used | none => 0) :: x.busy.take 1023
      overrun := satAdd 16 x.overrun (match l with | some y => y.overruns | none => 0)
      memCe := satAdd 16 x.memCe (match l with | some y => y.memCe | none => 0) })
    if (match l with | some y => y.memUe | none => false) then st1.repairCause e 3 true else st1) s
  s1.modEng (fun g => { g with store := g.store.map (fun k => { k with granted := 0, occ := k.granted :: k.occ.take 1023 }) })

/-! ### Staging (R133 to R136) -/

/-- The waiting requests of one opcode whose ARGS field OP a row takes. -/
def State.runWhere (s : State) (tag : BitVec 16) (op : Nat) (p : Capsule → Bool) (body : Request → State → State) : State :=
  match s.cyo.inbox.find? (fun q => q.cap.tag = tag) with
  | some q => if p q.cap then s.runRequest tag op body else s
  | none => s

/-- Entries of a SLOT_STAGE WRITE. -/
def stageEntries (c : Capsule) : List (BitVec 64) := (List.range (c.arg 32 1)).map (fun i => BitVec.ofNat 64 (leAt c.payload (8 * i) 8))

/-- GEN of the open staging: 0 when none. -/
def Engines.stagedGen (g : Engines) : Nat := match g.staging with | some x => x.gen | none => 0

/-- The staging that a WRITE, CLEAR or SLOT_COMMIT names is open (R134). -/
def Engines.stageOpen (g : Engines) (gen : Nat) : Bool := match g.staging with | some x => x.state = 1 && x.gen = gen && x.host | none => false

/-- A WRITE or CLEAR names the active bank, or not the open staging (R134 refusal 2). -/
def State.stageStale (s : State) (c : Capsule) : Bool := decide (c.arg 29 1 = b2n s.eng.useB) || !s.eng.stageOpen (c.arg 36 4)

/-- SLOT_STAGE with OP OPEN, or an OP that no row names (R134). In Quiet-Latch it waits for the wake (R217). -/
def execSlotStageOpen (tag : BitVec 16) (s : State) : Host.Outcome State Fault Refusal :=
  .next <| s.runWhere tag 0x64 (fun c => c.arg 28 1 ≠ 1 && c.arg 28 1 ≠ 2) fun q s =>
    s.guarded q [(q.cap.len ≠ 0, .lenRange), (!s.ready .engines, .notReady), (!q.cap.fieldsOk [(28, 1)] || q.cap.arg 28 1 ≠ 0, .range)]
      [(32, s.eng.stagedGen)] fun s =>
      if s.txQuiet || s.inQuiet then (s.startRun q).wakeCause 5
      else if s.armed then s.startRun q
      else
        let s1 := s.openStaging true
        s1.finish q .ok [(32, s1.eng.lastGen)] []

/-- SLOT_STAGE with OP WRITE (R134): its refusals in order; a refused WRITE writes nothing. -/
def execSlotStageWrite (tag : BitVec 16) (s : State) : Host.Outcome State Fault Refusal :=
  .next <| s.runWhere tag 0x64 (fun c => c.arg 28 1 = 1) fun q s =>
    let c := q.cap
    let es := stageEntries c
    s.guarded q [(c.len ≠ 8 * c.arg 32 1, .lenRange),
      (es.any (fun e => taskAbsent s.fuse.part (slotTask e)), .unitAbsent), (!s.ready .engines, .notReady), (s.stageStale c, .stale),
      (!c.fieldsOk [(28, 5), (36, 4)] || 1 < c.arg 29 1 || s.fuse.part.engines ≤ c.arg 30 1 || c.arg 32 1 = 0 || 16 < c.arg 31 1 + c.arg 32 1 || es.any entryBad, .range)]
      [(32, s.eng.stagedGen)] fun s =>
      let t := es.zipIdx.foldl (fun t e => sset 0 t (16 * c.arg 30 1 + c.arg 31 1 + e.2) e.1) s.eng.inactive
      (s.modEng (·.putInactive t)).finish q .ok [(32, s.eng.stagedGen)] []

/-- SLOT_STAGE with OP CLEAR (R134). -/
def execSlotStageClear (tag : BitVec 16) (s : State) : Host.Outcome State Fault Refusal :=
  .next <| s.runWhere tag 0x64 (fun c => c.arg 28 1 = 2) fun q s =>
    let c := q.cap
    s.guarded q [(c.len ≠ 0, .lenRange), (!s.ready .engines, .notReady), (s.stageStale c, .stale),
      (!c.fieldsOk [(28, 3), (36, 4)] || 1 < c.arg 29 1 || s.fuse.part.engines ≤ c.arg 30 1, .range)] [(32, s.eng.stagedGen)] fun s =>
      let t := (List.range 16).foldl (fun t i => sset 0 t (16 * c.arg 30 1 + i) 0) s.eng.inactive
      (s.modEng (·.putInactive t)).finish q .ok [(32, s.eng.stagedGen)] []

/-- The engine under on-demand test that the staged bank gives slots (R135). -/
def State.testedTarget (s : State) : Option Nat :=
  match s.bist.run with
  | some r => if r.test = 1 && slotsOf s.eng.inactive r.target ≠ [] then some r.target else none
  | none => none

/-- Validate the open staging and arm the switch, or refuse it (R135, R137). -/
def State.commitStaging (s : State) (q : Request) : State :=
  match s.validate s.eng.inactive s.eng.profile with
  | some (code, e) =>
    let s1 := s.modEng (fun g => { g with lastReject := code, lastRejectEng := e })
    s1.finish q .range s1.commitResults []
  | none => (s.modEng (fun g => { g with staging := g.staging.map (fun x => { x with state := 3, tag := some q.cap.tag }) })).startRun q

/-- SLOT_COMMIT (R135, R136): an engine under test that gets slots defers it, or with PREEMPT the test is aborted. -/
def execSlotCommit (tag : BitVec 16) (s : State) : Host.Outcome State Fault Refusal :=
  .next <| s.runRequest tag 0x65 fun q s =>
    let c := q.cap
    let own := s.eng.stageOpen (c.arg 36 4)
    s.guarded q [(c.len ≠ 0, .lenRange), (!s.ready .engines, .notReady)] s.commitResults fun s =>
      match if own then s.testedTarget else none with
      | some e =>
        if c.preempt then s.guarded q [(!c.fieldsOk [(36, 4)], .range)] s.commitResults fun s => (s.abortTest 2).commitStaging q
        else if q.deferred then { s with cyo := { s.cyo with held := s.cyo.held ++ [q] } }
        else s.deferRequest q 1 (if s.engineTested e then s.bistRemain else 0)
      | none => s.guarded q [(!own, .genConflict), (!c.fieldsOk [(36, 4)], .range)] s.commitResults (·.commitStaging q)

/-! ### Repair (R146 to R149) -/

/-- Candidates for a spare (R147 step 1, R149): state spare, then background, then under test. -/
def State.spareFor (s : State) (e : Nat) : Option Nat :=
  let es := (List.range s.fuse.part.engines).filter (fun k => k ≠ e && !(s.engine k).failing)
  match es.find? (fun k => s.engineState k = 2) with
  | some k => some k
  | none =>
    match es.find? (fun k => s.engineState k = 3) with
    | some k => some k
    | none => es.find? (fun k => s.engineState k = 4)

/-- An engine runs a background task. -/
def State.runsTask (s : State) (k task : Nat) : Bool := (slotsOf s.eng.active k).any (fun x => slotTask x.2 = task)

/-- The background work of an engine chosen as a spare stops: a DIAG test begins its measurement again, a CAL item its accumulation; a test on it is aborted
(R147, R149, R231, R269). -/
def State.clearSpare (s : State) (k : Nat) : State :=
  if s.engineState k = 4 then s.abortTest 6
  else
    let s1 : State := if s.runsTask k 0x39 && s.diag.run.isSome then { s with diag := { s.diag with restarts := inc 8 s.diag.restarts } } else s
    if s.runsTask k 0x38 then s1.restartEstimates else s1

/-- REPAIR_START: the oldest repair cause is taken up: a spare is chosen and loaded (R147 steps 1 and 2, R148, R149). -/
def execRepairStart (s : State) : Host.Outcome State Fault Refusal :=
  .next <| match s.eng.repairQueue with
    | [] => s
    | (e, cause) :: rest =>
      let s0 := s.modEng (fun g => { g with repairQueue := rest })
      if !s.ben.up || s.eng.repair.isSome then s
      else if !s.hasSlots e then s0.retireIdle e cause
      else if s.txQuiet || s.inQuiet then s.wakeCause 5
      else match s.spareFor e with
        | none => (s0.modEngine e (fun x => { x with failing := true, cause := cause })).logEntry unitEngines 3 kindFault cause 0x02 e
        | some k =>
          ((s0.clearSpare k).modEngine k (fun x => { x with loading := true })).modEng
            (fun g => { g with repair := some { failed := e, spare := k, cause := cause } })

/-- REPAIR_LOAD_DONE: the spare's read-back passes and the moved slots are committed; or it fails, the spare is retired and the next
one is tried (R147). A copy that does not validate leaves the engine failing. -/
def execRepairLoadDone (good : Bool) (s : State) : Host.Outcome State Fault Refusal :=
  .next <| match s.eng.repair with
    | none => s
    | some r =>
      if r.committed then s
      else
        let s1 := s.modEngine r.spare (fun x => { x with loading := false, retired := x.retired || !good })
        if !good then
          (s1.logEntry unitEngines 2 kindRepair r.cause 0x02 r.spare 0 r.cause).modEng
            (fun g => { g with repair := none, repairQueue := (r.failed, r.cause) :: g.repairQueue })
        else if s1.armed then s1.modEng (fun g => { g with laterMove := some (r.failed, r.spare) })
        else s1.stageRepair r

/-- PROGRAM_SWAP: the next engine with old programs is swapped (R430): one without slots is loaded directly, one with slots gives them
to a spare that already has the new programs. A changed layout, or no spare, waits for a training or link down. -/
def execProgramSwap (s : State) : Host.Outcome State Fault Refusal :=
  .next <|
    if s.ben.swapLeft = 0 || s.ben.swapDeferred || !s.ben.up || s.eng.repair.isSome || s.eng.repairQueue ≠ [] then s
    else if s.eng.staging.any (fun x => x.state = 3) then s
    else
      let idle := s.oldEngines.filter (fun e => !s.hasSlots e || s.backgroundOnly e)
      match (s.oldEngines.filter (fun e => !idle.contains e)), s.spareFor s.fuse.part.engines with
      | [], _ => s.loadNew idle
      | _, none => { s with ben := { s.ben with swapDeferred := true } }
      | e :: _, some k =>
        if s.txQuiet || s.inQuiet then s.wakeCause 5
        else
          let (s1, ok) := ((s.clearSpare k).loadNew idle).stageMove e k
          if ok then s1.loadNew [k, e] else { s1 with ben := { s1.ben with swapDeferred := true } }

/-! ### ENG_CTL (R150) -/

/-- A value of ENG_CTL keeps its form. -/
def engCtlOk (v : Nat) : Bool := bitsAt v 2 6 = 0 && bitsAt v 8 4 ≠ 0 && bitsAt v 12 4 = 0 && v / 2 ^ 25 = 0

/-- The fields of ENG_CTL that are kept. -/
def State.storeEngCtl (s : State) (v : Nat) : State :=
  s.modEng (fun g => { g with autoRepair := bitAt v 0, agingRepair := bitAt v 1, ovhLimit := bitsAt v 8 4 })

/-- A host repair of an engine (R146, R149): OK when it is taken up; RANGE for an engine without slots or retired, and, with LAST_REJECT
8, when no spare can take its slots. -/
def State.hostRepair (s : State) (e : Nat) : State × Status :=
  if s.fuse.part.engines ≤ e || (s.engine e).retired || !s.hasSlots e then (s, .range)
  else if (s.spareFor e).isNone then (s.modEng (fun g => { g with lastReject := 8, lastRejectEng := e }), .range)
  else (s.repairCause e 6 false, .ok)

end Sys2Proof.Machine
end

