-- ==== Sys2Proof/Machine/Cal.lean ====
section
/-! DEFINITION. Calibration: CAL_RUN and its estimates, detents and swaps, the blob of CAL_EXPORT and CAL_IMPORT, and the 0x03xx objects (07_calibration R225 to R247, R257 to R259). -/

namespace Sys2Proof.Machine

/-! ### Detents (R235 to R237) -/

/-- Slice trims move together by one step each. -/
def Slice.detent (x : Slice) : Slice :=
  { x with offset := toward x.offset x.offsetTo, gain := toward x.gain x.gainTo, skew := toward x.skew x.skewTo }

/-- Slice trims are on their targets. -/
def Slice.settled (x : Slice) : Bool := x.offset = x.offsetTo && x.gain = x.gainTo && x.skew = x.skewTo

/-- Detents or a swap are in motion. -/
def CalPair.moving (c : CalPair) : Bool := c.echoMoving || c.swap.isSome || c.map ≠ c.mapTo || c.slices.any (fun x => !x.settled)

/-- The first position whose slice is to change to a spare. -/
def CalPair.nextSwap (c : CalPair) : Option Swap :=
  ((List.range 32).find? (fun k => c.map.getD k 0 ≠ c.mapTo.getD k 0 && (c.slice (c.mapTo.getD k 0)).state = 1)).map
    (fun k => { pos := k, out := c.map.getD k 0, inc := c.mapTo.getD k 0 })

/-- A swap is complete: the incoming slice is active, the outgoing one takes its new state (R236 step 4). -/
def CalPair.finishSwap (c : CalPair) (w : Swap) : CalPair :=
  let old := c.slice w.out
  { c with
    map := setAt c.map w.pos w.inc
    slices := modAt (modAt c.slices w.inc (fun x => { x with state := 0, stateTo := 0 })) w.out
      (fun x => { x with state := if old.stateTo = 0 then 1 else old.stateTo, stateTo := if old.stateTo = 0 then 1 else old.stateTo })
    swaps := inc 16 c.swaps, swap := none }

/-- One period of a crossfade (R236 step 3), or the start of the next swap. -/
def CalPair.fade (c : CalPair) : CalPair :=
  match c.swap with
  | none => { c with swap := c.nextSwap }
  | some w =>
    match w.alpha with
    | none => c
    | some a => if 63 ≤ a then c.finishSwap w else { c with swap := some { w with alpha := some (a + 1) } }

/-- One hybrid step: one code of one of them. -/
def CalPair.hybStep (c : CalPair) : CalPair :=
  if c.hybR ≠ c.hybRTo then { c with hybR := (toward c.hybR c.hybRTo).toNat } else { c with hybC := (toward c.hybC c.hybCTo).toNat }

/-- One cell replacement. -/
def CalPair.cellStep (c : CalPair) : CalPair :=
  match (List.range 63).find? (fun k => c.cells.getD k 0 ≠ c.cellsTo.getD k 0) with
  | some k => { c with cells := setAt c.cells k (c.cellsTo.getD k 0), swaps := inc 16 c.swaps }
  | none => c

/-- Results of an item over pairs: LIMIT stands before DONE, and DONE before NO_CHANGE. -/
def resultRank (c : Nat) : Nat := if c = 6 then 3 else if c = 1 then 2 else if c = 2 then 1 else 0

/-- An item of a CAL_RUN ends for a pair with a result; a value that changed makes the calibration dirty (R240). -/
def State.endCalItem (s : State) (item pair code : Nat) (changed : Bool) : State :=
  match s.cal.run with
  | none => s
  | some r =>
    if !r.left.contains (item, pair) then s
    else
      let old := r.results.getD item 0
      let r1 := { r with left := r.left.erase (item, pair), results := setAt r.results item (if resultRank code < resultRank old then old else code) }
      let s1 : State := { s with cal := { s.cal with run := some r1, dirty := s.cal.dirty || changed } }
      if r1.left = [] then s1.finishCal else s1

/-- The echo partitions and the MSE of a pair's snapshot become the present ones (R241). -/
def RxPair.echoSnapshot (x : RxPair) : RxPair :=
  { x with snap := x.mse, snapCoef := { x.snapCoef with echo0 := x.coef.echo0, echo1 := x.coef.echo1 } }

/-- The echo entry of the drift snapshot is replaced once a run that moved HYBRID or DAC values has ended and their detents stop (R241). -/
def State.echoSettled (s : State) (p : Pair) : State :=
  if s.cal.echoMoving.getLsbD p && s.cal.run.isNone && !(s.cal.pair.at p).echoMoving then
    let s1 := State.modRx { s with cal := { s.cal with echoMoving := s.cal.echoMoving &&& ~~~(BitVec.twoPow 4 p.val) } } p (·.echoSnapshot)
    if s.link.mode.isNone then s1 else s1.reestimate p
  else s

/-- ADC_SELECT of a pair ends once its swaps are complete; a replacement that found no spare has noted LIMIT. -/
def State.selectDone (s : State) (p : Pair) : State :=
  let c := s.cal.pair.at p
  if c.swap.isNone && c.nextSwap.isNone && c.map = c.mapTo then
    match s.cal.run with
    | some r => if r.left.contains (1, p.val) && r.swapping.getLsbD p.val then s.endCalItem 1 p.val 1 true else s
    | none => s
  else s

/-- Frames of 128 ns that pass in period n of P ns. -/
def framesIn (n p : Nat) : Nat := (n + 1) * p / 128 - n * p / 128

/-- A refresh window's first lead period is being sent (R235 in Quiet-Latch). -/
def State.leadPeriod (s : State) : Bool :=
  match s.ql.run.qc with
  | some q => s.ql.run.txState = 3 && q % (if s.link.mode = some 0 then 1562 else 781) = 0
  | none => false

/-- A pair is shed, and stays so until its reinstatement is complete (R237, R255). -/
def State.pairShed (s : State) (p : Pair) : Bool := (s.kn.run.state = 2 || s.kn.run.state = 3) && s.kn.run.shed = p

/-- One period of a pair's detents: on a shed pair every change at once (R237), else by Table 7-3, cells and hybrid codes at the pace of their interval. -/
def State.pairDetents (s : State) (go quiet : Bool) (p : Pair) : State :=
  let c := s.cal.pair.at p
  if s.pairShed p then ((s.modCal p (·.settle)).selectDone p).echoSettled p
  else
    let c1 := CalPair.fade { c with slices := c.slices.map Slice.detent }
    let hyb := (c1.hybR ≠ c1.hybRTo || c1.hybC ≠ c1.hybCTo) && (if quiet then go else decide (255 ≤ s.cal.hybAge.at p))
    let cell := c1.cells ≠ c1.cellsTo && (if quiet then go else decide (15 ≤ s.cal.cellAge.at p))
    let c2 := if hyb then c1.hybStep else c1
    let c3 := if cell then c2.cellStep else c2
    let s1 : State := { s with cal := { s.cal with
      pair := s.cal.pair.put p c3
      hybAge := s.cal.hybAge.put p (if hyb then 0 else if quiet then s.cal.hybAge.at p else s.cal.hybAge.at p + 1)
      cellAge := s.cal.cellAge.put p (if cell then 0 else if quiet then s.cal.cellAge.at p else s.cal.cellAge.at p + 1) } }
    (s1.selectDone p).echoSettled p

/-- One period of every pair's detents. -/
def State.detents (s : State) : State := pairs.foldl (fun st p => st.pairDetents s.leadPeriod s.inQuiet p) s

/-- Estimation of an item on a pair runs now: not while Benash restarts, nor in a fast retrain or a Knuckle countdown (R239). -/
def State.calRunning (s : State) (item pair : Nat) : Bool :=
  (match s.cal.run with | some r => r.left.contains (item, pair) | none => false) && s.ben.up && !s.detentsPause

/-- A CAL task can run: estimation is under way and an engine is free for it (R231). -/
def State.calTask (s : State) (item pair : Nat) : Bool := s.calRunning item pair && s.backgroundEngine

/-! ### Accumulation (R228 to R230, R233) -/

/-- A sample joins the sums of its position, with the sample after it. -/
def SliceSum.add (x : SliceSum) (v : Int) (next : Option Int) : SliceSum :=
  { n := x.n + 1, sum := x.sum + v, sq := x.sq + v.natAbs * v.natAbs
    prodN := match next with | some _ => x.prodN + 1 | none => x.prodN
    prod := match next with | some w => x.prod + v * w | none => x.prod }

/-- Samples at one position, every 32nd. -/
def SliceSum.gather (l : List (Option Int)) : Nat → Nat → SliceSum → SliceSum
  | 0, _, x => x
  | n + 1, i, x =>
    SliceSum.gather l n (i + 32) (match l.getD i none with | some v => x.add v (l.getD (i + 1) none) | none => x)

/-- The qualifying samples of a period join the sums (R228); the last one's product waits for the next period. -/
def PairEst.samples (e : PairEst) (l : List (Option Int)) : PairEst :=
  let first := e.sums.zipIdx.map (fun x => SliceSum.gather l 32 x.2 x.1)
  let joined := match e.tail, l.getD 0 none with
    | some v, some w => modAt first 31 (fun x => { x with prodN := x.prodN + 1, prod := x.prod + v * w })
    | _, _ => first
  { e with sums := joined, tail := l.getD 1023 none }

/-- The samples of a pair in the period of an age that qualify: RMS of at least −20 dBFS, not clipped, no erasure mark (R229). -/
def State.qualifying (s : State) (p : Pair) (age : Nat) : List (Option Int) :=
  let e := s.rxPeriod age
  let l := fit1024 (e.adc.at p)
  let marks := ((s.rx.pair.at p).marks.filter (fun m => m.1 = e.no)).map (·.2)
  if fullScaleShare l * 100 < 1 then List.replicate 1024 none
  else l.zipIdx.map (fun v => if v.1 = 127 || v.1 = -128 || marks.contains v.2 then none else some v.1)

/-- The period of an age contributes to a pair's ADC estimate, or breaks its chain of neighbours (R229). -/
def State.sampleAdc (s : State) (p : Pair) (age : Nat) (part : Bool) : State :=
  if !((s.calTask 0 p.val || s.calTask 1 p.val) && part) then
    { s with cal := { s.cal with est := s.cal.est.upd p (fun e => { e with tail := none }) } }
  else { s with cal := { s.cal with est := s.cal.est.upd p (·.samples (s.qualifying p age)) } }

/-- The receive period of a number shows what its probe left: the residual under a rotation, or the echo power at the ADC under a dither (R230, R233). -/
def PairEst.observe (e : PairEst) (no : Nat) (residual power : Rat) : PairEst :=
  let e1 := match e.flight.find? (fun x => x.1 = no) with
    | some x => { e with dacN := e.dacN + 1, flight := e.flight.filter (fun y => y.1 ≠ no), seen := modAt e.seen x.2 (fun y => (y.1 + 1, y.2 + residual)) }
    | none => e
  match e1.dither.find? (fun x => x.1 = no) with
  | some x => { e1 with
      hybN := e1.hybN + 1, dither := e1.dither.filter (fun y => y.1 ≠ no)
      up := if x.2 then e1.up + power else e1.up, down := if x.2 then e1.down else e1.down + power }
  | none => e1

/-- Mean square of ADC codes. -/
def meanPowerOf (l : List Int) : Rat := if l = [] then 0 else (norm2 l : Rat) / l.length

/-- What the period of an age shows of a pair's probes. -/
def State.observeProbe (s : State) (p : Pair) (age : Nat) (residual : Rat) : State :=
  let e := s.rxPeriod age
  { s with cal := { s.cal with est := s.cal.est.upd p (·.observe e.no residual (meanPowerOf (fit1024 (e.adc.at p)))) } }

/-- A probe rides in the transmit period that is sent now: a rotation while DAC needs more, else a dither while HYBRID runs and its last step is in force. The
echo and NEXT updates that use the codes are frozen (R230, R233). -/
def State.probe (s : State) (p : Pair) : State :=
  let e := s.cal.est.at p
  let c := s.cal.pair.at p
  let no := s.eng.period
  let mark := fun (st : State) => st.modRx p (fun x => { x with badRef := (no :: x.badRef).take 8 })
  if s.calTask 2 p.val && e.dacN < 4096 then
    mark { s with cal := { s.cal with est := s.cal.est.put p { e with rotation := (e.rotation + 1) % 71, flight := ((no, e.rotation) :: e.flight).take 8 } } }
  else if s.calTask 3 p.val && c.hybR = c.hybRTo && c.hybC = c.hybCTo && e.hybN < 1024 then
    mark { s with cal := { s.cal with est := s.cal.est.put p { e with dither := ((no, decide (no % 2 = 0)) :: e.dither).take 8 } } }
  else s

/-- The pairs that can carry a probe in a data or tail period: active ones where the payload is all idle run, and the shed pair always (R230). -/
def State.probes (s : State) (idle : Bool) : State :=
  pairs.foldl (fun st p => if s.pairShed p || (idle && s.activePair p) then st.probe p else st) s

/-! ### The timeline -/

/-- Held targets of an import or a reversion come into force (R247, R257). -/
def State.takeHeld (s : State) (blob : CalPair → Pair → List Byte → CalPair) : State :=
  match s.cal.heldTargets with
  | none => s
  | some h =>
    if !(s.link.state ≤ 2 || s.nativeData) then s
    else { s with cal := { s.cal with
      heldTargets := none
      pair := s.cal.pair.mapIdx (fun p c => s.release (match h with | some b => blob c p b | none => c.revert (s.nvm.trim.pair.at p).values)) } }

/-- Detents in motion (CAL_STATUS.SETTLING). -/
def State.settling (s : State) : Bool :=
  s.cal.pair.toList.any (·.moving) || (s.dl.outb.lanes ++ s.dl.inb.lanes).any (fun l => l.phase ≠ l.phaseTo)

/-! ### CAL_RUN (R227, R238 to R240) -/

/-- Items that a link state allows (R238). -/
def State.calItemAllowed (s : State) (item : Nat) : Bool :=
  item = 4 || s.nativeData || (s.link.state = 0 && item ≠ 3)

/-- The self-test in the way of a CAL_RUN (R238). -/
def State.calTested (s : State) (items pairsIn : Nat) : Bool :=
  match s.bist.run with
  | some r => (r.test = 2 && items % 16 ≠ 0 && bitAt pairsIn r.target) || (r.test = 3 && bitAt items 4)
  | none => false

/-- A CAL_RUN starts: items that the state does not allow end SKIPPED. -/
def State.startCal (s : State) (q : Request) : State :=
  let items := q.cap.arg 28 1
  let ps := q.cap.arg 29 1
  let named := (List.range 5).filter (bitAt items)
  let left := (named.filter s.calItemAllowed).flatMap (fun i => if i = 4 then [(4, 4)] else ((List.range 4).filter (bitAt ps)).map (fun p => (i, p)))
  let results := (List.range 5).map (fun i => if named.contains i && !s.calItemAllowed i then 3 else 0)
  let fresh : Quad PairEst := s.cal.pair.map (fun c => { start := (c.hybR, c.hybC) })
  let s1 := State.startRun { s with cal := { s.cal with est := fresh, run := some { tag := q.cap.tag, items := items, pairs := BitVec.ofNat 4 ps, left := left, results := results } } } q
  if left = [] then s1.finishCal else s1

/-- A DIAG_TDR run uses one of these pairs (R269); the NEXT map uses all four. -/
def State.diagUses (s : State) (ps : Nat) : Bool :=
  match s.diag.run with
  | some r => bitsAt (if bitAt r.tests 2 then 0xF else r.pairs.toNat) 0 4 &&& ps ≠ 0
  | none => false

/-- CAL_RUN (R227, R238): while another CAL_RUN runs, or a DIAG_TDR on a pair it names (R269), it is held in its place. -/
def execCalRun (tag : BitVec 16) (s : State) : Host.Outcome State Fault Refusal :=
  .next <| if s.cal.run.isSome || (match s.startable tag 0x50 with | some q => s.diagUses (bitsAt (q.cap.arg 29 1) 0 4) | none => false) then s else s.runRequest tag 0x50 fun q s =>
    let items := q.cap.arg 28 1
    let ps := q.cap.arg 29 1
    let ms := q.cap.arg 32 4
    let bad := !q.cap.fieldsOk [(28, 2), (32, 4)] || items = 0 || 32 ≤ items || 16 ≤ ps || (ps = 0 && items % 16 ≠ 0) || ms < 100 || 60000 < ms
    let s := s.leaveDormant
    s.guarded q [(q.cap.len ≠ 0, .lenRange), (!s.ready .line, .notReady)] [] fun s =>
      let tested := s.calTested items ps
      if tested && !q.cap.preempt then s.defer q (match s.bist.run with | some r => r.test | none => 0)
      else s.guarded q [(bad, .range)] [] fun s => (if tested then s.abortTest 2 else s).startCal q

/-- Ranges of slice trims (Table 7-3). -/
def trimOk (n : Int × Int × Int) : Bool := n.1.natAbs ≤ 2048 && n.2.1.natAbs ≤ 1024 && n.2.2.natAbs ≤ 160

/-- Trims clamped to their ranges (R232). -/
def trimClamp (n : Int × Int × Int) : Int × Int × Int := (clampInt (-2048) 2048 n.1, clampInt (-1024) 1024 n.2.1, clampInt (-160) 160 n.2.2)

/-- The trims wanted for the slice at a position, clamped to their ranges (R232). -/
def CalPair.wantTrim (c : CalPair) (k : Nat) (n : Int × Int × Int) : CalPair :=
  { c with slices := modAt c.slices (c.map.getD k 0) (fun x => { x with offsetTo := (trimClamp n).1, gainTo := (trimClamp n).2.1, skewTo := (trimClamp n).2.2 }) }

/-- The trims wanted lie within one resolution step of those in force. -/
def CalPair.trimSame (c : CalPair) (k : Nat) (n : Int × Int × Int) : Bool :=
  let x := c.slice (c.map.getD k 0)
  (n.1 - x.offset).natAbs ≤ 1 && (n.2.1 - x.gain).natAbs ≤ 1 && (n.2.2 - x.skew).natAbs ≤ 1

/-- Replace unfit slices by the lowest fit spares (R232); answers whether one found no spare. The spare becomes active with its swap. -/
def CalPair.select (c : CalPair) : List Nat → CalPair × Bool
  | [] => (c, false)
  | k :: ks =>
    let spare := (List.range 36).find? (fun j => (c.slice j).state = 1 && !(c.slice j).unfit && !c.mapTo.contains j)
    match spare with
    | some j =>
      CalPair.select { c with
        mapTo := setAt c.mapTo k j
        slices := modAt (modAt c.slices (c.map.getD k 0) (fun x => { x with stateTo := 2 })) j (fun x => { x with stateTo := 0 }) } ks
    | none =>
      let r := CalPair.select { c with noSpare := true } ks
      (r.1, true)

/-- Square root to 2^−20 (DESIGN CHOICE, log entry 90). -/
def ratSqrt (v : Rat) : Rat := (Nat.sqrt (⌊v * 2 ^ 40⌋).toNat : Rat) / 2 ^ 20

/-- π² (DESIGN CHOICE of its precision, log entry 90). -/
def piSquared : Rat := 9869604401089358 / 10 ^ 15

/-- Mean of a list. -/
def meanRat (l : List Rat) : Rat := if l = [] then 0 else l.foldl (· + ·) 0 / l.length

/-- m_s, q_s and c_s of a position (R228). -/
def SliceSum.stats (x : SliceSum) : Rat × Rat × Rat :=
  (if x.n = 0 then 0 else (x.sum : Rat) / x.n, if x.n = 0 then 0 else (x.sq : Rat) / x.n, if x.prodN = 0 then 0 else (x.prod : Rat) / x.prodN)

/-- What an ADC estimate found (R228): per position offset in LSB, relative gain and skew in seconds, the variance; f_rms in Hz. -/
structure AdcFound where
  off : List Rat
  gain : List Rat
  skew : List Rat
  var : List Rat
  rms : Rat
deriving DecidableEq, Repr

/-- The offset, gain and skew estimates of R228 from the sums, with a symbol time in seconds. -/
def adcFound (sums : List SliceSum) (t : Rat) : AdcFound :=
  let st := sums.map (·.stats)
  let var := st.map (fun x => x.2.1 - x.1 * x.1)
  let sd := var.map ratSqrt
  let m := meanRat (st.map (·.1))
  let d := meanRat sd
  let c := meanRat (st.map (·.2.2))
  let f := freeRmsFrequency st t
  { off := st.map (fun x => x.1 - m), gain := sd.map (fun x => x / d - 1)
    skew := st.map (fun x => (x.2.2 - c) / (-2 * piSquared * f * f * c * t)), var := var, rms := f }

/-- Symbol time of the mode in seconds; 8 GBd without one. -/
def State.symbolTime (s : State) : Rat := (periodNs s.link.mode : Rat) / (1024 * 10 ^ 9)

/-- The trims that the slice at a position needs: those in force less what the estimate found (R228; DESIGN CHOICE of the trims' sign, log entry 90). -/
def CalPair.needed (c : CalPair) (f : AdcFound) (k : Nat) : Int × Int × Int :=
  let x := c.slice (c.map.getD k 0)
  (x.offset - roundRat (f.off.getD k 0 * 256), x.gain - roundRat (f.gain.getD k 0 * 2 ^ 14), x.skew - roundRat (f.skew.getD k 0 * 32 * 10 ^ 12))

/-- Variance at a position after the gain correction that its range allows (R232; DEDUCED, log entry 90). -/
def CalPair.corrected (c : CalPair) (f : AdcFound) (k : Nat) : Rat :=
  let x := c.slice (c.map.getD k 0)
  let g := (1 + ((trimClamp (c.needed f k)).2.1 : Rat) / 2 ^ 14) / (1 + (x.gain : Rat) / 2 ^ 14)
  f.var.getD k 0 * g * g

/-- The slice at a position is unfit: a trim out of range, a variance more than 1.0 dB above its pair's mean, or an aging alarm (R232). -/
def CalPair.unfitAt (c : CalPair) (f : AdcFound) (k : Nat) : Bool :=
  let mean := meanRat ((List.range 32).map (c.corrected f))
  !trimOk (c.needed f k) || decide (10 * mean ^ 10 < (c.corrected f k) ^ 10) || (c.slice (c.map.getD k 0)).unfit

/-- MISMATCH of R242 in 0.1 dBc: the residues of every position after correction. -/
def CalPair.mismatchOf (c : CalPair) (f : AdcFound) : Int :=
  let power := meanRat f.var
  tenLog (meanRat ((List.range 32).map (fun k =>
    let x := c.slice (c.map.getD k 0)
    let n := trimClamp (c.needed f k)
    let o := f.off.getD k 0 + ((n.1 - x.offset : Int) : Rat) / 256
    let g := f.gain.getD k 0 + ((n.2.1 - x.gain : Int) : Rat) / 2 ^ 14
    let t := f.skew.getD k 0 + ((n.2.2 - x.skew : Int) : Rat) / (32 * 10 ^ 12)
    o * o / power + g * g + 4 * piSquared * f.rms * f.rms * t * t)))

/-- ADC_TRIM of a pair ends with an estimate: the trims of the active slices become targets unless each lies within one step (R228, R240). -/
def State.trimPair (s : State) (p : Pair) (f : AdcFound) : State :=
  let c := s.cal.pair.at p
  if (List.range 32).all (fun k => c.trimSame k (c.needed f k)) then s.endCalItem 0 p.val 2 false
  else (s.modCal p (fun c0 => (List.range 32).foldl (fun x k => x.wantTrim k (c.needed f k)) c0)).endCalItem 0 p.val 1 true

/-- ADC_SELECT of a pair: unfit slices are replaced; one that finds no spare stays with its trims clamped (R232). -/
def State.selectPair (s : State) (p : Pair) (f : AdcFound) : State :=
  let c := s.cal.pair.at p
  let unfit := (List.range 32).filter (c.unfitAt f)
  if unfit = [] then s.endCalItem 1 p.val 2 false
  else
    let r := c.select unfit
    let clamped := unfit.foldl (fun (x : CalPair) k => if x.map.getD k 0 = x.mapTo.getD k 0 then x.wantTrim k (c.needed f k) else x) r.1
    let s1 := s.modCal p (fun _ => if r.2 then clamped else r.1)
    let s2 := if r.2 then (s1.logEntry unitCal 3 kindFault 6 0x02 p.val).raiseEvent evCal else s1
    let s3 : State := { s2 with cal := { s2.cal with run := s2.cal.run.map (fun x =>
      { x with
        results := setAt x.results 1 (if r.2 || x.results.getD 1 0 = 6 then 6 else 1)
        swapping := if r.1.mapTo = c.map then x.swapping else x.swapping ||| BitVec.twoPow 4 p.val }) } }
    if r.1.mapTo = c.map then s3.endCalItem 1 p.val 6 (clamped.slices ≠ c.slices) else s3

/-- The ADC estimate of a pair is complete: 1,048,576 qualifying samples for every slice (R228, R242). -/
def State.adcEstimate (s : State) (p : Pair) : State :=
  let trim := s.calTask 0 p.val
  let sel := s.calTask 1 p.val && !(match s.cal.run with | some r => r.swapping.getLsbD p.val | none => false)
  if !(trim || sel) || (s.cal.est.at p).sums.any (fun x => x.n < 1048576) then s
  else
    let f := adcFound (s.cal.est.at p).sums s.symbolTime
    let c := s.cal.pair.at p
    let s0 := State.modCal { s with cal := { s.cal with est := s.cal.est.upd p (fun e => { e with sums := List.replicate 32 {}, tail := none }) } } p
      (fun x => { x with mismatch := some (c.mismatchOf f) })
    let s1 := if sel then s0.selectPair p f else s0
    if trim then s1.trimPair p f else s1

/-- The DAC estimate of a pair is complete: 4,096 probe periods (R230, R233). Unfit cells are replaced. -/
def State.dacEstimate (s : State) (p : Pair) : State :=
  if !(s.calTask 2 p.val && 4096 ≤ (s.cal.est.at p).dacN) then s
  else
    let errors := freeCellErrors (s.cal.est.at p).seen
    let c : CalPair := { s.cal.pair.at p with cellErr := (List.range 71).map (fun j => clampInt (-128) 127 (errors.getD j 0)) }
    let bad := (List.range 63).filter (fun k => 16 < (c.cellErr.getD (c.cellsTo.getD k 0) 0).natAbs)
    let r := bad.foldl (fun (x : CalPair × Bool) k =>
      match x.1.spareCell x.1.cellsTo with
      | some j => ({ x.1 with cellsTo := setAt x.1.cellsTo k j, cellRetired := x.1.cellsTo.getD k 0 :: x.1.cellRetired }, x.2)
      | none => (x.1, true)) (c, false)
    let s1 := s.modCal p (fun _ => r.1)
    let s2 : State := if r.1.cells = r.1.cellsTo then s1 else { s1 with cal := { s1.cal with echoMoving := s1.cal.echoMoving ||| BitVec.twoPow 4 p.val } }
    s2.endCalItem 2 p.val (if r.2 then 6 else if bad = [] then 2 else 1) (r.1.cellsTo ≠ c.cellsTo)

/-- Where a hybrid code goes after 1,024 probe periods: toward the side with less echo; 0 where a step back or the end of the range ends the search
(R230; DESIGN CHOICE of the search, log entry 90). -/
def PairEst.direction (e : PairEst) (code top : Nat) : Int :=
  let d : Int := if e.down < e.up then -1 else if e.up < e.down then 1 else 0
  if d = 0 || d = -e.last || (d = -1 && code = 0) || (d = 1 && code = top) then 0 else d

/-- A hybrid step of a pair is decided: a code moves, or the search goes to the next code, and after the last the item ends (R230, R240). -/
def State.hybEstimate (s : State) (p : Pair) : State :=
  let e := s.cal.est.at p
  let c := s.cal.pair.at p
  if !(s.calTask 3 p.val && 1024 ≤ e.hybN) then s
  else
    let d := if e.axis = 0 then e.direction c.hybR 255 else e.direction c.hybC 63
    let next : PairEst := { e with hybN := 0, up := 0, down := 0, dither := [], last := d, axis := if d = 0 then e.axis + 1 else e.axis }
    let s1 : State := { s with cal := { s.cal with
      est := s.cal.est.put p next, echoMoving := if d = 0 then s.cal.echoMoving else s.cal.echoMoving ||| BitVec.twoPow 4 p.val } }
    let s2 := s1.modCal p (fun x => if e.axis = 0 then { x with hybRTo := (x.hybRTo + d).toNat } else { x with hybCTo := (x.hybCTo + d).toNat })
    if next.axis < 2 then s2
    else let moved := (c.hybR, c.hybC) ≠ e.start; s2.endCalItem 3 p.val (if moved then 1 else 2) moved

/-- A DIELINK estimate (R234): direction, physical lane, eye in ps, phase of the eye's centre. -/
def State.dielinkEstimate (s : State) (lanes : List (Bool × Nat × Nat × Int)) : State :=
  if !s.calTask 4 4 then s
  else
    let s1 := lanes.foldl (fun st x =>
      let old := (st.dir x.1).lanes.getD x.2.1 {}
      let mapped := old.logical < 24
      let st1 := st.modDir x.1 (fun d => { d with lanes := modAt d.lanes x.2.1 (fun l => { l with
        eye := min 255 x.2.2.1, phaseTo := if mapped then clampInt (-32) 32 x.2.2.2 else l.phaseTo, phaseHeld := if mapped then none else l.phaseHeld }) })
      if mapped && x.2.2.1 < 25 then st1.laneCause x.1 x.2.1 3 else st1) s
    let moved := (s1.dl.outb.lanes ++ s1.dl.inb.lanes).any (fun l => 1 < (l.phaseTo - l.phase).natAbs)
    s1.endCalItem 4 4 (if moved then 1 else 2) moved

/-- CAL_ESTIMATE_DONE (R228, R233, R234): an estimate that has what it needs takes effect. -/
def execCalEstimateDone (e : CalEst) (s : State) : Host.Outcome State Fault Refusal :=
  .next <| match e with
    | .adc p => s.adcEstimate p
    | .dac p => s.dacEstimate p
    | .hybrid p => s.hybEstimate p
    | .dielink lanes => s.dielinkEstimate lanes

/-- SLICE_SHADOW_DONE: the incoming slice's trims are set and the crossfade begins (R236). -/
def execSliceShadowDone (p : Pair) (o g k : Int) (s : State) : Host.Outcome State Fault Refusal :=
  .next <| match (s.cal.pair.at p).swap with
    | some w =>
      if w.alpha.isSome then s
      else s.modCal p (fun c => { c with
        swap := some { w with alpha := some 0 }
        slices := modAt c.slices w.inc (fun x =>
          let a := clampInt (-2048) 2048 o
          let b := clampInt (-1024) 1024 g
          let d := clampInt (-160) 160 k
          { x with offset := a, offsetTo := a, gain := b, gainTo := b, skew := d, skewTo := d }) })
    | none => s

/-- CAL_NO_ENGINE: the item in turn has found no engine for 10 ms (R231). -/
def execCalNoEngine (s : State) : Host.Outcome State Fault Refusal :=
  .next <| match s.cal.run with
    | none => s
    | some r =>
      match r.left with
      | [] => s
      | (i, _) :: _ =>
        if s.backgroundEngine then s
        else
          let rest := r.left.filter (fun x => x.1 ≠ i)
          let s1 : State := { s with cal := { s.cal with run := some { r with left := rest, results := setAt r.results i 5 } } }
          if rest = [] then s1.finishCal else s1

/-- CAL_TIMEOUT: MAX_MS is reached (R240). -/
def execCalTimeout (s : State) : Host.Outcome State Fault Refusal := .next (s.endCalItems 7 (fun _ => true))

/-! ### The blob (R243 to R247) -/

/-- A pair section (Table 7-5). -/
def CalPair.section (c : CalPair) (p : Nat) : List Byte :=
  packBytes 16 [(8, p), (8, 0), (16, match c.mismatch with | some m => ofInt 16 m | none => 0x8000), (16, c.hybR), (16, c.hybC)]
    ++ fitBytes 32 (c.map.map (BitVec.ofNat 8))
    ++ (List.range 36).flatMap (fun k => let x := c.slice k; packBytes 8 [(16, ofInt 16 x.offset), (16, ofInt 16 x.gain), (16, ofInt 16 x.skew), (8, x.state)])
    ++ fitBytes 63 (c.cells.map (BitVec.ofNat 8)) ++ [0xFF]
    ++ fitBytes 72 (c.cellErr.map (fun e => BitVec.ofNat 8 (ofInt 8 e))) ++ List.replicate 8 0

/-- The lane records of the blob. -/
def laneRecords (ls : List Lane) : List Byte := ls.zipIdx.flatMap (fun x => packBytes 4 [(8, x.2), (8, x.1.logical), (8, ofInt 8 x.1.phase), (8, x.1.eye)])

/-- Line-die temperature, 0.1 °C (R416). -/
def State.lineTemp (s : State) : Int := max (s.ben.temps.getD 0 0) (s.ben.temps.getD 1 0)

/-- The blob of the values in force, 2,196 bytes (Table 7-4). -/
def State.calBlob (s : State) (gen : Nat) : List Byte :=
  let head := packBytes 16 [(32, 0x42435157), (16, 1), (16, 64), (32, 2196), (8, s.fuse.part.code), (8, b2n s.settling),
    (8, if s.inKnuckle then s.kn.shed.val else 0xFF), (8, 0)]
    ++ fitBytes 16 s.fuse.serial
    ++ packBytes 32 [(32, s.runSlot.fwver), (16, ofInt 16 s.lineTemp), (16, 0), (32, gen), (8, s.link.mode.getD 0xF)]
  let body := head ++ pairs.flatMap (fun p => (s.cal.pair.at p).section p.val) ++ laneRecords s.dl.outb.lanes ++ laneRecords s.dl.inb.lanes
  body ++ leBytes 4 (crc32 body)

/-- The request fields of CAL_EXPORT and CAL_IMPORT are in form. -/
def calBufferOk (c : Capsule) (used : List (Nat × Nat)) : Bool :=
  c.fieldsOk used && c.arg 32 8 < 2 ^ 41 && c.arg 32 8 % 64 = 0 && 2240 ≤ c.arg 40 4

/-- CAL_EXPORT (R243). -/
def execCalExport (tag : BitVec 16) (s : State) : Host.Outcome State Fault Refusal :=
  .next <| s.runRequest tag 0x51 fun q s =>
    let a := q.cap.arg 32 8
    let g := q.cap.arg 44 4
    s.guarded q [(q.cap.len ≠ 0, .lenRange), (!s.ready .line, .notReady), (!calBufferOk q.cap [(32, 16)], .range)] [(32, s.cal.gen)] fun s =>
      match s.bufferFault a 2240 true with
      | some k => (s.windowFault 1001 a k).finish q .windowFault [(32, s.cal.gen)] []
      | none =>
        let s1 := s.writeLines a 35 (s.calBlob g ++ List.replicate 44 0)
        State.finish { s1 with cal := { s1.cal with dirty := false, gen := g } } q .ok [(32, g)] []

/-- The section of a pair in a blob. -/
def blobPair (b : List Byte) (p : Nat) : List Byte := (b.drop (64 + 480 * p)).take 480

/-- A signed field. -/
def leSigned (b : List Byte) (pos n : Nat) : Int := toInt (8 * n) (leAt b pos n)

/-- Every field of a pair section lies in its range. -/
def pairRange (c : List Byte) : Bool :=
  leAt c 0 1 < 4 && leAt c 4 2 < 256 && leAt c 6 2 < 64 && ((c.drop 16).take 32).all (fun x => x.toNat < 36) &&
    (List.range 36).all (fun k => let r := c.drop (48 + 8 * k)
      (leSigned r 0 2).natAbs ≤ 2048 && (leSigned r 2 2).natAbs ≤ 1024 && (leSigned r 4 2).natAbs ≤ 160 && leAt r 6 1 ≤ 2) &&
    ((c.drop 336).take 63).all (fun x => x.toNat < 71) && leAt c 399 1 = 0xFF

/-- A list without repeats. -/
def distinct (l : List Nat) : Bool := l.eraseDups.length = l.length

/-- Maps name distinct elements, and exactly the mapped slices have STATE 0. -/
def pairMaps (c : List Byte) (p : Nat) : Bool :=
  let m := ((c.drop 16).take 32).map (·.toNat)
  leAt c 0 1 = p && distinct m && (List.range 36).all (fun k => (leAt c (54 + 8 * k) 1 = 0) = m.contains k) &&
    distinct (((c.drop 336).take 63).map (·.toNat))

/-- Reserved bytes of a pair section. -/
def pairReserved (c : List Byte) : Bool :=
  leAt c 1 1 = 0 && leAt c 8 8 = 0 && (List.range 36).all (fun k => leAt c (55 + 8 * k) 1 = 0) && leAt c 471 1 = 0 && leAt c 472 8 = 0

/-- The first check of Table 7-7 that a blob fails. -/
def State.blobReject (s : State) (b : List Byte) : Option Nat :=
  let ps := (List.range 4).map (blobPair b)
  let lane := fun (k : Nat) => b.drop (1984 + 4 * k)
  let checks : List (Bool × Nat) := [
    (leAt b 0 4 = 0x42435157 && leAt b 4 2 = 1 && leAt b 6 2 = 64 && leAt b 8 4 = 2196, 1),
    (leAt b 2192 4 = crc32 (b.take 2192), 2),
    (leAt b 12 1 = s.fuse.part.code, 3),
    ((b.drop 16).take 16 = fitBytes 16 s.fuse.serial, 4),
    (ps.all pairRange && (leAt b 14 1 < 4 || leAt b 14 1 = 0xFF) && (leAt b 44 1 < 8 || leAt b 44 1 = 0xF) &&
      (List.range 52).all (fun k => leAt (lane k) 0 1 < 26 && (leAt (lane k) 1 1 < 24 || 0xFE ≤ leAt (lane k) 1 1) && (leSigned (lane k) 2 1).natAbs ≤ 32), 5),
    (ps.zipIdx.all (fun x => pairMaps x.1 x.2) && (List.range 52).all (fun k => leAt (lane k) 0 1 = k % 26), 6),
    (leAt b 13 1 < 2 && leAt b 15 1 = 0 && leAt b 38 2 = 0 && leAt b 45 19 = 0 && ps.all pairReserved, 7)]
  (checks.find? (fun c => !c.1)).map (·.2)

/-- A pair section becomes a pair's targets. -/
def CalPair.import (c : CalPair) (b : List Byte) : CalPair :=
  let m := ((b.drop 16).take 32).map (·.toNat)
  let cells := ((b.drop 336).take 63).map (·.toNat)
  let dead := fun (k : Nat) => decide ((c.slice k).state = 2)
  let map := importMap c.map m dead (List.range 36)
  { c with
    mapTo := map
    slices := c.slices.zipIdx.map (fun x =>
      let r := b.drop (48 + 8 * x.2)
      if x.1.state = 2 then x.1
      else { x.1 with
        offsetTo := leSigned r 0 2, gainTo := leSigned r 2 2, skewTo := leSigned r 4 2
        stateTo := if map.contains x.2 then 0 else if leAt r 6 1 = 2 then 2 else 1 })
    cellsTo := importMap c.cells cells c.cellRetired.contains (List.range 71)
    cellErr := (List.range 71).map (fun j => leSigned b (400 + j) 1)
    hybRTo := leAt b 4 2, hybCTo := leAt b 6 2 }

/-- A blob makes an element active that is retired now. -/
def CalPair.importPartial (c : CalPair) (b : List Byte) : Bool :=
  ((b.drop 16).take 32).any (fun k => (c.slice k.toNat).state = 2) || ((b.drop 336).take 63).any (fun k => c.cellRetired.contains k.toNat)

/-- Lane phases of an import: only where LOGICAL agrees. -/
def importLanes (ls : List Lane) (b : List Byte) (pos : Nat) : List Lane :=
  ls.zipIdx.map (fun x => if leAt b (pos + 4 * x.2 + 1) 1 = x.1.logical then { x.1 with phaseHeld := some (leSigned b (pos + 4 * x.2 + 2) 1) } else x.1)

/-- Set the targets of an accepted blob (R246, R247): at once in link states 0 to 2, in detents in T5, else held. -/
def State.applyBlob (s : State) (b : List Byte) : State :=
  let part := pairs.any (fun p => (s.cal.pair.at p).importPartial (blobPair b p.val))
  let t := leSigned b 36 2
  let free := s.link.state ≤ 2 || s.nativeData
  let s1 : State := { s with
    cal := { s.cal with
      pair := if free then s.cal.pair.mapIdx (fun p c => s.release (c.import (blobPair b p.val))) else s.cal.pair
      heldTargets := if free then none else some (some b)
      dirty := false, partialImport := part, fwDiff := leAt b 32 4 ≠ s.runSlot.fwver, tempDiff := 400 < (t - s.lineTemp).natAbs
      reject := 0, gen := leAt b 40 4 }
    dl := { s.dl with
      outb := { s.dl.outb with lanes := importLanes s.dl.outb.lanes b 1984 }, inb := { s.dl.inb with lanes := importLanes s.dl.inb.lanes b 2088 } } }
  s1.lanePhases 0

/-- One timeline period of calibration: held targets, detents and lane phases; all pause in a fast retrain and a Knuckle countdown (R235, R239, R247). -/
def State.calTick (s : State) : State :=
  let n := framesIn (s.eng.period - 1 - s.dl.cyclePeriod) (periodNs s.link.mode)
  let s1 := (s.lanePhases n).takeHeld (fun c p b => c.import (blobPair b p.val))
  if s1.detentsPause then s1 else s1.detents

/-- CAL_IMPORT: `bytes` is what the window holds (R246, R247); while a CAL_RUN or a DIAG_TDR runs it is held in its place (R269). -/
def execCalImport (tag : BitVec 16) (bytes : List Byte) (s : State) : Host.Outcome State Fault Refusal :=
  .next <| if s.cal.run.isSome || s.diag.run.isSome then s else s.runRequest tag 0x52 fun q s =>
    let a := q.cap.arg 32 8
    s.guarded q [(q.cap.len ≠ 0, .lenRange), (!s.ready .line, .notReady), (!calBufferOk q.cap [(32, 12)], .range)] [] fun s =>
      match s.bufferFault a 2240 false with
      | some k => (s.windowFault 1001 a k).finish q .windowFault [] []
      | none =>
        let b := fitBytes 2196 bytes
        match s.blobReject b with
        | some n => State.finish { s with cal := { s.cal with reject := n } } q .range [(32, 0), (8, n)] []
        | none => (s.applyBlob b).finish q .ok [(32, leAt b 40 4)] []

/-! ### Objects 0x0300 to 0x0302 (R257 to R259) -/

/-- CAL_CTL. -/
def State.calCtlImage (s : State) : List (Nat × Nat) := [(1, b2n s.cal.probeData), (63, 0)]

/-- CAL_STATUS. -/
def State.calStatusImage (s : State) : List (Nat × Nat) :=
  let c := s.cal
  [(1, b2n c.run.isSome), (1, b2n s.settling), (1, b2n c.dirty), (1, b2n c.partialImport), (1, b2n c.fwDiff), (1, b2n c.tempDiff), (2, 0),
   (4, c.reject)] ++ c.results.map (fun r => (3, r)) ++ [(5, 0), (32, c.gen)]

/-- CAL_PAIR. -/
def State.calPairImage (s : State) : List (Nat × Nat) :=
  pairs.flatMap (fun p =>
    let c := s.cal.pair.at p
    [(16, match c.mismatch with | some m => ofInt 16 m | none => 0x8000), (36, ofBools (c.slices.map (fun x => x.state = 0))),
     (4, (c.slices.filter (fun x => x.state = 1 && !x.unfit)).length), (1, b2n c.noSpare), (7, 0),
     (8, ((List.range 71).filter (fun j => !c.cells.contains j && !c.cellRetired.contains j)).length), (8, c.hybR), (6, c.hybC), (10, 0), (16, c.swaps), (16, 0)])

end Sys2Proof.Machine
end

