-- ==== Sys2Proof/Machine/Keyway.lean ====
section
/-! DEFINITION. Keyway: registers, windows, rings, capsules, completions and received frames (10_keyway_host_attachment). -/

namespace Sys2Proof.Machine

/-! ### Submissions -/

/-- The MSI-X vector of a ring (R331). -/
def ringVector (i : Nat) : Nat := if i = controlRing then 1000 else i

/-- FP_FAULT_INFO.SOURCE of a ring is its number (Table 10-8). A ring exists for flows 0 to 999 and for control. -/
def ringExists (i : Nat) : Bool := i < 1000 || i = controlRing

/-- Signal a ring's vector, spaced by IRQ_HOLDOFF (R334). -/
def State.signalRing (s : State) (i : Nat) : State :=
  let r := s.ring i
  let soon := match r.lastSignal with
    | some t => decide (s.time < t + 1000 * r.irqHoldoff)
    | none => false
  if soon then s.modRing i (fun r => { r with signalDue := true })
  else (s.modRing i (fun r => { r with lastSignal := some s.time })).signalVector (ringVector i)

/-- Bytes that a ring's completions placed and its open RECV_MULTI hold in the receive staging buffer are free (R343). -/
def State.freeStaging (s : State) (i : Nat) : State :=
  let r := s.ring i
  let n := sumNat (r.placed.map (·.staged)) + (match r.multi with | some m => sumNat (m.frames.map (fun f => f.1.length)) | none => 0)
  { s with kw := { s.kw with stagingUsed := s.kw.stagingUsed - n } }

/-- Completions written and not observed are forgotten, with what they hold in the receive staging buffer. -/
def State.forgetWritten (s : State) (i : Nat) : State :=
  let n := sumNat ((s.ring i).written.map (·.staged))
  State.modRing { s with kw := { s.kw with stagingUsed := s.kw.stagingUsed - n } } i (fun r => { r with written := [] })

/-- Halt a ring (R332): with FAULT 3 what is placed is given up. -/
def State.haltRing (s : State) (i code : Nat) : State :=
  let lost := (s.ring i).placed.length + b2n (s.ring i).multi.isSome
  let s0 := if code = 3 then (s.freeStaging i).modRing i (fun r => { r with placed := [], multi := none }) else s
  let s1 := s0.modRing i (fun r => { r with halted := true, fault := code, noticeDue := code ≠ 3, lastSignal := some s.time })
  let s2 := if code = 3 then s1.doneLost lost else s1
  let s3 := s2.modKwCnt (fun c => { c with ringFaults := inc 32 c.ringFaults })
  let s4 := if i = controlRing then s3 else s3.modStats i (fun t => { t with ringFaults := inc 16 t.ringFaults })
  (s4.signalVector (ringVector i)).raiseEvent evKeyway

/-- A frame length that fits (R338). -/
def frameFits (e len : Nat) : Bool := 14 ≤ len && len + e + 4 ≤ 16000

/-- Bytes of a record of a multi-frame payload: sub-header, frame and padding (R337). -/
def recordLen (flen : Nat) : Nat := (8 + flen + 7) / 8 * 8

/-- The frames of a SEND_MULTI payload, when its records fill it exactly (R337, Table 10-17). -/
def splitRecords : Nat → List Byte → Option (List (List Byte))
  | 0, bs => if bs = [] then some [] else none
  | n + 1, bs =>
    let flen := leAt bs 0 2
    if bs.length < recordLen flen then none
    else match splitRecords n (bs.drop (recordLen flen)) with
      | some fs => some ((bs.drop 8).take flen :: fs)
      | none => none

end Sys2Proof.Machine

namespace Sys2Proof
open Machine

/-- Frames of a capsule on a flow ring, by opcode; none: the lengths are wrong. -/
def Capsule.frames (c : Capsule) : Option (List (List Byte)) :=
  match c.opcode.toNat with
  | 0x01 => if c.fcount = 0 then some [c.payload.take c.len] else none
  | 0x02 => splitRecords (c.fcount + 1) (c.payload.take c.len)
  | 0x03 => if c.len = 0 then some [] else none
  | _ => some []

end Sys2Proof

namespace Sys2Proof.Machine

/-- The first failure of Table 10-17 on a flow ring. -/
def State.checkFlowCapsule (s : State) (i : Nat) (c : Capsule) : Option Status :=
  let op := c.opcode.toNat
  let e := s.wardExtra i
  let sends := op = 1 || op = 2
  firstFail [
    (!(op ≤ 3), .badOpcode),
    (c.len > 16384, .lenRange),
    (c.span ≠ spanOf c.len, .spanBad),
    (c.flowNo ≠ i || !(s.flow i).exist, .flowInvalid),
    ((match c.frames with
      | none => true
      | some fs => sends && fs.any (fun f => !frameFits e f.length)), .lenRange),
    (sends && ((s.isProtected i && !s.ready .ward) || ((s.ring i).downDiscard && !s.linkInData)), .notReady),
    (c.flags.toNat / 2 ≠ 0 || c.spanWord.toNat / 512 ≠ 0 || c.status ≠ 0 || c.args.any (fun b => b ≠ 0), .range)]

/-- The tier 1 checks of the control ring, and all of Table 10-17 for NOP and FENCE (R340). -/
def checkControlCapsule (c : Capsule) : Option Status :=
  let op := c.opcode.toNat
  let own := op = 0 || op = 3
  firstFail [
    (!(own || (0x40 ≤ op && op < 0x80)), .badOpcode),
    (c.len > 16384, .lenRange),
    (c.span ≠ spanOf c.len, .spanBad),
    (op = 3 && c.len ≠ 0, .lenRange),
    (own && (c.flags ≠ 0 || c.flowWord ≠ 0 || c.spanWord.toNat / 512 ≠ 0 || c.status ≠ 0 || c.args.any (fun b => b ≠ 0)), .range)]

/-- A refusal by Keyway: SEND_DONE with the status, and its counters (R336, R340). -/
def State.refuseCapsule (s : State) (i : Nat) (c : Capsule) (st : Status) : State :=
  let s1 := s.modKwCnt (fun k => match st with
    | .badOpcode => { k with refOpcode := inc 32 k.refOpcode }
    | .lenRange => { k with refLen := inc 32 k.refLen }
    | .spanBad => { k with refSpan := inc 32 k.refSpan }
    | .flowInvalid => { k with refFlow := inc 32 k.refFlow }
    | _ => { k with refOther := inc 32 k.refOther })
  let s2 := if i = controlRing then s1 else s1.modStats i (fun t => { t with refused := inc 16 t.refused })
  s2.complete i 0 (sendDone c.opcode.toNat (if i = controlRing then 0 else i) c.tag.toNat st 0 (s.flow i).gen none)

/-- Lines that a capsule reserves before it is taken up (R340, R355). -/
def roomOwed (i : Nat) (c : Capsule) : Nat :=
  if i = controlRing && (checkControlCapsule c).isNone && c.opcode.toNat ≥ 0x40 then
    (if c.rspan = 0 || c.rspan ≥ 258 then 2 else c.rspan + 1)
  else 1

/-- Opcodes that Cyoner assigns (Table 11-1, Table 12-14). -/
def cyonerOpcodes : List Nat :=
  [0x40, 0x41, 0x42, 0x43, 0x48, 0x49, 0x4A, 0x4B, 0x50, 0x51, 0x52, 0x53, 0x54, 0x55, 0x58, 0x59, 0x5A, 0x5B, 0x5C,
   0x60, 0x61, 0x62, 0x64, 0x65, 0x70, 0x71, 0x72]

/-- Requests outstanding at Benash (R356). -/
def Cyoner.outstanding (y : Cyoner) : List Request := y.inbox ++ y.running ++ y.held

/-- Benash takes a request: a TAG in use and an unassigned opcode complete at once (R356, R358, R407). -/
def State.takeRequest (s : State) (c : Capsule) : State :=
  let q : Request := { cap := c, room := roomOwed controlRing c }
  let s1 := s.modRing controlRing (fun r => { r with reserved := r.reserved + q.room })
  let op := c.opcode.toNat
  if op ≥ 0x70 && !s.fuse.part.ward then s1.finish q .unitAbsent [] []
  else if !cyonerOpcodes.contains op then s1.finish q .badOpcode [] []
  else if s.cyo.outstanding.any (fun o => o.cap.tag = c.tag) then s1.finish q .range [] []
  else { s1 with cyo := { s1.cyo with inbox := s1.cyo.inbox ++ [q] } }

/-- Bytes of payload in the transmit buffer, fetched capsules included (R341). -/
def State.txUsed (s : State) : Nat :=
  sumNat (s.kw.txBuf.map (·.size)) +
    sumNat (s.kw.rings.map (fun e => if e.1 = controlRing then 0 else sumNat (e.2.accepted.map (fun a => a.cap.len))))

/-- A FENCE is waiting on a ring (R341). -/
def Ring.fenced (r : Ring) : Bool :=
  r.accepted.any (fun a => a.cap.opcode = 3) || r.inflight.any (fun f => f.opcode = 3)

/-- Keyway may serve a ring now (R313, R328, R341, R342). -/
def State.mayServe (s : State) (i : Nat) : Bool :=
  let r := s.ring i
  ringExists i && r.running && s.pwr.kwUp && !s.kw.status.d3hot && !r.fenced && 64 ≤ (r.sqTail - r.sqHead).toNat &&
    (if i = controlRing then s.ready .benash && s.cyo.outstanding.length < 64
     else s.linkInData || r.downDiscard)

/-- A ring has a whole capsule to fetch, whatever its header says: it may be served, the lines of the longest capsule are rung, and there is
room for all that a capsule can want (R328, R340, R341). -/
def State.surelyWaits (s : State) (k : Nat) : Bool :=
  s.mayServe k && 64 * 257 ≤ ((s.ring k).sqTail - (s.ring k).sqHead).toNat && 64 * 258 ≤ (s.ring k).free &&
    (k = controlRing || s.txUsed + 16384 ≤ 524288)

/-- Payload bytes of a capsule, as the round counts them: at most those of the longest capsule (R341). -/
def roundLen (c : Capsule) : Nat := min c.len 16384

/-- Ring i holds the turn and its deficit still covers a payload (R341). -/
def State.keepsTurn (s : State) (i n : Nat) : Bool := s.kw.turn = some i && n ≤ (s.ring i).deficit

/-- The round lets Keyway fetch a capsule of n payload bytes from ring i: no control capsule is sure to go ahead of a flow ring, and no other
flow ring is sure to be served first, one whose turn goes on or, once i's own turn is over, one that waits (R341). -/
def State.inRound (s : State) (i n : Nat) : Bool :=
  i = controlRing ||
    (!s.surelyWaits controlRing &&
      !s.kw.rings.any (fun e => e.1 ≠ i && e.1 ≠ controlRing && s.surelyWaits e.1 &&
        (s.keepsTurn e.1 16384 || (s.kw.turn = some i && !s.keepsTurn i n))))

/-- The deficit that a fetch of n payload bytes leaves to ring i: a turn that begins adds the quantum of 16,384, and a ring left with no
submissions keeps none (R341). -/
def State.deficitAfter (s : State) (i n : Nat) (sqHead : BitVec 32) : Nat :=
  if sqHead = (s.ring i).sqTail then 0
  else (if s.keepsTurn i n then (s.ring i).deficit else (s.ring i).deficit + 16384) - n

/-- Ring i has the turn, with this deficit left. -/
def State.takeTurn (s : State) (i n : Nat) : State :=
  let s1 := s.modRing i (fun r => { r with deficit := n })
  { s1 with kw := { s1.kw with turn := some i } }

/-- Device address of line k after the byte at a counter value, in a ring. -/
def ringLine (base : BitVec 64) (log2 : Nat) (c : BitVec 32) (k : Nat) : Nat :=
  base.toNat + (c.toNat + 64 * k) % 2 ^ log2

/-- The first window fault over n lines of a ring from a counter value. -/
def State.ringFault (s : State) (base : BitVec 64) (log2 : Nat) (c : BitVec 32) (n : Nat) (wr : Bool) : Option (Nat × Nat) :=
  (List.range n).findSome? (fun k =>
    let a := ringLine base log2 c k
    let kind := s.windowKind a 64 wr
    if kind = 0 then none else some (a, kind))

/-- SUBMISSION_FETCH: serve a ring once; `c` is what host memory holds at SQ_HEAD (R328, R332, R340). -/
def execSubmissionFetch (i : Nat) (c : Capsule) (s : State) : Host.Outcome State Fault Refusal :=
  let r := s.ring i
  .next <|
    if !s.mayServe i || !s.inRound i (roundLen c) then s
    else match s.ringFault r.sqAddr r.sqLog2 r.sqHead 1 false with
    | some (a, kind) => (s.windowFault i a kind).haltRing i 2
    | none =>
      if c.span = 0 || c.span > 257 then s.haltRing i 1
      else if (r.sqTail - r.sqHead).toNat < 64 * c.span then s
      else if r.free < 64 * roomOwed i c then s
      else if i ≠ controlRing && s.txUsed + c.len > 524288 && c.len ≤ 16384 then s
      else match s.ringFault r.sqAddr r.sqLog2 r.sqHead c.span false with
      | some (a, kind) => (s.windowFault i a kind).haltRing i 2
      | none =>
        let s1 := (s.modRing i (fun r => { r with sqHead := r.sqHead + BitVec.ofNat 32 (64 * c.span) })).modKwCnt
          (fun k => { k with capsIn := inc 32 k.capsIn })
        let s2 := s1.countCapsule
        if i = controlRing then
          match checkControlCapsule c with
          | some st => s2.refuseCapsule i c st
          | none =>
            if c.opcode.toNat ≥ 0x40 then s2.takeRequest c
            else s2.modRing i (fun r => { r with accepted := r.accepted ++ [⟨c, 0, []⟩], reserved := r.reserved + 1 })
        else
          let s3 := (s2.takeTurn i (s.deficitAfter i (roundLen c) (s2.ring i).sqHead)).modStats i (fun t => { t with txCapsules := inc 32 t.txCapsules })
          match s.checkFlowCapsule i c with
          | some st => s3.refuseCapsule i c st
          | none =>
            s3.modRing i (fun r => { r with
              accepted := r.accepted ++ [⟨c, (s.flow i).gen, (s.flow i).assoc⟩]
              reserved := r.reserved + (if c.doneReq || c.opcode = 3 then 1 else 0) })

/-- The oldest capsule taken up on a ring, when it has an opcode. -/
def State.headAccepted (s : State) (i op : Nat) : Option Accepted :=
  match (s.ring i).accepted with
  | a :: _ => if a.cap.opcode.toNat = op then some a else none
  | [] => none

/-- Move the oldest capsule taken up to the capsules in flight. -/
def Ring.launch (r : Ring) (f : InFlight) : Ring :=
  { r with accepted := r.accepted.drop 1, inflight := r.inflight ++ [f] }

/-- NOP: nothing, with its SEND_DONE when owed (R336, R340). -/
def execNop (i : Nat) (s : State) : Host.Outcome State Fault Refusal :=
  .next <| match s.headAccepted i 0 with
    | none => s
    | some a => s.modRing i (fun r => r.launch
        { opcode := 0, tag := a.cap.tag.toNat, doneReq := a.cap.doneReq || i = controlRing, gen := a.gen, left := 0, sent := 0,
          stamp := none })

/-- FENCE: always owed a SEND_DONE; nothing later of the ring is taken up until it has completed (R341). -/
def execFence (i : Nat) (s : State) : Host.Outcome State Fault Refusal :=
  .next <| match s.headAccepted i 3 with
    | none => s
    | some a => s.modRing i (fun r => r.launch
        { opcode := 3, tag := a.cap.tag.toNat, doneReq := true, gen := a.gen, left := 0, sent := 0, stamp := none })

/-- Pass frames to the transmit buffer through Ward, counting those that pass (R341, R379). -/
def State.queueFrames (s : State) (i : Nat) (a : Accepted) : List (List Byte) → State × Nat
  | [] => (s, 0)
  | f :: fs =>
    let (s1, out) := s.wardTransmit i a.assoc f
    match out with
    | none => State.queueFrames s1 i a fs
    | some b =>
      let (s2, n) := State.queueFrames { s1 with kw := { s1.kw with txBuf := s1.kw.txBuf ++ [⟨i, b, f.length, a.gen⟩] } } i a fs
      (s2, n + 1)

/-- Take the frames of a capsule to the transmit buffer (R337, R341). -/
def State.sendCapsule (s : State) (i : Nat) (a : Accepted) : State :=
  let fs := (a.cap.frames).getD []
  let (s1, n) := s.queueFrames i a fs
  State.wakeCause (s1.modRing i (fun r => r.launch
    { opcode := a.cap.opcode.toNat, tag := a.cap.tag.toNat, doneReq := a.cap.doneReq, gen := a.gen, left := n, sent := 0,
      stamp := none, failed := n < fs.length })) 1

/-- SEND: the capsule's one frame is protected if needed and queued for the framer (R341). -/
def execSend (i : Nat) (s : State) : Host.Outcome State Fault Refusal :=
  .next <| match s.headAccepted i 1 with
    | none => s
    | some a => s.sendCapsule i a

/-- SEND_MULTI: the capsule's records are queued in order (R337, R341). -/
def execSendMulti (i : Nat) (s : State) : Host.Outcome State Fault Refusal :=
  .next <| match s.headAccepted i 2 with
    | none => s
    | some a => s.sendCapsule i a

/-- SEND_DONE: the oldest capsule in flight has had its last frame sent (R341); a control FENCE also waits for every
earlier request's final completion. -/
def execSendDone (i : Nat) (s : State) : Host.Outcome State Fault Refusal :=
  .next <| match (s.ring i).inflight with
    | [] => s
    | f :: rest =>
      if f.left ≠ 0 || (i = controlRing && f.opcode = 3 && s.cyo.outstanding ≠ []) then s
      else
        let s1 := s.modRing i (fun r => { r with inflight := rest })
        if f.doneReq then
          s1.complete i 1 (sendDone f.opcode (if i = controlRing then 0 else i) f.tag
            (if f.failed then .notReady else .ok) f.sent f.gen f.stamp)
        else s1

/-! ### Front Panel registers -/

/-- Front Panel registers answer writes: no reset of the CXL side or of the core stands in the way (R302). -/
def State.fpLive (s : State) : Bool :=
  !s.pwr.porHeld && !s.pwr.warmHeld && !s.pwr.perst && !s.pwr.cxlHeld && s.pwr.coreSince.isNone && !s.pwr.afterCore

/-- A write of FP_EVENT: W1C; vector 1,002 again while an enabled flag stays set (R318). -/
def State.writeEvent (s : State) (v : BitVec 32) : State :=
  if !s.fpLive then s else
    let e := s.fp.event &&& ~~~(v.truncate 13)
    let s1 := s.setFp (fun f => { f with event := e })
    if e &&& s.fp.eventEn ≠ 0 then s1.signalGeneral else s1

/-- FP_EVENT_WRITE (R318). -/
def execFpEventWrite (v : BitVec 32) (s : State) : Host.Outcome State Fault Refusal := .next (s.writeEvent v)

/-- A write of FP_EVENT_EN: vector 1,002 when a bit newly set has its flag at 1 (R318). -/
def State.writeEventEn (s : State) (v : BitVec 32) : State :=
  if !s.fpLive then s else
    let en := v.truncate 13
    let s1 := s.setFp (fun f => { f with eventEn := en })
    if en &&& ~~~s.fp.eventEn &&& s.fp.event ≠ 0 then s1.signalGeneral else s1

/-- FP_EVENT_EN_WRITE (R318). -/
def execFpEventEnWrite (v : BitVec 32) (s : State) : Host.Outcome State Fault Refusal := .next (s.writeEventEn v)

/-- Read n 16-bit RC counters from index k on and clear them. -/
def readCounters (t : Sparse Nat) (k n : Nat) : Nat × Sparse Nat :=
  (packNat ((List.range n).map (fun j => (16, sget 0 t (k + j)))),
   (List.range n).foldl (fun acc j => sset 0 acc (k + j) 0) t)

/-- FP_EVENT_CNT_READ: a 32-bit (two counters) or 64-bit (four) read of the event counters, which clears them (R318). -/
def execFpEventCntRead (word : Nat) (wide : Bool) (s : State) : Host.Outcome State Fault Refusal :=
  .next <| if !s.fpLive || word ≥ 8 || (wide && word % 2 = 1) then s.emit (.regRead 0) else
    let (v, t) := readCounters s.fp.eventCnt (2 * word) (if wide then 4 else 2)
    (s.setFp (fun f => { f with eventCnt := t })).emit (.regRead v)

/-- A write of FP_NME_STATUS: W1C; vector 1,001 again while any bit stays set (R319). -/
def State.writeNme (s : State) (v : BitVec 32) : State :=
  if !s.fpLive then s else
    let e := s.fp.nme &&& ~~~(v.truncate 7)
    let s1 := s.setFp (fun f => { f with nme := e })
    if e ≠ 0 then s1.signalVector 1001 else s1

/-- FP_NME_STATUS_WRITE (R319). -/
def execFpNmeStatusWrite (v : BitVec 32) (s : State) : Host.Outcome State Fault Refusal := .next (s.writeNme v)

/-- FP_NME_CNT_READ: as FP_EVENT_CNT_READ for the non-maskable event counters (R319). -/
def execFpNmeCntRead (word : Nat) (wide : Bool) (s : State) : Host.Outcome State Fault Refusal :=
  .next <| if !s.fpLive || word ≥ 4 || (wide && word % 2 = 1) then s.emit (.regRead 0) else
    let (v, t) := readCounters s.fp.nmeCnt (2 * word) (if wide then 4 else 2)
    (s.setFp (fun f => { f with nmeCnt := t })).emit (.regRead v)

/-- FP_FAULT_INFO_READ: COUNT clears (R322, R16). -/
def execFpFaultInfoRead (s : State) : Host.Outcome State Fault Refusal :=
  .next <| if !s.fpLive then s.emit (.regRead 0) else
    (s.setFp (fun f => { f with faultCount := 0 })).emit
      (.regRead (packNat [(10, s.fp.faultSource), (3, s.fp.faultKind), (3, 0), (16, s.fp.faultCount)]))

/-- FP_STATE_ADDR: EN and PAGE (R321, Table 10-7). -/
def State.writeStateAddr (s : State) (v : BitVec 64) : State :=
  s.setFp (fun f => { f with pageEn := v.getLsbD 0, pageAddr := bitsAt v.toNat 12 29 })

/-- FP_STATE_ADDR_WRITE: a 64-bit write; the page is used from the next epoch on (R321). -/
def execFpStateAddrWrite (v : BitVec 64) (s : State) : Host.Outcome State Fault Refusal :=
  .next <| if !s.fpLive then s else s.writeStateAddr v

/-- Writable bits of a window entry's words (Table 10-9). -/
def windowMask : BitVec 64 := 0xFFFFFFFFFFFFF01F

/-- One access to a window entry: low or high word, and the bits of it that the access carries (R323). -/
def Window.write (w : Window) (high : Bool) (carry v : BitVec 64) : Window :=
  if w.en then
    if !high && carry.getLsbD 0 && !v.getLsbD 0 then { w with lo := w.lo &&& ~~~1 } else w
  else if high then { w with hi := ((w.hi &&& ~~~carry) ||| (v &&& carry)) &&& 0xFFFFFF }
  else
    let lo := ((w.lo &&& ~~~carry) ||| (v &&& carry)) &&& windowMask
    let w1 : Window := { w with lo := lo &&& ~~~1 }
    if lo.getLsbD 0 && 1 ≤ w1.size && w1.size ≤ 8388608 && w1.base + w1.size * 4096 ≤ 2 ^ 64 then { w1 with lo := lo } else w1

/-- Bits carried by an access at byte offset 0 or 4 of a 64-bit word. -/
def carried (off : Nat) (wide : Bool) (v : BitVec 64) : BitVec 64 × BitVec 64 :=
  if wide then (BitVec.allOnes 64, v)
  else if off % 8 = 0 then (0xFFFFFFFF, v &&& 0xFFFFFFFF)
  else (0xFFFFFFFF00000000, v <<< 32)

/-- A naturally aligned 32-bit or 64-bit access (R315). -/
def aligned (off : Nat) (wide : Bool) : Bool := if wide then off % 8 = 0 else off % 4 = 0

/-- A write into the Host Window Table. -/
def State.writeWindow (s : State) (w off : Nat) (wide : Bool) (v : BitVec 64) : State :=
  let (carry, x) := carried off wide v
  s.setFp (fun f => { f with windows := smod {} f.windows w (fun e => e.write (off ≥ 8) carry x) })

/-- WINDOW_WRITE: window number, byte offset in its entry, width and value (R323). -/
def execWindowWrite (w off : Nat) (wide : Bool) (v : BitVec 64) (s : State) : Host.Outcome State Fault Refusal :=
  .next <| if !s.fpLive || w ≥ 64 || off ≥ 16 || !aligned off wide then s else s.writeWindow w off wide v

/-! ### Ring registers and doorbells -/

/-- Address of a ring register masked to its bits [40:6]. -/
def ringAddrMask : BitVec 64 := 0x1FFFFFFFFC0

/-- Two device address ranges overlap. -/
def overlap (a n b m : Nat) : Bool := a < b + m && b < a + n

/-- Checks of a write that sets EN (R326). -/
def State.mayEnable (s : State) (r : Ring) : Bool :=
  let inWin := fun (a n : Nat) (wr : Bool) =>
    let w := sget {} s.fp.windows (a / 2 ^ 35 % 64)
    w.en && a % 2 ^ 35 + n ≤ w.size * 4096 && (if wr then w.wr else w.rd)
  s.ready .keyway && 16 ≤ r.sqLog2 && r.sqLog2 ≤ 30 && 16 ≤ r.cqLog2 && r.cqLog2 ≤ 30 &&
    inWin r.sqAddr.toNat (2 ^ r.sqLog2) false && inWin r.cqAddr.toNat (2 ^ r.cqLog2) true &&
    !overlap r.sqAddr.toNat (2 ^ r.sqLog2) r.cqAddr.toNat (2 ^ r.cqLog2)

/-- Fields of the word at 0x10 that may be written at any time (R326); the control ring has only IRQ_HOLDOFF (R325). -/
def Ring.writeLive (r : Ring) (i v : Nat) : Ring :=
  { r with
    earlyHead := i ≠ controlRing && bitAt v 17
    rxMulti := i ≠ controlRing && bitAt v 18
    downDiscard := i ≠ controlRing && bitAt v 19
    irqHoldoff := bitsAt v 24 8 }

/-- A ring pair that starts: counters 0, CQ_SEQ at SEQ_BASE (R326). Frames of before a PERST# are still sent (R301). -/
def Ring.start (r : Ring) : Ring :=
  { r with
    en := true, halted := false, fault := 0, sqTail := 0, sqHead := 0, cqTail := 0, cqHead := 0, cqSeq := r.seqBase
    reserved := 0, placed := [], written := [], noticeDue := false, multi := none, deficit := 0 }

/-- Set EN: check the rings and start the pair, or read FAULT 4 (R326). -/
def State.enableRing (s : State) (i v : Nat) : State :=
  let r := s.ring i
  if r.en then s.modRing i (fun r => r.writeLive i v)
  else
    let r1 := { r.writeLive i v with sqLog2 := bitsAt v 0 5, cqLog2 := bitsAt v 8 5 }
    if s.mayEnable r1 then
      ((s.forgetWritten i).modRing i (fun _ => r1.start)).modFlow i
        (fun f => if i = controlRing then f else { f with heldOver := false })
    else s.modRing i (fun _ => { r1 with fault := 4 })

/-- Completions that a ring gives up when it stops (R329). -/
def Ring.owed (r : Ring) : Nat :=
  r.placed.length + (r.inflight.filter (·.doneReq)).length +
    (r.accepted.filter (fun a => a.cap.doneReq || a.cap.opcode = 3)).length + (if r.multi.isSome then 1 else 0)

/-- Frames of a ring that wait in the transmit buffer or in fetched capsules. -/
def State.framesWaiting (s : State) (i : Nat) : Nat :=
  (s.kw.txBuf.filter (fun f => f.ring = i)).length +
    sumNat ((s.ring i).accepted.map (fun a => ((a.cap.frames).getD []).length))

/-- Capsules of which k frames are at the framer: these are sent, and nothing else of them is left (R329). -/
def atFramer : List InFlight → Nat → List InFlight
  | [], _ => []
  | f :: t, k =>
    let n := min f.left k
    if n = 0 then atFramer t k else { f with left := n, doneReq := false } :: atFramer t (k - n)

/-- What stopping a ring pair does beside EN itself (R329). -/
def State.stopRing (s : State) (i : Nat) : State :=
  let n := s.framesWaiting i
  let k := s.lc.run.framesOf i
  let s1 := (s.freeStaging i).doneLost (s.ring i).owed
  let s2 : State := { s1 with
    kw := { s1.kw with txBuf := if i = controlRing then s1.kw.txBuf else s1.kw.txBuf.filter (fun f => f.ring ≠ i) }
    cyo := if i = controlRing then
        { inbox := s1.cyo.inbox.map (fun q => { q with fate := .stopped })
          running := s1.cyo.running.map (fun q => { q with fate := .stopped })
          held := s1.cyo.held.map (fun q => { q with fate := .stopped })
          ended := s1.cyo.ended.map (fun e => ({ e.1 with fate := .stopped }, e.2)) }
      else s1.cyo }
  let s3 := if i = controlRing then s2 else s2.modStats i (fun t => { t with txDiscard := satAdd 16 t.txDiscard n })
  s3.modRing i (fun r => { r with
    accepted := [], inflight := atFramer r.inflight k, placed := [], multi := none, reserved := 0, noticeDue := false, signalDue := false, deficit := 0 })

/-- Clear EN (R329). -/
def State.disableRing (s : State) (i v : Nat) : State :=
  let r := s.ring i
  if r.en then (s.stopRing i).modRing i (fun r => { r.writeLive i v with en := false })
  else s.modRing i (fun r => { r.writeLive i v with sqLog2 := bitsAt v 0 5, cqLog2 := bitsAt v 8 5 })

/-- RING_ENABLE: a write of the word at 0x10 of a ring register entry with EN 1 (R326). -/
def execRingEnable (i : Nat) (v : BitVec 32) (s : State) : Host.Outcome State Fault Refusal :=
  .next <| if s.fpLive && ringExists i && v.getLsbD 16 then s.enableRing i v.toNat else s

/-- RING_STOP: a write of the word at 0x10 with EN 0 (R329). -/
def execRingStop (i : Nat) (v : BitVec 32) (s : State) : Host.Outcome State Fault Refusal :=
  .next <| if s.fpLive && ringExists i && !v.getLsbD 16 then s.disableRing i v.toNat else s

/-- A doorbell that fails is ignored and counted (R328). -/
def State.badDoorbell (s : State) (i : Nat) : State :=
  let s1 := s.modKwCnt (fun k => { k with dbBad := inc 32 k.dbBad })
  State.raiseEvent (if i = controlRing then s1 else s1.modStats i (fun t => { t with dbBad := inc 16 t.dbBad })) evKeyway

/-- Doorbell writes reach a ring: its page exists, EN is 1 and it is not resetting (R302, R327). -/
def State.doorbellLive (s : State) (i : Nat) : Bool :=
  s.fpLive && ringExists i && (s.ring i).en && !(s.ring i).resetting

/-- A write of SQ_TAIL (R328). -/
def State.writeSqTail (s : State) (i : Nat) (v : BitVec 32) : State :=
  let r := s.ring i
  if !s.doorbellLive i then s
  else if v.toNat % 64 = 0 && (r.sqTail - r.sqHead).toNat ≤ (v - r.sqHead).toNat && (v - r.sqHead).toNat ≤ 2 ^ r.sqLog2 then
    s.modRing i (fun r => { r with sqTail := v })
  else s.badDoorbell i

/-- A write of CQ_HEAD (R328). -/
def State.writeCqHead (s : State) (i : Nat) (v : BitVec 32) : State :=
  let r := s.ring i
  if !s.doorbellLive i then s
  else if v.toNat % 64 = 0 && (r.cqTail - v).toNat ≤ (r.cqTail - r.cqHead).toNat then
    s.modRing i (fun r => { r with cqHead := v })
  else s.badDoorbell i

/-- A write of the doorbell page's RESET (R330). -/
def State.resetRing (s : State) (i : Nat) : State :=
  if !s.doorbellLive i then s
  else ((s.stopRing i).forgetWritten i).modRing i (fun r =>
    { r with sqTail := 0, sqHead := 0, cqTail := 0, cqHead := 0, halted := false, fault := 0 })

/-- SQ_TAIL_WRITE (R328). -/
def execSqTailWrite (i : Nat) (v : BitVec 32) (s : State) : Host.Outcome State Fault Refusal := .next (s.writeSqTail i v)

/-- CQ_HEAD_WRITE (R328). -/
def execCqHeadWrite (i : Nat) (v : BitVec 32) (s : State) : Host.Outcome State Fault Refusal := .next (s.writeCqHead i v)

/-- RING_RESET: RESET bit of the doorbell page (R330). -/
def execRingReset (i : Nat) (s : State) : Host.Outcome State Fault Refusal := .next (s.resetRing i)

/-- A write to a ring register entry at a byte offset; offset 0x10 carries EN. -/
def State.writeRingReg (s : State) (i off : Nat) (wide : Bool) (v : BitVec 64) : State :=
  let (carry, x) := carried off wide v
  let merge := fun (old : BitVec 64) => ((old &&& ~~~carry) ||| (x &&& carry)) &&& ringAddrMask
  if off < 8 then s.modRing i (fun r => if r.en then r else { r with sqAddr := merge r.sqAddr })
  else if off < 16 then s.modRing i (fun r => if r.en then r else { r with cqAddr := merge r.cqAddr })
  else if off = 16 then
    if v.getLsbD 16 then s.enableRing i (v.toNat % 2 ^ 32) else s.disableRing i (v.toNat % 2 ^ 32)
  else if off = 24 then s.modRing i (fun r => if r.en then r else { r with seqBase := v.truncate 32 })
  else s

/-- A write to the MSI-X table (R315): address, data and the mask bit of an entry; a pending vector is sent once unmasked. -/
def State.writeMsix (s : State) (off : Nat) (wide : Bool) (v : BitVec 64) : State :=
  let (carry, x) := carried off wide v
  let k := off / 16
  let s1 := s.setFp (fun f => { f with msix := smod {} f.msix k (fun e =>
    if off % 16 < 8 then { e with addr := ((e.addr &&& ~~~carry) ||| (x &&& carry)) &&& ~~~3 }
    else { e with
      data := if carry.getLsbD 0 then x.truncate 32 else e.data
      masked := if carry.getLsbD 32 then x.getLsbD 32 else e.masked }) })
  let e := sget {} s1.fp.msix k
  if e.pending && !e.masked then
    (s1.setFp (fun f => { f with msix := sset {} f.msix k { e with pending := false } })).signalVector k
  else s1

/-- EH_ACTIVE of a flow's ring (R345, R375). -/
def State.ehActive (s : State) (i : Nat) : Bool :=
  (s.ring i).earlyHead && !(s.isProtected i && s.wardApproved)

/-- H2D_SNOOP: answered RspIHitI (R312). -/
def execH2dSnoop (s : State) : Host.Outcome State Fault Refusal :=
  .next (if s.kw.status.linkUp then s.emit .rspIHitI else s)

/-- A completion waits to be written. -/
def State.completionWaiting (s : State) : Bool := s.kw.rings.any (fun e => e.2.placed ≠ [] || e.2.noticeDue)

/-- WAKE_ASSERT: in D3hot with PME_En set a waiting completion asserts WAKE#; D0 releases it (R313). -/
def State.wakeAssert (s : State) : State :=
  { s with kw := { s.kw with status := { s.kw.status with
    wake := s.kw.status.d3hot && (s.kw.status.wake || (s.kw.status.pmeEn && s.completionWaiting)) } } }

/-- KEYWAY can rise: the CXL side in CXL mode, CLOCK, and no reset in progress (Table 9-6). -/
def State.keywayRise (s : State) : State :=
  if s.kw.status.linkUp && s.clk.ready && !s.pwr.perst && !s.pwr.porHeld && !s.pwr.warmHeld && s.pwr.coreSince.isNone then
    s.modPwr (fun p => { p with kwUp := true, afterCore := false })
  else s

/-- CXL_LINK_UP: the link has trained at a width and a speed in GT/s; CXL mode only at 8 GT/s or above (R313, R351). -/
def execCxlLinkUp (width gt : Nat) (s : State) : Host.Outcome State Fault Refusal :=
  .next <|
    if s.pwr.perst || s.pwr.cxlHeld || s.pwr.porHeld || s.pwr.warmHeld || s.pwr.railLow.getLsbD 2 || s.pwr.railLow.getLsbD 3
      || !([1, 2, 4, 8].contains width) then s
    else
      let k := s.kw.status
      let up := decide (gt ≥ 8)
      let s1 : State := { s with
        kw := { s.kw with status := { k with
          width := if up then width else 0
          speed := if gt ≥ 32 then 2 else if gt ≥ 16 then 1 else 0
          linkUp := up
          retrains := if k.linkUp then inc 16 k.retrains else k.retrains } }
        pwr := { s.pwr with kwUp := s.pwr.kwUp && up } }
      s1.keywayRise.wakeAssert

/-- CONFIGURATION_WRITE: power state, PME_En, the CXL.cache enable or the ASPM L1 enable (R313, R324, R351). -/
def execConfigurationWrite (w : ConfigWrite) (s : State) : Host.Outcome State Fault Refusal :=
  .next <| if s.pwr.perst || s.pwr.cxlHeld || s.pwr.porHeld || s.pwr.warmHeld then s else
    let k := s.kw.status
    let k1 := match w with
      | .power d3 => { k with d3hot := d3 }
      | .pme en => { k with pmeEn := en }
      | .cache en => { k with cacheEn := en }
      | .aspm en => { k with l1En := en }
    State.wakeAssert { s with kw := { s.kw with status := k1 } }

/-! ### Writing completions -/

/-- The 64-byte header line of a completion (Table 10-13). -/
def Completion.header (c : Completion) (now : Nat) (len : Nat) : List Byte :=
  packBytes 24 [(8, c.opcode), (8, c.flags + 0x80), (10, c.flow), (6, c.fcount), (16, len), (16, c.span), (16, c.tag),
    (16, c.status.code), (32, c.seq.toNat), (64, c.stamp.getD now)] ++ fitBytes 40 c.args

/-- Write a completion's lines: payload first, then the header (R344); a payload line with a lost byte is not written (R345). -/
def State.writeCapsule (s : State) (r : Ring) (pos : BitVec 32) (c : Completion) : State :=
  let s1 := (List.range (c.span - 1)).foldl (fun st k =>
    let l := (c.payload.drop (64 * k)).take 64
    if l.all Option.isSome then st.writeLine (ringLine r.cqAddr r.cqLog2 pos (k + 1)) (l.map (·.getD 0)) else st) s
  s1.writeLine (ringLine r.cqAddr r.cqLog2 pos 0) (c.header s.time c.payload.length)

/-- Statistics of a RECV or RECV_MULTI that has been written (R353). -/
def FlowStats.delivered (t : FlowStats) (c : Completion) : FlowStats :=
  if c.opcode = 0x81 || c.opcode = 0x82 then
    { t with
      rxCapsules := inc 32 t.rxCapsules
      rxFrames := if c.status = .ok then satAdd 32 t.rxFrames c.frames else t.rxFrames
      rxBytes := if c.status = .ok then satAdd 64 t.rxBytes c.frameBytes else t.rxBytes
      rxDiscard := if c.status = .discard then inc 32 t.rxDiscard else t.rxDiscard }
  else t

/-- The RING_FAULT notice of a halted ring (R332, R339). -/
def Ring.notice (r : Ring) (i : Nat) : Completion :=
  { opcode := 0x8F, flags := 0, flow := if i = controlRing then 0 else i, fcount := 0, tag := 0,
    status := if r.fault = 2 then .windowFault else .ringFault, seq := 0, stamp := none,
    args := packBytes 40 [(32, r.sqHead.toNat), (8, r.fault)], payload := [], span := 1 }

/-- A halted ring whose placed completions are all written places its notice once it has a free line (R332). -/
def State.placeNotice (s : State) (i : Nat) : State :=
  s.modRing i (fun r =>
    if r.halted && r.noticeDue && r.placed = [] && 64 ≤ r.free then { r.place 0 (r.notice i) with noticeDue := false } else r)

/-- COMPLETION_WRITE: Keyway writes the oldest completion placed on a ring (R313, R332, R344). -/
def execCompletionWrite (i : Nat) (s : State) : Host.Outcome State Fault Refusal :=
  let s0 := if ringExists i then s.placeNotice i else s
  let r := s0.ring i
  .next <| match r.placed with
    | [] => s0
    | c :: rest =>
      if s0.kw.status.d3hot then s0.wakeAssert
      else if !s0.pwr.kwUp || !c.ready || !(r.running || (r.halted && r.fault ≠ 3)) then s0
      else
        let pos := r.cqTail + BitVec.ofNat 32 (64 * sumNat (r.written.map (·.span)))
        match s0.ringFault r.cqAddr r.cqLog2 pos c.span true with
        | some (a, kind) => (s0.windowFault i a kind).haltRing i 3
        | none =>
          let s1 := s0.writeCapsule r pos c
          let s2 := (s1.modRing i (fun r => { r with placed := rest, written := r.written ++ [c] })).modKwCnt
            (fun k => { k with
              capsOut := inc 32 k.capsOut
              rxDiscard := if c.status = .discard then inc 32 k.rxDiscard else k.rxDiscard })
          (if i = controlRing then s2 else s2.modStats i (fun t => t.delivered c)).countCapsule

/-- COMPLETION_OBSERVED: the header of the oldest written completion is globally observed; CQ_TAIL advances by its SPAN and the
ring's vector is signalled (R333, R334, R343, R344). -/
def execCompletionObserved (i : Nat) (s : State) : Host.Outcome State Fault Refusal :=
  .next <| match (s.ring i).written with
    | [] => s
    | c :: rest =>
      let s1 := s.modRing i (fun r => { r with cqTail := r.cqTail + BitVec.ofNat 32 (64 * c.span), written := rest })
      State.signalRing { s1 with kw := { s1.kw with stagingUsed := s1.kw.stagingUsed - c.staged } } i

/-- IRQ_HOLDOFF_EXPIRY: the deferred signal of a ring is made (R334). -/
def execIrqHoldoffExpiry (i : Nat) (s : State) : Host.Outcome State Fault Refusal :=
  .next <| if (s.ring i).signalDue then
    (s.modRing i (fun r => { r with signalDue := false, lastSignal := some s.time })).signalVector (ringVector i)
  else s

/-- EVENT_SIGNAL_MERGE: the merged signal of vector 1,002 (R318). -/
def execEventSignalMerge (s : State) : Host.Outcome State Fault Refusal :=
  .next <| if s.fp.mergeDue then
    (s.setFp (fun f => { f with mergeDue := false, lastGeneral := some s.time })).signalVector 1002
  else s

/-! ### Received frames -/

/-- A flow's rule matches a frame (R349). -/
def FlowRule.hit (r : FlowRule) (bs : List Byte) : Bool :=
  let f := frameFields bs
  r.matchBits ≠ 0 &&
    (!r.matchBits.getLsbD 0 || bs.take 6 = r.da) &&
    (!r.matchBits.getLsbD 1 || f.vid = some r.vid) &&
    (!r.matchBits.getLsbD 2 || f.ethertype = r.ethertype) &&
    (!r.matchBits.getLsbD 3 || f.sci = some r.sci)

/-- The flow of a frame: most fields named, lowest number on a tie; flow 0 otherwise (R349). -/
def State.classifyBytes (s : State) (bs : List Byte) : Nat × Bool :=
  let hits := s.flows.filter (fun e => e.1 ≠ 0 && e.2.exist && e.2.rule.hit bs)
  let best := hits.foldl (fun (acc : Option (Nat × Nat)) e =>
    let n := popCount 4 e.2.rule.matchBits.toNat
    match acc with
    | some (m, f) => if n > m then some (n, e.1) else some (m, f)
    | none => some (n, e.1)) none
  match best with
  | some (_, f) => (f, false)
  | none => (0, true)

/-- Count a frame dropped at a flow whose ring is not running (R343). -/
def State.dropRing (s : State) (f : Nat) : State :=
  (s.modKwCnt (fun k => { k with rxDropRing := inc 32 k.rxDropRing })).modStats f (fun t => { t with rxDropRing := inc 32 t.rxDropRing })

/-- Space of a frame in the hold buffer (R301). -/
def holdSize (len : Nat) : Nat := (len + 63) / 64 * 64 + 64

/-- Bytes in use in the hold buffer. -/
def State.holdUsed (s : State) : Nat := sumNat (s.kw.hold.map (fun h => holdSize h.frame.bytes.length))

/-- Put a frame into the hold buffer, or drop and count it (R301). -/
def State.holdFrame (s : State) (f : Nat) (x : RxFrame) : State :=
  let used := s.holdUsed + holdSize x.bytes.length
  if used ≤ 262144 then
    { s with
      kw := { s.kw with hold := s.kw.hold ++ [⟨f, x⟩] }
      pwr := { s.pwr with heldMaxKib := max s.pwr.heldMaxKib (used / 1024) } }
  else (s.modPwr (fun p => { p with rxDropFrames := inc 32 p.rxDropFrames })).modStats f
    (fun t => { t with rxDropRing := inc 32 t.rxDropRing })

/-- RXINFO (Table 10-16). -/
def rxInfo (x : RxFrame) (byDefault held : Bool) : Nat := b2n x.isProtected + 2 * b2n byDefault + 4 * b2n held

/-- ARGS of RECV and RECV_MULTI (Table 10-16). -/
def recvArgs (gen info sci : Nat) : List Byte := packBytes 40 [(32, gen), (8, info), (24, 0), (64, sci)]

/-- LENGTH of an open RECV_MULTI. -/
def OpenMulti.len (m : OpenMulti) : Nat := sumNat (m.frames.map (fun f => recordLen f.1.length))

/-- The payload of a RECV_MULTI: sub-header, frame, zero padding (R337). -/
def OpenMulti.payload (m : OpenMulti) : List Byte :=
  m.frames.flatMap (fun f =>
    fitBytes (recordLen f.1.length) (packBytes 8 [(16, f.1.length), (8, f.2.1), (8, 0), (32, f.2.2 - m.stamp)] ++ f.1))

/-- Close the open RECV_MULTI of a ring: a single frame goes as a RECV (R346). -/
def Ring.closeMulti (r : Ring) (i : Nat) : Ring :=
  match r.multi with
  | none => r
  | some m =>
    let one := m.frames.length = 1
    let first := m.frames.headD ([], 0, 0)
    let pl := if one then first.1 else m.payload
    let bytes := sumNat (m.frames.map (fun f => f.1.length))
    { r.place m.lines
        { opcode := if one then 0x81 else 0x82, flags := 0, flow := i, fcount := m.frames.length - 1, tag := 0, status := .ok,
          seq := 0, stamp := some m.stamp, args := recvArgs m.gen first.2.1 m.sci, payload := pl.map some,
          span := spanOf pl.length, frames := m.frames.length, frameBytes := bytes, staged := bytes } with multi := none }

/-- What a capsule of n payload bytes takes of a frame (R338, R345): a protected frame that Ward has not stripped goes without SecTAG and ICV. -/
def deliveredBytes (n : Nat) (bs : List (Option Byte)) : List (Option Byte) :=
  if bs.length ≤ n then bs else bs.take 12 ++ (bs.drop (bs.length - n - 4)).take (n - 12)

/-- Length that a frame of raw length n is delivered with (R338): verified under a flow's association it has lost its SecTAG and ICV. -/
def deliveredLen (verified : Bool) (bs : List Byte) (n : Nat) : Nat :=
  if verified then n - (if bitAt (leAt bs 14 1) 5 then 32 else 24) else n

/-- A frame that finds the receive staging buffer full (R343). -/
def State.overflow (s : State) : State := (s.modKwCnt (fun k => { k with rxOverflow := inc 32 k.rxOverflow })).raiseEvent evKeyway

/-- Deliver a frame with its verdict to a flow's ring (R343, R345, R346); false: it did not fit. -/
def State.deliver (s : State) (c : Class) (x : RxFrame) (held : Bool) : State × Bool :=
  let i := c.flow
  let bytes := x.bytes.map (·.getD 0)
  let n := bytes.length
  let info := rxInfo x c.byDefault held
  let r := s.ring i
  match c.early with
  | some seq =>
    (s.modRing i (fun r => { r with placed := r.placed.map (fun p =>
      if p.seq = seq && !p.ready then
        { p with
          ready := true, status := if x.good then .ok else .discard, payload := deliveredBytes p.payload.length x.bytes
          args := recvArgs c.gen info x.sci, frames := 1, frameBytes := p.payload.length }
      else p) }), true)
  | none =>
    if !x.good then
      -- a frame of a standard mode, which arrives whole with its verdict: under early head its capsule is written without the lost lines (R115, R345)
      if s.ehActive i && x.cls.isNone && 48 ≤ (presentBytes x.bytes).length && 64 * spanOf n ≤ r.free then
        (s.modRing i (fun r => r.place 0
          { opcode := 0x81, flags := 1, flow := i, fcount := 0, tag := 0, status := .discard, seq := 0, stamp := some x.stamp,
            args := recvArgs c.gen info x.sci, payload := x.bytes, span := spanOf n, frames := 1, frameBytes := n }), true)
      else (s, true)
    else if s.kw.stagingUsed + n > 524288 then (s.overflow, false)
    else if r.rxMulti && !s.ehActive i then
      let fits := fun (m : OpenMulti) =>
        m.gen = c.gen && m.sci = x.sci && m.frames.length < 32 && m.len + recordLen n ≤ 16384
      let r1 := match r.multi with
        | some m => if fits m then r else r.closeMulti i
        | none => r
      let m0 : OpenMulti := r1.multi.getD { gen := c.gen, stamp := x.stamp, byDefault := c.byDefault, frames := [], sci := x.sci, lines := 0 }
      let m1 : OpenMulti := { m0 with frames := m0.frames ++ [(bytes, info, x.stamp)] }
      let lines := max (spanOf m1.len) (spanOf n)
      if r1.free < 64 * (lines - m0.lines) then (s.modRing i (fun _ => r1), false)
      else
        let r2 : Ring := { r1 with multi := some { m1 with lines := lines }, reserved := r1.reserved + (lines - m0.lines) }
        let s1 := s.modRing i (fun _ => if m1.frames.length = 32 then r2.closeMulti i else r2)
        ({ s1 with kw := { s1.kw with stagingUsed := s1.kw.stagingUsed + n } }, true)
    else if r.free < 64 * spanOf n then (s, false)
    else
      let s1 := s.modRing i (fun r => r.place 0
        { opcode := 0x81, flags := b2n (s.ehActive i), flow := i, fcount := 0, tag := 0, status := .ok, seq := 0,
          stamp := some x.stamp, args := recvArgs c.gen info x.sci, payload := x.bytes, span := spanOf n, frames := 1,
          frameBytes := n, staged := n })
      ({ s1 with kw := { s1.kw with stagingUsed := s1.kw.stagingUsed + n } }, true)

/-- A frame that finds no room is dropped and counted (R343). -/
def State.noSpace (s : State) (i : Nat) : State :=
  (s.modKwCnt (fun k => { k with rxNospace := inc 32 k.rxNospace })).modStats i (fun t => { t with rxNospace := inc 32 t.rxNospace })

/-- Classify a frame from the bytes present (R343, R380 step 1). -/
def State.classOf (s : State) (x : RxFrame) : Class :=
  match x.cls with
  | some c => c
  | none =>
    let (f, d) := match x.forced with
      | some f => (f, false)
      | none => s.classifyBytes (presentBytes x.bytes)
    { flow := f, gen := (s.flow f).gen, byDefault := d, early := none }

/-- The next frame to classify: past Ward, or straight from the deframer where Ward is absent. -/
def State.nextFrame (s : State) : Option RxFrame :=
  if s.fuse.part.ward then s.kw.ready.head? else s.kw.arrived.head?

/-- Take the next frame off its queue. -/
def State.dropFrame (s : State) : State :=
  { s with kw := if s.fuse.part.ward then { s.kw with ready := s.kw.ready.drop 1 } else { s.kw with arrived := s.kw.arrived.drop 1 } }

/-- A frame of a flow with an association that was not verified under step 1 (R380, Table 12-4); none: discarded. -/
def State.checkUnverified (s : State) (f : Nat) (x : RxFrame) : State × Bool :=
  let a := (s.flow f).assoc
  if f = 0 || assocNone a || x.forced = some f || !s.fuse.part.ward then (s, true)
  else
    let tagged := (frameFields (presentBytes x.bytes)).sci.isSome
    (s.modWard (fun w => { w with cnt :=
      if tagged then { w.cnt with rxNoSa := inc 32 w.cnt.rxNoSa }
      else { w.cnt with rxUntaggedDrop := inc 32 w.cnt.rxUntaggedDrop } }), !tagged && assocValidate a ≠ 2)

/-- Early classification of the frame that the deframer still receives: a ring not running and a missing room decide at this instant, and under early head its
capsule is reserved, with the staging that its bytes take until the header is observed (R343, R345). An MKPDU never reaches a flow, and what the link association protects is classified decrypted (R380, R382). -/
def State.classifyEarly (s : State) : State :=
  match s.lc.item with
  | none => s
  | some it =>
    let sci := (frameFields (presentBytes it.bytes)).sci
    let later := s.fuse.part.ward && (isMkpdu (presentBytes it.bytes) || ((s.associationOf (presentBytes it.bytes)).isNone && sci.isSome && s.ward.linkEn && s.ward.mka.peer = sci))
    if it.isFrame && it.cls.isNone && !later && 48 ≤ (presentBytes it.bytes).length then
      let (f, d) := s.classifyBytes (presentBytes it.bytes)
      let forced := s.associationOf (presentBytes it.bytes)
      let fl := forced.getD f
      let n := deliveredLen forced.isSome (presentBytes it.bytes) (it.len - 4)
      let r := s.ring fl
      let held := (s.flow fl).heldOver || s.kw.hold.any (fun h => h.flow = fl)
      let room := 64 * spanOf n ≤ r.free || (r.rxMulti && !s.ehActive fl && r.multi.isSome)
      let early := s.ehActive fl && !held
      let refuse := if held then 0 else if !r.running then 1 else if !room then 2 else if early && s.kw.stagingUsed + n > 524288 then 3 else 0
      let eh := early && refuse = 0
      let s1 := if eh then State.modRing { s with kw := { s.kw with stagingUsed := s.kw.stagingUsed + n } } fl (fun r => r.place 0
          { opcode := 0x81, flags := 1, flow := fl, fcount := 0, tag := 0, status := .ok, seq := 0, stamp := some it.stamp,
            args := [], payload := List.replicate n none, span := spanOf n, staged := n, ready := false })
        else s
      let cls : Class := { flow := fl, gen := (s.flow fl).gen, byDefault := d && forced.isNone, early := if eh then some r.cqSeq else none, refuse := refuse }
      { s1 with lc := { s1.lc with item := some { it with cls := some cls } } }
    else s

/-- FRAME_CLASSIFY: a received frame is classified to a flow and staged for delivery, held, or dropped (R301, R343, R349). -/
def execFrameClassify (s : State) : Host.Outcome State Fault Refusal :=
  .next <| match s.nextFrame with
    | none => s.classifyEarly
    | some x =>
      let c := s.classOf x
      let f := c.flow
      let (s1, ok) := if x.good then s.checkUnverified f x else (s, true)
      if !ok then (if c.early.isSome then (s1.deliver c { x with good := false } false).1.dropFrame else s1.dropFrame)
      else if (s.flow f).heldOver then (if x.good then (s1.dropFrame).holdFrame f { x with cls := some c } else s1.dropFrame)
      else if s.kw.hold.any (fun h => h.flow = f) then s
      else if !(s.ring f).running || c.refuse = 1 then (if x.good then (s1.dropFrame).dropRing f else s1.dropFrame)
      else if c.refuse = 2 then (if x.good then (s1.dropFrame).noSpace f else s1.dropFrame)
      else if c.refuse = 3 then (if x.good then (s1.dropFrame).overflow else s1.dropFrame)
      else
        let (s2, fit) := s1.deliver c x false
        if fit then s2.dropFrame
        else if s.kw.stagingUsed + x.bytes.length > 524288 then s2.dropFrame
        else (s2.dropFrame).noSpace f

/-- HELD_FRAME_DELIVERY: the oldest held frame of a flow that is set up again is delivered, with RXINFO.HELD (R301). -/
def execHeldFrameDelivery (f : Nat) (s : State) : Host.Outcome State Fault Refusal :=
  .next <| match s.kw.hold.find? (fun h => h.flow = f) with
    | none => s
    | some h =>
      if s.pwr.perst || (s.flow f).heldOver || !(s.ring f).running then s
      else
        let (s1, fit) := s.deliver { s.classOf h.frame with early := none } h.frame true
        if fit then
          { s1 with
            kw := { s1.kw with hold := s1.kw.hold.erase h }
            pwr := { s1.pwr with rxHeldFrames := inc 32 s1.pwr.rxHeldFrames } }
        else s

/-- RX_MULTI_CLOSE: no further frame within 64 ns closes the open capsule (R346). -/
def execRxMultiClose (i : Nat) (s : State) : Host.Outcome State Fault Refusal :=
  .next (if ringExists i && (s.ring i).multi.isSome then s.modRing i (fun r => r.closeMulti i) else s)

end Sys2Proof.Machine
end

