-- ==== Sys2Proof/Machine/Timeline.lean ====
section
/-! DEFINITION. The timeline boundary and what this end transmits in the period that begins there: framer, header, InfoField slices, training periods, refresh windows and settle periods (02 R47 to R57, R63 to R78; 04 R125, R130; 05 R163 to R167, R182; 06 R198 to R206; 07 R249, R253). `run.txSeq`, `train.tseq`, `train.pos` and `ql.run.qc` name the next transmit period. -/

namespace Sys2Proof.Machine

/-! ### InfoField slices (R75 to R78) -/

/-- A new message takes its MSEQ, and a THP_SWITCH its AT_SEQ past its last slice (R76, R79). -/
def stampMsg (m mseq last lead : Nat) : Nat :=
  m + 2 ^ 59 * (mseq % 16) + (if msgType m = 2 then 2 ^ 12 * ((last + 4 + lead % 125) % 256) else 0)

/-- The message that begins: an ACK, the unacknowledged one that is due, a new one, or NULL. -/
def State.beginMsg (s : State) (kn : Bool) (seq : Nat) : State :=
  let r := s.lc.run
  match r.ifAcks, r.ifOut, r.ifQueue with
  | a :: rest, _, _ => s.modRun (fun r => { r with ifNow := some a, ifAcks := rest })
  | [], some o, _ => if o.due then s.modRun (fun r => { r with ifNow := some o.msg, ifOut := some { o with due := false } }) else s
  | [], none, m :: rest =>
    let m1 := stampMsg m r.mseq (seq + sliceCount kn - 1) (freeSwitchLead s.draws)
    State.drawn (s.modRun (fun r => { r with ifQueue := rest, ifNow := some m1, ifOut := some { msg := m1, due := false }, mseq := (r.mseq + 1) % 16 }))
  | [], none, [] => s

/-- The INFO bits of a period, with what its slice changes. `room`: periods left in which slices can ride. -/
def State.infoTx (s : State) (kn : Bool) (seq room : Nat) : State × Nat :=
  let s0 := s.modRun (fun r => { r with ifOut := r.ifOut.map (fun o => if 0 < o.sends then { o with waited := o.waited + 1 } else o) })
  match sliceIndex kn seq with
  | none => (s0, 0)
  | some i =>
    let s1 := if i = 0 then (if sliceCount kn ≤ room then s0.beginMsg kn seq else s0) else s0
    match s1.lc.run.ifNow with
    | none => (s1, 0)
    | some m =>
      let w := sliceWidth kn
      let s2 := if i + 1 < sliceCount kn then s1 else
        s1.modRun (fun r => { r with ifNow := none, ifOut := r.ifOut.map (fun o => if o.msg = m then { o with sends := o.sends + 1, waited := 0 } else o) })
      (s2, bitsAt m (w * i) w)

/-! ### The framer (R69 to R72) -/

/-- Change the capsule in flight whose frame comes after k others of its ring. -/
def modNth (l : List InFlight) (k : Nat) (f : InFlight → InFlight) : List InFlight :=
  match l with
  | [] => []
  | x :: t => if k < x.left then f x :: t else x :: modNth t (k - x.left) f

/-- Change the first capsule in flight of a ring that still has frames to send. -/
def modFirst (l : List InFlight) (f : InFlight → InFlight) : List InFlight := modNth l 0 f

/-- Append an item to the stream. -/
def State.pushItem (s : State) (typ : Nat) (body : List Byte) : State := s.modRun (fun r => { r with stream := r.stream ++ itemBytes typ body })

/-- Time from a period's start to the point that carries payload byte `off`, ns. -/
def byteNs (off ns : Nat) : Nat := 2 * ((16 + 8 * (off % 398)) / 7) * ns / 1024

/-- The first frame of the transmit buffer enters the stream behind those of its ring at the framer; its tag crosses the MDI `dt` ns into the period (R341, R347). -/
def State.pushFrame (s : State) (f : TxFrame) (dt : Nat) : State :=
  let b := lineFrame f.bytes
  let stop' := s.lc.run.stream.length + 4 + b.length
  let ahead := s.lc.run.framesOf f.ring
  let s1 := (s.pushItem 0 b).modRun (fun r => { r with leaving := r.leaving ++ [{ stop := stop', frame := some f }] })
  State.modRing { s1 with kw := { s1.kw with txBuf := s1.kw.txBuf.drop 1 } } f.ring
    (fun r => { r with inflight := modNth r.inflight ahead (fun x => { x with stamp := match x.stamp with | some t => some t | none => some (s.time + dt) }) })

/-- The first OAM item waiting enters the stream. -/
def State.pushOam (s : State) (o : List Byte) : State :=
  (s.pushItem 1 o).modRun (fun r => { r with oam := r.oam.drop 1, leaving := r.leaving ++ [{ stop := r.stream.length, frame := none, oam := o }] })

/-- An idle run of the framer's own length. -/
def State.pushIdle (s : State) : State := (s.pushItem 3 (List.replicate (freeIdleRun s.draws % 125) 0)).drawn

/-- An idle run that ends a stream of which `left` bytes remain: the last one leaves fewer than four bytes, which are fill (R72, R182). -/
def State.pushLast (s : State) (left : Nat) : State :=
  let n := if left ≤ 16387 then left / 4 * 4 - 4 else 16000
  s.modRun (fun r => { r with stream := r.stream ++ tagBytes 3 n ++ List.replicate n 0 })

/-- Fill the stream up to `need` bytes. `total`: bytes from here to the boundary at which the stream must end; `idleOnly`: nothing but
idle runs may begin. Nothing begins that would not end before the boundary (R182). -/
def State.fillStream (s : State) (need : Nat) (total : Option Nat) (idleOnly : Bool) : Nat → State
  | 0 => s
  | fuel + 1 =>
    let have' := s.lc.run.stream.length
    if need ≤ have' then s
    else
      let left := match total with | some t => t - have' | none => 2 ^ 20
      let go := fun (st : State) => st.fillStream need total idleOnly fuel
      if left < 4 then s.modRun (fun r => { r with stream := r.stream ++ List.replicate left 0 })
      else if idleOnly then go (if total.isSome then s.pushLast left else s.pushIdle)
      else match s.lc.run.oam, s.kw.txBuf with
        | o :: _, _ => if itemSize o.length ≤ left then go (s.pushOam o) else go (s.pushLast left)
        | [], f :: _ => if itemSize (lineFrame f.bytes).length ≤ left then go (s.pushFrame f (byteNs have' (periodNs s.link.mode))) else go (s.pushLast left)
        | [], [] => go (if left ≤ 400 then s.pushLast left else s.pushIdle)

/-- The last byte of an item leaves: a frame has been sent (R341, R353). -/
def State.itemSent (s : State) (x : Leaving) : State :=
  match x.frame with
  | none => s
  | some f =>
    State.frameSeen <| (s.modRing f.ring (fun r => { r with inflight := modFirst r.inflight (fun y => { y with left := y.left - 1, sent := y.sent + 1 }) })).modStats f.ring
      (fun t => { t with txBytes := satAdd 64 t.txBytes f.size, txFrames := inc 32 t.txFrames })

/-- Bytes of the stream leave. -/
def State.takeStream (s : State) (n : Nat) : State :=
  let gone := s.lc.run.leaving.filter (fun x => x.stop ≤ n)
  gone.foldl State.itemSent (s.modRun (fun r => { r with
    stream := r.stream.drop n, leaving := (r.leaving.filter (fun x => n < x.stop)).map (fun x => { x with stop := x.stop - n }) }))

/-- The stream is cut: items that have not left go back to wait (R182). -/
def State.recallStream (s : State) : State :=
  let l := s.lc.run.leaving
  let s1 := s.modRun (fun r => { r with stream := [], leaving := [], oam := (l.filter (fun x => x.frame.isNone)).map (·.oam) ++ r.oam })
  { s1 with kw := { s1.kw with txBuf := l.filterMap (·.frame) ++ s1.kw.txBuf } }

/-! ### Driving the pairs (R56, R57, R130) -/

/-- Drive a pair with symbols, precoded or not; none: silence, which holds the precoder memory and leaves zeros in the FIR's (DESIGN CHOICE, log entry 87: the
spec does not say what the FIR's memory of v holds after a silent interval). Answers the DAC codes. -/
def State.drivePair (s : State) (p : Pair) (sym : Option (List Int)) (precode : Bool) : State × List Int :=
  match sym with
  | none => ({ s with lc := { s.lc with pre := s.lc.pre.upd p (fun x => { x with fir := [] }) } }, List.replicate 1024 0)
  | some a =>
    let x := s.lc.pre.at p
    let zeros := List.replicate 48 (0 : Int)
    let v := if precode then precodeRun x.taps (s.lc.run.thpLate.at p) 0 ((x.mem ++ zeros).take 48) a else (a.map (256 * ·), x.mem)
    let y := firRun (s.lc.force.taps p) (s.lc.effBackoff.at p) (s.lc.run.firLate.at p) 0 ((x.fir ++ zeros).take 31) v.1
    let s1 : State := { s with lc := { s.lc with
      pre := s.lc.pre.put p { x with mem := v.2, fir := (v.1.reverse.take 31) }
      cnt := { s.lc.cnt with dacClip := satAdd 32 s.lc.cnt.dacClip (y.filter (·.2)).length } } }
    (s1, y.map (·.1))

/-- Drive the four pairs; late transmit segments are used up. -/
def State.drivePairs (s : State) (precode : Bool) (sym : Pair → Option (List Int)) : State × Quad (List Int) :=
  let r0 := s.drivePair 0 (sym 0) precode
  let r1 := r0.1.drivePair 1 (sym 1) precode
  let r2 := r1.1.drivePair 2 (sym 2) precode
  let r3 := r2.1.drivePair 3 (sym 3) precode
  let codes : Quad (List Int) := ⟨r0.2, r1.2, r2.2, r3.2⟩
  (r3.1.modRun (fun r => { r with dac := codes, thpLate := Quad.all 0, firLate := Quad.all 0 }), codes)

/-- Drive the four pairs and record what goes out. -/
def State.drive (s : State) (kind : Nat) (precode : Bool) (sym : Pair → Option (List Int)) : State :=
  let r := s.drivePairs precode sym
  State.emit { r.1 with rx := { r.1.rx with dacs := ((s.eng.period, r.2) :: r.1.rx.dacs).take 8 } } (.line kind r.2)

/-- Drive symbols that begin `lead` symbols before the next boundary and end with the period that begins there: they are the references of both periods (R92, R206). -/
def State.driveBurst (s : State) (kind lead : Nat) (sym : Pair → List Int) : State :=
  let r := s.drivePairs false (fun p => some (sym p))
  let here := r.2.map (fun l => List.replicate (1024 - lead) 0 ++ l.take lead)
  let next := r.2.map (fun l => l.drop lead)
  State.emit { r.1 with rx := { r.1.rx with dacs := ((s.eng.period + 1, next) :: (s.eng.period, here) :: r.1.rx.dacs).take 8 } } (.line kind r.2)

/-- The internal loopback of an administratively down link: a scrambled DSQ-128 sequence through FIR and DAC that does not reach the MDI (R238; DESIGN CHOICE of
its seed, log entry 90). -/
def State.loopback (s : State) : State :=
  let codes : Quad (List Int) := (⟨0, 1, 2, 3⟩ : Quad Pair).map (fun p =>
    (s.drivePair p (some (pointSymbols (keystream 3584 (scrambleSeed p (s.eng.period % 256))) 0 512)) false).2)
  { s with rx := { s.rx with dacs := ((s.eng.period, codes) :: s.rx.dacs).take 8 } }

/-- Nothing is sent: silence runs through the FIRs, and late transmit segments are used up. -/
def State.silent (s : State) : State :=
  State.modRun { s with lc := { s.lc with pre := s.lc.pre.map (fun x => { x with fir := [] }) } }
    (fun r => { r with dac := Quad.all [], thpLate := Quad.all 0, firLate := Quad.all 0 })

/-- Pairs that carry the transmitted stream, in rank order (R49). -/
def State.txPairs (s : State) : List Pair := pairs.filter (fun p => !(s.kn.run.txForm && s.kn.shed = p))

/-- The shed pair's fill (R253): training periods of PHASE 4 with READY of the pair training, TSEQ equal to the transmit SEQ; silent
while this end tests the pair or the partner has asked for silence (R270). -/
def State.shedFill (s : State) (p : Pair) (seq : Nat) : Option (List Int) :=
  let used := s.diag.quietUntil.isSome || (match s.diag.run with | some r => !r.asking && r.left.any (· = p.val) | none => false) || s.testOn 2 p.val
  if used then none
  else some (trainingSymbols p.val 4 (trainingWord 4 (s.kn.state = 3 && s.kn.run.ready) s.link.role false seq 0 0) seq)

/-! ### Periods -/

/-- Periods from the next one until the stream must end (R182, R197, R201, R204). With QR set the framer sends idle runs only, and ends one before every SEQ at
which its quiet may start, so that the last one ends there whenever the handshake completes (R198). -/
def State.stopIn (s : State) : Option Nat :=
  let seq := s.lc.run.txSeq
  let qr := s.statusTx 1
  let fr := s.statusTx 5
  match s.ql.run.txState, s.ql.run.qc with
  | 3, some q => some (48 - q % (if s.link.mode = some 0 then 1562 else 781))
  | 4, _ => if s.ql.run.settleTx = 0 then none else some s.ql.run.settleTx
  | 1, _ => if (qr.now = 1 && 8 ≤ qr.age && s.statusRx 1 = 1) || seq % 16 = 15 then some (16 - seq % 16) else none
  | _, _ => if s.link.frt.want && fr.now = 1 && 8 ≤ fr.age && s.statusRx 5 = 1 then some (256 - seq % 256) else none

/-- One period of the STATUS fields (R66, R67); KR, KA and KPAIR change only where SEQ mod 16 is 0 (R249), and not before a wake from
Quiet-Latch or a fast retrain that is pending has ended (R183, R248). -/
def State.statusStep (s : State) (seq : Nat) : State :=
  let r := s.lc.run
  let rf : FieldTx := { (r.stTx.getD 0 {}) with want := b2n (16 ≤ r.badRun) }
  let next := (setAt r.stTx 0 rf).zipIdx.map (fun x => x.1.step (!(x.2 = 2 || x.2 = 3 || x.2 = 6) || (seq % 16 = 0 && !s.link.frt.want && s.pwr.state ≠ .quietLatch)))
  let ka := (next.getD 3 {}).now ≠ (r.stTx.getD 3 {}).now
  let kr := (next.getD 2 {}).now ≠ (r.stTx.getD 2 {}).now
  let s1 := s.modRun (fun r => { r with stTx := next })
  { s1 with kn := { s1.kn with run := { s1.kn.run with
    txAt := if ka then some ((seq + 16) % 256) else s1.kn.run.txAt
    krSince := if kr then some s.time else s1.kn.run.krSince } } }

/-- STATUS as sent (Table 2-10); KPAIR is 0 while KR and KA are 0. -/
def State.statusByte (s : State) : Nat :=
  packNat [(1, (s.statusTx 0).now), (1, (s.statusTx 1).now), (1, (s.statusTx 2).now), (1, (s.statusTx 3).now), (1, (s.statusTx 4).now),
    (1, (s.statusTx 5).now), (2, if (s.statusTx 2).now = 0 && (s.statusTx 3).now = 0 then 0 else (s.statusTx 6).now)]

/-- A data period (R49 to R56). -/
def State.sendData (s : State) (idleOnly : Bool) (room : Nat) : State :=
  let seq := s.lc.run.txSeq
  let kn := s.kn.run.txForm
  let n := periodBytes kn
  let before := s.lc.run.stream.length
  let s0 := s.fillStream n (s.stopIn.map (· * n)) idleOnly 500
  let s1 := s0.probes (s0.lc.run.leaving = [] && (s.ql.run.txState = 3 || s.cal.probeData))
  let first := if before < n && before + 4 ≤ s1.lc.run.stream.length then before else 0x7FF
  let s2 := s1.statusStep seq
  let (s3, info) := s2.infoTx kn seq room
  let hdr := makeHeader kn first seq s3.statusByte info
  let payload := fitBytes n s3.lc.run.stream
  let s4 := s3.takeStream n
  let active := s.txPairs
  let s5 := s4.drive 4 true (fun p =>
    match active.idxOf? p with
    | some r => some (pointSymbols (scramble (ldpcEncode (bitsAt hdr (16 * r) 16 + 2 ^ 16 * leNat ((payload.drop (398 * r)).take 398))) seq p.val) 0 512)
    | none => s.shedFill p seq)
  s5.modRun (fun r => { r with txSeq := (seq + 1) % 256 })

/-- A training period of T1 to T4 or of a fast retrain (R163 to R167): READY, the countdown and the turns of T1. -/
def State.sendTraining (s : State) (phase : Nat) (frt : Bool) : State :=
  let t := s.link.train
  let o := t.pos % 2064
  let own := phase ≠ 1 || (o < 2048 && (t.pos / 2064 % 2 = if s.link.role then 1 else 0))
  let go := t.ready && (3 ≤ t.farReady || t.farNext)
  let cd := if phase = 1 then (if 2040 ≤ o && o < 2048 then 2048 - o else 0) else if t.cd = 0 then (if go then 8 else 0) else if 1 < t.cd then t.cd - 1 else 1
  let (s1, info) := if phase = 1 then (s, 0) else s.infoTx false t.tseq 256
  let word := trainingWord phase t.ready s.link.role frt t.tseq info cd
  let s2 := s1.modLink (fun l => { l with train := { l.train with
    tseq := (t.tseq + 1) % 256, pos := t.pos + 1, cd := cd, turnReady := if phase = 1 && own && o = 0 then go else t.turnReady } })
  if own then s2.drive 3 true (fun p => if s.kn.run.txForm && s.kn.shed = p then s.shedFill p s.lc.run.txSeq else some (trainingSymbols p.val phase word t.tseq))
  else s2.silent

/-- A lead or content period of a refresh window (R201). -/
def State.sendRefresh (s : State) : State :=
  let seq := s.lc.run.txSeq
  let word := trainingWord 4 true s.link.role false seq 0 0
  (s.drive 3 true (fun p => some (trainingSymbols p.val 4 word seq))).modRun (fun r => { r with txSeq := (seq + 1) % 256 })

/-- Bytes that a standard mode's PCS takes in one timeline period: its rate times the period of Table 4-2. -/
def stdPeriodBytes (m : Rung) : Nat := if m = 7 then 1024 else 1600

/-- A period of a standard mode in data: frames leave with preamble and gap in the order they came (R162, R341). -/
def State.sendStandard (s : State) : State :=
  let m := s.link.mode.getD 7
  let n := stdPeriodBytes m
  let push := fun (st : State) =>
    match st.kw.txBuf with
    | f :: _ => if st.lc.run.stream.length < n then (st.pushFrame f (st.lc.run.stream.length * periodNs s.link.mode / n)).modRun (fun r => { r with stream := r.stream ++ List.replicate 16 0 }) else st
    | [] => st
  let s1 := (List.range 30).foldl (fun st _ => push st) s
  s1.takeStream (min n s1.lc.run.stream.length)

/-- A period of native Quiet-Latch: the count, silence, windows and settle periods. -/
def State.sendQuiet (s : State) : State :=
  let q := s.ql.run
  let ri := if s.link.mode = some 0 then 1562 else 781
  let count := fun (st : State) => st.modQl (fun x => { x with qc := x.qc.map (· + 1) })
  let ns := periodNs s.link.mode
  let silence := fun (st : State) =>
    State.modQlCnt (count (st.silent.modRun (fun r => { r with txSeq := (r.txSeq + 1) % 256 }))) (fun c => { c with quietNs := c.quietNs + ns })
  match q.txState, q.qc with
  | 2, _ => silence (s.drive 4 true (fun _ => none))
  | 3, some k =>
    let i := k % ri
    let s1 := if i < 32 then s.sendRefresh else s.sendData true (48 - i)
    let s2 := count s1
    if i = 47 then (s2.modQl (fun x => { x with txState := 2 })).modQlCnt (fun c => { c with refreshTx := inc 32 c.refreshTx }) else s2
  | 4, _ =>
    if q.settleTx = 7 then
      (s.modRun (fun r => { r with txSeq := (r.txSeq + 1) % 256, thpLate := Quad.all 0, firLate := Quad.all 0 })).modQl (fun x => { x with settleTx := 6 })
    else if q.settleTx = 0 then
      let exit := match q.burstAt with | some t => min 65535 (s.time - t) | none => s.ql.exitNs
      let t := s.sendData false 256
      State.modQl { t with ql := { t.ql with exitNs := exit } } (fun x => { x with txState := 0, qc := none })
    else (s.sendData true 256).modQl (fun x => { x with settleTx := x.settleTx - 1 })
  | _, _ => s.sendData false 256

/-- Quiet-Latch ends once this end's first data period is sent and its receive direction is in data, an entry that was aborted included: the device is in Active, the
data bank takes the next generation, and a SLOT_STAGE OPEN that waited opens (R215, R217). -/
def State.leaveQuiet (s : State) : State :=
  if !s.ql.run.laid || s.ql.run.txState ≠ 0 || s.ql.run.rxState ≠ 0 then s
  else
      let s2 : State := { s with pwr := { s.pwr with state := if s.pwr.state = .quietLatch then .active else s.pwr.state } }
      let s3 := s2.modEng (fun g => { g with
        lastGen := g.lastGen + 1, activeGen := g.lastGen + 1, switchPeriod := g.period % 2 ^ 32
        useB := if s.ql.run.committed then !g.useB else g.useB, profile := Profile.ofRung (s.link.mode.getD 0) false })
      (s3.modQl (fun q => { q with laid := false, committed := false, farQc := none, waitFar := 0, idleSince := none, burstAt := none, farQr0 := 0, missRow := 0 })).gateEngines.openWaiting

/-- The period numbered k by a quiet count lies in or beside a refresh window: from the boundary before it until three periods after its
last (R217). -/
def besideWindow (ri k : Nat) : Bool := (ri ≤ k && k % ri < 51) || (k + 1) % ri = 0

/-- The data bank is wanted in the period that begins: a direction in data, a window, a wake, a woken reception, or listening (R217). `qc` names the next transmit
period, `farQc` the receive period released next, which entered three periods before the one that begins. -/
def State.wantsData (s : State) : Bool :=
  let q := s.ql.run
  let ri := if s.link.mode = some 0 then 1562 else 781
  q.txState = 0 || q.txState = 1 || q.txState = 4 || q.rxState = 0 || q.rxState = 6 ||
    (match q.qc with | some k => besideWindow ri (k - 1) | none => false) || (match q.farQc with | some k => besideWindow ri (k + 3) | none => false) ||
    (match q.rx with | some r => r.bankIn = some 0 | none => false)

/-- The bank in force changes by hardware at a boundary while Quiet-Latch is in force (R217). -/
def State.quietBank (s0 : State) : State :=
  let s := s0.modQl (fun q => { q with rx := q.rx.map (fun r => { r with bankIn := r.bankIn.map (· - 1) }) })
  if s.ql.run.laid && s.ql.run.committed = s.wantsData then
    ((s.modQl (fun q => { q with committed := !s.wantsData })).modEng (fun g => { g with useB := !g.useB })).gateEngines
  else s

/-- The idle timer of R195: it runs while the conditions hold, with the IDLE_TIME of its start (R221). -/
def State.idleTick (s : State) : State :=
  if s.ql.run.txState = 0 && s.quietAllowed then
    (if s.ql.run.idleSince.isSome then s else s.modQl (fun q => { q with idleSince := some (s.time, 1000 * s.ql.ctl.idleTime) }))
  else s.modQl (fun q => { q with idleSince := none })

/-- What this end transmits in the period that begins. -/
def State.txPeriod (s : State) : State :=
  if s.link.state = 4 then s.sendTraining 1 false
  else if s.link.state = 5 then s.sendTraining 2 false
  else if s.link.state = 6 then s.sendTraining 3 false
  else if s.link.state = 7 then s.sendTraining 4 false
  else if s.link.state = 9 && s.nativeMode then s.sendTraining 4 true
  else if s.nativeData then s.sendQuiet.leaveQuiet.quietBank.idleTick
  else if s.linkInData && s.ql.run.txState = 0 then s.sendStandard
  else if s.linkInData && s.ql.run.txState = 2 then s.modQlCnt (fun c => { c with quietNs := c.quietNs + periodNs s.link.mode })
  else if s.link.state = 0 && s.cal.run.isSome then pairs.foldl State.probe s.loopback
  else s

/-- The erasure record of a pair moves on by one period (R102, R105). -/
def RxPair.nextPeriod (x : RxPair) : RxPair :=
  let y : RxPair := { x with
    eraseO := x.eraseR, eraseR := x.eraseD, eraseD := x.erase, erase := x.eraseNext, eraseNext := x.eraseAfter, eraseAfter := 0, refLate := false
    gainD := x.gainE, gainE := x.gainNext, gainNext := 0, lateR := x.lateD, lateD := x.lateE, lateE := 0 }
  if x.refLate then (y.drop 2 1).eraseAhead 0xFFFF else y

/-! ### What enters in a period, and training on it (R84, R106, R163 to R170) -/

/-- The interval of Table 5-7 that the period that ends belongs to (`RxPeriod.kind`): this end's phase; in data, while the partner still trains, the one before, or a
fast retrain that the partner has begun first. -/
def State.trainKind (s : State) : Nat :=
  let k := s.link.train.pos - 1
  match s.link.state with
  | 8 => if s.lc.run.rxOn || !s.nativeMode then 0 else if (s.rx.adc.head?).any (fun e => e.kind = 5) then 5 else 6
  | 4 => if 2048 ≤ k % 2064 then 0 else if k / 2064 % 2 = (if s.link.role then 1 else 0) then 1 else 2
  | 5 => 3
  | 6 => 4
  | 7 => 5
  | 9 => if s.nativeMode then 6 else 0
  | _ => 0

/-- The samples of the period that ends enter the engines, from a front end that Dormant turns off (R39); the decode window of the period before it opens with ITER_CAP as it stands (R83, R117). -/
def State.enterPeriod (s : State) (adc : Quad (List Int)) : State :=
  let kind := s.trainKind
  let pos := match s.rx.adc.head? with | some e => if e.kind = kind then e.pos + 1 else 0 | none => 0
  let old := match s.rx.adc with | e :: t => { e with cap := s.rx.ctl.iterCap } :: t | [] => []
  let adc := if s.pwr.state = .dormant then Quad.all [] else adc
  { s with rx := { s.rx with adc := ({ no := s.eng.period, adc := adc, kind := kind, pos := pos } :: old).take 6 } }

/-- The fast gain loop runs on what entered, in the partner's T1 turns, in T2 and in the acquisition intervals of wakes (R84, Table 5-7). -/
def State.acquireGain (s : State) : State :=
  let e := s.rxPeriod 0
  let run := e.kind = 2 || e.kind = 3 || (s.rx.gainRun && s.ql.run.rxState = 2)
  let s1 : State := if e.kind = 2 && e.pos = 0 then { s with rx := { s.rx with pair := s.rx.pair.map (·.gainStart) } } else s
  let s2 := if run then s1.runGain (if s.nativeMode then e.adc.map fit1024 else e.adc) else s1
  { s2 with rx := { s2.rx with gainPos := 0 } }

/-- A step that halves from a start value down to 1. -/
def halving (start n : Nat) : Rat := max 1 ((start : Rat) / (2 ^ n : Nat))

/-- Steps of an interval after some periods (Table 5-7). -/
def trainSteps (kind pos : Nat) : Steps :=
  match kind with
  | 1 => ⟨0, 64, 64, 0⟩
  | 2 => ⟨16, 0, 0, 0⟩
  | 3 => ⟨64, 8, 8, 16⟩
  | 4 => ⟨16, 4, 4, 8⟩
  | 5 => let n := pos / 1024; ⟨halving 16 n, halving 4 n, halving 4 n, halving 16 n⟩
  | 6 => let n := pos / 256; ⟨halving 4 n, halving 4 n, halving 4 n, halving 4 n⟩
  | _ => ⟨0, 0, 0, 0⟩

/-- Decisions of a training period: PAM-2 until T2, PAM-2 modulo 32 in T3, DSQ-128 after it (R164, R166). Training adapts on its decisions (DESIGN CHOICE, log
entry 83: the spec gives the steps, not the reference of the error). -/
def trainDecisions (kind : Nat) (u : List Rat) (missing : BitVec 16) : List Int :=
  match kind with
  | 5 | 6 => tentative u missing
  | 2 | 3 | 4 => u.zipIdx.map (fun v =>
      if missing.getLsbD (v.2 / 64) then 0
      else if kind = 4 then (if |mod32 (v.1 - 15)| ≤ |mod32 (v.1 + 15)| then 15 else -15)
      else if v.1 < 0 then -15 else 15)
  | _ => List.replicate 1024 0

/-- Errors of a training period: against nothing in the own turns of T1, where only echo and NEXT are heard, else against the decisions. -/
def trainErrors (kind : Nat) (y : List Rat) (d : List Int) : List Rat :=
  if kind ≤ 1 then y else List.zipWith (fun v (a : Int) => if kind ≤ 3 then v - a else mod32 (v - a)) y d

/-- What an interval of training lets a pair learn (Table 5-7). -/
def trainLearning (kind pos : Nat) (erased : BitVec 16) : Learning :=
  { steps := if erased = 0 then some (trainSteps kind pos) else none, gain := erased = 0 && 4 ≤ kind, mse := erased = 0 && 5 ≤ kind
    loops := erased ≠ 0xFFFF && 4 ≤ kind }

/-- Training on the receive period whose adaptation window opens: updates come into force, and new ones are drawn with the steps of Table 5-7 (R106, R170). -/
def State.trainIn (s : State) : State :=
  let e := s.rxPeriod 2
  let s1 : State := { s with rx := { s.rx with pair := s.rx.pair.map (·.takeUpdates) } }
  if e.kind = 0 then { s1 with rx := { s1.rx with pair := s1.rx.pair.map (·.rest) } }
  else
    let us : Quad (List Rat) := (⟨0, 1, 2, 3⟩ : Quad Pair).map (fun p => s1.combined p 2)
    let ds := us.mapIdx (fun p u => trainDecisions e.kind u (s1.rx.pair.at p).missing)
    { s1 with rx := { s1.rx with pair := s1.rx.pair.mapIdx (fun p x =>
      if s1.activePair p then
        s1.learn p 2 (us.at p) (trainErrors e.kind (List.zipWith (· - ·) (us.at p) (s1.fext p ds)) (ds.at p)) ds (trainLearning e.kind e.pos x.eraseR) x
      else x.rest) } }

/-- What the loopback brings of the period that ends to the estimates of every pair (R238). -/
def State.loopbackIn (s : State) : State :=
  pairs.foldl (fun st p => (st.sampleAdc p 0 true).observeProbe p 0 (meanPowerOf (fit1024 ((s.rxPeriod 0).adc.at p)))) s

/-- TIMELINE_BOUNDARY: what the engines did in the period that ends, the samples that entered in it, the period count, detents, and the period sent
(R83, R125). It comes before the DECODE_RELEASE of the same instant (log entry 82). -/
def execTimelineBoundary (ls : List EngineLoad) (adc : Quad (List Int)) (s : State) : Host.Outcome State Fault Refusal :=
  .next <|
    if s.heldReset then s
    else
      let s1 := ((s.recordLoad ls).enterPeriod adc).acquireGain
      let s2 := s1.modEng (fun g => { g with period := g.period + 1, cycle := 0 })
      let s3 : State := { s2 with rx := { s2.rx with pair := s2.rx.pair.map (·.nextPeriod) } }
      let s4 := if 4 ≤ s3.link.state && s3.link.state ≤ 9 && !s3.lc.run.rxOn && s3.nativeMode then s3.trainIn else s3
      let s5 := if s4.link.state = 0 && s4.cal.run.isSome then s4.loopbackIn else s4
      s5.openEngines.calTick.txPeriod

end Sys2Proof.Machine
end

