-- ==== Sys2Proof/Machine/InfoField.lean ====
section
/-! DEFINITION. InfoField messages received: assembly from slices, acknowledgement, and what each message does (02_native_line_code R75 to R79; 05_negotiation R163, R171, R179). -/

namespace Sys2Proof.Machine

/-- Change the training in progress. -/
def State.modTrain (s : State) (f : Train → Train) : State := s.modLink (fun l => { l with train := f l.train })

/-- The bits of a whole message; none: a slice is lost. -/
def joinSlices (w : Nat) : List (Option Nat) → Option Nat
  | [] => some 0
  | none :: _ => none
  | some v :: t => (joinSlices w t).map (fun r => v % 2 ^ w + 2 ^ w * r)

/-- A message is whole: accepted and queued for its row (NULL has none), or discarded (R77). -/
def State.messageIn (s : State) (kn : Bool) (slices : List (Option Nat)) (seq : Nat) : State :=
  match joinSlices (sliceWidth kn) slices with
  | some m =>
    if msgOk m then
      (s.modLc (fun c => { c with ifRx := inc 32 c.ifRx })).modRun (fun r => { r with ifMsgs := if m = 0 then r.ifMsgs else r.ifMsgs ++ [(m, seq)] })
    else s.modLc (fun c => { c with ifDrop := inc 32 c.ifDrop })
  | none => s.modLc (fun c => { c with ifDrop := inc 32 c.ifDrop })

/-- A message whose slices do not all come in consecutive periods of one form is discarded (R77). -/
def State.dropPartial (s : State) : State :=
  match s.lc.run.ifIn with
  | some _ => (s.modRun (fun r => { r with ifIn := none })).modLc (fun c => { c with ifDrop := inc 32 c.ifDrop })
  | none => s

/-- The INFO bits of a received period, or none where its header or word is not valid (R75, R77). A slice out of its place ends the message that has begun. -/
def State.sliceIn (s : State) (kn : Bool) (seq : Nat) (info : Option Nat) : State :=
  match sliceIndex kn seq with
  | none => s
  | some i =>
    let s0 := if s.lc.run.ifIn.any (fun l => l.length ≠ i) then s.dropPartial else s
    let sofar := if i = 0 then some [] else s0.lc.run.ifIn
    match sofar with
    | none => s0
    | some l =>
      let l1 := l ++ [info]
      if i + 1 < sliceCount kn then s0.modRun (fun r => { r with ifIn := some l1 })
      else (s0.modRun (fun r => { r with ifIn := none })).messageIn kn l1 seq

/-- The oldest accepted message, when it is of a TYPE. -/
def State.frontMsg (s : State) (typ : Nat) : Option (Nat × Nat) :=
  match s.lc.run.ifMsgs with
  | m :: _ => if msgType m.1 = typ then some m else none
  | [] => none

/-- The oldest accepted message has been acted on. -/
def State.popMsg (s : State) : State := s.modRun (fun r => { r with ifMsgs := r.ifMsgs.drop 1 })

/-- Queue the ACK of a message, which then is the one accepted last (R78). -/
def State.ackMessage (s : State) (m : Nat) (nak : Bool) : State :=
  s.modRun (fun r => { r with ifAcks := r.ifAcks ++ [ackMsg (msgType m) (msgSeq m) nak], ifLast := some (msgType m, msgSeq m, nak) })

/-- The answer given to a message that repeats the one accepted last. -/
def State.repeated (s : State) (m : Nat) : Option Bool :=
  match s.lc.run.ifLast with
  | some (t, q, nak) => if t = msgType m && q = msgSeq m then some nak else none
  | none => none

/-- Act on the oldest accepted message of a TYPE: a repeated one is acknowledged again and not applied again (R78). -/
def State.onMessage (s : State) (typ : Nat) (apply : Nat → Nat → State → State × Bool) : State :=
  match s.frontMsg typ with
  | none => s
  | some (m, seq) =>
    match s.repeated m with
    | some nak => s.popMsg.ackMessage m nak
    | none => let r := apply m seq s.popMsg; r.1.ackMessage m r.2

/-- The taps of a THP_COEF in the staged set; another SET clears and relabels it (R79). -/
def Precoder.stage (x : Precoder) (m : Nat) : Precoder :=
  let first := bitsAt m 8 6
  let set := bitsAt m 15 2
  let base : Precoder := if set = x.stgSet then x else { x with stgSet := set, stgSeen := 0, stgTaps := [] }
  let old := base.stgTaps ++ List.replicate (48 - base.stgTaps.length) 0
  let taps := [toInt 14 (bitsAt m 17 14), toInt 14 (bitsAt m 31 14), toInt 14 (bitsAt m 45 14)]
  { base with
    stgSeen := base.stgSeen ||| BitVec.twoPow 16 ((first - 1) / 3)
    stgTaps := old.take (first - 1) ++ taps ++ old.drop (first + 2) }

/-- The staged set is full with a label. -/
def Precoder.fullWith (x : Precoder) (set : Nat) : Bool := x.stgSet = set && x.stgSeen = 0xFFFF

/-- A set comes into force (R56, R79). -/
def Precoder.activate (x : Precoder) (set : Nat × List Int) : Precoder := { x with activeOn := true, actSet := set.1, taps := set.2 }

/-- What a switch of some pairs at AT_SEQ brings into force: the staged sets as they are when it is accepted (R79). -/
def State.switchOf (s : State) (ps : BitVec 4) (at' : Nat) : Switch :=
  { at' := at', sets := s.lc.pre.mapIdx (fun p x => if ps.getLsbD p then some (x.stgSet, x.stgTaps) else none) }

/-- THP_COEF: taps for a pair's staged set. -/
def execThpCoef (s : State) : Host.Outcome State Fault Refusal :=
  .next (s.onMessage 1 (fun m _ st =>
    let p : Pair := ⟨bitsAt m 6 2, by unfold bitsAt; omega⟩
    ({ st with lc := { st.lc with pre := st.lc.pre.upd p (·.stage m) } }, false)))

/-- THP_SWITCH: applied to all its pairs at AT_SEQ, or to none (R79). -/
def execThpSwitch (s : State) : Host.Outcome State Fault Refusal :=
  .next (s.onMessage 2 (fun m seq st =>
    let at' := bitsAt m 12 8
    let ps : BitVec 4 := BitVec.ofNat 4 (bitsAt m 6 4)
    let d := (at' + 256 - seq % 256) % 256
    let ok := 4 ≤ d && d ≤ 128 && pairs.all (fun p => !ps.getLsbD p || (st.lc.pre.at p).fullWith (bitsAt m 10 2))
    if ok then
      (State.modTrain { st with lc := { st.lc with lastAt := at', run := { st.lc.run with pendSwitch := st.lc.run.pendSwitch ++ [st.switchOf ps at'] } } } (fun t => { t with farSwitch := true }), false)
    else (st, true)))

/-- ACK: the message of this end that it answers is no longer outstanding. A switch that was not applied restarts from the switch
(R78, R79, R171). -/
def execAck (s : State) : Host.Outcome State Fault Refusal :=
  .next <|
    match s.frontMsg 3 with
    | none => s
    | some (m, _) =>
      let s1 := s.popMsg
      match s1.lc.run.ifOut with
      | none => s1
      | some o =>
        if msgType o.msg = bitsAt m 8 6 && msgSeq o.msg = bitsAt m 14 4 then
          let nak := bitAt m 18
          let s2 := s1.modRun (fun r => { r with
            ifOut := none
            ifQueue := if nak && msgType o.msg = 2 then switchMsg (bitsAt o.msg 6 4) (bitsAt o.msg 10 2) 0 0 :: r.ifQueue else r.ifQueue })
          s2.modTrain (fun t => { t with
            switchAcked := t.switchAcked || (msgType o.msg = 2 && !nak)
            idAcked := t.idAcked || (msgType o.msg = 4 && !nak) })
        else s1

/-- PEER_ID: recorded in PARTNER; a partner other than that of the last link resets the ladder at the next negotiation (R179). The
comparison leaves MSEQ out (DEDUCED, log entry 17). -/
def execPeerId (s : State) : Host.Outcome State Fault Refusal :=
  .next (s.onMessage 4 (fun m _ st =>
    let id := m % 2 ^ 59
    let other := match st.link.lastPeerId with | some x => decide (x ≠ id) | none => false
    (st.modLink (fun l => { l with
      partner := { l.partner with peerId := m }, lastPeerId := some id, resetDue := l.resetDue || other
      train := { l.train with idSeen := true } }), false)))

/-- Periods without an ACK after which a message is sent again (R78). -/
def retryPeriods (kn : Bool) : Nat := if kn then 96 else 16

/-- What an abandoned message's procedure sends again (R171): a THP_COEF its pair's sixteen messages, any other message itself. -/
def State.resend (s : State) (m : Nat) : List Nat :=
  let bare := m % 2 ^ 59
  if msgType m = 1 then
    let pair := bitsAt m 6 2
    let set := bitsAt m 15 2
    let taps := freeCoefficients (s.draws + 1)
    let tap := fun (k : Nat) => ofInt 14 (taps.getD (48 * pair + k - 1) 0)
    (List.range 16).map (fun j => coefMsg pair (3 * j + 1) set (tap (3 * j + 1)) (tap (3 * j + 2)) (tap (3 * j + 3)) 0)
  else if msgType m = 2 then [switchMsg (bitsAt bare 6 4) (bitsAt bare 10 2) 0 0]
  else [bare]

/-- The 16 THP_COEF of every far pair, the switch and PEER_ID that T3 sends (R166); the taps are what the receiver found: free values. -/
def State.coefQueue (s : State) : List Nat :=
  let taps := freeCoefficients s.draws
  let tap := fun (p k : Nat) => ofInt 14 (taps.getD (48 * p + k - 1) 0)
  pairs.flatMap (fun p => (List.range 16).map (fun j => coefMsg p (3 * j + 1) 0 (tap p (3 * j + 1)) (tap p (3 * j + 2)) (tap p (3 * j + 3)) 0)) ++
    [switchMsg 0xF 0 0 0, peerMsg s.fuse.part.code (s.fuse.part.capsValue % 64) (s.runSlot.fwver / 65536) 0]

/-- INFOFIELD_RETRY: no ACK in time; the message goes out again, or is abandoned after 8 sends (R78, R171). -/
def execInfofieldRetry (s : State) : Host.Outcome State Fault Refusal :=
  .next <|
    let kn := s.kn.run.txForm
    match s.lc.run.ifOut with
    | none => s
    | some o =>
      if o.sends = 0 || o.due || s.lc.run.ifNow = some o.msg || o.waited < retryPeriods kn then s
      else if 8 ≤ o.sends then
        let rest := s.lc.run.ifQueue.filter (fun m => !(msgType o.msg = 1 && msgType m = 1 && bitsAt m 6 2 = bitsAt o.msg 6 2))
        let again := if s.link.state = 6 || s.link.state = 9 then s.resend o.msg else []
        let s1 := (s.modRun (fun r => { r with ifOut := none, ifQueue := again ++ rest })).modLc (fun c => { c with ifFail := inc 32 c.ifFail })
        ((s1.drawn.drawn).logEntry unitLine 3 kindFault 5 0x2B (msgType o.msg)).raiseEvent evLink
      else
        (s.modRun (fun r => { r with ifOut := some { o with due := true } })).modLc (fun c => { c with ifRetry := inc 32 c.ifRetry })

/-- The pairs that a switch names take their sets; the shed pair keeps its own (R56). -/
def State.applySwitch (s : State) (x : Switch) : State :=
  { s with lc := { s.lc with pre := s.lc.pre.mapIdx (fun p k => match x.sets.at p with
    | some set => if s.kn.run.txForm && s.kn.shed = p then k else k.activate set
    | none => k) } }

/-- The transmit sequence that AT_SEQ names: in training it is TSEQ (R163). -/
def State.switchSeq (s : State) : Nat := if s.link.state = 8 then s.lc.run.txSeq else s.link.train.tseq

/-- THP_SET_ACTIVATE: at AT_SEQ the sets of the accepted switches become active (R56, R79). -/
def execThpSetActivate (s : State) : Host.Outcome State Fault Refusal :=
  .next <|
    let due := s.lc.run.pendSwitch.filter (fun x => x.at' = s.switchSeq)
    due.foldl State.applySwitch (s.modRun (fun r => { r with pendSwitch := r.pendSwitch.filter (fun x => x.at' ≠ s.switchSeq) }))

/-! ### Objects 0x0120 to 0x012B (R62, R80, R81) -/

/-- 0x0120 TX_SHAPE_CTL. -/
def State.shapeImage (s : State) : List (Nat × Nat) :=
  let x := s.lc.stored
  [(3, x.mask100), (3, x.mask50), (2, 0), (4, x.firEn.toNat), (5, x.mainTap), (7, 0), (8, x.backoff),
    (8, min 255 ((s.lc.effBackoff.toList).foldl max 0)), (1, b2n s.lc.shapePend), (23, 0)]

/-- 0x0121 to 0x0124. -/
def State.firImage (s : State) (p : Pair) : List (Nat × Nat) := (s.lc.stored.fir.at p).map (fun f => (16, ofInt 16 f))

/-- 0x0125 USER_MASK. -/
def State.maskImage (s : State) : List (Nat × Nat) :=
  let x := s.lc.stored
  [(8, x.count), (24, 0)] ++ (List.range 16).flatMap (fun q => [(16, x.freq.getD q 0), (16, ofInt 16 (x.level.getD q 0))])

/-- A TX_SHAPE_CTL that may be stored (R62). -/
def shapeOk (v : Nat) : Bool :=
  bitsAt v 0 3 ≤ 4 && bitsAt v 3 3 ≤ 4 && bitsAt v 6 2 = 0 && bitsAt v 17 7 = 0 && bitsAt v 24 8 ≤ 60 && v / 2 ^ 41 = 0

/-- Store TX_SHAPE_CTL; its read-only fields are ignored. -/
def State.storeShapeCtl (s : State) (v : Nat) : State :=
  s.storeShape (fun x => { x with
    mask100 := bitsAt v 0 3, mask50 := bitsAt v 3 3, firEn := BitVec.ofNat 4 (bitsAt v 8 4), mainTap := bitsAt v 12 5, backoff := bitsAt v 24 8 })

/-- Store the FIR of a pair. -/
def State.storeFir (s : State) (p : Pair) (bs : List Byte) : State :=
  s.storeShape (fun x => { x with fir := x.fir.put p ((List.range 32).map (fun k => toInt 16 (leAt bs (2 * k) 2))) })

/-- Strictly rising. -/
def rising : List Nat → Bool
  | a :: b :: t => a < b && rising (b :: t)
  | _ => true

/-- A user mask that may be stored (R59). -/
def maskOk (bs : List Byte) : Bool :=
  let n := leAt bs 0 1
  let f := (List.range 16).map (fun q => leAt bs (4 + 4 * q) 2)
  let l := (List.range 16).map (fun q => toInt 16 (leAt bs (6 + 4 * q) 2))
  leAt bs 1 3 = 0 && 2 ≤ n && n ≤ 16 && rising (f.take n) && f.getD 0 0 = 1 && f.getD (n - 1) 0 = 12000 &&
    (l.take n).all (fun x => decide (-1500 ≤ x) && decide (x ≤ -600)) && (f.drop n).all (· = 0) && (l.drop n).all (· = 0)

/-- Store USER_MASK. -/
def State.storeMask (s : State) (bs : List Byte) : State :=
  s.storeShape (fun x => { x with
    count := leAt bs 0 1, freq := (List.range 16).map (fun q => leAt bs (4 + 4 * q) 2)
    level := (List.range 16).map (fun q => toInt 16 (leAt bs (6 + 4 * q) 2)) })

/-- 0x0126 THP_STATUS. -/
def State.thpImage (s : State) : List (Nat × Nat) :=
  let x := s.lc.pre.toList
  x.map (fun k => (1, b2n k.activeOn)) ++ x.map (fun k => (2, k.actSet)) ++ x.map (fun k => (1, b2n (k.stgSeen = 0xFFFF))) ++
    x.map (fun k => (2, k.stgSet)) ++ [(8, s.lc.lastAt), (32, 0)]

/-- 0x0127 to 0x012A: active taps. -/
def State.tapsImage (s : State) (p : Pair) : List (Nat × Nat) := (List.range 48).map (fun k => (16, ofInt 16 ((s.lc.pre.at p).taps.getD k 0)))

/-- 0x012B LC_COUNTERS. -/
def State.lcCountersImage (s : State) : List (Nat × Nat) :=
  let c := s.lc.cnt
  [c.hdrFail, c.seqMismatch, c.tagFail, c.resync, c.framesOk, c.framesErrored, c.discLost, c.discFcs, c.discChain, c.ifRx, c.ifDrop,
    c.ifRetry, c.ifFail, c.dacClip].map (fun n => (32, n)) ++ [(64, 0)]

end Sys2Proof.Machine
end

