-- ==== Sys2Proof/Machine/Receive.lean ====
section
/-! DEFINITION. What the end of a decode window releases: the receive chain's period, its codewords, the header, the deframer, and what the pairs learn from it;
and the drift guard (02 R63 to R74; 03 R95 to R123; 06 R198, R200 to R203, R211). `run.rxSeq` and `ql.run.farQc` name the receive period that is released next;
`rxPeriod 2` is that period. -/

namespace Sys2Proof.Machine

/-! ### The front end of the period released (R82, R94, R95) -/

/-- What blocks 4 to 10 make of a period: combined outputs, tentative decisions and final slicer inputs of each pair. -/
structure Front where
  u : Quad (List Rat)
  d : Quad (List Int)
  y : Quad (List Rat)
deriving DecidableEq, Repr

/-- The four pairs. -/
def fourPairs : Quad Pair := ⟨0, 1, 2, 3⟩

/-- Blocks 4 to 10 over the period released. -/
def State.front (s : State) : Front :=
  let us := fourPairs.map (fun p => s.combined p 2)
  let ds := us.mapIdx (fun p u => decisions s.link.mode u (s.rx.pair.at p).missing)
  { u := us, d := ds, y := us.mapIdx (fun p u => List.zipWith (· - ·) u (s.fext p ds)) }

/-! ### Codewords (R96 to R103) -/

/-- The noise figure that block 11 divides by: the MSE at the period's processing window, two updates ago (DEDUCED, log entry 82). -/
def RxPair.noise (x : RxPair) : Rat := x.mseLast.getD 2 x.mse

/-- Decode the codeword of a local pair (R96, R97, R99, R103). -/
def State.decodePair (s : State) (y : List Rat) (p : Pair) : WordOut :=
  let x := s.rx.pair.at p
  if 1 < popCount 16 x.eraseR.toNat then { res := .erased }
  else ldpcDecode (softValues y x.eraseR x.noise (keystream 3584 (scrambleSeed (s.link.map.far.at p) s.lc.run.rxSeq))) (s.rxPeriod 2).cap

/-- Count a codeword's outcome (R120). -/
def RxCounters.word (c : RxCounters) (w : WordOut) : RxCounters :=
  let b := fun (o : Outcome) => b2n (w.res = o)
  { c with
    total := inc 32 c.total, clean := satAdd 32 c.clean (b .clean), corr := satAdd 32 c.corr (b .corrected)
    noconv := satAdd 32 c.noconv (b .noConv), erased := satAdd 32 c.erased (b .erased), iterSum := satAdd 32 c.iterSum w.iters }

/-- Count a codeword on a pair's record. -/
def RxPair.countWord (x : RxPair) (w : WordOut) : RxPair := { x with cnt := x.cnt.word w }

/-- What the freeze rules let a pair learn from a data period whose codeword ended so (Table 3-4). `adapt`: data in T5, not a refresh window. -/
def RxPair.dataLearning (x : RxPair) (adapt good : Bool) : Learning :=
  let on := adapt && good && x.eraseR = 0
  { steps := if on then some {} else none, gain := on, mse := on, loops := x.eraseR ≠ 0xFFFF }

/-! ### The header (R66 to R68) -/

/-- Pairs that carry the received stream in a form, ordered by the transmitting pair's rank (R168). -/
def State.rxOrder (s : State) (kn : Bool) : List Pair :=
  let far := fun (p : Pair) => (s.link.map.far.at p).val
  sortBy (fun a b => far a ≤ far b) (pairs.filter (fun p => !(kn && s.kn.run.shed = p)))

/-- The header of a form, when every share was decoded. -/
def State.headerOf (s : State) (ws : Quad WordOut) (kn : Bool) : Option Nat :=
  let os := s.rxOrder kn
  if os.all (fun p => (ws.at p).good) then some (packNat (os.map (fun p => (16, (ws.at p).bits)))) else none

/-- A header is valid in a form. -/
def State.headerValid (s : State) (kn : Bool) (h : Nat) : Bool := headerCheck kn h && headerFieldsOk kn h && headerSeq kn h = s.lc.run.rxSeq

/-- A valid header's STATUS (R67), the run of QR = 0 since own quiet (R199), the partner's KA (R250), and its slice. -/
def State.headerIn (s : State) (kn : Bool) (h : Nat) : State :=
  let st := headerStatus kn h
  let vals := (List.range 6).map (fun i => bitsAt st i 1) ++ [bitsAt st 6 2]
  let ka := bitAt st 3
  let quietTx := s.ql.run.txState = 2 || s.ql.run.txState = 3
  let s1 := s.modRun (fun r => { r with stRx := List.zipWith FieldRx.step r.stRx vals, badRun := 0, lastValid := s.time })
  let s2 := s1.modQl (fun q => { q with farQr0 := if quietTx && !bitAt st 1 then q.farQr0 + 1 else 0 })
  let seen := ka != s2.kn.run.rxForm && s2.kn.run.rxAt.isNone
  let s3 : State := { s2 with kn := { s2.kn with run := { s2.kn.run with
    rxAt := if seen then some ((headerSeq kn h / 16 * 16 + 16) % 256) else s2.kn.run.rxAt
    formSearch := seen || (s2.kn.run.formSearch && s2.kn.run.rxAt.isSome) } } }
  s3.sliceIn kn s.lc.run.rxSeq (some (headerInfo kn h))

/-! ### The deframer (R69 to R74) -/

/-- A discarded item is counted under its cause. -/
def State.discard (s : State) (f : LcCounters → LcCounters) : State := (s.modLc f).dropItem

/-- The item is complete (R73 rules 1 and 5). -/
def State.finishItem (s : State) : State :=
  match s.lc.item with
  | none => s
  | some it =>
    let s1 : State := { s with lc := { s.lc with item := none } }
    if it.isIdle then s1
    else if it.padLost || it.bytes.any Option.isNone then s.discard (fun c => { c with discLost := inc 32 c.discLost })
    else
      let bs := presentBytes it.bytes
      if !fcsOk bs then s.discard (fun c => { c with discFcs := inc 32 c.discFcs })
      else
        let s2 := s1.modLc (fun c => { c with framesOk := inc 32 c.framesOk })
        let body := bs.take (bs.length - 4)
        if it.isFrame then State.frameSeen { s2 with kw := { s2.kw with arrived := s2.kw.arrived ++ [{ bytes := body.map some, stamp := it.stamp, cls := it.cls }] } }
        else { s2 with lc := { s2.lc with oamIn := s2.lc.oamIn ++ [body] } }

/-- The chain is lost: the deframer searches. -/
def State.enterSearch (s : State) : State := s.modRun (fun r => { r with tag := [], search := true })

/-- A tag with lost bytes whose TYPE arrived and names a frame or an OAM item (R73 rule 1; DEDUCED, log entry 88: without its TYPE the item is not known to be
one of the two, and counts nowhere). -/
def tagNamesItem (tag : List (Option Byte)) : Bool := match tag.getD 2 none with | some b => b.toNat % 4 < 2 | none => false

/-- Four tag bytes are in: an item begins, or the search (R70, R73 rules 1 and 2). -/
def State.beginItem (s : State) (tag : List (Option Byte)) (stamp : Nat) : State :=
  if tag.any Option.isNone then
    (if tagNamesItem tag then s.modLc (fun c => { c with discLost := inc 32 c.discLost, framesErrored := inc 32 c.framesErrored }) else s).enterSearch
  else match readTag (presentBytes tag) with
    | none => (s.modLc (fun c => { c with tagFail := inc 32 c.tagFail })).enterSearch
    | some (typ, len) =>
      let s1 := s.modRun (fun r => { r with tag := [] })
      let it : RxItem := { isFrame := decide (typ = 0), isIdle := decide (typ = 3), len := len, bytes := [], pad := itemSize len - 4 - len, stamp := stamp }
      { s1 with lc := { s1.lc with item := some it } }

/-- Follow the tag chain through the bytes of a period from a position on (R71, R73). `at'`: the instant at which a byte's point crossed
the MDI. -/
def State.deframe (at' : Nat → Nat) : Nat → Nat → List (Option Byte) → State → State
  | 0, _, _, s => s
  | _, _, [], s =>
    match s.lc.item with
    | some it => if it.bytes.length = it.len && it.pad = 0 then s.finishItem else s
    | none => s
  | fuel + 1, off, bs, s =>
    if s.lc.run.search then s
    else match s.lc.item with
    | some it =>
      let need := it.len - it.bytes.length
      if 0 < need then
        let n := min need bs.length
        State.deframe at' fuel (off + n) (bs.drop n) { s with lc := { s.lc with item := some { it with bytes := it.bytes ++ bs.take n } } }
      else if 0 < it.pad then
        let n := min it.pad bs.length
        State.deframe at' fuel (off + n) (bs.drop n)
          { s with lc := { s.lc with item := some { it with pad := it.pad - n, padLost := it.padLost || (bs.take n).any Option.isNone } } }
      else State.deframe at' fuel off bs s.finishItem
    | none =>
      let had := s.lc.run.tag
      let n := min (4 - had.length) bs.length
      let stamp := if had = [] then at' off else s.lc.run.tagStamp
      let tag := had ++ bs.take n
      if tag.length < 4 then s.modRun (fun r => { r with tag := tag, tagStamp := stamp })
      else State.deframe at' fuel (off + n) (bs.drop n) (s.beginItem tag stamp)

/-- First tag position that the chain places in a period of n bytes: a position, none in this period, or lost (R73 rule 4). -/
def State.chainTag (s : State) (bs : List (Option Byte)) (n : Nat) : Option Nat :=
  let pos := match s.lc.item with
    | some it => it.len - it.bytes.length + it.pad
    | none =>
      if s.lc.run.tag = [] then 0
      else
        let m := 4 - s.lc.run.tag.length
        let tag := s.lc.run.tag ++ bs.take m
        match (if tag.any Option.isNone then none else readTag (presentBytes tag)) with
        | some (_, len) => m + itemSize len - 4
        | none => n
  if pos < n then some pos else none

/-- A tag begun in the last period that this period's bytes do not complete to a good tag (R73 rule 2). -/
def State.tagBroken (s : State) (bs : List (Option Byte)) : Bool :=
  s.lc.item.isNone && s.lc.run.tag ≠ [] &&
    (let tag := s.lc.run.tag ++ bs.take (4 - s.lc.run.tag.length)
     tag.any Option.isNone || (readTag (presentBytes tag)).isNone)

/-- The item, or the tag, in progress is overruled by FIRST_TAG (R73 rule 4). -/
def State.overrule (s : State) (bs : List (Option Byte)) : State :=
  let s0 := match s.lc.item with
    | some _ => s
    | none => if s.lc.run.tag = [] then s else s.beginItem (s.lc.run.tag ++ bs.take (4 - s.lc.run.tag.length)) s.lc.run.tagStamp
  let s1 := match s0.lc.item with
    | some it => if it.isIdle then { s0 with lc := { s0.lc with item := none } } else s0.discard (fun c => { c with discChain := inc 32 c.discChain })
    | none => s0
  s1.modRun (fun r => { r with tag := [] })

/-- Resume parsing at FIRST_TAG, or search where it names no tag. -/
def State.resumeAt (s : State) (at' : Nat → Nat) (first : Nat) (bs : List (Option Byte)) : State :=
  if first = 0x7FF then s.enterSearch
  else State.deframe at' 4000 first (bs.drop first) (s.modRun (fun r => { r with search := false, tag := [] }))

/-- A period's payload, with FIRST_TAG where its header is valid (R73). -/
def State.payloadIn (s : State) (at' : Nat → Nat) (bs : List (Option Byte)) (first : Option Nat) : State :=
  match first with
  | none => State.deframe at' 4000 0 bs s
  | some f =>
    let search := s.lc.run.search || s.tagBroken bs
    if search then
      let s1 := if s.lc.run.search then s else s.beginItem (s.lc.run.tag ++ bs.take (4 - s.lc.run.tag.length)) s.lc.run.tagStamp
      if f = 0x7FF then s1 else (s1.modLc (fun c => { c with resync := inc 32 c.resync })).resumeAt at' f bs
    else if (s.chainTag bs bs.length).getD 0x7FF = f then State.deframe at' 4000 0 bs s
    else (s.overrule bs).resumeAt at' f bs

/-! ### Periods -/

/-- The payload bytes of a period: lost where their codeword is flagged. -/
def State.payloadOf (s : State) (ws : Quad WordOut) (kn : Bool) : List (Option Byte) :=
  (s.rxOrder kn).flatMap (fun p =>
    let w := ws.at p
    if w.good then (leBytes 398 (w.bits / 65536)).map some else List.replicate 398 none)

/-- Instant at which the point of payload byte `off` crossed the MDI, from the release at the end of D_k (R83, R347). -/
def State.crossed (s : State) (kn : Bool) (off : Nat) : Nat :=
  let t := periodNs s.link.mode
  let p := (s.rxOrder kn).getD (off / 398) 0
  s.time - (3 * t + 30) + byteNs off t - s.link.map.delay.at p * t / 1024

/-- The form in which a period is taken: the one in force, or in a form search the other one when only its header is valid (R250). -/
def State.takenForm (s : State) (ws : Quad WordOut) : Bool :=
  let now := s.kn.run.rxForm
  let ok := fun (kn : Bool) => match s.headerOf ws kn with | some h => s.headerValid kn h | none => false
  if s.kn.run.formSearch && 4 ≤ s.lc.run.badRun && !ok now && ok (!now) then !now else now

/-- The receive direction takes a form at the period released next (R250). -/
def State.takeRxForm (s : State) (kn : Bool) : State :=
  State.formsChanged (State.dropPartial { s with kn := { s.kn with rxSwitch := s.lc.run.rxSeq, run := { s.kn.run with rxForm := kn, rxAt := none } } })

/-- What the period released shows to the estimates of the pairs: samples of every pair that contributes, and the residual of probes (R228 to R230). -/
def State.calPeriod (s : State) (f : Front) (part : Pair → Bool) : State :=
  pairs.foldl (fun st p => (st.sampleAdc p 2 (part p)).observeProbe p 2 (meanSquare (errorsOf s.link.mode (f.u.at p) (f.d.at p)))) s

/-- A pair after the data period released: its outcome counted, its loops and its update (R106, R107, R113). -/
def State.learnData (s : State) (f : Front) (ws : Quad WordOut) (adapt : Bool) (p : Pair) (x : RxPair) : RxPair :=
  let w := ws.at p
  let sent := pointSymbols (scramble w.bits s.lc.run.rxSeq (s.link.map.far.at p).val) 0 512
  (s.learn p 2 (f.u.at p) (errorsOf s.link.mode (f.y.at p) sent) f.d (x.dataLearning adapt w.good) x).countWord w

/-- The shed pair in its pair training learns with the steps of a fast retrain from training periods of PHASE 4 (R254). -/
def State.learnShed (s : State) (f : Front) (p : Pair) (x : RxPair) : RxPair :=
  let pos := (s.time - s.kn.run.trainSince) / periodNs s.link.mode
  if s.kn.state = 3 then s.learn p 2 (f.u.at p) (errorsOf s.link.mode (f.y.at p) (f.d.at p)) f.d (trainLearning 6 pos x.eraseR) x else x.rest

/-- Every pair after a native data period in a form. -/
def State.learnPeriod (s : State) (f : Front) (ws : Quad WordOut) (adapt : Bool) (order : List Pair) : State :=
  { s with rx := { s.rx with pair := s.rx.pair.mapIdx (fun p x => if order.contains p then s.learnData f ws adapt p x else s.learnShed f p x) } }

/-- A native period decoded as data. `adapt`: the freeze rules let it adapt. -/
def State.dataIn (s : State) (adapt : Bool) : State :=
  let f := s.front
  let ws : Quad WordOut := fourPairs.map (fun p => s.decodePair (f.y.at p) p)
  let kn := s.takenForm ws
  let s0 : State := if kn = s.kn.run.rxForm then s
    else State.takeRxForm { s with kn := { s.kn with formSearches := inc 8 s.kn.formSearches, run := { s.kn.run with formSearch := false } } } kn
  let s1 := (s0.learnPeriod f ws adapt (s0.rxOrder kn)).calPeriod f (fun _ => true)
  let hdr := s1.headerOf ws kn
  let valid := match hdr with | some h => s1.headerValid kn h | none => false
  let h := hdr.getD 0
  let s2 := if valid then s1.headerIn kn h
    else
      let wrong := match hdr with | some h => headerCheck kn h && headerSeq kn h ≠ s1.lc.run.rxSeq | none => false
      ((s1.modLc (fun c => { c with hdrFail := inc 32 c.hdrFail, seqMismatch := if wrong then inc 32 c.seqMismatch else c.seqMismatch })).modRun
        (fun r => { r with badRun := r.badRun + 1 })).sliceIn kn s1.lc.run.rxSeq none
  s2.payloadIn (s2.crossed kn) (s2.payloadOf ws kn) (if valid then some (headerFirst kn h) else none)

/-- The header of the period just taken was valid. -/
def State.lastGood (s : State) : Bool := s.lc.run.badRun = 0

/-- The receive sequence and the partner's quiet count move on. -/
def State.nextRx (s : State) : State :=
  (s.modRun (fun r => { r with rxSeq := (r.rxSeq + 1) % 256 })).modQl (fun q => { q with
    farQc := q.farQc.map (· + 1)
    waitFar := if (q.txState = 2 || q.txState = 3) && q.farQc.isNone then q.waitFar + 1 else q.waitFar })

/-- Both directions of this end are quiet or in a refresh window (R39, R194). -/
def State.judgeQuiet (s : State) : State :=
  let tx := s.ql.run.txState = 2 || s.ql.run.txState = 3
  let rx := s.ql.run.rxState = 1 || s.ql.run.rxState = 5
  if tx && rx && s.pwr.state = .active then { s with pwr := { s.pwr with state := .quietLatch } } else s

/-- The stream has a gap: the item chain restarts at the next period, and a message whose slices are not all in is dropped (R77, R198). -/
def State.gapChain (s : State) : State := s.dropItem.dropPartial.modRun (fun r => { r with tag := [], search := false })

/-- The present receive period's end as a symbol count (R88). -/
def State.nowSymbol (s : State) : Nat := 1024 * s.eng.period

/-- The partner's burst or data has ended: the phase loop holds from here (R88, R90). -/
def State.holdPhase (s : State) : State := { s with rx := { s.rx with burstEnd := s.nowSymbol } }

/-- The partner's quiet period 0 (R198). -/
def State.farQuiet (s : State) : State :=
  ((s.holdPhase.gapChain).modQl (fun q => { q with rxState := 1, farQc := some 0, missRow := 0, use := s.ql.ctl })).judgeQuiet

/-- This period is the partner's quiet period 0: its QR is 1, the sequence fits, and the mean power of every active pair over the period is below
ONSET_LEVEL. -/
def State.quietZero (s : State) : Bool :=
  s.statusRx 1 = 1 && s.link.qlOk && s.lc.run.rxSeq % 16 = 0 &&
    s.activePairs.all (fun p => !s.powerAtLeast p (fit1024 ((s.rxPeriod 2).adc.at p)) s.ql.ctl.onset)

/-- Every pair draws nothing from the period released, and no sample of it counts (R107, R229). -/
def State.restPeriod (s : State) : State :=
  pairs.foldl (fun st p => st.sampleAdc p 2 false) { s with rx := { s.rx with pair := s.rx.pair.map (·.rest) } }

/-- What a lead or content period of a refresh window lets a pair learn: in content a quarter of the tracking step, clipped (R107, R108, Table 6-1a). -/
def RxPair.refreshLearning (x : RxPair) (content : Bool) : Learning :=
  let on := content && x.eraseR = 0
  { steps := if on then some ⟨1 / 4, 1 / 4, 1 / 4, 1 / 4⟩ else none, clip := true, mse := on, loops := x.eraseR ≠ 0xFFFF }

/-- A lead or content period of the partner's refresh window (R200, R201): known training symbols. -/
def State.contentIn (s : State) (content : Bool) : State :=
  let f := s.front
  let seq := s.lc.run.rxSeq
  let word := trainingWord 4 true (!s.link.role) false seq 0 0
  State.calPeriod (part := fun _ => true) (f := f) { s with rx := { s.rx with pair := s.rx.pair.mapIdx (fun p x =>
    if s.activePair p then
      s.learn p 2 (f.u.at p) (errorsOf s.link.mode (f.y.at p) (trainingSymbols (s.link.map.far.at p).val 4 word seq)) f.d (x.refreshLearning content) x
    else x.rest) } }

/-- The end of the partner's refresh window (R203, R223). -/
def State.endFarWindow (s : State) : State :=
  let got := s.ql.run.winHdr
  (s.holdPhase.gapChain.modQl (fun q => { q with rxState := 1, use := s.ql.ctl, missRow := if got then 0 else q.missRow + 1 })).modQlCnt (fun c =>
    { c with refreshRx := if got then inc 32 c.refreshRx else c.refreshRx, refreshMiss := if got then c.refreshMiss else inc 32 c.refreshMiss })

/-- A period of a quiet receive direction: silence, or a part of the partner's refresh window (R200 to R203). -/
def State.quietIn (s : State) : State :=
  let ri := if s.link.mode = some 0 then 1562 else 781
  let k := s.ql.run.farQc.getD 0
  let i := k % ri
  let inWin := ri ≤ k && i < 48
  let s1 := if inWin && i = 0 && s.ql.run.rxState = 1 then s.modQl (fun q => { q with rxState := 5, winHdr := false }) else s
  if s1.ql.run.rxState ≠ 5 then s1.restPeriod
  else if i < 32 then
    let s2 := s1.contentIn (2 ≤ i)
    { s2 with rx := { s2.rx with dgRefresh := s2.rx.dgRefresh || i = 31 } }
  else
    let s2 := s1.dataIn false
    let s3 := s2.modQl (fun q => { q with winHdr := q.winHdr || s2.lastGood })
    if i = 47 then s3.endFarWindow else s3

/-- A period of a reception after its sync word (R210, R211). -/
def State.settleIn (s : State) : State :=
  match s.ql.run.rx with
  | none => s.restPeriod
  | some r =>
    if 0 < r.lead then s.restPeriod.modQl (fun q => { q with rx := some { r with lead := r.lead - 1 } })
    else
      let s1 := s.dataIn true
      s1.modQl (fun q => { q with rx := some { r with settle := r.settle + 1, hdr := r.hdr || s1.lastGood } })

/-- The receive direction is in data again; a transmit direction that is still quiet wakes (R211, R214). -/
def State.rxAwake (s : State) (cause : Nat) : State :=
  (s.modQl (fun q => { q with rxState := 0, rx := none, listen := none, farQc := none, waitFar := 0, missRow := 0 })).wakeCause cause

/-- A period of listening: at the third valid header in a row the partner is awake, and this end missed its wake (R211). -/
def State.listenIn (s : State) : State :=
  let s1 := s.dataIn true
  match s1.ql.run.listen with
  | none => s1
  | some (left, row) =>
    let n := if s1.lastGood then row + 1 else 0
    if 3 ≤ n then (s1.modQlCnt (fun c => { c with missedWakes := inc 32 c.missedWakes })).rxAwake 7
    else s1.modQl (fun q => { q with listen := some (left - 1, n) })

/-- The receive window moves on: what the last periods taught comes into force (R106). -/
def State.takePeriod (s : State) : State := { s with rx := { s.rx with pair := s.rx.pair.map (·.takeUpdates) } }

/-- A data period toward the drift guard's next evaluation (R111). -/
def State.countData (s : State) : State := { s with rx := { s.rx with dgCount := s.rx.dgCount + 1 } }

/-- A native receive period. -/
def State.nativeIn (s : State) : State :=
  let s0 := s.takePeriod
  let s1 := match s.ql.run.rxState with
    | 0 => if s0.quietZero then s0.restPeriod.farQuiet else s0.countData.dataIn true
    | 1 => s0.quietIn
    | 5 => s0.quietIn
    | 4 => s0.settleIn
    | 6 => s0.listenIn
    | _ => s0.restPeriod
  s1.nextRx

/-! ### Standard modes (R115, R120) -/

/-- Bits of a codeword that are erased: those in segments erased of the period released or the one before (R102, R115). -/
def State.stdErased (s : State) (w : StdCodeword) : Nat :=
  sumNat (w.places.map (fun x =>
    let p := s.rx.pair.at x.2.1
    if (if x.1 = 0 then p.eraseR else p.eraseO).getLsbD x.2.2.1 then x.2.2.2 else 0))

/-- A codeword of a standard mode: erased with more than one sixteenth of its bits erased, else what the clause's code gives within ITER_CAP (R99, R103). -/
def State.stdWord (s : State) (w : StdCodeword) : WordOut :=
  let cap := (s.rxPeriod 2).cap
  if w.length < 16 * s.stdErased w then { res := .erased }
  else match w.iters with
    | some 0 => { res := .clean }
    | some n => if n ≤ cap then { res := .corrected, iters := n } else { res := .noConv, iters := cap }
    | none => { res := .noConv, iters := cap }

/-- A codeword goes to the next core in turn, and its outcome is counted on that core's record (R115, R120). -/
def State.stdCodeword (s : State) (w : StdCodeword) : State :=
  let o := s.stdWord w
  let s1 := s.modRx ⟨s.rx.wordNo % 4, Nat.mod_lt _ (by decide)⟩ (·.countWord o)
  { s1 with rx := { s1.rx with wordNo := s1.rx.wordNo + 1, flagged := ((!o.good) :: s1.rx.flagged).take 64 } }

/-- The bytes of a standard frame: lost where received in error, or where their codeword is flagged (R115). -/
def State.stdBytes (s : State) (f : StdFrame) : List (Option Byte) := f.bytes.map (fun b => if s.rx.flagged.getD b.2 false then none else b.1)

/-- A frame of a standard mode (R115, R162). A frame that is discarded goes on as such: under early head its capsule is written without the lost lines (R345). -/
def State.stdFrameIn (s : State) (f : StdFrame) : State :=
  let bs := s.stdBytes f
  let lost := bs.any Option.isNone
  let good := !lost && f.good
  let s1 := s.modLc (fun c =>
    { c with
      framesOk := if good then inc 32 c.framesOk else c.framesOk
      framesErrored := if good then c.framesErrored else inc 32 c.framesErrored
      discLost := if lost then inc 32 c.discLost else c.discLost
      discFcs := if !lost && !f.good then inc 32 c.discFcs else c.discFcs })
  let s2 : State := { s1 with kw := { s1.kw with arrived := s1.kw.arrived ++ [{ bytes := bs, stamp := f.stamp, good := good }] } }
  if good then s2.frameSeen else s2

/-- Codewords of a period are all good: of 1000BASE-T, which has none, always (R107, R115). -/
def State.stdGood (s : State) (n : Nat) : Bool := !(s.rx.flagged.take n).any id

/-- A period of a standard mode in data (R115, R120). -/
def State.standardIn (s : State) (d : DecodeIn) : State :=
  let s0 := s.takePeriod
  let words := if s.link.mode = some 7 then [] else d.stdWords
  let s1 := words.foldl State.stdCodeword s0
  let f := s1.front
  let good := s1.stdGood words.length
  let s2 : State := { s1 with rx := { s1.rx with pair := s1.rx.pair.mapIdx (fun p x =>
    s1.learn p 2 (f.u.at p) (errorsOf s1.link.mode (f.y.at p) (d.points.at p)) f.d (x.dataLearning true good) x) } }
  d.stdFrames.foldl State.stdFrameIn s2

/-- DECODE_RELEASE: the codewords of a receive period reach the deframer (R98). -/
def execDecodeRelease (d : DecodeIn) (s : State) : Host.Outcome State Fault Refusal :=
  .next <|
    if s.lc.run.rxOn && 7 ≤ s.link.state && s.link.state ≤ 9 && s.nativeMode then s.nativeIn
    else if s.link.state = 8 && s.link.mode.isSome && !s.nativeMode && s.ql.run.rxState = 0 then s.standardIn d
    else s

/-! ### The drift guard (R110 to R112) -/

/-- A movement in 1/64 of its vector, rounded down and saturating at 255. -/
def movementNorm (m : Nat × Nat) : Nat :=
  (List.range 8).foldl (fun acc k =>
    let c := acc + 2 ^ (7 - k)
    if c * c * m.2 ≤ 4096 * m.1 && 0 < m.1 then c else acc) 0

/-- Movements of a pair that cause 2 judges, by block class: the echo's counts as none while HYBRID or DAC detents move (R111, R241). -/
def State.movements (s : State) (p : Pair) : List (Nat × Nat) :=
  let m := (s.rx.pair.at p).movement
  if (s.cal.pair.at p).echoMoving then setAt m 1 (0, 0) else m

/-- Rise of a pair's MSE over its snapshot, 0.1 dB. -/
def RxPair.rise (x : RxPair) : Int := x.mseDb - tenLog x.snap

/-- A movement exceeds DG_NORM / 64. -/
def State.moved (s : State) (m : Nat × Nat) : Bool := decide (s.rx.ctl.dgNorm * s.rx.ctl.dgNorm * m.2 < 4096 * m.1)

/-- An evaluation is due: 1,024 periods of data, or a refresh window's last content update (R111, R112, R203). -/
def State.driftDue (s : State) : Bool :=
  s.nativeData && s.rx.ctl.dgEn && !s.rx.pending && (if s.ql.run.rxState = 0 then decide (1024 ≤ s.rx.dgCount) else s.rx.dgRefresh)

/-- Active pairs that a test picks. -/
def State.pairsWhere (s : State) (f : Pair → Bool) : BitVec 4 := BitVec.ofNat 4 (ofBools (pairs.map (fun p => s.activePair p && f p)))

/-- The first cause that holds for any active pair, and those pairs (R111); cause 0: none. -/
def State.driftCause (s : State) : Nat × BitVec 4 :=
  let c1 := s.pairsWhere (fun p => decide ((s.rx.ctl.dgMse : Int) ≤ (s.rx.pair.at p).rise))
  let c2 := s.pairsWhere (fun p => (s.movements p).any s.moved)
  let c3 := s.pairsWhere (fun p => decide (1024 ≤ (s.rx.pair.at p).lagRun))
  if c1 ≠ 0 then (1, c1) else if c2 ≠ 0 then (2, c2) else if c3 ≠ 0 then (3, c3) else (0, 0)

/-- The block class of a trip of cause 2: the lowest that exceeds on any active pair. After another cause TRIP_BLOCK keeps the value of the last cause-2 trip
(both DESIGN CHOICE, log entry 89). -/
def State.tripClass (s : State) : Nat :=
  ((List.range 4).find? (fun b => s.activePairs.any (fun p => s.moved ((s.movements p).getD b (0, 0))))).getD 0

/-- A trip (R112). -/
def State.trip (s : State) (cause : Nat) (who : BitVec 4) : State :=
  let s1 : State := { s with rx := { s.rx with
    tripPair := who, tripCause := cause, tripBlock := if cause = 2 then s.tripClass else s.rx.tripBlock, trips := inc 16 s.rx.trips } }
  let (row, value, limit) :=
    if cause = 1 then (6, ofInt 32 s1.rx.worstRise, s.rx.ctl.dgMse) else if cause = 2 then (7, s1.rx.worstNorm, s.rx.ctl.dgNorm) else (1, 1024, 1024)
  let s2 := (s1.logEntry unitLine 2 kindLimit row 0x65 value limit who.toNat).raiseEvent evRxq
  if s.rx.ctl.dgAction then s2
  else
    let s3 := s2.requestRetrain
    if s3.link.frt.want then { s3 with rx := { s3.rx with pending := true } } else s3

/-- An evaluation records the largest rise and movement of the active pairs. -/
def State.recordDrift (s : State) : State :=
  let rises := s.activePairs.map (fun p => (s.rx.pair.at p).rise)
  { s with rx := { s.rx with
    dgCount := 0, dgRefresh := false, worstRise := clampInt (-32768) 32767 (rises.foldl max (rises.headD 0))
    worstNorm := ((s.activePairs.flatMap s.movements).map movementNorm).foldl max 0 } }

/-- DRIFT_GUARD_EVAL: an evaluation, and a trip on the first cause that holds (R111, R112). -/
def execDriftGuardEval (s : State) : Host.Outcome State Fault Refusal :=
  .next (if !s.driftDue then s
    else
      let s1 := s.recordDrift
      let c := s1.driftCause
      if c.1 = 0 then s1 else s1.trip c.1 c.2)

/-! ### Objects 0x0160 to 0x0165 (R117 to R123) -/

/-- 0x0160 RX_CTL. -/
def State.rxCtlImage (s : State) : List (Nat × Nat) :=
  let c := s.rx.ctl
  [(4, c.iterCap), (4, c.adaptEn.toNat), (6, c.ffeMain), (2, 0), (1, b2n c.dgEn), (1, b2n c.dgAction), (6, 0), (8, c.dgMse), (6, c.dgNorm), (26, 0)]

/-- An RX_CTL that may be stored. -/
def rxCtlOk (v : Nat) : Bool :=
  1 ≤ bitsAt v 0 4 && bitsAt v 0 4 ≤ 10 && bitsAt v 8 6 ≤ 31 && bitsAt v 14 2 = 0 && bitsAt v 18 6 = 0 && 10 ≤ bitsAt v 24 8 &&
    bitsAt v 24 8 ≤ 100 && 1 ≤ bitsAt v 32 6 && v / 2 ^ 38 = 0

/-- Store RX_CTL. -/
def State.storeRxCtl (s : State) (v : Nat) : State :=
  { s with rx := { s.rx with ctl :=
    { iterCap := bitsAt v 0 4, adaptEn := BitVec.ofNat 4 (bitsAt v 4 4), ffeMain := bitsAt v 8 6, dgEn := bitAt v 16, dgAction := bitAt v 17
      dgMse := bitsAt v 24 8, dgNorm := bitsAt v 32 6 } } }

/-- A level in 0.25 dBm as a field. -/
def levelField (x : Option Int) : Nat := match x with | some v => ofInt 16 v | none => 0x8000

/-- MARGIN of a pair as it reads. -/
def State.marginOf (s : State) (p : Pair) : Int := let x := s.rx.pair.at p; x.margin (s.link.mode.getD x.heldMode)

/-- A pair's record is held. -/
def State.staleOf (s : State) (p : Pair) : Bool := (s.rx.pair.at p).stale || !s.activePair p

/-- 0x0161 RX_QUALITY. -/
def State.rxQualityImage (s : State) : List (Nat × Nat) :=
  pairs.flatMap (fun p =>
    let x := s.rx.pair.at p
    [(16, ofInt 16 x.mseDb), (16, ofInt 16 (s.marginOf p)), (16, levelField x.strength), (16, levelField x.peak), (8, x.pga), (16, ofInt 16 (roundRat x.gain)),
      (16, ofInt 16 x.phaseLag), (1, b2n (s.staleOf p)), (23, 0)])

/-- 0x0162 RX_TIMING. -/
def State.rxTimingImage (s : State) : List (Nat × Nat) :=
  [(24, ofInt 24 s.rx.freqOfs), (1, b2n s.link.role), (1, b2n s.rx.afcRun), (1, b2n s.rx.gainRun), (5, 0),
    (16, match s.link.mode with | some m => snrReq m | none => 240), (16, s.rx.freqClamp)]

/-- 0x0163 RX_CODEWORDS. -/
def State.rxCodewordsImage (s : State) : List (Nat × Nat) :=
  pairs.flatMap (fun p =>
    let c := (s.rx.pair.at p).cnt
    [c.total, c.clean, c.corr, c.noconv, c.erased, c.erasedSeg, c.iterSum, c.dgainLimit].map (fun n => (32, n)))

/-- 0x0164 RX_DROPS. -/
def State.rxDropsImage (s : State) : List (Nat × Nat) := pairs.flatMap (fun p => (s.rx.pair.at p).cnt.drops.map (fun n => (32, n)))

/-- 0x0165 DRIFT_STATUS. -/
def State.driftImage (s : State) : List (Nat × Nat) :=
  let r := s.rx
  [(4, r.tripPair.toNat), (3, r.tripCause), (1, b2n r.pending), (2, r.tripBlock), (6, 0), (16, r.trips), (16, ofInt 16 r.worstRise), (8, r.worstNorm), (8, 0)]

end Sys2Proof.Machine
end

