-- ==== Sys2Proof/Machine/Link.lean ====
section
/-! DEFINITION. Negotiation, training, link failures, the rate ladder and fast retrain, with the commands LINK_UP, LINK_DOWN and TRAIN (05_negotiation_and_training R156 to R193). -/

namespace Sys2Proof.Machine

/-! ### Negotiation (R157 to R161, R176, R179, R187) -/

/-- NEGOTIATION_START: Clause 28 begins. -/
def execNegotiationStart (s : State) : Host.Outcome State Fault Refusal := .next (if s.ben.up then s.beginNegotiation else s)

/-- A valid burst has been received (R176). -/
def State.burstIn (s : State) : State := s.modLink (fun l => { l with noPartner := false, neg := { l.neg with burst := true } })

/-- FAST_LINK_PULSE_BURST: a valid burst or link codeword, with what it gives. -/
def execFastLinkPulseBurst (p : LinkPage) (s : State) : Host.Outcome State Fault Refusal :=
  .next <|
    if !(s.link.state = 1 && s.link.neg.begun) then s
    else s.burstIn.modLink (fun l => { l with neg := { l.neg with
      basePage := match p.basePage with | some b => some (b % 65536) | none => l.neg.basePage
      stdRungs := l.neg.stdRungs ||| p.rungs % 256, stdEee := l.neg.stdEee ||| p.eee % 256, stdFr := l.neg.stdFr ||| p.fr % 256 } })

/-- NATIVE_ABILITY_MESSAGE: an OUI-tagged message is native, of a T40, another of the Parnelys OUI, or none of them (R159, R187). -/
def execNativeAbilityMessage (oui u1 u2 u3 : Nat) (s : State) : Host.Outcome State Fault Refusal :=
  .next <|
    if !(s.link.state = 1 && s.link.neg.begun) then s
    else
      let m := some (u1 % 2048, u2 % 2048, u3 % 2048)
      let s1 := s.burstIn
      if oui ≠ parnelysOui then s1
      else if u1 % 2048 = 0x5A7 && 1 ≤ bitsAt u2 7 4 then s1.modLink (fun l => { l with neg := { l.neg with native := m } })
      else if u1 % 2048 = 0x2E1 then s1.modLink (fun l => { l with neg := { l.neg with t40 := m } })
      else s1.modLink (fun l => { l with neg := { l.neg with other := m } })

/-- PARTNER and PARTNER_KIND of a completed negotiation; `r`: the resolved rung (R187, R191). -/
def State.recordPartner (s : State) (r : Option Rung) : State :=
  let n := s.link.neg
  let f := (n.native.orElse (fun _ => n.t40.orElse (fun _ => n.other))).getD (0, 0, 0)
  let u2 := match n.native with | some m => m.2.1 | none => 0
  let rungs := n.stdRungs / 4 * 4 + u2 % 4
  s.modLink (fun l => { l with
    partnerKind := if n.native.isSome then 2 else if n.t40.isSome then 3 else 1
    partner := { l.partner with
      basePage := n.basePage.getD 0, rungs := rungs
      eee := match r with | some r => 2 ≤ r && bitAt n.stdEee r | none => false
      fr := match r with | some r => if r < 2 then bitAt u2 4 else bitAt n.stdFr r | none => false
      family := f.1, u2 := f.2.1, u3 := f.2.2 } })

/-- What R179 compares of a partner: its base page and native fields but the rungs and the seed (DEDUCED, log entry 17). -/
def Negotiation.identity (n : Negotiation) : Nat × Nat × Nat × Nat :=
  let f := (n.native.orElse (fun _ => n.t40.orElse (fun _ => n.other))).getD (0, 0, 0)
  (n.basePage.getD 0, f.1, f.2.1 / 4, 0)

/-- The timing role that MS and SEED give in a native mode: slave (true), or a fault and whether equal seeds made it (R161). -/
def nativeRole (ms seed farMs farSeed : Nat) : Bool ⊕ Bool :=
  let force := fun (m : Nat) => if m = 1 then some false else if m = 2 then some true else none
  match force ms, force farMs with
  | some a, some b => if a = b then .inr false else .inl a
  | some a, none => .inl a
  | none, some b => .inl (!b)
  | none, none => if seed = farSeed then .inr true else .inl (seed < farSeed)

/-- A rung is resolved: its training begins (R160, R162, R166). -/
def State.beginTraining (s : State) (r : Rung) (slave : Bool) : State :=
  let n := s.link.neg
  let u2 := match n.native with | some m => m.2.1 | none => 0
  let own := n.sent.getD 0
  let native := decide (r < 2)
  let both := fun (i : Nat) => native && bitAt u2 i && bitAt own i
  let t40 := n.native.isNone && (match n.t40 with | some m => bitAt m.2.1 3 | none => false) && n.sentLegacy
  let legacy := !native && t40
  let s1 := s.modLink (fun l => { l with
    role := slave, legacyIdle := legacy
    eee := !native && !legacy && l.used.eeeEn && bitAt n.stdEee r
    frOk := if native then both 4 else r < 7 && l.used.frEn && bitAt n.stdFr r
    qlOk := both 3, knOk := both 2
    failCount := if l.countRung = r then l.failCount else 0, countRung := r
    lastNegCause := 0, lastPartner := some n.identity })
  s1.startTraining r (if native then 3 else 10)

/-- Rungs that the partner advertised (R160): native ones only through a native message. -/
def Negotiation.farRungs (n : Negotiation) : Nat := n.stdRungs / 4 * 4 + (match n.native with | some m => m.2.1 % 4 | none => 0)

/-- The role in a standard mode: as the ends' manual configurations force it, else as the clause gives it (R161). -/
def stdRole (ms farMs : Nat) (autoRole : Option Bool) : Bool ⊕ Bool :=
  match nativeRole ms 1 farMs 0, autoRole with
  | .inr _, _ => .inr false
  | .inl slave, a => if (ms = 1 || ms = 2) || (farMs = 1 || farMs = 2) then .inl slave else match a with | some r => .inl r | none => .inr true

/-- Training in a role, or the failure MS_FAULT; that of equal seeds is not logged (R161). -/
def State.takeRole (s : State) (r : Rung) (x : Bool ⊕ Bool) : State :=
  match x with
  | .inl slave => s.beginTraining r slave
  | .inr equal => s.linkFail 4 .notReady equal

/-- The partner differs from that of the last link (R179). -/
def State.partnerChanged (s : State) : Bool := s.link.lastPartner.any (fun p => p ≠ s.link.neg.identity)

/-- NEGOTIATION_RESOLVE: the highest rung that both ends advertised and the roles, or a failure (R160, R161). Another partner resets the ladder, and where the
ladder stood lower the negotiation begins again (R179). -/
def execNegotiationResolve (farMs : Nat) (autoRole : Option Bool) (s : State) : Host.Outcome State Fault Refusal :=
  .next <|
    let n := s.link.neg
    if !(s.link.state = 1 && n.begun && n.basePage.isSome) then s
    else if s.partnerChanged && s.link.ladderPos ≠ s.ladderTop then
      ((s.modLink (fun l => { l with lastPartner := some n.identity })).ladderReset.startNegotiation).beginNegotiation
    else
      let common := (List.range 8).find? (fun r => bitAt n.farRungs r && bitAt n.rungs r)
      let s1 := (s.recordPartner common).modLink (fun l => { l with failCount := if s.partnerChanged then 0 else l.failCount })
      match common with
      | none => s1.linkFail 5
      | some r =>
        let m := n.native.getD (0, 0, 0)
        s1.takeRole r (if r < 2 then nativeRole s.link.used.msMode n.seed.toNat (bitsAt m.2.1 5 2) m.2.2 else stdRole s.link.used.msMode farMs autoRole)

/-- NO_PARTNER_TIMER: 1 s without a valid burst (R176). -/
def execNoPartnerTimer (s : State) : Host.Outcome State Fault Refusal :=
  .next (if s.link.state = 1 && s.link.neg.begun && !s.link.neg.burst then s.modLink (fun l => { l with noPartner := true }) else s)

/-- LADDER_RESET_TIMER: 1 s with no energy on any pair while no link is up (R179). -/
def execLadderResetTimer (s : State) : Host.Outcome State Fault Refusal :=
  .next (if s.link.energy = 0 && s.link.state < 3 then s.ladderReset else s)

/-! ### Energy (R42, R43, R172, R174) -/

/-- ENERGY_DETECT: partner signal above 100 mV on a pair; it ends Dormant unless the link is administratively down. -/
def execEnergyDetect (p : Pair) (s : State) : Host.Outcome State Fault Refusal :=
  .next <|
    let s1 := s.modLink (fun l => { l with energy := l.energy ||| BitVec.twoPow 4 p, lastEnergy := s.time })
    if s.link.state = 0 then s1 else s1.leaveDormant

/-- The direction that listens to the partner is in data, so that silence is a loss (R174, R216). -/
def State.expectsEnergy (s : State) : Bool := s.linkInData && (s.nativeMode || s.ql.run.rxState = 0)

/-- ENERGY_LOSS: 2 ms without energy on a pair; an active pair's takes a link in data down. -/
def execEnergyLoss (p : Pair) (s : State) : Host.Outcome State Fault Refusal :=
  .next <|
    let s1 := s.modLink (fun l => { l with
      energy := l.energy &&& ~~~(BitVec.twoPow 4 p), lastEnergy := if l.energy.getLsbD p then s.time - 2000000 else l.lastEnergy })
    if s.expectsEnergy && s.activePair p then s1.linkDown 2 else s1

/-- Every active pair has energy, by the pairs that have it at this instant. -/
def State.energyAll (s : State) (seen : BitVec 4) : Bool := s.activePairs.all (fun p => seen.getLsbD p)

/-! ### Native training (R163 to R172) -/

/-- A training word is well formed: CHECK, the zero bits and PHASE (R165). -/
def trainingWordOk (w : BitVec 64) : Bool :=
  let v := w.toNat
  v % 65536 = crc16 (msbBits 48 (v / 65536)) && !bitAt v 56 && bitsAt v 16 7 = 0 && 1 ≤ bitsAt v 60 4 && bitsAt v 60 4 ≤ 4

/-- PHASE that this end is in; 0: none. -/
def State.phase (s : State) : Nat := if s.link.state = 9 then 4 else if 4 ≤ s.link.state && s.link.state ≤ 7 then s.link.state - 3 else 0

/-- The gain setting of every pair stayed within ±0.5 dB over the last partner turn, of which there has been one (Table 5-6, T1; DEDUCED, log entry 84: at most
1.0 dB between the least and the greatest setting). -/
def State.gainSteady (s : State) : Bool := 4112 ≤ s.link.train.pos && s.rx.pair.toList.all (fun x => x.pgaMax - x.pgaMin ≤ 2)

/-- The figures measured in a period meet the exit condition of a phase so far (Table 5-6, R181). -/
def State.exitMet (s : State) (m : TrainMeas) : Train × Bool :=
  let t := s.link.train
  match s.phase with
  | 1 => (t, m.residual.toList.all (fun x => decide (450 ≤ x)) && s.gainSteady)
  | 2 => (t, m.snr.toList.all (fun x => decide (180 ≤ x)) && m.afcMove < 100 && m.mapDone)
  | 3 => (t, t.switchAcked && t.farSwitch && t.idAcked && t.idSeen)
  | 4 =>
    let ok := s.activePairs.all (fun p => decide ((s.link.used.trainMargin : Int) ≤ s.marginOf p))
    let g := if ok then t.good + 1 else 0
    ({ t with good := g }, decide ((if s.link.state = 9 then 1024 else 4096) ≤ g))
  | _ => (t, false)

/-- STATUS fields of Knuckle: KR, KA and KPAIR (R66). -/
def knField (i : Nat) : Bool := i = 2 || i = 3 || i = 6

/-- The receive side starts afresh at the partner's data period 0 (R48, R167, R182); the Knuckle fields are kept in Knuckle form. -/
def State.freshRx (s : State) : State :=
  s.dropPartial.dropItem.modRun (fun r => { r with
    rxOn := true, rxSeq := 0, stRx := r.stRx.zipIdx.map (fun x => if s.kn.state ≠ 0 && knField x.2 then x.1 else {}), tag := [], search := false, badRun := 0, lastValid := s.time, ifIn := none })

/-- A valid training word (R165, R167, R181). -/
def State.wordIn (s : State) (v : Nat) : State :=
  let phase := bitsAt v 60 4
  let ready := bitAt v 59
  let own := s.phase
  let s1 := s.modTrain (fun t => { t with
    expect := some ((bitsAt v 48 8 + 1) % 256)
    farReady := if phase = own && ready then t.farReady + 1 else 0
    farNext := t.farNext || phase = own + 1
    farTwo := if phase = 2 then t.farTwo + 1 else t.farTwo })
  let s2 := if 2 ≤ phase then s1.sliceIn false (bitsAt v 48 8) (some (bitsAt v 27 21)) else s1
  if phase = 4 && bitsAt v 23 4 = 1 then s2.freshRx else s2

/-- A training word that fails (R165): the next valid word sets the count. -/
def State.wordBad (s : State) : State :=
  let s1 := match s.link.train.expect with
    | some e => if 2 ≤ s.phase then s.sliceIn false e none else s
    | none => s.dropPartial
  s1.modTrain (fun t => { t with expect := none, farReady := 0 })

/-- A period of pair training on the shed pair (R254): the run of periods with its MARGIN at TRAIN_MARGIN, and the partner's READY. -/
def State.pairWord (s : State) (w : BitVec 64) : State :=
  s.modKn (fun k =>
    let n := if (s.link.used.trainMargin : Int) ≤ s.marginOf k.shed then k.good + 1 else 0
    { k with good := n, ready := decide (1024 ≤ n), farReady := if trainingWordOk w && bitsAt w.toNat 60 4 = 4 then bitAt w.toNat 59 else k.farReady })

/-- TRAINING_WORD: a receive period of training or of a fast retrain, with what the receiver measures in it. While a fast retrain's
handshake is pending, the first valid word with PHASE 4 and FRT 1 marks the start of the partner's retrain (R181). In data, the word
of the shed pair while it trains (R254). -/
def execTrainingWord (w : BitVec 64) (m : TrainMeas) (s : State) : Host.Outcome State Fault Refusal :=
  .next <|
    let v := w.toNat
    let fits := match s.link.train.expect with | some e => bitsAt v 48 8 = e | none => true
    let good := trainingWordOk w && fits
    if (s.link.state = 8 || s.link.state = 9) && s.nativeMode && s.lc.run.rxOn && s.link.frt.want && s.statusRx 5 = 1 && good && bitsAt v 60 4 = 4 && bitAt v 57 then
      (s.dropPartial.dropItem.modRun (fun r => { r with rxOn := false, tag := [], search := false })).wordIn v
    else if s.nativeData && s.lc.run.rxOn && s.kn.state = 3 then s.pairWord w
    else if s.lc.run.rxOn || !(s.phase ≠ 0 || s.nativeData) then s
    else
      let (t, met) := s.exitMet m
      let s1 := s.modTrain (fun _ => { t with ready := t.ready || met })
      if good then s1.wordIn v else s1.wordBad

/-- Duration of the present phase, 0.1 ms. -/
def State.phaseTime (s : State) : Nat := min 65535 ((s.time - s.link.since) / 100000)

/-- Enter the next native phase. -/
def State.nextPhase (s : State) : State :=
  let n := s.link.state
  (s.enter (n + 1)).modTrain (fun t => { t with
    times := setAt t.times (n - 3) s.phaseTime, expect := none, cd := 0, ready := false, turnReady := false, farReady := 0, farNext := false, farTwo := 0, good := 0 })

/-- The background limit of T0 (Table 5-6), 0.1 dBm. -/
def backgroundOk (m : Option Rung) (b : Quad Int) : Bool := b.toList.all (fun x => decide (x ≤ (if m = some 0 then -550 else -580)))

/-- The far pairs found are a permutation, and every delay is one that block 4 can hold (R82, R168). -/
def mapOk (e : PhaseEnd) : Bool := e.far.toList.eraseDups.length = 4 && e.delay.toList.all (· ≤ 400)

/-- The transmit side starts afresh at data period 0 (R48, R76, R182); RA is kept through a fast retrain (R177), and so are KR, KA and
KPAIR in Knuckle form (R183). -/
def State.freshTx (s : State) : State :=
  s.modRun (fun r => { r with
    txSeq := 0, stream := [], leaving := [], ifNow := none, oamSeq := 0
    stTx := r.stTx.zipIdx.map (fun x =>
      if x.2 = 4 && s.link.ra then ({ want := 1, now := 1, age := 8 } : FieldTx) else if s.kn.state ≠ 0 && knField x.2 then x.1 else {}) })

/-- Data period 0 after a training: what is latched there, and the snapshot (R110, R114, R166, R169, R192). -/
def State.reachData (s : State) (e : PhaseEnd) : State :=
  let s1 := s.nextPhase
  let s2 : State := { s1 with
    rx := { s1.rx with
      freqOfs := clampInt (-250000) 250000 e.freq, afcRun := false, gainRun := false, dgCount := 0
      pair := s1.rx.pair.mapIdx (fun p x => { x with strength := some (s1.strengthNow p), stale := false }) } }
  let s3 := s2.takeSnapshot.freshTx.modLink (fun l => { l with times := l.train.times })
  s3.enterData

/-- PHASE_CHANGE: this end enters the next native phase, or data, where R167 allows it. -/
def execPhaseChange (e : PhaseEnd) (s : State) : Host.Outcome State Fault Refusal :=
  .next <|
    let t := s.link.train
    match s.link.state with
    | 3 =>
      if !backgroundOk s.link.mode e.background then s.modTrain (fun t => { t with noise := true })
      else if s.link.role && !e.heard then s
      else
        let s1 := s.nextPhase.modTrain (fun t => { t with tseq := 0, pos := 0, expect := none })
        { s1 with rx := { s1.rx with gainRun := true, pair := s1.rx.pair.map (·.gainStart) } }
    | 4 =>
      let go := if s.link.role then decide (3 ≤ t.farTwo) else t.turnReady && t.pos % 4128 = 2048
      if !go then s
      else let s1 := s.nextPhase; { s1 with rx := { s1.rx with afcRun := true } }
    | 5 =>
      if !(t.cd = 1 && mapOk e) then s
      else
        let s1 := s.nextPhase
        let s2 : State := { s1 with rx := { s1.rx with
          gainRun := false
          offset := e.offset
          pair := s1.rx.pair.mapIdx (fun p x => { x with peak := some (s1.strengthNow p), gain := 0 }) } }
        (s2.modLink (fun l => { l with map := { far := e.far, inv := e.inv, delay := e.delay } })).modRun (fun r => { r with ifQueue := s2.coefQueue }) |>.drawn
    | 6 => if t.cd = 1 then s.nextPhase else s
    | 7 => if t.cd = 1 then s.reachData e else s
    | _ => s

/-- PHASE_TIMER: a native phase timer expires (R172). `seen`: pairs with energy at that instant; in T1, with partner signal during the
partner's last complete turn. -/
def execPhaseTimer (seen : BitVec 4) (s : State) : Host.Outcome State Fault Refusal :=
  .next <|
    match s.link.state with
    | 3 => s.linkFail (if s.link.train.noise then 3 else 2)
    | 4 => s.linkFail (if s.energyAll seen then 1 else 2)
    | 5 => s.linkFail (if s.energyAll seen then 1 else 2)
    | 6 => s.linkFail (if s.energyAll seen then 1 else 2)
    | 7 => s.linkFail (if s.energyAll seen then 1 else 2)
    | _ => s

/-- BREAK_END: the 80 ms break is over and negotiation restarts (R173). -/
def execBreakEnd (s : State) : Host.Outcome State Fault Refusal :=
  .next (if s.link.state = 2 && s.ben.up then s.startNegotiation.beginNegotiation else s)

/-- HDR_LOSS: no valid header for 2 ms (R174). -/
def execHdrLoss (s : State) : Host.Outcome State Fault Refusal :=
  .next (if s.nativeData && s.lc.run.rxOn && s.ql.run.rxState = 0 && s.lc.run.badRun ≠ 0 then s.linkDown 6 else s)

/-! ### Standard modes (R162, R172, R174, R177) -/

/-- STD_TRAINING_DONE: the clause's training is complete and its link status is OK. -/
def execStdTrainingDone (e : PhaseEnd) (s : State) : Host.Outcome State Fault Refusal :=
  .next <|
    if s.link.state ≠ 10 then s
    else
      let s1 : State := { s with
        rx := { s.rx with
          freqOfs := clampInt (-250000) 250000 e.freq
          pair := s.rx.pair.mapIdx (fun p x =>
            let level := quarterDb (fullScaleShare (lastSamples 256 (fit1024 ((s.rxPeriod 0).adc.at p)))) ((s.nvm.trim.pair.at p).kfs - (50 * ((e.pga.at p % 73 : Nat) : Int) - 600))
            { x with strength := some level, peak := some level, pga := e.pga.at p % 73, gain := 0, mse := (e.mse.at p : Rat) / 65536, mseSet := true, stale := false, lagRun := 0 }) } }
      ((s1.modRun (fun r => { r with rxOn := false })).modQl (fun q => { q with stdLpi := s.link.eee, legacy := s.link.legacyIdle })).enterData

/-- STD_LINK_FAIL: a clause's training fails under its timers, or its link status is FAIL in data (R172). `seen`: pairs with energy at
that instant. -/
def execStdLinkFail (seen : BitVec 4) (s : State) : Host.Outcome State Fault Refusal :=
  .next <|
    if s.link.state = 10 then s.linkFail (if s.energyAll seen then 0xB else 2)
    else if s.linkInData && !s.nativeMode then s.linkFail (if s.energyAll seen then 0xC else 2)
    else s

/-- STD_RATE_CONFIRM: 1 s with a standard link up (R177). -/
def execStdRateConfirm (s : State) : Host.Outcome State Fault Refusal :=
  .next (if s.linkInData && !s.nativeMode then s.modLink (fun l => { l with confirmed := true, failCount := 0 }) else s)

/-! ### Rate confirmation and remote fault (R175, R177) -/

/-- RA_SET: after 100 ms of continuous T5 this end sets STATUS.RA. -/
def execRaSet (s : State) : Host.Outcome State Fault Refusal :=
  .next (if s.linkInData && s.nativeMode then (s.modLink (fun l => { l with ra := true })).setStatus 4 1 else s)

/-- RATE_CONFIRMED: own RA is set and the partner's has been seen. -/
def execRateConfirmed (s : State) : Host.Outcome State Fault Refusal :=
  .next (if s.linkInData && s.nativeMode && s.link.ra && s.statusRx 4 = 1 then s.modLink (fun l => { l with confirmed := true, failCount := 0 }) else s)

/-- REMOTE_FAULT: the partner's RF requests a fast retrain, or without one takes the link down. -/
def execRemoteFault (s : State) : Host.Outcome State Fault Refusal :=
  .next (if s.nativeData && s.statusRx 0 = 1 then (if s.retrainPossible then s.askRetrain else s.linkDown 7) else s)

/-! ### Fast retrain (R180 to R183) -/

/-- FAST_RETRAIN_REQUEST: the partner's FR, seen under R67, sets this end's. -/
def execFastRetrainRequest (s : State) : Host.Outcome State Fault Refusal :=
  .next (if s.retrainPossible && s.statusRx 5 = 1 then s.askRetrain else s)

/-- The handshake is done and no Knuckle countdown runs (R181, R183). -/
def State.retrainReady (s : State) : Bool :=
  let x := s.statusTx 5
  s.link.frt.want && x.now = 1 && 8 ≤ x.age && s.statusRx 5 = 1 && s.lc.run.txSeq = 0 && s.ql.run.txState = 0 &&
    s.kn.run.txAt.isNone && s.kn.run.rxAt.isNone

/-- FAST_RETRAIN_START: at the first transmit period with SEQ 0 after the handshake; in a standard mode, where its clause starts one. -/
def execFastRetrainStart (s : State) : Host.Outcome State Fault Refusal :=
  .next <|
    if (s.nativeData && s.retrainReady) || (s.link.state = 8 && !s.nativeMode && s.link.frOk && s.link.ctl.frEn) then
      let s1 := (s.enter 9).modLink (fun l => { l with
        train := {}, frt := { l.frt with started := some s.time }, cnt := { l.cnt with fastRetrains := inc 32 l.cnt.fastRetrains } })
      (s1.recallStream.modRun (fun r => { r with ifNow := none, ifOut := r.ifOut.map (fun o => { o with due := true }) })).modEng (fun g => { g with marked := [] })
    else s

/-- FAST_RETRAIN_END: the exit condition is met and data resumes as a new T5 period 0 (R181). -/
def execFastRetrainEnd (s : State) : Host.Outcome State Fault Refusal :=
  .next <|
    if s.link.state ≠ 9 || (s.nativeMode && s.link.train.cd ≠ 1) then s
    else
      let dur := match s.link.frt.started with | some t => min 65535 ((s.time - t) / 10000) | none => 0
      let s1 := s.modLink (fun l => { l with state := 8, since := s.time, frtTime := dur, frt := {} })
      let s2 := if s.nativeMode then s1.takeSnapshot.freshTx.modRun (fun r => { r with mseq := 0, ifOut := none, ifAcks := [], ifLast := none }) else s1
      State.endRun { s2 with rx := { s2.rx with pending := false, dgCount := 0 } } 0x4A (fun _ => true) .ok []

/-- FAST_RETRAIN_TIMEOUT: not ended within 20 ms, or the handshake not begun within 2 ms (R181). -/
def execFastRetrainTimeout (s : State) : Host.Outcome State Fault Refusal :=
  .next <|
    if s.nativeMode && (s.link.state = 9 || (s.link.state = 8 && s.link.frt.want)) then
      (s.modLinkCnt (fun c => { c with frFails := inc 32 c.frFails })).linkFail 8 .timeout
    else s

/-! ### LINK_UP, LINK_DOWN and TRAIN (R184) -/

/-- A full test aborted by LINK_UP or TRAIN (R437). -/
def State.yieldFullTest (s : State) (ok : Bool) : State := if s.fullTest && ok then s.abortTest 5 else s

/-- A self-test of a pair or of the die link stands in the way of a line command. -/
def State.pairTested (s : State) : Bool := match s.bist.run with | some r => r.test = 2 | none => false

/-- LINK_UP: from the administrative down state the ladder resets and negotiation begins, which completes it; elsewhere it has no
effect. -/
def execLinkUp (tag : BitVec 16) (s : State) : Host.Outcome State Fault Refusal :=
  .next <| s.runRequest tag 0x48 fun q s =>
    let s := s.yieldFullTest (q.cap.len = 0 && q.cap.fieldsOk [])
    s.guarded q [(q.cap.len ≠ 0, .lenRange), (!s.ready .line, .notReady), (s.pairTested, .busySelftest), (!q.cap.fieldsOk [], .range)] [] fun s =>
      if s.link.state ≠ 0 then s.interruptDiagRun.leaveDormant.finish q .ok [] []
      else (((s.startRun q).interruptDiagRun.ladderReset.startNegotiation).leaveDormant).beginNegotiation

/-- LINK_DOWN: transmission stops and the link stays administratively down. -/
def execLinkDown (tag : BitVec 16) (s : State) : Host.Outcome State Fault Refusal :=
  .next <| s.runRequest tag 0x49 fun q s =>
    s.guarded q [(q.cap.len ≠ 0, .lenRange), (!s.ready .line, .notReady), (!q.cap.fieldsOk [], .range)] [] fun s => s.adminDown.finish q .ok [] []

/-- A full TRAIN in negotiation, training or data: down with cause HOST, and the break. -/
def State.hostTrain (s : State) : State :=
  if s.link.state = 1 then (s.recordFailure 9 false false).enter 2 else s.linkFail 9

/-- TRAIN, full (KIND other than 1; values beyond 1 give RANGE). -/
def execTrainFull (tag : BitVec 16) (s : State) : Host.Outcome State Fault Refusal :=
  .next <| s.runWhere tag 0x4A (fun c => c.arg 28 1 ≠ 1) fun q s =>
    let s := s.yieldFullTest (q.cap.len = 0 && q.cap.fieldsOk [(28, 1)] && q.cap.arg 28 1 ≤ 1)
    s.guarded q [(q.cap.len ≠ 0, .lenRange), (!s.ready .line, .notReady), (s.pairTested, .busySelftest),
      (!q.cap.fieldsOk [(28, 1)] || q.cap.arg 28 1 ≠ 0, .range)] [] fun s =>
      if s.link.state = 0 then s.finish q .ok [] []
      else (s.interruptDiagRun.leaveDormant.hostTrain).finish q .ok [] []

/-- TRAIN, fast: it completes when the retrain has ended. -/
def execTrainFast (tag : BitVec 16) (s : State) : Host.Outcome State Fault Refusal :=
  .next <| s.runWhere tag 0x4A (fun c => c.arg 28 1 = 1) fun q s =>
    let s := s.yieldFullTest (q.cap.len = 0 && q.cap.fieldsOk [(28, 1)] && q.cap.arg 28 1 ≤ 1)
    s.guarded q [(q.cap.len ≠ 0, .lenRange), (!s.ready .line || !s.linkInData, .notReady), (s.pairTested, .busySelftest),
      (!q.cap.fieldsOk [(28, 1)] || !(s.link.frOk && s.link.ctl.frEn), .range)] [] fun s => (s.interruptDiagRun.startRun q).askRetrain

/-! ### Objects 0x0100 to 0x0106 (R185, R189 to R193) -/

/-- 0x0100 LINK_CTL. -/
def State.linkCtlImage (s : State) : List (Nat × Nat) :=
  let c := s.link.ctl
  [(8, c.rungEn), (3, c.cap), (1, b2n c.pinEn), (3, c.pin), (1, 0), (2, c.msMode), (1, b2n c.frEn), (1, b2n c.eeeEn), (1, b2n c.pause),
    (1, b2n c.asmDir), (2, 0), (4, c.trainMargin), (4, 0), (8, c.reclimb), (24, 0)]

/-- A LINK_CTL that names an absent rung. PIN names one only with PIN_EN = 1 (DEDUCED: PIN resets to 0 on every part; log entry 20). -/
def State.linkCtlAbsent (s : State) (v : Nat) : Bool :=
  let p := s.fuse.part
  (List.range 8).any (fun r => bitAt v r && !p.rungPresent r) || !p.rungPresent (bitsAt v 8 3) || (bitAt v 11 && !p.rungPresent (bitsAt v 12 3))

/-- A LINK_CTL that may be stored. -/
def linkCtlOk (v : Nat) : Bool :=
  (List.range 8).any (fun r => bitAt v r && bitsAt v 8 3 ≤ r) && (!bitAt v 11 || bitAt v (bitsAt v 12 3)) && !bitAt v 15 && bitsAt v 16 2 ≠ 3 &&
    bitsAt v 22 2 = 0 && bitsAt v 28 4 = 0 && v / 2 ^ 40 = 0

/-- Store LINK_CTL: the ladder resets, and a link whose rung it removes goes down with cause HOST (R179, R185). -/
def State.storeLinkCtl (s : State) (v : Nat) : State :=
  let c : LinkCtl :=
    { rungEn := bitsAt v 0 8, cap := bitsAt v 8 3, pinEn := bitAt v 11, pin := bitsAt v 12 3, msMode := bitsAt v 16 2, frEn := bitAt v 18, eeeEn := bitAt v 19
      pause := bitAt v 20, asmDir := bitAt v 21, trainMargin := bitsAt v 24 4, reclimb := bitsAt v 32 8 }
  let s1 := (s.modLink (fun l => { l with ctl := c })).askLadderReset
  let removed := match s.link.mode with
    | some m => 3 ≤ s.link.state && !(bitAt c.rungEn m && c.cap ≤ m && (!c.pinEn || c.pin = m))
    | none => false
  if removed then s1.linkFail 9 else s1

/-- 0x0101 LINK_STATUS. -/
def State.linkStatusImage (s : State) : List (Nat × Nat) :=
  let l := s.link
  let up := 3 ≤ l.state
  [(4, l.state), (4, l.mode.getD 0xF), (1, b2n (s.kn.run.txForm && s.kn.run.rxForm)), (1, b2n l.role), (1, b2n l.noPartner), (1, b2n l.confirmed),
    (1, b2n (up && l.eee)), (1, b2n (up && l.legacyIdle)), (1, b2n (up && l.qlOk)), (1, b2n (up && l.frOk)), (3, l.ladderPos), (1, 0), (2, l.failCount), (2, 0),
    (8, l.partnerKind), (32, if s.linkInData then min (2 ^ 32 - 1) ((s.time - l.upSince) / 1000000000) else 0)]

/-- 0x0102 PARTNER. -/
def State.partnerImage (s : State) : List (Nat × Nat) :=
  let p := s.link.partner
  [(16, p.basePage), (8, p.rungs), (1, b2n p.eee), (1, b2n p.fr), (6, 0), (11, p.family), (11, p.u2), (10, 0), (11, p.u3), (53, 0), (63, p.peerId), (65, 0)]

/-- 0x0103 TRAIN_LAST. -/
def State.trainLastImage (s : State) : List (Nat × Nat) :=
  let t := s.link.trainLast
  [(4, t.phase), (4, t.cause), (3, t.rung), (1, b2n t.counted), (4, 0), (16, t.elapsed), (32, t.uptime)]

/-- 0x0104 TRAIN_TIMES. -/
def State.trainTimesImage (s : State) : List (Nat × Nat) := (s.link.times.map (fun t => (16, t))) ++ [(16, s.link.frtTime), (32, 0)]

/-- 0x0105 LINK_COUNTERS. -/
def State.linkCountersImage (s : State) : List (Nat × Nat) :=
  let c := s.link.cnt
  [c.negStarts, c.linkUps, c.linkDowns, c.trainFails, c.trainAborts, c.stepDowns, c.fastRetrains, c.frFails].map (fun n => (32, n))

/-- 0x0106 PAIR_MAP; it reads 0 in standard modes. -/
def State.pairMapImage (s : State) : List (Nat × Nat) :=
  let m := s.link.map
  if s.link.mode.isSome && !s.nativeMode then [(64, 0)]
  else pairs.flatMap (fun p => [(2, (m.far.at p).val), (1, b2n (m.inv.at p)), (1, 0)]) ++ pairs.map (fun p => (9, m.delay.at p)) ++ [(12, 0)]

end Sys2Proof.Machine
end

