-- ==== Sys2Proof/Machine/DieLink.lean ====
section
/-! DEFINITION. The die link, line protection and the power states (01_dies_and_die_link R21 to R45; 03 R104, R109). -/

namespace Sys2Proof.Machine

/-! ### The alignment search (R29, R30) -/

/-- A physical lane is healthy (R29). -/
def laneHealthy (t : LaneTest) : Bool := t.locked && t.slips < 32 && 25 ≤ t.eye && t.errors = 0

/-- The result of the search in a direction (R30). -/
def DlDir.search (d : DlDir) (ts : List LaneTest) : DlDir :=
  let test := fun (p : Nat) => ts.getD p { locked := false, slips := 0, eye := 0, errors := 0 }
  let healthy := (List.range 26).filter (fun p => laneHealthy (test p))
  let h := healthy.length
  let ls := d.lanes.zipIdx.map (fun x => { x.1 with eye := (test x.2).eye % 256, slips := (test x.2).slips % 32, recent := [] })
  { d with
    lanes := mapLanes ls healthy (if 24 ≤ h then logicalLanes false else if 20 ≤ h then logicalLanes true else [])
    epoch := 0, epochFrom := 0, mapped := decide (20 ≤ h), reduced := decide (20 ≤ h) && decide (h < 24), subst := none, waiting := [], resend := [] }

/-- ALIGNMENT_SEARCH: Benash starts the search on all lanes of both directions. -/
def execAlignmentSearch (s : State) : Host.Outcome State Fault Refusal :=
  .next (if s.heldReset || s.dl.searching.isSome || s.pwr.railLow &&& 3 ≠ 0 then s else s.startSearch)

/-- ALIGNMENT_SEARCH_END, with the tests of the 26 outbound and inbound lanes. -/
def execAlignmentSearchEnd (outb inb : List LaneTest) (s : State) : Host.Outcome State Fault Refusal :=
  .next <|
    if s.dl.searching.isNone then s
    else
      let o := s.dl.outb.search outb
      let i := s.dl.inb.search inb
      let s1 : State := { s with dl := { s.dl with outb := o, inb := i, searching := none, ready := o.mapped && i.mapped } }
      let say := fun (st : State) (d : DlDir) (inb was : Bool) =>
        if !d.mapped then st.logEntry unitLine 4 kindFault 0 0x40 (b2n inb)
        else if d.reduced then st.noteReduced inb was else st
      say (say s1 o false s.dl.reduced) i true (s.dl.reduced || o.reduced)

/-- ALIGNMENT_RETRY: 10 s after a search that left a direction without a map, it is repeated. -/
def execAlignmentRetry (s : State) : Host.Outcome State Fault Refusal :=
  .next (if s.heldReset || s.pwr.railLow &&& 3 ≠ 0 || s.dl.searching.isSome || s.dl.searches = 0 || (s.dl.outb.mapped && s.dl.inb.mapped) then s else s.startSearch)

/-! ### Substitution (R31 to R35) -/

/-- LANE_SUBSTITUTION: a cause of a substitution of a physical lane. -/
def execLaneSubstitution (inb : Bool) (lane cause : Nat) (s : State) : Host.Outcome State Fault Refusal := .next (s.laneCause inb lane cause)

/-- Lane frames that pass in the period under way (R26). -/
def State.framesNow (s : State) : Nat := framesIn (s.eng.period - s.dl.cyclePeriod) (periodNs s.link.mode)

/-- SPARE_CLEAN_COUNT: the duplicating spare has passed 1,024 frames, and Benash announces a switch frame at least 16 frames ahead (R31). -/
def execSpareCleanCount (inb : Bool) (s : State) : Host.Outcome State Fault Refusal :=
  .next <|
    match (s.dir inb).subst with
    | some x =>
      if x.announced.isSome || !s.lanesRun inb then s
      else (s.modDir inb (fun d => { d with subst := some { x with announced := some (s.dl.frameNo + s.framesNow + 16 + freeFrameLead s.draws) } })).drawn
    | none => s

/-- Move a logical lane to a spare and retire the old lane. -/
def DlDir.move (d : DlDir) (old spare : Nat) : DlDir :=
  (d.modLane spare (fun l => { l with logical := (d.lane old).logical })).modLane old (fun l => { l with logical := 0xFE })

/-- SUBSTITUTION_SWITCH: at the announced frame both ends switch, with the new epoch (R31). It comes in the period in which that frame begins. -/
def execSubstitutionSwitch (inb : Bool) (s : State) : Host.Outcome State Fault Refusal :=
  .next <|
    match (s.dir inb).subst with
    | none => s
    | some x =>
      match x.announced with
      | none => s
      | some f =>
        if !s.lanesRun inb || s.dl.frameNo + s.framesNow < f then s
        else
          let s1 := s.modDir inb (fun d => { (d.move x.old x.spare) with subst := none, epoch := (d.epoch + 1) % 256, epochFrom := f })
          let s2 : State := { s1 with dl := { s1.dl with substs := inc 16 s1.dl.substs } }
          ((s2.logEntry unitLine 2 kindRepair x.cause (if inb then 0x42 else 0x41) x.old x.spare x.cause (s2.dir inb).epoch).raiseEvent evDielink).nextSubst inb 26

/-! ### Lane frames (R24 to R28, R104, R109) -/

/-- CRC-16 of word 63 over words 0 to 62, each least significant byte first (Table 1-4). Within a byte the most significant bit is taken first (DESIGN CHOICE, log
entry 68: the spec gives the order of the bytes, and of the bits on the lane, but not that of the bits in the check). -/
def laneCheck (ws : List (BitVec 32)) : Nat :=
  crcLeft 16 0x8BB7 0xFFFF ((ws.take 63).flatMap (fun w => (leBytes 4 w.toNat).flatMap (fun b => msbBits 8 b.toNat)))

/-- Bits, least significant first, as 32-bit words; the last one is filled up with 0 (R25). -/
def wordsOf : Nat → List Bool → List (BitVec 32)
  | 0, _ => []
  | n + 1, bits => BitVec.ofNat 32 (ofBools (bits.take 32)) :: wordsOf n (bits.drop 32)

/-- Bits of one sample: 10-bit DAC codes outbound, 8-bit ADC samples inbound (R25). -/
def sampleBits (inb : Bool) : Nat := if inb then 8 else 10

/-- Words that n samples take in a frame. -/
def sampleWords (inb : Bool) (n : Nat) : Nat := (sampleBits inb * n + 31) / 32

/-- The samples of a pair packed least significant bit first into consecutive words (R25). -/
def packSamples (inb : Bool) (samples : List Int) : List (BitVec 32) :=
  wordsOf (sampleWords inb samples.length) (samples.flatMap (fun v => toBools (sampleBits inb) (ofInt (sampleBits inb) v)))

/-- The payload of a pair group in a frame: its sample data, then control words (R25, R33). `lanes`: 6, or 5 in the reduced map. -/
def groupPayload (inb : Bool) (lanes : Nat) (samples : List Int) (control : List (BitVec 32)) : List (BitVec 32) :=
  let ws := packSamples inb samples ++ control
  ws.take (62 * lanes) ++ List.replicate (62 * lanes - ws.length) 0

/-- The 62 payload words of the logical lane at a position of its group (R25, R33). -/
def lanePayload (lanes pos : Nat) (group : List (BitVec 32)) : List (BitVec 32) := (List.range 62).map (fun w => group.getD (w * lanes + pos) 0)

/-- A lane frame: MARKER, FCOUNT, EPOCH, payload and CHECK (R24). -/
def laneFrame (count epoch : Nat) (payload : List (BitVec 32)) : List (BitVec 32) :=
  let body := BitVec.ofNat 32 (packNat [(16, 0x5A3C), (8, count), (8, epoch)]) :: payload
  body ++ [BitVec.ofNat 32 (laneCheck body)]

/-- Words of control traffic that a group offers in a frame (R25, R33). -/
def groupControl (inb : Bool) (lanes n : Nat) : Nat := 62 * lanes - sampleWords inb n

/-- The control channel of a direction in a frame: its words over groups 0 to 3 in order (R25). -/
def controlShare (inb : Bool) (lanes n : Nat) (control : List (BitVec 32)) (group : Nat) : List (BitVec 32) :=
  (control.drop (group * groupControl inb lanes n)).take (groupControl inb lanes n)

/-- The frame of a logical lane: the samples of each pair in it, and the control words of the direction (R24, R25). -/
def frameOf (inb reduced : Bool) (lane count epoch : Nat) (samples : Quad (List Int)) (control : List (BitVec 32)) : List (BitVec 32) :=
  let lanes := if reduced then 5 else 6
  let p : Pair := ⟨lane / 6 % 4, Nat.mod_lt _ (by decide)⟩
  laneFrame count epoch (lanePayload lanes (lane % 6) (groupPayload inb lanes (samples.at p) (controlShare inb lanes (samples.at p).length control p.val)))

/-- A lane frame fails (R28). -/
def laneFails (ws : List (BitVec 32)) (count epoch : Nat) : Bool :=
  let w0 := (ws.getD 0 0).toNat
  let w63 := (ws.getD 63 0).toNat
  ws.length ≠ 64 || w0 % 65536 ≠ 0x5A3C || bitsAt w0 16 8 ≠ count % 256 || bitsAt w0 24 8 ≠ epoch || w63 % 65536 ≠ laneCheck ws

/-- The epoch in force in a frame: a switch announced for it or an earlier one counts (R31). -/
def DlDir.epochOf (d : DlDir) (frame : Nat) : Nat :=
  if frame < d.epochFrom then (d.epoch + 255) % 256
  else match d.subst with
    | some x => if x.announced.any (· ≤ frame) then (d.epoch + 1) % 256 else d.epoch
    | none => d.epoch

/-- Symbols, counted from the start of the cycle, of the samples that have bits in the words of a logical lane in frame j of a cycle (R25, R26). -/
def laneSymbols (inb : Bool) (r : Rung) (j pos lanes : Nat) : List Nat :=
  let b := sampleBits inb
  let start := j * (1024 * (sampleCycle r).1) / (sampleCycle r).2
  (List.range (samplesInFrame r j)).filterMap (fun i => if b * i / 32 % lanes = pos || (b * i + b - 1) / 32 % lanes = pos then some (start + i) else none)

/-- The same as timeline periods and symbols in them, for a frame of a direction. -/
def State.laneSamples (s : State) (inb : Bool) (r : Rung) (frame pos lanes : Nat) : List (Nat × Nat) :=
  let k := frame - s.dl.cycleAt
  let first := s.dl.cyclePeriod + k / (sampleCycle r).2 * (sampleCycle r).1
  (laneSymbols inb r (k % (sampleCycle r).2) pos lanes).map (fun y => (first + y / 1024, y % 1024))

/-- Payload words of a logical lane in a frame that carry control traffic. -/
def controlWords (inb : Bool) (n pos lanes : Nat) : Nat := 62 - ((List.range (sampleWords inb n)).filter (fun w => w % lanes = pos)).length

/-- The erasure marks of a failed inbound lane frame, and the segments they erase (R104). -/
def State.eraseLane (s : State) (frame logical lanes : Nat) : State :=
  match s.link.mode with
  | none => s
  | some r =>
    let p : Pair := ⟨logical / 6 % 4, Nat.mod_lt _ (by decide)⟩
    let now := s.eng.period
    let ks := (s.laneSamples true r frame (logical % 6) lanes).filter (fun k => decide (now ≤ k.1 + 2))
    let segs := (ks.map (fun k => (k.1 + 2 - now, k.2 / 64))).eraseDups
    s.modRx p (fun x => segs.foldl (fun y m => y.eraseGainAt m.1 m.2) { x with marks := ks ++ x.marks.filter (fun m => decide (now ≤ m.1 + 4)) })

/-- Codes of a failed outbound lane frame may not have reached the line: no echo or NEXT update uses the periods that hold them (R109). -/
def State.doubtLane (s : State) (frame logical lanes : Nat) : State :=
  match s.link.mode with
  | none => s
  | some r =>
    let p : Pair := ⟨logical / 6 % 4, Nat.mod_lt _ (by decide)⟩
    let ks := ((s.laneSamples false r frame (logical % 6) lanes).map (·.1)).eraseDups
    s.modRx p (fun x => { x with badRef := (ks ++ x.badRef).take 8 })

/-- Words sent again that a frame with some room of control words has carried. -/
def resent (frame : Nat) : Nat → List Resend → List Resend
  | _, [] => []
  | room, x :: t =>
    if frame ≤ x.frame then x :: resent frame room t
    else if x.words ≤ room then resent frame (room - x.words) t
    else { x with words := x.words - room } :: t

/-- Words of earlier frames that wait to be sent again. -/
def waitingWords (frame : Nat) (l : List Resend) : Nat := sumNat ((l.filter (fun x => decide (x.frame < frame))).map (·.words))

/-- Control words of a failed frame are discarded: those sent for the first time join the ones to send again, the others stay among them (R28). -/
def DlDir.discard (d : DlDir) (frame lane room : Nat) : DlDir :=
  let new := room - waitingWords frame d.resend
  if new = 0 then d else { d with resend := d.resend ++ [{ frame := frame, lane := lane, words := new }] }

/-- LANE_FRAME_CHECK: word 63 of a lane frame has been received; `frame` is the direction's count of frames up to it. A cycle of R26
begins where the count since its last restart is a multiple of its frames (DEDUCED, log entry 21). -/
def execLaneFrameCheck (inb : Bool) (lane frame : Nat) (ws : List (BitVec 32)) (s : State) : Host.Outcome State Fault Refusal :=
  .next <|
    let d := s.dir inb
    let l := d.lane lane
    let dup := match d.subst with | some x => x.spare = lane | none => false
    if !s.lanesRun inb || (!d.carries lane && !dup) then s
    else
      let lanes := if d.reduced then 5 else 6
      let n := match s.link.mode with | some r => samplesInFrame r ((frame - s.dl.cycleAt) % (sampleCycle r).2) | none => 0
      let c := controlWords inb n (l.logical % 6) lanes
      if !laneFails ws frame (d.epochOf frame) then
        (if dup then s else s.modDir inb (fun d => { d with resend := resent frame c d.resend }))
      else
        let fails := frame :: l.recent.filter (fun f => decide (frame < f + 8192))
        let s1 := s.modDir inb (fun d => d.modLane lane (fun l => { l with crcFail := inc 16 l.crcFail, recent := fails }))
        if dup then
          let x := d.subst.getD { logical := 0, old := 0, spare := 0 }
          (s1.modDir inb (fun d => { (d.modLane lane (fun l => { l with logical := 0xFE })) with subst := none })).laneCause inb x.old x.cause
        else
          let s2 := s1.modDir inb (fun d => d.discard frame l.logical c)
          let s3 := if inb then s2.eraseLane frame l.logical lanes else s2.doubtLane frame l.logical lanes
          if 4 ≤ fails.length then s3.laneCause inb lane 1 else s3

/-! ### Power states (R34, R35, R39 to R45) -/

/-- An operation that holds Dormant entry off (R42). -/
def State.dormantBlocked (s : State) : Bool :=
  s.cal.run.isSome || (s.findRun 0x52 (fun _ => true)).isSome || s.diag.run.isSome || s.bist.run.isSome || s.bist.startup || s.ben.sdPrep || s.dl.searching.isSome

/-- A condition for Dormant holds (R42): AUTO acts while the link waits for a partner (Table 1-10). -/
def State.dormantWanted (s : State) : Bool :=
  (s.link.state = 0 && s.pwr.dormAdmin) ||
    (1 ≤ s.link.state && s.link.state < 3 && s.pwr.dormAuto && s.link.energy = 0 && s.link.lastEnergy + 10000000 * s.pwr.dormIdle ≤ s.time)

/-- DORMANT_ENTRY. -/
def execDormantEntry (s : State) : Host.Outcome State Fault Refusal :=
  .next <|
    if s.heldReset || s.pwr.state ≠ .active || !s.dormantWanted || s.dormantBlocked then s
    else
      let drop := fun (d : DlDir) => match d.subst with
        | some x => { d with subst := none, waiting := (x.old, x.cause) :: d.waiting }
        | none => d
      State.gateEngines { s with
        pwr := { s.pwr with state := .dormant, dormExit := false, dormByAdmin := s.link.state = 0 && s.pwr.dormAdmin }
        dl := { s.dl with deep := true, outb := drop s.dl.outb, inb := drop s.dl.inb }
        link := { s.link with neg := {} } }

/-- A cause to leave Dormant holds (R43). -/
def State.dormantCause (s : State) : Bool := (s.link.state ≠ 0 && s.link.energy ≠ 0) || (if s.pwr.dormByAdmin then !s.pwr.dormAdmin else !s.pwr.dormAuto)

/-- DORMANT_EXIT: a cause of R43 begins the exit. -/
def execDormantExit (s : State) : Host.Outcome State Fault Refusal := .next (if s.dormantCause then s.leaveDormant else s)

/-- A mapped lane that fails its check at exit is replaced directly (R34). -/
def State.replaceAtExit (s : State) (inb : Bool) (lane : Nat) : State :=
  let d := s.dir inb
  if !d.carries lane then s
  else match d.spare with
    | some k => let s1 := s.modDir inb (fun d => d.move lane k); { s1 with dl := { s1.dl with substs := inc 16 s1.dl.substs } }
    | none => s.reduceMap inb lane

/-- DEEP_LOW_POWER_EXIT: every mapped lane has shown 16 good MARKER words, but those named; the device is in Active (R34, R35, R43). -/
def execDeepLowPowerExit (outb inb : List Nat) (s : State) : Host.Outcome State Fault Refusal :=
  .next <|
    if !(s.pwr.state = .dormant && s.pwr.dormExit) then s
    else
      let s1 : State := { s with pwr := { s.pwr with state := .active, dormExit := false }, dl := { s.dl with deep := false } }
      let s2 := inb.foldl (fun st k => st.replaceAtExit true k) (outb.foldl (fun st k => st.replaceAtExit false k) s1)
      (((if s2.link.state = 1 then s2.startNegotiation else s2).nextSubst false 26).nextSubst true 26).gateEngines

/-- CABLE_DISCHARGE: a clamp current above 1 A on a pair (R38). -/
def execCableDischarge (p : Pair) (s : State) : Host.Outcome State Fault Refusal :=
  .next <|
    if s.pwr.porHeld || s.pwr.warmHeld || s.pwr.railLow &&& 3 ≠ 0 then s
    else (s.modPwr (fun w => { w with discharge := w.discharge.upd p (inc 16) })).logEntry unitLine 3 kindFault 0 0x50 p.val

/-! ### Objects 0x0110, 0x0111, 0x0140 to 0x0142, 0x0150 -/

/-- 0x0110 POWER_STATE (R40). -/
def State.powerStateImage (s : State) : List (Nat × Nat) :=
  [(2, match s.pwr.state with | .active => 0 | .quietLatch => 1 | .dormant => 2), (62, 0)]

/-- 0x0111 DORMANT_CTL (R41). -/
def State.dormantCtlImage (s : State) : List (Nat × Nat) :=
  [(1, b2n s.pwr.dormAdmin), (1, b2n s.pwr.dormAuto), (6, 0), (8, s.pwr.dormIdle), (48, 0)]

/-- A DORMANT_CTL that may be stored. -/
def dormantCtlOk (v : Nat) : Bool := bitsAt v 2 6 = 0 && bitsAt v 8 8 ≠ 0 && v / 2 ^ 16 = 0

/-- Store DORMANT_CTL; clearing the bit that allowed entry leaves Dormant (R43). -/
def State.storeDormantCtl (s : State) (v : Nat) : State :=
  let s1 := s.modPwr (fun w => { w with dormAdmin := bitAt v 0, dormAuto := bitAt v 1, dormIdle := bitsAt v 8 8 })
  if s1.dormantCause then s1.leaveDormant else s1

/-- Free spares of a direction. -/
def DlDir.spares (d : DlDir) : Nat := (d.lanes.filter (fun l => l.logical = 0xFF)).length - b2n d.subst.isSome

/-- 0x0140 DL_STATUS. -/
def State.dlStatusImage (s : State) : List (Nat × Nat) :=
  let d := s.dl
  [(5, d.outb.spares), (5, d.inb.spares), (1, b2n (d.outb.reduced || d.inb.reduced)), (1, b2n d.deep), (1, b2n (d.outb.subst.isSome || d.inb.subst.isSome)),
    (3, 0), (8, d.outb.epoch), (8, d.inb.epoch), (16, d.searches), (16, d.substs)]

/-- 0x0141 and 0x0142: 26 lane records. -/
def State.lanesImage (s : State) (inb : Bool) : List (Nat × Nat) :=
  (s.dir inb).lanes.zipIdx.flatMap (fun x => [(8, x.2), (8, x.1.logical), (8, x.1.eye), (5, x.1.slips), (3, 0), (16, x.1.crcFail), (16, 0)])

/-- 0x0150: the discharge counters (R38). -/
def State.dischargeImage (s : State) : List (Nat × Nat) := s.pwr.discharge.toList.map (fun n => (16, n))

end Sys2Proof.Machine
end

