-- ==== Sys2Proof/Machine/Quiet.lean ====
section
/-! DEFINITION. Quiet-Latch: entry, refresh, wake bursts, reception, leaving; Clause 78 LPI and the T40 idle (06_quiet_latch R194 to R224). -/

namespace Sys2Proof.Machine

/-! ### Entering (R194 to R199) -/

/-- The Quiet-Latch profile of the mode. -/
def State.quietProfile (s : State) : Profile := if s.link.mode = some 0 then .ql100 else .ql50

/-- The idle timer has reached IDLE_TIME (R195). -/
def State.idleOver (s : State) : Bool := match s.ql.run.idleSince with | some (t, n) => decide (t + n ≤ s.time) | none => false

/-- QL_IDLE_TIMER: the idle conditions have held for IDLE_TIME; the Quiet-Latch profile is staged and validated under R135, and QR set. A commit that is armed is
allowed to finish first (R136); a profile that fails is logged, and the timer starts again (R195). -/
def execQlIdleTimer (s : State) : Host.Outcome State Fault Refusal :=
  .next <|
    if !(s.quietAllowed && s.idleOver && s.ql.run.txState = 0 && s.ql.run.rxState = 0 && s.ben.up && !s.armed) then s
    else
      let s1 := s.openStaging false
      let bank := s1.profileBank s1.quietProfile
      match s1.validate bank s1.quietProfile with
      | some (code, e) =>
        State.modQl ((s1.modEng (fun g => { g with staging := none, lastReject := code, lastRejectEng := e })).logEntry unitQuiet 3 kindFault code 0x01 e Status.range.code)
          (fun q => { q with idleSince := none })
      | none =>
        let s2 := s1.modEng (fun g => { (g.putInactive bank) with staging := g.staging.map (fun x => { x with state := 2, profile := some s1.quietProfile }) })
        (s2.setStatus 1 1).modQl (fun q => { q with txState := 1 })

/-- QUIET_WITHDRAW: a condition of R195 fails before the quiet start (R196). -/
def execQuietWithdraw (s : State) : Host.Outcome State Fault Refusal := .next (if s.quietAllowed then s else s.withdrawQuiet)

/-- The staging of the Quiet-Latch profile is this end's own and still open (R195, R196). -/
def State.quietStaged (s : State) : Bool := match s.eng.staging with | some g => g.profile = some s.quietProfile && !g.host | none => false

/-- QUIET_START: the next transmit period is this end's quiet period 0 (R197, R217). The generation staged for Quiet-Latch is committed; where a host's staging has
taken its place, Benash stages it again, and a commit that is armed is allowed to finish first (R136). -/
def execQuietStart (s : State) : Host.Outcome State Fault Refusal :=
  .next <|
    let x := s.statusTx 1
    if !(s.quietAllowed && s.ql.run.txState = 1 && x.now = 1 && 8 ≤ x.age && s.statusRx 1 = 1 && s.lc.run.txSeq % 16 = 0 && !s.armed) then s
    else
      let s1 := if s.quietStaged then s else s.openStaging false
      let s2 := s1.modEng (fun g => { (g.putInactive (s1.profileBank s1.quietProfile)) with
        activeGen := g.lastGen, switchPeriod := g.period % 2 ^ 32, staging := none, profile := s1.quietProfile })
      let s3 := s2.modQl (fun q => { q with
        txState := 2, qc := some 0, waitFar := 0, farQr0 := 0, laid := true, committed := false, wakeDue := none, burstAt := none, idleSince := none })
      (s3.modQlCnt (fun c => { c with entries := inc 32 c.entries })).judgeQuiet

/-- ENTRY_ABORT: the partner withdrew QR, or its quiet period 0 was not found within 64 receive periods (R199). -/
def execEntryAbort (s : State) : Host.Outcome State Fault Refusal :=
  .next <|
    if s.nativeData && (s.ql.run.txState = 2 || s.ql.run.txState = 3) && (3 ≤ s.ql.run.farQr0 || (s.ql.run.farQc.isNone && 64 ≤ s.ql.run.waitFar)) && s.ql.run.wakeDue.isNone then
      (s.modQlCnt (fun c => { c with entryAborts := inc 32 c.entryAborts })).wakeCause 8
    else s

/-! ### Refresh and wake bursts (R200 to R206) -/

/-- A standard mode in data with an idle resolved. -/
def State.stdIdle (s : State) : Bool := s.link.state = 8 && !s.nativeMode && (s.link.eee || s.link.legacyIdle)

/-- REFRESH_WINDOW: the next transmit period is QC = n × RI; a wake that is due cancels the window (R200, R206). In a standard mode the clause's refreshes are counted:
one that this end sends, one that came from the partner, and one that did not (R218). -/
def execRefreshWindow (far : Option Bool) (s : State) : Host.Outcome State Fault Refusal :=
  .next <|
    let ri := if s.link.mode = some 0 then 1562 else 781
    match far with
    | some got =>
      if !(s.stdIdle && s.ql.run.rxState ≠ 0) then s
      else if got then s.modQlCnt (fun c => { c with refreshRx := inc 32 c.refreshRx }) else s.modQlCnt (fun c => { c with refreshMiss := inc 32 c.refreshMiss })
    | none =>
      if s.stdIdle then (if s.ql.run.txState = 2 then s.modQlCnt (fun c => { c with refreshTx := inc 32 c.refreshTx }) else s)
      else match s.ql.run.qc with
      | some k => if s.nativeData && s.ql.run.txState = 2 && ri ≤ k && k % ri = 0 && s.ql.run.wakeDue.isNone then s.modQl (fun q => { q with txState := 3 }) else s
      | none => s

/-- WAKE_BURST_START: a start point, 1,088 symbols before the boundary P0 after next (R204 to R206). -/
def execWakeBurstStart (s : State) : Host.Outcome State Fault Refusal :=
  .next <|
    match s.ql.run.wakeDue with
    | none => s
    | some (cause, t) =>
      if !(s.nativeData && s.ql.run.txState = 2) then s
      else
        let seq := (s.lc.run.txSeq + 1) % 256
        let kind := if cause = 6 || cause = 7 then 6 else 5
        let s1 : State := { s with ql := { s.ql with waitMax := min 65535 (max s.ql.waitMax (s.time - t)) } }
        let s2 := (s1.modQl (fun q => { q with txState := 4, settleTx := 7, wakeDue := none, burstAt := some s.time })).setStatus 1 0
        (s2.modQlCnt (fun c => { c with wakesTx := inc 32 c.wakesTx })).driveBurst 1 64 (fun p => burstSymbols p.val seq kind)

/-! ### What the receiver sees at an instant (R87, R207 to R212) -/

/-- The samples of the period under way join the receive periods, for what is judged at an instant in it. -/
def State.withPart (s : State) (k : RxInstant) : State := { s with rx := { s.rx with adc := { no := s.eng.period, adc := k.part } :: s.rx.adc } }

/-- The symbol of an instant, counted from the first timeline period. -/
def State.symbolAt (s : State) (k : RxInstant) : Nat := 1024 * s.eng.period + k.pos

/-- The n entries of a list that end at a position. -/
def windowAt {α : Type} (l : List α) (pos n : Nat) : List α := (l.drop (pos + 1 - n)).take n

/-- The aligned ADC samples of a pair, the period before and the period under way (after `withPart`): the instant is at 1,024 + pos. -/
def State.rawInput (s : State) (p : Pair) : List Int := ((s.alignedRaw p 1 512).drop 1024).take 2048

/-- The last n ADC samples of a pair at an instant, `back` symbols before it; in the T40 idle the samples as they came (R220). -/
def State.samplesTo (s : State) (k : RxInstant) (p : Pair) (n back : Nat) : List Int :=
  if s.nativeMode then windowAt (s.rawInput p) (1024 + k.pos - back) n
  else lastSamples n ((s.rxPeriod 1).adc.at p ++ (k.part.at p).take (k.pos + 1 - back))

/-- The strength of a pair at an instant, over the most recent 256 samples (R87). -/
def State.strengthAt (s : State) (k : RxInstant) (back : Nat) (p : Pair) : Int := s.strengthOf p (s.samplesTo k p 256 back)

/-- Onset on a pair: its last 64 samples are at ONSET_LEVEL or above (R207). -/
def State.onsetOn (s : State) (k : RxInstant) (p : Pair) : Bool := s.powerAtLeast p (s.samplesTo k p 64 0) s.ql.run.use.onset

/-- The chips of the far pair of a local pair: rotated, and negated where it is reversed (R204, R208). -/
def PairMap.chips (m : PairMap) (p : Pair) : List Rat :=
  let q := (m.far.at p).val
  (wakeChips.drop (128 * q % 512) ++ wakeChips.take (128 * q % 512)).map (fun v => if m.inv.at p then -(v : Rat) else (v : Rat))

/-- The correlator's input on a pair, the period before and the period under way: the output of block 5 while the local transmitter is silent, up to the scale of an
ADC code, which ρ does not depend on; else the combined signal (R208). -/
def State.wakeInput (s : State) (p : Pair) : List Rat :=
  if s.ql.run.txState = 2 then ((s.gainedIn 1 p 1).drop 1024).take 2048 else s.combined p 1 ++ s.combined p 0

/-- ρ of a pair's input at a position; 0 where there is no power. -/
def rhoOf (chips x : List Rat) (pos : Nat) : Rat :=
  let w := windowAt x pos chips.length
  let e := dot w w
  if e = 0 then 0 else dot chips w * dot chips w / (dot chips chips * e)

/-- A correlator with chips fires at a position of its input: a local maximum within ±2 that reaches a threshold in 1/256 (R208; equal neighbours do not hinder it:
DESIGN CHOICE, log entry 92). -/
def peakOf (chips x : List Rat) (thr pos : Nat) : Bool :=
  let v := rhoOf chips x pos
  [pos - 2, pos - 1, pos + 1, pos + 2].all (fun n => decide (rhoOf chips x n ≤ v)) && decide ((thr : Rat) / 256 ≤ v)

/-- Pair p fires at a position (R208). -/
def State.firesAt (s : State) (p : Pair) (pos : Nat) : Bool :=
  peakOf (s.link.map.chips p) (s.wakeInput p) s.ql.run.use.detThr pos && s.powerAtLeast p (windowAt (s.rawInput p) pos 512) s.ql.run.use.onset

/-- The pairs that have fired within the 16 symbols that end at an instant (R209). -/
def State.firedPairs (s : State) (k : RxInstant) : BitVec 4 := s.pairsWhere (fun p => (List.range 16).any (fun i => s.firesAt p (1024 + k.pos - i)))

/-- DET_PAIRS pairs have fired within 16 symbols, the last of them at this instant (R209). -/
def State.peakAt (s : State) (k : RxInstant) : Bool :=
  s.ql.run.use.detPairs ≤ popCount 4 (s.firedPairs k).toNat && s.activePairs.any (fun p => s.firesAt p (1024 + k.pos))

/-- The largest ρ of some pairs within the 16 symbols, in 1/256, a fraction dropped. -/
def State.rhoMax (s : State) (k : RxInstant) (who : BitVec 4) : Nat :=
  ((pairs.filter (fun p => who.getLsbD p.val)).flatMap (fun p => (List.range 16).map (fun i =>
    ⌊256 * rhoOf (s.link.map.chips p) (s.wakeInput p) (1024 + k.pos - i)⌋.toNat))).foldl max 0

/-- The 16 sums of four symbols over all active pairs (R210). -/
def State.syncSums (s : State) (k : RxInstant) : List Rat :=
  let xs := s.activePairs.map (fun p => windowAt (s.wakeInput p) (1024 + k.pos) 64)
  (List.range 16).map (fun i => (xs.map (fun x => ((x.drop (4 * i)).take 4).foldl (· + ·) 0)).foldl (· + ·) 0)

/-- The word of 16 sums: +15 is 0; none unless every magnitude is at least a quarter of their mean (R205, R210). -/
def syncOf (l : List Rat) : Option Nat :=
  let mean := (l.map (fun v => |v|)).foldl (· + ·) 0 / 16
  if l.all (fun v => decide (mean / 4 ≤ |v|)) then some (ofBools (l.map (fun v => decide (v < 0)))) else none

/-! ### Reception (R207 to R213) -/

/-- Change the reception in progress. -/
def State.modRec (s : State) (f : Reception → Reception) : State := s.modQl (fun q => { q with rx := q.rx.map f })

/-- The receive direction takes part in a reception: native Quiet-Latch, or the T40 idle (R207, R220). -/
def State.mayReceive (s : State) : Bool := s.link.state = 8 && (s.nativeMode || s.link.legacyIdle)

/-- The fast gain loop starts after an instant, from the settings in force (R84, R85). -/
def State.startGain (s : State) (k : RxInstant) : State :=
  { s with rx := { s.rx with gainRun := true, gainPos := k.pos + 1, pair := s.rx.pair.map (·.gainStart) } }

/-- The fast gain loop runs up to an instant, `back` symbols before it, and freezes (R85). -/
def State.freezeGain (s : State) (k : RxInstant) (back : Nat) : State :=
  let s1 := if s.rx.gainRun then s.runGain (k.part.map (·.take (k.pos + 1 - back))) else s
  { s1 with rx := { s1.rx with gainRun := false, gainPos := 0 } }

/-- What a reception that fails returns to is held: the AFC, the settings, the peak strengths (R85, R87, R88). -/
def State.holdReception (s : State) : State :=
  { s with rx := { s.rx with heldFreq := s.rx.freqOfs, heldPga := s.rx.pair.map (·.pga), heldPeak := s.rx.pair.map (·.peak), afcRun := true } }

/-- ONSET: the first onset on a quiet receive direction begins an acquisition interval (R207). -/
def execOnset (k : RxInstant) (s : State) : Host.Outcome State Fault Refusal :=
  .next <|
    if !(s.mayReceive && s.ql.run.rxState = 1 && s.activePairs.any (fun p => (s.withPart k).onsetOn k p)) then s
    else (s.holdReception.startGain k).modQl (fun q => { q with rxState := 2, rx := some { since := s.symbolAt k } })

/-- A reception ends: its record is the last one (R223). -/
def State.endReception (s : State) (r : Reception) (result : Nat) : State := { s with ql := { s.ql with last := { r.record with result := result } } }

/-- A reception is given up and the direction is quiet again, with the held values (R211). -/
def State.abandon (s : State) (r : Reception) (result : Nat) : State :=
  ((s.restoreReception.gapChain).modQl (fun q => { q with rxState := 1, rx := none, listen := none })).endReception r result

/-- ACQUISITION_TIMEOUT: no latch point within 1,536 symbols of onset. Where onset still holds on DET_PAIRS pairs the receiver listens, in the native modes, which have
headers to listen for (R207, R211; the T40 idle: DESIGN CHOICE, log entry 92). -/
def execAcquisitionTimeout (k : RxInstant) (s : State) : Host.Outcome State Fault Refusal :=
  .next <|
    match s.ql.run.rx with
    | none => s
    | some r =>
      if !(s.mayReceive && s.ql.run.rxState = 2 && r.capture.isNone && r.since + 1536 ≤ s.symbolAt k) then s
      else
        let still := s.pairsWhere (fun p => (s.withPart k).onsetOn k p)
        let s1 := s.abandon r 5
        if s.nativeMode && s.ql.run.use.detPairs ≤ popCount 4 still.toNat then
          s1.modQl (fun q => { q with rxState := 6, listen := some (16, 0), listenHeld := some s1.rx.pair })
        else s1.modQlCnt (fun c => { c with onsets := inc 32 c.onsets })

/-- The lowest pair that fired. -/
def lowestPair (b : BitVec 4) : Pair := (pairs.find? (fun (p : Pair) => b.getLsbD p.val)).getD 0

/-- The latch point, `back` symbols before an instant: the gain freezes, PEAK_STRENGTH is latched, the digital gain is 0 dB and the search opens (R85 to R87,
R209, R223). `who`: pairs that fired. -/
def State.latchAt (s : State) (k : RxInstant) (back : Nat) (who : BitVec 4) (rho : Nat) (r : Reception) : State :=
  let s0 := s.freezeGain k back
  let str : Quad Int := (⟨0, 1, 2, 3⟩ : Quad Pair).map ((s0.withPart k).strengthAt k back)
  let at' := s.symbolAt k - back
  let s1 : State := { s0 with rx := { s0.rx with
    pair := s0.rx.pair.mapIdx (fun p x => if s.activePair p then { x with peak := some (str.at p), gain := 0 } else x) } }
  s1.modQl (fun q => { q with rxState := 3, rx := some { r with
    latch := some at', pairs := who, ref := str
    record := { r.record with
      pairs := who, peak := some (str.at (lowestPair who)), period := at' / 1024 % 2 ^ 32, latchSym := at' % 1024, rho := min 65535 rho } } })

/-- A peak lies at the second repetition's place of a reference (R209, R212). -/
def nearSecond (at' ref : Nat) : Bool := decide (ref + 508 ≤ at') && decide (at' ≤ ref + 516)

/-- LATCH_POINT: DET_PAIRS pairs fired within 16 symbols; after a capture, the peak of the second repetition, or 516 symbols after the capture (R209, R213). -/
def execLatchPoint (k : RxInstant) (s : State) : Host.Outcome State Fault Refusal :=
  .next <|
    match s.ql.run.rx with
    | none => s
    | some r =>
      let w := s.withPart k
      if !(s.nativeData && s.ql.run.rxState = 2) then s
      else match r.capture with
        | none => if w.peakAt k then s.latchAt k 0 (w.firedPairs k) (w.rhoMax k (w.firedPairs k)) r else s
        | some c =>
          if c + 516 ≤ s.symbolAt k then s.latchAt k 0 r.pairs (w.rhoMax k r.pairs) r
          else if nearSecond (s.symbolAt k) c && w.peakAt k then s.latchAt k 0 (w.firedPairs k) (w.rhoMax k (w.firedPairs k)) { r with second := true }
          else s

/-- Symbols from the nearest boundary of the local timeline to the end of the symbol at an instant. -/
def fromBoundary (k : RxInstant) : Int := if k.pos < 512 then k.pos + 1 else (k.pos : Int) - 1023

/-- Receive periods released before the one that begins at the boundary nearest to an instant: the period under way is released third (R83). -/
def aheadOf (k : RxInstant) : Nat := if k.pos < 512 then 2 else 3

/-- A sync word belongs to a reception, and its place, KIND, CHECK and SEQ fit (R210). -/
def State.syncValid (s : State) (r : Reception) (k : RxInstant) (w : Nat) : Bool :=
  let seq := bitsAt w 0 8
  let kind := bitsAt w 8 4
  let ref := r.capture.getD (r.latch.getD 0)
  let off : Int := (s.symbolAt k : Int) - ref
  (kind = 5 || kind = 6) && w = syncWord seq kind && ((off - 576).natAbs ≤ 8 || (!r.second && (off - 64).natAbs ≤ 8)) &&
    (fromBoundary k).natAbs ≤ 16 && seq = (s.lc.run.rxSeq + aheadOf k) % 256

/-- The frequency offset that the phase drift since the end of the last burst shows, mean of the active pairs, 0.001 ppm (R88). -/
def State.driftFreq (s : State) (chips : Pair → List Rat) (x : Pair → List Rat) (now : Nat) : Int :=
  let gap := now - s.rx.burstEnd
  let drift := (s.activePairs.map (fun p => freePreamblePhase ((chips p).map (fun v => ⌊v⌋)) (x p))).foldl (· + ·) 0
  if gap = 0 || s.activePairs = [] then s.rx.heldFreq else s.rx.heldFreq + roundRat (drift / s.activePairs.length / 256 / gap * 1000000000)

/-- The AFC freezes on an estimate, which changes the held offset by at most 5 ppm (R88, R89). -/
def State.freezeAfc (s : State) (f : Int) : State :=
  let c := clampInt (s.rx.heldFreq - 5000) (s.rx.heldFreq + 5000) f
  { s with rx := { s.rx with afcRun := false, freqOfs := c, freqClamp := if c = f then s.rx.freqClamp else inc 16 s.rx.freqClamp } }

/-- A sync word is accepted: FREQ_OFS and STRENGTH are latched, the interpolator takes the offset to the boundary, and the data bank is due where settle period 0
ends (R87 to R89, R210). After a capture without a latch point, the word's first symbol is it (R213). -/
def State.acceptSync (s : State) (k : RxInstant) (r : Reception) : State :=
  let w := s.withPart k
  let s0 := if r.latch.isNone then s.latchAt k 63 r.pairs (w.rhoMax k r.pairs) r else s
  let f := w.driftFreq s.link.map.chips (fun p => windowAt (w.wakeInput p) (1024 + k.pos - 64) 512) (s.symbolAt k)
  let s1 := s0.freezeAfc f
  let s2 : State := { s1 with rx := { s1.rx with pair := s1.rx.pair.mapIdx (fun p y => if s.activePair p then
    { y with strength := some (w.strengthAt k 0 p), phase := y.phase + 256 * (fromBoundary k : Rat) } else y) } }
  s2.modQl (fun q => { q with rxState := 4, rx := q.rx.map (fun x => { x with
    synced := true, lead := aheadOf k, settle := 0, hdr := false
    bankIn := if x.bankIn = some 0 then some 0 else some (if k.pos < 512 then 1 else 2)
    record := { x.record with latchToSync := (s.symbolAt k - x.latch.getD 0) % 2 ^ 16 } }) })

/-- SYNC_WORD, at its last symbol: accepted, or rejected while the search goes on (R210). -/
def execSyncWord (k : RxInstant) (s : State) : Host.Outcome State Fault Refusal :=
  .next <|
    match s.ql.run.rx with
    | none => s
    | some r =>
      if !(s.nativeData && (s.ql.run.rxState = 3 || (s.ql.run.rxState = 2 && r.capture.isSome))) then s
      else match syncOf ((s.withPart k).syncSums k) with
        | some w => if s.syncValid r k w then s.acceptSync k r else s.modQlCnt (fun c => { c with syncRejects := inc 32 c.syncRejects })
        | none => s.modQlCnt (fun c => { c with syncRejects := inc 32 c.syncRejects })

/-- A false wake: the reception is abandoned and counted (R211). -/
def State.falseWake (s : State) (r : Reception) (result : Nat) : State := (s.modQlCnt (fun c => { c with falseWakes := inc 32 c.falseWakes })).abandon r result

/-- SYNC_SEARCH_TIMEOUT: no valid sync word by 1,200 symbols after the latch point, an instant in the period under way (R211). -/
def execSyncSearchTimeout (s : State) : Host.Outcome State Fault Refusal :=
  .next <|
    match s.ql.run.rx with
    | some r => if s.nativeData && s.ql.run.rxState = 3 && r.latch.getD 0 + 1200 < 1024 * (s.eng.period + 1) then s.falseWake r 2 else s
    | none => s

/-- SETTLE_HEADER_TIMEOUT: none of settle periods 0 to 3 gave a valid header (R211). -/
def execSettleHeaderTimeout (s : State) : Host.Outcome State Fault Refusal :=
  .next <|
    match s.ql.run.rx with
    | some r => if s.nativeData && s.ql.run.rxState = 4 && 4 ≤ r.settle && !r.hdr then s.falseWake r 4 else s
    | none => s

/-- RECEPTION_CONFIRMED: the first valid header of a settle period (R211). -/
def execReceptionConfirmed (s : State) : Host.Outcome State Fault Refusal :=
  .next <|
    match s.ql.run.rx with
    | some r =>
      if s.nativeData && s.ql.run.rxState = 4 && r.hdr then ((s.modQlCnt (fun c => { c with wakesRx := inc 32 c.wakesRx })).endReception r 1).rxAwake 6
      else s
    | none => s

/-- What a receiver held before it listened: gain, timing phase, MSE and every coefficient (R211). -/
def RxPair.returnTo (x held : RxPair) : RxPair :=
  { x with
    mse := held.mse, mseSet := held.mseSet, mseLast := held.mseLast, pga := held.pga, gain := held.gain, phase := held.phase, phaseLag := held.phaseLag
    lagRun := held.lagRun, coef := held.coef, upd := [], turn := held.turn }

/-- LISTEN_TIMEOUT: no three valid headers in a row within 16 periods: quiet again, with the held values (R211). -/
def execListenTimeout (s : State) : Host.Outcome State Fault Refusal :=
  .next <|
    if s.nativeData && s.ql.run.rxState = 6 && s.ql.run.listen.any (fun x => x.1 = 0) then
      let s1 : State := { s with rx := { s.rx with pair := match s.ql.run.listenHeld with | some h => s.rx.pair.mapIdx (fun p x => x.returnTo (h.at p)) | none => s.rx.pair } }
      (s1.gapChain.modQl (fun q => { q with rxState := 1, listen := none, listenHeld := none })).modQlCnt (fun c => { c with listenFails := inc 32 c.listenFails })
    else s

/-- A candidate captures: every pair that fired is stronger than the reference by CAPTURE_MARGIN, or its ADC clipped on more than 4 of its last 256 samples (R212). -/
def State.captures (s : State) (k : RxInstant) (r : Reception) : Bool :=
  s.ql.run.use.captureEn && (pairs.filter (fun p => (s.firedPairs k).getLsbD p.val)).all (fun p =>
    decide (r.ref.at p + (s.ql.run.use.captureMargin : Int) ≤ s.strengthAt k 0 p) || decide (4 < ((s.samplesTo k p 256 0).filter (fun v => v = 127 || v = -128)).length))

/-- A capture at an instant: the reception in progress is discarded, the AFC goes back and runs again, the fast gain loop runs from the setting in force (R213). -/
def State.captureAt (s : State) (k : RxInstant) (r : Reception) : State :=
  let w := s.withPart k
  let who := w.firedPairs k
  let str : Quad Int := (⟨0, 1, 2, 3⟩ : Quad Pair).map (w.strengthAt k 0)
  let level := some (str.at (lowestPair who))
  let s0 := if r.synced then s.gapChain else s
  let s1 := ({ s0 with rx := { s0.rx with freqOfs := s0.rx.heldFreq, afcRun := true } } : State).startGain k
  let s2 := s1.modQl (fun q => { q with rxState := 2, rx := some {
    since := s.symbolAt k, capture := some (s.symbolAt k), pairs := who, ref := str, bankIn := if r.bankIn = some 0 then some 0 else none, record := { capture := level } } })
  (s2.modQlCnt (fun c => { c with captures := inc 32 c.captures })).endReception { r with record := { r.record with capture := level } } 3

/-- A reception is in progress and not yet confirmed (R212). -/
def State.receiving (s : State) (r : Reception) : Bool := s.nativeData && (s.ql.run.rxState = 3 || s.ql.run.rxState = 4 || (s.ql.run.rxState = 2 && r.capture.isSome))

/-- CAPTURE: a peak during an unconfirmed reception: its second repetition, a candidate that is ignored, or a capture (R209, R212, R213). -/
def execCapture (k : RxInstant) (s : State) : Host.Outcome State Fault Refusal :=
  .next <|
    match s.ql.run.rx with
    | none => s
    | some r =>
      let w := s.withPart k
      if !(s.receiving r && w.peakAt k) then s
      else if nearSecond (s.symbolAt k) (r.capture.getD (r.latch.getD 0)) then
        (if s.ql.run.rxState = 2 then s.latchAt k 0 (w.firedPairs k) (w.rhoMax k (w.firedPairs k)) { r with second := true } else s.modRec (fun r => { r with second := true }))
      else if w.captures k r then s.captureAt k r
      else s.modQlCnt (fun c => { c with peaksIgnored := inc 32 c.peaksIgnored })

/-- QL_HDR_LOSS: 8 expected partner windows in a row without a valid header, or no wake found within 2 ms of own burst (R216). -/
def execQlHdrLoss (s : State) : Host.Outcome State Fault Refusal :=
  .next (if s.nativeData && s.ql.run.rxState ≠ 0 && (8 ≤ s.ql.run.missRow || s.ql.run.burstAt.any (fun t => t + 2000000 ≤ s.time)) then s.linkDown 6 else s)

/-! ### Clause 78 LPI and the T40 idle (R218 to R220) -/

/-- LPI_SLEEP: the clause's sleep, sent (own) or received, puts the direction into quiet. -/
def execLpiSleep (own : Bool) (s : State) : Host.Outcome State Fault Refusal :=
  .next <|
    if !s.stdIdle || (if own then s.ql.run.txState ≠ 0 || !s.txIdle else s.ql.run.rxState ≠ 0) then s
    else
      let s1 := if own then s.modQl (fun q => { q with txState := 2, wakeDue := none }) else s.holdPhase.modQl (fun q => { q with rxState := 1, use := s.ql.ctl })
      (s1.modQlCnt (fun c => { c with entries := inc 32 c.entries })).judgeQuiet

/-- The device is in Active again (R39). -/
def State.awake (s : State) : State := { s with pwr := { s.pwr with state := if s.pwr.state = .quietLatch then .active else s.pwr.state } }

/-- The clause's wake signal takes the place of the sync word of a T40 reception: the AFC freezes on the drift, and STRENGTH is latched (R220). -/
def State.legacyWake (s : State) : State :=
  match s.ql.run.rx with
  | some r =>
    let s1 := s.freezeAfc (s.driftFreq (fun _ => (legacySegment.take 256).map (fun v => (v : Rat))) (fun p => (s.gained p 0).drop 1024) s.nowSymbol)
    State.endReception { s1 with rx := { s1.rx with gainRun := false, pair := s1.rx.pair.mapIdx (fun p x => { x with strength := some (s.strengthNow p) }) } } r 1
  | none => s

/-- LPI_WAKE: the clause's wake, sent (own) or received, returns the direction to data. A T40 partner is first sent the rate-hunting burst, whose segments go out as
the DACs take their rates (R219, `State.huntStep`). -/
def execLpiWake (own : Bool) (s : State) : Host.Outcome State Fault Refusal :=
  .next <|
    if !s.stdIdle || (if own then s.ql.run.txState ≠ 2 else s.ql.run.rxState = 0) then s
    else if own then
      let s1 := s.modQlCnt (fun c => { c with wakesTx := inc 32 c.wakesTx })
      (if s.link.legacyIdle then s1.modQl (fun q => { q with txState := 4, hunt := some 0, wakeDue := none }) else s1.modQl (fun q => { q with txState := 0, wakeDue := none })).awake
    else
      ((s.legacyWake.modQl (fun q => { q with rxState := 0, rx := none })).modQlCnt (fun c => { c with wakesRx := inc 32 c.wakesRx })).awake

/-- Rates of the three segments as divisions of the root, and the symbol times of silence after each (R219). -/
def huntSegments : List (Nat × Nat) := [(5, 1024), (8, 256), (20, 512)]

/-- The DACs have taken a division during a rate-hunting burst: the segment of that rate goes out with its silence, or, back at the mode's division, the clause's wake
signal follows and the direction is in data (R219). -/
def State.huntStep (s : State) (dac : Nat) : State :=
  match s.ql.run.hunt with
  | none => s
  | some n =>
    match huntSegments[n]? with
    | some g =>
      if dac ≠ g.1 then s
      else
        let r := s.drivePairs false (fun _ => some (legacySegment ++ List.replicate g.2 0))
        (r.1.emit (.line 2 r.2)).modQl (fun q => { q with hunt := some (n + 1) })
    | none => if dac = lclkDivision (s.link.mode.getD 0) then s.modQl (fun q => { q with txState := 0, hunt := none }) else s

/-- Every n-th value of a stream, c of them. -/
def decimated (n : Nat) : Nat → List Int → List Rat
  | 0, _ => []
  | c + 1, l => (l.headD 0 : Rat) :: decimated n c (l.drop n)

/-- The samples of a pair at 8.0 GS/s up to an instant, moved by `shift` − 2 samples (R220). -/
def State.legacySamples (s : State) (k : RxInstant) (p : Pair) (shift : Nat) : List Int :=
  let past := (s.rxPeriod 2).adc.at p ++ (s.rxPeriod 1).adc.at p ++ (s.rxPeriod 0).adc.at p
  (past ++ k.part.at p).take (past.length + k.pos + shift - 1)

/-- 256 values of a segment rate resampled from samples at 8.0 GS/s. Where the rate divides 8.0 GS/s they are the samples at its instants (DEDUCED, log entry 92);
toward 3.2 GBd they are free. -/
def resampled (rate : Nat) (l : List Int) : List Rat :=
  match rate with
  | 1 => (decimated 4 256 l.reverse).reverse
  | 2 => (decimated 10 256 l.reverse).reverse
  | _ => freeResample rate l

/-- The correlator of a rate fires on a pair at an instant, on a single repetition of its word (R220): the rules of R208 over the window of 256 symbols of the rate,
with LEGACY_CTL.DET_THR. -/
def State.legacyFires (s : State) (rate : Nat) (k : RxInstant) (p : Pair) : Bool :=
  let chips := (legacySegment.take 256).map (fun (v : Int) => (v : Rat))
  let rho := fun (n : Nat) => rhoOf chips (resampled rate (s.legacySamples k p n)) 255
  let v := rho 2
  [0, 1, 3, 4].all (fun n => decide (rho n ≤ v)) && decide ((s.ql.run.use.legacyThr : Rat) / 256 ≤ v) &&
    s.powerAtLeast p (lastSamples ([640, 1024, 2560].getD rate 2560) (s.legacySamples k p 2)) s.ql.run.use.onset

/-- LEGACY_BURST_DETECT: the correlator of a segment rate fires: 0 3.2 GBd, 1 2.0 GBd, 2 0.8 GBd, with the ADCs at 8.0 GS/s. The first detection, on any pair, is the
latch point; later ones are ignored (R220). -/
def execLegacyBurstDetect (rate : Nat) (k : RxInstant) (s : State) : Host.Outcome State Fault Refusal :=
  .next <|
    if !(s.stdIdle && s.link.legacyIdle && s.ready .legacyWake && s.clk.adcDiv = 2 && (s.ql.run.rxState = 1 || s.ql.run.rxState = 2)) then s
    else
      let who := s.pairsWhere (s.legacyFires rate k)
      if who = 0 then s
      else
        let s1 := if s.ql.run.rxState = 2 then s else s.holdReception
        let r := s1.ql.run.rx.getD { since := s.symbolAt k }
        (s1.latchAt k 0 who 0 r).modQlCnt (fun c =>
          match rate with
          | 0 => { c with det3g2 := inc 32 c.det3g2 }
          | 1 => { c with det2g0 := inc 32 c.det2g0 }
          | _ => { c with det0g8 := inc 32 c.det0g8 })

/-- LEGACY_WAKE_TIMEOUT: the clause's wake signal was not recognised in time (R220). -/
def execLegacyWakeTimeout (s : State) : Host.Outcome State Fault Refusal :=
  .next <|
    match s.ql.run.rx with
    | some r =>
      if s.stdIdle && s.link.legacyIdle && s.ql.run.rxState = 3 then (s.modQlCnt (fun c => { c with legacyFalse := inc 32 c.legacyFalse })).abandon r 2 else s
    | none => s

/-! ### Objects 0x0900 to 0x0903, 0x0908 and 0x0909 (R221 to R224) -/

/-- 0x0900 QL_CTL. -/
def State.qlCtlImage (s : State) : List (Nat × Nat) :=
  let c := s.ql.ctl
  [(1, b2n c.en), (1, b2n c.captureEn), (6, 0), (8, c.detThr), (3, c.detPairs), (5, 0), (8, c.captureMargin), (16, c.idleTime), (16, ofInt 16 c.onset)]

/-- A QL_CTL that may be stored. -/
def qlCtlOk (v : Nat) : Bool :=
  let o := toInt 16 (bitsAt v 48 16)
  bitsAt v 2 6 = 0 && 16 ≤ bitsAt v 8 8 && bitsAt v 8 8 ≤ 200 && 1 ≤ bitsAt v 16 3 && bitsAt v 16 3 ≤ 4 && bitsAt v 19 5 = 0 &&
    4 ≤ bitsAt v 24 8 && bitsAt v 24 8 ≤ 80 && 1 ≤ bitsAt v 32 16 && decide (-320 ≤ o) && decide (o ≤ -160) && v / 2 ^ 64 = 0

/-- Store QL_CTL; clearing EN is a wake cause (R214). -/
def State.storeQlCtl (s : State) (v : Nat) : State :=
  let c : QlCtl := { s.ql.ctl with
    en := bitAt v 0, captureEn := bitAt v 1, detThr := bitsAt v 8 8, detPairs := bitsAt v 16 3, captureMargin := bitsAt v 24 8, idleTime := bitsAt v 32 16
    onset := toInt 16 (bitsAt v 48 16) }
  let s1 : State := { s with ql := { s.ql with ctl := c } }
  if s.ql.ctl.en && !c.en && s.nativeData then s1.wakeCause 2 else s1

/-- 0x0901 QL_STATUS. -/
def State.qlStatusImage (s : State) : List (Nat × Nat) :=
  let q := s.ql.run
  [(3, q.txState), (4, q.rxState), (1, 0), (1, (s.statusTx 1).now), (1, s.statusRx 1), (1, b2n q.stdLpi), (1, b2n q.legacy), (4, s.ql.wakeCause),
    (16, s.ql.exitNs), (16, s.ql.waitMax), (16, 0)]

/-- 0x0902 QL_COUNTERS. -/
def State.qlCountersImage (s : State) : List (Nat × Nat) :=
  let c := s.ql.cnt
  [c.entries, c.entryAborts, c.wakesTx, c.wakesRx, c.falseWakes, c.captures, c.syncRejects, c.peaksIgnored, c.refreshTx, c.refreshRx, c.refreshMiss,
    c.missedWakes, c.listenFails, c.onsets, min (2 ^ 32 - 1) (c.quietNs / 1000000), 0].map (fun n => (32, n))

/-- 0x0903 QL_LAST_RX. -/
def State.qlLastImage (s : State) : List (Nat × Nat) :=
  let l := s.ql.last
  [(4, l.result), (4, l.pairs.toNat), (8, 0), (16, l.latchToSync), (16, levelField l.peak), (16, levelField l.capture), (32, l.period), (16, l.latchSym),
    (16, l.rho), (128, 0)]

/-- 0x0908 LEGACY_CTL. -/
def State.legacyCtlImage (s : State) : List (Nat × Nat) := [(1, b2n s.ql.ctl.legacyEn), (7, 0), (8, s.ql.ctl.legacyThr), (48, 0)]

/-- A LEGACY_CTL that may be stored. -/
def legacyCtlOk (v : Nat) : Bool := bitsAt v 1 7 = 0 && 16 ≤ bitsAt v 8 8 && bitsAt v 8 8 ≤ 200 && v / 2 ^ 16 = 0

/-- Store LEGACY_CTL. -/
def State.storeLegacyCtl (s : State) (v : Nat) : State :=
  { s with ql := { s.ql with ctl := { s.ql.ctl with legacyEn := bitAt v 0, legacyThr := bitsAt v 8 8 } } }

/-- 0x0909 LEGACY_COUNTERS. -/
def State.legacyCountersImage (s : State) : List (Nat × Nat) :=
  let c := s.ql.cnt
  [c.det3g2, c.det2g0, c.det0g8, c.legacyFalse].map (fun n => (32, n))

end Sys2Proof.Machine
end

