-- ==== Sys2Proof/Machine/Ward.lean ====
section
/-! DEFINITION. Ward's Cyoner commands, the SPDM responder, the Ward messages, self-tests, the lifecycle and Hasp (12_ward_and_hasp R374 to R413). -/

namespace Sys2Proof.Machine

/-! ### Cyoner commands (R396, R407) -/

/-- WARD_KAT: the known-answer tests run while traffic flows; a second one completes with BUSY_SELFTEST (R396). -/
def execWardKat (tag : BitVec 16) (s : State) : Host.Outcome State Fault Refusal :=
  .next <| s.runRequest tag 0x70 fun q s =>
    s.guarded q [
      (q.cap.len ≠ 0, .lenRange), (!s.fuse.part.ward, .unitAbsent), (!s.ready .ward, .notReady),
      ((s.findRun 0x70 (fun _ => true)).isSome, .busySelftest), (!q.cap.fieldsOk [], .range)] []
      fun s => s.startRun q

/-- The association commands' checks (R407). -/
def State.wardFlowChecks (s : State) (q : Request) : List (Bool × Status) :=
  let f := q.cap.arg 28 2
  [(q.cap.len ≠ 0, .lenRange),
   (1000 ≤ f && f < 1024 || (f < 1000 && !(s.flow f).exist), .flowInvalid),
   (f ≥ 1024, .range),
   (!s.fuse.part.ward, .unitAbsent), (!s.ready .ward, .notReady),
   (!q.cap.fieldsOk [(28, 2), (32, 4)], .range),
   (q.cap.arg 32 4 ≠ (s.flow f).gen, .genConflict),
   (assocNone (s.flow f).assoc, .range)]

/-- SA_ADVANCE: NEXT becomes CURRENT; RANGE when there is no NEXT slot (R384, R407). -/
def execSaAdvance (tag : BitVec 16) (s : State) : Host.Outcome State Fault Refusal :=
  .next <| s.runRequest tag 0x71 fun q s =>
    let f := q.cap.arg 28 2
    s.guarded q (s.wardFlowChecks q) [] fun s =>
      match s.advance f with
      | (_, false) => s.finish q .range [] []
      | (s1, true) => s1.finish q .ok [(8, (match s1.slotIn f 2 with | some k => (s1.slot f k).an | none => 0))] []

/-- KEY_ERASE: both slots become EMPTY and the tenant binding ends (R407). -/
def execKeyErase (tag : BitVec 16) (s : State) : Host.Outcome State Fault Refusal :=
  .next <| s.runRequest tag 0x72 fun q s =>
    s.guarded q (s.wardFlowChecks q) [] fun s => ((s.eraseSlots (q.cap.arg 28 2)).raiseEvent evWard).finish q .ok [] []

/-! ### SPDM (R385, R390, R391) -/

/-- The responder can answer: Benash's security partition runs and the DOE mailboxes are reachable (R301, R406, R429). -/
def State.spdmUp (s : State) : Bool := s.ben.up && s.kw.status.linkUp && !s.pwr.perst

/-- SPDM response codes (SPDM 1.2; log entry 12). -/
abbrev spdmError : Nat := 0x7F

/-- A session by its number. -/
def State.session (s : State) (sid : Nat) : Option Session := s.spdm.sessions.find? (fun x => x.sid = sid && x.established)

/-- GET_VERSION: SPDM 1.2; it resets the connection (R385). -/
def execGetVersion (s : State) : Host.Outcome State Fault Refusal :=
  .next <| if s.spdmUp then State.emit { s with spdm := { s.spdm with phase := 1 } } (.spdm 0x04 [0x00, 0x12]) else s

/-- GET_CAPABILITIES: certificates, challenge, measurements with signature, encryption, MAC, mutual authentication, key exchange,
heartbeat, key update (R385). -/
def execGetCapabilities (s : State) : Host.Outcome State Fault Refusal :=
  .next <| if !s.spdmUp then s
    else if s.spdm.phase = 0 then s.emit (.spdm spdmError [0x04])
    else State.emit { s with spdm := { s.spdm with phase := max 2 s.spdm.phase } } (.spdm 0x61 (packBytes 4 [(32, 0x000063F6)]))

/-- NEGOTIATE_ALGORITHMS: ECDSA P-384, SHA-384, secp384r1 and AES-256-GCM; nothing else is agreed (R385). -/
def execNegotiateAlgorithms (p384 sha384 ecdhe aead : Bool) (s : State) : Host.Outcome State Fault Refusal :=
  .next <| if !s.spdmUp then s
    else if s.spdm.phase < 2 || !(p384 && sha384 && ecdhe && aead) then s.emit (.spdm spdmError [0x01])
    else State.emit { s with spdm := { s.spdm with phase := 3 } } (.spdm 0x63 (packBytes 4 [(8, 0x80), (8, 0x02), (8, 0x10), (8, 0x02)]))

/-- Certificate slots that hold a chain. -/
def State.certSlots (s : State) : List (List Byte) := (if s.nvm.cert0 = [] then [] else [s.nvm.cert0]) ++ (if s.nvm.cert1 = [] then [] else [s.nvm.cert1])

/-- GET_DIGESTS: SHA-384 of each installed chain (R385, R390). -/
def execGetDigests (s : State) : Host.Outcome State Fault Refusal :=
  .next <| if !s.spdmUp then s
    else if s.spdm.phase < 3 then s.emit (.spdm spdmError [0x04])
    else s.emit (.spdm 0x01 (s.certSlots.flatMap (fun c => beBytes 48 (sha384 c).toNat)))

/-- GET_CERTIFICATE: bytes of the chain in slot 0 or 1 (R385, R390). -/
def execGetCertificate (slot off len : Nat) (s : State) : Host.Outcome State Fault Refusal :=
  .next <| if !s.spdmUp then s
    else if s.spdm.phase < 3 then s.emit (.spdm spdmError [0x04])
    else
      let c := if slot = 0 then s.nvm.cert0 else if slot = 1 then s.nvm.cert1 else []
      if c = [] || off ≥ c.length then s.emit (.spdm spdmError [0x01])
      else
        let part := (c.drop off).take len
        s.emit (.spdm 0x02 (packBytes 4 [(16, part.length), (16, c.length - off - part.length)] ++ part))

/-- The requester of a session is the owner (R388). -/
def State.isOwner (s : State) (x : Session) : Bool :=
  match x.requester, s.fuse.ownerHash with
  | some (_, root), some o => root = o
  | _, _ => false

/-- SET_CERTIFICATE: the owner's chain goes into slot 1, from PROVISIONED onward (R390). -/
def execSetCertificate (sid : Option Nat) (chain : List Byte) (s : State) : Host.Outcome State Fault Refusal :=
  .next <| if !s.spdmUp then s
    else
      let owner := match sid.bind s.session with
        | some x => s.isOwner x
        | none => false
      let allowed := match s.fuse.lifecycle with
        | .factory => false
        | .provisioned => true
        | _ => owner
      if allowed then State.emit { s with nvm := { s.nvm with cert1 := chain } } (.spdm 0x6E [0x01])
      else s.emit (.spdm spdmError [0x01])

/-- A response signed by the identity key over the digest of what it carries; it draws a fresh nonce (R390). -/
def State.signed (s : State) (code : Nat) (body : List Byte) : State :=
  let body1 := body ++ leBytes 32 (freeNonce s.draws).toNat
  State.drawn (s.emit (.spdm code (body1 ++ identitySign s.draws (sha384 body1))))

/-- CHALLENGE: a response signed by the identity key (R385, R390). -/
def execChallenge (slot : Nat) (nonce : BitVec 256) (s : State) : Host.Outcome State Fault Refusal :=
  .next <| if !s.spdmUp then s
    else if s.spdm.phase < 3 || slot > 1 || !s.fuse.identityKey then s.emit (.spdm spdmError [0x01])
    else s.signed 0x03 (beBytes 48 (sha384 (if slot = 0 then s.nvm.cert0 else s.nvm.cert1)).toNat ++ leBytes 32 nonce.toNat)

/-- Raw content of measurement index 5, 16 bytes (R391; the order of its parts is log entry 13). -/
def State.securityState (s : State) : List Byte :=
  packBytes 16 [(8, s.fuse.lifecycle.code), (8, b2n s.wardApproved), (32, s.hasp.cfg.toNat), (16, s.nvm.tamperCount), (8, s.nvm.tamperLast)]

/-- A measurement block's value (Table 12-8). -/
def State.measurement (s : State) (i : Nat) : Option (List Byte) :=
  let d := fun (bs : List Byte) => some (beBytes 48 (sha384 bs).toNat)
  match i with
  | 1 => d (leBytes 4 s.fuse.romver)
  | 2 => d s.runSlot.image
  | 3 => d (leBytes 4 s.ben.progver ++ leBytes 4 s.ben.progverOld)
  | 4 => some (beBytes 48 s.runSlot.secpHash.toNat)
  | 5 => some s.securityState
  | 6 => d (leBytes 8 s.fuse.part.capsValue ++ s.fuse.serial)
  | _ => none

/-- GET_MEASUREMENTS: one block, or all with index 0xFF; signed on request (R391). -/
def execGetMeasurements (index : Nat) (sign : Bool) (s : State) : Host.Outcome State Fault Refusal :=
  .next <| if !s.spdmUp then s
    else if s.spdm.phase < 3 then s.emit (.spdm spdmError [0x04])
    else
      let body := if index = 0xFF then some ((List.range 6).flatMap (fun k => (s.measurement (k + 1)).getD []))
        else s.measurement index
      match body with
      | none => s.emit (.spdm spdmError [0x01])
      | some b => if sign && s.fuse.identityKey then s.signed 0x60 b else s.emit (.spdm 0x60 b)

/-- KEY_EXCHANGE: a session is opened by ECDHE; beyond 4 sessions the answer is BUSY (R385). -/
def execKeyExchange (s : State) : Host.Outcome State Fault Refusal :=
  .next <| if !s.spdmUp then s
    else if s.spdm.phase < 3 || !s.fuse.identityKey then s.emit (.spdm spdmError [0x04])
    else if s.spdm.sessions.length ≥ 4 then s.emit (.spdm spdmError [0x03])
    else match (List.range 4).find? (fun k => s.spdm.sessions.all (fun x => x.sid ≠ k)) with
      | none => s.emit (.spdm spdmError [0x03])
      | some sid =>
        let x : Session := { sid := sid }
        State.signed { s with spdm := { s.spdm with sessions := s.spdm.sessions ++ [x] } } 0x64 [BitVec.ofNat 8 sid]

/-- FINISH: the session is established, mutually authenticated when the requester proved its leaf key: its identity and its chain's
root hash (R385, R388). A FINISH whose check fails ends the session. -/
def execFinish (sid : Nat) (good : Bool) (auth : Option (BitVec 384 × BitVec 384)) (s : State) : Host.Outcome State Fault Refusal :=
  .next <| if !s.spdmUp || s.spdm.sessions.all (fun x => x.sid ≠ sid || x.established) then s
    else if !good then State.emit { s with spdm := { s.spdm with sessions := s.spdm.sessions.filter (fun x => x.sid ≠ sid) } } (.spdm spdmError [0x06])
    else
      let s1 : State := { s with
        spdm := { s.spdm with sessions := s.spdm.sessions.map (fun x => if x.sid = sid then { x with established := true, requester := auth } else x) }
        ward := { s.ward with cnt := { s.ward.cnt with sessionsOpened := inc 32 s.ward.cnt.sessionsOpened } } }
      (s1.raiseEvent evWard).emit (.spdm 0x65 [])

/-- KEY_UPDATE: the session's keys are updated (R385). -/
def execKeyUpdate (sid : Nat) (s : State) : Host.Outcome State Fault Refusal :=
  .next <| if !s.spdmUp || (s.session sid).isNone then s
    else
      let xs := s.spdm.sessions.map (fun x => if x.sid = sid then { x with updates := x.updates + 1 } else x)
      State.emit { s with spdm := { s.spdm with sessions := xs } } (.spdm 0x69 [])

/-- HEARTBEAT: the session stays alive (R385). -/
def execHeartbeat (sid : Nat) (s : State) : Host.Outcome State Fault Refusal :=
  .next <| if !s.spdmUp || (s.session sid).isNone then s else s.emit (.spdm 0x68 [])

/-- END_SESSION (R385). -/
def execEndSession (sid : Nat) (s : State) : Host.Outcome State Fault Refusal :=
  .next <| if !s.spdmUp || (s.session sid).isNone then s
    else ((State.raiseEvent { s with spdm := { s.spdm with sessions := s.spdm.sessions.filter (fun x => x.sid ≠ sid) } } evWard).emit (.spdm 0x6C []))

/-- IDE_KM: over a secured session, keys for an IDE stream of Keyway are set into use or the stream is stopped (R312, R385). -/
def execIdeKm (sid : Nat) (cache go : Bool) (s : State) : Host.Outcome State Fault Refusal :=
  .next <| if !s.spdmUp || (s.session sid).isNone then s
    else
      let k := s.kw.status
      let k1 := if cache then { k with ideCache := go } else { k with ideIo := go }
      State.emit { s with kw := { s.kw with status := k1 }, ward := { s.ward with ideKeys := k1.ideIo || k1.ideCache } } (.spdm 0x7E [b2n go])

/-! ### Ward messages (R386 to R389) -/

/-- Answer a Ward message. -/
def State.answer (s : State) (m : WardMsg) (code : Nat) (st : Status) : State := s.emit (.ward (code + 0x8000) st m.mtag)

end Sys2Proof.Machine

namespace Sys2Proof
open Machine

/-- A body field: message bytes [pos, pos + n), little-endian. -/
def WardMsg.arg (m : WardMsg) (pos n : Nat) : Nat := leAt m.body (pos - 8) n
/-- Body bytes [pos, pos + n). -/
def WardMsg.bytes (m : WardMsg) (pos n : Nat) : List Byte := (m.body.drop (pos - 8)).take n

end Sys2Proof

namespace Sys2Proof.Machine

/-- A refused KEY_INSTALL counts (R389). -/
def State.refuseKey (s : State) (m : WardMsg) (st : Status) : State :=
  (if s.fuse.part.ward then s.modWard (fun w => { w with cnt := { w.cnt with keyRefused := inc 32 w.cnt.keyRefused } }) else s).answer m 3 st

/-- A message is answered in the order of R10: `form`, its checks of tier 1; the unit for the key messages; no latch; no WARD_KAT running; approved mode;
a secured session (R386, R387, R396, R402). `key`: codes 0x0001 to 0x0005. `latchOk`: accepted while the latch is set. -/
def State.message (s : State) (m : WardMsg) (code : Nat) (key latchOk : Bool) (form : Checks)
    (body : Session → State → State) : State :=
  let x := m.sid.bind s.session
  let approved := key && code ≠ 3 && s.wardApproved && (match x with | some y => y.requester.isNone | none => false)
  if !s.spdmUp then s
  else match firstFail form with
  | some st => if code = 3 then s.refuseKey m st else s.answer m code st
  | none =>
    match firstFail [(key && !s.fuse.part.ward, .unitAbsent), ((s.hasp.latched && !latchOk) || (key && !s.ready .ward), .notReady),
      ((s.findRun 0x70 (fun _ => true)).isSome, .busySelftest), (approved, .approvedMode)], x with
    | some st, _ => s.answer m code st
    | none, none => s.answer m code .authFail
    | none, some y => body y s

/-- Checks of a message's FLOW, of tier 1 (R389 step 1, R360). -/
def State.messageFlow (s : State) (m : WardMsg) : Checks :=
  let f := m.arg 8 2
  [((1000 ≤ f && f < 1024) || (f < 1000 && !(s.flow f).exist), .flowInvalid), (f ≥ 1024, .range)]

/-- Identity of a session's requester (R388). -/
def Session.identity (x : Session) : Option (BitVec 384) := x.requester.map (·.1)

/-- The requester installed a KEK slot. -/
def State.isInstaller (s : State) (x : Session) (t : Nat) : Bool :=
  let k := sget {} s.ward.keks t
  k.key.isSome && x.identity.isSome && k.installer = x.identity

/-- KEK_INSTALL (R387, R388). -/
def execKekInstall (m : WardMsg) (s : State) : Host.Outcome State Fault Refusal :=
  .next <| s.message m 1 true false [(m.body.length ≠ 40, .lenRange)] fun x s =>
    let t := m.arg 8 1
    let empty := (sget {} s.ward.keks t).key.isNone
    match firstFail [
      (t > 63 || m.arg 9 1 > 1 || m.arg 10 6 ≠ 0, .range),
      (!(if t = 0 then s.isOwner x else empty || s.isInstaller x t), .authFail)] with
    | some st => s.answer m 1 st
    | none =>
      let key := m.bytes 16 32
      let persist := m.arg 9 1 = 1
      let s1 : State := { s with
        ward := { s.ward with keks := sset {} s.ward.keks t ⟨some key, x.identity, persist⟩ }
        nvm := if persist then { s.nvm with keks := sset {} s.nvm.keks t ⟨x.identity, key⟩ }
          else { s.nvm with keks := sset {} s.nvm.keks t {} } }
      (s1.raiseEvent evWard).answer m 1 .ok

/-- KEK_ERASE: the KEK goes, SA slots installed under it stay (R388). -/
def execKekErase (m : WardMsg) (s : State) : Host.Outcome State Fault Refusal :=
  .next <| s.message m 2 true false [] fun x s =>
    let t := m.arg 8 1
    match firstFail [(t > 63, .range), (!(s.isInstaller x t || s.isOwner x), .authFail)] with
    | some st => s.answer m 2 st
    | none =>
      let s1 : State := { s with
        ward := { s.ward with keks := sset {} s.ward.keks t {} }
        nvm := { s.nvm with keks := sset {} s.nvm.keks t {} } }
      (s1.raiseEvent evWard).answer m 2 .ok

/-- KEY_INSTALL: unwrap a SAK, salt and SSCI into the slot that is not CURRENT (R383, R387 to R389). -/
def execKeyInstall (m : WardMsg) (s : State) : Host.Outcome State Fault Refusal :=
  .next <| s.message m 3 true false (s.messageFlow m) fun x s =>
    let f := m.arg 8 2
    let an := m.arg 10 1
    let t := m.arg 11 1
    let bound := (sget {} s.ward.info f).tenant
    let used := (s.slot f 0).state ≠ 0 || (s.slot f 1).state ≠ 0
    let key := match (sget {} s.ward.keks t).key with
      | some k => aesUnwrap k (m.bytes 16 56)
      | none => none
    match firstFail [
      (s.wardApproved && x.requester.isNone, .approvedMode),
      (m.arg 12 4 ≠ (s.flow f).gen, .genConflict),
      (assocNone (s.flow f).assoc || an > 3, .range),
      (!s.isInstaller x t || (used && bound ≠ some t) || key.isNone, .authFail),
      ((match s.slotIn f 2 with | some k => (s.slot f k).an = an | none => false), .stale)] with
    | some st => s.refuseKey m st
    | none =>
      let k := key.getD []
      let s1 := (s.installSlot f an (k.take 32) ((k.drop 32).take 12) ((k.drop 44).take 4)).modWard (fun w =>
        { w with
          info := smod {} w.info f (fun i => { i with tenant := some t })
          cnt := { w.cnt with keyInstalls := inc 32 w.cnt.keyInstalls } })
      (s1.raiseEvent evWard).answer m 3 .ok

/-- KEY_ERASE message: the installer of the flow's bound KEK, or the owner, empties the flow's slots (R387, R388). -/
def execKeyEraseMsg (m : WardMsg) (s : State) : Host.Outcome State Fault Refusal :=
  .next <| s.message m 4 true false (s.messageFlow m) fun x s =>
    let f := m.arg 8 2
    let mine := match (sget {} s.ward.info f).tenant with
      | some t => s.isInstaller x t
      | none => false
    match firstFail [
      (m.arg 12 4 ≠ (s.flow f).gen, .genConflict), (assocNone (s.flow f).assoc, .range),
      (!(mine || s.isOwner x), .authFail)] with
    | some st => s.answer m 4 st
    | none => ((s.eraseSlots f).raiseEvent evWard).answer m 4 .ok

/-- CAK_INSTALL: the owner installs the CAK and CKN, wrapped under KEK 0 (R382, R387). -/
def execCakInstall (m : WardMsg) (s : State) : Host.Outcome State Fault Refusal :=
  .next <| s.message m 5 true false [] fun x s =>
    let n := m.arg 9 1
    let cak := match (sget {} s.ward.keks 0).key with
      | some k => aesUnwrap k (m.bytes 48 40)
      | none => none
    match firstFail [
      (m.arg 8 1 > 1 || n = 0 || n > 32, .range), (!s.isOwner x || cak.isNone, .authFail)] with
    | some st => s.answer m 5 st
    | none =>
      let k := cak.getD []
      let ckn := m.bytes 16 n
      let persist := m.arg 8 1 = 1
      let s1 : State := { s with
        ward := { s.ward with cak := some (k, ckn, persist), mka := {} }
        nvm := { s.nvm with cak := if persist then some (k, ckn) else none } }
      (s1.raiseEvent evWard).answer m 5 .ok

/-- A HASP_CFG image that can be stored: reserved bits 0 and no mode 3 (Table 12-18). -/
def haspCfgOk (bs : List Byte) : Bool :=
  let v := leAt bs 0 4
  leAt bs 4 12 = 0 && (List.range 7).all (fun i => bitsAt v (4 * i + 2) 2 = 0) && bitsAt v 28 2 ≠ 3 && bitsAt v 30 2 ≠ 3

/-- Put a HASP_CFG in force and store it (R400). -/
def State.storeHaspCfg (s : State) (cfg : BitVec 32) : State :=
  State.raiseEvent { s with hasp := { s.hasp with cfg := cfg }, nvm := { s.nvm with haspCfg := cfg } } evHasp

/-- HASP_SET: the owner sets the classes and modes (R375, R387, R400). -/
def execHaspSet (m : WardMsg) (s : State) : Host.Outcome State Fault Refusal :=
  .next <| s.message m 0x10 false true [] fun x s =>
    let bs := fitBytes 16 (m.bytes 8 16)
    let cfg := BitVec.ofNat 32 (leAt bs 0 4)
    match firstFail [
      (s.wardApproved && !classesApproved cfg, .approvedMode), (!s.isOwner x, .authFail), (!haspCfgOk bs, .range)] with
    | some st => s.answer m 0x10 st
    | none => (s.storeHaspCfg cfg).answer m 0x10 .ok

/-- A sensor of class 3 reads tripped (R402). -/
def State.zeroizeTripped (s : State) : Bool := (List.range 7).any (fun i => haspClass s.hasp.cfg i = 3 && s.hasp.tripped.getLsbD i)

/-- TAMPER_CLEAR: the latch clears when no zeroize-class sensor reads tripped; Ward then reruns its self-tests (R402). -/
def execTamperClear (m : WardMsg) (s : State) : Host.Outcome State Fault Refusal :=
  .next <| s.message m 0x11 false true [] fun x s =>
    match firstFail [(s.zeroizeTripped, .notReady), (!s.isOwner x, .authFail)] with
    | some st => s.answer m 0x11 st
    | none =>
      State.answer { s with
        hasp := { s.hasp with latched := false }
        ward := if s.hasp.latched then { s.ward with tested := false } else s.ward } m 0x11 .ok

/-- Every association and WARD_CTL validates strictly (R375). -/
def State.allStrict (s : State) : Bool :=
  s.ward.linkValidate = 2 && s.flows.all (fun e => !e.2.exist || assocNone e.2.assoc || assocValidate e.2.assoc = 2)

/-- MODE_SET: the owner selects approved or non-approved mode; a change zeroizes every key first (R374 to R376). -/
def execModeSet (m : WardMsg) (s : State) : Host.Outcome State Fault Refusal :=
  .next <| s.message m 0x12 false false [] fun x s =>
    let v := m.arg 8 1
    match firstFail [
      (v = 1 && !(s.allStrict && classesApproved s.hasp.cfg), .approvedMode), (!s.isOwner x, .authFail), (v > 1, .range)] with
    | some st => s.answer m 0x12 st
    | none =>
      if s.nvm.approved = (v = 1) then s.answer m 0x12 .ok
      else
        let s1 : State := { s with
          ward := s.ward.eraseKeys
          nvm := { s.nvm.eraseKeys with approved := v = 1 } }
        (s1.raiseEvent evWard).answer m 0x12 .ok

/-- A lifecycle transition: keys go, fuses burn, Ward's self-tests are rerun (R394). -/
def State.transition (s : State) (lc : Lifecycle) (owner : Option (BitVec 384)) : State :=
  { s with
    fuse := { s.fuse with lifecycle := lc, ownerHash := owner, identityKey := s.fuse.identityKey && lc ≠ .retired }
    ward := { s.ward.eraseKeys with tested := false }
    nvm := if lc = .retired then
        { s.nvm.eraseKeys with tamperCount := 0, tamperLast := 0, tamperZeroized := false, tamperLc := 0, tamperUptime := 0 }
      else s.nvm.eraseKeys }

/-- LIFECYCLE (R394). -/
def execLifecycle (m : WardMsg) (s : State) : Host.Outcome State Fault Refusal :=
  .next <| s.message m 0x13 false true [] fun x s =>
    let v := m.arg 8 1
    if s.lcHoldHigh then s.answer m 0x13 .notReady
    else match s.fuse.lifecycle, v with
      | .provisioned, 2 =>
        match x.requester with
        | none => s.answer m 0x13 .authFail
        | some (_, root) => (s.transition .deployed (some root)).answer m 0x13 .ok
      | .deployed, 3 =>
        if s.isOwner x then (s.transition .retired s.fuse.ownerHash).answer m 0x13 .ok else s.answer m 0x13 .authFail
      | _, _ => s.answer m 0x13 .range

/-! ### Self-tests (R395 to R397) -/

/-- Reload the stored wrapped KEKs and the CAK (R397, R406). -/
def State.reloadKeys (s : State) : State :=
  { s with ward := { s.ward with
    keks := s.nvm.keks.map (fun e => (e.1, ⟨some e.2.key, e.2.installer, true⟩))
    cak := s.nvm.cak.map (fun c => (c.1, c.2, true)) } }

/-- WARD_SELF_TEST_DONE: the self-tests pass; a WARD_KAT that runs completes with pass (R395, R396). -/
def execWardSelfTestDone (s : State) : Host.Outcome State Fault Refusal :=
  .next <|
    if !s.fuse.part.ward || s.heldReset then s
    else match s.findRun 0x70 (fun _ => true) with
    | some q =>
      let s1 := (s.modWard (fun w => { w with katLast := 1 })).raiseEvent evWard
      (s1.unrun q.cap.tag).finish q .ok [(8, 0), (24, 0), (32, (s.time - q.since) / 1000)] []
    | none =>
      if s.ward.tested || s.ward.error || s.hasp.latched || s.fuse.lifecycle = .retired then s
      else
        let s1 := if s.nvm.erasePending then { s with nvm := s.nvm.eraseKeys } else s
        State.reloadKeys (s1.modWard (fun w => { w with tested := true, drbg := true, storageKey := true }))

/-- WARD_SELF_TEST_FAIL: the error state (R397). -/
def execWardSelfTestFail (s : State) : Host.Outcome State Fault Refusal :=
  .next <|
    if !s.fuse.part.ward || s.heldReset || s.fuse.lifecycle = .retired then s
    else
      let kat := s.findRun 0x70 (fun _ => true)
      let s1 := (s.modWard (fun w => { w.eraseKeys with error := true, tested := false, katLast := if kat.isSome then 2 else w.katLast })).endSessions
      let s2 := (s1.logEntry unitWard 3 kindFault 2 0x01).raiseEvent evWard
      match kat with
      | some q => (s2.unrun q.cap.tag).finish q .ok [(8, 1), (24, 0), (32, (s.time - q.since) / 1000)] []
      | none => s2

/-! ### Hasp (R398 to R405) -/

/-- ZEROIZATION (R401): keys, sessions, IDE streams, DRBG state and storage key are cleared; the stored wrapped keys are to be erased. -/
def State.zeroize (s : State) : State :=
  let s1 := s.endSessions
  { s1 with
    ward := { s1.ward.eraseKeys with drbg := false, storageKey := false, ideKeys := false }
    kw := { s1.kw with status := { s1.kw.status with ideIo := false, ideCache := false } }
    nvm := { s1.nvm with erasePending := true }
    hasp := { s1.hasp with latched := true } }

/-- Act on a trip by the sensor's class (R399, R405). -/
def State.actOnTrip (s : State) (i : Nat) : State :=
  let c := haspClass s.hasp.cfg i
  if c = 0 then s
  else
    let s1 := (s.logEntry unitHasp (if c = 1 then 3 else 4) kindFault i 0x81 i).raiseEvent evHasp
    if c = 1 then s1
    else
      let s2 := State.raiseNme { s1 with nvm := ({ s1.nvm with
        tamperCount := inc 16 s1.nvm.tamperCount, tamperLast := i, tamperZeroized := c = 3
        tamperLc := s1.fuse.lifecycle.code, tamperUptime := s1.porNs / 1000000000 }).disarm 3 } nmeTamper
      if c = 2 then s2 else s2.zeroize.raiseNme nmeZeroized

/-- A sensor's condition begins (R398). -/
def State.tripSensor (s : State) (i : Nat) : State :=
  if s.hasp.tripped.getLsbD i then s
  else State.actOnTrip { s with hasp := { s.hasp with tripped := s.hasp.tripped ||| BitVec.twoPow 7 i } } i

/-- MESH_CHECK: a broken mesh trips, and never reads intact again (R398, R402). -/
def execMeshCheck (intact : Bool) (s : State) : Host.Outcome State Fault Refusal :=
  .next <| if s.pwr.porHeld || intact then s
    else State.tripSensor { s with hasp := { s.hasp with meshBroken := true } } 0

/-- HASP_TRIP: the condition of a sensor begins or ends, with the junction reading (R398, R399). -/
def execHaspTrip (i : Nat) (present : Bool) (temp : Int) (s : State) : Host.Outcome State Fault Refusal :=
  .next <| if s.pwr.porHeld || i ≥ 7 then s
    else
      let s1 : State := { s with hasp := { s.hasp with temp := temp } }
      if present then (if i = 0 then { s1 with hasp := { s1.hasp with meshBroken := true } } else s1).tripSensor i
      else if i = 0 && s.hasp.meshBroken then s1
      else { s1 with hasp := { s1.hasp with tripped := s1.hasp.tripped &&& ~~~(BitVec.twoPow 7 i) } }

/-- ZEROIZE_NVM_ERASE: Benash erases the stored wrapped KEKs and CAK (R401). -/
def execZeroizeNvmErase (s : State) : Host.Outcome State Fault Refusal :=
  .next (if s.nvm.erasePending then { s with nvm := s.nvm.eraseKeys } else s)

/-- MKA_HELLO: every 2 s the participant sends an MKPDU in clear; it is a wake cause like any frame (R382, R214). -/
def execMkaHello (s : State) : Host.Outcome State Fault Refusal :=
  .next <| if !s.mkaRuns then s
    else
      let s1 := s.emit (.mkpdu s.ward.mka.mn)
      State.wakeCause (s1.modWard (fun w => { w with
        mka := { w.mka with mn := w.mka.mn + 1 }, cnt := { w.cnt with mkpduTx := inc 32 w.cnt.mkpduTx } })) 1

/-! ### Objects (R408 to R413) -/

/-- WARD_STATUS.STATE (Table 12-16). -/
def State.wardState (s : State) : Nat :=
  if s.fuse.lifecycle = .retired then 4 else if s.hasp.latched then 3 else if s.ward.error then 2 else if s.ward.tested then 1 else 0

/-- WARD_STATUS.MKA. -/
def State.mkaStatus (s : State) : Nat :=
  if !s.ward.mkaEn then 0 else if s.ward.cak.isNone then 1
  else if s.ward.mka.peer.isNone || (s.slotIn linkAssoc 2).isNone then 2 else 3

/-- Flows with an association. -/
def State.protectedFlows (s : State) : Nat := (s.flows.filter (fun e => e.2.exist && !assocNone e.2.assoc)).length

/-- Object 0x0701 WARD_STATUS (R409). -/
def State.wardStatusImage (s : State) : List (Nat × Nat) :=
  [(3, s.wardState), (1, b2n s.wardApproved), (2, s.fuse.lifecycle.code), (1, b2n s.lcHoldHigh), (1, b2n s.fuse.ownerHash.isSome),
   (3, s.spdm.sessions.length), (1, b2n s.ward.cak.isSome), (2, s.mkaStatus), (2, s.ward.katLast), (7, s.ward.keks.length), (9, 0),
   (10, s.protectedFlows), (22, 0)]

/-- Object 0x0702 WARD_COUNTERS (R410). -/
def State.wardCountersImage (s : State) : List (Nat × Nat) :=
  let c := s.ward.cnt
  [c.txProtected, c.rxVerified, c.rxIcvFail, c.rxReplay, c.rxNoSa, c.rxUntaggedDrop, c.txNoSaDrop, c.saAdvances, c.keyInstalls,
   c.keyRefused, c.sessionsOpened, c.mkpduRx, c.mkpduTx, c.mkpduBad, c.zeroizations, 0].map (fun n => (32, n))

/-- Objects 0x0710 SA_STATE and 0x0711 LINK_SA_STATE (R411). -/
def State.saImage (s : State) (a : Nat) : List (Nat × Nat) :=
  let i := sget {} s.ward.info a
  let x := s.slot a 0
  let y := s.slot a 1
  [(2, x.state), (2, x.an), (2, y.state), (2, y.an), (1, b2n i.rotateDue), (1, b2n i.tenant.isSome), (6, i.tenant.getD 0), (16, 0),
   (32, i.advances), (64, match s.slotIn a 2 with | some k => (s.slot a k).nextPn | none => 0), (64, i.rxPn), (64, 0)]

/-- Object 0x0700 WARD_CTL (R408). -/
def State.wardCtlImage (s : State) : List (Nat × Nat) :=
  let w := s.ward
  [(1, b2n w.linkEn), (1, b2n w.linkSc), (1, b2n w.linkConf), (2, w.linkValidate), (1, b2n w.mkaEn), (2, 0), (8, w.ksPriority), (16, 0),
   (32, w.linkReplay), (64, leNat w.linkSci)]

/-- A WARD_CTL image that can be stored (R382, R408). -/
def wardCtlOk (v : Nat) : Bool :=
  (bitsAt v 3 2 = 1 || bitsAt v 3 2 = 2) && bitsAt v 6 2 = 0 && bitsAt v 16 16 = 0 && bitsAt v 32 32 ≤ 2 ^ 30 && !(bitAt v 0 && !bitAt v 5)

/-- Store WARD_CTL; a changed link field erases both link slots and restarts the participant (R382), and MKA_EN starts it afresh. -/
def State.storeWardCtl (s : State) (v : Nat) : State :=
  let w := s.ward
  let w1 : Ward := { w with
    linkEn := bitAt v 0, linkSc := bitAt v 1, linkConf := bitAt v 2, linkValidate := bitsAt v 3 2, mkaEn := bitAt v 5
    ksPriority := bitsAt v 8 8, linkReplay := bitsAt v 32 32, linkSci := leBytes 8 (bitsAt v 64 64) }
  let same := w1.linkEn = w.linkEn && w1.linkSc = w.linkSc && w1.linkConf = w.linkConf && w1.linkValidate = w.linkValidate
    && w1.linkReplay = w.linkReplay && w1.linkSci = w.linkSci
  let s1 : State := { s with ward := w1 }
  let held := (s.slot linkAssoc 0).state ≠ 0 || (s.slot linkAssoc 1).state ≠ 0
  if !same then
    let s2 := (s1.eraseSlots linkAssoc).modWard (fun w => { w with mka := {} })
    if held then s2.raiseEvent evWard else s2
  else if w1.mkaEn = w.mkaEn then s1 else s1.modWard (fun w => { w with mka := {} })

/-- Objects 0x0880 to 0x0882 (R413). -/
def State.haspStatusImage (s : State) : List (Nat × Nat) :=
  [(7, s.hasp.tripped.toNat), (1, b2n s.hasp.latched),
   (7, ofBools ((List.range 7).map (fun i => s.hasp.armed && haspClass s.hasp.cfg i ≠ 0))), (1, 0), (16, ofInt 16 s.hasp.temp), (32, 0)]

/-- Object 0x0882 HASP_RECORD. -/
def State.haspRecordImage (s : State) : List (Nat × Nat) :=
  [(16, s.nvm.tamperCount), (3, s.nvm.tamperLast), (1, b2n s.nvm.tamperZeroized), (2, s.nvm.tamperLc), (10, 0), (32, s.nvm.tamperUptime), (64, 0)]

/-- A SET_PARAM of HASP_CFG that DEPLOYED allows: classes only rise, a mode changes only while its input's class is 0 (R400). -/
def haspRaises (old new : BitVec 32) : Bool :=
  (List.range 7).all (fun i => haspClass old i ≤ haspClass new i) &&
    (bitsAt old.toNat 28 2 = bitsAt new.toNat 28 2 || haspClass old 5 = 0) &&
    (bitsAt old.toNat 30 2 = bitsAt new.toNat 30 2 || haspClass old 6 = 0)

end Sys2Proof.Machine
end

