-- ==== Sys2Proof/Machine/Clock.lean ====
section
/-! DEFINITION. The clock unit: judging the sources, failures, reference switches, LCLK divisions, and the objects 0x0500 to 0x0502 (09_clocks R284 to R294, R306 to R308). -/

namespace Sys2Proof.Machine

/-- Change the clock unit. -/
def State.modClk (s : State) (f : Clock → Clock) : State := { s with clk := f s.clk }

/-- A source is judged stable: 0 IFO, 1 XIN0, 2 XIN1. -/
def Clock.isStable (c : Clock) (i : Nat) : Bool := c.stable.getLsbD i

/-- Monitor of a source: CM0, CM2, CM3. -/
def monOf (i : Nat) : Pair := if i = 0 then 0 else if i = 1 then 2 else 3

/-- Configuration of an XIN. -/
def Clock.xinCfg (c : Clock) (i : Nat) : Nat := if i = 1 then c.xin0Cfg else c.xin1Cfg

/-- The source that automatic mode prefers: XIN0, then XIN1, then the IFO, among those stable (R292). -/
def Clock.preferred (c : Clock) : Option Nat := [1, 2, 0].find? c.isStable

/-- The source that REF_SEL asks for, if it is stable. -/
def Clock.wanted (c : Clock) : Option Nat := if c.refSel = 3 then c.preferred else if c.isStable c.refSel then some c.refSel else none

/-- ML0 leaves lock: a self-test is aborted by it (R436). -/
def State.loseLock (s : State) : State :=
  let s1 := s.modClk (fun c => { c with ml0Lock := false })
  if s.clk.ml0Lock then s1.excursion else s1

/-- ML0 goes over to a reference (R291): its time in holdover has no step of its own; lock is judged by ML0_RELOCK. -/
def State.switchTo (s : State) (i : Nat) : State := (s.modClk (fun c => { c with srcInUse := i, holdover := false, switches := inc 16 c.switches })).loseLock

/-- ML0 enters holdover (R289, R290). -/
def State.holdOver (s : State) : State :=
  (s.modClk (fun c => { c with holdover := true, holdSince := if c.holdover then c.holdSince else s.time })).loseLock

/-- The reference failed: the replacement of R290 step 2, or holdover without a source. -/
def State.replaceRef (s : State) : State :=
  let cand := if s.clk.srcInUse = 0 then [1, 2] else [0]
  match cand.find? s.clk.isStable with
  | some i => s.switchTo i
  | none => s.holdOver.modClk (fun c => { c with srcInUse := 3, ready := false })

/-- A source is judged failed (R290): record, event and log; in use, it is replaced. -/
def State.sourceFailed (s : State) (i : Nat) : State :=
  let s1 := s.modClk (fun c => { c with
    failed := c.failed ||| BitVec.twoPow 3 i, stable := c.stable &&& ~~~(BitVec.twoPow 3 i), fails := inc 8 c.fails
    mon := c.mon.upd (monOf i) (fun m => { m with goodWin := 0, fails := inc 16 m.fails }) })
  let s2 := (s1.raiseNme nmeClock).logEntry unitClock 4 kindFault (i + 1) 0x01 i
  if s.clk.srcInUse = i then s2.replaceRef else s2

/-- The ISO fails (R290): the same record, event and log, and Hasp's clock response. -/
def State.isoFails (s : State) : State :=
  let s1 := s.modClk (fun c => { c with isoFailed := true, fails := inc 8 c.fails, mon := c.mon.upd 1 (fun m => { m with goodWin := 0, fails := inc 16 m.fails }) })
  ((s1.raiseNme nmeClock).logEntry unitClock 4 kindFault 4 0x01 3).tripSensor 3

/-- Record a window in a monitor (R308). -/
def ClkMon.record (m : ClkMon) (offset : Int) (vs : Nat) (good : Bool) : ClkMon :=
  { m with
    offset := clampInt (-2147483648) 2147483647 offset, vs := vs, running := true, goodWin := if good then min 255 (m.goodWin + 1) else 0
    worst := max m.worst (min 0xFFFFFFFF offset.natAbs) }

/-- Two offsets against the IFO agree within ±500 ppm. -/
def agree (a b : Int) : Bool := decide (((a - b).natAbs : Int) * 100000000 ≤ 50000 * (100000000 + b))

/-- The IFO's window test (R288): within 100 ppm of the first window of its count, and within 50 ± 2.75. -/
def ifoGood (first : Bool) (x0 x : Int) : Bool :=
  decide (x.natAbs ≤ 5500000) && (first || decide (((x - x0).natAbs : Int) * 10000 ≤ 100000000 + x0))

/-- The monitors take a window, and sources reach stability at their eighth good one (R288). -/
def State.takeWindow (s : State) (w : ClockWindow) : State :=
  let c := s.clk
  let first := decide ((c.mon.at 0).goodWin = 0)
  let c1 : Clock := match w.ifo with
    | some x =>
      let good := ifoGood first c.ifoFirst x
      { c with ifoFirst := if first then x else c.ifoFirst, mon := c.mon.upd 0 (·.record x 1 good) }
    | none => { c with mon := c.mon.upd 0 (fun m => { m with running := false, goodWin := 0 }) }
  let c2 : Clock := match w.ifo with
    | some x =>
      if w.iso then { c1 with mon := c1.mon.upd 1 (·.record (100000000 * 100000000 / (100000000 + x) - 100000000) 0 (decide (10 * (x.natAbs : Int) ≤ 100000000 + x))) }
      else { c1 with mon := c1.mon.upd 1 (fun m => { m with running := false, goodWin := 0 }) }
    | none => c1
  let xin := fun (c : Clock) (i : Nat) (v : Option Int) =>
    match v with
    | some x => if c.xinCfg i = 0 then c else { c with mon := c.mon.upd (monOf i) (·.record x 0 (decide (x.natAbs ≤ 10000))) }
    | none => { c with mon := c.mon.upd (monOf i) (fun m => { m with running := false, goodWin := 0 }) }
  let c3 := xin (xin c2 1 w.x0) 2 w.x1
  { s with clk := c3 }

/-- A source has become stable in this window. -/
def Clock.rises (c : Clock) (i : Nat) : Bool := !c.isStable i && 8 ≤ (c.mon.at (monOf i)).goodWin

/-- A source is judged stable. The IFO's first judgement starts the root on it (R292, Table 9-6); without a source in use the replacement is
made; else a source that REF_SEL asks for is taken, a recovered one only with REVERT at 1 (R292). -/
def State.sourceStable (s : State) (i : Nat) : State :=
  let again := s.clk.failed.getLsbD i
  let s1 := s.modClk (fun c => { c with stable := c.stable ||| BitVec.twoPow 3 i, failed := c.failed &&& ~~~(BitVec.twoPow 3 i) })
  if !s.clk.ready && s.clk.srcInUse = 0 && i = 0 && !s.clk.ml0Lock then
    (s1.modClk (fun c => { c with ml0Lock := true, ready := true })).keywayRise
  else if s.clk.srcInUse = 3 then (s1.switchTo ((s1.clk.wanted).getD i)).raiseEvent evClock
  else if s1.clk.wanted = some i && s.clk.srcInUse ≠ i && (!again || s.clk.revert) && s.clk.ready then (s1.switchTo i).raiseEvent evClock
  else s1

/-- The sources that this window judges failed (R289): `ran`, whether each ran before it. -/
def failedSources (c : Clock) (w : ClockWindow) (ran : Nat → Bool) : List Nat :=
  let off := fun (v : Option Int) => match v with | some x => decide (50000 < x.natAbs) | none => true
  let both := match w.x0, w.x1 with
    | some a, some b => c.isStable 1 && c.isStable 2 && agree a b && off (some a) && off (some b)
    | _, _ => false
  let noXin := !c.isStable 1 && !c.isStable 2
  let ifo := match w.ifo with
    | some x => both || (noXin && decide (10000000 < x.natAbs))
    | none => ran 0
  let xin := fun (i : Nat) (v : Option Int) => c.xinCfg i ≠ 0 && (match v with | some _ => off v && !both | none => ran i)
  (if ifo then [0] else []) ++ (if xin 1 w.x0 then [1] else []) ++ (if xin 2 w.x1 then [2] else [])

/-- The mean of the phase corrections that the active pairs' loops make in a period, in 1/256 UI; none is made in quiet (R90, R293). -/
def State.meanCorrection (s : State) : Rat :=
  let ps := s.activePairs
  if s.ql.run.rxState = 0 then (ps.map (fun p => freePhaseGain (s.link.mode.getD 0) * ((s.rx.pair.at p).phaseLag : Rat))).sum / (ps.length : Rat) else 0

/-- ML1 tracks the received timing of a link, taken once per window, while its gate is open (R293). -/
def State.trackMl1 (s : State) : State :=
  if s.link.state < 4 || s.gate.closed.getLsbD 105 then s
  else s.modClk (fun c => { c with ml1 := freeMl1Word c.ml1 s.rx.freqOfs s.meanCorrection })

/-- CLOCK_MONITOR_WINDOW: one window of 1.024 ms (R288 to R290). While VDD_IO is low the XIN inputs are dead (R457). -/
def execClockMonitorWindow (w : ClockWindow) (s : State) : Host.Outcome State Fault Refusal :=
  .next <|
    if s.pwr.porHeld || s.pwr.warmHeld then s
    else
      let dead := s.pwr.railLow.getLsbD 4
      let w1 : ClockWindow := if dead then { w with x0 := none, x1 := none } else w
      let ran := fun (i : Nat) => (s.clk.mon.at (monOf i)).running
      let s1 := s.takeWindow w1
      let iso := match w1.ifo with | some x => !w1.iso || decide (100000000 + x < 10 * (x.natAbs : Int)) | none => false
      let s2 := if iso then (if s.clk.isoFailed then s1 else s1.isoFails) else s1.modClk (fun c => { c with isoFailed := false })
      let bad := failedSources s.clk w1 ran
      let s3 := bad.foldl (fun st i => if st.clk.failed.getLsbD i then st else st.sourceFailed i) s2
      let s4 := ((List.range 3).filter (fun i => s3.clk.rises i && !bad.contains i)).foldl (fun st i => st.sourceStable i) s3
      let s5 := if s4.clk.holdover && s4.clk.srcInUse ≠ 3 then s4.modClk (fun c => { c with holdover := false }) else s4
      let s6 := match s5.clk.wanted with
        | some i => if s5.clk.revert && s5.clk.ready && s5.clk.srcInUse ≠ i then (s5.switchTo i).raiseEvent evClock else s5
        | none => s5
      s6.trackMl1

/-- REFERENCE_EDGE_LOSS: no edge for 4 IFO cycles puts the root into holdover at once (R289). -/
def execReferenceEdgeLoss (s : State) : Host.Outcome State Fault Refusal :=
  .next (if s.clk.ready && s.clk.srcInUse ≠ 3 then s.holdOver else s)

/-- HOLDOVER_EXPIRY: 1 s of holdover with no stable reference (R290). -/
def execHoldoverExpiry (s : State) : Host.Outcome State Fault Refusal := .next (if s.clk.holdover && s.clk.srcInUse = 3 && s.clk.holdSince + 1000000000 ≤ s.time then s.linkFail 0xD else s)

/-- ML0_RELOCK: within ±0.1 ppm of its target for 1 ms (R291). -/
def execMl0Relock (s : State) : Host.Outcome State Fault Refusal :=
  .next <|
    if s.clk.srcInUse ≠ 3 && !s.clk.holdover && !s.clk.ml0Lock && s.clk.isStable s.clk.srcInUse then
      ((s.modClk (fun c => { c with ml0Lock := true, ready := true })).raiseEvent evClock).keywayRise
    else s

/-! ### LCLK (R286, R220) -/

/-- The divisions of Table 9-2. -/
def lclkDivisions : List Nat := [2, 4, 5, 8, 20, 40, 80, 128]

/-- The local transmitter is silent as R286 asks: down, negotiating, the break, before the first training symbol, or a silence of the T40 idle. -/
def State.lclkSilent (s : State) : Bool := s.link.state ≤ 3 || (s.link.state = 10 && s.link.since = s.time) || (s.inT40Idle && s.ql.run.txState ≠ 0)

/-- Divisions that the T40 idle allows (R219, R220): the DACs at the mode's, or at the rate of the segment that is due; the ADCs at the mode's, or at 2 while both
directions are quiet or this end wakes. -/
def State.t40Divisions (s : State) (dac adc : Nat) : Bool :=
  let own := lclkDivision (s.link.mode.getD 0)
  let due := match s.ql.run.hunt with | some n => (match huntSegments[n]? with | some g => dac = g.1 | none => dac = own) | none => dac = own
  due && (adc = own || (adc = 2 && s.ql.run.txState ≠ 0 && s.ql.run.rxState ≠ 0))

/-- LCLK_DIVISION_CHANGE: new divisions of the DACs and of the ADCs, which differ only in the T40 idle; the sample cycle restarts, and a rate-hunting burst goes on. -/
def execLclkDivisionChange (dac adc : Nat) (s : State) : Host.Outcome State Fault Refusal :=
  .next <|
    let okD := dac = s.clk.dacDiv || s.lclkSilent
    let okA := adc = s.clk.adcDiv || s.lclkSilent || s.inT40Idle
    if lclkDivisions.contains dac && lclkDivisions.contains adc && okD && okA && (if s.inT40Idle then s.t40Divisions dac adc else dac = adc) then
      ((s.modClk (fun c => { c with dacDiv := dac, adcDiv := adc })).restartCycle).huntStep dac
    else s

/-! ### Objects 0x0500 to 0x0502 -/

/-- 0x0500 CLK_CTL. -/
def State.clkCtlImage (s : State) : List (Nat × Nat) :=
  let c := s.clk
  [(2, c.refSel), (3, c.xin0Cfg), (3, c.xin1Cfg), (1, b2n c.rclkEn), (1, b2n c.rclkSrc), (1, b2n c.rclkSquelch), (3, c.rclkFreq), (1, b2n c.revert), (49, 0)]

/-- A CLK_CTL that may be stored (R306). -/
def clkCtlOk (v : Nat) : Bool := bitsAt v 2 3 ≤ 4 && bitsAt v 5 3 ≤ 4 && bitsAt v 11 3 ≤ 4 && v / 2 ^ 15 = 0

/-- A write that must complete with NOT_READY: REF_SEL to a source not stable, or a new configuration of the XIN in use (R292, R306). -/
def State.clkNotReady (s : State) (v : Nat) : Bool :=
  let c := s.clk
  let r := bitsAt v 0 2
  (r ≠ c.refSel && r ≠ 3 && !c.isStable r) || (c.srcInUse = 1 && bitsAt v 2 3 ≠ c.xin0Cfg) || (c.srcInUse = 2 && bitsAt v 5 3 ≠ c.xin1Cfg)

/-- An XIN with a new configuration is judged afresh. -/
def Clock.configure (c : Clock) (i cfg : Nat) : Clock :=
  if c.xinCfg i = cfg then c
  else
    let c1 : Clock := { c with
      stable := c.stable &&& ~~~(BitVec.twoPow 3 i)
      mon := c.mon.upd (monOf i) (fun m => { m with goodWin := 0, running := m.running && cfg ≠ 0 }) }
    if i = 1 then { c1 with xin0Cfg := cfg } else { c1 with xin1Cfg := cfg }

/-- Store CLK_CTL; a write that changes REF_SEL switches to the source that it asks for (R292). -/
def State.storeClkCtl (s : State) (v : Nat) : State :=
  let r := bitsAt v 0 2
  let c := (s.clk.configure 1 (bitsAt v 2 3)).configure 2 (bitsAt v 5 3)
  let c1 : Clock := { c with
    refSel := r, rclkEn := bitAt v 8, rclkSrc := bitAt v 9, rclkSquelch := bitAt v 10, rclkFreq := bitsAt v 11 3, revert := bitAt v 14 }
  let s1 : State := { s with clk := c1 }
  match c1.wanted with
  | some i => if r ≠ s.clk.refSel && i ≠ s.clk.srcInUse then (s1.switchTo i).raiseEvent evClock else s1
  | none => s1

/-- RCLK_OUT (R294). -/
def State.rclkOut (s : State) : RclkOut :=
  if !s.clk.rclkEn || s.pwr.state = .dormant then .off
  else if s.clk.rclkSrc then .root s.clk.rclkFreq
  else if s.linkInData then .recovered s.clk.rclkFreq s.clk.ml1
  else if s.clk.rclkSquelch then .low else .root s.clk.rclkFreq

/-- RCLK_LOCAL: RCLK_OUT runs from the local root (R294). -/
def State.rclkLocal (s : State) : Bool := match s.rclkOut with | .root _ => true | _ => false

/-- STEER: on a timing slave ML1's word steers the root, within ±250 ppm, from training on; at link down it returns to 0 (R293). -/
def State.steering (s : State) : Int := if s.link.role && 4 ≤ s.link.state then clampInt (-250000) 250000 s.clk.ml1 else 0

/-- 0x0501 CLK_STATUS. -/
def State.clkStatusImage (s : State) : List (Nat × Nat) :=
  let c := s.clk
  [(2, c.srcInUse), (1, b2n c.ml0Lock), (1, b2n s.linkInData), (1, b2n c.holdover), (3, c.stable.toNat), (3, c.failed.toNat), (1, b2n c.isoFailed),
    (1, b2n s.rclkLocal), (3, 0), (24, ofInt 24 s.steering), (16, c.switches), (8, c.fails)]

/-- 0x0502 CLK_MON. -/
def State.clkMonImage (s : State) : List (Nat × Nat) :=
  s.clk.mon.toList.flatMap (fun m =>
    [(32, ofInt 32 m.offset), (2, m.vs), (1, b2n m.running), (5, 0), (8, m.goodWin), (16, 0), (32, m.worst), (16, m.fails), (16, 0)])

end Sys2Proof.Machine
end

