-- ==== Sys2Proof/Machine/Knuckle.lean ====
section
/-! DEFINITION. Knuckle, three-pair operation: the two commands, the KR and KA handshake, the changes of form, pair training and the objects 0x0A00 and 0x0A01 (07_calibration R248 to R256, R260). -/

namespace Sys2Proof.Machine

/-- The local pair whose far pair is the one that the partner names in KPAIR (R249, R168). -/
def State.namedPair (s : State) : Option Pair := pairs.find? (fun (p : Pair) => (s.link.map.far.at p).val = s.statusRx 6)

/-- A fast retrain pending at a KNUCKLE command is run first: the request keeps its place (R183, R248). -/
def State.retrainFirst (s : State) : Bool := s.nativeData && s.link.frt.want

/-- KNUCKLE SHED (OP other than 1; values beyond 1 give RANGE): KR is sent for the pair. In Quiet-Latch it is a wake cause (R248). -/
def execKnuckleShed (tag : BitVec 16) (s : State) : Host.Outcome State Fault Refusal :=
  .next <| if s.retrainFirst then s else s.runWhere tag 0x4B (fun c => c.arg 28 1 ≠ 1) fun q s =>
    s.guarded q [(q.cap.len ≠ 0, .lenRange), (!s.fuse.part.knuckle, .unitAbsent), (!(s.ready .knuckle && s.nativeData && s.link.knOk), .notReady),
      (!q.cap.fieldsOk [(28, 2)] || q.cap.arg 28 1 ≠ 0 || 4 ≤ q.cap.arg 29 1 || s.kn.state ≠ 0, .range)] [] fun s =>
      let p : Pair := ⟨q.cap.arg 29 1 % 4, Nat.mod_lt _ (by decide)⟩
      let s1 := (s.startRun q).modKn (fun k => { k with state := 1, shed := p, partnerAsked := false, request := some (true, q.cap.tag), krSince := none })
      ((s1.setStatus 2 1).setStatus 6 p.val).wakeCause 4

/-- Pair training of the shed pair begins at this end (R252, R254, R255): items and tests on the pair end, the partner's silence is over, and
the four-pair profile is committed. -/
def State.beginPairTraining (s : State) (partner : Bool) : State :=
  let s1 := (s.endCalItems 4 (· = s.kn.shed.val)).interruptDiagRun
  let s2 : State := if s1.diag.quietUntil.isSome then State.sendQuietAck { s1 with diag := { s1.diag with quietUntil := none } } s1.kn.shed 1 3 else s1
  (s2.commitProfile (Profile.ofRung (s2.link.mode.getD 0) false)).modKn (fun k =>
    { k with state := 3, partnerAsked := partner, good := 0, ready := false, farReady := false, trainSince := s.time })

/-- KNUCKLE REINSTATE (OP 1): pair training on the shed pair begins; a self-test of the pair defers it (R248, R255). -/
def execKnuckleReinstate (tag : BitVec 16) (s : State) : Host.Outcome State Fault Refusal :=
  .next <| if s.retrainFirst then s else s.runWhere tag 0x4B (fun c => c.arg 28 1 = 1) fun q s =>
    let go := fun (st : State) => ((st.startRun q).modKn (fun k => { k with request := some (false, q.cap.tag) })).beginPairTraining false
    let bad := !q.cap.fieldsOk [(28, 1)] || s.kn.state ≠ 2
    s.guarded q [(q.cap.len ≠ 0, .lenRange), (!s.fuse.part.knuckle, .unitAbsent), (!(s.ready .knuckle && s.nativeData && s.link.knOk), .notReady)] [] fun s =>
      let tested := s.testOn 2 s.kn.shed.val
      if tested && !q.cap.preempt then s.defer q 2
      else s.guarded q [(bad, .range)] [] fun s => go (if tested then s.abortTest 2 else s)

/-- The responder answers with KA for its own pair (R249 step 2). -/
def State.answerKnuckle (s : State) (p : Pair) : State :=
  ((s.modKn (fun k => { k with state := 1, shed := p, partnerAsked := true })).setStatus 3 1).setStatus 6 p.val

/-- The request ends without its change: KR is cleared and the command completes (R251). -/
def State.dropRequest (s : State) (st : Status) : State := ((s.setStatus 2 0).modKn (fun k => { k with state := 0 })).endKnuckle st

/-- KNUCKLE_REQUEST_RECEIVED: the partner's KR under R67. In four-pair form it is answered; against an own request it is a collision (R251);
in Knuckle form it is the partner's REINSTATE (R254), and after pair training its KR = 0 clears KA (R255). -/
def execKnuckleRequestReceived (s : State) : Host.Outcome State Fault Refusal :=
  .next <|
    if !(s.nativeData && s.link.knOk) then s
    else match s.namedPair with
      | none => s
      | some p =>
        let kr := s.statusRx 2 = 1
        match s.kn.state with
        | 0 => if kr && s.kn.accept then s.answerKnuckle p else s
        | 1 =>
          if !kr || s.kn.run.partnerAsked || (s.statusTx 3).want = 1 then s
          else if p = s.kn.shed then s.setStatus 3 1
          else if !s.link.role then s
          else let s1 := s.dropRequest .stale; if s1.kn.accept then s1.answerKnuckle p else s1
        | 2 => s.beginPairTraining true
        | 3 => if s.kn.run.request.isSome && s.link.role then s.modKn (fun k => { k with partnerAsked := true }) else s
        | 4 => if s.kn.run.partnerAsked && !kr then (s.setStatus 2 0).setStatus 3 0 else s
        | _ => s

/-- A SHED fails at this end (R251): TIMEOUT, and REFUSED counts. -/
def State.refuseShed (s : State) : State := State.dropRequest { s with kn := { s.kn with refused := inc 8 s.kn.refused } } .timeout

/-- KNUCKLE_ACK_RECEIVED: the requester checks that the responder's KPAIR maps back and sends its own KA; on the way back it clears it (R249,
R251, R255). -/
def execKnuckleAckReceived (s : State) : Host.Outcome State Fault Refusal :=
  .next <|
    let own := match s.kn.run.request with | some (sh, _) => sh | none => false
    if s.kn.state = 1 && own && s.statusRx 3 = 1 && (s.statusTx 3).want = 0 then
      if s.namedPair = some s.kn.shed then s.setStatus 3 1 else s.refuseShed
    else if s.kn.state = 4 && !s.kn.run.partnerAsked && s.statusRx 3 = 0 then s.setStatus 3 0
    else s

/-- KNUCKLE_ACK_TIMEOUT: no KA within 1 ms of the first KR (R251). -/
def execKnuckleAckTimeout (s : State) : Host.Outcome State Fault Refusal :=
  .next <|
    let own := match s.kn.run.request with | some (sh, _) => sh | none => false
    if s.kn.state = 1 && own && (s.statusTx 2).now = 1 && (s.statusTx 3).want = 0 then s.refuseShed else s

/-- A message whose slices a change of form cuts off is sent again (R75, R78). -/
def LcRun.cutMessage (r : LcRun) : LcRun :=
  match r.ifNow with
  | none => r
  | some m =>
    match r.ifOut with
    | some o => if o.msg = m then { r with ifNow := none, ifOut := some { o with due := true } } else { r with ifNow := none, ifAcks := m :: r.ifAcks }
    | none => { r with ifNow := none, ifAcks := m :: r.ifAcks }

/-- KNUCKLE_FORM_CHANGE: the transmit direction takes the form of its KA, 16 periods past its first change (R249, R255). -/
def execKnuckleFormChange (s : State) : Host.Outcome State Fault Refusal :=
  .next <|
    if s.nativeData && s.kn.run.txAt = some s.lc.run.txSeq then
      let s1 := s.modRun LcRun.cutMessage
      State.formsChanged { s1 with kn := { s1.kn with
        txSwitch := s.lc.run.txSeq, run := { s1.kn.run with txForm := decide ((s.statusTx 3).now = 1), txAt := none } } }
    else s

/-- RX_FORM_CHANGE: the receiver takes the partner's change at the period s0 + 16 (R250). -/
def execRxFormChange (s : State) : Host.Outcome State Fault Refusal :=
  .next (if s.nativeData && s.kn.run.rxAt = some s.lc.run.rxSeq then s.takeRxForm (!s.kn.run.rxForm) else s)

/-- PAIR_TRAINING_DONE: both ends send READY on the shed pair; the requester clears KR (R254, R255). -/
def execPairTrainingDone (s : State) : Host.Outcome State Fault Refusal :=
  .next <|
    if s.nativeData && s.kn.state = 3 && s.kn.run.ready && s.kn.run.farReady then
      let s1 := s.modKn (fun k => { k with state := 4 })
      if s.kn.run.partnerAsked then s1 else s1.setStatus 2 0
    else s

/-- PAIR_TRAINING_TIMEOUT: not ended within 50 ms; the pair stays shed and the Knuckle profile returns (R252, R254). -/
def execPairTrainingTimeout (s : State) : Host.Outcome State Fault Refusal :=
  .next <|
    if s.nativeData && s.kn.state = 3 then
      let s1 : State := { s with kn := { s.kn with refused := inc 8 s.kn.refused, run := { s.kn.run with state := 2, ready := false, farReady := false, good := 0 } } }
      (s1.commitProfile (Profile.ofRung (s1.link.mode.getD 0) true)).endKnuckle .timeout
    else s

/-! ### Objects 0x0A00 and 0x0A01 (R260) -/

/-- 0x0A00 KN_CTL. -/
def State.knCtlImage (s : State) : List (Nat × Nat) := [(1, b2n s.kn.accept), (63, 0)]

/-- Store KN_CTL. -/
def State.storeKnCtl (s : State) (v : Nat) : State := { s with kn := { s.kn with accept := bitAt v 0 } }

/-- 0x0A01 KN_STATUS. -/
def State.knStatusImage (s : State) : List (Nat × Nat) :=
  let k := s.kn
  [(3, k.state), (2, if k.state = 0 then 0 else k.shed.val), (1, b2n k.run.partnerAsked), (2, 0), (8, k.txSwitch), (8, k.rxSwitch), (8, 0), (8, k.entries),
    (8, k.reinstates), (8, k.refused), (8, k.formSearches)]

end Sys2Proof.Machine
end

