-- ==== Sys2Proof/Machine/Diag.lean ====
section
/-! DEFINITION. The cable diagnostics unit, its messages over link OAM, and the objects 0x0400 to 0x0403 (08_cable R261 to R277). -/

namespace Sys2Proof.Machine

/-- Change the diagnostics unit. -/
def State.modDiag (s : State) (f : Diag → Diag) : State := { s with diag := f s.diag }

/-! ### DIAG_TDR (R262, R263, R269, R270) -/

/-- A run may do these tests on these pairs in the present state (Table 8-1). -/
def State.diagAllowed (s : State) (tests ps : Nat) : Bool :=
  if s.link.state ≤ 2 then true
  else s.nativeData && s.kn.state = 2 && !bitAt tests 2 && ps = 2 ^ s.kn.shed.val

/-- The fields of a DIAG_TDR break R263. -/
def diagBad (c : Capsule) : Bool :=
  let tests := c.arg 28 1
  let ps := c.arg 29 1
  let ms := c.arg 30 2
  let a := c.arg 32 8
  !c.fieldsOk [(28, 16)] || tests = 0 || 8 ≤ tests || 16 ≤ ps || (ps = 0 && tests % 4 ≠ 0) || ms < 10 || 10000 < ms || 2 ^ 41 ≤ a ||
    (a ≠ 0 && (c.arg 40 4 < 8256 || a % 64 ≠ 0))

/-- DURATION that a number of blocks needs: their time plus 1 ms, at most 100 ms (R270). -/
def quietMs (blocks : Nat) : Nat := min 100 ((128 * blocks + 1999) / 1000)

/-- Ask the partner for silence on the shed pair for the blocks still to come (R270). -/
def State.askQuiet (s : State) (blocks : Nat) : State :=
  let ms := quietMs blocks
  (s.sendQuietReq s.kn.shed 1 ms).modDiag (fun d => { d with run := d.run.map (fun r => { r with grantEnd := s.time + 1000000 * ms }) })

/-- The run starts: results of pairs and tests not asked for are SKIPPED; negotiation is suspended; on a shed pair the partner is asked for
silence (R262, R270, R273). -/
def State.startDiag (s : State) (q : Request) : State :=
  let tests := q.cap.arg 28 1
  let ps := if tests % 4 = 0 then 0 else q.cap.arg 29 1
  let tdr := (List.range 4).filter (bitAt ps)
  let left := tdr ++ (if bitAt tests 2 then [4, 5, 6, 7] else [])
  let onShed := decide (3 ≤ s.link.state)
  let run : DiagRun :=
    { tag := q.cap.tag, tests := tests, pairs := BitVec.ofNat 4 ps, outAddr := q.cap.arg 32 8, outLen := q.cap.arg 40 4, left := left
      onShed := onShed, asking := onShed, blocks := s.diag.blocks, range := s.diag.range, stepThr := s.diag.stepThr, endThr := s.diag.endThr
      suspended := !onShed && s.link.state ≠ 0, since := s.time }
  let s1 := (s.startRun q).modDiag (fun d => { d with
    run := some run, restarts := 0, discarded := 0
    tdrResult := (List.range 4).map (fun p => if tdr.contains p then 0 else 7), nextResult := if bitAt tests 2 then 0 else 7 })
  let s2 := if run.suspended && s1.link.state = 1 then s1.modLink (fun l => { l with neg := {} }) else s1
  if onShed then s2.askQuiet run.blocks else s2

/-- The self-test in the way of a run: one of a pair that it names (R269). -/
def State.diagTested (s : State) (tests ps : Nat) : Bool :=
  match s.bist.run with
  | some r => r.test = 2 && (bitAt tests 2 || bitAt ps r.target)
  | none => false

/-- DIAG_TDR: held while a run, a CAL_RUN or a CAL_IMPORT is in progress (R269). -/
def execDiagTdr (tag : BitVec 16) (s : State) : Host.Outcome State Fault Refusal :=
  .next <| if s.cal.run.isSome || s.diag.run.isSome then s else s.runRequest tag 0x53 fun q s =>
    let tests := q.cap.arg 28 1
    let ps := q.cap.arg 29 1
    let bad := diagBad q.cap
    let copy : List (Nat × Nat) := [(64, packNat s.diagStatusImage)]
    s.guarded q [(q.cap.len ≠ 0, .lenRange), (!s.fuse.part.diag, .unitAbsent),
      (!s.ready .diag || !s.ready .line || !s.diagAllowed tests ps, .notReady)] copy fun s =>
      let tested := s.diagTested tests ps
      if tested && !q.cap.preempt then s.defer q 2
      else s.guarded q [(bad, .range)] copy fun s =>
        match (if q.cap.arg 32 8 = 0 then none else s.bufferFault (q.cap.arg 32 8) 8256 true) with
        | some k => (s.windowFault 1001 (q.cap.arg 32 8) k).finish q .windowFault copy []
        | none => (if tested then s.abortTest 2 else s).leaveDormant.startDiag q

/-! ### Findings (R265 to R268) -/

/-- Keep the value of larger magnitude. -/
def larger (a b : Int) : Int := if a.natAbs < b.natAbs then b else a

/-- Bins of a response sampled at 8.0 GS/s, Γ in Q15 (R265). -/
def State.diagBins (s : State) (range : Nat) (response : List Int) : List Int :=
  response.zipIdx.foldl (fun (bins : List Int) x =>
    let d := s.distance (125 * x.2)
    if d < 0 then bins else modAt bins d.toNat (larger · x.1)) (List.replicate range 0)

/-- Impedance of a step, 0.1 Ω, to the nearest (Table 8-2). -/
def stepZ (g : Int) : Nat := ((2000 * (32768 + g) + (32768 - g)) / (2 * (32768 - g))).toNat

/-- The finding of a run whose bin of largest |Γ| is j (R266, Table 8-2). -/
def findingAt (endThr : Nat) (j : Nat) (g : Int) : Finding :=
  if (128 * endThr : Nat) ≤ g then { dist := j, gamma := g, z := 0xFFFF, kind := 3 }
  else if g ≤ -((128 * endThr : Nat) : Int) then { dist := j, gamma := g, z := 0, kind := 4 }
  else { dist := j, gamma := g, z := stepZ g, kind := if 0 < g then 1 else 2 }

/-- Runs of adjacent bins at the step threshold, each by its bin of largest |Γ|, in ascending distance. -/
def findingRuns (thr : Nat) : List (Nat × Int) → Option (Nat × Int) → List (Nat × Int)
  | [], none => []
  | [], some r => [r]
  | (j, g) :: t, cur =>
    if 128 * thr ≤ g.natAbs then
      findingRuns thr t (match cur with
        | none => some (j, g)
        | some (k, h) => if h.natAbs < g.natAbs then some (j, g) else some (k, h))
    else match cur with
      | none => findingRuns thr t none
      | some r => r :: findingRuns thr t none

/-- Findings up to the first open or short, that one included. -/
def upToEnd : List Finding → List Finding
  | [] => []
  | f :: t => if 3 ≤ f.kind then [f] else f :: upToEnd t

/-- The record of a pair (R266, R274). -/
def tdrRecord (stepThr endThr : Nat) (bins : List Int) (rl : List Nat) : TdrFind :=
  let all := upToEnd ((findingRuns stepThr ((bins.zipIdx.map (fun x => (x.2, x.1))).drop 3) none).map (fun x => findingAt endThr x.1 x.2))
  let last := all.find? (fun f => 3 ≤ f.kind)
  { more := decide (8 < all.length), ending := match last with | some f => f.kind - 2 | none => 0
    length := match last with | some f => f.dist | none => 0xFFFF
    rl := rl, finds := all.take 8 }

/-- The six combinations of two pairs, in record order (R275). -/
def combinations : List (Nat × Nat) := [(0, 1), (0, 2), (0, 3), (1, 2), (1, 3), (2, 3)]

/-- NEXT loss of a combination: the mean of its two drive directions, or the one that was measured (R268). -/
def nextMean (l : List (Nat × Nat × List Nat)) (c : Nat × Nat) : List Nat :=
  let one := fun (a v : Nat) => (l.find? (fun x => x.1 = a && x.2.1 = v)).map (·.2.2)
  (List.range 8).map (fun b =>
    match one c.1 c.2, one c.2 c.1 with
    | some x, some y => (x.getD b 0 + y.getD b 0 + 1) / 2
    | some x, none => x.getD b 0
    | none, some y => y.getD b 0
    | none, none => 0)

/-- The NEXT map is written when its last aggressor ends (R268, R275). -/
def Diag.mapNext (d : Diag) (l : List (Nat × Nat × List Nat)) : Diag :=
  let map := combinations.map (nextMean l)
  let short := (combinations.zip map).map (fun x => l.any (fun y => (y.1, y.2.1) = x.1 || (y.2.1, y.1) = x.1) && decide (x.2.getD 0 0 < 60))
  { d with nextMap := map, crossShort := BitVec.ofNat 6 (ofBools short) }

/-! ### Blocks (R264, R269) -/

/-- Pairs that a measurement samples: the pair itself, or the three victims of an aggressor (R264). -/
def measuredPairs (k : Nat) : List Pair := pairs.filter (fun p => if k < 4 then p.val = k else p.val ≠ k - 4)

/-- A block is accepted: no measured pair saw energy from outside, clipped, or lost a sample on the die link (R269). -/
def blockGood (b : DiagBlock) (k : Nat) : Bool :=
  (measuredPairs k).all (fun p => !b.energy.getLsbD p && !b.marked.getLsbD p && b.pulses.all (fun x => (x.at p).all (fun v => decide (-128 < v) && decide (v < 127))))

/-- Two responses added sample by sample. -/
def addSamples : List Int → List Int → List Int
  | [], b => b
  | a, [] => a
  | x :: a, y :: b => (x + y) :: addSamples a b

/-- The response of a block on a pair: the sum over its pulses (R264). -/
def blockResponse (b : DiagBlock) (p : Pair) : List Int := b.pulses.foldl (fun acc x => addSamples acc (x.at p)) []

/-- On a shed pair the NEXT of the active pairs is subtracted from each sample (R264). -/
def State.withoutNext (s : State) (p : Pair) (l : List Int) : List Int :=
  l.zipIdx.map (fun x => x.1 - freeNextShare ((s.rx.pair.at p).coef.next.toList) s.draws x.2)

/-- An accepted block is added to the accumulation (R264). -/
def State.accumulate (s : State) (r : DiagRun) (k : Nat) (b : DiagBlock) : DiagRun :=
  { r with accepted := r.accepted + 1, acc := (measuredPairs k).foldl (fun (q : Quad (List Int)) p =>
      q.upd p (fun l => addSamples l (if r.onShed then s.withoutNext p (blockResponse b p) else blockResponse b p))) r.acc }

/-- One more than a number over one more than another. -/
def aboveZero (x : Nat × Nat) : Rat := ((x.1 + 1 : Nat) : Rat) / ((x.2 + 1 : Nat) : Rat)

/-- Γ of an accumulated sample in Q15: against the incident pulse, averaged over 64 pulses a block (R265). -/
def gammaOf (blocks : Nat) (v : Int) : Int := clampInt (-32768) 32767 (roundRat (32768 * (v : Rat) / (64 * blocks * aboveZero freePulsePeak)))

/-- The band centres of R267, MHz. -/
def bandCentres : List Nat := [50, 100, 250, 500, 1000, 2000, 3000, 4000]

/-- Value i of a Hann window of n (R267). -/
def hann (n i : Nat) : Rat := if n < 2 then 1 else (1 - (freeTwiddle (n - 1) (i % (n - 1))).1) / 2

/-- The transform at a frequency in MHz of samples taken at 8.0 GS/s, the first at a position. -/
def bandSum (f first : Nat) (l : List Rat) : Cx :=
  l.zipIdx.foldl (fun a x => cadd a (let w := freeTwiddle 8000 (f * (first + x.2) % 8000); (x.1 * w.1, x.1 * w.2))) (0, 0)

/-- Loss of a transform against the incident pulse at a band, 0.1 dB, at least 0. -/
def bandLoss (blocks band : Nat) (v : Cx) : Nat := (-tenLog (cnorm v / ((64 * blocks : Nat) * (64 * blocks : Nat) * aboveZero (freePulsePower band)))).toNat

/-- Return loss of an accumulated response: from 0.3 m to RANGE under a Hann window, at most 60.0 dB (R267). -/
def State.returnLoss (s : State) (r : DiagRun) (acc : List Int) : List Nat :=
  let first := ((List.range acc.length).find? (fun i => decide (3 ≤ s.distance (125 * i)))).getD acc.length
  let l := ((acc.zipIdx.drop first).filter (fun x => decide (s.distance (125 * x.2) < (r.range : Int)))).map (·.1)
  let w := l.zipIdx.map (fun x => (x.1 : Rat) * hann l.length x.2)
  bandCentres.zipIdx.map (fun f => min 600 (bandLoss r.accepted f.2 (bandSum f.1 first w)))

/-- NEXT loss of a victim's accumulated response at the band centres (R268). -/
def nextLoss (r : DiagRun) (acc : List Int) : List Nat :=
  bandCentres.zipIdx.map (fun f => bandLoss r.accepted f.2 (bandSum f.1 0 (acc.map (fun (v : Int) => (v : Rat)))))

/-- The measurement in front of a run ends with a result; findings come from the blocks accepted. -/
def State.endMeasurement (s : State) (r : DiagRun) (k result : Nat) : State :=
  let rest := r.left.drop 1
  let got := decide (0 < r.accepted)
  let next : DiagRun := { r with left := rest, accepted := 0, discardedHere := 0, acc := Quad.all [] }
  if k < 4 then
    let p : Pair := ⟨k % 4, Nat.mod_lt _ (by decide)⟩
    let bins := s.diagBins r.range ((r.acc.at p).map (gammaOf r.accepted))
    let rl := if bitAt r.tests 1 then s.returnLoss r (r.acc.at p) else List.replicate 8 0
    s.modDiag (fun d => { d with
      tdrResult := setAt d.tdrResult k result
      find := d.find.put p (if got then tdrRecord r.stepThr r.endThr bins rl else {})
      run := some { next with bins := if got then r.bins.put p bins else r.bins } })
  else
    let l := if got then r.next ++ (measuredPairs k).map (fun p => (k - 4, p.val, nextLoss r (r.acc.at p))) else r.next
    let s1 := s.modDiag (fun d => { d with
      nextResult := if result = 1 && rest = [] && d.nextResult ≠ 2 then 1 else if result = 1 then d.nextResult else result
      run := some { next with next := l } })
    if rest = [] then s1.modDiag (·.mapNext l) else s1

/-- A run with nothing left to measure completes with OK (R263). -/
def State.settleDiag (s : State) : State :=
  match s.diag.run with
  | some r => if r.left = [] then s.finishDiag .ok else s
  | none => s

/-- TDR_BLOCK_DONE: a DIAG task on a background engine ends a block, which is accumulated or discarded (R264, R269). -/
def execTdrBlockDone (b : DiagBlock) (s : State) : Host.Outcome State Fault Refusal :=
  .next <|
    match s.diag.run with
    | none => s
    | some r =>
      match r.left with
      | [] => s
      | k :: _ =>
        if r.asking || !s.backgroundEngine then s
        else
          let good := blockGood b k
          let r1 := if good then s.accumulate r k b else { r with discardedHere := r.discardedHere + 1 }
          let s0 := if good && r.onShed then s.drawn else s
          let s1 := s0.modDiag (fun d => { d with run := some r1, discarded := if good then d.discarded else inc 16 d.discarded })
          if r1.accepted = r.blocks then (s1.endMeasurement r1 k 1).settleDiag
          else if 4 * r.blocks ≤ r1.discardedHere then (s1.endMeasurement r1 k 2).settleDiag
          else if r.onShed && r.grantEnd ≤ s.time + 1000000 then s1.askQuiet (r.blocks - r1.accepted)
          else s1

/-- DIAG_TIMEOUT: MAX_MS is reached; the tests not ended record TIMEOUT (R263). -/
def execDiagTimeout (s : State) : Host.Outcome State Fault Refusal := .next (s.endDiagTests 6 .timeout)

/-- DIAG_NO_ENGINE: a test finds no engine for 10 ms (R269). -/
def execDiagNoEngine (s : State) : Host.Outcome State Fault Refusal :=
  .next <|
    match s.diag.run with
    | none => s
    | some r =>
      match r.left with
      | [] => s
      | k :: rest =>
        if s.backgroundEngine then s
        else if k < 4 then
          (s.modDiag (fun d => { d with tdrResult := setAt d.tdrResult k 5, run := some { r with left := rest, accepted := 0, discardedHere := 0, acc := Quad.all [] } })).settleDiag
        else (s.modDiag (fun d => { d with nextResult := 5, run := some { r with left := [] } })).settleDiag

/-! ### Link OAM received (R270, R276, R277) -/

/-- Bytes [a, b) of an item are 0. -/
def zeroBytes (x : List Byte) (a b : Nat) : Bool := ((x.drop a).take (b - a)).all (· = 0)

/-- An OAM item, its FCS taken off, may be accepted (R277). -/
def oamOk (x : List Byte) : Bool :=
  let typ := leAt x 0 2
  60 ≤ x.length && leAt x 2 1 ≠ 0 && leAt x 3 1 = 0 &&
    (if typ = 1 then leAt x 48 1 < 16 && zeroBytes x 49 60
     else if typ = 2 then leAt x 8 1 < 4 && leAt x 9 1 < 2 && 1 ≤ leAt x 10 2 && leAt x 10 2 ≤ 100 && zeroBytes x 12 60
     else typ = 3 && leAt x 8 1 < 4 && leAt x 9 1 < 2 && leAt x 10 1 < 4 && zeroBytes x 11 60)

/-- Take the OAM item in front if it is of a type: a bad one is dropped and counted, a good one counted and acted on. -/
def State.onOam (s : State) (typ : Nat) (act : List Byte → State → State) : State :=
  match s.lc.oamIn with
  | [] => s
  | x :: t =>
    let s1 : State := { s with lc := { s.lc with oamIn := t } }
    if !oamOk x then { s1 with mon := { s1.mon with oamDrop := inc 32 s1.mon.oamDrop } }
    else if leAt x 0 2 = typ then act x { s1 with mon := { s1.mon with oamRx := inc 32 s1.mon.oamRx } }
    else s

/-- QUIET_REQ received: the partner asks for silence on its shed pair, or ends it (R270 step 2). -/
def execQuietReq (s : State) : Host.Outcome State Fault Refusal :=
  .next <| s.onOam 2 fun x s =>
    let action := leAt x 9 1
    match pairs.find? (fun (p : Pair) => (s.link.map.far.at p).val = leAt x 8 1) with
    | none => s
    | some p =>
      let result := if s.kn.state = 2 && p = s.kn.shed then 0 else if s.kn.state = 0 || s.kn.state = 2 then 1 else 2
      let until' := if result ≠ 0 then s.diag.quietUntil else if action = 1 then some (s.time + 1000000 * leAt x 10 2) else none
      (s.modDiag (fun d => { d with quietUntil := until' })).sendQuietAck p action result

/-- QUIET_ACK received: acquisition may begin, or the test ends REFUSED, or INTERRUPTED when the silence is released (R270). -/
def execQuietAck (s : State) : Host.Outcome State Fault Refusal :=
  .next <| s.onOam 3 fun x s =>
    let result := leAt x 10 1
    let s1 : State := if result = 0 then s else { s with mon := { s.mon with quietRefused := inc 32 s.mon.quietRefused } }
    match s1.diag.run with
    | none => s1
    | some r =>
      if !r.onShed || leAt x 9 1 ≠ 1 then s1
      else if result = 3 then s1.endDiagTests 4 .ok
      else if result ≠ 0 || (s1.link.map.far.at s1.kn.shed).val ≠ leAt x 8 1 then s1.endDiagTests 3 .ok
      else s1.modDiag (fun d => { d with run := some { r with asking := false } })

/-- QUIET_ACK_TIMEOUT: no granted answer within 2 ms (R270 step 4). -/
def execQuietAckTimeout (s : State) : Host.Outcome State Fault Refusal :=
  .next (match s.diag.run with | some r => if r.asking then s.endDiagTests 3 .ok else s | none => s)

/-- QUIET_DURATION_EXPIRY: the silence granted to the partner ends and shed fill resumes (R270). -/
def execQuietDurationExpiry (s : State) : Host.Outcome State Fault Refusal := .next (s.modDiag (fun d => { d with quietUntil := none }))

/-! ### Objects 0x0400 to 0x0403 (R272 to R275) -/

/-- 0x0400 DIAG_CTL. -/
def State.diagCtlImage (s : State) : List (Nat × Nat) :=
  [(8, s.diag.blocks), (8, s.diag.stepThr), (8, s.diag.endThr), (8, 0), (10, s.diag.range), (22, 0)]

/-- A DIAG_CTL that may be stored. -/
def diagCtlOk (v : Nat) : Bool :=
  16 ≤ bitsAt v 0 8 && 3 ≤ bitsAt v 8 8 && bitsAt v 8 8 ≤ 100 && 64 ≤ bitsAt v 16 8 && bitsAt v 16 8 ≤ 250 && bitsAt v 8 8 < bitsAt v 16 8 &&
    bitsAt v 24 8 = 0 && 10 ≤ bitsAt v 32 10 && bitsAt v 32 10 ≤ 1000 && v / 2 ^ 42 = 0

/-- Store DIAG_CTL. -/
def State.storeDiagCtl (s : State) (v : Nat) : State :=
  s.modDiag (fun d => { d with blocks := bitsAt v 0 8, stepThr := bitsAt v 8 8, endThr := bitsAt v 16 8, range := bitsAt v 32 10 })

/-- A finding entry (Table 8-7). -/
def Finding.image (f : Finding) : List (Nat × Nat) := [(16, f.dist), (16, ofInt 16 f.gamma), (16, f.z), (4, f.kind), (12, 0)]

/-- 0x0402 TDR_FIND. -/
def State.tdrFindImage (s : State) : List (Nat × Nat) :=
  s.diag.find.toList.flatMap (fun t =>
    [(4, t.finds.length), (1, b2n t.more), (2, t.ending), (1, 0), (16, t.length), (40, 0)] ++ t.rl.map (fun x => (16, x)) ++
      t.finds.flatMap Finding.image ++ [(64 * (8 - t.finds.length), 0), (64, 0)])

/-- 0x0403 NEXT_MAP. -/
def State.nextMapImage (s : State) : List (Nat × Nat) :=
  [(6, s.diag.crossShort.toNat), (58, 0)] ++ s.diag.nextMap.flatMap (fun r => r.map (fun x => (16, x)))

end Sys2Proof.Machine
end

