-- ==== Sys2Proof/Machine/FlowCmd.lean ====
section
/-! DEFINITION. FLOW_CREATE, FLOW_MODIFY and FLOW_DESTROY, and the Keyway objects (R349 to R353, R360, R377). -/

namespace Sys2Proof.Machine

/-- The rule of a flow context (Table 11-3). -/
def contextRule (c : List Byte) : FlowRule :=
  { matchBits := BitVec.ofNat 4 (leAt c 10 1), da := c.take 6, vid := leAt c 6 2 % 4096, ethertype := leAt c 8 2, sci := (c.drop 12).take 8 }

/-- WARD_ASSOC of a flow context. -/
def contextAssoc (c : List Byte) : List Byte := (c.drop 24).take 32

/-- Reserved bytes of a context are 0, and so is every field that MATCH does not name (R360). -/
def contextOk (c : List Byte) : Bool :=
  let m := leAt c 10 1
  leAt c 7 1 < 16 && m < 16 && leAt c 11 1 = 0 && leAt c 20 4 = 0 && leAt c 56 8 = 0 &&
    (bitAt m 0 || leAt c 0 6 = 0) && (bitAt m 1 || leAt c 6 2 = 0) && (bitAt m 2 || leAt c 8 2 = 0) && (bitAt m 3 || leAt c 12 8 = 0)

/-- An association that R377 admits for a flow with a rule. -/
def State.assocOk (s : State) (f : Nat) (r : FlowRule) (a : List Byte) : Bool :=
  assocNone a ||
    (bitAt (leAt a 16 1) 0 && leAt a 16 1 < 8 && (assocValidate a = 1 || assocValidate a = 2) && leAt a 18 2 = 0 &&
      assocReplay a ≤ 2 ^ 30 && (f = 0 || (r.matchBits.getLsbD 3 && r.sci = assocRxSci a)) &&
      s.flows.all (fun e => e.1 = f || !e.2.exist ||
        !((e.2.rule.matchBits.getLsbD 3 && e.2.rule.sci = assocRxSci a) || (!assocNone e.2.assoc && assocRxSci e.2.assoc = assocRxSci a))))

/-- FLOW of a flow command: FLOW_INVALID for 1,000 to 1,023, RANGE at the same position above (R360). -/
def flowNumberChecks (f : Nat) : List (Bool × Status) := [(1000 ≤ f && f < 1024, .flowInvalid), (f ≥ 1024, .range)]

/-- The association of a context meets Ward: absent (R350), or approved mode without strict validation (R375). -/
def State.assocChecks (s : State) (a : List Byte) : List (Bool × Status) :=
  [(!assocNone a && !s.fuse.part.ward, .unitAbsent), (!s.ready .keyway, .notReady),
   (s.wardApproved && !assocNone a && assocValidate a ≠ 2, .approvedMode)]

/-- FLOW_CREATE (R350, R360). -/
def execFlowCreate (tag : BitVec 16) (s : State) : Host.Outcome State Fault Refusal :=
  .next <| s.runRequest tag 0x60 fun q s =>
    let f := q.cap.arg 28 2
    let c := fitBytes 64 q.cap.payload
    let r := contextRule c
    let a := contextAssoc c
    s.guarded q (([(q.cap.len ≠ 64, .lenRange)] : Checks) ++ flowNumberChecks f ++ s.assocChecks a ++
      [(!q.cap.fieldsOk [(28, 2)] || f = 0 || (s.flow f).exist || !contextOk c || r.matchBits = 0 || !s.assocOk f r a, .range)]) []
      fun s =>
        let g := ((s.flow f).gen + 1) % 2 ^ 32
        (s.modFlow f (fun _ => { exist := true, rule := r, assoc := a, gen := g })).finish q .ok [(32, g)] []

/-- The new association keeps the flow's SA slots: TX_SCI, RX_SCI, SC and CONF are unchanged (R378). -/
def keepsSlots (old new : List Byte) : Bool :=
  assocTxSci old = assocTxSci new && assocRxSci old = assocRxSci new && assocSc old = assocSc new && assocConf old = assocConf new
    && assocNone old = assocNone new

/-- Erase a flow's SA slots at a switch (R378); an erasure of keys sets FP_EVENT.WARD. -/
def State.dropKeys (s : State) (f : Nat) : State :=
  if (s.slot f 0).state = 0 && (s.slot f 1).state = 0 then s else (s.eraseSlots f).raiseEvent evWard

/-- FLOW_MODIFY: the new context is switched in for both directions; generation G + 1 (R350, R360, R378). -/
def execFlowModify (tag : BitVec 16) (s : State) : Host.Outcome State Fault Refusal :=
  .next <| s.runRequest tag 0x61 fun q s =>
    let f := q.cap.arg 28 2
    let c := fitBytes 64 q.cap.payload
    let r := contextRule c
    let a := contextAssoc c
    s.guarded q (([(q.cap.len ≠ 64, .lenRange)] : Checks) ++ flowNumberChecks f ++ [(!(s.flow f).exist, .flowInvalid)] ++ s.assocChecks a ++
      [(!q.cap.fieldsOk [(28, 2), (32, 4)] || !contextOk c || (r.matchBits = 0) ≠ (f = 0) || !s.assocOk f r a, .range),
       (q.cap.arg 32 4 ≠ (s.flow f).gen, .genConflict)]) []
      fun s =>
        let g := ((s.flow f).gen + 1) % 2 ^ 32
        let s1 := if keepsSlots (s.flow f).assoc a then s else s.dropKeys f
        (s1.modFlow f (fun fl => { fl with rule := r, assoc := a, gen := g })).finish q .ok [(32, g)] []

/-- Discard the held frames of a destroyed flow (R301). -/
def State.dropHeld (s : State) (f : Nat) : State :=
  let n := (s.kw.hold.filter (fun h => h.flow = f)).length
  State.modStats { s with
    kw := { s.kw with hold := s.kw.hold.filter (fun h => h.flow ≠ f) }
    pwr := { s.pwr with rxDropFrames := satAdd 32 s.pwr.rxDropFrames n } } f (fun t => { t with rxDropRing := satAdd 32 t.rxDropRing n })

/-- FLOW_DESTROY: no later frame is classified to the flow; its state and statistics keep their values (R350, R378). -/
def execFlowDestroy (tag : BitVec 16) (s : State) : Host.Outcome State Fault Refusal :=
  .next <| s.runRequest tag 0x62 fun q s =>
    let f := q.cap.arg 28 2
    s.guarded q (([(q.cap.len ≠ 0, .lenRange)] : Checks) ++ flowNumberChecks f ++ [(f ≠ 0 && !(s.flow f).exist, .flowInvalid),
      (!s.ready .keyway, .notReady), (!q.cap.fieldsOk [(28, 2), (32, 4)] || f = 0, .range),
      (q.cap.arg 32 4 ≠ (s.flow f).gen, .genConflict)]) []
      fun s => ((s.dropKeys f).dropHeld f).modFlow f (fun fl => { fl with exist := false }) |>.finish q .ok [] []

/-! ### Objects (R351 to R353) -/

/-- Object 0x0600 KW_STATUS. -/
def State.kwStatusImage (s : State) : List (Nat × Nat) :=
  let k := s.kw.status
  [(4, k.width), (2, k.speed), (1, b2n k.linkUp), (1, b2n k.cacheEn), (1, b2n k.ideIo), (1, b2n k.ideCache), (1, b2n k.l1En), (5, 0),
   (16, k.l1Entries), (16, k.retrains), (16, 0)]

/-- Object 0x0601 KW_COUNTERS. -/
def State.kwCountersImage (s : State) : List (Nat × Nat) :=
  let c := s.kw.cnt
  [c.capsIn, c.capsOut, c.refOpcode, c.refLen, c.refSpan, c.refFlow, c.refOther, c.ringFaults, c.windowFaults, c.dbBad, c.rxNospace,
   c.rxDropRing, c.rxOverflow, c.rxDiscard, c.doneLost, c.capPeak].map (fun n => (32, n))

/-- Object 0x0610 FLOW_STATE. -/
def State.flowStateImage (s : State) (f : Nat) : List (Nat × Nat) :=
  let x := s.flow f
  [(1, b2n x.exist), (1, b2n (!assocNone x.assoc)), (1, b2n (f = 0)), (1, b2n (s.kw.hold.any (fun h => h.flow = f))), (4, 0),
   (4, x.rule.matchBits.toNat), (4, 0), (16, (s.kw.txBuf.filter (fun t => t.ring = f)).length), (32, x.gen)]

/-- Object 0x0611 FLOW_STATS. -/
def State.flowStatsImage (s : State) (f : Nat) : List (Nat × Nat) :=
  let t := (s.flow f).stats
  [(64, t.txBytes), (64, t.rxBytes), (32, t.txFrames), (32, t.rxFrames), (32, t.txCapsules), (32, t.rxCapsules), (32, t.rxNospace),
   (32, t.rxDropRing), (32, t.rxDiscard), (16, t.refused), (16, t.dbBad), (16, t.txDiscard), (16, t.ringFaults), (96, 0)]

/-- RING_STATUS of a ring (Table 10-11). -/
def State.ringStatus (s : State) (i : Nat) : Nat :=
  let r := s.ring i
  packNat [(1, b2n r.running), (1, b2n r.halted), (1, b2n r.resetting), (1, b2n (s.ehActive i)),
    (1, b2n (s.kw.hold.any (fun h => h.flow = i))), (3, 0), (4, r.fault)]

end Sys2Proof.Machine
end

