-- ==== Sys2Proof/Machine/Gates.lean ====
section
/-! DEFINITION. Clock gates: the close handshake, reopening, the host's GATE_CTL, and the objects 0x0503 and 0x0504 (09_clocks R295 to R297, R309, R310). -/

namespace Sys2Proof.Machine

/-- Change the gates. -/
def State.modGate (s : State) (f : Gates → Gates) : State := { s with gate := f s.gate }

/-- The unit of a gate is there (R1, R9). -/
def State.gatePresent (s : State) (g : Nat) : Bool :=
  if g < 96 then decide (g < s.fuse.part.engines)
  else if g = 101 then s.fuse.part.ward
  else if g = 102 then s.fuse.part.diag
  else if g = 103 then s.fuse.part.legacyWake
  else decide (g < 106)

/-- GATE_CLOSE_REQUEST: the gate controller asks a unit to go idle (R295 step 1). -/
def execGateCloseRequest (g : Nat) (s : State) : Host.Outcome State Fault Refusal :=
  .next (if s.heldReset || !s.gatePresent g then s else (s.modEngine g (fun e => { e with gateRefused := false })).modGate (·.ask g))

/-- A GATE_CTL write ends once none of its gates is left to close (R297). -/
def State.hostGatesDone (s : State) : State :=
  if s.gate.hostAsked ≠ 0 && (List.range 3).all (fun i => !(s.gate.hostAsked.getLsbD i && s.gate.asked.getLsbD (102 + i))) then
    State.endRun (s.modGate (fun t => { t with hostAsked := 0, hostRefused := false })) 0x43 (fun c => c.arg 28 2 = 0x0503)
      (if s.gate.hostRefused then .gateRefused else .ok) []
  else s

/-- An engine finds every slot of the active bank skipped in this period (R138). -/
def State.slotsSkipped (s : State) (e : Nat) : Bool := (slotsOf s.eng.active e).all (fun x => s.slotSkipped x.2)

/-- The unit has an access or a run in flight, so that it does not acknowledge (R295, R297): an engine with a slot to run, the receive chain while a link trains or
carries data. -/
def State.unitBusy (s : State) (g : Nat) : Bool :=
  if s.pwr.state = .dormant then g = 102 && s.diag.run.isSome || g = 104 && (s.bist.run.isSome || s.bist.startup)
  else if g < 96 then s.hasSlots g && !s.slotsSkipped g
  else if g ≤ 100 then 3 ≤ s.link.state && !s.gateDue g
  else if g = 102 then s.diag.run.isSome else if g = 103 then s.inT40Idle && s.ql.run.rxState ≠ 0 else if g = 104 then s.bist.run.isSome || s.bist.startup else false

/-- GATE_IDLE_ACK: the unit acknowledges and its gate closes (R295 steps 2 and 3). -/
def execGateIdleAck (g : Nat) (s : State) : Host.Outcome State Fault Refusal :=
  .next <|
    if 106 ≤ g || !s.gate.asked.getLsbD g || s.unitBusy g then s
    else (s.modGate (fun t => { t with
      asked := t.asked &&& ~~~(BitVec.twoPow 106 g), closed := t.closed ||| BitVec.twoPow 106 g, closes := inc 32 t.closes })).hostGatesDone

/-- GATE_CLOSE_REFUSED: no acknowledgement within 1,024 FCLK cycles; the request is withdrawn and logged (R295), but where it was the gating of one period of an engine
with slots; an engine without slots runs on idle, its gate refused (R138, R147). -/
def execGateCloseRefused (g : Nat) (s : State) : Host.Outcome State Fault Refusal :=
  .next <|
    if 106 ≤ g || !s.gate.asked.getLsbD g then s
    else
      let host := 102 ≤ g && s.gate.hostAsked.getLsbD (g - 102)
      let s1 := s.modGate (fun t => { t with
        asked := t.asked &&& ~~~(BitVec.twoPow 106 g), refusals := inc 16 t.refusals, lastRefused := g
        ctl := if host then t.ctl &&& ~~~(BitVec.twoPow 3 (g - 102)) else t.ctl, hostRefused := t.hostRefused || host })
      if g < 96 && s.hasSlots g then s1
      else ((s1.modEngine g (fun e => { e with gateRefused := true })).logEntry unitClock 3 kindFault 0 0x04 g Status.gateRefused.code).hostGatesDone

/-- GATE_REOPEN: an access held against a closed gate, or the controller, opens it (R296); a gate that the host holds closed has no access. -/
def execGateReopen (g : Nat) (access : Bool) (s : State) : Host.Outcome State Fault Refusal :=
  .next <|
    if 106 ≤ g || !s.gate.closed.getLsbD g || (102 ≤ g && s.gate.hostClosed (g - 102)) then s
    else s.modGate (fun t => { t with closed := t.closed &&& ~~~(BitVec.twoPow 106 g), wakes := if access then inc 32 t.wakes else t.wakes })

/-! ### Objects 0x0503 and 0x0504 -/

/-- 0x0503 GATE_CTL. -/
def State.gateCtlImage (s : State) : List (Nat × Nat) := [(3, s.gate.ctl.toNat), (61, 0)]

/-- A bit names an absent unit (R297). -/
def State.gateCtlAbsent (s : State) (v : Nat) : Bool := (bitAt v 0 && !s.fuse.part.diag) || (bitAt v 1 && !s.fuse.part.legacyWake)

/-- A bit closes a gate of a unit under self-test (R297). -/
def State.gateCtlTested (s : State) (v : Nat) : Bool :=
  (List.range 3).any (fun i => bitAt v i && !s.gate.ctl.getLsbD i && (s.fullTest || (i = 2 && s.bist.run.isSome)))

/-- Store GATE_CTL: gates it opens open, gates it closes are asked; the write ends when they have answered (R297). -/
def State.storeGateCtl (s : State) (q : Request) (v : Nat) : State :=
  let new : BitVec 3 := BitVec.ofNat 3 (v % 8)
  let open' := (List.range 3).filter (fun i => s.gate.ctl.getLsbD i && !new.getLsbD i)
  let close := (List.range 3).filter (fun i => new.getLsbD i && !s.gate.closed.getLsbD (102 + i))
  let s1 := s.modGate (fun t =>
    let t1 : Gates := { t with
      ctl := new, hostRefused := false
      closed := open'.foldl (fun b i => b &&& ~~~(BitVec.twoPow 106 (102 + i))) t.closed
      asked := open'.foldl (fun b i => b &&& ~~~(BitVec.twoPow 106 (102 + i))) t.asked
      hostAsked := close.foldl (fun b i => b ||| BitVec.twoPow 3 i) 0 }
    close.foldl (fun t i => t.ask (102 + i)) t1)
  if close = [] then s1.finish q .ok [] [] else s1.startRun q

/-- 0x0504 GATE_STATUS. -/
def State.gateStatusImage (s : State) : List (Nat × Nat) :=
  let g := s.gate
  [(106, g.closed.toNat), (22, 0), (32, g.closes), (32, g.wakes), (16, g.refusals), (8, g.lastRefused), (40, 0)]

end Sys2Proof.Machine
end

