-- ==== Sys2Proof/Machine/Resets.lean ====
section
/-! DEFINITION. Resets, rails and supply loss (09_clocks_and_resets R298 to R305, R311; 13 R415, R432, R433; 14 R448, R449, R455 to R458). -/

namespace Sys2Proof.Machine

/-! ### What each reset keeps -/

/-- The link at reset: LINK_CTL by the part, the ladder at its top (R179, R189). -/
def resetLink (p : Part) : Link :=
  let c : LinkCtl := { rungEn := p.rungMask, cap := p.top }
  { ctl := c, used := c, ladderPos := p.top }

/-- One direction of the die link at reset: CRCFAIL counts since power-on (Table 1-8). -/
def DlDir.keep (d : DlDir) : DlDir := { lanes := resetLanes.zipIdx.map (fun x => { x.1 with crcFail := (d.lanes.getD x.2 {}).crcFail }) }

/-- What Benash keeps through a warm or core reset: readings and counts since power-on, alarms (R418), the trial of an image, and the
entries of the hardware queue. -/
def Benash.keep (b : Benash) : Benash :=
  { runB := b.runB, trial := b.trial, restarts := b.restarts, watchdogs := b.watchdogs, nvmCe := b.nvmCe, sramCe := b.sramCe, tempMax := b.tempMax
    aging := b.aging, suppressed := b.suppressed, lost := b.lost, lostNew := b.lostNew, critical := b.critical, queue := b.queue }

/-- The units that power-on, warm and core reset alike put back to their reset state, what counts since power-on apart (R298). -/
def State.clearUnits (s : State) : State :=
  { s with
    flows := [(0, { exist := true, gen := 1 })]
    cyo := {}
    ben := s.ben.keep
    bist := { runs := s.bist.runs, fails := s.bist.fails }
    page := {}
    ward := {}
    spdm := {}
    dl := { outb := s.dl.outb.keep, inb := s.dl.inb.keep, searches := s.dl.searches, substs := s.dl.substs }
    link := resetLink s.fuse.part
    lc := {}
    rx := {}
    eng := {}
    ql := {}
    cal := {}
    kn := {}
    diag := {}
    mon := {} }

/-- The units under power-on reset: everything but the fuses, non-volatile memory, what Hasp keeps there (Table 12-13), and the levels
on the board's balls and rails. -/
def State.powerOff (s : State) : State :=
  { fuse := s.fuse, nvm := { s.nvm with scrubAt := 0 }, out := s.out, pending := s.pending, draws := s.draws
    ben := { runB := s.ben.runB, trial := s.ben.trial }
    hasp := { latched := s.hasp.latched, meshBroken := s.hasp.meshBroken }
    link := resetLink s.fuse.part
    pwr := { perst := s.pwr.perst, railLow := s.pwr.railLow, lcHold := s.pwr.lcHold, trst := s.pwr.trst } }

/-- The units under warm reset: everything outside the always-on domain (R298, R311, R318, R319). -/
def State.warmClear (s : State) (cause : Nat) : State :=
  let t := s.clearUnits
  { t with
    fp := { resetCause := cause }
    kw := {}
    clk := { mon := s.clk.mon.map (fun m => { worst := m.worst }) }
    gate := {}
    pwr := { porHeld := false, warmHeld := true, perst := s.pwr.perst, perstSince := s.pwr.perstSince, cxlHeld := s.pwr.cxlHeld, railLow := s.pwr.railLow
             bootSel := s.pwr.bootSel, smbAddr := s.pwr.smbAddr, lcHold := s.pwr.lcHold, trst := s.pwr.trst, cause := cause, persts := s.pwr.persts } }

/-- The units under core reset: both dies but the clock unit, Hasp, the fuses and Keyway's CXL side (R298, R302, R311). -/
def State.coreClear (s : State) (cause : Nat) : State :=
  let t := s.clearUnits
  { t with
    fp := { nme := s.fp.nme, nmeCnt := s.fp.nmeCnt, msix := s.fp.msix, resetRefused := s.fp.resetRefused, resetCause := cause }
    kw := { status := s.kw.status }
    ward := { ideKeys := s.ward.ideKeys }
    gate := { closes := s.gate.closes, wakes := s.gate.wakes, refusals := s.gate.refusals, lastRefused := s.gate.lastRefused }
    pwr := { s.pwr with
      coreSince := some s.time, kwUp := false, afterCore := true, state := .active, dormExit := false, dormAdmin := false, dormAuto := false, dormIdle := 10
      led1 := false, led1Off := false, traffic := false, cause := cause, benashRestarts := 0 } }

/-! ### The start that follows (R415, R432, R433) -/

/-- The shut-down record is valid at the start with the new boot count (R433). -/
def State.recordValid (s : State) : Bool :=
  match s.nvm.sd with
  | none => false
  | some r =>
    let x := if r.slotB then s.nvm.slotB else s.nvm.slotA
    r.armed && r.result = 0 && (r.boot + 1) % 2 ^ 32 = s.nvm.boots && s.bootSlot = some r.slotB && x.fwver = r.fwver && r.tamperCount = s.nvm.tamperCount

/-- The factory trim is loaded; with neither copy good a critical entry is made instead (R225, R226). -/
def State.trimStart (s : State) : State :=
  if s.nvm.trim1Good || s.nvm.trim2Good then s.loadTrim else s.logEntry unitCal 4 kindFault 1 0xFF

/-- The boot count rises, the start-up test begins, the record is consumed, and the engines get the programs of the slot that boots. -/
def State.startUp (s : State) : State :=
  let s1 : State := { s with nvm := { s.nvm with boots := (s.nvm.boots + 1) % 2 ^ 32 } }
  let valid := s1.recordValid
  let x := match s1.bootSlot with | some b => if b then s1.nvm.slotB else s1.nvm.slotA | none => s1.runSlot
  State.trimStart { s1 with
    nvm := { s1.nvm with sd := s1.nvm.sd.map (fun r => { r with used := true }) }
    ben := { s1.ben with sdUsed := valid, startFull := !valid, progver := x.progver, progverOld := x.progver, progLayout := x.layout }
    bist := { s1.bist with startup := true, startupSince := s1.time } }

/-! ### Power-on and warm reset -/

/-- POWER_ON_RESET_ASSERT: VDD_AUX or VDD_CORE below its POR threshold (R298, R456). -/
def execPowerOnResetAssert (s : State) : Host.Outcome State Fault Refusal := .next s.powerOff

/-- POWER_ON_RESET: the release, with the straps read: BOOT_SEL, the SMBus address bits and LC_HOLD (R448, R455). Device time starts at 0,
HASP_CFG is loaded, Hasp's power-up check is made (R398, R404), and TAMP_OUT takes a new pattern (R403). -/
def execPowerOnReset (bootSel : Bool) (smbAddr : BitVec 2) (lcHold : Bool) (s : State) : Host.Outcome State Fault Refusal :=
  .next <|
    if !s.pwr.porHeld || s.pwr.railLow.getLsbD 4 then s
    else
      let s1 : State := { s with
        pwr := { s.pwr with porHeld := false, bootSel := bootSel, smbAddr := smbAddr.toNat, lcHold := lcHold }
        hasp := { s.hasp with cfg := s.nvm.haspCfg, armed := true, tripped := 0, tampOut := freeTampOut s.draws }
        link := resetLink s.fuse.part
        time := 0
        porNs := 0 }
      let s2 := s1.drawn.startUp
      if s2.hasp.meshBroken then s2.tripSensor 0 else s2

/-- A warm reset begins. -/
def State.warmStart (s : State) (cause : Nat) : State := s.warmClear cause

/-- A warm reset ends: the straps are read and device time starts at 0 (R320, R448). -/
def State.warmEnd (s : State) (bootSel : Bool) (smbAddr : BitVec 2) : State :=
  State.startUp { s with
    time := 0
    pwr := { s.pwr with warmHeld := false, bootSel := bootSel, smbAddr := smbAddr.toNat } }

/-- A warm reset in one step, the straps being tied on the board (R448). -/
def State.warmReset (s : State) (cause : Nat) : State := (s.warmStart cause).warmEnd s.pwr.bootSel (BitVec.ofNat 2 s.pwr.smbAddr)

/-- RESET_PIN: RESET# has been low for some time, or rises with the strap levels given. 1 µs or more starts a warm reset, below 100 ns has
no effect, and between them it may (R449); with VDD_IO low it reads high (R457). -/
def execResetPin (e : ResetLevel) (s : State) : Host.Outcome State Fault Refusal :=
  .next <|
    if s.pwr.porHeld then s
    else match e with
    | .low ns =>
      if s.pwr.warmHeld || s.pwr.railLow.getLsbD 4 || ns < 100 then s
      else if 1000 ≤ ns then s.warmStart 1
      else if freeResetPulse s.draws then s.drawn.warmStart 1 else s.drawn
    | .high b a => if s.pwr.warmHeld then s.warmEnd b a else s

/-! ### Core reset (R302, R303) -/

/-- A core reset begins at once; a reset as wide or wider in progress absorbs it (R300). -/
def State.coreReset (s : State) (cause : Nat) : State := if s.heldReset then s else (s.coreClear cause).startUp

/-- CORE_RESET_RELEASE: at most 1 ms after its start. -/
def execCoreResetRelease (s : State) : Host.Outcome State Fault Refusal :=
  .next (if s.pwr.coreSince.isSome && !s.pwr.porHeld && !s.pwr.warmHeld then (s.modPwr (fun p => { p with coreSince := none })).keywayRise else s)

/-- ESCALATION: a Benash restart that has not ended within 250 ms, or the third within 10 minutes, becomes a core reset; a trial image has
failed (R303, R319, R427). -/
def execEscalation (s : State) : Host.Outcome State Fault Refusal :=
  .next <|
    if s.heldReset || s.ben.restartSince.isNone then s
    else ((((s.raiseNme nmeEscalation).coreClear 4).failTrial).startUp)

/-! ### FP_RESET (R299) -/

/-- FP_RESET answers: its CXL side is out of reset; it does not wait for Benash or the end of a core reset (R22, R302). -/
def State.fpResetLive (s : State) : Bool := !s.pwr.porHeld && !s.pwr.warmHeld && !s.pwr.perst && !s.pwr.cxlHeld

/-- A write of FP_RESET. -/
def State.writeFpReset (s : State) (v : BitVec 32) : State :=
  let core := v.getLsbD 0
  let warm := v.getLsbD 1
  let ben := v.getLsbD 2
  let s1 := s.setFp (fun f => { f with resetRefused := f.resetRefused && !v.getLsbD 16 })
  if !s.fpResetLive then s
  else if !core && !warm && !ben then s1
  else if bitsAt v.toNat 8 8 ≠ 0xC5 || b2n core + b2n warm + b2n ben ≠ 1 then s.setFp (fun f => { f with resetRefused := true })
  else if core then s1.coreReset 3
  else if warm then s1.warmReset 2
  else if s1.heldReset || s1.ben.restartSince.isSome || !s1.ben.up then s1
  else s1.startRestart

/-- FP_RESET_CORE: a write of FP_RESET with CORE at 1. -/
def execFpResetCore (v : BitVec 32) (s : State) : Host.Outcome State Fault Refusal := .next (if v.getLsbD 0 then s.writeFpReset v else s)

/-- FP_RESET_WARM: a write of FP_RESET with WARM at 1. -/
def execFpResetWarm (v : BitVec 32) (s : State) : Host.Outcome State Fault Refusal := .next (if v.getLsbD 1 then s.writeFpReset v else s)

/-- FP_RESET_BENASH: a write of FP_RESET with BENASH at 1. -/
def execFpResetBenash (v : BitVec 32) (s : State) : Host.Outcome State Fault Refusal := .next (if v.getLsbD 2 then s.writeFpReset v else s)

/-! ### Unit reset (R304) -/

/-- The frames of which a part is in the framer's stream are lost. -/
def State.dropStream (s : State) : State :=
  let s1 := s.lc.run.leaving.foldl (fun st x =>
    match x.frame with
    | some f => st.modRing f.ring (fun r => { r with inflight := modFirst r.inflight (fun y => { y with left := y.left - 1, failed := true }) })
    | none => st) s
  s1.modRun (fun r => { r with stream := [], leaving := [] })

/-- UNIT_RESET: Benash resets a unit, numbered as its gate (R310). One that does not acknowledge within 1,024 FCLK cycles is reset
regardless, with a log entry. The framer and deframer lose what they hold; a run in the diagnostics unit ends. -/
def execUnitReset (u : Nat) (acked : Bool) (s : State) : Host.Outcome State Fault Refusal :=
  .next <|
    if s.heldReset || !s.ben.up || 106 ≤ u then s
    else
      let absent := (u = 101 && !s.fuse.part.ward) || (u = 102 && !s.fuse.part.diag) || (u = 103 && !s.fuse.part.legacyWake) || (u < 96 && s.fuse.part.engines ≤ u)
      let s1 := if acked || absent then s else s.logEntry unitClock 3 kindFault 5 0x04 u Status.gateRefused.code
      if u = 100 then (s1.dropItem.dropStream).modRun (fun r => { r with tag := [], search := true })
      else if u = 102 then s1.interruptDiagRun
      else s1

/-! ### PERST# (R301) -/

/-- The records of a RECV_MULTI payload: frame, RXINFO, timestamp offset. -/
def splitMulti : Nat → List Byte → List (List Byte × Nat × Nat)
  | 0, _ => []
  | n + 1, bs =>
    let flen := leAt bs 0 2
    ((bs.drop 8).take flen, leAt bs 2 1, leAt bs 4 4) :: splitMulti n (bs.drop (recordLen flen))

/-- A received frame goes back to the hold buffer, as its flow had classified it. -/
def heldOf (gen info sci stamp : Nat) (flow : Nat) (bs : List (Option Byte)) : RxFrame :=
  { bytes := bs, stamp := stamp, good := true, cls := some { flow := flow, gen := gen, byDefault := bitAt info 1, early := none }
    warded := true, isProtected := bitAt info 0, sci := sci }

/-- The frames of a RECV or RECV_MULTI that the host has not had. -/
def Completion.heldFrames (c : Completion) : List RxFrame :=
  let gen := leAt c.args 0 4
  let sci := leAt c.args 8 8
  let t := c.stamp.getD 0
  if c.opcode = 0x81 then (if c.ready && c.status = .ok then [heldOf gen (leAt c.args 4 1) sci t c.flow c.payload] else [])
  else if c.opcode = 0x82 then
    (splitMulti (c.fcount + 1) (c.payload.map (·.getD 0))).map (fun x => heldOf gen x.2.1 sci (t + x.2.2) c.flow (x.1.map some))
  else []

/-- The frames of an open RECV_MULTI. -/
def OpenMulti.heldFrames (m : OpenMulti) (flow : Nat) : List RxFrame := m.frames.map (fun f => heldOf m.gen f.2.1 m.sci f.2.2 flow (f.1.map some))

/-- A completion is a SEND_DONE or a notice. -/
def Completion.isNotice (c : Completion) : Bool := c.opcode = 0x83 || c.opcode = 0x8F

/-- What PERST# does to a flow ring: frames not observed move to the hold buffer, SEND_DONEs and notices owed are given up, frames already
fetched stay to be sent, and the registers are cleared. -/
def State.perstRing (s : State) (i : Nat) : State :=
  let r := s.ring i
  let cs := r.written ++ r.placed
  let owed := (cs.filter Completion.isNotice).length + (r.inflight.filter (·.doneReq)).length
    + (r.accepted.filter (fun a => a.cap.doneReq || a.cap.opcode = 3)).length + b2n r.noticeDue
  let fs := cs.flatMap Completion.heldFrames ++ (match r.multi with | some m => m.heldFrames i | none => [])
  let keep : Ring := { accepted := r.accepted.filter (fun a => a.cap.opcode ≠ 3), inflight := r.inflight.map (fun f => { f with doneReq := false }) }
  fs.foldl (fun st x => st.holdFrame i x) ((s.modRing i (fun _ => keep)).doneLost owed)

/-- Control completions placed and not observed are lost: each is counted and logged with its TAG. -/
def State.perstControl (s : State) : State :=
  let r := s.ring controlRing
  let cs := (r.written ++ r.placed).filter (fun c => 0xC0 ≤ c.opcode)
  let s1 := (s.modRing controlRing (fun _ => {})).doneLost (((r.written ++ r.placed).filter Completion.isNotice).length + r.accepted.length + r.inflight.length)
  cs.foldl (fun st c => State.logEntry { st with pwr := { st.pwr with ctrlLost := inc 16 st.pwr.ctrlLost } } unitBenash 1 kindCommand 0 0x05
    (c.opcode - 0x80 + 65536 * c.tag) c.status.code (leAt c.args 0 4) (leAt c.args 4 4)) s1

/-- Keyway's CXL side is reset (R301): `fetching` names the flow rings whose head capsule is half fetched. -/
def State.cxlReset (s : State) (fetching : List Nat) : State :=
  let n := ((List.range 1000).filter (fun i => fetching.contains i && (s.ring i).running && 64 ≤ ((s.ring i).sqTail - (s.ring i).sqHead).toNat)).length
  let s1 : State := { s with
    flows := smap {} s.flows (fun _ f => if f.exist then { f with heldOver := true } else f)
    cyo := { s.cyo with
      inbox := s.cyo.inbox.map (fun q => { q with fate := .perst })
      running := s.cyo.running.map (fun q => { q with fate := .perst })
      held := s.cyo.held.map (fun q => { q with fate := .perst })
      ended := s.cyo.ended.map (fun e => ({ e.1 with fate := .perst }, e.2)) } }
  let s2 := (((s1.kw.rings.map (·.1)).filter (· < 1000)).foldl (fun st i => st.perstRing i) s1).perstControl
  let s3 := s2.endSessions
  { s3 with
    fp := { nme := s3.fp.nme, nmeCnt := s3.fp.nmeCnt, resetRefused := s3.fp.resetRefused, resetCause := s3.fp.resetCause }
    kw := { s3.kw with status := {}, stagingUsed := 0 }
    ward := { s3.ward with ideKeys := false }
    page := { s3.page with seq := 0, busy := false }
    pwr := { s3.pwr with kwUp := false, perstNote := true, txDiscard := satAdd 32 s3.pwr.txDiscard n } }

/-- PERST_ASSERT: during a power-on or warm reset it is absorbed, and only its level counts (R300, R311). -/
def execPerstAssert (fetching : List Nat) (s : State) : Host.Outcome State Fault Refusal :=
  .next <|
    if s.pwr.perst then s
    else if s.pwr.porHeld || s.pwr.warmHeld then s.modPwr (fun p => { p with perst := true, perstSince := s.time })
    else
      (s.modPwr (fun p => { p with
        perst := true, perstSince := s.time, persts := inc 16 p.persts, perstMs := 0, txDiscard := 0, rxDropFrames := 0, rxHeldFrames := 0, ctrlLost := 0
        heldMaxKib := 0 })).cxlReset fetching

/-- PERST_RELEASE: its duration is recorded and KW_STATUS counts afresh; a CXL rail in range lets the CXL side leave reset (R301, R351, R457). -/
def execPerstRelease (s : State) : Host.Outcome State Fault Refusal :=
  .next <|
    if !s.pwr.perst then s
    else
      let s1 := s.modPwr (fun p => { p with
        perst := false, cxlHeld := p.railLow.getLsbD 2 || p.railLow.getLsbD 3
        perstMs := if s.pwr.porHeld || s.pwr.warmHeld || s.pwr.persts = 0 then p.perstMs else min 0xFFFFFFFF ((s.time - p.perstSince) / 1000000) })
      { s1 with kw := { s1.kw with status := { s1.kw.status with retrains := 0, l1Entries := 0 } } }

/-! ### Rails (R457, R458) -/

/-- The XIN sources are to be judged stable afresh. -/
def State.forgetXin (s : State) : State :=
  s.modClk (fun c => { c with
    stable := c.stable &&& 1
    mon := (c.mon.upd 2 (fun m => { m with goodWin := 0 })).upd 3 (fun m => { m with goodWin := 0 }) })

/-- RAIL_UNDERVOLTAGE: 0 VDD_LINE, 1 VDDA_LINE, 2 VDD_CXL, 3 VDDH_CXL, 4 VDD_IO. -/
def execRailUndervoltage (rail : Nat) (s : State) : Host.Outcome State Fault Refusal :=
  .next <|
    if 5 ≤ rail || s.pwr.railLow.getLsbD rail then s
    else
      let s1 := s.modPwr (fun p => { p with railLow := p.railLow ||| BitVec.twoPow 5 rail })
      if s.pwr.porHeld then s1
      else if rail < 2 then State.dielinkFall { s1 with dl := { s1.dl with
        searching := none, outb := { s1.dl.outb with subst := none, waiting := [], resend := [] }, inb := { s1.dl.inb with subst := none, waiting := [], resend := [] } } }
      else if rail < 4 then (s1.modPwr (fun p => { p with cxlHeld := true })).cxlReset []
      else
        let s2 := (s1.tripSensor 5).tripSensor 6
        if s.pwr.warmHeld then s2.warmEnd s.pwr.bootSel (BitVec.ofNat 2 s.pwr.smbAddr)
        else if s.clk.srcInUse = 1 || s.clk.srcInUse = 2 then s2.holdOver else s2

/-- RAIL_RECOVERY: with both line rails in range the calibration kept in the core die is restored and the alignment search runs; the XIN
sources are monitored afresh. -/
def execRailRecovery (rail : Nat) (s : State) : Host.Outcome State Fault Refusal :=
  .next <|
    if 5 ≤ rail || !s.pwr.railLow.getLsbD rail then s
    else
      let s1 := s.modPwr (fun p => { p with railLow := p.railLow &&& ~~~(BitVec.twoPow 5 rail) })
      if s.heldReset then s1
      else if rail < 2 then (if s1.pwr.railLow &&& 3 = 0 then s1.startSearch else s1)
      else if rail = 4 then s1.forgetXin
      else s1

/-- SUPPLY_LOSS: the volatile items of R401 are cleared; no trip, no latch, the stored keys and the record stay (R458, Table 12-13). -/
def execSupplyLoss (s : State) : Host.Outcome State Fault Refusal :=
  .next <|
    if s.pwr.porHeld then s
    else
      let s1 := s.endSessions
      { s1 with
        ward := { s1.ward.eraseKeys with drbg := false, storageKey := false, ideKeys := false, tested := false }
        kw := { s1.kw with status := { s1.kw.status with ideIo := false, ideCache := false } } }

/-! ### Objects 0x0505 and the level of FP_RESET -/

/-- 0x0505 RESET_LAST (R311). -/
def State.resetLastImage (s : State) : List (Nat × Nat) :=
  let p := s.pwr
  [(4, p.cause), (4, 0), (8, p.benashRestarts), (16, p.persts), (32, p.perstMs), (32, p.txDiscard), (32, p.rxDropFrames), (32, p.rxHeldFrames),
    (16, p.ctrlLost), (16, p.heldMaxKib), (64, 0)]

end Sys2Proof.Machine
end

