-- ==== Sys2Proof/Machine/Mmio.lean ====
section
/-! DEFINITION. Register writes by address: which operation a BAR offset reaches (10_keyway_host_attachment R315 to R317, R325, R327; 00_scope R15 to R18). -/

namespace Sys2Proof.Machine

/-- An MMIO write by BAR, byte offset and width (R15, R18, R315 to R317, R325, R327). Registers with a row of their own are written
through that row's operation; reserved and read-only addresses ignore the write. -/
def State.writeRegister (s : State) (bar off : Nat) (wide : Bool) (v : BitVec 64) : State :=
  if bar = 0 && off = 0xF0 && aligned off wide then s.writeFpReset (v.truncate 32)
  else if !s.fpLive || !aligned off wide then s
  else match bar with
  | 0 =>
    if off = 0x18 && wide then (s.writeEvent (v.truncate 32)).writeEventEn ((v >>> 32).truncate 32)
    else if off = 0x18 then s.writeEvent (v.truncate 32)
    else if off = 0x1C then s.writeEventEn (v.truncate 32)
    else if off = 0x40 then s.writeNme (v.truncate 32)
    else if 0x80 ≤ off && off < 0xA0 then s.writeRingReg controlRing (off - 0x80) wide v
    else if off = 0xC0 && wide then s.writeStateAddr v
    else if off = 0xC0 then s.setFp (fun f => { f with pageEn := v.getLsbD 0, pageAddr := f.pageAddr / 2 ^ 20 * 2 ^ 20 + bitsAt v.toNat 12 20 })
    else if off = 0xC4 then s.setFp (fun f => { f with pageAddr := f.pageAddr % 2 ^ 20 + 2 ^ 20 * (v.toNat % 2 ^ 9) })
    else if 0x400 ≤ off && off < 0x800 then s.writeWindow ((off - 0x400) / 16) (off % 16) wide v
    else if 0x8000 ≤ off && off < 0x8000 + 32 * 1000 then s.writeRingReg ((off - 0x8000) / 32) (off % 32) wide v
    else s
  | 2 =>
    if ringExists (off / 4096) then
      match off % 4096 with
      | 0 => if wide then (s.writeSqTail (off / 4096) (v.truncate 32)).writeCqHead (off / 4096) ((v >>> 32).truncate 32)
        else s.writeSqTail (off / 4096) (v.truncate 32)
      | 4 => s.writeCqHead (off / 4096) (v.truncate 32)
      | 24 => if v.getLsbD 0 then s.resetRing (off / 4096) else s
      | _ => s
    else s
  | 4 => if off < 16 * 1004 then s.writeMsix off wide v else s
  | _ => s

/-- REGISTER_WRITE: any other MMIO write. -/
def execRegisterWrite (bar off : Nat) (wide : Bool) (v : BitVec 64) (s : State) : Host.Outcome State Fault Refusal :=
  .next (s.writeRegister bar off wide v)

end Sys2Proof.Machine
end

