-- ==== Sys2Proof/Machine/Monitor.lean ====
section
/-! DEFINITION. Link monitoring: reports of the partner, the MSE trend, alarms, and the objects 0x0170 and 0x0180 to 0x0186 (08_cable R276 to R283). -/

namespace Sys2Proof.Machine

/-- Change monitoring. -/
def State.modMon (s : State) (f : Monitor → Monitor) : State := { s with mon := f s.mon }

/-! ### FAR_REPORT (R277) -/

/-- Bytes [pos, pos + n) of the state page's last snapshot, whose byte 0 is the page's byte 8. -/
def State.pageAt (s : State) (pos n : Nat) : Nat := leAt s.page.snapshot (pos - 8) n

/-- The body of a FAR_REPORT, bytes 8 to 59, from the last snapshot: MSE_DB, MARGIN, uncorrectable codewords, FRAMES_ERRORED, HDR_FAIL, STALE. -/
def State.farBody (s : State) : List Byte :=
  let q := fun (p off n : Nat) => s.pageAt (0xC0 + 16 * p + off) n
  let four := List.range 4
  packBytes 41 (four.map (fun p => (16, q p 0 2)) ++ four.map (fun p => (16, q p 2 2)) ++
    four.map (fun p => (32, satAdd 32 (s.pageAt (0x100 + 32 * p + 12) 4) (s.pageAt (0x100 + 32 * p + 16) 4))) ++
    [(32, s.pageAt (0x240 + 20) 4), (32, s.pageAt 0x240 4)] ++ four.map (fun p => (1, q p 13 1)))

/-- FAR_REPORT_TIMER: a report every REPORT_MS, but none in Quiet-Latch or while a fast retrain is pending (R277). -/
def execFarReportTimer (s : State) : Host.Outcome State Fault Refusal :=
  .next <|
    if s.ben.up && s.nativeData && s.mon.reportMs ≠ 0 && s.ql.run.txState = 0 && !s.link.frt.want && s.page.snapshot ≠ [] then s.sendOam 1 s.farBody else s

/-- FAR_REPORT received: each record is placed at the local pair whose far pair it describes (R277). -/
def execFarReport (s : State) : Host.Outcome State Fault Refusal :=
  .next <| s.onOam 1 fun x s =>
    s.modMon (fun m => { m with
      farAt := some s.time
      far := m.far.mapIdx (fun q _ =>
        let p := (s.link.map.far.at q).val
        { mse := toInt 16 (leAt x (8 + 2 * p) 2), margin := toInt 16 (leAt x (16 + 2 * p) 2), uncorr := leAt x (24 + 4 * p) 4, stale := bitAt (leAt x 48 1) p }) })

/-- No report has arrived within 4 × REPORT_MS (R282, R283). -/
def State.farLate (s : State) : Bool :=
  match s.mon.farAt with
  | some t => decide (t + 4000000 * s.mon.reportMs < s.time)
  | none => true

/-! ### MSE trend (R280) -/

/-- MIN, MEAN and MAX of an interval's samples. -/
def trendOf : List Int → TrendEntry
  | [] => none
  | x :: t => some (t.foldl min x, roundQuot (t.foldl (· + ·) x) ((t.length : Int) + 1), t.foldl max x)

/-- TREND_INTERVAL: the interval's entry becomes the newest of 64 (R280). -/
def execTrendInterval (s : State) : Host.Outcome State Fault Refusal :=
  .next <| if !s.ben.up then s else s.modMon (fun m => { m with
    trend := m.trend.mapIdx (fun p l => (trendOf (m.samples.at p) :: l).take 64)
    samples := Quad.all [], head := if m.count = 0 then 0 else (m.head + 1) % 64, count := min 64 (m.count + 1) })

/-- The least-squares slope of MEAN over the valid entries of a pair, newest first, in 0.01 dB per interval (R280); none below four. -/
def trendSlope (l : List TrendEntry) : Option Int :=
  let pts : List (Int × Int) := l.zipIdx.filterMap (fun x => x.1.map (fun e => (-(x.2 : Int), e.2.1)))
  let n : Int := pts.length
  let sum := fun (f : Int × Int → Int) => pts.foldl (fun a x => a + f x) 0
  let den := n * sum (fun x => x.1 * x.1) - sum (·.1) * sum (·.1)
  if n < 4 then none else some (clampInt (-32767) 32767 (roundQuot (10 * (n * sum (fun x => x.1 * x.2) - sum (·.1) * sum (·.2))) den))

/-! ### Alarms (R281, R282) -/

/-- METRIC. -/
def Alarm.metric (a : Alarm) : Nat := bitsAt a.cfg.toNat 0 8
/-- PAIRS. -/
def Alarm.pairs (a : Alarm) : Nat := bitsAt a.cfg.toNat 8 4
/-- DIR: alarm below the threshold. -/
def Alarm.below (a : Alarm) : Bool := bitAt a.cfg.toNat 12
/-- EN. -/
def Alarm.en (a : Alarm) : Bool := bitAt a.cfg.toNat 13
/-- THRESHOLD of a level metric. -/
def Alarm.level (a : Alarm) : Int := toInt 16 (bitsAt a.cfg.toNat 16 16)
/-- THRESHOLD of a count metric. -/
def Alarm.count (a : Alarm) : Nat := bitsAt a.cfg.toNat 16 16
/-- WINDOW. -/
def Alarm.window (a : Alarm) : Nat := bitsAt a.cfg.toNat 32 8
/-- HYST. -/
def Alarm.hyst (a : Alarm) : Nat := bitsAt a.cfg.toNat 48 16

/-- Level metrics, per-pair count metrics and link metrics (Table 8-14). -/
def levelMetrics : List Nat := [0x01, 0x02, 0x03]
def pairCounts : List Nat := [0x10, 0x11, 0x12, 0x13]
def linkCounts : List Nat := [0x20, 0x21, 0x22, 0x23, 0x24, 0x25, 0x26, 0x27, 0x28, 0x29, 0x2A]

/-- An entry of ALARM_CFG may be stored (R281); an entry of zeros is one that is not used. -/
def alarmOk (v : Nat) : Bool :=
  let m := bitsAt v 0 8
  let ps := bitsAt v 8 4
  v = 0 || ((levelMetrics ++ pairCounts ++ linkCounts).contains m && (if linkCounts.contains m then ps = 0 else ps ≠ 0) &&
    !(!levelMetrics.contains m && bitAt v 12) && bitsAt v 32 8 ≠ 0 && bitsAt v 14 2 = 0 && bitsAt v 40 8 = 0)

/-- Store ALARM_CFG: entries that change restart (R281). -/
def State.storeAlarms (s : State) (bs : List Byte) : State :=
  s.modMon (fun m => { m with alarms := m.alarms.zipIdx.map (fun x =>
    let v := BitVec.ofNat 64 (leAt bs (8 * x.2) 8)
    if v = x.1.cfg then x.1 else { cfg := v }) })

/-- Value of a level metric at a pair. -/
def State.levelOf (s : State) (m : Nat) (p : Pair) : Int :=
  if m = 1 then (s.rx.pair.at p).mseDb else if m = 2 then s.marginOf p else (s.mon.far.at p).margin

/-- Sources of a count metric, each with its width; a link metric reads the same at every pair. -/
def State.countsOf (s : State) (m : Nat) (p : Pair) : List (Nat × Nat) :=
  let c := (s.rx.pair.at p).cnt
  let w := fun (k n : Nat) => [(k, n)]
  match m with
  | 0x10 => [(32, c.noconv), (32, c.erased)]
  | 0x11 => w 32 c.erasedSeg
  | 0x12 => c.drops.map (fun n => (32, n))
  | 0x13 => w 16 (s.pwr.discharge.at p)
  | 0x20 => w 32 s.lc.cnt.hdrFail
  | 0x21 => w 32 s.lc.cnt.framesErrored
  | 0x22 => w 32 s.lc.cnt.discFcs
  | 0x23 => w 32 s.link.cnt.linkDowns
  | 0x24 => w 32 s.link.cnt.trainFails
  | 0x25 => w 32 s.ql.cnt.falseWakes
  | 0x26 => w 32 s.ql.cnt.captures
  | 0x27 => w 32 s.ql.cnt.refreshMiss
  | 0x28 => (s.dl.outb.lanes ++ s.dl.inb.lanes).map (fun l => (16, l.crcFail))
  | 0x29 => s.eng.store.map (fun b => (16, b.overholds))
  | 0x2A => w 32 s.mon.oamDrop
  | _ => []

/-- Sum of the sources, and whether one is saturated. -/
def sumSources (l : List (Nat × Nat)) : Nat × Bool := (sumNat (l.map (·.2)), l.any (fun x => decide (2 ^ x.1 - 1 ≤ x.2)))

/-- Increase of the sources since they held the values `old`; a saturated source gives 0 (R282). -/
def increase (l : List (Nat × Nat)) (old : List Nat) : Nat :=
  sumNat ((l.zip old).map (fun x => if 2 ^ x.1.1 - 1 ≤ x.1.2 then 0 else x.1.2 - x.2))

/-- Pairs that an alarm looks at: those watched, or one for a link metric. -/
def Alarm.watched (a : Alarm) : List Pair := if linkCounts.contains a.metric then [0] else Sys2Proof.pairs.filter (fun p => bitAt a.pairs p.val)

/-- One snapshot of a level alarm: its runs beyond and inside the threshold (R282), and whether it sets or clears, with the pair. -/
def State.stepLevel (s : State) (a : Alarm) : Alarm × Option (Bool × Pair) :=
  let counts := fun (p : Pair) => s.link.state = 8 && !s.staleOf p && (a.metric ≠ 3 || !s.farLate)
  let v := fun (p : Pair) => s.levelOf a.metric p
  let out := fun (p : Pair) => if a.below then decide (v p < a.level) else decide (a.level < v p)
  let inside := fun (p : Pair) => if a.below then decide (a.level + a.hyst ≤ v p) else decide (v p ≤ a.level - a.hyst)
  let run := fun (ok : Pair → Bool) (q : Quad Nat) => q.mapIdx (fun p n => if counts p && ok p then min 255 (n + 1) else 0)
  let a1 : Alarm := { a with beyond := run out a.beyond, inside := run inside a.inside }
  if !a.active then
    match a1.watched.find? (fun p => decide (a1.window ≤ a1.beyond.at p)) with
    | some p => ({ a1 with active := true }, some (true, p))
    | none => (a1, none)
  else if a1.watched.all (fun p => decide (a1.window ≤ a1.inside.at p)) then ({ a1 with active := false }, some (false, a1.watched.headD 0))
  else (a1, none)

/-- One 10 ms evaluation of a count alarm (R282); also whether a source is saturated. -/
def State.stepCount (s : State) (a : Alarm) : Alarm × Option (Bool × Pair) × Bool :=
  let v := fun (p : Pair) => s.countsOf a.metric p
  let rise := fun (p : Pair) => increase (v p) (((a.past.at p).take a.window).getLast?.getD ((v p).map (·.2)))
  let sat := a.watched.any (fun p => (sumSources (v p)).2)
  let a1 : Alarm := { a with past := a.past.mapIdx (fun p l => ((v p).map (·.2) :: l).take 255) }
  if !a.active then
    match a.watched.find? (fun p => decide (a.count < rise p)) with
    | some p => ({ a1 with active := true }, some (true, p), sat)
    | none => (a1, none, sat)
  else if a.watched.all (fun p => decide ((rise p : Int) ≤ (a.count : Int) - a.hyst)) then
    ({ a1 with active := false }, some (false, a.watched.headD 0), sat)
  else (a1, none, sat)

/-- A set or a clear: the event and the log entry that names the entry, the metric and the pair (R282). -/
def State.alarmChange (s : State) (i : Nat) (a : Alarm) (set : Bool) (p : Pair) : State :=
  let name := i + 2 ^ 8 * a.metric + 2 ^ 16 * p.val
  let s1 := if set then s.logEntry unitLine 2 kindLimit 0 0x84 (if levelMetrics.contains a.metric then ofInt 32 (s.levelOf a.metric p) else (sumSources (s.countsOf a.metric p)).1)
      (bitsAt a.cfg.toNat 16 16) name
    else s.logEntry unitLine 1 kindState 0 0x84 1 0 name
  State.raiseEvent (if set then s1.modMon (fun m => { m with latched := m.latched ||| BitVec.twoPow 16 i }) else s1) evMonitor

/-- Evaluate one alarm at a snapshot. -/
def State.evalAlarm (s : State) (i : Nat) : State :=
  let a := s.mon.alarms.getD i {}
  if !a.en then s
  else
    let put := fun (st : State) (x : Alarm) => st.modMon (fun m => { m with alarms := setAt m.alarms i x })
    let tell := fun (st : State) (x : Option (Bool × Pair)) => match x with | some (b, p) => st.alarmChange i a b p | none => st
    if levelMetrics.contains a.metric then
      let (a1, x) := s.stepLevel a
      tell (put s a1) x
    else if s.mon.evals % 10 ≠ 0 then s
    else
      let (a1, x, sat) := s.stepCount a
      tell (State.modMon (put s a1) (fun m => { m with sat := if sat then m.sat ||| BitVec.twoPow 16 i else m.sat })) x

/-- What is evaluated on a snapshot: the alarms, and the samples of the trend (R280, R282). -/
def State.evaluate (s : State) : State :=
  let s1 := (List.range 16).foldl (fun st i => st.evalAlarm i) s
  s1.modMon (fun m => { m with
    evals := m.evals + 1
    samples := m.samples.mapIdx (fun p l => if s1.staleOf p || !(s1.rx.pair.at p).mseSet then l else (s1.rx.pair.at p).mseDb :: l) })

/-! ### Objects 0x0170, 0x0180 to 0x0186 -/

/-- 0x0170 CABLE_EST. -/
def State.cableImage (s : State) : List (Nat × Nat) :=
  s.mon.est.toList.flatMap (fun e =>
    [(16, e.length), (16, e.reach)] ++ e.refl.flatMap (fun r => [(16, r.1), (16, ofInt 16 r.2)]) ++ [(8, e.rung), (1, b2n e.valid), (55, 0)])

/-- 0x0180 MON_CTL. -/
def State.monCtlImage (s : State) : List (Nat × Nat) :=
  [(10, s.mon.nvp), (6, 0), (8, s.mon.offsetCm), (8, 0), (12, s.mon.trendS), (4, 0), (10, s.mon.reportMs), (6, 0)]

/-- A MON_CTL that may be stored (R279). -/
def monCtlOk (v : Nat) : Bool :=
  500 ≤ bitsAt v 0 10 && bitsAt v 0 10 ≤ 900 && bitsAt v 10 6 = 0 && bitsAt v 24 8 = 0 && 1 ≤ bitsAt v 32 12 && bitsAt v 32 12 ≤ 3600 &&
    bitsAt v 44 4 = 0 && bitsAt v 48 10 ≤ 1000 && v / 2 ^ 58 = 0

/-- Clear the trend. -/
def Monitor.clearTrend (m : Monitor) : Monitor := { m with head := 0, count := 0, trend := Quad.all [], samples := Quad.all [] }

/-- Store MON_CTL; writing TREND_S clears the trend (R280). -/
def State.storeMonCtl (s : State) (v : Nat) : State :=
  s.modMon (fun m => { m.clearTrend with nvp := bitsAt v 0 10, offsetCm := bitsAt v 16 8, trendS := bitsAt v 32 12, reportMs := bitsAt v 48 10 })

/-- A trend entry as fields. -/
def trendFields : TrendEntry → List (Nat × Nat)
  | some (a, b, c) => [(16, ofInt 16 a), (16, ofInt 16 b), (16, ofInt 16 c)]
  | none => [(16, 0x8000), (16, 0x8000), (16, 0x8000)]

/-- 0x0181 MSE_TREND: entry HEAD is the newest. -/
def State.trendImage (s : State) : List (Nat × Nat) :=
  let m := s.mon
  [(6, m.head), (2, 0), (7, m.count), (1, 0), (4, m.rung), (12, 0)] ++
    m.trend.toList.map (fun l => (16, match trendSlope l with | some x => ofInt 16 x | none => 0x8000)) ++ [(32, 0)] ++
    m.trend.toList.flatMap (fun l => (List.range 64).flatMap (fun e => trendFields (l.getD ((m.head + 64 - e) % 64) none)))

/-- 0x0182 ALARM_CFG. -/
def State.alarmCfgImage (s : State) : List (Nat × Nat) := s.mon.alarms.map (fun a => (64, a.cfg.toNat))

/-- 0x0184 ALARM_STATUS. -/
def State.alarmStatusImage (s : State) : List (Nat × Nat) :=
  s.mon.alarms.map (fun a => (1, b2n a.active)) ++ [(16, s.mon.latched.toNat), (16, s.mon.sat.toNat), (16, 0)]

/-- 0x0185 OAM_COUNTERS. -/
def State.oamCountersImage (s : State) : List (Nat × Nat) := [(32, s.mon.oamTx), (32, s.mon.oamRx), (32, s.mon.oamDrop), (32, s.mon.quietRefused)]

/-- 0x0186 FAR_QUALITY. -/
def State.farQualityImage (s : State) : List (Nat × Nat) :=
  s.mon.far.toList.flatMap (fun f =>
    [(16, ofInt 16 f.mse), (16, ofInt 16 f.margin), (32, f.uncorr), (1, b2n (f.stale || s.farLate)), (31, 0),
      (32, match s.mon.farAt with | some t => min 0xFFFFFFFF ((s.time - t) / 1000000) | none => 0xFFFFFFFF)])

end Sys2Proof.Machine
end

