-- ==== Sys2Proof/Machine/Objects.lean ====
section
/-! DEFINITION. Parameter objects: their index, GET_PARAM and SET_PARAM with the writes that have a row of their own (11_cyoner_commands R361, R362; 00_scope R9, R10, R14, R472). -/

namespace Sys2Proof.Machine

/-- A row of the object index (Table 11-4 and the tables of the Ward, Benash and BIST chapters). -/
structure ObjectRow where
  id : Nat
  size : Nat
  /-- SET_PARAM is accepted. -/
  rw : Bool
  /-- Fields, lowest first; the second argument is the INDEX of an indexed object. -/
  image : State → Nat → List (Nat × Nat)
  indexed : Bool := false

/-- A read-only object. -/
def ro (id size : Nat) (f : State → List (Nat × Nat)) : ObjectRow := { id := id, size := size, rw := false, image := fun s _ => f s }
/-- A writable object. -/
def rw (id size : Nat) (f : State → List (Nat × Nat)) : ObjectRow := { id := id, size := size, rw := true, image := fun s _ => f s }

/-- Line and mode objects. -/
def lineObjects : List ObjectRow :=
  [rw 0x0100 8 (·.linkCtlImage), ro 0x0101 8 (·.linkStatusImage), ro 0x0102 32 (·.partnerImage), ro 0x0103 8 (·.trainLastImage), ro 0x0104 16 (·.trainTimesImage),
   ro 0x0105 32 (·.linkCountersImage), ro 0x0106 8 (·.pairMapImage), ro 0x0110 8 (·.powerStateImage), rw 0x0111 8 (·.dormantCtlImage),
   rw 0x0120 8 (·.shapeImage), rw 0x0121 64 (·.firImage 0), rw 0x0122 64 (·.firImage 1), rw 0x0123 64 (·.firImage 2), rw 0x0124 64 (·.firImage 3),
   rw 0x0125 68 (·.maskImage), ro 0x0126 8 (·.thpImage), ro 0x0127 96 (·.tapsImage 0), ro 0x0128 96 (·.tapsImage 1), ro 0x0129 96 (·.tapsImage 2),
   ro 0x012A 96 (·.tapsImage 3), ro 0x012B 64 (·.lcCountersImage), ro 0x0140 8 (·.dlStatusImage), ro 0x0141 208 (·.lanesImage false),
   ro 0x0142 208 (·.lanesImage true), ro 0x0150 8 (·.dischargeImage), rw 0x0160 8 (·.rxCtlImage), ro 0x0161 64 (·.rxQualityImage), ro 0x0162 8 (·.rxTimingImage),
   ro 0x0163 128 (·.rxCodewordsImage), ro 0x0164 128 (·.rxDropsImage), ro 0x0165 8 (·.driftImage), ro 0x0170 96 (·.cableImage), rw 0x0180 8 (·.monCtlImage),
   ro 0x0181 1552 (·.trendImage), rw 0x0182 128 (·.alarmCfgImage), rw 0x0184 8 (·.alarmStatusImage), ro 0x0185 16 (·.oamCountersImage),
   ro 0x0186 64 (·.farQualityImage)]

/-- Objects of the engines, calibration, diagnostics, clocks and Keyway. -/
def coreObjects : List ObjectRow :=
  [rw 0x0200 8 (·.engCtlImage), ro 0x0201 32 (·.engStatusImage), ro 0x0202 96 (·.engStateImage), ro 0x0203 1536 (·.engCountersImage),
   ro 0x0204 256 (·.storeImage), ro 0x0205 8 (·.overholdImage), ro 0x0206 8 (·.repairImage), ro 0x0207 32 (·.txDropsImage), ro 0x0210 12288 (·.bankImage false),
   ro 0x0211 12288 (·.bankImage true), rw 0x0300 8 (·.calCtlImage), ro 0x0301 8 (·.calStatusImage), ro 0x0302 64 (·.calPairImage),
   rw 0x0400 8 (·.diagCtlImage), ro 0x0401 8 (·.diagStatusImage), ro 0x0402 384 (·.tdrFindImage), ro 0x0403 104 (·.nextMapImage),
   rw 0x0500 8 (·.clkCtlImage), ro 0x0501 8 (·.clkStatusImage), ro 0x0502 64 (·.clkMonImage), rw 0x0503 8 (·.gateCtlImage), ro 0x0504 32 (·.gateStatusImage),
   ro 0x0505 32 (·.resetLastImage), ro 0x0600 8 (·.kwStatusImage), ro 0x0601 64 (·.kwCountersImage),
   { id := 0x0610, size := 8, rw := false, image := State.flowStateImage, indexed := true },
   { id := 0x0611, size := 64, rw := false, image := State.flowStatsImage, indexed := true }]

/-- Objects of Ward, Hasp, Benash, Quiet-Latch, Knuckle and the BIST controller. -/
def upperObjects : List ObjectRow :=
  [rw 0x0700 16 (·.wardCtlImage), ro 0x0701 8 (·.wardStatusImage), ro 0x0702 64 (·.wardCountersImage),
   { id := 0x0710, size := 32, rw := false, image := State.saImage, indexed := true }, ro 0x0711 32 (fun s => s.saImage linkAssoc),
   rw 0x0800 8 (·.mgmtCtlImage), ro 0x0801 32 (·.mgmtStatusImage), ro 0x0810 96 (·.agingImage), ro 0x0820 16 (·.logStatusImage), ro 0x0830 32 (·.fwStatusImage),
   rw 0x0880 16 (fun s => [(32, s.hasp.cfg.toNat), (96, 0)]), ro 0x0881 8 (·.haspStatusImage), ro 0x0882 16 (·.haspRecordImage),
   rw 0x0900 8 (·.qlCtlImage), ro 0x0901 8 (·.qlStatusImage), ro 0x0902 64 (·.qlCountersImage), ro 0x0903 32 (·.qlLastImage), rw 0x0908 8 (·.legacyCtlImage),
   ro 0x0909 16 (·.legacyCountersImage), rw 0x0A00 8 (·.knCtlImage), ro 0x0A01 8 (·.knStatusImage), ro 0x0B00 16 (·.bistStatusImage),
   ro 0x0B01 32 (·.bistLastImage), ro 0x0B02 32 (·.sdRecordImage)]

/-- The object with an ID. -/
def objectRow (id : Nat) : Option ObjectRow := (lineObjects ++ coreObjects ++ upperObjects).find? (fun r => r.id = id)

/-- Bytes of an object. -/
def objectBytes (r : ObjectRow) (fields : List (Nat × Nat)) : List Byte := packBytes r.size fields

/-- An ID that names an absent unit, assigned or not (R9, R14, Table 11-4). -/
def State.objectAbsent (s : State) (id : Nat) : Bool :=
  let p := s.fuse.part
  (0x0120 ≤ id && id ≤ 0x012B && !p.n50) || (id / 256 = 4 && !p.diag) || (id / 256 = 7 && !p.ward) || (0x0908 ≤ id && id ≤ 0x0909 && !p.legacyWake)
    || (id / 256 = 0x0A && !p.knuckle)

/-! ### GET_PARAM -/

/-- The objects whose values the line die holds (R44). -/
def lineDieObjects : List Nat := [0x0141, 0x0142, 0x0150]

/-- The fields that GET_PARAM finds: of a line-die object, while the line die is held in reset, those last read, or the reset values where none was (R472). -/
def State.foundImage (s : State) (r : ObjectRow) (idx : Nat) : List (Nat × Nat) :=
  if lineDieObjects.contains r.id && s.pwr.railLow &&& 3 ≠ 0 then
    match s.dl.lastRead.find? (fun x => x.1 = r.id) with
    | some x => x.2
    | none => r.image { State.reset with fuse := s.fuse } idx
  else r.image s idx

/-- What a line-die object reads is kept (R472). -/
def State.keepRead (s : State) (r : ObjectRow) : State :=
  if lineDieObjects.contains r.id then
    { s with dl := { s.dl with lastRead := (r.id, s.foundImage r 0) :: s.dl.lastRead.filter (fun x => x.1 ≠ r.id) } }
  else s

/-- GET_PARAM: an object's bytes at one instant, with its size and the device time (R361). -/
def execGetParam (tag : BitVec 16) (s : State) : Host.Outcome State Fault Refusal :=
  .next <| s.runRequest tag 0x42 fun q s =>
    let id := q.cap.arg 28 2
    let idx := q.cap.arg 30 2
    let off := q.cap.arg 32 4
    let len := q.cap.arg 36 4
    let r := objectRow id
    let size := match r with | some r => r.size | none => 0
    let indexed := match r with | some r => r.indexed | none => false
    let n := if len = 0 then size - off else len
    s.guarded q [(q.cap.len ≠ 0, .lenRange), (indexed && 1000 ≤ idx && idx < 1024, .flowInvalid), (indexed && 1024 ≤ idx, .range),
      (s.objectAbsent id, .unitAbsent),
      (r.isNone || !q.cap.fieldsOk [(28, 4), (32, 8)] || (!indexed && idx ≠ 0) || off % 4 ≠ 0 || size ≤ off || len % 4 ≠ 0 || size < off + n || 16384 < n
        || q.cap.rspan < 1 + (n + 63) / 64, .range)] [] fun s =>
      match r with
      | some r => (s.keepRead r).finish q .ok [(32, size), (32, 0), (64, s.time)] (((objectBytes r (s.foundImage r idx)).drop off).take n)
      | none => s

/-! ### SET_PARAM -/

/-- A value of LINK_CTL names an absent rung (R185; PIN names one only with PIN_EN at 1, log entry 20). -/
def Part.linkCtlAbsent (p : Part) (v : Nat) : Bool :=
  (List.range 8).any (fun r => bitAt v r && !p.rungPresent r) || !p.rungPresent (bitsAt v 8 3) || (bitAt v 11 && !p.rungPresent (bitsAt v 12 3))

/-- The value itself names an absent mode or unit (R9). -/
def State.valueAbsent (s : State) (id v : Nat) : Bool :=
  if id = 0x0100 then Part.linkCtlAbsent s.fuse.part v else if id = 0x0503 then s.gateCtlAbsent v else false

/-- The unit of an object stands behind a gate that the host has closed (R297): DIAG, LEGACY, BIST. -/
def State.objectGated (s : State) (id : Nat) : Bool :=
  (objectRow id).isSome && ((id / 256 = 4 && s.gate.hostClosed 0) || (0x0908 ≤ id && id ≤ 0x0909 && s.gate.hostClosed 1) || (id / 256 = 0x0B && s.gate.hostClosed 2))

/-- A value in range, with reserved fields 0, under the object's own rules. -/
def objectOk (id v : Nat) (bs : List Byte) : Bool :=
  match id with
  | 0x0100 => linkCtlOk v | 0x0111 => dormantCtlOk v | 0x0120 => shapeOk v | 0x0125 => maskOk bs | 0x0160 => rxCtlOk v | 0x0180 => monCtlOk v
  | 0x0182 => (List.range 16).all (fun i => alarmOk (leAt bs (8 * i) 8))
  | 0x0184 => v / 2 ^ 48 = 0
  | 0x0200 => engCtlOk v | 0x0300 => v < 4 | 0x0400 => diagCtlOk v | 0x0500 => clkCtlOk v | 0x0503 => v < 8
  | 0x0700 => wardCtlOk v | 0x0800 => mgmtCtlOk v | 0x0880 => haspCfgOk bs | 0x0900 => qlCtlOk v | 0x0908 => legacyCtlOk v | 0x0A00 => v < 2
  | _ => true

/-- HASP_CFG after deployment: classes may only rise (R400). -/
def State.haspForbids (s : State) (v : Nat) : Bool :=
  match s.fuse.lifecycle with
  | .factory | .provisioned => false
  | .deployed | .retired => !haspRaises s.hasp.cfg (BitVec.ofNat 32 v)

/-- ENG_CTL: its fields are kept, and REPAIR_GO starts a repair; a write that cannot start it changes nothing but LAST_REJECT (R146, R150). -/
def State.writeEngCtl (s : State) (v : Nat) : State × Status :=
  if bitAt v 24 then
    let (s1, st) := (s.storeEngCtl v).hostRepair (bitsAt v 16 8)
    if st = .ok then (s1, .ok) else ((s.hostRepair (bitsAt v 16 8)).1, st)
  else (s.storeEngCtl v, .ok)

/-- CAL_CTL: REVERT acts at once, or at the end of the CAL_RUN in progress (R257). -/
def State.writeCalCtl (s : State) (v : Nat) : State :=
  let s1 : State := { s with cal := { s.cal with probeData := bitAt v 0 } }
  if !bitAt v 1 then s1
  else if s1.cal.run.isSome then { s1 with cal := { s1.cal with revertDue := true } }
  else s1.revert

/-- ALARM_STATUS: a 1 clears a bit of LATCHED or SAT (R16, R283). -/
def State.clearAlarms (s : State) (v : Nat) : State :=
  s.modMon (fun m => { m with latched := m.latched &&& ~~~(BitVec.ofNat 16 (v / 2 ^ 16)), sat := m.sat &&& ~~~(BitVec.ofNat 16 (v / 2 ^ 32)) })

/-- Store a checked value. -/
def State.storeObject (s : State) (id v : Nat) (bs : List Byte) : State × Status :=
  match id with
  | 0x0100 => (s.storeLinkCtl v, .ok) | 0x0111 => (s.storeDormantCtl v, .ok) | 0x0120 => (s.storeShapeCtl v, .ok)
  | 0x0121 => (s.storeFir 0 bs, .ok) | 0x0122 => (s.storeFir 1 bs, .ok) | 0x0123 => (s.storeFir 2 bs, .ok) | 0x0124 => (s.storeFir 3 bs, .ok)
  | 0x0125 => (s.storeMask bs, .ok) | 0x0160 => (s.storeRxCtl v, .ok) | 0x0180 => (s.storeMonCtl v, .ok) | 0x0182 => (s.storeAlarms bs, .ok)
  | 0x0184 => (s.clearAlarms v, .ok) | 0x0200 => s.writeEngCtl v | 0x0300 => (s.writeCalCtl v, .ok) | 0x0400 => (s.storeDiagCtl v, .ok)
  | 0x0500 => (s.storeClkCtl v, .ok) | 0x0700 => (s.storeWardCtl v, .ok) | 0x0800 => (s.storeMgmtCtl v, .ok)
  | 0x0880 => (s.storeHaspCfg (BitVec.ofNat 32 v), .ok) | 0x0900 => (s.storeQlCtl v, .ok) | 0x0908 => (s.storeLegacyCtl v, .ok)
  | 0x0A00 => (s.storeKnCtl v, .ok)
  | _ => (s, .range)

/-- Execute a SET_PARAM request: all the checks, then the whole object or nothing (R361). -/
def State.setParam (s : State) (q : Request) : State :=
  let id := q.cap.arg 28 2
  let bs := q.cap.payload
  let v := leNat bs
  let r := objectRow id
  s.guarded q [
    ((match r with | some r => q.cap.len ≠ r.size | none => false), .lenRange),
    (s.objectAbsent id || s.valueAbsent id v, .unitAbsent),
    (s.objectGated id || (id = 0x0500 && s.clkNotReady v), .notReady),
    (id = 0x0503 && s.gateCtlTested v, .busySelftest),
    (id = 0x0700 && s.wardApproved && bitsAt v 3 2 ≠ 2, .approvedMode),
    ((match r with | some r => !r.rw | none => true), .range),
    (!q.cap.fieldsOk [(28, 4)] || q.cap.arg 30 2 ≠ 0 || !objectOk id v bs, .range),
    (id = 0x0880 && s.haspForbids v, .authFail)] [] fun s =>
    if id = 0x0503 then s.storeGateCtl q v
    else
      let (s1, st) := s.storeObject id v bs
      s1.finish q st [] []

/-- Execute a SET_PARAM request that meets a test of its object and value; any other waits for the row that names it,
and a write of GATE_CTL waits while another is in progress. -/
def State.setParamOf (s : State) (tag : BitVec 16) (p : Nat → Nat → Bool) : State :=
  match s.startable tag 0x43 with
  | some q =>
    if q.cap.arg 28 2 = 0x0503 && s.gate.hostAsked ≠ 0 then s
    else if p (q.cap.arg 28 2) (leNat q.cap.payload) then s.runRequest tag 0x43 fun q s => s.setParam q else s
  | none => s

/-- SET_PARAM, of any object. -/
def execSetParam (tag : BitVec 16) (s : State) : Host.Outcome State Fault Refusal := .next (s.setParamOf tag (fun _ _ => true))

/-- REPAIR_GO: a SET_PARAM of ENG_CTL with REPAIR_GO at 1 (R146, R149, R150). -/
def execRepairGo (tag : BitVec 16) (s : State) : Host.Outcome State Fault Refusal := .next (s.setParamOf tag (fun id v => id = 0x0200 && bitAt v 24))

/-- REVERT: a SET_PARAM of CAL_CTL with REVERT at 1 (R257). -/
def execRevert (tag : BitVec 16) (s : State) : Host.Outcome State Fault Refusal := .next (s.setParamOf tag (fun id v => id = 0x0300 && bitAt v 1))

/-- REF_SEL: a SET_PARAM of CLK_CTL that changes REF_SEL (R292). -/
def execRefSel (tag : BitVec 16) (s : State) : Host.Outcome State Fault Refusal :=
  .next (s.setParamOf tag (fun id v => id = 0x0500 && bitsAt v 0 2 ≠ s.clk.refSel))

/-- GATE_CTL: a SET_PARAM of GATE_CTL (R297). -/
def execGateCtl (tag : BitVec 16) (s : State) : Host.Outcome State Fault Refusal := .next (s.setParamOf tag (fun id _ => id = 0x0503))

/-- ALARM_STATUS_CLEAR: a SET_PARAM of ALARM_STATUS (R283). -/
def execAlarmStatusClear (tag : BitVec 16) (s : State) : Host.Outcome State Fault Refusal := .next (s.setParamOf tag (fun id _ => id = 0x0184))

/-! ### COMMAND_TIMEOUT (R365) -/

/-- What a command that has not finished leaves at its maximum, as its own rules state: a CAL_RUN ends its items (R240), a DIAG_TDR its tests
(R271), a test is aborted, a KNUCKLE request is withdrawn, a GATE_CTL write gives up the gates not yet closed, a SLOT_COMMIT leaves its
staging open. -/
def State.timeOut (s : State) (q : Request) : State :=
  match q.cap.op with
  | 0x50 => s.endCalItems 7 (fun _ => true)
  | 0x53 => s.endDiagTests 6 .timeout
  | 0x54 => (s.unrun q.cap.tag).finish q .timeout [] [] |>.abortTest 1
  | 0x5C => (State.finish { (s.unrun q.cap.tag) with ben := { s.ben with sdPrep := false } } q .timeout [] []).abortTest 1
  | 0x4B => s.endKnuckle .timeout
  | 0x65 => ((s.unrun q.cap.tag).modEng (fun g => { g with
      staging := g.staging.map (fun x => if x.tag = some q.cap.tag then { x with state := 1, tag := none } else x) })).finish q .timeout s.commitResults []
  | 0x43 => State.finish { (s.unrun q.cap.tag) with gate := { s.gate with
      asked := s.gate.asked &&& ~~~((BitVec.ofNat 106 s.gate.hostAsked.toNat) <<< 102), ctl := s.gate.ctl &&& ~~~s.gate.hostAsked, hostAsked := 0 } } q .timeout [] []
  | _ => (s.unrun q.cap.tag).finish q .timeout [] []

/-- COMMAND_TIMEOUT: a command in progress reaches its maximum duration. -/
def execCommandTimeout (tag : BitVec 16) (s : State) : Host.Outcome State Fault Refusal :=
  .next <|
    if !s.ben.up then s
    else match s.cyo.running.find? (fun q => q.cap.tag = tag) with
    | some q => s.timeOut q
    | none => s

end Sys2Proof.Machine
end

