-- ==== Sys2Proof/Machine/StatePage.lean ====
section
/-! DEFINITION. The state page: its snapshot, the evaluation that goes with it, and its publication (11_cyoner_commands R367 to R371; 12 R412; 13 R444). -/

namespace Sys2Proof.Machine

/-- An object in the page: zeros where its unit is absent (R371). -/
def State.pageObject (s : State) (id : Nat) : List Byte :=
  match objectRow id with
  | some r => if s.objectAbsent id then List.replicate r.size 0 else objectBytes r (s.foundImage r linkAssoc)
  | none => []

/-- Bytes 8 to 63: EPOCH, TIME, PERIOD, SKIPPED, FP_CAPS, FP_READY, FP_EVENT and FP_NME_STATUS. -/
def State.pageHead (s : State) : List Byte :=
  packBytes 56 [(64, s.time / 1000000), (64, s.time), (32, s.eng.period), (32, s.page.skipped), (64, s.fuse.part.capsValue), (32, s.readyValue),
    (32, s.fp.event.toNat), (32, s.fp.nme.toNat), (96, 0)]

/-- Sensor readings at bytes 0x380 to 0x3BF. -/
def State.pageSensors (s : State) : List Byte :=
  packBytes 64 ((List.range 6).map (fun i => (16, ofInt 16 (s.ben.temps.getD i 0))) ++ (List.range 10).map (fun i => (16, s.ben.supplies.getD i 0))
    ++ (List.range 12).map (fun i => (16, (s.ben.aging.getD i {}).reading)))

/-- The page's bytes 8 to 4,095 (Table 11-6). -/
def State.snapshotBytes (s : State) : List Byte :=
  let o := s.pageObject
  let z := fun (n : Nat) => List.replicate n (0 : Byte)
  s.pageHead
    ++ [0x0101, 0x0103, 0x0162, 0x0165, 0x0901, 0x0A01, 0x0140, 0x0501, 0x0201, 0x0184, 0x0301, 0x0401, 0x0150, 0x0161, 0x0163, 0x0164, 0x0207, 0x0105, 0x012B,
        0x0902, 0x0909, 0x0185, 0x0186, 0x0601, 0x0600, 0x0110].flatMap o
    ++ z 16 ++ s.pageSensors
    ++ o 0x0701 ++ z 8 ++ o 0x0702 ++ o 0x0711 ++ z 16
    ++ o 0x0801 ++ o 0x0820 ++ o 0x0830 ++ o 0x0B00 ++ z 32
    ++ o 0x0203 ++ o 0x0204 ++ z 1088

/-- Line 0 of the page. -/
def pageLine (seq : BitVec 32) (head : List Byte) : List Byte := packBytes 8 [(32, seq.toNat), (32, 1)] ++ fitBytes 56 head

/-- SEQ while the page is written (R368 step 1). -/
def oddSeq (q : BitVec 32) : BitVec 32 := if q.getLsbD 0 then q + 2 else q + 1

/-- An epoch that is not published. -/
def State.skipEpoch (s : State) : State := { s with page := { s.page with skipped := inc 32 s.page.skipped } }

/-- A publication of the present snapshot begins: line 0 with an odd SEQ, then lines 1 to 63 (R368 steps 1 and 2). -/
def State.beginPage (s : State) : State :=
  let a := 4096 * s.fp.pageAddr
  let kind := s.windowKind a 4096 true
  if kind ≠ 0 then ((s.setFp (fun f => { f with pageFault := true })).windowFault 1000 a kind).skipEpoch
  else
    let q := oddSeq s.page.seq
    let head := s.page.snapshot.take 56
    let s1 := (s.writeLine a (pageLine q head)).writeLines (a + 64) 63 (s.page.snapshot.drop 56)
    { s1 with page := { s1.page with seq := q, busy := true, addr := a, head := head } }

/-- STATE_PAGE_EPOCH: the first timeline boundary of an epoch: the snapshot, its evaluation, and a publication or a skipped epoch (R282, R321, R369).
While Benash restarts there is no snapshot. -/
def execStatePageEpoch (s : State) : Host.Outcome State Fault Refusal :=
  .next <|
    if s.heldReset then s
    else if !s.ben.up then s.skipEpoch
    else
      let s1 := State.evaluate { s with page := { s.page with snapshot := s.snapshotBytes } }
      if s.page.busy || !s.fp.pageEn then s1.skipEpoch else s1.beginPage

/-- STATE_PAGE_PUBLISHED: line 0 again with an even SEQ, and vector 1,003; the first after a PERST# raises the event that RESET_LAST is valid
(R301, R368). A final write that faults leaves SEQ odd. -/
def execStatePagePublished (s : State) : Host.Outcome State Fault Refusal :=
  .next <|
    if !s.page.busy then s
    else
      let kind := s.windowKind s.page.addr 64 true
      let s0 : State := { s with page := { s.page with busy := false } }
      if kind ≠ 0 then (s0.setFp (fun f => { f with pageFault := true })).windowFault 1000 s.page.addr kind
      else
        let q := s.page.seq + 1
        let s1 := s0.writeLine s.page.addr (pageLine q s.page.head)
        let s2 : State := { s1 with page := { s1.page with seq := q }, fp := { s1.fp with pageFault := false } }
        let s3 := s2.signalVector 1003
        if s.pwr.perstNote then State.raiseEvent { s3 with pwr := { s3.pwr with perstNote := false } } evReset else s3

end Sys2Proof.Machine
end

