-- ==== Sys2Proof/Machine/Pins.lean ====
section
/-! DEFINITION. The balls that the device drives, the SMBus side-band and LED1 (14_balls_and_electrical R449, R451, R452). -/

namespace Sys2Proof.Machine

/-- LED1_TIMER: after 30 ms on it is off for at least 30 ms, then on again while traffic lasts (R449). -/
def execLed1Timer (s : State) : Host.Outcome State Fault Refusal :=
  .next <|
    if s.heldReset then s
    else s.modPwr (fun p =>
      if p.led1 then { p with led1 := false, led1Off := true, traffic := false }
      else { p with led1 := p.traffic, led1Off := false, traffic := false })

/-! ### The levels of the driven balls (R449, R452, R457) -/

/-- The level of a driven ball: push-pull high or low, or not driven. -/
inductive PinLevel where
  | low | high | released
deriving DecidableEq, Repr

/-- The 1.8 V bank drives: VDD_IO is in range (R457). -/
def State.ioDrives (s : State) : Bool := !s.pwr.railLow.getLsbD 4

/-- An open-drain ball of the bank, pulled low or released. -/
def State.openDrain (s : State) (pull : Bool) : PinLevel := if s.ioDrives && pull then .low else .released

/-- READY: high while FP_READY.BENASH and FP_READY.LINE both read 1, low in every reset (R449). -/
def State.pinReady (s : State) : PinLevel :=
  if !s.ioDrives then .released else if !s.heldReset && s.ready .benash && s.ready .line then .high else .low

/-- NME_OUT#: low while any FP_NME_STATUS bit reads 1, in every reset state but power-on reset (R319). -/
def State.pinNmeOut (s : State) : PinLevel := s.openDrain (!s.pwr.porHeld && s.fp.nme ≠ 0)

/-- LED0 is on while LINK_STATUS.STATE is 8 or 9, and off in every reset (R449). -/
def State.led0On (s : State) : Bool := !s.heldReset && (s.link.state = 8 || s.link.state = 9)
/-- LED0. -/
def State.pinLed0 (s : State) : PinLevel := s.openDrain s.led0On
/-- LED1, the traffic indicator; off in every reset (R449). -/
def State.pinLed1 (s : State) : PinLevel := s.openDrain (!s.heldReset && s.pwr.led1)
/-- LED2 is on while LED0 is on at rung 0 or 1 (R449). -/
def State.pinLed2 (s : State) : PinLevel := s.openDrain (s.led0On && s.nativeMode)
/-- LED3 is on while any FP_NME_STATUS bit reads 1 or the Hasp latch is set, in every reset but power-on reset (R402, R449). -/
def State.pinLed3 (s : State) : PinLevel := s.openDrain (!s.pwr.porHeld && (s.fp.nme ≠ 0 || s.hasp.latched))

/-- ALERT#: low while any FP_NME_STATUS, SUPPLY_WARN or TEMP_WARN bit reads 1 (R452). -/
def State.pinAlert (s : State) : PinLevel :=
  s.openDrain (!s.pwr.porHeld && (s.fp.nme ≠ 0 || s.ben.cond.warn ≠ 0 || s.ben.temps.any (fun t => decide (1050 ≤ t))))

/-- CLKREQ#: low whenever VDD_CXL is in range (R469). -/
def State.pinClkreq (s : State) : PinLevel := s.openDrain (!s.pwr.railLow.getLsbD 2)
/-- WAKE# (R313). -/
def State.pinWake (s : State) : PinLevel := s.openDrain s.kw.status.wake

/-! ### JTAG and the UART (R450, R393) -/

/-- Groups of signal balls (Table 14-2). -/
inductive BallGroup where
  | mdi | xin | rclkOut | atest | cxlLane | cxlRefclk | tamper | control | uart | smbus | led | gpio | sideband
deriving DecidableEq, Repr

/-- A ball of the group is in the boundary-scan chain. -/
def BallGroup.inChain : BallGroup → Bool
  | .mdi | .xin | .rclkOut | .atest => false
  | _ => true

/-- IEEE 1149.6 AC-EXTEST reaches the group. -/
def BallGroup.acExtest (b : BallGroup) : Bool := b = .cxlLane

/-- The level at which TRST# reads: low when unconnected, by its pull-down, and while VDD_IO is low (R450, R457). -/
def State.trstRead (s : State) : Bool := s.ioDrives && s.pwr.trst.getD false

/-- The TAP is held in reset. -/
def State.tapReset (s : State) : Bool := !s.trstRead

/-- Boundary scan can be used: in every lifecycle state, with the TAP out of reset. -/
def State.boundaryScan (s : State) : Bool := !s.tapReset

/-- Debug, internal scan and the UART are open (Table 12-9). -/
def State.serviceOpen (s : State) : Bool := s.fuse.lifecycle = .factory || s.fuse.lifecycle = .provisioned

/-- Internal scan and debug instructions exist. -/
def State.internalScan (s : State) : Bool := s.boundaryScan && s.serviceOpen

/-- UART_TX: held high from DEPLOYED onward; none while the service console, of which the spec gives no contents, may speak (log entry 93). -/
def State.pinUartTx (s : State) : Option PinLevel := if !s.ioDrives then some .released else if s.serviceOpen then none else some .high

/-- UART_RX is looked at. -/
def State.uartListens (s : State) : Bool := s.ioDrives && s.serviceOpen

/-- Bits of a byte on the UART, 8N1 at 115,200 baud: a low start bit, the byte least significant bit first, a high stop bit (PRESUMED order, log entry 93). -/
def uartFrame (b : Byte) : List Bool := false :: toBools 8 b.toNat ++ [true]

/-- The SMBus address (R451). -/
def State.smbAddress (s : State) : Nat := 0x68 + s.pwr.smbAddr

/-- The SMBus target acknowledges an address (R452). -/
def State.smbAlive (s : State) (a : Nat) : Bool :=
  a = s.smbAddress && s.clk.ready && !s.pwr.porHeld && !s.pwr.warmHeld && !s.pwr.railLow.getLsbD 4

/-- The packet error code of a block read: CRC-8 x^8 + x^2 + x + 1 from 0, over every byte on the bus, most significant bit first (PRESUMED: SMBus;
log entry 12). -/
def smbPec (a code : Nat) (bs : List Byte) : Byte :=
  let all := [BitVec.ofNat 8 (2 * a), BitVec.ofNat 8 code, BitVec.ofNat 8 (2 * a + 1), BitVec.ofNat 8 bs.length] ++ bs
  BitVec.ofNat 8 (crcLeft 8 0x07 0 (all.flatMap (fun b => (toBools 8 b.toNat).reverse)))

/-- Answer a block read at an address, with its PEC when the controller clocks one (R451). -/
def State.smbAnswer (s : State) (a : Nat) (pec : Bool) (code : Nat) (bs : List Byte) : State :=
  if s.smbAlive a then s.emit (.smb (if pec then bs ++ [smbPec a code bs] else bs)) else s

/-- Bytes of the most recent snapshot at a page offset; 0 before the first (R452). -/
def State.pageBytes (s : State) (off n : Nat) : List Byte := fitBytes n ((s.page.snapshot.drop (off - 8)).take n)

/-- FP_ID (Table 10-4). -/
def State.fpId (s : State) : Nat := packNat [(12, 0x5A7), (4, s.fuse.step), (16, 0)]

/-- SMB_READ_FP_ID: code 0x00. -/
def execSmbReadFpId (a : Nat) (pec : Bool) (s : State) : Host.Outcome State Fault Refusal := .next (s.smbAnswer a pec 0x00 (leBytes 4 s.fpId))

/-- SMB_READ_FP_CAPS: code 0x01. -/
def execSmbReadFpCaps (a : Nat) (pec : Bool) (s : State) : Host.Outcome State Fault Refusal := .next (s.smbAnswer a pec 0x01 (leBytes 8 s.fuse.part.capsValue))

/-- SMB_READ_FP_READY: code 0x02. -/
def execSmbReadFpReady (a : Nat) (pec : Bool) (s : State) : Host.Outcome State Fault Refusal := .next (s.smbAnswer a pec 0x02 (leBytes 4 s.readyValue))

/-- SMB_READ_FP_NME_STATUS: code 0x03. -/
def execSmbReadFpNmeStatus (a : Nat) (pec : Bool) (s : State) : Host.Outcome State Fault Refusal := .next (s.smbAnswer a pec 0x03 (leBytes 4 s.fp.nme.toNat))

/-- SMB_READ_LINK_STATUS: code 0x04, from the latest snapshot. -/
def execSmbReadLinkStatus (a : Nat) (pec : Bool) (s : State) : Host.Outcome State Fault Refusal := .next (s.smbAnswer a pec 0x04 (s.pageBytes 0x040 8))

/-- SMB_READ_POWER_STATE: code 0x05. -/
def execSmbReadPowerState (a : Nat) (pec : Bool) (s : State) : Host.Outcome State Fault Refusal := .next (s.smbAnswer a pec 0x05 (s.pageBytes 0x368 8))

/-- SMB_READ_TEMP: code 0x06. -/
def execSmbReadTemp (a : Nat) (pec : Bool) (s : State) : Host.Outcome State Fault Refusal := .next (s.smbAnswer a pec 0x06 (s.pageBytes 0x380 12))

/-- SMB_READ_SUPPLY: code 0x07. -/
def execSmbReadSupply (a : Nat) (pec : Bool) (s : State) : Host.Outcome State Fault Refusal := .next (s.smbAnswer a pec 0x07 (s.pageBytes 0x38C 20))

/-- SMB_READ_AGING: code 0x08. -/
def execSmbReadAging (a : Nat) (pec : Bool) (s : State) : Host.Outcome State Fault Refusal := .next (s.smbAnswer a pec 0x08 (s.pageBytes 0x3A0 24))

end Sys2Proof.Machine
end

