-- ==== Sys2Proof/Machine/Dispatch.lean ====
section
/-! DEFINITION. The effect of each command: one arm per constructor, each a direct call of its meaning. -/

namespace Sys2Proof.Machine

open Sys2Proof

/-- The effect of a command on everything but the queue. -/
def exec (i : Instr) (s : State) : Host.Outcome State Fault Refusal :=
  match i with
  | .identify tag => Sys2Proof.Machine.execIdentify tag s
  | .getCaps tag => Sys2Proof.Machine.execGetCaps tag s
  | .getParam tag => Sys2Proof.Machine.execGetParam tag s
  | .setParam tag => Sys2Proof.Machine.execSetParam tag s
  | .repairGo tag => Sys2Proof.Machine.execRepairGo tag s
  | .revert tag => Sys2Proof.Machine.execRevert tag s
  | .refSel tag => Sys2Proof.Machine.execRefSel tag s
  | .gateCtl tag => Sys2Proof.Machine.execGateCtl tag s
  | .alarmStatusClear tag => Sys2Proof.Machine.execAlarmStatusClear tag s
  | .linkUp tag => Sys2Proof.Machine.execLinkUp tag s
  | .linkDown tag => Sys2Proof.Machine.execLinkDown tag s
  | .trainFull tag => Sys2Proof.Machine.execTrainFull tag s
  | .trainFast tag => Sys2Proof.Machine.execTrainFast tag s
  | .knuckleShed tag => Sys2Proof.Machine.execKnuckleShed tag s
  | .knuckleReinstate tag => Sys2Proof.Machine.execKnuckleReinstate tag s
  | .calRun tag => Sys2Proof.Machine.execCalRun tag s
  | .calExport tag => Sys2Proof.Machine.execCalExport tag s
  | .calImport tag bytes => Sys2Proof.Machine.execCalImport tag bytes s
  | .diagTdr tag => Sys2Proof.Machine.execDiagTdr tag s
  | .bistRun tag => Sys2Proof.Machine.execBistRun tag s
  | .bistAbort tag => Sys2Proof.Machine.execBistAbort tag s
  | .logRead tag => Sys2Proof.Machine.execLogRead tag s
  | .fwStage tag bytes => Sys2Proof.Machine.execFwStage tag bytes s
  | .fwCommit tag => Sys2Proof.Machine.execFwCommit tag s
  | .fwActivate tag => Sys2Proof.Machine.execFwActivate tag s
  | .shutdownPrep tag => Sys2Proof.Machine.execShutdownPrep tag s
  | .flowCreate tag => Sys2Proof.Machine.execFlowCreate tag s
  | .flowModify tag => Sys2Proof.Machine.execFlowModify tag s
  | .flowDestroy tag => Sys2Proof.Machine.execFlowDestroy tag s
  | .slotStageOpen tag => Sys2Proof.Machine.execSlotStageOpen tag s
  | .slotStageWrite tag => Sys2Proof.Machine.execSlotStageWrite tag s
  | .slotStageClear tag => Sys2Proof.Machine.execSlotStageClear tag s
  | .slotCommit tag => Sys2Proof.Machine.execSlotCommit tag s
  | .wardKat tag => Sys2Proof.Machine.execWardKat tag s
  | .saAdvance tag => Sys2Proof.Machine.execSaAdvance tag s
  | .keyErase tag => Sys2Proof.Machine.execKeyErase tag s
  | .kekInstall m => Sys2Proof.Machine.execKekInstall m s
  | .kekErase m => Sys2Proof.Machine.execKekErase m s
  | .keyInstall m => Sys2Proof.Machine.execKeyInstall m s
  | .keyEraseMsg m => Sys2Proof.Machine.execKeyEraseMsg m s
  | .cakInstall m => Sys2Proof.Machine.execCakInstall m s
  | .haspSet m => Sys2Proof.Machine.execHaspSet m s
  | .tamperClear m => Sys2Proof.Machine.execTamperClear m s
  | .modeSet m => Sys2Proof.Machine.execModeSet m s
  | .lifecycle m => Sys2Proof.Machine.execLifecycle m s
  | .getVersion => Sys2Proof.Machine.execGetVersion s
  | .getCapabilities => Sys2Proof.Machine.execGetCapabilities s
  | .negotiateAlgorithms p384 sha384 ecdhe aead => Sys2Proof.Machine.execNegotiateAlgorithms p384 sha384 ecdhe aead s
  | .getDigests => Sys2Proof.Machine.execGetDigests s
  | .getCertificate slot off len => Sys2Proof.Machine.execGetCertificate slot off len s
  | .setCertificate sid chain => Sys2Proof.Machine.execSetCertificate sid chain s
  | .challenge slot nonce => Sys2Proof.Machine.execChallenge slot nonce s
  | .getMeasurements index sign => Sys2Proof.Machine.execGetMeasurements index sign s
  | .keyExchange => Sys2Proof.Machine.execKeyExchange s
  | .finish sid good auth => Sys2Proof.Machine.execFinish sid good auth s
  | .keyUpdate sid => Sys2Proof.Machine.execKeyUpdate sid s
  | .heartbeat sid => Sys2Proof.Machine.execHeartbeat sid s
  | .endSession sid => Sys2Proof.Machine.execEndSession sid s
  | .ideKm sid cache go => Sys2Proof.Machine.execIdeKm sid cache go s
  | .submissionFetch n c => Sys2Proof.Machine.execSubmissionFetch n c s
  | .nop n => Sys2Proof.Machine.execNop n s
  | .send n => Sys2Proof.Machine.execSend n s
  | .sendMulti n => Sys2Proof.Machine.execSendMulti n s
  | .fence n => Sys2Proof.Machine.execFence n s
  | .sendDone n => Sys2Proof.Machine.execSendDone n s
  | .fpResetCore v => Sys2Proof.Machine.execFpResetCore v s
  | .fpResetWarm v => Sys2Proof.Machine.execFpResetWarm v s
  | .fpResetBenash v => Sys2Proof.Machine.execFpResetBenash v s
  | .fpEventWrite v => Sys2Proof.Machine.execFpEventWrite v s
  | .fpEventEnWrite v => Sys2Proof.Machine.execFpEventEnWrite v s
  | .fpEventCntRead word wide => Sys2Proof.Machine.execFpEventCntRead word wide s
  | .fpNmeStatusWrite v => Sys2Proof.Machine.execFpNmeStatusWrite v s
  | .fpNmeCntRead word wide => Sys2Proof.Machine.execFpNmeCntRead word wide s
  | .fpFaultInfoRead => Sys2Proof.Machine.execFpFaultInfoRead s
  | .fpStateAddrWrite v => Sys2Proof.Machine.execFpStateAddrWrite v s
  | .windowWrite w off wide v => Sys2Proof.Machine.execWindowWrite w off wide v s
  | .ringEnable n v => Sys2Proof.Machine.execRingEnable n v s
  | .ringStop n v => Sys2Proof.Machine.execRingStop n v s
  | .sqTailWrite n v => Sys2Proof.Machine.execSqTailWrite n v s
  | .cqHeadWrite n v => Sys2Proof.Machine.execCqHeadWrite n v s
  | .ringReset n => Sys2Proof.Machine.execRingReset n s
  | .registerWrite bar off wide v => Sys2Proof.Machine.execRegisterWrite bar off wide v s
  | .h2dSnoop => Sys2Proof.Machine.execH2dSnoop s
  | .cxlLinkUp width gt => Sys2Proof.Machine.execCxlLinkUp width gt s
  | .frameClassify => Sys2Proof.Machine.execFrameClassify s
  | .wardRxFrame => Sys2Proof.Machine.execWardRxFrame s
  | .mkpdu m => Sys2Proof.Machine.execMkpdu m s
  | .completionWrite n => Sys2Proof.Machine.execCompletionWrite n s
  | .completionObserved n => Sys2Proof.Machine.execCompletionObserved n s
  | .rxMultiClose n => Sys2Proof.Machine.execRxMultiClose n s
  | .irqHoldoffExpiry n => Sys2Proof.Machine.execIrqHoldoffExpiry n s
  | .eventSignalMerge => Sys2Proof.Machine.execEventSignalMerge s
  | .heldFrameDelivery f => Sys2Proof.Machine.execHeldFrameDelivery f s
  | .timelineBoundary ls adc => Sys2Proof.Machine.execTimelineBoundary ls adc s
  | .slotBankSwitch => Sys2Proof.Machine.execSlotBankSwitch s
  | .slotDeadline e n doneSegs prevEnd => Sys2Proof.Machine.execSlotDeadline e n doneSegs prevEnd s
  | .storeGrant c => Sys2Proof.Machine.execStoreGrant c s
  | .overholdCutoff b => Sys2Proof.Machine.execOverholdCutoff b s
  | .storeScrub es => Sys2Proof.Machine.execStoreScrub es s
  | .driftGuardEval => Sys2Proof.Machine.execDriftGuardEval s
  | .decodeRelease d => Sys2Proof.Machine.execDecodeRelease d s
  | .thpCoef => Sys2Proof.Machine.execThpCoef s
  | .thpSwitch => Sys2Proof.Machine.execThpSwitch s
  | .ack => Sys2Proof.Machine.execAck s
  | .peerId => Sys2Proof.Machine.execPeerId s
  | .infofieldRetry => Sys2Proof.Machine.execInfofieldRetry s
  | .thpSetActivate => Sys2Proof.Machine.execThpSetActivate s
  | .remoteFault => Sys2Proof.Machine.execRemoteFault s
  | .raSet => Sys2Proof.Machine.execRaSet s
  | .rateConfirmed => Sys2Proof.Machine.execRateConfirmed s
  | .stdRateConfirm => Sys2Proof.Machine.execStdRateConfirm s
  | .alignmentSearch => Sys2Proof.Machine.execAlignmentSearch s
  | .alignmentSearchEnd outb inb => Sys2Proof.Machine.execAlignmentSearchEnd outb inb s
  | .alignmentRetry => Sys2Proof.Machine.execAlignmentRetry s
  | .laneFrameCheck inb lane frame ws => Sys2Proof.Machine.execLaneFrameCheck inb lane frame ws s
  | .laneSubstitution inb lane cause => Sys2Proof.Machine.execLaneSubstitution inb lane cause s
  | .spareCleanCount inb => Sys2Proof.Machine.execSpareCleanCount inb s
  | .substitutionSwitch inb => Sys2Proof.Machine.execSubstitutionSwitch inb s
  | .deepLowPowerExit outb inb => Sys2Proof.Machine.execDeepLowPowerExit outb inb s
  | .energyDetect p => Sys2Proof.Machine.execEnergyDetect p s
  | .energyLoss p => Sys2Proof.Machine.execEnergyLoss p s
  | .dormantEntry => Sys2Proof.Machine.execDormantEntry s
  | .dormantExit => Sys2Proof.Machine.execDormantExit s
  | .negotiationStart => Sys2Proof.Machine.execNegotiationStart s
  | .nativeAbilityMessage oui u1 u2 u3 => Sys2Proof.Machine.execNativeAbilityMessage oui u1 u2 u3 s
  | .negotiationResolve farMs autoRole => Sys2Proof.Machine.execNegotiationResolve farMs autoRole s
  | .noPartnerTimer => Sys2Proof.Machine.execNoPartnerTimer s
  | .ladderResetTimer => Sys2Proof.Machine.execLadderResetTimer s
  | .trainingWord w m => Sys2Proof.Machine.execTrainingWord w m s
  | .phaseChange e => Sys2Proof.Machine.execPhaseChange e s
  | .phaseTimer seen => Sys2Proof.Machine.execPhaseTimer seen s
  | .breakEnd => Sys2Proof.Machine.execBreakEnd s
  | .hdrLoss => Sys2Proof.Machine.execHdrLoss s
  | .stdTrainingDone e => Sys2Proof.Machine.execStdTrainingDone e s
  | .stdLinkFail seen => Sys2Proof.Machine.execStdLinkFail seen s
  | .fastRetrainRequest => Sys2Proof.Machine.execFastRetrainRequest s
  | .fastRetrainStart => Sys2Proof.Machine.execFastRetrainStart s
  | .fastRetrainEnd => Sys2Proof.Machine.execFastRetrainEnd s
  | .fastRetrainTimeout => Sys2Proof.Machine.execFastRetrainTimeout s
  | .lclkDivisionChange dac adc => Sys2Proof.Machine.execLclkDivisionChange dac adc s
  | .qlIdleTimer => Sys2Proof.Machine.execQlIdleTimer s
  | .quietWithdraw => Sys2Proof.Machine.execQuietWithdraw s
  | .quietStart => Sys2Proof.Machine.execQuietStart s
  | .entryAbort => Sys2Proof.Machine.execEntryAbort s
  | .refreshWindow far => Sys2Proof.Machine.execRefreshWindow far s
  | .wakeBurstStart => Sys2Proof.Machine.execWakeBurstStart s
  | .onset k => Sys2Proof.Machine.execOnset k s
  | .acquisitionTimeout k => Sys2Proof.Machine.execAcquisitionTimeout k s
  | .latchPoint k => Sys2Proof.Machine.execLatchPoint k s
  | .syncWord k => Sys2Proof.Machine.execSyncWord k s
  | .syncSearchTimeout => Sys2Proof.Machine.execSyncSearchTimeout s
  | .settleHeaderTimeout => Sys2Proof.Machine.execSettleHeaderTimeout s
  | .receptionConfirmed => Sys2Proof.Machine.execReceptionConfirmed s
  | .listenTimeout => Sys2Proof.Machine.execListenTimeout s
  | .capture k => Sys2Proof.Machine.execCapture k s
  | .qlHdrLoss => Sys2Proof.Machine.execQlHdrLoss s
  | .legacyBurstDetect rate k => Sys2Proof.Machine.execLegacyBurstDetect rate k s
  | .legacyWakeTimeout => Sys2Proof.Machine.execLegacyWakeTimeout s
  | .knuckleRequestReceived => Sys2Proof.Machine.execKnuckleRequestReceived s
  | .knuckleAckReceived => Sys2Proof.Machine.execKnuckleAckReceived s
  | .knuckleFormChange => Sys2Proof.Machine.execKnuckleFormChange s
  | .rxFormChange => Sys2Proof.Machine.execRxFormChange s
  | .knuckleAckTimeout => Sys2Proof.Machine.execKnuckleAckTimeout s
  | .pairTrainingDone => Sys2Proof.Machine.execPairTrainingDone s
  | .pairTrainingTimeout => Sys2Proof.Machine.execPairTrainingTimeout s
  | .calEstimateDone e => Sys2Proof.Machine.execCalEstimateDone e s
  | .sliceShadowDone p o g k => Sys2Proof.Machine.execSliceShadowDone p o g k s
  | .calNoEngine => Sys2Proof.Machine.execCalNoEngine s
  | .calTimeout => Sys2Proof.Machine.execCalTimeout s
  | .tdrBlockDone b => Sys2Proof.Machine.execTdrBlockDone b s
  | .diagTimeout => Sys2Proof.Machine.execDiagTimeout s
  | .diagNoEngine => Sys2Proof.Machine.execDiagNoEngine s
  | .quietReq => Sys2Proof.Machine.execQuietReq s
  | .quietAck => Sys2Proof.Machine.execQuietAck s
  | .quietAckTimeout => Sys2Proof.Machine.execQuietAckTimeout s
  | .quietDurationExpiry => Sys2Proof.Machine.execQuietDurationExpiry s
  | .farReportTimer => Sys2Proof.Machine.execFarReportTimer s
  | .farReport => Sys2Proof.Machine.execFarReport s
  | .statePageEpoch => Sys2Proof.Machine.execStatePageEpoch s
  | .statePagePublished => Sys2Proof.Machine.execStatePagePublished s
  | .trendInterval => Sys2Proof.Machine.execTrendInterval s
  | .gateCloseRequest g => Sys2Proof.Machine.execGateCloseRequest g s
  | .gateIdleAck g => Sys2Proof.Machine.execGateIdleAck g s
  | .gateCloseRefused g => Sys2Proof.Machine.execGateCloseRefused g s
  | .gateReopen g access => Sys2Proof.Machine.execGateReopen g access s
  | .unitReset u acked => Sys2Proof.Machine.execUnitReset u acked s
  | .repairStart => Sys2Proof.Machine.execRepairStart s
  | .repairLoadDone good => Sys2Proof.Machine.execRepairLoadDone good s
  | .programSwap => Sys2Proof.Machine.execProgramSwap s
  | .clockMonitorWindow w => Sys2Proof.Machine.execClockMonitorWindow w s
  | .referenceEdgeLoss => Sys2Proof.Machine.execReferenceEdgeLoss s
  | .holdoverExpiry => Sys2Proof.Machine.execHoldoverExpiry s
  | .ml0Relock => Sys2Proof.Machine.execMl0Relock s
  | .powerOnReset bootSel smbAddr lcHold => Sys2Proof.Machine.execPowerOnReset bootSel smbAddr lcHold s
  | .startUpTestEnd e => Sys2Proof.Machine.execStartUpTestEnd e s
  | .powerOnResetAssert => Sys2Proof.Machine.execPowerOnResetAssert s
  | .resetPin e => Sys2Proof.Machine.execResetPin e s
  | .coreResetRelease => Sys2Proof.Machine.execCoreResetRelease s
  | .perstAssert fetching => Sys2Proof.Machine.execPerstAssert fetching s
  | .perstRelease => Sys2Proof.Machine.execPerstRelease s
  | .benashWatchdog => Sys2Proof.Machine.execBenashWatchdog s
  | .benashRestartEnd sramGood => Sys2Proof.Machine.execBenashRestartEnd sramGood s
  | .escalation => Sys2Proof.Machine.execEscalation s
  | .railUndervoltage rail => Sys2Proof.Machine.execRailUndervoltage rail s
  | .railRecovery rail => Sys2Proof.Machine.execRailRecovery rail s
  | .supplyLoss => Sys2Proof.Machine.execSupplyLoss s
  | .meshCheck intact => Sys2Proof.Machine.execMeshCheck intact s
  | .haspTrip n present temp => Sys2Proof.Machine.execHaspTrip n present temp s
  | .zeroizeNvmErase => Sys2Proof.Machine.execZeroizeNvmErase s
  | .wardSelfTestDone => Sys2Proof.Machine.execWardSelfTestDone s
  | .wardSelfTestFail => Sys2Proof.Machine.execWardSelfTestFail s
  | .mkaHello => Sys2Proof.Machine.execMkaHello s
  | .mkaLifeExpiry => Sys2Proof.Machine.execMkaLifeExpiry s
  | .sensorRead temps supplies => Sys2Proof.Machine.execSensorRead temps supplies s
  | .agingMeasure fs => Sys2Proof.Machine.execAgingMeasure fs s
  | .sramScrub corrected bad => Sys2Proof.Machine.execSramScrub corrected bad s
  | .nvmScrub corrected bad => Sys2Proof.Machine.execNvmScrub corrected bad s
  | .logSuppressedRecord => Sys2Proof.Machine.execLogSuppressedRecord s
  | .fwTrialConfirm => Sys2Proof.Machine.execFwTrialConfirm s
  | .sdRecordDisarm => Sys2Proof.Machine.execSdRecordDisarm s
  | .bistTestEnd e => Sys2Proof.Machine.execBistTestEnd e s
  | .led1Timer => Sys2Proof.Machine.execLed1Timer s
  | .smbReadFpId a pec => Sys2Proof.Machine.execSmbReadFpId a pec s
  | .smbReadFpCaps a pec => Sys2Proof.Machine.execSmbReadFpCaps a pec s
  | .smbReadFpReady a pec => Sys2Proof.Machine.execSmbReadFpReady a pec s
  | .smbReadFpNmeStatus a pec => Sys2Proof.Machine.execSmbReadFpNmeStatus a pec s
  | .smbReadLinkStatus a pec => Sys2Proof.Machine.execSmbReadLinkStatus a pec s
  | .smbReadPowerState a pec => Sys2Proof.Machine.execSmbReadPowerState a pec s
  | .smbReadTemp a pec => Sys2Proof.Machine.execSmbReadTemp a pec s
  | .smbReadSupply a pec => Sys2Proof.Machine.execSmbReadSupply a pec s
  | .smbReadAging a pec => Sys2Proof.Machine.execSmbReadAging a pec s
  | .fastLinkPulseBurst p => Sys2Proof.Machine.execFastLinkPulseBurst p s
  | .cableDischarge p => Sys2Proof.Machine.execCableDischarge p s
  | .configurationWrite w => Sys2Proof.Machine.execConfigurationWrite w s
  | .lpiSleep own => Sys2Proof.Machine.execLpiSleep own s
  | .lpiWake own => Sys2Proof.Machine.execLpiWake own s
  | .commandTimeout tag => Sys2Proof.Machine.execCommandTimeout tag s

end Sys2Proof.Machine
end

