-- ==== Sys2Proof/Machine/Step.lean ====
section
/-! DEFINITION. One step: the command at the front of the queue has its effect; with no command waiting, a nanosecond passes. -/

namespace Sys2Proof.Machine

/-- A nanosecond in which nothing is commanded: device time counts outside power-on and warm reset (R320), and the time since
power-on outside power-on reset (R192). DESIGN CHOICE: the step on an empty queue (log entry 1). -/
def State.tick (s : State) : State :=
  if s.pwr.porHeld then s
  else if s.pwr.warmHeld then { s with porNs := s.porNs + 1 }
  else { s with time := s.time + 1, porNs := s.porNs + 1 }

/-- One step of the block (log entry 1). -/
def step (s : State) : Host.Outcome State Fault Refusal :=
  match s.pending with
  | [] => .next s.tick
  | c :: rest => exec c { s with pending := rest }

/-- The state with the command that a table word spells put at the front of its queue; unchanged where the word spells none. -/
def State.withFetchWord (s : State) (nbits w : Nat) : State :=
  match decodeTableWord nbits w with
  | none => s
  | some c => { s with pending := c :: s.pending }

end Sys2Proof.Machine
end

