-- ==== Sys2Proof/WellFormed.lean ====
section
/-! DEFINITION. Which commands are well formed: the operands a command may carry, range by range. A command outside them describes a
stimulus that the device cannot meet, and is answered with no effect or by the range check of its own rule (log entry 7). -/

namespace Sys2Proof

/-- A ring: a flow 0 to 999 or the control ring 1,023 (R326). -/
def ringOk (i : Nat) : Bool := i < 1000 || i = 1023

/-- A flow (R332). -/
def flowOk (i : Nat) : Bool := i < 1000

/-- A capsule as fetched: ARGS is 40 bytes, and the payload at most 256 whole lines (R335). -/
def Capsule.wf (c : Capsule) : Bool := c.args.length = 40 && c.payload.length % 64 = 0 && c.payload.length ≤ 16384

/-- A Ward message: a 16-bit session and a 32-bit MTAG (R386). -/
def WardMsg.wf (m : WardMsg) : Bool :=
  (match m.sid with | some n => decide (n < 65536) | none => true) && m.mtag < 2 ^ 32

/-- What an MKPDU carries: an 8-byte SCI, and a SAK of 32 bytes with a 12-byte salt and a 4-byte SSCI under an AN of 2 bits (R382). -/
def MkaIn.wf (m : MkaIn) : Bool :=
  m.peerSci.length = 8 &&
    (match m.sak with | some k => k.an < 4 && k.sak.length = 32 && k.salt.length = 12 && k.ssci.length = 4 | none => true)

/-- Coefficient-store cycle: eight banks, requesters 0 to 98, at most 16 entries an engine (R139, R140). -/
def StoreCycle.wf (c : StoreCycle) : Bool :=
  c.asks.all (fun a => a.who ≤ 98 && a.slot < 16 && a.banks ≠ 0) && c.withdrawn.all (· ≤ 98) && c.errors.all (fun e => e.1 < 8)

/-- The four values are the four pairs. -/
def permutes (q : Quad Pair) : Bool := pairs.all (fun p => q.toList.contains p)

/-- The phase change's pair map is one to one. -/
def PhaseEnd.wf (e : PhaseEnd) : Bool := permutes e.far

/-- A standard codeword has a length, and its bits lie in segments 0 to 15 of the period released or the one before (R115). -/
def DecodeIn.wf (d : DecodeIn) : Bool := d.stdWords.all (fun w => 0 < w.length && w.places.all (fun x => x.1 < 2 && x.2.2.1 < 16))

/-- Elements of an aging monitor (Table 13-4): 24 engines, 2 LDPC cores, 26 lanes, or 36 slices, the line driver and the DAC. -/
def agingElements (m : Nat) : Nat := if m < 4 then 24 else if m < 6 then 2 else if m < 8 then 26 else 38

/-- An instant lies within a period (R47). -/
def RxInstant.wf (k : RxInstant) : Bool := k.pos < 1024

/-- A calibration estimate names lanes 0 to 25 (R234). -/
def CalEst.wf : CalEst → Bool
  | .adc _ => true
  | .dac _ => true
  | .hybrid _ => true
  | .dielink lanes => lanes.all (fun l => l.2.1 < 26)

/-- What failed in a start-up test is numbered within its part (R432). -/
def StartUpEnd.wf (e : StartUpEnd) : Bool :=
  e.engines.all (· < 96) && e.lanesOut.all (· < 26) && e.lanesIn.all (· < 26) && e.slices.all (fun x => x.1 < 4 && x.2 < 36)
    && e.cells.all (fun x => x.1 < 4 && x.2 < 71)

/-- A register access lies in its width's alignment. -/
def accessOk (off : Nat) (wide : Bool) : Bool := if wide then off % 8 = 0 else off % 4 = 0

/-- A command is well formed. -/
def Instr.wf : Instr → Bool
  | .identify _ => true
  | .getCaps _ => true
  | .getParam _ => true
  | .setParam _ => true
  | .repairGo _ => true
  | .revert _ => true
  | .refSel _ => true
  | .gateCtl _ => true
  | .alarmStatusClear _ => true
  | .linkUp _ => true
  | .linkDown _ => true
  | .trainFull _ => true
  | .trainFast _ => true
  | .knuckleShed _ => true
  | .knuckleReinstate _ => true
  | .calRun _ => true
  | .calExport _ => true
  | .calImport _ bytes => bytes.length = 2240
  | .diagTdr _ => true
  | .bistRun _ => true
  | .bistAbort _ => true
  | .logRead _ => true
  | .fwStage _ bytes => bytes.length ≤ 1048576
  | .fwCommit _ => true
  | .fwActivate _ => true
  | .shutdownPrep _ => true
  | .flowCreate _ => true
  | .flowModify _ => true
  | .flowDestroy _ => true
  | .slotStageOpen _ => true
  | .slotStageWrite _ => true
  | .slotStageClear _ => true
  | .slotCommit _ => true
  | .wardKat _ => true
  | .saAdvance _ => true
  | .keyErase _ => true
  | .kekInstall m => m.wf
  | .kekErase m => m.wf
  | .keyInstall m => m.wf
  | .keyEraseMsg m => m.wf
  | .cakInstall m => m.wf
  | .haspSet m => m.wf
  | .tamperClear m => m.wf
  | .modeSet m => m.wf
  | .lifecycle m => m.wf
  | .getVersion => true
  | .getCapabilities => true
  | .negotiateAlgorithms _ _ _ _ => true
  | .getDigests => true
  | .getCertificate slot _ _ => slot < 8
  | .setCertificate _ chain => chain.length ≤ 65535
  | .challenge slot _ => slot < 8
  | .getMeasurements index _ => index < 256
  | .keyExchange => true
  | .finish sid _ _ => sid < 65536
  | .keyUpdate sid => sid < 65536
  | .heartbeat sid => sid < 65536
  | .endSession sid => sid < 65536
  | .ideKm sid _ _ => sid < 65536
  | .submissionFetch i c => ringOk i && c.wf
  | .nop i => ringOk i
  | .send i => flowOk i
  | .sendMulti i => flowOk i
  | .fence i => flowOk i
  | .sendDone i => ringOk i
  | .fpResetCore _ => true
  | .fpResetWarm _ => true
  | .fpResetBenash _ => true
  | .fpEventWrite _ => true
  | .fpEventEnWrite _ => true
  | .fpEventCntRead word wide => word < 8 && (!wide || word % 2 = 0)
  | .fpNmeStatusWrite _ => true
  | .fpNmeCntRead word wide => word < 4 && (!wide || word % 2 = 0)
  | .fpFaultInfoRead => true
  | .fpStateAddrWrite _ => true
  | .windowWrite w off wide _ => w < 64 && off < 16 && accessOk off wide
  | .ringEnable i _ => ringOk i
  | .ringStop i _ => ringOk i
  | .sqTailWrite i _ => ringOk i
  | .cqHeadWrite i _ => ringOk i
  | .ringReset i => ringOk i
  | .registerWrite bar off wide _ => bar ≤ 4 && accessOk off wide
  | .h2dSnoop => true
  | .cxlLinkUp width gt => [1, 2, 4, 8].contains width && [2, 5, 8, 16, 32].contains gt
  | .frameClassify => true
  | .wardRxFrame => true
  | .mkpdu m => m.wf
  | .completionWrite i => ringOk i
  | .completionObserved i => ringOk i
  | .rxMultiClose i => flowOk i
  | .irqHoldoffExpiry i => ringOk i
  | .eventSignalMerge => true
  | .heldFrameDelivery f => flowOk f
  | .timelineBoundary ls _ => ls.all (fun l => l.engine < 96)
  | .slotBankSwitch => true
  | .slotDeadline e i _ _ => e < 96 && i < 16
  | .storeGrant c => c.wf
  | .overholdCutoff b => b < 8
  | .storeScrub es => es.all (fun e => e.1 < 8)
  | .driftGuardEval => true
  | .decodeRelease d => d.wf
  | .thpCoef => true
  | .thpSwitch => true
  | .ack => true
  | .peerId => true
  | .infofieldRetry => true
  | .thpSetActivate => true
  | .remoteFault => true
  | .raSet => true
  | .rateConfirmed => true
  | .stdRateConfirm => true
  | .alignmentSearch => true
  | .alignmentSearchEnd outb inb => outb.length = 26 && inb.length = 26
  | .alignmentRetry => true
  | .laneFrameCheck _ lane _ ws => lane < 26 && ws.length = 64
  | .laneSubstitution _ lane cause => lane < 26 && 1 ≤ cause && cause ≤ 4
  | .spareCleanCount _ => true
  | .substitutionSwitch _ => true
  | .deepLowPowerExit outb inb => outb.all (· < 26) && inb.all (· < 26)
  | .energyDetect _ => true
  | .energyLoss _ => true
  | .dormantEntry => true
  | .dormantExit => true
  | .negotiationStart => true
  | .nativeAbilityMessage oui u1 u2 u3 => oui < 2 ^ 24 && u1 < 2048 && u2 < 2048 && u3 < 2048
  | .negotiationResolve _ _ => true
  | .noPartnerTimer => true
  | .ladderResetTimer => true
  | .trainingWord _ _ => true
  | .phaseChange e => e.wf
  | .phaseTimer _ => true
  | .breakEnd => true
  | .hdrLoss => true
  | .stdTrainingDone e => e.wf
  | .stdLinkFail _ => true
  | .fastRetrainRequest => true
  | .fastRetrainStart => true
  | .fastRetrainEnd => true
  | .fastRetrainTimeout => true
  | .lclkDivisionChange dac adc => 0 < dac && 0 < adc
  | .qlIdleTimer => true
  | .quietWithdraw => true
  | .quietStart => true
  | .entryAbort => true
  | .refreshWindow _ => true
  | .wakeBurstStart => true
  | .onset k => k.wf
  | .acquisitionTimeout k => k.wf
  | .latchPoint k => k.wf
  | .syncWord k => k.wf
  | .syncSearchTimeout => true
  | .settleHeaderTimeout => true
  | .receptionConfirmed => true
  | .listenTimeout => true
  | .capture k => k.wf
  | .qlHdrLoss => true
  | .legacyBurstDetect rate k => rate < 3 && k.wf
  | .legacyWakeTimeout => true
  | .knuckleRequestReceived => true
  | .knuckleAckReceived => true
  | .knuckleFormChange => true
  | .rxFormChange => true
  | .knuckleAckTimeout => true
  | .pairTrainingDone => true
  | .pairTrainingTimeout => true
  | .calEstimateDone e => e.wf
  | .sliceShadowDone _ _ _ _ => true
  | .calNoEngine => true
  | .calTimeout => true
  | .tdrBlockDone b => b.pulses.length = 64
  | .diagTimeout => true
  | .diagNoEngine => true
  | .quietReq => true
  | .quietAck => true
  | .quietAckTimeout => true
  | .quietDurationExpiry => true
  | .farReportTimer => true
  | .farReport => true
  | .statePageEpoch => true
  | .statePagePublished => true
  | .trendInterval => true
  | .gateCloseRequest g => g < 106
  | .gateIdleAck g => g < 106
  | .gateCloseRefused g => g < 106
  | .gateReopen g _ => g < 106
  | .unitReset u _ => u < 106
  | .repairStart => true
  | .repairLoadDone _ => true
  | .programSwap => true
  | .clockMonitorWindow _ => true
  | .referenceEdgeLoss => true
  | .holdoverExpiry => true
  | .ml0Relock => true
  | .powerOnReset _ _ _ => true
  | .startUpTestEnd e => e.wf
  | .powerOnResetAssert => true
  | .resetPin _ => true
  | .coreResetRelease => true
  | .perstAssert fetching => fetching.all flowOk
  | .perstRelease => true
  | .benashWatchdog => true
  | .benashRestartEnd _ => true
  | .escalation => true
  | .railUndervoltage rail => rail < 5
  | .railRecovery rail => rail < 5
  | .supplyLoss => true
  | .meshCheck _ => true
  | .haspTrip i _ _ => i < 7
  | .zeroizeNvmErase => true
  | .wardSelfTestDone => true
  | .wardSelfTestFail => true
  | .mkaHello => true
  | .mkaLifeExpiry => true
  | .sensorRead temps supplies => temps.length = 6 && supplies.length = 10
  | .agingMeasure fs => fs.length = 12 && fs.zipIdx.all (fun m => m.1.length = agingElements m.2 && m.1.all (fun f => 0 < f.1))
  | .sramScrub _ _ => true
  | .nvmScrub _ _ => true
  | .logSuppressedRecord => true
  | .fwTrialConfirm => true
  | .sdRecordDisarm => true
  | .bistTestEnd _ => true
  | .led1Timer => true
  | .smbReadFpId a _ => a < 128
  | .smbReadFpCaps a _ => a < 128
  | .smbReadFpReady a _ => a < 128
  | .smbReadFpNmeStatus a _ => a < 128
  | .smbReadLinkStatus a _ => a < 128
  | .smbReadPowerState a _ => a < 128
  | .smbReadTemp a _ => a < 128
  | .smbReadSupply a _ => a < 128
  | .smbReadAging a _ => a < 128
  | .fastLinkPulseBurst _ => true
  | .cableDischarge _ => true
  | .configurationWrite _ => true
  | .lpiSleep _ => true
  | .lpiWake _ => true
  | .commandTimeout _ => true

end Sys2Proof
end

