-- ==== Sys2Proof/Safety.lean ====
section
/-! DEFINITION. The words that claims use: a command that completes, a request that Benash takes up, a state in good form, and what a
command leaves alone. -/

namespace Sys2Proof.Machine

/-- Benash takes up the waiting request with a TAG and an opcode: no earlier request holds it back, and recovery does not refuse it
(R357, R428). -/
def Takes (s : State) (tag : BitVec 16) (op : Nat) (q : Request) : Prop :=
  s.startable tag op = some q ∧ (s.ben.recovery && recoveryRefuses q.cap) = false

/-- A request keeps the form of one without a payload: LENGTH 0, its fields in order (R354, R355). -/
def Plain (q : Request) (used : List (Nat × Nat)) : Prop := q.cap.len = 0 ∧ q.cap.fieldsOk used = true

/-- A Ward message that comes over an established session while no WARD_KAT runs (R386, R396). -/
def Secured (s : State) (m : WardMsg) (x : Session) : Prop :=
  s.spdmUp = true ∧ m.sid.bind s.session = some x ∧ s.findRun 0x70 (fun _ => true) = none

/-- A key message that Ward takes up: Ward is ready, and in approved mode the session is mutually authenticated (R387, R388). -/
def KeyMessage (s : State) (m : WardMsg) (x : Session) : Prop :=
  Secured s m x ∧ s.ready .ward = true ∧ (s.wardApproved = true → x.requester.isSome = true)

/-- The sparse tables of a state are in canonical form: keys strictly rising, nothing listed that reads as an unlisted key does. -/
def State.tablesOk (s : State) : Bool :=
  Sparse.wf {} s.kw.rings && Sparse.wf {} s.flows && Sparse.wf {} s.fp.windows && Sparse.wf {} s.fp.msix
    && Sparse.wf 0 s.fp.eventCnt && Sparse.wf 0 s.fp.nmeCnt && Sparse.wf {} s.ward.slots && Sparse.wf {} s.ward.info
    && Sparse.wf 0 s.eng.bankA && Sparse.wf 0 s.eng.bankB && Sparse.wf {} s.ward.keks && Sparse.wf {} s.nvm.keks

/-- The numbered lists of a state have one entry for each thing they number: seven STATUS fields, 96 engines, 8 banks of the store, 26
physical lanes a direction, 12 aging monitors, five items of a CAL_RUN; and the flash log holds at most 65,536 entries. -/
def State.shapeOk (s : State) : Bool :=
  s.lc.run.stTx.length = 7 && s.eng.eng.length = 96 && s.eng.store.length = 8 && s.dl.outb.lanes.length = 26 && s.dl.inb.lanes.length = 26
    && s.ben.aging.length = 12 && (match s.cal.run with | some r => decide (r.results.length = 5) | none => true) && decide (s.nvm.log.length ≤ 65536)

/-- Every waiting command is well formed. -/
def State.queueOk (s : State) : Bool := s.pending.all Instr.wf

/-- How far the lifecycle has gone (R393): it is never taken back. -/
def Lifecycle.rank (l : Lifecycle) : Nat := l.code

/-- What the fuses hold may only go forward from s to t: the part and its identity stay, the anti-rollback counter and the lifecycle do
not fall (R2, R393, R427). -/
def FusesForward (s t : State) : Prop :=
  t.fuse.part = s.fuse.part ∧ t.fuse.serial = s.fuse.serial ∧ s.fuse.rollback ≤ t.fuse.rollback ∧ s.fuse.lifecycle.rank ≤ t.fuse.lifecycle.rank

end Sys2Proof.Machine
end

