-- ==== Sys2Proof/Certificates/Slice0/Obligations.lean ====
section
/-! DEFINITION. The statements for the provers, by group: the whole block, objects, Benash, resets, clocks, the state page and monitoring, Keyway,
the engines, Ward, the link, the die link, Quiet-Latch, Knuckle and calibration, diagnostics. -/

section Statements

open Sys2Proof Sys2Proof.Machine

/-! ### The queue, the idle step, reset and the rules of the whole block -/

/-- A step runs the command at the front of the queue, with the queue's rest in its place. Choices of the model that it rests on: log entry 1. -/
def Obligations.StepRunsTheFrontCommand : Prop :=
  ∀ (c : Instr) (rest : List Instr) (s : State), step { s with pending := c :: rest } = exec c { s with pending := rest }

/-- Right after reset the block is in power-on reset: nothing waits and nothing has been sent, every FP_READY bit reads 0, no event or
non-maskable event is set, no ring is enabled, flow 0 alone exists with generation 1, and LINK_STATUS.STATE reads 1; the tables
are in canonical form and the lists have their lengths. Choices of the model that it rests on: log entries 2, 3, 4 and 5. -/
def Obligations.ResetLeavesPowerOnReset : Prop :=
  State.reset.pending = [] ∧ State.reset.out = [] ∧ State.reset.pwr.porHeld = true ∧ State.reset.readyValue = 0 ∧
  State.reset.fp.event = 0 ∧ State.reset.fp.nme = 0 ∧ State.reset.kw.rings = [] ∧
  (∀ f, (State.reset.flow f).exist = decide (f = 0)) ∧ (State.reset.flow 0).gen = 1 ∧ State.reset.link.state = 1 ∧
  State.reset.tablesOk = true ∧ State.reset.queueOk = true ∧ State.reset.shapeOk = true ∧
  State.reset.pinReady = .low ∧ State.reset.pinNmeOut = .released ∧ State.reset.pinLed0 = .released ∧ State.reset.pinLed3 = .released

/-- No command ends the block, and none touches the queue: every command, well formed or not, answers a next state with the same commands waiting.
Choices of the model that it rests on: log entries 1 and 7. -/
def Obligations.NoCommandTouchesTheQueue : Prop :=
  ∀ (c : Instr) (s : State), ∃ t : State, exec c s = .next t ∧ t.pending = s.pending

/-- Fuses are one-way: over every step the part and the serial number stay, the anti-rollback counter does not fall and the lifecycle is
not taken back. Choices of the model that it rests on: log entry 3. -/
def Obligations.FusesOnlyGoForward : Prop := ∀ s t : State, step s = .next t → FusesForward s t

/-- Only FW_TRIAL_CONFIRM and LIFECYCLE burn a fuse. Choices of the model that it rests on: log entry 3. -/
def Obligations.OnlyTwoCommandsBurnFuses : Prop :=
  ∀ (c : Instr) (s t : State), (∀ m, c ≠ .lifecycle m) → c ≠ .fwTrialConfirm → exec c s = .next t → t.fuse = s.fuse

/-- The final completion of a request that is to be written goes to the end of what the control ring has placed, with the request's TAG and
opcode, its status, the ring's CQ_SEQ and its SPAN; CQ_SEQ advances by that SPAN, the reservation is given up, and no other ring and no
other unit changes (R335, R344, R354, R355). -/
def Obligations.AFinalCompletionIsPlacedOnce : Prop :=
  ∀ (s : State) (q : Request) (st : Status) (results : List (Nat × Nat)) (payload : List Byte),
    s.ben.up = true → q.fate = .ring → (s.ring controlRing).running = true →
    let t := s.finish q st results payload
    let n := if st = .ok then payload.length else 0
    ∃ c : Completion, c.opcode = q.cap.opcode.toNat + 0x80 ∧ c.tag = q.cap.tag.toNat ∧ c.status = st ∧ c.seq = (s.ring controlRing).cqSeq ∧
      c.span = spanOf n ∧ c.args = packBytes 40 results ∧
      (t.ring controlRing).placed = (s.ring controlRing).placed ++ [c] ∧
      (t.ring controlRing).cqSeq = (s.ring controlRing).cqSeq + BitVec.ofNat 32 (spanOf n) ∧
      (t.ring controlRing).reserved = (s.ring controlRing).reserved - q.room ∧
      (∀ i, i ≠ controlRing → t.ring i = s.ring i) ∧ t = { s with kw := { s.kw with rings := t.kw.rings } }

/-- Entries of severity 3 and 4 always reach the log; the newest stands first with the next SEQ, SEQ never takes 0xFFFFFFFF, and the log
holds at most 65,536 entries. Below severity 3 an entry that finds a token takes it and is written; one that finds none is counted in SUPPRESSED and
the log stays (R420, R422). Choices of the model that it rests on: log entry 36. -/
def Obligations.TheLogTakesItsEntries : Prop :=
  (∀ (s : State) (e : LogEntry), s.ben.up = true → 3 ≤ e.sev → s.nvm.log.length ≤ 65536 →
    let t := s.admitLog e
    t.nvm.log.head? = some { e with seq := s.nvm.nextSeq } ∧ t.nvm.log.length ≤ 65536 ∧ t.nvm.nextSeq ≠ 0xFFFFFFFF ∧
      t = { s with nvm := t.nvm, ben := { s.ben with critical := t.ben.critical } }) ∧
  (∀ (s : State) (e : LogEntry), s.ben.up = true → e.sev < 3 → s.ben.logSev ≤ e.sev →
    (1000 ≤ s.tokensNow → (s.admitLog e).nvm.log.head? = some { e with seq := s.nvm.nextSeq } ∧ (s.admitLog e).ben.tokens = s.tokensNow - 1000) ∧
    (s.tokensNow < 1000 → (s.admitLog e).nvm = s.nvm ∧ (s.admitLog e).ben.suppressed = inc 16 s.ben.suppressed))

/-- The sparse tables stay canonical: rings, flows, windows, MSI-X entries, event counters and Ward's slots keep their keys strictly rising and
list nothing that reads as an unlisted entry does, over every step from every such state. -/
def Obligations.TablesStayCanonical : Prop := ∀ s t : State, s.tablesOk = true → step s = .next t → t.tablesOk = true

/-- The numbered lists keep their lengths: over every step from every state whose lists of engines, store banks, lanes, aging monitors, STATUS fields and
CAL_RUN results have an entry for each thing they number, and whose flash log fits its sector, so they do in the next state. -/
def Obligations.ListsKeepTheirLengths : Prop := ∀ s t : State, s.shapeOk = true → step s = .next t → t.shapeOk = true

/-- FP_CAPS reads the value of its part, here over the side band (R5). -/
def Obligations.FpCapsReadsAsItsPart : Prop :=
  ∀ (s : State) (a : Nat), s.smbAlive a = true →
    exec (.smbReadFpCaps a false) s = .next (s.emit (.smb (match s.fuse.part with
      | .wq100s => leBytes 8 0x0000000001603F3F
      | .wq100e => leBytes 8 0x0000000002603F37
      | .wq50s => leBytes 8 0x0000000003403F1E
      | .wq40s => leBytes 8 0x0000000004283F08)))

/-! ### Identity, the log and parameter objects -/

/-- IDENTIFY answers with the serial number, the firmware versions, the part, the stepping, the lifecycle, the running slot, the
anti-rollback counter and the program set (Table 11-2); GET_CAPS with FP_CAPS, FP_READY, the healthy engines and the opcode map. Nothing
but the request's own bookkeeping changes (R359, R360). -/
def Obligations.IdentityIsAnswered : Prop :=
  (∀ (s : State) (tag : BitVec 16) (q : Request), Takes s tag 0x40 q → Plain q [] → 2 ≤ q.cap.rspan →
    let b := s.begin q
    exec (.identify tag) s = .next (b.finish q .ok []
      (fitBytes 16 b.fuse.serial ++ packBytes 48
        [(32, b.runSlot.fwver), (32, if b.otherSlot.valid then b.otherSlot.fwver else 0), (32, b.fuse.romver), (8, b.fuse.part.code),
         (8, b.fuse.step), (8, b.fuse.lifecycle.code), (8, b2n b.ben.runB), (32, b.fuse.rollback), (32, b.runSlot.progver)]))) ∧
  (∀ (s : State) (tag : BitVec 16) (q : Request), Takes s tag 0x41 q → Plain q [] → 2 ≤ q.cap.rspan →
    let b := s.begin q
    exec (.getCaps tag) s = .next (b.finish q .ok []
      (packBytes 32 [(64, b.fuse.part.capsValue), (32, b.readyValue), (8, b.healthyEngines), (8, 64), (8, 0), (8, 1), (64, b.opcodeMap)])))

/-- LOG_READ returns the entries kept from where the read starts, in ascending order of SEQ, all of them or the first COUNT; it starts at the oldest entry for
FIRST 0xFFFFFFFF and, with GAP set, where FIRST is older than the oldest entry, else at FIRST; and it changes nothing else (R423). A KIND 7 entry records the
suppressed entries once a token is available and LOG_SEV lets severity 2 through, and their count starts again (R422).
Choices of the model that it rests on: log entries 14 and 36. -/
def Obligations.TheLogIsReadInOrder : Prop :=
  (∀ (s : State) (tag : BitVec 16) (q : Request), Takes s tag 0x58 q → Plain q [(28, 4), (32, 2)] →
    1 ≤ q.cap.arg 32 2 → q.cap.arg 32 2 ≤ 512 → 1 + (q.cap.arg 32 2 + 1) / 2 ≤ q.cap.rspan →
    let first := q.cap.arg 28 4
    let gap := first ≠ 0xFFFFFFFF ∧ newer s.nvm.oldest first = true ∧ s.nvm.log ≠ []
    ∃ (es later : List LogEntry) (start g : Nat), (first = 0xFFFFFFFF ∨ gap → start = s.nvm.oldest) ∧ (¬ (first = 0xFFFFFFFF ∨ gap) → start = first) ∧
      (gap → g = 1) ∧ (¬ gap → g = 0) ∧ s.nvm.log.reverse.filter (fun e => e.seq = start || newer e.seq start) = es ++ later ∧
      es.length ≤ q.cap.arg 32 2 ∧ (later ≠ [] → es.length = q.cap.arg 32 2) ∧
      exec (.logRead tag) s = .next ((s.begin q).finish q .ok [(32, s.nvm.oldest), (32, s.nvm.newest), (16, es.length), (8, g)]
        (es.flatMap LogEntry.bytes))) ∧
  (∀ s : State, s.ben.up = true → 0 < s.ben.suppressedNew → 1000 ≤ s.tokensNow → s.ben.logSev ≤ 2 →
    ∃ (t : State) (e : LogEntry), exec .logSuppressedRecord s = .next t ∧ t.nvm.log = e :: s.nvm.log.take 65535 ∧ e.seq = s.nvm.nextSeq ∧ e.kind = 7 ∧
      e.detail = 0 ∧ e.sev = 2 ∧ e.arg0 = s.ben.suppressedNew % 2 ^ 32 ∧ t.ben.suppressedNew = 0 ∧ t.ben.suppressed = s.ben.suppressed ∧
      t.fp.event.getLsbD evBenash = true ∧ t = { s with nvm := t.nvm, ben := t.ben, fp := t.fp, out := t.out })

/-- GET_PARAM of a present object returns its bytes at one instant, with its size and the device time, and changes nothing but what is kept as last read of a
line-die object (R361, R472). A SET_PARAM that passes
every check stores its whole value by the object's own rule and completes with what that rule gives (R10, R361); the writes that have a row of their own do
the same: REVERT (R257), REF_SEL (R292), REPAIR_GO (R146) and GATE_CTL (R297). ALARM_STATUS_CLEAR clears exactly the LATCHED and SAT bits that it names
with a 1 (R16, R283). Choices of the model that it rests on: log entries 23 and 24. -/
def Obligations.ParametersAreReadAndWritten : Prop :=
  (∀ (s : State) (tag : BitVec 16) (q : Request) (r : ObjectRow), Takes s tag 0x42 q → Plain q [(28, 4), (32, 8)] →
    objectRow (q.cap.arg 28 2) = some r → s.objectAbsent (q.cap.arg 28 2) = false →
    (if r.indexed then q.cap.arg 30 2 < 1000 else q.cap.arg 30 2 = 0) →
    let n := if q.cap.arg 36 4 = 0 then r.size - q.cap.arg 32 4 else q.cap.arg 36 4
    q.cap.arg 32 4 % 4 = 0 → q.cap.arg 32 4 < r.size → q.cap.arg 36 4 % 4 = 0 → q.cap.arg 32 4 + n ≤ r.size → 1 + (n + 63) / 64 ≤ q.cap.rspan → n ≤ 16384 →
    exec (.getParam tag) s = .next (((s.begin q).keepRead r).finish q .ok [(32, r.size), (32, 0), (64, s.time)]
      (((objectBytes r ((s.begin q).foundImage r (q.cap.arg 30 2))).drop (q.cap.arg 32 4)).take n))) ∧
  (∀ (s : State) (tag : BitVec 16) (q : Request) (r : ObjectRow), Takes s tag 0x43 q → s.gate.hostAsked = 0 →
    objectRow (q.cap.arg 28 2) = some r → r.rw = true → q.cap.len = r.size → q.cap.fieldsOk [(28, 4)] = true → q.cap.arg 30 2 = 0 →
    let id := q.cap.arg 28 2
    let v := leNat q.cap.payload
    let b := s.begin q
    s.objectAbsent id = false → s.valueAbsent id v = false → s.objectGated id = false → (id = 0x0500 → s.clkNotReady v = false) →
    (id = 0x0503 → s.gateCtlTested v = false) → (id = 0x0700 → s.wardApproved = true → bitsAt v 3 2 = 2) →
    objectOk id v q.cap.payload = true → (id = 0x0880 → s.haspForbids v = false) →
    (id ≠ 0x0503 → exec (.setParam tag) s = .next ((b.storeObject id v q.cap.payload).1.finish q (b.storeObject id v q.cap.payload).2 [] [])) ∧
    (id = 0x0503 → exec (.setParam tag) s = .next (b.storeGateCtl q v) ∧ exec (.gateCtl tag) s = .next (b.storeGateCtl q v)) ∧
    (id = 0x0300 → bitAt v 1 = true → exec (.revert tag) s = .next ((b.writeCalCtl v).finish q .ok [] [])) ∧
    (id = 0x0500 → bitsAt v 0 2 ≠ s.clk.refSel → exec (.refSel tag) s = .next ((b.storeClkCtl v).finish q .ok [] [])) ∧
    (id = 0x0200 → bitAt v 24 = true → exec (.repairGo tag) s = .next ((b.writeEngCtl v).1.finish q (b.writeEngCtl v).2 [] []))) ∧
  (∀ (s : State) (tag : BitVec 16) (q : Request), Takes s tag 0x43 q → s.gate.hostAsked = 0 → q.cap.arg 28 2 = 0x0184 → q.cap.len = 8 →
    q.cap.fieldsOk [(28, 4)] = true → q.cap.arg 30 2 = 0 → leNat q.cap.payload / 2 ^ 48 = 0 →
    ∃ t : State, exec (.alarmStatusClear tag) s = .next (t.finish q .ok [] []) ∧
      (∀ i < 16, t.mon.latched.getLsbD i = (s.mon.latched.getLsbD i && !bitAt (leNat q.cap.payload) (16 + i))) ∧
      (∀ i < 16, t.mon.sat.getLsbD i = (s.mon.sat.getLsbD i && !bitAt (leNat q.cap.payload) (32 + i))) ∧
      t = { s.begin q with mon := { s.mon with latched := t.mon.latched, sat := t.mon.sat } })

/-- COMMAND_TIMEOUT ends a command in progress that has no rule of its own for its maximum with TIMEOUT: it leaves the commands in progress and completes so; a
SLOT_COMMIT ends the same way and leaves its staging open, no longer armed (R365). Choices of the model that it rests on: log entry 43. -/
def Obligations.ACommandTimesOut : Prop :=
  ∀ (s : State) (tag : BitVec 16) (q : Request), s.ben.up = true → s.cyo.running.find? (fun r => r.cap.tag = tag) = some q →
    (∀ r ∈ (s.unrun q.cap.tag).cyo.running, r.cap.tag ≠ tag) ∧
    ([0x50, 0x53, 0x54, 0x5C, 0x4B, 0x65, 0x43].contains q.cap.op = false →
      exec (.commandTimeout tag) s = .next ((s.unrun q.cap.tag).finish q .timeout [] [])) ∧
    (q.cap.op = 0x65 → ∃ t : State, exec (.commandTimeout tag) s = .next (t.finish q .timeout t.commitResults []) ∧
      (∀ g, s.eng.staging = some g → g.tag = some q.cap.tag → t.eng.staging = some { g with state := 1, tag := none }) ∧ t.eng.active = s.eng.active ∧
      t = { s.unrun q.cap.tag with eng := t.eng })

/-- POWER_STATE is read only: GET_PARAM of it answers 0 in Active, 1 in Quiet-Latch and 2 in Dormant, and a SET_PARAM of its size completes with RANGE
(one of another LENGTH with LEN_RANGE, R361) (R40). -/
def Obligations.PowerStateReadsTheState : Prop :=
  ∀ (s : State) (tag : BitVec 16) (q : Request), q.cap.arg 28 2 = 0x0110 →
    (Takes s tag 0x42 q → Plain q [(28, 4), (32, 8)] → q.cap.arg 30 2 = 0 → q.cap.arg 32 4 = 0 → q.cap.arg 36 4 = 8 → 2 ≤ q.cap.rspan →
      ∃ n : Nat, exec (.getParam tag) s = .next ((s.begin q).finish q .ok [(32, 8), (32, 0), (64, s.time)] (leBytes 8 n)) ∧ n < 3 ∧
        (s.pwr.state = .active → n = 0) ∧ (s.pwr.state = .quietLatch → n = 1) ∧ (s.pwr.state = .dormant → n = 2)) ∧
    (Takes s tag 0x43 q →
      (q.cap.len = 8 → exec (.setParam tag) s = .next ((s.begin q).finish q .range [] [])) ∧
      (q.cap.len ≠ 8 → exec (.setParam tag) s = .next ((s.begin q).finish q .lenRange [] [])))

/-- WARD_COUNTERS reads its 16 counters of 32 bits in their order (R410). -/
def Obligations.WardCountersReadInOrder : Prop :=
  ∀ (s : State) (tag : BitVec 16) (q : Request), Takes s tag 0x42 q → Plain q [(28, 4), (32, 8)] → s.fuse.part.ward = true → q.cap.arg 28 2 = 0x0702 →
    q.cap.arg 30 2 = 0 → q.cap.arg 32 4 = 0 → q.cap.arg 36 4 = 64 → 2 ≤ q.cap.rspan →
    let c := s.ward.cnt
    exec (.getParam tag) s = .next ((s.begin q).finish q .ok [(32, 64), (32, 0), (64, s.time)]
      ([c.txProtected, c.rxVerified, c.rxIcvFail, c.rxReplay, c.rxNoSa, c.rxUntaggedDrop, c.txNoSaDrop, c.saAdvances, c.keyInstalls, c.keyRefused,
        c.sessionsOpened, c.mkpduRx, c.mkpduTx, c.mkpduBad, c.zeroizations, 0].flatMap (leBytes 4)))

/-! ### Firmware, self-test, sensors and memory -/

/-- Firmware update: an accepted chunk goes to the end of the slot that does not run and STAGED moves past it; the running slot is never
written (R425). An image that passes every check of Table 13-9 makes that slot valid with the image's version, security version and program
set (R426). FW_ACTIVATE of a valid slot names it in the activation marker and starts a Benash restart, its completion still owed (R427).
A trial that has run for 10 minutes is confirmed: it raises the anti-rollback counter to the image's SVN, never lower, and ends TRIAL (R427).
Choices of the model that it rests on: log entries 38 and 39. -/
def Obligations.FirmwareIsUpdated : Prop :=
  (∀ (s : State) (tag : BitVec 16) (bytes : List Byte) (q : Request), Takes s tag 0x59 q → Plain q [(28, 1), (32, 16)] → q.cap.arg 28 1 ≤ 1 →
    q.cap.arg 32 8 < 2 ^ 41 → 4096 ≤ q.cap.arg 40 4 → q.cap.arg 40 4 ≤ 1048576 → q.cap.arg 40 4 % 4096 = 0 →
    q.cap.arg 44 4 = (if bitAt (q.cap.arg 28 1) 0 then 0 else s.ben.staged) → q.cap.arg 44 4 + q.cap.arg 40 4 ≤ 4194304 →
    s.bufferFault (q.cap.arg 32 8) (q.cap.arg 40 4) false = none →
    ∃ t : State, exec (.fwStage tag bytes) s = .next (t.finish q .ok [(32, q.cap.arg 44 4 + q.cap.arg 40 4)] []) ∧
      t.ben.staged = q.cap.arg 44 4 + q.cap.arg 40 4 ∧ t.runSlot = s.runSlot ∧
      t.otherSlot.image = (if bitAt (q.cap.arg 28 1) 0 then [] else s.otherSlot.image) ++ fitBytes (q.cap.arg 40 4) bytes ∧
      (bitAt (q.cap.arg 28 1) 0 = true → t.otherSlot.valid = false)) ∧
  (∀ (s : State) (tag : BitVec 16) (q : Request), Takes s tag 0x5A q → Plain q [(28, 4)] →
    s.commitCheck s.otherSlot.image (q.cap.arg 28 4) = none →
    ∃ t : State, exec (.fwCommit tag) s = .next (t.finish q .ok [(32, imageField s.otherSlot.image 12 4)] []) ∧
      t.otherSlot.valid = true ∧ t.otherSlot.fwver = imageField s.otherSlot.image 12 4 ∧ t.otherSlot.svn = imageField s.otherSlot.image 16 4 ∧
      t.otherSlot.progver = imageField s.otherSlot.image 20 4 ∧ t.ben.commitReject = 0 ∧ t.runSlot = s.runSlot ∧ t.fp.event.getLsbD evBenash = true) ∧
  (∀ (s : State) (tag : BitVec 16) (q : Request), Takes s tag 0x5B q → Plain q [] → s.ben.recovery = false → s.otherSlot.valid = true →
    ∃ t : State, exec (.fwActivate tag) s = .next t ∧ t.nvm.markB = !s.ben.runB ∧ t.ben.up = false ∧ t.ben.activating = true ∧
      t.ben.restartSince = some s.time ∧ t.fp.event.getLsbD evBenash = true) ∧
  (∀ s : State, s.ben.trial = true → s.ben.up = true → s.ben.trialSince + 600000000000 ≤ s.time →
    ∃ t : State, exec .fwTrialConfirm s = .next t ∧ t.ben.trial = false ∧ t.fuse.rollback = max s.fuse.rollback (min 63 s.runSlot.svn) ∧
      t.fp.event.getLsbD evBenash = true)

/-- Self-tests: BIST_RUN starts the test of Table 13-13 with its steps planned (R434), BIST_ABORT stops the running test, which records END 1
and never PASS (R436, R437); at its end a test that completed every planned step with the expected signature and no failure records PASS, one
with a failed step FAIL, one with steps left undone INCOMPLETE, in BIST_LAST (R437, R443). Choices of the model that it rests on: log entries 41 and 42. -/
def Obligations.SelfTestsRunAndEnd : Prop :=
  (∀ (s : State) (tag : BitVec 16) (q : Request), Takes s tag 0x54 q → Plain q [(28, 4)] → s.ready .bist = true → s.bist.run = none →
    s.bistTargetOk (q.cap.arg 28 2) (q.cap.arg 30 2) = true → (s.begin q).bistTargetFree (q.cap.arg 28 2) (q.cap.arg 30 2) = true →
    s.bistMayStart = true → (q.cap.arg 28 2 = 2 ∨ q.cap.arg 28 2 = 3 → s.ready .line = true) →
    ∃ t : State, exec (.bistRun tag) s = .next t ∧
      t.bist.run = some { test := q.cap.arg 28 2, target := q.cap.arg 30 2, planned := bistSteps (q.cap.arg 28 2), since := s.time, draw := s.draws } ∧
      t.kw = s.kw ∧ t.link = s.link ∧ t.cyo.running = s.cyo.running ++ [{ q with since := s.time }]) ∧
  (∀ (s : State) (tag : BitVec 16) (q : Request) (r : BistRun), Takes s tag 0x55 q → Plain q [(28, 4)] → s.ready .bist = true →
    s.bist.run = some r → r.test = q.cap.arg 28 2 → r.target = q.cap.arg 30 2 → s.ben.sdPrep = false →
    ∃ t : State, exec (.bistAbort tag) s = .next (t.finish q .ok [] []) ∧ t.bist.run = none ∧ t.bist.lastEnd = 1 ∧ t.bist.lastResult ≠ 0 ∧
      t.bist.lastTest = r.test ∧ t.bist.lastTarget = r.target ∧ t.bist.runs = inc 16 s.bist.runs) ∧
  (∀ (s : State) (e : TestEnd) (r : BistRun), s.bist.run = some r →
    ∃ t : State, exec (.bistTestEnd e) s = .next t ∧ t.bist.run = none ∧ t.bist.lastTest = r.test ∧ t.bist.lastTarget = r.target ∧ t.bist.lastEnd = 0 ∧
      (e.failed = false → e.restored = true → r.planned ≤ e.done → e.signature = expectedSignature r.test r.target →
        t.bist.lastResult = 0 ∧ t.bist.fails = s.bist.fails) ∧
      (e.failed = true → t.bist.lastResult = 1 ∧ t.bist.fails = inc 16 s.bist.fails) ∧
      (e.failed = false → e.restored = true → e.done < r.planned → t.bist.lastResult = 2))

/-- The start-up test that ends without a failure and with the expected signature leaves the tested units usable and records PASS in BIST_LAST, with TEST 0x10 or 0x11
(R432); SHUTDOWN_PREP takes the link down administratively and runs the full test (R433); SD_RECORD_DISARM disarms the armed record with
DISARM 2 (R433). Choices of the model that it rests on: log entries 41 and 44. -/
def Obligations.TheShutDownRecordIsKept : Prop :=
  (∀ (s : State) (e : StartUpEnd), s.bist.startup = true → e.excursion = false → e.engines = [] → e.lanesOut = [] → e.lanesIn = [] → e.slices = [] →
    e.cells = [] → e.ldpc = false → e.pairs = 0 → e.signature = expectedSignature (if s.ben.startFull then 0x10 else 0x11) 0 →
    ∃ t : State, exec (.startUpTestEnd e) s = .next t ∧ t.bist.startup = false ∧ t.bist.passed = true ∧ t.bist.lastResult = 0 ∧
      t.bist.lastTest = (if s.ben.startFull then 0x10 else 0x11) ∧ t.bist.lineFail = 0 ∧ t.bist.ldpcFail = false ∧ t.fp = s.fp) ∧
  (∀ (s : State) (tag : BitVec 16) (q : Request), Takes s tag 0x5C q → Plain q [] → s.bist.run = none →
    s.bistMayStart = true →
    exec (.shutdownPrep tag) s =
      .next (((((s.begin q).adminDown).startRun q).modBen (fun b => { b with sdPrep := true })).startTest 0x10 0)) ∧
  (∀ (s : State) (r : SdRecord), s.nvm.sd = some r → r.armed = true →
    ∃ t : State, exec .sdRecordDisarm s = .next t ∧ t.nvm.sd = some { r with armed := false, disarm := 2 } ∧ t = { s with nvm := t.nvm })

/-- Sensors and memory: readings are stored as read (R416); a junction at or above 115 °C that was below sets FP_NME_STATUS.THERMAL (Table 13-3);
what every aging monitor finds, the largest slowing of
an oscillator pair and its element, is stored, and sets no alarm below the threshold (R418); an uncorrectable SRAM error sets FP_NME_STATUS.MEMORY and
restarts Benash, corrected ones only count (R419); an NVM scrub counts corrected lines and its age starts again (R419).
Choices of the model that it rests on: log entries 37, 45 and 80. -/
def Obligations.SensorsAndMemoryAreWatched : Prop :=
  (∀ (s : State) (temps : List Int) (supplies : List Nat), s.pwr.porHeld = false → s.pwr.warmHeld = false → temps.length = 6 → supplies.length = 10 →
    ∃ t : State, exec (.sensorRead temps supplies) s = .next t ∧ t.ben.temps = temps ∧ t.ben.supplies = supplies ∧
      (s.ben.cond.critical = false → (∀ x ∈ temps, x < 1150) → t.ben.cond.critical = false) ∧
      (s.ben.cond.critical = false → (∃ x ∈ temps, 1150 ≤ x) → t.ben.cond.critical = true ∧ t.fp.nme.getLsbD nmeThermal = true)) ∧
  (∀ (s : State) (fs : List (List (Nat × Nat))) (rs : List (Nat × Nat)), s.ben.up = true → fs.length = 12 → rs.length = 12 → s.ben.aging.length = 12 →
    (∀ m < 12, s.agingReading m (fs.getD m []) = some (rs.getD m (0, 0))) → (∀ r ∈ rs, r.1 < s.ben.agingThr * 10) → (∀ a ∈ s.ben.aging, a.alarm = false) →
    ∃ t : State, exec (.agingMeasure fs) s = .next t ∧ t.ben.aging.map (fun a => (a.reading, a.element)) = rs ∧
      (∀ a ∈ t.ben.aging, a.alarm = false) ∧ t = { s with ben := { s.ben with aging := t.ben.aging } }) ∧
  (∀ (s : State) (n : Nat), s.ben.up = true →
    exec (.sramScrub n false) s = .next { s with ben := { s.ben with sramCe := satAdd 16 s.ben.sramCe n } } ∧
    ∃ t : State, exec (.sramScrub n true) s = .next t ∧ t.ben.up = false ∧ t.fp.nme.getLsbD nmeMemory = true ∧ t.ben.sramCe = satAdd 16 s.ben.sramCe n ∧
      t.ben.restarts = inc 16 s.ben.restarts) ∧
  (∀ (s : State) (n : Nat), s.ben.up = true →
    ∃ t : State, exec (.nvmScrub n []) s = .next t ∧ t.ben.nvmCe = satAdd 16 s.ben.nvmCe n ∧ t.nvm = { s.nvm with scrubAt := s.porNs } ∧
      (0 < n → t.fp.event.getLsbD evBenash = true) ∧ (n = 0 → t.fp = s.fp))

/-- Benash restarts: the watchdog takes Benash down, ends a trial with the other slot in force and FALLBACK set, and is counted (R303, R427);
a second trip during the restart has no effect; when the boot ROM is through and no request was in progress, Benash is up again from the slot it takes and the waiting completions are
written (R366); a march test that fails outside a restart sets FP_NME_STATUS.MEMORY (R415); an escalation sets FP_NME_STATUS.ESCALATION and starts a core reset with its cause (R303, R311).
Choices of the model that it rests on: log entries 36 and 38. -/
def Obligations.BenashRestarts : Prop :=
  (∀ s : State, s.ben.up = true → s.bist.run = none →
    ∃ t : State, exec .benashWatchdog s = .next t ∧ t.ben.up = false ∧ t.ben.restartSince = some s.time ∧ t.ben.watchdogs = inc 16 s.ben.watchdogs ∧
      t.ben.restarts = inc 16 s.ben.restarts ∧ t.ben.trial = false ∧ t.ben.fallback = s.ben.trial ∧ t.kw.rings = s.kw.rings ∧ t.link = s.link ∧
      (s.ben.trial = true → t.nvm.markB = !s.ben.runB)) ∧
  (∀ s : State, s.ben.up = false → exec .benashWatchdog s = .next s) ∧
  (∀ s : State, s.ben.up = false → s.pwr.porHeld = false → s.pwr.warmHeld = false → s.pwr.coreSince = none → s.bootSlot.isSome = true →
    s.cyo.running = [] → s.ben.queue = [] → s.ben.lostNew = 0 → s.cal.run = none →
    ∃ t : State, exec (.benashRestartEnd true) s = .next (s.cyo.ended.foldl (fun u e => u.finish e.1 e.2.1 e.2.2 []) t) ∧
      t.cyo = { s.cyo with ended := [] } ∧ t.ben.up = true ∧ t.ben.restartSince = none ∧ t.ben.recovery = false ∧
      some t.ben.runB = s.bootSlot ∧ t.kw = s.kw) ∧
  (∀ s : State, s.ben.up = false → s.ben.restartSince = none → s.pwr.porHeld = false → s.pwr.warmHeld = false → s.pwr.coreSince = none →
    exec (.benashRestartEnd false) s = .next (s.raiseNme nmeMemory)) ∧
  (∀ s : State, s.heldReset = false → s.ben.restartSince.isSome = true → s.ben.trial = false →
    ∃ t : State, exec .escalation s = .next t ∧ t.fp.nme.getLsbD nmeEscalation = true ∧ t.pwr.coreSince = some s.time ∧ t.pwr.cause = 4 ∧
      t.nvm.boots = (s.nvm.boots + 1) % 2 ^ 32)

/-! ### Resets, rails, gates and balls -/

/-- Power-on and warm reset: POWER_ON_RESET_ASSERT puts everything but the fuses and non-volatile memory back to its reset value, so that FP_READY
reads 0; the release reads the straps, starts both clocks at 0, arms Hasp and counts the boot; RESET# low for 1 µs or more starts a warm reset with
cause 1 and its rise ends it, while less than 100 ns has no effect (R298, R415, R448, R449, R455, R456). CORE_RESET_RELEASE ends a core reset; a
unit reset of a unit other than the framer and the diagnostics unit changes nothing a command can read (R302, R304).
Choices of the model that it rests on: log entries 37, 50 and 52. -/
def Obligations.ResetsPutUnitsBack : Prop :=
  (∀ s : State, ∃ t : State, exec .powerOnResetAssert s = .next t ∧ t.pwr.porHeld = true ∧ t.readyValue = 0 ∧ t.fuse = s.fuse ∧ t.fp = {} ∧ t.kw = {} ∧
    t.cyo = {} ∧ t.ward = {} ∧ t.nvm = { s.nvm with scrubAt := 0 } ∧ t.pending = s.pending) ∧
  (∀ (s : State) (b : Bool) (a : BitVec 2) (l : Bool), s.pwr.porHeld = true → s.pwr.railLow.getLsbD 4 = false → s.hasp.meshBroken = false →
    ∃ t : State, exec (.powerOnReset b a l) s = .next t ∧ t.pwr.porHeld = false ∧ t.pwr.bootSel = b ∧ t.pwr.smbAddr = a.toNat ∧ t.pwr.lcHold = l ∧
      t.time = 0 ∧ t.porNs = 0 ∧ t.hasp.armed = true ∧ t.hasp.cfg = s.nvm.haspCfg ∧ t.nvm.boots = (s.nvm.boots + 1) % 2 ^ 32 ∧ t.bist.startup = true) ∧
  (∀ (s : State) (ns : Nat), s.pwr.porHeld = false → s.pwr.warmHeld = false → s.pwr.railLow.getLsbD 4 = false →
    (1000 ≤ ns → ∃ t : State, exec (.resetPin (.low ns)) s = .next t ∧ t.pwr.warmHeld = true ∧ t.pwr.cause = 1 ∧ t.fp.nme = 0 ∧ t.kw = {} ∧ t.fuse = s.fuse) ∧
    (ns < 100 → exec (.resetPin (.low ns)) s = .next s)) ∧
  (∀ (s : State) (b : Bool) (a : BitVec 2), s.pwr.porHeld = false → s.pwr.warmHeld = true →
    ∃ t : State, exec (.resetPin (.high b a)) s = .next t ∧ t.pwr.warmHeld = false ∧ t.pwr.bootSel = b ∧ t.pwr.smbAddr = a.toNat ∧ t.time = 0 ∧
      t.nvm.boots = (s.nvm.boots + 1) % 2 ^ 32) ∧
  (∀ s : State, s.pwr.coreSince.isSome = true → s.pwr.porHeld = false → s.pwr.warmHeld = false →
    ∃ t : State, exec .coreResetRelease s = .next t ∧ t.pwr.coreSince = none ∧ t = { s with pwr := t.pwr }) ∧
  (∀ (s : State) (u : Nat), s.heldReset = false → s.ben.up = true → u < 106 → u ≠ 100 → u ≠ 102 → exec (.unitReset u true) s = .next s)

/-- FP_RESET: with KEY 0xC5 and one of CORE, WARM and BENASH at 1, CORE starts a core reset (cause 3), WARM a warm reset (cause 2) and BENASH a
Benash restart; with another KEY, or more than one of them, only REFUSED sets (R299, R311). Choices of the model that it rests on: log entry 52. -/
def Obligations.FpResetNeedsItsKey : Prop :=
  (∀ (s : State) (v : BitVec 32), s.fpResetLive = true → bitsAt v.toNat 8 8 = 0xC5 →
    (v.getLsbD 0 = true → v.getLsbD 1 = false → v.getLsbD 2 = false → s.pwr.coreSince = none →
      ∃ t : State, exec (.fpResetCore v) s = .next t ∧ t.pwr.coreSince = some s.time ∧ t.pwr.cause = 3 ∧ t.pwr.kwUp = false ∧ t.fp.nme = s.fp.nme ∧
        t.fp.event = 0 ∧ t.nvm.boots = (s.nvm.boots + 1) % 2 ^ 32) ∧
    (v.getLsbD 0 = false → v.getLsbD 1 = true → v.getLsbD 2 = false →
      ∃ t : State, exec (.fpResetWarm v) s = .next t ∧ t.pwr.cause = 2 ∧ t.pwr.warmHeld = false ∧ t.time = 0 ∧ t.fp.nme = 0 ∧
        t.pwr.bootSel = s.pwr.bootSel ∧ t.nvm.boots = (s.nvm.boots + 1) % 2 ^ 32) ∧
    (v.getLsbD 0 = false → v.getLsbD 1 = false → v.getLsbD 2 = true → s.ben.up = true → s.ben.restartSince = none → s.pwr.coreSince = none →
      ∃ t : State, exec (.fpResetBenash v) s = .next t ∧ t.ben.up = false ∧ t.ben.restartSince = some s.time ∧ t.ben.restarts = inc 16 s.ben.restarts)) ∧
  (∀ (s : State) (v : BitVec 32), s.fpResetLive = true → v.getLsbD 0 = true → (bitsAt v.toNat 8 8 ≠ 0xC5 ∨ v.getLsbD 1 = true ∨ v.getLsbD 2 = true) →
    exec (.fpResetCore v) s = .next (s.setFp (fun f => { f with resetRefused := true })))

/-- PERST# and the rails: PERST# low takes Keyway's CXL side down, so that FP_READY.KEYWAY reads 0 and no ring is enabled, and is counted; its release
records the duration; a CXL rail that falls has the same effect and holds the CXL side; a fall and a recovery are each taken once; a supply loss
clears the volatile keys and sessions and leaves non-volatile memory and the latch (R301, R457, R458).
Keyway's CXL side: a link that trains at 8 GT/s or above while PERST# is high and the rails are good is up at its width, so that with
the core clock up FP_READY.KEYWAY can read 1; a configuration write sets what it names; WAKE# follows D3hot, PME_En and waiting completions (R313, R351).
Choices of the model that it rests on: log entries 33 and 51. -/
def Obligations.PerstAndRailsActOnTheirSide : Prop :=
  ((∀ (s : State) (l : List Nat), s.pwr.perst = false → s.pwr.porHeld = false → s.pwr.warmHeld = false →
    ∃ t : State, exec (.perstAssert l) s = .next t ∧ t.pwr.perst = true ∧ t.pwr.kwUp = false ∧ t.pwr.persts = inc 16 s.pwr.persts ∧ t.fp.event = 0 ∧
      t.fp.nme = s.fp.nme ∧ t.kw.status = {} ∧ t.link = s.link ∧ t.time = s.time) ∧
  (∀ s : State, s.pwr.perst = true → s.pwr.porHeld = false → s.pwr.warmHeld = false → s.pwr.persts ≠ 0 →
    ∃ t : State, exec .perstRelease s = .next t ∧ t.pwr.perst = false ∧ t.pwr.perstMs = min 0xFFFFFFFF ((s.time - s.pwr.perstSince) / 1000000) ∧
      t = { s with pwr := t.pwr, kw := t.kw }) ∧
  (∀ (s : State) (r : Nat), r < 5 → s.pwr.railLow.getLsbD r = false → s.pwr.porHeld = false →
    ∃ t : State, exec (.railUndervoltage r) s = .next t ∧ t.pwr.railLow.getLsbD r = true ∧ (r = 2 ∨ r = 3 → t.pwr.kwUp = false ∧ t.pwr.cxlHeld = true) ∧
      (r < 2 → t.dl.ready = false ∧ t.ready .line = false)) ∧
  (∀ (s : State) (r : Nat), r < 5 → s.pwr.railLow.getLsbD r = true →
    ∃ t : State, exec (.railRecovery r) s = .next t ∧ t.pwr.railLow.getLsbD r = false ∧
      (s.heldReset = false → r < 2 → t.pwr.railLow &&& 3 = 0 → t.dl.searching = some s.time) ∧ (r = 4 → s.heldReset = false → t.clk.stable = s.clk.stable &&& 1)) ∧
  (∀ s : State, s.pwr.porHeld = false →
    ∃ t : State, exec .supplyLoss s = .next t ∧ t.ward.drbg = false ∧ t.ward.storageKey = false ∧ t.ward.ideKeys = false ∧ t.spdm.sessions = [] ∧
      t.nvm.keks = s.nvm.keks ∧ t.nvm.cak = s.nvm.cak ∧ t.nvm.tamperCount = s.nvm.tamperCount ∧ t.hasp = s.hasp)) ∧
  ((∀ (s : State) (w gt : Nat), s.pwr.perst = false → s.pwr.cxlHeld = false → s.pwr.porHeld = false → s.pwr.warmHeld = false →
    s.pwr.railLow.getLsbD 2 = false → s.pwr.railLow.getLsbD 3 = false → w = 1 ∨ w = 2 ∨ w = 4 ∨ w = 8 → 8 ≤ gt →
    ∃ t : State, exec (.cxlLinkUp w gt) s = .next t ∧ t.kw.status.linkUp = true ∧ t.kw.status.width = w ∧
      t.kw.status.speed = (if 32 ≤ gt then 2 else if 16 ≤ gt then 1 else 0) ∧
      (s.clk.ready = true → s.pwr.coreSince = none → t.pwr.kwUp = true ∧ t.pwr.afterCore = false) ∧ t.kw.rings = s.kw.rings ∧
      t = { s with kw := { s.kw with status := t.kw.status }, pwr := { s.pwr with kwUp := t.pwr.kwUp, afterCore := t.pwr.afterCore } }) ∧
  (∀ (s : State) (w : ConfigWrite), s.pwr.perst = false → s.pwr.cxlHeld = false → s.pwr.porHeld = false → s.pwr.warmHeld = false →
    ∃ t : State, exec (.configurationWrite w) s = .next t ∧
      (∀ b, w = .power b → t.kw.status = { s.kw.status with d3hot := b, wake := b && (s.kw.status.wake || (s.kw.status.pmeEn && s.completionWaiting)) }) ∧
      (∀ b, w = .pme b → t.kw.status.pmeEn = b) ∧ (∀ b, w = .cache b → t.kw.status.cacheEn = b) ∧ (∀ b, w = .aspm b → t.kw.status.l1En = b) ∧
      t = { s with kw := { s.kw with status := t.kw.status } }))

/-- Clock gates: a request asks the unit; its acknowledgement closes the gate and is counted; a refusal withdraws the request and is counted; a
reopening opens the gate, and one for a held access counts a wake (R295, R296, R310). Choices of the model that it rests on: log entry 24. -/
def Obligations.GatesCloseByHandshake : Prop :=
  (∀ (s : State) (g : Nat), g < 106 → s.heldReset = false → s.gatePresent g = true → s.gate.closed.getLsbD g = false →
    ∃ t : State, exec (.gateCloseRequest g) s = .next t ∧ t.gate = { s.gate with asked := s.gate.asked ||| BitVec.twoPow 106 g } ∧
      (∀ e, t.engine e = { s.engine e with gateRefused := (s.engine e).gateRefused && decide (e ≠ g) }) ∧
      t = { s with gate := t.gate, eng := { s.eng with eng := t.eng.eng } }) ∧
  (∀ (s : State) (g : Nat), g < 106 → s.gate.asked.getLsbD g = true → s.unitBusy g = false → s.gate.hostAsked = 0 →
    ∃ t : State, exec (.gateIdleAck g) s = .next t ∧ t.gate.closed = s.gate.closed ||| BitVec.twoPow 106 g ∧ t.gate.asked.getLsbD g = false ∧
      t.gate.closes = inc 32 s.gate.closes ∧ t = { s with gate := t.gate }) ∧
  (∀ (s : State) (g : Nat), g < 106 → s.gate.asked.getLsbD g = true → s.gate.hostAsked = 0 →
    ∃ t : State, exec (.gateCloseRefused g) s = .next t ∧ t.gate.asked.getLsbD g = false ∧ t.gate.closed = s.gate.closed ∧
      t.gate.refusals = inc 16 s.gate.refusals ∧ t.gate.lastRefused = g ∧ (g < 96 → s.hasSlots g = true → t = { s with gate := t.gate }) ∧ t.link = s.link) ∧
  (∀ (s : State) (g : Nat) (access : Bool), g < 106 → (102 ≤ g → s.gate.hostClosed (g - 102) = false) → s.gate.closed.getLsbD g = true →
    ∃ t : State, exec (.gateReopen g access) s = .next t ∧ t.gate.closed.getLsbD g = false ∧
      t.gate.wakes = (if access then inc 32 s.gate.wakes else s.gate.wakes) ∧ t = { s with gate := t.gate })

/-- The SMBus target: at the address that the straps gave, with FP_READY.CLOCK at 1, outside resets and with VDD_IO in range, each Block Read of
Table 14-4 answers its bytes, with a PEC when one is clocked; codes 0x00 to 0x03 read live registers and 0x04 to 0x08 the latest snapshot; nothing
but the output changes. At any other address there is no answer (R451, R452). LED1 goes off after its 30 ms on (R449).
Choices of the model that it rests on: log entries 12 and 53. -/
def Obligations.TheSideBandOnlyReads : Prop :=
  (∀ (s : State) (a : Nat) (pec : Bool), s.smbAlive a = true →
    let ans := fun (code : Nat) (bs : List Byte) => (Host.Outcome.next (s.emit (.smb (if pec then bs ++ [smbPec a code bs] else bs))) : Host.Outcome State Fault Refusal)
    exec (.smbReadFpId a pec) s = ans 0 (leBytes 4 (packNat [(12, 0x5A7), (4, s.fuse.step), (16, 0)])) ∧
    exec (.smbReadFpCaps a pec) s = ans 1 (leBytes 8 s.fuse.part.capsValue) ∧
    exec (.smbReadFpReady a pec) s = ans 2 (leBytes 4 s.readyValue) ∧
    exec (.smbReadFpNmeStatus a pec) s = ans 3 (leBytes 4 s.fp.nme.toNat) ∧
    exec (.smbReadLinkStatus a pec) s = ans 4 (s.pageBytes 0x040 8) ∧
    exec (.smbReadPowerState a pec) s = ans 5 (s.pageBytes 0x368 8) ∧
    exec (.smbReadTemp a pec) s = ans 6 (s.pageBytes 0x380 12) ∧
    exec (.smbReadSupply a pec) s = ans 7 (s.pageBytes 0x38C 20) ∧
    exec (.smbReadAging a pec) s = ans 8 (s.pageBytes 0x3A0 24)) ∧
  (∀ (s : State) (a : Nat) (pec : Bool), a ≠ 0x68 + s.pwr.smbAddr → exec (.smbReadFpReady a pec) s = .next s) ∧
  (∀ s : State, s.heldReset = false → s.pwr.led1 = true → ∃ t : State, exec .led1Timer s = .next t ∧ t.pinLed1 = .released ∧ t.pwr.led1Off = true ∧
    t = { s with pwr := t.pwr })

/-! ### The clock unit -/

/-- The root and its sources: a window in which every running source is good and nothing is to be switched only records the measurements and,
while a link trains or runs with ML1's gate open, ML1's word (R288, R293, R308); an XIN in use that strays by more than 500 ppm is judged failed, with non-maskable event CLOCK, and the root goes over to
the IFO (R290); four IFO cycles without an edge put the root into holdover at once (R289); one second of holdover without a reference takes the link
down with cause CLOCK (R290); relocking sets ML0_LOCK and raises the event (R291). LCLK: a division of Table 9-2 for both sides is taken up to the
first training symbol, with the transmitter silent, and starts the sample cycle again; one the table does not hold, or unequal ones outside the T40 idle, changes
nothing (R286).
Choices of the model that it rests on: log entry 49. -/
def Obligations.TheClocksFollowTheirSources : Prop :=
  ((∀ (s : State) (a b c : Int), s.pwr.porHeld = false → s.pwr.warmHeld = false → s.pwr.railLow.getLsbD 4 = false → s.clk.stable = 7 →
    s.clk.xin0Cfg ≠ 0 → s.clk.xin1Cfg ≠ 0 → s.clk.isoFailed = false → s.clk.holdover = false → s.clk.ready = true → s.clk.refSel = s.clk.srcInUse →
    s.clk.srcInUse ≤ 2 → a.natAbs ≤ 5000 → b.natAbs ≤ 10000 → c.natAbs ≤ 10000 →
    ∃ t : State, exec (.clockMonitorWindow { ifo := some a, iso := true, x0 := some b, x1 := some c }) s = .next t ∧
      (t.clk.mon.at 2).offset = b ∧ (t.clk.mon.at 2).goodWin = min 255 ((s.clk.mon.at 2).goodWin + 1) ∧
      (t.clk.mon.at 2).worst = max (s.clk.mon.at 2).worst b.natAbs ∧ (t.clk.mon.at 3).offset = c ∧
      (s.link.state < 4 ∨ s.gate.closed.getLsbD 105 = true → t.clk.ml1 = s.clk.ml1) ∧
      t.clk = { s.clk with mon := t.clk.mon, ifoFirst := t.clk.ifoFirst, ml1 := t.clk.ml1 } ∧ t = { s with clk := t.clk }) ∧
  (∀ (s : State) (a b : Int), s.pwr.porHeld = false → s.pwr.warmHeld = false → s.pwr.railLow.getLsbD 4 = false → s.clk.stable = 3 →
    s.clk.failed = 0 → s.clk.xin0Cfg ≠ 0 → s.clk.xin1Cfg = 0 → s.clk.isoFailed = false → s.clk.ready = true → s.clk.refSel = 1 → s.clk.srcInUse = 1 →
    s.clk.revert = false → s.bist.run = none → s.bist.startup = false → a.natAbs ≤ 5000 → 50000 < b.natAbs → b.natAbs ≤ 1000000 →
    ∃ t : State, exec (.clockMonitorWindow { ifo := some a, iso := true, x0 := some b, x1 := none }) s = .next t ∧
      t.clk.srcInUse = 0 ∧ t.clk.stable = 1 ∧ t.clk.failed = 2 ∧ t.clk.fails = inc 8 s.clk.fails ∧ t.clk.ml0Lock = false ∧
      t.clk.switches = inc 16 s.clk.switches ∧ t.fp.nme = s.fp.nme ||| BitVec.twoPow 7 nmeClock ∧ t.link = s.link ∧ t.ward = s.ward) ∧
  (∀ s : State, s.clk.ready = true → s.clk.srcInUse ≠ 3 → s.bist.run = none → s.bist.startup = false →
    ∃ t : State, exec .referenceEdgeLoss s = .next t ∧ t.clk.holdover = true ∧ (s.clk.holdover = false → t.clk.holdSince = s.time) ∧
      t.clk = { s.clk with holdover := true, holdSince := t.clk.holdSince, ml0Lock := false } ∧ t = { s with clk := t.clk }) ∧
  (∀ s : State, s.clk.holdover = true → s.clk.srcInUse = 3 → s.clk.holdSince + 1000000000 ≤ s.time → 3 ≤ s.link.state →
    ∃ t : State, exec .holdoverExpiry s = .next t ∧ t.link.state = 2 ∧ t.link.trainLast.cause = 0xD) ∧
  (∀ s : State, s.clk.srcInUse ≤ 2 → s.clk.holdover = false → s.clk.ml0Lock = false → s.clk.stable.getLsbD s.clk.srcInUse = true →
    ∃ t : State, exec .ml0Relock s = .next t ∧ t.clk = { s.clk with ml0Lock := true, ready := true } ∧
      t.fp.event.getLsbD evClock = true ∧ t.link = s.link)) ∧
  ((∀ (s : State) (d : Nat), d ∈ lclkDivisions → s.link.state ≤ 3 → s.ql.run.hunt = none →
    ∃ t : State, exec (.lclkDivisionChange d d) s = .next t ∧ t.clk.dacDiv = d ∧ t.clk.adcDiv = d ∧ t.dl.cycleAt = s.dl.frameNo ∧
      t = { s with clk := { s.clk with dacDiv := d, adcDiv := d }, dl := { s.dl with cycleAt := s.dl.frameNo, cyclePeriod := s.eng.period } }) ∧
  (∀ (s : State) (dac adc : Nat), dac ∉ lclkDivisions ∨ adc ∉ lclkDivisions ∨ (dac ≠ adc ∧ s.link.state ≠ 8) →
    exec (.lclkDivisionChange dac adc) s = .next s))

/-! ### The state page and monitoring -/

/-- The state page: at an epoch with FP_STATE_ADDR enabled, no publication in progress and its window usable, line 0 takes an odd SEQ and the page of
this boundary is what the host will read; an epoch that finds a publication in progress, or no enabled page, only counts in SKIPPED and evaluates
the snapshot; the end of a publication writes line 0 with the next, even, SEQ (R321, R367, R368, R369).
Choices of the model that it rests on: log entry 46. -/
def Obligations.TheStatePageIsPublishedInTwoSteps : Prop :=
  (∀ s : State, s.heldReset = false → s.ben.up = true → s.page.busy = false → s.fp.pageEn = true → s.windowKind (4096 * s.fp.pageAddr) 4096 true = 0 →
    ∃ t : State, exec .statePageEpoch s = .next t ∧ t.page.busy = true ∧ t.page.seq.getLsbD 0 = true ∧ t.page.snapshot = s.snapshotBytes ∧
      t.page.head = s.snapshotBytes.take 56 ∧ t.page.addr = 4096 * s.fp.pageAddr ∧ t.page.skipped = s.page.skipped ∧ t.kw = s.kw ∧ t.link = s.link ∧
      t.eng = s.eng ∧ t.cyo = s.cyo) ∧
  (∀ s : State, s.heldReset = false → s.ben.up = true → (s.page.busy = true ∨ s.fp.pageEn = false) →
    ∃ t : State, exec .statePageEpoch s = .next t ∧ t.page = { s.page with snapshot := s.snapshotBytes, skipped := inc 32 s.page.skipped } ∧
      t.mon.evals = s.mon.evals + 1 ∧ t.kw = s.kw ∧ t.link = s.link) ∧
  (∀ s : State, s.page.busy = true → s.windowKind s.page.addr 64 true = 0 → s.pwr.perstNote = false →
    ∃ t : State, exec .statePagePublished s = .next t ∧ t.page = { s.page with busy := false, seq := s.page.seq + 1 } ∧ t.fp.pageFault = false ∧
      (s.page.seq.getLsbD 0 = true → t.page.seq.getLsbD 0 = false) ∧ t = { s with page := t.page, fp := t.fp, out := t.out })

/-- Monitoring: TREND_INTERVAL makes the interval's MIN, MEAN and MAX the newest of at most 64 entries of each pair; FAR_REPORT_TIMER queues one
report; a FAR_REPORT with a good CRC is counted and its time kept; a cable discharge is counted at its pair; a merged event signal goes out as
vector 1,002 (R38, R276, R277, R280, R318). Choices of the model that it rests on: log entries 35, 47, 48 and 54. -/
def Obligations.MonitoringKeepsItsRecords : Prop :=
  (∀ s : State, s.ben.up = true →
    ∃ t : State, exec .trendInterval s = .next t ∧ (∀ p, t.mon.trend.at p = (trendOf (s.mon.samples.at p) :: s.mon.trend.at p).take 64 ∧
      t.mon.samples.at p = []) ∧ t.mon.count = min 64 (s.mon.count + 1) ∧
      t = { s with mon := { s.mon with trend := t.mon.trend, samples := t.mon.samples, head := t.mon.head, count := t.mon.count } }) ∧
  (∀ s : State, s.ben.up = true → s.nativeData = true → s.mon.reportMs ≠ 0 → s.ql.run.txState = 0 → s.link.frt.want = false → s.page.snapshot ≠ [] →
    ∃ (t : State) (item : List Byte), exec .farReportTimer s = .next t ∧ t.lc.run.oam = s.lc.run.oam ++ [item] ∧ item.length = 64 ∧ leAt item 0 2 = 1 ∧
      t.mon.oamTx = inc 32 s.mon.oamTx ∧ t = { s with mon := { s.mon with oamTx := t.mon.oamTx }, lc := { s.lc with run := t.lc.run } }) ∧
  (∀ (s : State) (x : List Byte) (l : List (List Byte)), s.lc.oamIn = x :: l → oamOk x = true → leAt x 0 2 = 1 →
    ∃ t : State, exec .farReport s = .next t ∧ t.lc.oamIn = l ∧ t.mon.oamRx = inc 32 s.mon.oamRx ∧ t.mon.farAt = some s.time ∧
      (∀ q, (t.mon.far.at q).uncorr = leAt x (24 + 4 * (s.link.map.far.at q).val) 4) ∧
      t = { s with mon := { s.mon with oamRx := t.mon.oamRx, farAt := t.mon.farAt, far := t.mon.far }, lc := { s.lc with oamIn := l } }) ∧
  (∀ (s : State) (p : Pair), s.pwr.porHeld = false → s.pwr.warmHeld = false → s.pwr.railLow &&& 3 = 0 →
    ∃ t : State, exec (.cableDischarge p) s = .next t ∧ t.pwr.discharge.at p = inc 16 (s.pwr.discharge.at p) ∧
      (∀ q, q ≠ p → t.pwr.discharge.at q = s.pwr.discharge.at q) ∧ t.link = s.link ∧ t.kw = s.kw) ∧
  (∀ s : State, s.fp.mergeDue = true →
    ∃ t : State, exec .eventSignalMerge s = .next t ∧ t.fp.mergeDue = false ∧ t.fp.lastGeneral = some s.time ∧ t.fp.event = s.fp.event ∧
      (s.kw.status.linkUp = true → s.pwr.kwUp = true → (sget {} s.fp.msix 1002).masked = false →
        t.out = Out.msix 1002 (sget {} s.fp.msix 1002).addr (sget {} s.fp.msix 1002).data :: s.out) ∧ t = { s with fp := t.fp, out := t.out })

/-! ### Keyway -/

/-- Submission: a ring that may be served, and in the round of R341, takes one capsule whole from SQ_HEAD, which advances by its lines, and an accepted flow capsule waits at the
end of the capsules taken up, with the flow's generation; one that fails Table 10-17 is refused by a SEND_DONE with the status of the first failure;
an accepted control command with an opcode of Table 11-1 and a TAG not in use goes to Benash's inbox. No other ring changes (R328, R340, R356).
Choices of the model that it rests on: log entries 51 and 81. -/
def Obligations.SubmissionsAreTakenInOrder : Prop :=
  ∀ (s : State) (i : Nat) (c : Capsule), s.mayServe i = true → s.inRound i (roundLen c) = true → c.span = spanOf c.len → c.len ≤ 16384 →
    (∀ k < c.span, s.windowKind (ringLine (s.ring i).sqAddr (s.ring i).sqLog2 (s.ring i).sqHead k) 64 false = 0) →
    64 * c.span ≤ ((s.ring i).sqTail - (s.ring i).sqHead).toNat → 64 * roomOwed i c ≤ (s.ring i).free → (i = controlRing ∨ s.txUsed + c.len ≤ 524288) →
    let sq := (s.ring i).sqHead + BitVec.ofNat 32 (64 * c.span)
    (i ≠ controlRing → s.checkFlowCapsule i c = none →
      ∃ t : State, exec (.submissionFetch i c) s = .next t ∧ (t.ring i).accepted = (s.ring i).accepted ++ [⟨c, (s.flow i).gen, (s.flow i).assoc⟩] ∧
        t.ring i = { s.ring i with sqHead := sq, accepted := (t.ring i).accepted, reserved := (t.ring i).reserved, deficit := s.deficitAfter i (roundLen c) sq } ∧
        t.kw.turn = some i ∧ (∀ j, j ≠ i → t.ring j = s.ring j) ∧ t.kw.cnt.capsIn = inc 32 s.kw.cnt.capsIn ∧ t = { s with kw := t.kw, flows := t.flows }) ∧
    (∀ st, i ≠ controlRing → s.checkFlowCapsule i c = some st →
      ∃ (t : State) (d : Completion), exec (.submissionFetch i c) s = .next t ∧ (t.ring i).placed = (s.ring i).placed ++ [d] ∧ d.opcode = 0x83 ∧
        d.status = st ∧ d.tag = c.tag.toNat ∧ d.seq = (s.ring i).cqSeq ∧
        t.ring i = { s.ring i with sqHead := sq, placed := (t.ring i).placed, cqSeq := (s.ring i).cqSeq + 1, deficit := s.deficitAfter i (roundLen c) sq } ∧
        (∀ j, j ≠ i → t.ring j = s.ring j) ∧ t = { s with kw := t.kw, flows := t.flows }) ∧
    (i = controlRing → checkControlCapsule c = none → c.opcode.toNat ∈ cyonerOpcodes → (0x70 ≤ c.opcode.toNat → s.fuse.part.ward = true) →
      (∀ o ∈ s.cyo.outstanding, o.cap.tag ≠ c.tag) →
      ∃ t : State, exec (.submissionFetch i c) s = .next t ∧ t.cyo = { s.cyo with inbox := s.cyo.inbox ++ [{ cap := c, room := roomOwed i c }] } ∧
        t.ring i = { s.ring i with sqHead := sq, reserved := (s.ring i).reserved + roomOwed i c } ∧ (∀ j, j ≠ i → t.ring j = s.ring j) ∧
        t = { s with kw := t.kw, cyo := t.cyo })

/-- NOP and FENCE at the head of the capsules taken up go in flight with nothing to send; SEND and SEND_MULTI pass their frames, in order and
protected where the flow is, to the transmit buffer; SEND_DONE completes the oldest capsule in flight once none of its frames is left, with the number
of frames sent (R336, R337, R341, R379). Choices of the model that it rests on: log entry 55. -/
def Obligations.CapsulesAreExecutedInOrder : Prop :=
  (∀ (s : State) (i : Nat) (a : Accepted) (rest : List Accepted), (s.ring i).accepted = a :: rest →
    (∀ c : Instr, (c = .nop i ∧ a.cap.opcode.toNat = 0) ∨ (c = .fence i ∧ a.cap.opcode.toNat = 3) →
      ∃ (t : State) (f : InFlight), exec c s = .next t ∧ f.left = 0 ∧ f.sent = 0 ∧ f.tag = a.cap.tag.toNat ∧ f.gen = a.gen ∧
        t.ring i = { s.ring i with accepted := rest, inflight := (s.ring i).inflight ++ [f] } ∧ (∀ j, j ≠ i → t.ring j = s.ring j) ∧
        t = { s with kw := { s.kw with rings := t.kw.rings } }) ∧
    (∀ c : Instr, (c = .send i ∧ a.cap.opcode.toNat = 1) ∨ (c = .sendMulti i ∧ a.cap.opcode.toNat = 2) →
      ∃ (t : State) (f : InFlight) (fs : List TxFrame), exec c s = .next t ∧ t.kw.txBuf = s.kw.txBuf ++ fs ∧ f.left = fs.length ∧ f.sent = 0 ∧
        f.tag = a.cap.tag.toNat ∧ (∀ x ∈ fs, x.ring = i ∧ x.gen = a.gen) ∧ (f.failed = true ↔ fs.length < ((a.cap.frames).getD []).length) ∧
        (s.fuse.part.ward = false ∨ (assocNone a.assoc = true ∧ s.ward.linkEn = false) → fs.map TxFrame.bytes = (a.cap.frames).getD []) ∧
        t.ring i = { s.ring i with accepted := rest, inflight := (s.ring i).inflight ++ [f] } ∧ (∀ j, j ≠ i → t.ring j = s.ring j) ∧
        t.link = s.link ∧ t.flows = s.flows ∧ t.cyo = s.cyo)) ∧
  (∀ (s : State) (i : Nat) (f : InFlight) (rest : List InFlight), (s.ring i).inflight = f :: rest → f.left = 0 → f.doneReq = true →
    (i = controlRing → f.opcode = 3 → s.cyo.outstanding = []) → (s.ring i).running = true →
    ∃ (t : State) (d : Completion), exec (.sendDone i) s = .next t ∧ (t.ring i).placed = (s.ring i).placed ++ [d] ∧ d.opcode = 0x83 ∧ d.tag = f.tag ∧
      d.status = (if f.failed then .notReady else .ok) ∧ d.stamp = f.stamp ∧ d.args = packBytes 40 [(8, f.opcode), (8, f.sent), (16, 0), (32, f.gen)] ∧
      t.ring i = { s.ring i with inflight := rest, placed := (t.ring i).placed, cqSeq := (s.ring i).cqSeq + 1, reserved := (s.ring i).reserved - 1 } ∧
      (∀ j, j ≠ i → t.ring j = s.ring j) ∧ t = { s with kw := { s.kw with rings := t.kw.rings } })

/-- Front Panel: FP_EVENT and FP_NME_STATUS clear by ones, and vector 1,002 or 1,001 is signalled again while an enabled flag, or any
non-maskable one, stays set; FP_EVENT_EN is stored; reads of the 16-bit counters and of FP_FAULT_INFO answer the value and clear it; FP_STATE_ADDR
stores EN and PAGE; an enabled window takes only the write that clears EN; an MMIO write to an address reaches the register there; a snoop is answered
RspIHitI. Nothing else changes (R312, R315, R318, R319, R321, R322, R323). Choices of the model that it rests on: log entry 22. -/
def Obligations.FrontPanelRegistersAnswer : Prop :=
  (∀ (s : State) (v : BitVec 32), s.fpLive = true →
    let e := s.fp.event &&& ~~~(v.truncate 13)
    let n := s.fp.nme &&& ~~~(v.truncate 7)
    (∃ t : State, exec (.fpEventWrite v) s = .next t ∧ t.fp.event = e ∧ t.fp.eventEn = s.fp.eventEn ∧ t.fp.eventCnt = s.fp.eventCnt ∧
      (e &&& s.fp.eventEn = 0 → t = { s with fp := { s.fp with event := e } }) ∧
      (e &&& s.fp.eventEn ≠ 0 → t = (s.setFp (fun f => { f with event := e })).signalGeneral)) ∧
    (∃ t : State, exec (.fpEventEnWrite v) s = .next t ∧ t.fp.eventEn = v.truncate 13 ∧ t.fp.event = s.fp.event ∧ t = { s with fp := t.fp, out := t.out }) ∧
    (∃ t : State, exec (.fpNmeStatusWrite v) s = .next t ∧ t.fp.nme = n ∧ t.fp.nmeCnt = s.fp.nmeCnt ∧
      (n = 0 → t = { s with fp := { s.fp with nme := n } }) ∧ (n ≠ 0 → t = (s.setFp (fun f => { f with nme := n })).signalVector 1001)) ∧
    (exec (.registerWrite 0 0x40 false (v.zeroExtend 64)) s = exec (.fpNmeStatusWrite v) s)) ∧
  (∀ (s : State) (w : Nat) (wide : Bool), s.fpLive = true → s.tablesOk = true → (wide = true → w % 2 = 0) →
    let n := if wide then 4 else 2
    (w < 8 → ∃ t : State, exec (.fpEventCntRead w wide) s = .next t ∧
      t.out = .regRead (packNat ((List.range n).map (fun j => (16, sget 0 s.fp.eventCnt (2 * w + j))))) :: s.out ∧
      (∀ k, sget 0 t.fp.eventCnt k = if 2 * w ≤ k ∧ k < 2 * w + n then 0 else sget 0 s.fp.eventCnt k) ∧
      t = { s with fp := { s.fp with eventCnt := t.fp.eventCnt }, out := t.out }) ∧
    (w < 4 → ∃ t : State, exec (.fpNmeCntRead w wide) s = .next t ∧
      t.out = .regRead (packNat ((List.range n).map (fun j => (16, sget 0 s.fp.nmeCnt (2 * w + j))))) :: s.out ∧
      (∀ k, sget 0 t.fp.nmeCnt k = if 2 * w ≤ k ∧ k < 2 * w + n then 0 else sget 0 s.fp.nmeCnt k) ∧
      t = { s with fp := { s.fp with nmeCnt := t.fp.nmeCnt }, out := t.out })) ∧
  (∀ s : State, s.fpLive = true →
    exec .fpFaultInfoRead s = .next { s with
      fp := { s.fp with faultCount := 0 }
      out := .regRead (packNat [(10, s.fp.faultSource), (3, s.fp.faultKind), (3, 0), (16, s.fp.faultCount)]) :: s.out }) ∧
  (∀ (s : State) (v : BitVec 64), s.fpLive = true →
    exec (.fpStateAddrWrite v) s = .next { s with fp := { s.fp with pageEn := v.getLsbD 0, pageAddr := v.toNat / 2 ^ 12 % 2 ^ 29 } }) ∧
  (∀ (s : State) (w off : Nat) (wide : Bool) (v : BitVec 64), s.fpLive = true → w < 64 → off < 16 → aligned off wide = true →
    ∃ t : State, exec (.windowWrite w off wide v) s = .next t ∧
      (s.tablesOk = true → (sget {} s.fp.windows w).en = false → wide = true → (off = 0 → v.getLsbD 0 = false →
        sget {} t.fp.windows w = { sget {} s.fp.windows w with lo := v &&& windowMask }) ∧
        (off = 8 → sget {} t.fp.windows w = { sget {} s.fp.windows w with hi := v &&& 0xFFFFFF })) ∧
      ((sget {} s.fp.windows w).en = true → off = 0 → v.getLsbD 0 = false → (sget {} s.fp.windows w).lo ≠ 1 ∨ (sget {} s.fp.windows w).hi ≠ 0 →
        sget {} t.fp.windows w = { sget {} s.fp.windows w with lo := (sget {} s.fp.windows w).lo &&& ~~~1 }) ∧
      ((sget {} s.fp.windows w).en = true → 8 ≤ off ∨ v.getLsbD 0 = true → sget {} t.fp.windows w = sget {} s.fp.windows w) ∧
      (∀ j, j ≠ w → sget {} t.fp.windows j = sget {} s.fp.windows j) ∧ t = { s with fp := { s.fp with windows := t.fp.windows } }) ∧
  (∀ (s : State) (i : Nat) (v : BitVec 64), s.fpLive = true → s.tablesOk = true → i < 1000 → (s.ring i).en = false →
    ∃ t : State, exec (.registerWrite 0 (0x8000 + 32 * i) true v) s = .next t ∧ t.ring i = { s.ring i with sqAddr := v &&& ringAddrMask } ∧
      (∀ j, j ≠ i → t.ring j = s.ring j) ∧ t = { s with kw := { s.kw with rings := t.kw.rings } }) ∧
  (∀ s : State, s.kw.status.linkUp = true → exec .h2dSnoop s = .next { s with out := .rspIHitI :: s.out })

/-- Rings: a write of EN that meets the checks starts the pair, counters 0 and CQ_SEQ at SEQ_BASE; clearing EN stops it, and what it had placed, accepted
or in flight without being at the framer is given up and counted; an SQ_TAIL or CQ_HEAD that is a multiple of 64 and lies in its range is stored, any
other is counted and ignored; RESET clears the counters and the fault, and CQ_SEQ stays (R326, R328, R329, R330).
Choices of the model that it rests on: log entries 11 and 56. -/
def Obligations.RingsStartStopAndRing : Prop :=
  ∀ (s : State) (i : Nat), s.fpLive = true → ringExists i = true → s.tablesOk = true →
    (∀ v : BitVec 32, v.getLsbD 16 = true → (s.ring i).en = false →
      s.mayEnable { s.ring i with sqLog2 := v.toNat % 2 ^ 5, cqLog2 := v.toNat / 2 ^ 8 % 2 ^ 5 } = true →
      ∃ t : State, exec (.ringEnable i v) s = .next t ∧ (t.ring i).running = !(s.ring i).resetting ∧ (t.ring i).sqTail = 0 ∧ (t.ring i).sqHead = 0 ∧
        (t.ring i).cqTail = 0 ∧ (t.ring i).cqHead = 0 ∧ (t.ring i).cqSeq = (s.ring i).seqBase ∧ (t.ring i).irqHoldoff = v.toNat / 2 ^ 24 % 2 ^ 8 ∧
        (i ≠ controlRing → (t.flow i).heldOver = false) ∧ (∀ j, j ≠ i → t.ring j = s.ring j ∧ t.flow j = s.flow j) ∧
        t = { s with kw := { s.kw with rings := t.kw.rings, stagingUsed := t.kw.stagingUsed }, flows := t.flows }) ∧
    (∀ v : BitVec 32, v.getLsbD 16 = false → (s.ring i).en = true →
      ∃ t : State, exec (.ringStop i v) s = .next t ∧ (t.ring i).en = false ∧ (t.ring i).placed = [] ∧ (t.ring i).accepted = [] ∧ (t.ring i).reserved = 0 ∧
        (t.ring i).cqSeq = (s.ring i).cqSeq ∧ (t.ring i).written = (s.ring i).written ∧ t.kw.cnt.doneLost = satAdd 32 s.kw.cnt.doneLost (s.ring i).owed ∧
        (∀ j, j ≠ i → t.ring j = s.ring j) ∧ (i ≠ controlRing → t.cyo = s.cyo) ∧ t = { s with kw := t.kw, cyo := t.cyo, flows := t.flows }) ∧
    ((s.ring i).en = true → (s.ring i).resetting = false → ∀ v : BitVec 32,
      (v.toNat % 64 = 0 → ((s.ring i).sqTail - (s.ring i).sqHead).toNat ≤ (v - (s.ring i).sqHead).toNat → (v - (s.ring i).sqHead).toNat ≤ 2 ^ (s.ring i).sqLog2 →
        ∃ t : State, exec (.sqTailWrite i v) s = .next t ∧ t.ring i = { s.ring i with sqTail := v } ∧ (∀ j, j ≠ i → t.ring j = s.ring j) ∧
          t = { s with kw := { s.kw with rings := t.kw.rings } }) ∧
      (v.toNat % 64 = 0 → ((s.ring i).cqTail - v).toNat ≤ ((s.ring i).cqTail - (s.ring i).cqHead).toNat →
        ∃ t : State, exec (.cqHeadWrite i v) s = .next t ∧ t.ring i = { s.ring i with cqHead := v } ∧ (∀ j, j ≠ i → t.ring j = s.ring j) ∧
          t = { s with kw := { s.kw with rings := t.kw.rings } }) ∧
      (v.toNat % 64 ≠ 0 →
        ∃ t : State, exec (.sqTailWrite i v) s = .next t ∧ t.kw.rings = s.kw.rings ∧ t.kw.cnt.dbBad = inc 32 s.kw.cnt.dbBad ∧
          t.fp.event.getLsbD evKeyway = true ∧ exec (.cqHeadWrite i v) s = .next t) ∧
      (∃ t : State, exec (.ringReset i) s = .next t ∧ (t.ring i).sqTail = 0 ∧ (t.ring i).sqHead = 0 ∧ (t.ring i).cqTail = 0 ∧ (t.ring i).cqHead = 0 ∧
        (t.ring i).cqSeq = (s.ring i).cqSeq ∧ (t.ring i).running = true ∧ (t.ring i).fault = 0 ∧ (t.ring i).placed = [] ∧ (t.ring i).written = [] ∧
        (∀ j, j ≠ i → t.ring j = s.ring j)))

/-- Completions: the oldest one placed on a running ring is written, its header line last, with the VALID bit, its SEQ and its SPAN; once its header is
observed CQ_TAIL advances by its SPAN and the ring's vector is signalled, or deferred under IRQ_HOLDOFF, whose expiry signals it; a pause closes an open
capsule as a RECV when it holds one frame, else as a RECV_MULTI (R333, R334, R344, R346). Choices of the model that it rests on: log entries 11 and 54. -/
def Obligations.CompletionsReachTheHost : Prop :=
  (∀ (s : State) (i : Nat) (c : Completion) (rest : List Completion), ringExists i = true → (s.ring i).placed = c :: rest → c.ready = true →
    (s.ring i).running = true → s.kw.status.d3hot = false → s.pwr.kwUp = true →
    let r := s.ring i
    let pos := r.cqTail + BitVec.ofNat 32 (64 * sumNat (r.written.map (·.span)))
    let a := ringLine r.cqAddr r.cqLog2 pos 0
    let w := sget {} s.fp.windows (a / 2 ^ 35 % 64)
    (∀ k < c.span, s.windowKind (ringLine r.cqAddr r.cqLog2 pos k) 64 true = 0) →
    ∃ t : State, exec (.completionWrite i) s = .next t ∧
      t.out.head? = some (.hostWrite w.coherent (w.base + a % 2 ^ 35) (fitBytes 64 (c.header s.time c.payload.length))) ∧
      t.ring i = { r with placed := rest, written := r.written ++ [c] } ∧ (∀ j, j ≠ i → t.ring j = s.ring j) ∧
      t.kw.cnt.capsOut = inc 32 s.kw.cnt.capsOut ∧ t = { s with kw := t.kw, flows := t.flows, out := t.out }) ∧
  (∀ (s : State) (i : Nat) (c : Completion) (rest : List Completion), s.tablesOk = true → (s.ring i).written = c :: rest →
    ∃ t : State, exec (.completionObserved i) s = .next t ∧ (t.ring i).cqTail = (s.ring i).cqTail + BitVec.ofNat 32 (64 * c.span) ∧
      (t.ring i).written = rest ∧ (t.ring i).placed = (s.ring i).placed ∧ (t.ring i).cqHead = (s.ring i).cqHead ∧
      ((s.ring i).lastSignal = none → (t.ring i).lastSignal = some s.time) ∧ (∀ j, j ≠ i → t.ring j = s.ring j) ∧
      t.kw.stagingUsed = s.kw.stagingUsed - c.staged ∧
      t = { s with kw := { s.kw with rings := t.kw.rings, stagingUsed := t.kw.stagingUsed }, fp := t.fp, out := t.out }) ∧
  (∀ (s : State) (i : Nat), (s.ring i).signalDue = true →
    ∃ t : State, exec (.irqHoldoffExpiry i) s = .next t ∧ t.ring i = { s.ring i with signalDue := false, lastSignal := some s.time } ∧
      (∀ j, j ≠ i → t.ring j = s.ring j) ∧ t = { s with kw := { s.kw with rings := t.kw.rings }, fp := t.fp, out := t.out }) ∧
  (∀ (s : State) (i : Nat) (m : OpenMulti), ringExists i = true → (s.ring i).multi = some m →
    ∃ (t : State) (c : Completion), exec (.rxMultiClose i) s = .next t ∧ (t.ring i).placed = (s.ring i).placed ++ [c] ∧ (t.ring i).multi = none ∧
      c.opcode = (if m.frames.length = 1 then 0x81 else 0x82) ∧ c.fcount = m.frames.length - 1 ∧ c.seq = (s.ring i).cqSeq ∧ c.stamp = some m.stamp ∧
      (∀ j, j ≠ i → t.ring j = s.ring j) ∧ t = { s with kw := { s.kw with rings := t.kw.rings } })

/-- Received frames: a frame that no early head or association has claimed goes to the flow that its rule selects, as a RECV with its bytes and time, or is
counted where the flow's ring does not run; a held frame is delivered once its flow is set up again, with RXINFO.HELD, and counted; without a SecTAG
and without a link association a frame passes Ward; under strict validation it is discarded and counted; an MKPDU is taken from the stream, counted by
its ICV, and a live peer's SAK is installed (R301, R343, R349, R380, R382, R383). Choices of the model that it rests on: log entries 30, 31 and 55. -/
def Obligations.ReceivedFramesFindTheirFlow : Prop :=
  (∀ (s : State) (x : RxFrame), s.nextFrame = some x → x.cls = none → x.forced = none → x.good = true →
    let f := (s.classifyBytes (presentBytes x.bytes)).1
    assocNone (s.flow f).assoc = true → (s.flow f).heldOver = false → (∀ h ∈ s.kw.hold, h.flow ≠ f) →
    ((s.ring f).running = true → (s.ring f).rxMulti = false → s.kw.stagingUsed + x.bytes.length ≤ 524288 →
      64 * spanOf x.bytes.length ≤ (s.ring f).free →
      ∃ (t : State) (c : Completion), exec .frameClassify s = .next t ∧ (t.ring f).placed = (s.ring f).placed ++ [c] ∧ c.opcode = 0x81 ∧ c.flow = f ∧
        c.payload = x.bytes ∧ c.stamp = some x.stamp ∧ c.status = .ok ∧ c.seq = (s.ring f).cqSeq ∧ c.span = spanOf x.bytes.length ∧
        (∀ j, j ≠ f → t.ring j = s.ring j) ∧ t.kw.stagingUsed = s.kw.stagingUsed + x.bytes.length ∧ t = { s with kw := t.kw }) ∧
    ((s.ring f).running = false →
      ∃ t : State, exec .frameClassify s = .next t ∧ t.kw.rings = s.kw.rings ∧ t.kw.cnt.rxDropRing = inc 32 s.kw.cnt.rxDropRing ∧
        t = { s with kw := t.kw, flows := t.flows })) ∧
  (∀ (s : State) (f : Nat) (h : HeldFrame) (c : Machine.Class), s.kw.hold.find? (fun h => h.flow = f) = some h → h.frame.cls = some c → c.flow = f →
    h.frame.good = true → s.pwr.perst = false → (s.flow f).heldOver = false → (s.ring f).running = true → (s.ring f).rxMulti = false →
    s.kw.stagingUsed + h.frame.bytes.length ≤ 524288 → 64 * spanOf h.frame.bytes.length ≤ (s.ring f).free →
    ∃ (t : State) (d : Completion), exec (.heldFrameDelivery f) s = .next t ∧ (t.ring f).placed = (s.ring f).placed ++ [d] ∧
      d.args = recvArgs c.gen (rxInfo h.frame c.byDefault true) h.frame.sci ∧ t.kw.hold = s.kw.hold.erase h ∧
      t.pwr.rxHeldFrames = inc 32 s.pwr.rxHeldFrames ∧ t = { s with kw := t.kw, pwr := { s.pwr with rxHeldFrames := t.pwr.rxHeldFrames } }) ∧
  (∀ (s : State) (x : RxFrame) (l : List RxFrame), s.kw.arrived = x :: l → s.fuse.part.ward = true → x.good = true →
    (isMkpdu (x.bytes.map (·.getD 0)) = false → (frameFields (x.bytes.map (·.getD 0))).sci = none →
      (s.ward.linkEn = false → exec .wardRxFrame s = .next { s with kw := { s.kw with arrived := l, ready := s.kw.ready ++ [{ x with warded := true }] } }) ∧
      (s.ward.linkEn = true → s.ward.linkValidate = 2 → x.cls = none →
        exec .wardRxFrame s = .next { s with
          kw := { s.kw with arrived := l }
          ward := { s.ward with cnt := { s.ward.cnt with rxUntaggedDrop := inc 32 s.ward.cnt.rxUntaggedDrop } } })) ∧
    (isMkpdu (x.bytes.map (·.getD 0)) = true → ∀ m : MkaIn,
      (m.icvGood = false → exec (.mkpdu m) s = .next { s with
        kw := { s.kw with arrived := l }
        ward := { s.ward with cnt := { s.ward.cnt with mkpduBad := inc 32 s.ward.cnt.mkpduBad } } }) ∧
      (m.icvGood = true → s.mkaRuns = true → m.live = true → m.sak = none → m.advance = false → exec (.mkpdu m) s = .next { s with
        kw := { s.kw with arrived := l }
        ward := { s.ward with cnt := { s.ward.cnt with mkpduRx := inc 32 s.ward.cnt.mkpduRx }, mka := { s.ward.mka with peer := some m.peerSci } } }) ∧
      (∀ k, m.icvGood = true → s.mkaRuns = true → m.sak = some k → m.advance = false →
        ∃ (t : State) (j : Nat), exec (.mkpdu m) s = .next t ∧ j < 2 ∧ (t.slot linkAssoc j).sak = k.sak ∧ (t.slot linkAssoc j).an = k.an ∧
          (t.slot linkAssoc j).state = (if (s.slotIn linkAssoc 2).isSome then 1 else 2) ∧ t.kw = { s.kw with arrived := l })))

/-- Flow contexts: FLOW_CREATE makes a flow that does not exist exist with its rule and association and fresh statistics; FLOW_MODIFY, of flow 0 too, replaces
rule and association and keeps the rest, its keys only where the association keeps them; each takes the next generation and answers it. FLOW_DESTROY ends the
flow's existence, drops its held frames and keeps the rest of its context and its ring. A FLOW_MODIFY or FLOW_DESTROY of another generation ends with
GEN_CONFLICT, a FLOW_CREATE or FLOW_DESTROY of flow 0 with RANGE, and neither changes anything (R349, R350, R360).
Choices of the model that it rests on: log entry 28. -/
def Obligations.FlowsAreManaged : Prop :=
  ∀ (s : State) (tag : BitVec 16) (q : Request), s.ready .keyway = true → q.cap.arg 28 2 < 1000 →
    let f := q.cap.arg 28 2
    let c := fitBytes 64 q.cap.payload
    let r := contextRule c
    let a := contextAssoc c
    let g := ((s.flow f).gen + 1) % 2 ^ 32
    let b := s.begin q
    let wardMay := assocNone a = true ∨ (s.fuse.part.ward = true ∧ (s.wardApproved = true → assocValidate a = 2))
    (Takes s tag 0x60 q → q.cap.len = 64 → wardMay →
      (f ≠ 0 → q.cap.fieldsOk [(28, 2)] = true → (s.flow f).exist = false → contextOk c = true → r.matchBits ≠ 0 → s.assocOk f r a = true →
        exec (.flowCreate tag) s = .next ((b.modFlow f (fun _ => { exist := true, rule := r, assoc := a, gen := g, stats := {} })).finish q .ok [(32, g)] [])) ∧
      (f = 0 → exec (.flowCreate tag) s = .next (b.finish q .range [] []))) ∧
    (Takes s tag 0x61 q → q.cap.len = 64 → wardMay → q.cap.fieldsOk [(28, 2), (32, 4)] = true → (s.flow f).exist = true → contextOk c = true →
      (r.matchBits = 0 ↔ f = 0) → s.assocOk f r a = true →
      (q.cap.arg 32 4 = (s.flow f).gen → keepsSlots (s.flow f).assoc a = true →
        exec (.flowModify tag) s = .next ((b.modFlow f (fun fl => { fl with rule := r, assoc := a, gen := g })).finish q .ok [(32, g)] [])) ∧
      (q.cap.arg 32 4 = (s.flow f).gen → keepsSlots (s.flow f).assoc a = false →
        exec (.flowModify tag) s = .next (((b.dropKeys f).modFlow f (fun fl => { fl with rule := r, assoc := a, gen := g })).finish q .ok [(32, g)] [])) ∧
      (q.cap.arg 32 4 ≠ (s.flow f).gen → exec (.flowModify tag) s = .next (b.finish q .genConflict [] []))) ∧
    (Takes s tag 0x62 q → q.cap.len = 0 →
      (f ≠ 0 → q.cap.fieldsOk [(28, 2), (32, 4)] = true → (s.flow f).exist = true → q.cap.arg 32 4 = (s.flow f).gen → s.tablesOk = true →
        let n := (s.kw.hold.filter (fun h => h.flow = f)).length
        ∃ t : State, exec (.flowDestroy tag) s = .next (t.finish q .ok [] []) ∧
          t.flow f = { s.flow f with exist := false, stats := { (s.flow f).stats with rxDropRing := satAdd 32 (s.flow f).stats.rxDropRing n } } ∧
          (∀ j, j ≠ f → t.flow j = s.flow j) ∧ t.kw = { s.kw with hold := s.kw.hold.filter (fun h => h.flow ≠ f) } ∧
          t = { b with kw := t.kw, flows := t.flows, pwr := { s.pwr with rxDropFrames := satAdd 32 s.pwr.rxDropFrames n }, ward := t.ward, fp := t.fp, out := t.out }) ∧
      (f ≠ 0 → q.cap.fieldsOk [(28, 2), (32, 4)] = true → (s.flow f).exist = true → q.cap.arg 32 4 ≠ (s.flow f).gen →
        exec (.flowDestroy tag) s = .next (b.finish q .genConflict [] [])) ∧
      (f = 0 → exec (.flowDestroy tag) s = .next (b.finish q .range [] [])))

/-! ### The engines and the coefficient store -/

/-- Slot tables: SLOT_STAGE OPEN takes the next generation and copies the active bank; WRITE puts its entries and CLEAR empties an engine, in the inactive
bank only; SLOT_COMMIT arms a staging that validates and refuses one that does not, with the code of Table 4-7; at the next boundary an armed staging,
with nothing waiting behind it, comes into force as the active bank with its generation (R134, R135, R137). Choices of the model that it rests on: log entries 11, 16 and 57. -/
def Obligations.StagedSlotsComeIntoForce : Prop :=
  (∀ (s : State) (tag : BitVec 16) (q : Request), Takes s tag 0x64 q → s.ready .engines = true →
    (q.cap.arg 28 1 = 0 → Plain q [(28, 1)] → s.inQuiet = false → s.txQuiet = false → (∀ g, s.eng.staging = some g → g.state ≠ 3) →
      ∃ t : State, exec (.slotStageOpen tag) s = .next (t.finish q .ok [(32, s.eng.lastGen + 1)] []) ∧ t.eng.lastGen = s.eng.lastGen + 1 ∧
        t.eng.staging = some { gen := s.eng.lastGen + 1, host := true } ∧ t.eng.inactive = s.eng.active ∧ t.eng.active = s.eng.active ∧
        t = { s.begin q with eng := t.eng }) ∧
    (q.cap.arg 28 1 = 1 → q.cap.len = 8 * q.cap.arg 32 1 → (∀ e ∈ stageEntries q.cap, taskAbsent s.fuse.part (slotTask e) = false ∧ entryBad e = false) →
      s.stageStale q.cap = false → q.cap.fieldsOk [(28, 5), (36, 4)] = true → q.cap.arg 29 1 ≤ 1 → q.cap.arg 30 1 < s.fuse.part.engines →
      q.cap.arg 32 1 ≠ 0 → q.cap.arg 31 1 + q.cap.arg 32 1 ≤ 16 → s.tablesOk = true →
      let k := 16 * q.cap.arg 30 1 + q.cap.arg 31 1
      ∃ t : State, exec (.slotStageWrite tag) s = .next (t.finish q .ok [(32, s.eng.stagedGen)] []) ∧
        (∀ i < q.cap.arg 32 1, sget 0 t.eng.inactive (k + i) = BitVec.ofNat 64 (leAt q.cap.payload (8 * i) 8)) ∧
        (∀ j, (j < k ∨ k + q.cap.arg 32 1 ≤ j) → sget 0 t.eng.inactive j = sget 0 s.eng.inactive j) ∧ t.eng.active = s.eng.active ∧
        t = { s.begin q with eng := t.eng }) ∧
    (q.cap.arg 28 1 = 2 → q.cap.len = 0 → s.stageStale q.cap = false → q.cap.fieldsOk [(28, 3), (36, 4)] = true → q.cap.arg 29 1 ≤ 1 →
      q.cap.arg 30 1 < s.fuse.part.engines → s.tablesOk = true →
      ∃ t : State, exec (.slotStageClear tag) s = .next (t.finish q .ok [(32, s.eng.stagedGen)] []) ∧ slotsOf t.eng.inactive (q.cap.arg 30 1) = [] ∧
        (∀ j, j / 16 ≠ q.cap.arg 30 1 → sget 0 t.eng.inactive j = sget 0 s.eng.inactive j) ∧ t.eng.active = s.eng.active ∧
        t = { s.begin q with eng := t.eng })) ∧
  (∀ (s : State) (tag : BitVec 16) (q : Request), Takes s tag 0x65 q → s.ready .engines = true → Plain q [(36, 4)] →
    s.eng.stageOpen (q.cap.arg 36 4) = true → s.testedTarget = none →
    let b := s.begin q
    (b.validate s.eng.inactive s.eng.profile = none →
      ∃ (t : State) (g : Staging), exec (.slotCommit tag) s = .next t ∧ t.eng.staging = some g ∧ g.state = 3 ∧ g.gen = q.cap.arg 36 4 ∧ g.tag = some q.cap.tag ∧
        t.eng.useB = s.eng.useB ∧ t.cyo.running = b.cyo.running ++ [{ q with since := s.time }] ∧ t = { b with eng := t.eng, cyo := t.cyo }) ∧
    (∀ code e, b.validate s.eng.inactive s.eng.profile = some (code, e) →
      exec (.slotCommit tag) s = .next ((b.modEng (fun g => { g with lastReject := code, lastRejectEng := e })).finish q .range
        [(32, s.eng.activeGen), (8, code), (8, e)] []))) ∧
  (∀ (s : State) (g : Staging), s.eng.staging = some g → g.state = 3 → s.eng.laterProfile = none → s.eng.laterMove = none →
    s.findRun 0x64 (fun _ => true) = none →
    ∃ t : State, exec .slotBankSwitch s = .next t ∧ t.eng.useB = !s.eng.useB ∧ t.eng.activeGen = g.gen ∧ t.eng.switchPeriod = s.eng.period % 2 ^ 32 ∧
      t.eng.staging = none ∧ t.eng.active = s.eng.inactive ∧ t.eng.profile = g.profile.getD s.eng.profile)

/-- The timeline: a slot that reaches its deadline unfinished is stopped and counted in DROPS, and in OVERRUN where it has run longer than its BUDGET since the later
of its START and the end of the slot before; one that is finished, or whose inputs are all erased, is no drop and changes nothing. Each boundary counts a period,
and while a training sends, its TSEQ advances by 1 modulo 256, as SEQ does in data (R54, R125, R128, R163).
Choices of the model that it rests on: log entry 60. -/
def Obligations.TheTimelineAdvances : Prop :=
  (∀ (s : State) (e i n prev : Nat), e < s.fuse.part.engines → i < 16 → e < s.eng.eng.length →
    let w := sget 0 s.eng.active (16 * e + i)
    let used := taskDeadline (slotTask w) s.cycles - max (slotStart w) prev
    slotTask w ≠ 0 →
    (slotComplete w n = false → s.slotSkipped w = false →
      ∃ t : State, exec (.slotDeadline e i n prev) s = .next t ∧ (t.engine e).drops = inc 16 (s.engine e).drops ∧
        (t.engine e).overrun = (if slotBudget w < used then inc 16 (s.engine e).overrun else (s.engine e).overrun) ∧ t.eng.active = s.eng.active ∧
        (∀ k, k ≠ e → t.engine k = s.engine k) ∧ t = { s with eng := t.eng, rx := t.rx, lc := t.lc }) ∧
    (slotComplete w n = true ∨ s.slotSkipped w = true → exec (.slotDeadline e i n prev) s = .next s)) ∧
  (∀ (s : State) (ls : List EngineLoad) (adc : Quad (List Int)), s.heldReset = false → s.link.state ≤ 3 →
    ∃ t : State, exec (.timelineBoundary ls adc) s = .next t ∧ t.eng.period = s.eng.period + 1 ∧ t.eng.cycle = 0 ∧ t.link = s.link ∧ t.ql = s.ql) ∧
  (∀ (s : State) (ls : List EngineLoad) (adc : Quad (List Int)), s.heldReset = false → 4 ≤ s.link.state → s.link.state ≤ 7 →
    ∃ t : State, exec (.timelineBoundary ls adc) s = .next t ∧ t.eng.period = s.eng.period + 1 ∧ t.link.train.tseq = (s.link.train.tseq + 1) % 256 ∧
      t.link.train.pos = s.link.train.pos + 1 ∧ t.link.state = s.link.state) ∧
  (∀ (s : State) (ls : List EngineLoad) (adc : Quad (List Int)), s.heldReset = false → s.nativeData = true → s.ql.run.txState = 0 → s.ql.run.laid = false →
    ∃ t : State, exec (.timelineBoundary ls adc) s = .next t ∧ t.eng.period = s.eng.period + 1 ∧ t.lc.run.txSeq = (s.lc.run.txSeq + 1) % 256)

/-- The store: a cycle without new requests moves one line of each grant, ends a dead cycle, and grants nothing; a lone request that its requester may make for a
free bank is granted in the same cycle, and the pointer goes past it; a grant that has held its bank for 64 cycles is cut off and recorded; a scrub counts what
it corrects, and marks and counts what it cannot (R139, R140, R141, R142, R145). Choices of the model that it rests on: log entries 58 and 60. -/
def Obligations.StoreArbitrationHolds : Prop :=
  (∀ (s : State) (c : StoreCycle), c.asks = [] → c.withdrawn = [] → c.errors = [] → s.eng.waiting = [] → s.eng.marked = [] →
    ∃ t : State, exec (.storeGrant c) s = .next t ∧ t.eng.cycle = c.cycle + 1 ∧ t.eng.waiting = [] ∧
      (∀ b < s.eng.store.length,
        ((s.storeBank b).dead = true → (t.storeBank b).dead = false ∧ (t.storeBank b).deadCyc = satAdd 32 (s.storeBank b).deadCyc 1) ∧
        (∀ x, (s.storeBank b).dead = false → (s.storeBank b).grant = some x → x.held < 64 → 1 < x.lines →
          (t.storeBank b).grant = some { x with lines := x.lines - 1, line := x.line + 1, held := x.held + 1 }) ∧
        ((s.storeBank b).dead = false → (s.storeBank b).grant = none → (t.storeBank b).grant = none) ∧
        (t.storeBank b).grants = (s.storeBank b).grants ∧ (t.storeBank b).pointer = (s.storeBank b).pointer) ∧
      t = { s with eng := { s.eng with cycle := t.eng.cycle, store := t.eng.store, waiting := [] } }) ∧
  (∀ (s : State) (c : StoreCycle) (b : Nat) (a : StoreAsk), b < 8 → s.eng.store = List.replicate 8 {} → s.eng.waiting = [] → c.withdrawn = [] →
    c.errors = [] → c.asks = [a] → a.banks = BitVec.twoPow 8 b → 1 < a.lines →
    (a.who = 96 ∨ a.who = 98 ∨ (a.who = 97 ∧ s.fuse.part.diag = true) ∨
      (a.who < 96 ∧ a.who < s.fuse.part.engines ∧ (s.engine a.who).retired = false ∧ a.slot < 16 ∧
        slotTask (sget 0 s.eng.active (16 * a.who + a.slot)) ≠ 0 ∧ (slotBanks (sget 0 s.eng.active (16 * a.who + a.slot))).testBit b = true ∧
        (a.write = true ∨ s.eng.marked.contains (b, a.line) = false))) →
    ∃ t : State, exec (.storeGrant c) s = .next t ∧
      (t.storeBank b).grant = some { who := a.who, slot := a.slot, lines := a.lines - 1, line := a.line, write := a.write, done := a.done, held := 1 } ∧
      (t.storeBank b).pointer = (a.who + 1) % 99 ∧ (t.storeBank b).grants = 1 ∧ t.eng.waiting = [] ∧ (∀ j, j ≠ b → (t.storeBank j).grant = none) ∧
      t = { s with eng := t.eng }) ∧
  (∀ (s : State) (b : Nat) (x : Grant), (s.storeBank b).grant = some x → 64 ≤ x.held → x.lines ≠ 0 →
    ∃ t : State, exec (.overholdCutoff b) s = .next t ∧ (t.storeBank b).grant = none ∧ (t.storeBank b).overholds = inc 16 (s.storeBank b).overholds ∧
      t.eng.ovhReq = x.who ∧ t.eng.ovhBank = b ∧ t.eng.ovhPeriod = s.eng.period % 2 ^ 32 ∧ t.fp.event.getLsbD evEngines = true ∧ t.link = s.link) ∧
  (∀ (s : State) (b line : Nat), s.ben.up = true → b < 8 → b < s.eng.store.length →
    (∃ t : State, exec (.storeScrub [(b, line, false)]) s = .next t ∧ (t.storeBank b).ce = inc 16 (s.storeBank b).ce ∧
      (∀ j, j ≠ b → t.storeBank j = s.storeBank j) ∧ t = { s with eng := { s.eng with store := t.eng.store } }) ∧
    (∃ t : State, exec (.storeScrub [(b, line, true)]) s = .next t ∧ (t.storeBank b).ue = inc 16 (s.storeBank b).ue ∧ (b, line) ∈ t.eng.marked))

/-- Repair and the program swap: the oldest cause is taken up with a spare, which is loaded; a good read-back moves the slots to it as an armed staging of a
new generation, and a bad one retires the spare and puts the cause back in front; a swap on engines that all have no slots loads them and is over
(R147, R148, R430). Choices of the model that it rests on: log entries 40 and 59. -/
def Obligations.RepairsAndSwapsProceed : Prop :=
  (∀ (s : State) (e cause k : Nat) (rest : List (Nat × Nat)), s.eng.repairQueue = (e, cause) :: rest → s.ben.up = true → s.eng.repair = none →
    s.hasSlots e = true → s.inQuiet = false → s.txQuiet = false → s.spareFor e = some k → s.engineState k = 2 → k < s.eng.eng.length →
    ∃ t : State, exec .repairStart s = .next t ∧ t.eng.repair = some { failed := e, spare := k, cause := cause } ∧ t.eng.repairQueue = rest ∧
      (t.engine k).loading = true ∧ (∀ j, j ≠ k → t.engine j = s.engine j) ∧ t = { s with eng := t.eng }) ∧
  (∀ (s : State) (r : Repair), s.eng.repair = some r → r.committed = false → r.spare < s.eng.eng.length →
    (∃ t : State, exec (.repairLoadDone false) s = .next t ∧ t.eng.repair = none ∧ t.eng.repairQueue = (r.failed, r.cause) :: s.eng.repairQueue ∧
      (t.engine r.spare).retired = true ∧ (t.engine r.spare).loading = false ∧ t.link = s.link) ∧
    (s.armed = true → ∃ t : State, exec (.repairLoadDone true) s = .next t ∧ t.eng.laterMove = some (r.failed, r.spare) ∧ t.eng.staging = s.eng.staging ∧
      t = { s with eng := t.eng }) ∧
    (s.armed = false → ((s.modEngine r.spare (fun x => { x with loading := false, retired := x.retired || false })).stageMove r.failed r.spare).2 = true →
      ∃ (t : State) (g : Staging), exec (.repairLoadDone true) s = .next t ∧ t.eng.staging = some g ∧ g.state = 3 ∧ g.host = false ∧ g.gen = t.eng.lastGen ∧
        t.eng.lastGen = s.eng.lastGen + 1 ∧ t.eng.repair = some { r with committed := true, gen := g.gen })) ∧
  (∀ s : State, s.ben.swapLeft ≠ 0 → s.ben.swapDeferred = false → s.ben.up = true → s.eng.repair = none → s.eng.repairQueue = [] →
    (∀ g, s.eng.staging = some g → g.state ≠ 3) → (∀ e, s.hasSlots e = false) → s.fuse.part.engines ≤ s.eng.eng.length →
    ∃ t : State, exec .programSwap s = .next t ∧ t.ben.swapLeft = 0 ∧ t.ben.progverOld = s.ben.progver ∧ t.ben.progLayout = s.runSlot.layout ∧
      (∀ e, (t.engine e).newProg = false) ∧ t.fp.event.getLsbD evBenash = true ∧ t.link = s.link)

/-! ### Ward, SPDM and Hasp -/

/-- Ward's commands and self-tests: SA_ADVANCE makes NEXT CURRENT and CURRENT OLD and answers the AN; KEY_ERASE empties both slots; WARD_KAT runs and
completes with its result when the tests end; tests that pass make Ward ready with the stored keys reloaded, tests that fail put it into the error state
without keys or sessions; the participant counts its MKPDUs, and a peer's life can expire; Benash erases the stored keys after a zeroization
(R382, R384, R395, R396, R397, R401, R407). Choices of the model that it rests on: log entries 26 and 31. -/
def Obligations.WardCommandsAnswer : Prop :=
  (∀ (s : State) (tag : BitVec 16) (q : Request), s.ready .ward = true →
    let f := q.cap.arg 28 2
    let b := s.begin q
    (Takes s tag 0x70 q → Plain q [] → s.findRun 0x70 (fun _ => true) = none → exec (.wardKat tag) s = .next (b.startRun q)) ∧
    (Plain q [(28, 2), (32, 4)] → f < 1000 → (s.flow f).exist = true → q.cap.arg 32 4 = (s.flow f).gen → assocNone (s.flow f).assoc = false →
      (∀ k, Takes s tag 0x71 q → s.slotIn f 1 = some k →
        ∃ t : State, exec (.saAdvance tag) s = .next (t.finish q .ok [(8, (s.slot f k).an)] []) ∧ t.slot f k = { s.slot f k with state := 2 } ∧
          (∀ c, s.slotIn f 2 = some c → t.slot f c = { s.slot f c with state := 3 }) ∧
          (∀ a k', a ≠ f → k' < 2 → t.slot a k' = s.slot a k') ∧ t.fp.event.getLsbD evWard = true ∧
          t = { b with ward := t.ward, fp := t.fp, out := t.out }) ∧
      (Takes s tag 0x72 q → s.tablesOk = true →
        ∃ t : State, exec (.keyErase tag) s = .next (t.finish q .ok [] []) ∧ t.slot f 0 = {} ∧ t.slot f 1 = {} ∧
          (∀ a k', a ≠ f → k' < 2 → t.slot a k' = s.slot a k') ∧ t.fp.event.getLsbD evWard = true ∧
          t = { b with ward := t.ward, fp := t.fp, out := t.out }))) ∧
  (∀ s : State, s.fuse.part.ward = true → s.heldReset = false → s.findRun 0x70 (fun _ => true) = none → s.fuse.lifecycle ≠ .retired →
    (s.ward.tested = false → s.ward.error = false → s.hasp.latched = false → s.nvm.erasePending = false →
      ∃ t : State, exec .wardSelfTestDone s = .next t ∧ t.ready .ward = !s.ben.recovery ∧ t.ward.drbg = true ∧ t.ward.storageKey = true ∧
        t.ward.cak = s.nvm.cak.map (fun c => (c.1, c.2, true)) ∧ t.ward.slots = s.ward.slots ∧ t = { s with ward := t.ward }) ∧
    (∃ t : State, exec .wardSelfTestFail s = .next t ∧ t.ready .ward = false ∧ t.ward.error = true ∧ t.ward.slots = [] ∧ t.ward.keks = [] ∧
      t.ward.cak = none ∧ t.spdm.sessions = [] ∧ t.fp.event.getLsbD evWard = true ∧ t.nvm.keks = s.nvm.keks ∧ t.link = s.link)) ∧
  (∀ s : State, s.mkaRuns = true →
    ∃ t : State, exec .mkaHello s = .next t ∧ t.out = .mkpdu s.ward.mka.mn :: s.out ∧ t.ward.mka.mn = s.ward.mka.mn + 1 ∧
      t.ward.cnt.mkpduTx = inc 32 s.ward.cnt.mkpduTx ∧ t.link = s.link ∧ t.kw = s.kw) ∧
  (∀ s : State, exec .mkaLifeExpiry s = .next { s with ward := { s.ward with mka := { s.ward.mka with peer := none } } }) ∧
  (∀ s : State, s.nvm.erasePending = true →
    exec .zeroizeNvmErase s = .next { s with nvm := { s.nvm with keks := [], cak := none, erasePending := false } })

/-- Key messages over a secured session: KEK_INSTALL stores a KEK for its installer, slot 0 for the owner only; KEK_ERASE, by its installer or the
owner, empties it; KEY_INSTALL unwraps a SAK into the slot that is not CURRENT, and one that does not unwrap is refused with AUTH_FAIL and counted;
KEY_ERASE empties the flow's slots; CAK_INSTALL, by the owner, installs the CAK and starts the participant afresh (R382, R383, R387, R388, R389).
Choices of the model that it rests on: log entry 8. -/
def Obligations.KeyMessagesNeedTheirRights : Prop :=
  ∀ (s : State) (m : WardMsg) (x : Session), KeyMessage s m x →
    let ok := fun (t : State) (code : Nat) => t.out.head? = some (.ward (code + 0x8000) .ok m.mtag) ∧ t.fp.event.getLsbD evWard = true
    let t8 := m.arg 8 1
    let f := m.arg 8 2
    (m.body.length = 40 → t8 ≤ 63 → m.arg 9 1 ≤ 1 → m.arg 10 6 = 0 →
      (t8 = 0 → s.isOwner x = true) → (t8 ≠ 0 → (sget {} s.ward.keks t8).key = none ∨ s.isInstaller x t8 = true) →
      ∃ t : State, exec (.kekInstall m) s = .next t ∧ ok t 1 ∧ sget {} t.ward.keks t8 = ⟨some (m.bytes 16 32), x.identity, m.arg 9 1 = 1⟩ ∧
        (∀ j, j ≠ t8 → sget {} t.ward.keks j = sget {} s.ward.keks j ∧ sget {} t.nvm.keks j = sget {} s.nvm.keks j) ∧
        t = { s with ward := { s.ward with keks := t.ward.keks }, nvm := { s.nvm with keks := t.nvm.keks }, fp := t.fp, out := t.out }) ∧
    (t8 ≤ 63 → s.isInstaller x t8 = true ∨ s.isOwner x = true → s.tablesOk = true →
      ∃ t : State, exec (.kekErase m) s = .next t ∧ ok t 2 ∧ sget {} t.ward.keks t8 = {} ∧ sget {} t.nvm.keks t8 = {} ∧ t.ward.slots = s.ward.slots ∧
        (∀ j, j ≠ t8 → sget {} t.ward.keks j = sget {} s.ward.keks j)) ∧
    (f < 1000 → (s.flow f).exist = true → m.arg 12 4 = (s.flow f).gen → assocNone (s.flow f).assoc = false → m.arg 10 1 ≤ 3 →
      let t11 := m.arg 11 1
      (∀ c, s.slotIn f 2 = some c → (s.slot f c).an ≠ m.arg 10 1) →
      (∀ kek key, s.isInstaller x t11 = true → (sget {} s.ward.keks t11).key = some kek → aesUnwrap kek (m.bytes 16 56) = some key →
        ((s.slot f 0).state = 0 ∧ (s.slot f 1).state = 0 ∨ (sget {} s.ward.info f).tenant = some t11) →
        ∃ (t : State) (j : Nat), exec (.keyInstall m) s = .next t ∧ ok t 3 ∧ j < 2 ∧ (t.slot f j).sak = key.take 32 ∧ (t.slot f j).an = m.arg 10 1 ∧
          (t.slot f j).salt = (key.drop 32).take 12 ∧ (t.slot f j).ssci = (key.drop 44).take 4 ∧
          (t.slot f j).state = (if (s.slotIn f 2).isSome then 1 else 2) ∧ (t.slot f j).nextPn = 1 ∧ (t.slot f j).highPn = 0 ∧
          (∀ c, s.slotIn f 2 = some c → c ≠ j ∧ t.slot f c = s.slot f c) ∧ t.ward.cnt.keyInstalls = inc 32 s.ward.cnt.keyInstalls ∧
          t.ward.keks = s.ward.keks) ∧
      (∀ kek, (sget {} s.ward.keks t11).key = some kek → aesUnwrap kek (m.bytes 16 56) = none →
        ∃ t : State, exec (.keyInstall m) s = .next t ∧ t.out = .ward 0x8003 .authFail m.mtag :: s.out ∧ t.ward.slots = s.ward.slots ∧
          t.ward.cnt.keyRefused = inc 32 s.ward.cnt.keyRefused)) ∧
    (f < 1000 → (s.flow f).exist = true → m.arg 12 4 = (s.flow f).gen → assocNone (s.flow f).assoc = false → s.isOwner x = true → s.tablesOk = true →
      ∃ t : State, exec (.keyEraseMsg m) s = .next t ∧ ok t 4 ∧ t.slot f 0 = {} ∧ t.slot f 1 = {} ∧
        (∀ a k, a ≠ f → k < 2 → t.slot a k = s.slot a k) ∧ t.ward.keks = s.ward.keks) ∧
    (∀ kek cak, m.arg 8 1 ≤ 1 → 1 ≤ m.arg 9 1 → m.arg 9 1 ≤ 32 → s.isOwner x = true → (sget {} s.ward.keks 0).key = some kek →
      aesUnwrap kek (m.bytes 48 40) = some cak →
      ∃ t : State, exec (.cakInstall m) s = .next t ∧ ok t 5 ∧ t.ward.cak = some (cak, m.bytes 16 (m.arg 9 1), decide (m.arg 8 1 = 1)) ∧ t.ward.mka = {} ∧
        t.ward.slots = s.ward.slots ∧ t.nvm.cak = (if m.arg 8 1 = 1 then some (cak, m.bytes 16 (m.arg 9 1)) else none))

/-- The owner's messages: HASP_SET puts a configuration in force and stores it; TAMPER_CLEAR clears the latch once no zeroize-class sensor is tripped,
and Ward is tested again; MODE_SET to the other mode zeroizes every key; LIFECYCLE goes from PROVISIONED to DEPLOYED, burning the owner's root, and from
DEPLOYED to RETIRED for the owner, and each zeroizes every key (R376, R393, R394, R400, R402). Choices of the model that it rests on: log entry 25. -/
def Obligations.TheOwnerControlsTheDevice : Prop :=
  ∀ (s : State) (m : WardMsg) (x : Session), Secured s m x →
    let ok := fun (t : State) (code : Nat) => t.out.head? = some (.ward (code + 0x8000) .ok m.mtag)
    let keyless := fun (t : State) => t.ward.slots = [] ∧ t.ward.keks = [] ∧ t.ward.cak = none ∧ t.nvm.keks = [] ∧ t.nvm.cak = none
    (s.isOwner x = true →
      (let bs := fitBytes 16 (m.bytes 8 16)
       let cfg := BitVec.ofNat 32 (leAt bs 0 4)
       (s.wardApproved = true → classesApproved cfg = true) → haspCfgOk bs = true →
       ∃ t : State, exec (.haspSet m) s = .next t ∧ ok t 0x10 ∧ t.hasp = { s.hasp with cfg := cfg } ∧ t.nvm = { s.nvm with haspCfg := cfg } ∧
         t.fp.event.getLsbD evHasp = true ∧ t.ward = s.ward) ∧
      (s.zeroizeTripped = false →
       ∃ t : State, exec (.tamperClear m) s = .next t ∧ ok t 0x11 ∧ t.hasp = { s.hasp with latched := false } ∧
         t.ward.tested = (s.ward.tested && !s.hasp.latched) ∧ t.nvm = s.nvm) ∧
      (s.hasp.latched = false → m.arg 8 1 ≤ 1 → (m.arg 8 1 = 1 → s.allStrict = true ∧ classesApproved s.hasp.cfg = true) → s.nvm.approved ≠ decide (m.arg 8 1 = 1) →
       ∃ t : State, exec (.modeSet m) s = .next t ∧ ok t 0x12 ∧ t.nvm.approved = !s.nvm.approved ∧ keyless t ∧ (s.fuse.part.ward = true → t.fp.event.getLsbD evWard = true)) ∧
      (s.lcHoldHigh = false → s.fuse.lifecycle = .deployed → m.arg 8 1 = 3 →
       ∃ t : State, exec (.lifecycle m) s = .next t ∧ ok t 0x13 ∧ t.fuse.lifecycle = .retired ∧ t.fuse.identityKey = false ∧ keyless t ∧
         t.nvm.tamperCount = 0 ∧ t.ready .ward = false)) ∧
    (∀ i root, s.lcHoldHigh = false → s.fuse.lifecycle = .provisioned → m.arg 8 1 = 2 → x.requester = some (i, root) →
      ∃ t : State, exec (.lifecycle m) s = .next t ∧ ok t 0x13 ∧ t.fuse = { s.fuse with lifecycle := .deployed, ownerHash := some root } ∧ keyless t ∧
        t.ward.tested = false)

/-- Hasp: the beginning of a sensor's condition sets its bit of TRIPPED; class 1 only records, class 2 also raises TAMPER and writes the tamper
record, class 3 zeroizes as well: no key, no session, the latch set, both non-maskable events; a condition that ends clears its bit, but a broken
mesh never reads intact again (R398, R399, R401, R402, R405). Choices of the model that it rests on: log entry 32. -/
def Obligations.HaspRespondsByClass : Prop :=
  (∀ (s : State) (i : Nat) (temp : Int), s.pwr.porHeld = false → i < 7 → s.hasp.tripped.getLsbD i = false →
    ∃ t : State, exec (.haspTrip i true temp) s = .next t ∧ t.hasp.tripped = s.hasp.tripped ||| BitVec.twoPow 7 i ∧ t.hasp.temp = temp ∧
      (haspClass s.hasp.cfg i = 0 → t.nvm = s.nvm ∧ t.fp = s.fp ∧ t.ward = s.ward) ∧
      (haspClass s.hasp.cfg i = 1 → t.fp.nme = s.fp.nme ∧ t.ward = s.ward ∧ t.fp.event.getLsbD evHasp = true) ∧
      (haspClass s.hasp.cfg i = 2 → t.fp.nme = s.fp.nme ||| BitVec.twoPow 7 nmeTamper ∧ t.ward = s.ward ∧ t.nvm.tamperCount = inc 16 s.nvm.tamperCount ∧
        t.nvm.tamperLast = i ∧ t.hasp.latched = s.hasp.latched) ∧
      (haspClass s.hasp.cfg i = 3 → t.fp.nme = s.fp.nme ||| BitVec.twoPow 7 nmeTamper ||| BitVec.twoPow 7 nmeZeroized ∧ t.hasp.latched = true ∧
        t.ward.slots = [] ∧ t.ward.keks = [] ∧ t.ward.cak = none ∧ t.ward.drbg = false ∧ t.spdm.sessions = [] ∧ t.nvm.erasePending = true ∧
        t.nvm.tamperZeroized = true ∧ t.nvm.tamperCount = inc 16 s.nvm.tamperCount) ∧
      t.link = s.link ∧ t.flows = s.flows) ∧
  (∀ (s : State) (i : Nat) (temp : Int), s.pwr.porHeld = false → i < 7 → (i = 0 → s.hasp.meshBroken = false) →
    exec (.haspTrip i false temp) s = .next { s with hasp := { s.hasp with temp := temp, tripped := s.hasp.tripped &&& ~~~(BitVec.twoPow 7 i) } }) ∧
  (∀ s : State, s.pwr.porHeld = false → s.hasp.tripped.getLsbD 0 = false → haspClass s.hasp.cfg 0 = 3 →
    ∃ t : State, exec (.meshCheck false) s = .next t ∧ t.hasp.meshBroken = true ∧ t.hasp.tripped.getLsbD 0 = true ∧ t.hasp.latched = true ∧ t.ward.slots = [] ∧
      (∀ temp, ∃ u : State, exec (.haspTrip 0 false temp) t = .next u ∧ u.hasp.tripped.getLsbD 0 = true))

/-- The SPDM responder: version, capabilities and algorithms in their order; certificates and measurements once algorithms are agreed, signed with a fresh
free nonce; at most four sessions, each opened with a number not in use and established by FINISH; updates, heartbeats, the end of a session and IDE keys
act on an established session (R312, R385, R388, R390, R391). Choices of the model that it rests on: log entries 8, 12, 13 and 27. -/
def Obligations.SpdmAnswersItsRequests : Prop :=
  (∀ s : State, s.spdmUp = true →
    (∃ t : State, exec .getVersion s = .next t ∧ t.spdm = { s.spdm with phase := 1 } ∧ t.out = .spdm 0x04 [0x00, 0x12] :: s.out ∧ t = { s with spdm := t.spdm, out := t.out }) ∧
    (1 ≤ s.spdm.phase → ∃ (t : State) (b : List Byte), exec .getCapabilities s = .next t ∧ 2 ≤ t.spdm.phase ∧ t.spdm.sessions = s.spdm.sessions ∧
      t.out = .spdm 0x61 b :: s.out ∧ t = { s with spdm := t.spdm, out := t.out }) ∧
    (2 ≤ s.spdm.phase → ∃ (t : State) (b : List Byte), exec (.negotiateAlgorithms true true true true) s = .next t ∧ t.spdm = { s.spdm with phase := 3 } ∧
      t.out = .spdm 0x63 b :: s.out ∧ t = { s with spdm := t.spdm, out := t.out }) ∧
    (∀ sid chain, s.fuse.lifecycle = .provisioned →
      exec (.setCertificate sid chain) s = .next { s with nvm := { s.nvm with cert1 := chain }, out := .spdm 0x6E [0x01] :: s.out })) ∧
  (∀ s : State, s.spdmUp = true → 3 ≤ s.spdm.phase →
    (exec .getDigests s = .next { s with out := .spdm 0x01 (s.certSlots.flatMap (fun c => beBytes 48 (sha384 c).toNat)) :: s.out }) ∧
    (∀ off len, off < s.nvm.cert1.length →
      exec (.getCertificate 1 off len) s = .next { s with out := .spdm 0x02 (packBytes 4 [(16, min len (s.nvm.cert1.length - off)),
        (16, s.nvm.cert1.length - off - min len (s.nvm.cert1.length - off))] ++ (s.nvm.cert1.drop off).take len) :: s.out }) ∧
    (∀ slot nonce, slot ≤ 1 → s.fuse.identityKey = true →
      ∃ (t : State) (b : List Byte), exec (.challenge slot nonce) s = .next t ∧ t.out = .spdm 0x03 b :: s.out ∧ t.draws = s.draws + 1 ∧ t = { s with out := t.out, draws := t.draws }) ∧
    (∀ i b, s.measurement i = some b → i ≠ 0xFF → exec (.getMeasurements i false) s = .next { s with out := .spdm 0x60 b :: s.out }) ∧
    (s.fuse.identityKey = true → s.spdm.sessions.length < 4 →
      ∃ (t : State) (b : List Byte) (sid : Nat), exec .keyExchange s = .next t ∧ sid < 4 ∧ (∀ x ∈ s.spdm.sessions, x.sid ≠ sid) ∧
        t.spdm.sessions = s.spdm.sessions ++ [{ sid := sid }] ∧ t.out = .spdm 0x64 b :: s.out ∧ t = { s with spdm := t.spdm, out := t.out, draws := t.draws }) ∧
    (s.fuse.identityKey = true → 4 ≤ s.spdm.sessions.length → exec .keyExchange s = .next { s with out := .spdm spdmError [0x03] :: s.out })) ∧
  (∀ (s : State) (x : Session), s.spdmUp = true → x ∈ s.spdm.sessions →
    (∀ auth, x.established = false → ∃ t : State, exec (.finish x.sid true auth) s = .next t ∧ { x with established := true, requester := auth } ∈ t.spdm.sessions ∧
      t.spdm.sessions.length = s.spdm.sessions.length ∧ t.ward.cnt.sessionsOpened = inc 32 s.ward.cnt.sessionsOpened ∧ t.ward.slots = s.ward.slots) ∧
    (∀ auth, x.established = false → ∃ t : State, exec (.finish x.sid false auth) s = .next t ∧ (∀ y ∈ t.spdm.sessions, y.sid ≠ x.sid ∧ y ∈ s.spdm.sessions) ∧
      t = { s with spdm := t.spdm, out := t.out }) ∧
    (x.established = true →
      (∃ t : State, exec (.keyUpdate x.sid) s = .next t ∧ { x with updates := x.updates + 1 } ∈ t.spdm.sessions ∧ t = { s with spdm := t.spdm, out := t.out }) ∧
      (exec (.heartbeat x.sid) s = .next { s with out := .spdm 0x68 [] :: s.out }) ∧
      (∃ t : State, exec (.endSession x.sid) s = .next t ∧ (∀ y ∈ t.spdm.sessions, y.sid ≠ x.sid ∧ y ∈ s.spdm.sessions) ∧
        (∀ y ∈ s.spdm.sessions, y.sid ≠ x.sid → y ∈ t.spdm.sessions) ∧ t.ward = s.ward) ∧
      (∀ cache go, ∃ t : State, exec (.ideKm x.sid cache go) s = .next t ∧ (if cache then t.kw.status.ideCache else t.kw.status.ideIo) = go ∧
        (if cache then t.kw.status.ideIo = s.kw.status.ideIo else t.kw.status.ideCache = s.kw.status.ideCache) ∧ t.kw.rings = s.kw.rings ∧
        t = { s with kw := t.kw, ward := t.ward, out := t.out })))

/-! ### The link: commands, negotiation, training, failures, fast retrain, InfoField messages, reception -/

/-- The line commands, while the line is ready and no self-test runs: LINK_UP leaves the administrative down state and negotiation begins with the ladder reset,
which completes it with OK; in Dormant it starts the exit and stays running; elsewhere it completes with OK and has no effect but that tests of a DIAG_TDR end.
LINK_DOWN takes the link to state 0 with cause HOST. A full TRAIN takes it into the break with cause HOST, without a count, and at state 0 has no effect. A fast
TRAIN sets the request of a fast retrain and keeps running; it is NOT_READY with no link in data and RANGE where FR was not resolved (R184). Choices of the
model that it rests on: log entry 6. -/
def Obligations.LineCommandsAct : Prop :=
  ∀ (s : State) (tag : BitVec 16) (q : Request), s.ready .line = true → s.bist.run = none →
    (Takes s tag 0x48 q → Plain q [] →
      (s.link.state ≠ 0 → exec (.linkUp tag) s = .next ((s.begin q).interruptDiagRun.leaveDormant.finish q .ok [] [])) ∧
      (s.link.state = 0 → s.diag.run = none → (∀ r ∈ s.cyo.running, r.cap.opcode.toNat ≠ 0x48) →
        (s.pwr.state ≠ .dormant → s.heldReset = false →
          ∃ u : State, exec (.linkUp tag) s = .next (u.finish { q with since := s.time } .ok [] []) ∧ u.link.state = 1 ∧ u.link.neg.begun = true ∧
            u.link.used = s.link.ctl ∧ u.link.ladderPos = s.ladderTop ∧ u.link.failCount = 0 ∧ u.link.cnt.negStarts = inc 32 s.link.cnt.negStarts ∧
            (∀ r ∈ u.cyo.running, r ∈ s.cyo.running)) ∧
        (s.pwr.state = .dormant →
          ∃ t : State, exec (.linkUp tag) s = .next t ∧ t.link.state = 1 ∧ t.link.neg.begun = false ∧ t.pwr = { s.pwr with dormExit := true } ∧
            t.link.ladderPos = s.ladderTop ∧ t.cyo.running = s.cyo.running ++ [{ q with since := s.time }]))) ∧
    (Takes s tag 0x49 q → Plain q [] →
      ∃ t : State, exec (.linkDown tag) s = .next (t.finish q .ok [] []) ∧ t.link.state = 0 ∧ (s.link.state ≠ 0 → t.link.trainLast.cause = 9) ∧
        (s.link.state = 0 → t = s.begin q) ∧
        (s.link.state = 8 → t.link.cnt.linkDowns = inc 32 s.link.cnt.linkDowns) ∧ (3 ≤ s.link.state → t.kw.txBuf = [] ∧ t.ql.run = {} ∧ t.kn.run = {})) ∧
    (Takes s tag 0x4A q → Plain q [(28, 1)] →
      (q.cap.arg 28 1 = 0 → s.link.state = 0 → exec (.trainFull tag) s = .next ((s.begin q).finish q .ok [] [])) ∧
      (q.cap.arg 28 1 = 0 → s.link.state ≠ 0 →
        ∃ t : State, exec (.trainFull tag) s = .next (t.finish q .ok [] []) ∧ t.link.state = 2 ∧ t.link.trainLast.cause = 9 ∧
          t.link.trainLast.counted = false ∧ t.link.failCount = s.link.failCount ∧ t.link.ladderPos = s.link.ladderPos) ∧
      (2 ≤ q.cap.arg 28 1 → exec (.trainFull tag) s = .next ((s.begin q).finish q .range [] [])) ∧
      (q.cap.arg 28 1 = 1 → s.linkInData = false → exec (.trainFast tag) s = .next ((s.begin q).finish q .notReady [] [])) ∧
      (q.cap.arg 28 1 = 1 → s.linkInData = true →
        ((s.link.frOk && s.link.ctl.frEn) = false → exec (.trainFast tag) s = .next ((s.begin q).finish q .range [] [])) ∧
        (s.link.frOk = true → s.link.ctl.frEn = true → s.diag.run = none →
          ∃ t : State, exec (.trainFast tag) s = .next t ∧ t.link.frt.want = true ∧ t.link.state = s.link.state ∧
            (s.link.frt.want = false → t.link.frt.since = s.time) ∧ t.cyo.running = s.cyo.running ++ [{ q with since := s.time }])))

/-- Negotiation: it begins with the present settings, a drawn seed and the messages of Table 5-2, once the ladder resets that wait are made; bursts and OUI-tagged
messages are recorded; the highest rung that both ends advertised is taken up, a native one with the timing role of MS and SEED, a standard one with that of the
clause under the manual configurations; roles that cannot be resolved fail with MS_FAULT and a common rung that does not exist with NO_COMMON; another partner
than that of the last link, found with the ladder stepped down, resets the ladder and begins the negotiation again; timers and energy are recorded, energy lost
on an active pair of a link in data takes it down with ENERGY, and the break ends in negotiation (R157, R158, R159, R160, R161, R173, R174, R176, R179, R187).
Choices of the model that it rests on: log entries 12, 17, 61 and 62. -/
def Obligations.NegotiationFindsTheRung : Prop :=
  (∀ s : State, s.ben.up = true → s.mayNegotiate = true →
    let s1 := s.dueReset.modLink (fun l => { l with used := l.ctl })
    ∃ t : State, exec .negotiationStart s = .next t ∧ t.link.neg.begun = true ∧ t.link.neg.since = s.time ∧ t.link.neg.seed = freeSeed s.draws ∧
      t.link.neg.rungs = rungBits s1.advertisedRungs ∧ t.link.used = s.link.ctl ∧ t.link.cnt.negStarts = inc 32 s.link.cnt.negStarts ∧
      (s.findRun 0x48 (fun _ => true) = none →
        t = { s1 with link := { s1.link with neg := t.link.neg, cnt := t.link.cnt }, draws := s.draws + 1
                      out := (s1.negotiationPages (freeSeed s.draws).toNat).reverse ++ s.out })) ∧
  (∀ s : State, s.link.state = 1 → s.link.neg.begun = true →
    (∀ p : LinkPage, ∃ t : State, exec (.fastLinkPulseBurst p) s = .next t ∧ t.link.noPartner = false ∧ t.link.neg.burst = true ∧
      t.link.neg.basePage = (match p.basePage with | some b => some (b % 65536) | none => s.link.neg.basePage) ∧
      t.link.neg.stdRungs = s.link.neg.stdRungs ||| p.rungs % 256 ∧ t.link.neg.stdEee = s.link.neg.stdEee ||| p.eee % 256 ∧
      t.link.neg.stdFr = s.link.neg.stdFr ||| p.fr % 256 ∧ t = { s with link := { s.link with noPartner := false, neg := t.link.neg } }) ∧
    (∀ oui u1 u2 u3, ∃ t : State, exec (.nativeAbilityMessage oui u1 u2 u3) s = .next t ∧
      let b := { s.link.neg with burst := true }
      let m := some (u1 % 2048, u2 % 2048, u3 % 2048)
      t = { s with link := { s.link with noPartner := false, neg := t.link.neg } } ∧
      (oui ≠ 0x2A7D19 → t.link.neg = b) ∧
      (oui = 0x2A7D19 → u1 % 2048 = 0x5A7 → 1 ≤ u2 / 2 ^ 7 % 2 ^ 4 → t.link.neg = { b with native := m }) ∧
      (oui = 0x2A7D19 → u1 % 2048 = 0x2E1 → t.link.neg = { b with t40 := m }) ∧
      (oui = 0x2A7D19 → u1 % 2048 ≠ 0x2E1 → (u1 % 2048 = 0x5A7 → u2 / 2 ^ 7 % 2 ^ 4 = 0) → t.link.neg = { b with other := m })) ∧
    (s.link.neg.burst = false → exec .noPartnerTimer s = .next { s with link := { s.link with noPartner := true } }) ∧
    (∀ (farMs : Nat) (auto : Option Bool), s.link.neg.basePage.isSome = true →
      (s.partnerChanged = true → s.link.ladderPos ≠ s.ladderTop →
        ∃ t : State, exec (.negotiationResolve farMs auto) s = .next t ∧ t.link.state = 1 ∧ t.link.ladderPos = s.ladderTop ∧ t.link.failCount = 0 ∧
          t.link.lastPartner = some s.link.neg.identity ∧ t.link.partner = s.link.partner) ∧
      ((s.partnerChanged = true → s.link.ladderPos = s.ladderTop) →
        let far := s.link.neg.stdRungs / 4 * 4 + (match s.link.neg.native with | some m => m.2.1 % 4 | none => 0)
        let common := (List.range 8).find? (fun r => bitAt far r && bitAt s.link.neg.rungs r)
        let m := s.link.neg.native.getD (0, 0, 0)
        let role := fun (r : Rung) => if r < 2 then nativeRole s.link.used.msMode s.link.neg.seed.toNat (bitsAt m.2.1 5 2) m.2.2
          else stdRole s.link.used.msMode farMs auto
        let kind := if s.link.neg.native.isSome then 2 else if s.link.neg.t40.isSome then 3 else 1
        (common = none → ∃ t : State, exec (.negotiationResolve farMs auto) s = .next t ∧ t.link.state = 2 ∧ t.link.trainLast.cause = 5 ∧
          t.link.partnerKind = kind) ∧
        (∀ r, common = some r →
          (∀ slave, role r = .inl slave → ∃ t : State, exec (.negotiationResolve farMs auto) s = .next t ∧ t.link.state = (if r < 2 then 3 else 10) ∧
            t.link.mode = some r ∧ t.link.role = slave ∧ t.link.partnerKind = kind ∧ t.link.lastPartner = some s.link.neg.identity) ∧
          (∀ equal, role r = .inr equal → ∃ t : State, exec (.negotiationResolve farMs auto) s = .next t ∧ t.link.state = 2 ∧
            t.link.trainLast.cause = 4 ∧ t.link.trainLast.counted = false))))) ∧
  (∀ s : State, s.link.energy = 0 → s.link.state < 3 →
    exec .ladderResetTimer s = .next { s with link := { s.link with ladderPos := s.ladderTop, failCount := 0, resetDue := false } }) ∧
  (∀ s : State, s.link.state = 2 → s.ben.up = true →
    ∃ t : State, exec .breakEnd s = .next t ∧ t.link.state = 1 ∧ t.link.noPartner = false ∧ t.link.mode = none ∧ t.link.trainLast = s.link.trainLast) ∧
  (∀ (s : State) (p : Pair),
    (∃ t : State, exec (.energyDetect p) s = .next t ∧ t.link = { s.link with energy := s.link.energy ||| BitVec.twoPow 4 p, lastEnergy := s.time } ∧
      (s.pwr.state = .dormant → s.link.state ≠ 0 → t.pwr = { s.pwr with dormExit := true }) ∧ t = { s with link := t.link, pwr := t.pwr }) ∧
    ((s.expectsEnergy && s.activePair p) = false → ∃ t : State, exec (.energyLoss p) s = .next t ∧ t.link.energy = s.link.energy &&& ~~~(BitVec.twoPow 4 p) ∧
      t = { s with link := { s.link with energy := t.link.energy, lastEnergy := t.link.lastEnergy } }) ∧
    (s.expectsEnergy = true → s.activePair p = true → ∃ t : State, exec (.energyLoss p) s = .next t ∧ t.link.state = 2 ∧ t.link.trainLast.cause = 2 ∧
      t.link.energy = s.link.energy &&& ~~~(BitVec.twoPow 4 p)))

/-- Training: a good training word sets the expected count, and a word that fails, or whose count does not fit, clears it; this end is READY once its exit condition
has held; each phase change that R167 allows enters the next phase, with the pair map latched at the end of T2 and data after T4, and T0 does not end above the
background limit; an expired phase timer and a loss of headers fail the link with their causes; a standard mode's training enters data, its failures end in the
break, and one second up confirms its rate (R165, R166, R167, R168, R169, R172, R173, R174, R177). Choices of the model that it rests on: log entries 62, 63
and 64. -/
def Obligations.TrainingReachesData : Prop :=
  (∀ (s : State) (w : BitVec 64) (m : TrainMeas), 4 ≤ s.link.state → s.link.state ≤ 7 → s.lc.run.rxOn = false →
    (trainingWordOk w = true → (∀ e, s.link.train.expect = some e → bitsAt w.toNat 48 8 = e) →
      ∃ t : State, exec (.trainingWord w m) s = .next t ∧ t.link.train.expect = some ((bitsAt w.toNat 48 8 + 1) % 256) ∧ t.link.state = s.link.state ∧
        t.link.train.ready = (s.link.train.ready || (s.exitMet m).2) ∧
        t.link.train.farReady = (if bitsAt w.toNat 60 4 = s.link.state - 3 ∧ bitAt w.toNat 59 = true then s.link.train.farReady + 1 else 0) ∧
        (bitsAt w.toNat 60 4 = 4 → bitsAt w.toNat 23 4 = 1 → t.lc.run.rxOn = true ∧ t.lc.run.rxSeq = 0)) ∧
    (trainingWordOk w = false ∨ (∃ e, s.link.train.expect = some e ∧ bitsAt w.toNat 48 8 ≠ e) →
      ∃ t : State, exec (.trainingWord w m) s = .next t ∧ t.link.train.expect = none ∧ t.link.train.farReady = 0 ∧ t.link.state = s.link.state ∧
        t.link.train.ready = (s.link.train.ready || (s.exitMet m).2) ∧ t.lc.run.rxOn = false)) ∧
  (∀ (s : State) (e : PhaseEnd),
    (s.link.state = 3 → backgroundOk s.link.mode e.background = false →
      exec (.phaseChange e) s = .next { s with link := { s.link with train := { s.link.train with noise := true } } }) ∧
    (s.link.state = 3 → backgroundOk s.link.mode e.background = true → (s.link.role = true → e.heard = true) →
      ∃ t : State, exec (.phaseChange e) s = .next t ∧ t.link.state = 4 ∧ t.link.since = s.time ∧ t.link.train.tseq = 0 ∧ t.rx.gainRun = true ∧
        t = { s with link := t.link, rx := t.rx }) ∧
    (s.link.state = 4 →
      (s.link.role = true → 3 ≤ s.link.train.farTwo) → (s.link.role = false → s.link.train.turnReady = true ∧ s.link.train.pos % 4128 = 2048) →
      ∃ t : State, exec (.phaseChange e) s = .next t ∧ t.link.state = 5 ∧ t.rx.afcRun = true ∧ t = { s with link := t.link, rx := t.rx }) ∧
    (s.link.state = 5 → s.link.train.cd = 1 → mapOk e = true →
      ∃ t : State, exec (.phaseChange e) s = .next t ∧ t.link.state = 6 ∧ t.link.map = { far := e.far, inv := e.inv, delay := e.delay } ∧
        t.rx.gainRun = false ∧ t.rx.offset = e.offset ∧ t.lc.run.ifQueue.length = 66 ∧ t.draws = s.draws + 1) ∧
    (s.link.state = 6 → s.link.train.cd = 1 → ∃ t : State, exec (.phaseChange e) s = .next t ∧ t.link.state = 7 ∧ t = { s with link := t.link }) ∧
    (s.link.state = 7 → s.link.train.cd = 1 →
      ∃ t : State, exec (.phaseChange e) s = .next t ∧ t.link.state = 8 ∧ t.link.upSince = s.time ∧ t.link.cnt.linkUps = inc 32 s.link.cnt.linkUps ∧
        t.lc.run.txSeq = 0 ∧ t.link.confirmed = false ∧ t.rx.freqOfs = clampInt (-250000) 250000 e.freq ∧ t.rx.afcRun = false ∧
        t.fp.event.getLsbD evLink = true)) ∧
  (∀ (s : State) (seen : BitVec 4), 3 ≤ s.link.state → s.link.state ≤ 7 →
    ∃ t : State, exec (.phaseTimer seen) s = .next t ∧ t.link.state = 2 ∧ t.link.mode = none ∧ t.link.trainLast.phase = s.link.state ∧
      t.link.trainLast.cause = (if s.link.state = 3 then (if s.link.train.noise then 3 else 2) else if s.energyAll seen then 1 else 2)) ∧
  (∀ s : State, s.nativeData = true → s.lc.run.rxOn = true → s.ql.run.rxState = 0 → s.lc.run.badRun ≠ 0 →
    ∃ t : State, exec .hdrLoss s = .next t ∧ t.link.state = 2 ∧ t.link.trainLast.cause = 6 ∧ t.link.cnt.linkDowns = inc 32 s.link.cnt.linkDowns) ∧
  (∀ (s : State) (e : PhaseEnd) (seen : BitVec 4), s.link.state = 10 →
    (∃ t : State, exec (.stdTrainingDone e) s = .next t ∧ t.link.state = 8 ∧ t.link.cnt.linkUps = inc 32 s.link.cnt.linkUps ∧ t.link.upSince = s.time ∧
      t.link.confirmed = false ∧ t.rx.freqOfs = clampInt (-250000) 250000 e.freq) ∧
    (∃ t : State, exec (.stdLinkFail seen) s = .next t ∧ t.link.state = 2 ∧ t.link.trainLast.cause = (if s.energyAll seen then 0xB else 2))) ∧
  (∀ (s : State) (seen : BitVec 4), s.linkInData = true → s.nativeMode = false →
    (∃ t : State, exec (.stdLinkFail seen) s = .next t ∧ t.link.state = 2 ∧ t.link.trainLast.cause = (if s.energyAll seen then 0xC else 2)) ∧
    exec .stdRateConfirm s = .next { s with link := { s.link with confirmed := true, failCount := 0 } })

/-- A link in data: a native end sets RA, and with the partner's the rate is confirmed; a remote fault or a request of the partner asks for a fast retrain, or a
remote fault takes the link down where none is possible; a native fast retrain starts at SEQ 0, puts what the cut stream held back to be sent, ends in data
with a new period 0, and fails with FR_FAIL in the break; a standard mode's starts and ends where its clause does; the end completes a TRAIN that waits for it
with OK (R175, R177, R180, R181, R182, R184). -/
def Obligations.NativeLinksRetrainFast : Prop :=
  (∀ s : State, s.linkInData = true → s.nativeMode = true →
    (∃ t : State, exec .raSet s = .next t ∧ t.link = { s.link with ra := true } ∧ t = { s with link := t.link, lc := t.lc }) ∧
    (s.link.ra = true → s.statusRx 4 = 1 → exec .rateConfirmed s = .next { s with link := { s.link with confirmed := true, failCount := 0 } })) ∧
  (∀ s : State, s.nativeData = true →
    (s.retrainPossible = true → (s.statusRx 0 = 1 → ∃ t : State, exec .remoteFault s = .next t ∧ t.link.frt.want = true ∧ t.link.state = s.link.state) ∧
      (s.statusRx 5 = 1 → ∃ t : State, exec .fastRetrainRequest s = .next t ∧ t.link.frt.want = true ∧ t.link.state = s.link.state ∧
        (s.link.frt.want = false → t.link.frt.since = s.time) ∧ (s.link.frt.want = true → t = s))) ∧
    (s.retrainPossible = false → s.statusRx 0 = 1 → ∃ t : State, exec .remoteFault s = .next t ∧ t.link.state = 2 ∧ t.link.trainLast.cause = 7) ∧
    (s.retrainReady = true → ∃ t : State, exec .fastRetrainStart s = .next t ∧ t.link.state = 9 ∧ t.link.frt.started = some s.time ∧
      t.link.cnt.fastRetrains = inc 32 s.link.cnt.fastRetrains ∧ t.eng.marked = [] ∧ t.lc.run.stream = [] ∧ t.lc.run.leaving = [] ∧
      t.kw.txBuf = s.lc.run.leaving.filterMap (·.frame) ++ s.kw.txBuf ∧ t.flows = s.flows)) ∧
  (∀ s : State, s.link.state = 8 → s.nativeMode = false → s.link.frOk = true → s.link.ctl.frEn = true →
    ∃ t : State, exec .fastRetrainStart s = .next t ∧ t.link.state = 9 ∧ t.link.frt.started = some s.time ∧
      t.link.cnt.fastRetrains = inc 32 s.link.cnt.fastRetrains) ∧
  (∀ s : State, s.link.state = 9 → (s.nativeMode = true → s.link.train.cd = 1) →
    ∃ t : State, exec .fastRetrainEnd s = .next t ∧ t.link.state = 8 ∧ t.link.frt = {} ∧ t.rx.pending = false ∧ t.link.cnt = s.link.cnt ∧
      (s.nativeMode = true → t.lc.run.txSeq = 0 ∧ t.lc.run.mseq = 0) ∧
      (∀ q, s.findRun 0x4A (fun _ => true) = some q → ∃ u : State, t = u.finish q .ok [] [])) ∧
  (∀ s : State, s.nativeMode = true → (s.link.state = 9 ∨ (s.link.state = 8 ∧ s.link.frt.want = true)) →
    ∃ t : State, exec .fastRetrainTimeout s = .next t ∧ t.link.state = 2 ∧ t.link.trainLast.cause = 8 ∧ t.link.cnt.frFails = inc 32 s.link.cnt.frFails)

/-- InfoField messages: an accepted message that does not repeat the one before is acted on and acknowledged: a THP_COEF goes into its pair's staged set, a
THP_SWITCH that can be met takes the staged sets and waits for its AT_SEQ, one that cannot is answered NAK and changes nothing, PEER_ID is recorded; a repeated one is
acknowledged again as before and not applied; at AT_SEQ the sets taken become active, but for the shed pair's; an ACK ends the message that it answers, and a
NAK of a switch sends it again; without an ACK a message is sent again, and abandoned after eight sends, in T3 and a fast retrain to be sent from the
start of its part (R56, R78, R79, R171, R179). Choices of the model that it rests on: log entries 17 and 63. -/
def Obligations.InfoFieldMessagesAct : Prop :=
  (∀ (s : State) (m seq : Nat) (rest : List (Nat × Nat)), s.lc.run.ifMsgs = (m, seq) :: rest →
    let acked := fun (t : State) (nak : Bool) => t.lc.run.ifMsgs = rest ∧ t.lc.run.ifAcks = s.lc.run.ifAcks ++ [ackMsg (msgType m) (msgSeq m) nak] ∧
      t.lc.run.ifLast = some (msgType m, msgSeq m, nak)
    (s.repeated m = none →
      (msgType m = 1 → ∃ t : State, exec .thpCoef s = .next t ∧ acked t false ∧
        (∀ p : Pair, t.lc.pre.at p = if p.val = bitsAt m 6 2 then (s.lc.pre.at p).stage m else s.lc.pre.at p) ∧ t = { s with lc := t.lc }) ∧
      (msgType m = 2 → ∃ t : State, exec .thpSwitch s = .next t ∧ t.lc.pre = s.lc.pre ∧
        let d := (bitsAt m 12 8 + 256 - seq % 256) % 256
        let ps : BitVec 4 := BitVec.ofNat 4 (bitsAt m 6 4)
        let full := ∀ p : Pair, bitAt (bitsAt m 6 4) p.val = true → (s.lc.pre.at p).fullWith (bitsAt m 10 2) = true
        (4 ≤ d → d ≤ 128 → full → acked t false ∧ t.lc.lastAt = bitsAt m 12 8 ∧ t.link.train.farSwitch = true ∧
          t.lc.run.pendSwitch = s.lc.run.pendSwitch ++ [{ at' := bitsAt m 12 8
                                                          sets := s.lc.pre.mapIdx (fun p x => if ps.getLsbD p then some (x.stgSet, x.stgTaps) else none) }]) ∧
        (d < 4 ∨ 128 < d ∨ ¬ full → acked t true ∧ t.lc.run.pendSwitch = s.lc.run.pendSwitch ∧ t.link = s.link)) ∧
      (msgType m = 4 → ∃ t : State, exec .peerId s = .next t ∧ acked t false ∧ t.link.partner = { s.link.partner with peerId := m } ∧
        t.link.lastPeerId = some (m % 2 ^ 59) ∧ t.link.resetDue = (s.link.resetDue || s.link.lastPeerId.any (· ≠ m % 2 ^ 59)) ∧
        t = { s with link := t.link, lc := t.lc })) ∧
    (∀ nak, s.repeated m = some nak →
      let r := { s with lc := { s.lc with run := { s.lc.run with
        ifMsgs := rest, ifAcks := s.lc.run.ifAcks ++ [ackMsg (msgType m) (msgSeq m) nak], ifLast := some (msgType m, msgSeq m, nak) } } }
      (msgType m = 1 → exec .thpCoef s = .next r) ∧ (msgType m = 2 → exec .thpSwitch s = .next r) ∧ (msgType m = 4 → exec .peerId s = .next r)) ∧
    (msgType m = 3 →
      (∀ o, s.lc.run.ifOut = some o → msgType o.msg = bitsAt m 8 6 → msgSeq o.msg = bitsAt m 14 4 →
        ∃ t : State, exec .ack s = .next t ∧ t.lc.run.ifOut = none ∧ t.lc.run.ifMsgs = rest ∧ t = { s with link := t.link, lc := t.lc } ∧
          t.lc.run.ifQueue = (if bitAt m 18 = true ∧ msgType o.msg = 2 then switchMsg (bitsAt o.msg 6 4) (bitsAt o.msg 10 2) 0 0 :: s.lc.run.ifQueue
            else s.lc.run.ifQueue) ∧
          t.link.train.switchAcked = (s.link.train.switchAcked || (msgType o.msg = 2 && !bitAt m 18))) ∧
      ((∀ o, s.lc.run.ifOut = some o → msgType o.msg ≠ bitsAt m 8 6 ∨ msgSeq o.msg ≠ bitsAt m 14 4) →
        exec .ack s = .next { s with lc := { s.lc with run := { s.lc.run with ifMsgs := rest } } }))) ∧
  (∀ (s : State) (o : IfOut), s.lc.run.ifOut = some o → o.due = false → s.lc.run.ifNow ≠ some o.msg → retryPeriods s.kn.run.txForm ≤ o.waited →
    (0 < o.sends → o.sends < 8 → ∃ t : State, exec .infofieldRetry s = .next t ∧ t.lc.run.ifOut = some { o with due := true } ∧
      t.lc.cnt.ifRetry = inc 32 s.lc.cnt.ifRetry ∧ t = { s with lc := t.lc }) ∧
    (8 ≤ o.sends → ∃ t : State, exec .infofieldRetry s = .next t ∧ t.lc.run.ifOut = none ∧ t.lc.cnt.ifFail = inc 32 s.lc.cnt.ifFail ∧
      (s.link.state = 6 ∨ s.link.state = 9 → (s.resend o.msg).isPrefixOf t.lc.run.ifQueue = true) ∧
      t.fp.event.getLsbD evLink = true ∧ t.link = s.link)) ∧
  (∀ (s : State) (x : Switch), let n := if s.link.state = 8 then s.lc.run.txSeq else s.link.train.tseq
    s.lc.run.pendSwitch.filter (fun y => y.at' = n) = [x] →
    ∃ t : State, exec .thpSetActivate s = .next t ∧
      (∀ p : Pair, t.lc.pre.at p = match x.sets.at p with
        | some set => if s.kn.run.txForm = true ∧ s.kn.shed = p then s.lc.pre.at p else { s.lc.pre.at p with activeOn := true, actSet := set.1, taps := set.2 }
        | none => s.lc.pre.at p) ∧
      t.lc.run.pendSwitch = s.lc.run.pendSwitch.filter (fun y => y.at' ≠ n) ∧ t = { s with lc := t.lc })

/-- Reception: each release of a native receive period, in any state of the receive direction, advances the receive sequence by 1 modulo 256. In a standard mode a
codeword's outcome is remembered for its bytes, and a frame is passed on with its bytes, its time and its outcome, lost bytes of flagged codewords first. The
drift guard's evaluation trips, in this order, on a pair's MSE rise, on the movement of a block class and on a phase lag that has stood out for 1,024 periods;
with DG_ACTION at 1 it only records the trip, at 0 it asks for a fast retrain, or where none is possible takes the link down with FR_FAIL; without a cause
nothing trips (R48, R54, R98, R110, R111, R112, R115, R180). Choices of the model that it rests on: log entries 65, 66, 67, 82 and 89. -/
def Obligations.ReleasedPeriodsAreReceived : Prop :=
  (∀ (s : State) (d : DecodeIn), s.lc.run.rxOn = true → 7 ≤ s.link.state → s.link.state ≤ 9 → s.nativeMode = true →
    ∃ t : State, exec (.decodeRelease d) s = .next t ∧ t.lc.run.rxSeq = (s.lc.run.rxSeq + 1) % 256) ∧
  (∀ (s : State) (d : DecodeIn) (r : Rung), s.link.state = 8 → s.link.mode = some r → 2 ≤ r → s.ql.run.rxState = 0 →
    (∀ f : StdFrame, d.stdWords = [] → d.stdFrames = [f] →
      let bs := f.bytes.map (fun b => if s.rx.flagged.getD b.2 false then none else b.1)
      let lost := bs.any Option.isNone
      ∃ t : State, exec (.decodeRelease d) s = .next t ∧ t.kw.arrived = s.kw.arrived ++ [{ bytes := bs, stamp := f.stamp, good := !lost && f.good }] ∧
        t.lc.cnt = (if lost then { s.lc.cnt with framesErrored := inc 32 s.lc.cnt.framesErrored, discLost := inc 32 s.lc.cnt.discLost }
          else if f.good then { s.lc.cnt with framesOk := inc 32 s.lc.cnt.framesOk }
          else { s.lc.cnt with framesErrored := inc 32 s.lc.cnt.framesErrored, discFcs := inc 32 s.lc.cnt.discFcs }) ∧
        t = { s with kw := { s.kw with arrived := t.kw.arrived }, lc := t.lc, rx := t.rx, pwr := t.pwr }) ∧
    (∀ w : StdCodeword, r ≠ 7 → d.stdWords = [w] → d.stdFrames = [] →
      ∃ t : State, exec (.decodeRelease d) s = .next t ∧ t.rx.wordNo = s.rx.wordNo + 1 ∧
        t.rx.flagged = ((!(s.takePeriod.stdWord w).good) :: s.rx.flagged).take 64 ∧ t = { s with rx := t.rx })) ∧
  (∀ s : State, s.driftDue = true →
    let risen := fun (p : Pair) => (s.rx.ctl.dgMse : Int) ≤ (s.rx.pair.at p).rise
    let moved := fun (p : Pair) => ∃ k ∈ s.movements p, s.rx.ctl.dgNorm * s.rx.ctl.dgNorm * k.2 < 4096 * k.1
    let lagged := fun (p : Pair) => 1024 ≤ (s.rx.pair.at p).lagRun
    let one := fun (f : Pair → Prop) => ∃ p, s.activePair p = true ∧ f p
    (one risen ∨ one moved ∨ one lagged →
      ∃ t : State, exec .driftGuardEval s = .next t ∧ t.rx.trips = inc 16 s.rx.trips ∧ t.rx.dgCount = 0 ∧ t.rx.dgRefresh = false ∧
        t.fp.event.getLsbD evRxq = true ∧
        (one risen → t.rx.tripCause = 1 ∧ ∀ p, t.rx.tripPair.getLsbD p.val = true ↔ s.activePair p = true ∧ risen p) ∧
        (¬ one risen → one moved → t.rx.tripCause = 2 ∧ ∀ p, t.rx.tripPair.getLsbD p.val = true ↔ s.activePair p = true ∧ moved p) ∧
        (¬ one risen → ¬ one moved → t.rx.tripCause = 3 ∧ ∀ p, t.rx.tripPair.getLsbD p.val = true ↔ s.activePair p = true ∧ lagged p) ∧
        (s.rx.ctl.dgAction = true → t.link = s.link ∧ t.rx.pending = false) ∧
        (s.rx.ctl.dgAction = false → s.retrainPossible = true → t.link.frt.want = true ∧ t.rx.pending = true) ∧
        (s.rx.ctl.dgAction = false → s.retrainPossible = false → t.link.state = 2 ∧ t.link.trainLast.cause = 8)) ∧
    (¬ (one risen ∨ one moved ∨ one lagged) →
      ∃ t : State, exec .driftGuardEval s = .next t ∧ t.rx.trips = s.rx.trips ∧ t.rx.dgCount = 0 ∧ t = { s with rx := t.rx }))

/-! ### The die link and the power states -/

/-- The alignment search: it starts (and again after a search that failed) and takes the link down; the result maps the logical lanes in ascending order
onto the healthy physical lanes in ascending order, all 24 with at least 24 healthy lanes, 20 with 20 to 23, and no map with fewer; the lanes left over
are spares, the unhealthy ones retired; both directions mapped make the die link ready (R29, R30). Dormant: it is entered in Active when a condition of it
holds and nothing holds it off, takes the die link to deep low power, and a substitution in progress is given up with its cause waiting; a cause to leave it
begins the exit; once the die link is back, the device is in Active, with a mapped lane that failed its check replaced by a spare (R34, R35, R42, R43).
Choices of the model that it rests on: log entries 68 and 69. -/
def Obligations.TheDieLinkComesUpAndSleeps : Prop :=
  ((∀ s : State, s.heldReset = false → s.dl.searching = none → s.pwr.railLow &&& 3 = 0 →
    (∃ t : State, exec .alignmentSearch s = .next t ∧ t.dl.searching = some s.time ∧ t.dl.ready = false ∧ t.dl.searches = inc 16 s.dl.searches ∧
      (s.dl.ready = true → 3 ≤ s.link.state → t.link.state = 2 ∧ t.link.trainLast.cause = 10)) ∧
    (s.dl.searches ≠ 0 → (s.dl.outb.mapped && s.dl.inb.mapped) = false →
      ∃ t : State, exec .alignmentRetry s = .next t ∧ t.dl.searching = some s.time ∧ t.dl.ready = false ∧ t.dl.searches = inc 16 s.dl.searches)) ∧
  (∀ (s : State) (o i : List LaneTest), s.dl.searching.isSome = true →
    ∃ t : State, exec (.alignmentSearchEnd o i) s = .next t ∧ t.dl.outb = s.dl.outb.search o ∧ t.dl.inb = s.dl.inb.search i ∧ t.dl.searching = none ∧
      t.dl.ready = ((s.dl.outb.search o).mapped && (s.dl.inb.search i).mapped) ∧ t.link = s.link ∧ t.lc = s.lc ∧
      ((t.dl.outb.mapped && t.dl.outb.reduced) = true ∨ (t.dl.inb.mapped && t.dl.inb.reduced) = true → t.fp.event.getLsbD evDielink = true)) ∧
  (∀ (d : DlDir) (ts : List LaneTest), d.lanes.length = 26 → ts.length = 26 →
    let good := (List.range 26).filter (fun k => laneHealthy (ts.getD k ⟨false, 0, 0, 0⟩))
    let h := good.length
    ((d.search ts).mapped = decide (20 ≤ h)) ∧ (d.search ts).reduced = decide (20 ≤ h ∧ h < 24) ∧ (d.search ts).epoch = 0 ∧
    ∀ k < 26,
      (k ∉ good → ((d.search ts).lane k).logical = 0xFE) ∧
      (k ∈ good →
        let i := (good.filter (· < k)).length
        ((d.search ts).lane k).logical =
          if 24 ≤ h then (if i < 24 then i else 0xFF) else if 20 ≤ h then (if i < 20 then i / 5 * 6 + i % 5 else 0xFF) else 0xFF))) ∧
  ((∀ s : State, s.heldReset = false → s.pwr.state = .active → s.dormantWanted = true → s.dormantBlocked = false →
    ∃ t : State, exec .dormantEntry s = .next t ∧ t.pwr.state = .dormant ∧ t.pwr.dormExit = false ∧ t.dl.deep = true ∧ t.link = { s.link with neg := {} } ∧
      (∀ inb, (t.dir inb).subst = none ∧ (t.dir inb).lanes = (s.dir inb).lanes ∧
        (∀ x, (s.dir inb).subst = some x → (t.dir inb).waiting = (x.old, x.cause) :: (s.dir inb).waiting)) ∧
      t = { s with pwr := { s.pwr with state := t.pwr.state, dormExit := t.pwr.dormExit, dormByAdmin := t.pwr.dormByAdmin }
                   dl := t.dl, link := t.link, eng := t.eng, gate := t.gate }) ∧
  (∀ s : State, s.pwr.state = .dormant → s.dormantCause = true →
    exec .dormantExit s = .next { s with pwr := { s.pwr with dormExit := true } }) ∧
  (∀ s : State, s.pwr.state = .dormant → s.pwr.dormExit = true →
    (∀ o i, ∃ t : State, exec (.deepLowPowerExit o i) s = .next t ∧ t.pwr.state = .active ∧ t.pwr.dormExit = false ∧ t.dl.deep = false) ∧
    (s.dl.outb.waiting = [] → s.dl.inb.waiting = [] →
      (∃ t : State, exec (.deepLowPowerExit [] []) s = .next t ∧ t.dl.outb = s.dl.outb ∧ t.dl.inb = s.dl.inb ∧ t.link.state = s.link.state) ∧
      (∀ k j, s.dl.outb.carries k = true → s.dl.outb.spare = some j →
        ∃ t : State, exec (.deepLowPowerExit [k] []) s = .next t ∧ (t.dl.outb.lane j).logical = (s.dl.outb.lane k).logical ∧
          (t.dl.outb.lane k).logical = 0xFE ∧ t.dl.substs = inc 16 s.dl.substs ∧ t.dl.inb = s.dl.inb))))

/-- Lanes: a frame built as Table 1-4 says does not fail where it is expected; a good lane frame with nothing to send again changes nothing; a failing one counts and
holds its control words for sending again, an inbound one marks the samples it carried as erased, an outbound one the periods whose codes may not have reached
the line; the fourth failure in the window, or another cause, duplicates the lane onto the lowest spare, a cause during a substitution waits, and without a
spare the reduced map is taken; a spare that fails while duplicating is retired and the next one tried; the spare's clean frames announce a switch frame at least
16 frames ahead; at that frame the spare takes the logical lane, the old lane is retired, the epoch and the count of substitutions advance
(R24, R28, R31, R32, R33, R104, R109). Choices of the model that it rests on: log entry 68. -/
def Obligations.FailingLanesAreSubstituted : Prop :=
  (∀ (count epoch : Nat) (payload : List (BitVec 32)), payload.length = 62 → epoch < 256 → laneFails (laneFrame count epoch payload) count epoch = false) ∧
  (∀ (s : State) (inb : Bool) (lane frame : Nat) (ws : List (BitVec 32)), s.lanesRun inb = true → lane < (s.dir inb).lanes.length →
    let d := s.dir inb
    let l := d.lane lane
    let fails := frame :: l.recent.filter (fun f => decide (frame < f + 8192))
    let p : Pair := ⟨l.logical / 6 % 4, Nat.mod_lt _ (by decide)⟩
    let lanes := if d.reduced then 5 else 6
    let n := match s.link.mode with | some r => samplesInFrame r ((frame - s.dl.cycleAt) % (sampleCycle r).2) | none => 0
    (d.carries lane = true → (∀ x, d.subst = some x → x.spare ≠ lane) →
      (laneFails ws frame (d.epochOf frame) = false → d.resend = [] → exec (.laneFrameCheck inb lane frame ws) s = .next s) ∧
      (laneFails ws frame (d.epochOf frame) = true →
        (fails.length < 4 →
          ∃ t : State, exec (.laneFrameCheck inb lane frame ws) s = .next t ∧
            (t.dir inb).lane lane = { l with crcFail := inc 16 l.crcFail, recent := fails } ∧
            (t.dir inb).resend = (d.discard frame l.logical (controlWords inb n (l.logical % 6) lanes)).resend ∧ (t.dir inb).subst = d.subst ∧
            t.dir (!inb) = s.dir (!inb) ∧
            (∀ r, s.link.mode = some r → inb = true → ∀ k ∈ s.laneSamples true r frame (l.logical % 6) lanes, s.eng.period ≤ k.1 + 2 → k ∈ (t.rx.pair.at p).marks) ∧
            (∀ r, s.link.mode = some r → inb = false →
              (t.rx.pair.at p).badRef = (((s.laneSamples false r frame (l.logical % 6) lanes).map (·.1)).eraseDups ++ (s.rx.pair.at p).badRef).take 8) ∧
            t = { s with dl := t.dl, rx := t.rx }) ∧
        (4 ≤ fails.length → d.subst = none → ∀ k, d.spare = some k →
          ∃ t : State, exec (.laneFrameCheck inb lane frame ws) s = .next t ∧
            (t.dir inb).subst = some { logical := l.logical, old := lane, spare := k, cause := 1 } ∧ ((t.dir inb).lane lane).crcFail = inc 16 l.crcFail ∧
            t = { s with dl := t.dl, rx := t.rx }))) ∧
    (∀ x, d.subst = some x → x.spare = lane → laneFails ws frame (d.epochOf frame) = true →
      ∃ t : State, exec (.laneFrameCheck inb lane frame ws) s = .next t ∧ ((t.dir inb).lane lane).logical = 0xFE ∧
        (∀ k, d.carries x.old = true → x.old ≠ lane → { d.modLane lane (fun y => { y with logical := 0xFE }) with subst := none }.spare = some k →
          (t.dir inb).subst = some { logical := (d.lane x.old).logical, old := x.old, spare := k, cause := x.cause } ∧ t = { s with dl := t.dl }))) ∧
  (∀ (s : State) (inb : Bool) (lane cause : Nat), (s.dir inb).mapped = true → s.dl.searching = none → (s.dir inb).carries lane = true →
    (∀ k, s.lanesRun inb = true → (s.dir inb).subst = none → (s.dir inb).spare = some k →
      ∃ t : State, exec (.laneSubstitution inb lane cause) s = .next t ∧
        (t.dir inb).subst = some { logical := ((s.dir inb).lane lane).logical, old := lane, spare := k, cause := cause } ∧ (t.dir inb).lanes = (s.dir inb).lanes ∧
        t.dir (!inb) = s.dir (!inb) ∧ t = { s with dl := t.dl }) ∧
    ((s.dir inb).subst.isSome = true ∨ s.lanesRun inb = false → (s.dir inb).waiting.any (fun w => w.1 = lane) = false →
      ∃ t : State, exec (.laneSubstitution inb lane cause) s = .next t ∧ t.dir inb = { s.dir inb with waiting := (s.dir inb).waiting ++ [(lane, cause)] } ∧
        t.dir (!inb) = s.dir (!inb) ∧ t = { s with dl := t.dl }) ∧
    (s.lanesRun inb = true → (s.dir inb).subst = none → (s.dir inb).spare = none → (s.dir inb).waiting = [] → s.dl.reduced = false →
      let healthy := (List.range 26).filter (fun k => k ≠ lane && ((s.dir inb).lane k).logical ≠ 0xFE)
      20 ≤ healthy.length →
      ∃ t : State, exec (.laneSubstitution inb lane cause) s = .next t ∧ (t.dir inb).reduced = true ∧
        (t.dir inb).lanes = mapLanes (s.dir inb).lanes healthy (logicalLanes true) ∧ t.fp.event.getLsbD evDielink = true ∧
        (s.link.mode = some 0 → 3 ≤ s.link.state → t.link.state = 2 ∧ t.link.trainLast.cause = 0xA) ∧ (s.link.mode ≠ some 0 → t.link = s.link))) ∧
  (∀ (s : State) (inb : Bool) (x : Subst), s.lanesRun inb = true → (s.dir inb).subst = some x → x.announced = none →
    ∃ (t : State) (f : Nat), exec (.spareCleanCount inb) s = .next t ∧ s.dl.frameNo + 16 ≤ f ∧
      t.dir inb = { s.dir inb with subst := some { x with announced := some f } } ∧ t.dir (!inb) = s.dir (!inb) ∧
      t = { s with dl := t.dl, draws := s.draws + 1 }) ∧
  (∀ (s : State) (inb : Bool) (x : Subst) (f : Nat), s.lanesRun inb = true → (s.dir inb).subst = some x → x.announced = some f →
    f ≤ s.dl.frameNo + s.framesNow → (s.dir inb).waiting = [] → x.old ≠ x.spare → x.old < (s.dir inb).lanes.length → x.spare < (s.dir inb).lanes.length →
    ∃ t : State, exec (.substitutionSwitch inb) s = .next t ∧ ((t.dir inb).lane x.spare).logical = ((s.dir inb).lane x.old).logical ∧
      ((t.dir inb).lane x.old).logical = 0xFE ∧ (t.dir inb).epoch = ((s.dir inb).epoch + 1) % 256 ∧ (t.dir inb).subst = none ∧
      t.dl.substs = inc 16 s.dl.substs ∧ t.dir (!inb) = s.dir (!inb) ∧ t.link = s.link ∧ t.rx = s.rx ∧ t.fp.event.getLsbD evDielink = true ∧
      (∀ k, k ≠ x.old → k ≠ x.spare → (t.dir inb).lane k = (s.dir inb).lane k))

/-! ### Quiet-Latch -/

/-- The quiet transmit direction: after IDLE_TIME the profile is staged and QR wanted, where it validates; one that does not is recorded and the timer starts again; a
failing condition withdraws both, but no staging of the host; the quiet start makes the next period quiet period 0 and puts the profile into force; an entry that
the partner does not follow is given up by waking; a refresh window opens at a multiple of RI, unless a wake waits; a wake burst starts for the cause that waits,
with QR 0; eight partner windows in a row without a header, or no wake of the partner within 2 ms of the own burst, take the link down with HDR_LOSS (R195,
R196, R197, R199, R200, R205, R206, R214, R216). Choices of the model that it rests on: log entry 70. -/
def Obligations.QuietLatchIsEnteredAndLeft : Prop :=
  (∀ s : State, 1 < s.lc.run.stTx.length →
    (s.quietAllowed = true → s.idleOver = true → s.ql.run.txState = 0 → s.ql.run.rxState = 0 → s.ben.up = true → s.armed = false →
      let s1 := s.openStaging false
      let bank := s1.profileBank s.quietProfile
      (s1.validate bank s.quietProfile = none →
        ∃ (t : State) (g : Staging), exec .qlIdleTimer s = .next t ∧ t.ql = { s.ql with run := { s.ql.run with txState := 1 } } ∧ (t.statusTx 1).want = 1 ∧
          t.eng.staging = some g ∧ g.state = 2 ∧ g.host = false ∧ g.profile = some s.quietProfile ∧ g.gen = s.eng.lastGen + 1 ∧ t.link = s.link) ∧
      (∀ code e, s1.validate bank s.quietProfile = some (code, e) →
        ∃ t : State, exec .qlIdleTimer s = .next t ∧ t.ql = { s.ql with run := { s.ql.run with idleSince := none } } ∧ t.eng.staging = none ∧
          t.eng.lastReject = code ∧ t.eng.lastRejectEng = e ∧ t.lc = s.lc ∧ t.link = s.link)) ∧
    (s.quietAllowed = false → s.ql.run.txState = 1 →
      ∃ t : State, exec .quietWithdraw s = .next t ∧ t.ql.run.txState = 0 ∧ (t.statusTx 1).want = 0 ∧
        (∀ g, s.eng.staging = some g → t.eng.staging = if g.host = true ∨ g.state = 3 then some g else none) ∧
        t = { s with ql := t.ql, lc := t.lc, eng := t.eng }) ∧
    (s.quietAllowed = true → exec .quietWithdraw s = .next s)) ∧
  (∀ s : State, s.quietAllowed = true → s.ql.run.txState = 1 → (s.statusTx 1).now = 1 → 8 ≤ (s.statusTx 1).age → s.statusRx 1 = 1 →
    s.lc.run.txSeq % 16 = 0 → s.armed = false →
    ∃ t : State, exec .quietStart s = .next t ∧ t.ql.run.txState = 2 ∧ t.ql.run.qc = some 0 ∧ t.ql.cnt.entries = inc 32 s.ql.cnt.entries ∧
      t.eng.staging = none ∧ t.eng.profile = s.quietProfile ∧ t.eng.activeGen = (if s.quietStaged = true then s.eng.lastGen else s.eng.lastGen + 1) ∧
      (s.ql.run.rxState = 1 → s.pwr.state = .active → t.pwr.state = .quietLatch) ∧ t.link = s.link) ∧
  (∀ s : State, s.nativeData = true → (s.ql.run.txState = 2 ∨ s.ql.run.txState = 3) → s.ql.run.wakeDue = none →
    (3 ≤ s.ql.run.farQr0 ∨ (s.ql.run.farQc = none ∧ 64 ≤ s.ql.run.waitFar)) →
    ∃ t : State, exec .entryAbort s = .next t ∧ t.ql.cnt.entryAborts = inc 32 s.ql.cnt.entryAborts ∧ t.ql.run.wakeDue = some (8, s.time) ∧
      t.ql.wakeCause = 8 ∧ t = { s with ql := t.ql }) ∧
  (∀ (s : State) (k : Nat), s.nativeData = true → s.ql.run.txState = 2 → s.ql.run.qc = some k →
    let ri := if s.link.mode = some 0 then 1562 else 781
    (s.ql.run.wakeDue = none → k ≠ 0 → k % ri = 0 → exec (.refreshWindow none) s = .next (s.modQl (fun q => { q with txState := 3 }))) ∧
    (s.ql.run.wakeDue.isSome = true ∨ k = 0 ∨ k % ri ≠ 0 → exec (.refreshWindow none) s = .next s)) ∧
  (∀ (s : State) (cause t0 : Nat), s.nativeData = true → s.ql.run.txState = 2 → s.ql.run.wakeDue = some (cause, t0) → 1 < s.lc.run.stTx.length →
    ∃ t : State, exec .wakeBurstStart s = .next t ∧ t.ql.run.txState = 4 ∧ t.ql.run.wakeDue = none ∧ t.ql.run.burstAt = some s.time ∧
      t.ql.cnt.wakesTx = inc 32 s.ql.cnt.wakesTx ∧ t.ql.waitMax = min 65535 (max s.ql.waitMax (s.time - t0)) ∧ (t.statusTx 1).want = 0 ∧ t.link = s.link) ∧
  (∀ s : State, s.nativeData = true → s.ql.run.rxState ≠ 0 → (8 ≤ s.ql.run.missRow ∨ ∃ t0, s.ql.run.burstAt = some t0 ∧ t0 + 2000000 ≤ s.time) →
    ∃ t : State, exec .qlHdrLoss s = .next t ∧ t.link.state = 2 ∧ t.link.trainLast.cause = 6)

/-- A reception on a quiet link: the first onset begins acquisition; the latch point, at the peak or 516 symbols after a capture, freezes the gain and sets the
digital gain to 0 dB; a valid sync word is accepted and brings settle periods, with the frequency offset moved by at most 5 ppm, another is counted; the first
valid header of a settle period confirms the wake; a stronger peak captures, another is ignored, and a peak at the second repetition is taken as such; without a
latch point, a sync word or a header in time the reception is given up with its RESULT, and the direction is quiet again with the values held from before; a
receiver that still hears the partner listens, and returns to what it held (R88, R207, R209, R210, R211, R212, R213). Choices of the model that it rests on:
log entries 71 and 92. -/
def Obligations.ReceptionsAreJudged : Prop :=
  (∀ (s : State) (k : RxInstant), s.mayReceive = true → s.ql.run.rxState = 1 → (∃ p, s.activePair p = true ∧ (s.withPart k).onsetOn k p = true) →
    ∃ t : State, exec (.onset k) s = .next t ∧ t.ql.run.rxState = 2 ∧ t.ql.run.rx = some { since := s.symbolAt k } ∧ t.rx.heldFreq = s.rx.freqOfs ∧
      t.rx.gainRun = true ∧ t.rx.afcRun = true ∧ (∀ p : Pair, t.rx.heldPga.at p = (s.rx.pair.at p).pga) ∧ t = { s with rx := t.rx, ql := t.ql }) ∧
  (∀ (s : State) (r : Reception) (k : RxInstant), s.ql.run.rx = some r → s.mayReceive = true → s.ql.run.rxState = 2 → r.capture = none →
    r.since + 1536 ≤ s.symbolAt k →
    let still := s.pairsWhere (fun p => (s.withPart k).onsetOn k p)
    ∃ t : State, exec (.acquisitionTimeout k) s = .next t ∧ t.ql.last = { r.record with result := 5 } ∧ t.ql.run.rx = none ∧ t.rx.freqOfs = s.rx.heldFreq ∧
      (∀ p : Pair, (t.rx.pair.at p).pga = s.rx.heldPga.at p ∧ (t.rx.pair.at p).peak = s.rx.heldPeak.at p) ∧
      (if s.nativeMode = true ∧ s.ql.run.use.detPairs ≤ popCount 4 still.toNat then
        t.ql.run.rxState = 6 ∧ t.ql.run.listen = some (16, 0) ∧ t.ql.cnt.onsets = s.ql.cnt.onsets
       else t.ql.run.rxState = 1 ∧ t.ql.cnt.onsets = inc 32 s.ql.cnt.onsets)) ∧
  (∀ (s : State) (r : Reception), s.ql.run.rx = some r → s.nativeData = true →
    let back := fun (t : State) (result : Nat) => t.ql.run.rxState = 1 ∧ t.ql.run.rx = none ∧ t.ql.last = { r.record with result := result } ∧
      t.ql.cnt.falseWakes = inc 32 s.ql.cnt.falseWakes ∧ t.rx.freqOfs = s.rx.heldFreq ∧ t.rx.gainRun = false ∧ t.link = s.link
    (∀ k : RxInstant,
      let latched := fun (t : State) (who : BitVec 4) => t.ql.run.rxState = 3 ∧ t.rx.gainRun = false ∧
        (∃ r', t.ql.run.rx = some r' ∧ r'.latch = some (s.symbolAt k) ∧ r'.pairs = who) ∧
        (∀ p : Pair, s.activePair p = true → (t.rx.pair.at p).gain = 0 ∧ (t.rx.pair.at p).peak.isSome = true) ∧ t = { s with rx := t.rx, ql := t.ql }
      let who := (s.withPart k).firedPairs k
      let peak := (s.withPart k).peakAt k = true
      (s.ql.run.rxState = 2 → r.capture = none → peak → ∃ t : State, exec (.latchPoint k) s = .next t ∧ latched t who) ∧
      (∀ c, s.ql.run.rxState = 2 → r.capture = some c →
        (c + 516 ≤ s.symbolAt k → ∃ t : State, exec (.latchPoint k) s = .next t ∧ latched t r.pairs) ∧
        (s.symbolAt k < c + 516 → c + 508 ≤ s.symbolAt k → peak → ∃ t : State, exec (.latchPoint k) s = .next t ∧ latched t who)) ∧
      (s.ql.run.rxState = 3 ∨ (s.ql.run.rxState = 2 ∧ r.capture.isSome = true) →
        (∀ w, syncOf ((s.withPart k).syncSums k) = some w → s.syncValid r k w = true →
          ∃ (t : State) (r' : Reception), exec (.syncWord k) s = .next t ∧ t.ql.run.rxState = 4 ∧ t.ql.run.rx = some r' ∧ r'.synced = true ∧
            r'.settle = 0 ∧ r'.hdr = false ∧ r'.latch.isSome = true ∧ s.rx.heldFreq - 5000 ≤ t.rx.freqOfs ∧ t.rx.freqOfs ≤ s.rx.heldFreq + 5000 ∧
            t.rx.afcRun = false ∧ (∀ p : Pair, s.activePair p = true → (t.rx.pair.at p).strength.isSome = true) ∧ t = { s with rx := t.rx, ql := t.ql }) ∧
        ((∀ w, syncOf ((s.withPart k).syncSums k) = some w → s.syncValid r k w = false) →
          exec (.syncWord k) s = .next (s.modQlCnt (fun c => { c with syncRejects := inc 32 c.syncRejects })))) ∧
      (s.ql.run.rxState = 3 ∨ s.ql.run.rxState = 4 → peak →
        let ref := r.capture.getD (r.latch.getD 0)
        (nearSecond (s.symbolAt k) ref = true → exec (.capture k) s = .next (s.modRec (fun x => { x with second := true }))) ∧
        (nearSecond (s.symbolAt k) ref = false →
          ((s.withPart k).captures k r = true → ∃ (t : State) (r' : Reception), exec (.capture k) s = .next t ∧ t.ql.run.rxState = 2 ∧ t.ql.run.rx = some r' ∧
            r'.capture = some (s.symbolAt k) ∧ r'.latch = none ∧ t.ql.last.result = 3 ∧ t.rx.freqOfs = s.rx.heldFreq ∧ t.rx.afcRun = true ∧
            t.rx.gainRun = true ∧ t.ql.cnt.captures = inc 32 s.ql.cnt.captures ∧ t.link = s.link) ∧
          ((s.withPart k).captures k r = false → exec (.capture k) s = .next (s.modQlCnt (fun c => { c with peaksIgnored := inc 32 c.peaksIgnored })))))) ∧
    (s.ql.run.rxState = 3 → r.latch.getD 0 + 1200 < 1024 * (s.eng.period + 1) → ∃ t : State, exec .syncSearchTimeout s = .next t ∧ back t 2) ∧
    (s.ql.run.rxState = 4 → r.hdr = false → 4 ≤ r.settle → ∃ t : State, exec .settleHeaderTimeout s = .next t ∧ back t 4) ∧
    (s.ql.run.rxState = 4 → r.hdr = true →
      ∃ t : State, exec .receptionConfirmed s = .next t ∧ t.ql.run.rxState = 0 ∧ t.ql.run.rx = none ∧ t.ql.last = { r.record with result := 1 } ∧
        t.ql.cnt.wakesRx = inc 32 s.ql.cnt.wakesRx ∧ t.link = s.link ∧ t.rx = s.rx)) ∧
  (∀ (s : State) (row : Nat), s.nativeData = true → s.ql.run.rxState = 6 → s.ql.run.listen = some (0, row) →
    ∃ t : State, exec .listenTimeout s = .next t ∧ t.ql.run.rxState = 1 ∧ t.ql.run.listen = none ∧
      t.ql.cnt.listenFails = inc 32 s.ql.cnt.listenFails ∧ t.link = s.link ∧
      (∀ h, s.ql.run.listenHeld = some h → ∀ p : Pair, (t.rx.pair.at p).pga = (h.at p).pga ∧ (t.rx.pair.at p).gain = (h.at p).gain ∧
        (t.rx.pair.at p).phase = (h.at p).phase ∧ (t.rx.pair.at p).mse = (h.at p).mse ∧ (t.rx.pair.at p).coef = (h.at p).coef))

/-- Standard modes: with an idle resolved, the clause's sleep and wake take a direction to quiet and back and are counted, and so are the refreshes sent, received and
missed; toward a T40 partner the own wake first sends the rate-hunting burst; with a T40 partner the first detection of a segment is the latch point and counts by
its rate, a wake signal that is not recognised is given up (R218, R219, R220). Choices of the model that it rests on: log entries 70, 72 and 92. -/
def Obligations.StandardIdleFollowsItsClause : Prop :=
  ∀ s : State, s.stdIdle = true →
    (s.ql.run.txState = 0 → s.txIdle = true →
      ∃ t : State, exec (.lpiSleep true) s = .next t ∧ t.ql.run.txState = 2 ∧ t.ql.run.rxState = s.ql.run.rxState ∧ t.ql.cnt.entries = inc 32 s.ql.cnt.entries ∧
        t = { s with ql := t.ql, pwr := { s.pwr with state := t.pwr.state } }) ∧
    (s.ql.run.rxState = 0 →
      ∃ t : State, exec (.lpiSleep false) s = .next t ∧ t.ql.run.rxState = 1 ∧ t.ql.run.txState = s.ql.run.txState ∧ t.ql.cnt.entries = inc 32 s.ql.cnt.entries ∧
        t = { s with ql := t.ql, rx := { s.rx with burstEnd := t.rx.burstEnd }, pwr := { s.pwr with state := t.pwr.state } }) ∧
    (s.ql.run.txState = 2 →
      ∃ t : State, exec (.lpiWake true) s = .next t ∧ t.ql.cnt.wakesTx = inc 32 s.ql.cnt.wakesTx ∧ t.pwr.state ≠ .quietLatch ∧ t.link = s.link ∧
        (if s.link.legacyIdle then t.ql.run.txState = 4 ∧ t.ql.run.hunt = some 0 else t.ql.run.txState = 0)) ∧
    (s.ql.run.rxState ≠ 0 →
      (∃ t : State, exec (.lpiWake false) s = .next t ∧ t.ql.run.rxState = 0 ∧ t.ql.run.rx = none ∧ t.ql.cnt.wakesRx = inc 32 s.ql.cnt.wakesRx ∧
        t.pwr.state ≠ .quietLatch ∧ t.link = s.link) ∧
      exec (.refreshWindow (some true)) s = .next (s.modQlCnt (fun c => { c with refreshRx := inc 32 c.refreshRx })) ∧
      exec (.refreshWindow (some false)) s = .next (s.modQlCnt (fun c => { c with refreshMiss := inc 32 c.refreshMiss }))) ∧
    (s.ql.run.txState = 2 → exec (.refreshWindow none) s = .next (s.modQlCnt (fun c => { c with refreshTx := inc 32 c.refreshTx }))) ∧
    (s.link.legacyIdle = true →
      (∀ rate k, s.ready .legacyWake = true → s.clk.adcDiv = 2 → (s.ql.run.rxState = 1 ∨ s.ql.run.rxState = 2) →
        (s.pairsWhere (s.legacyFires rate k) ≠ 0 →
          ∃ t : State, exec (.legacyBurstDetect rate k) s = .next t ∧ t.ql.run.rxState = 3 ∧ t.rx.gainRun = false ∧
            (rate = 0 → t.ql.cnt.det3g2 = inc 32 s.ql.cnt.det3g2) ∧ (rate = 1 → t.ql.cnt.det2g0 = inc 32 s.ql.cnt.det2g0) ∧
            (2 ≤ rate → t.ql.cnt.det0g8 = inc 32 s.ql.cnt.det0g8) ∧ (∀ p, s.activePair p = true → (t.rx.pair.at p).gain = 0) ∧
            t = { s with rx := t.rx, ql := t.ql }) ∧
        (s.pairsWhere (s.legacyFires rate k) = 0 → exec (.legacyBurstDetect rate k) s = .next s)) ∧
      (∀ r, s.ql.run.rx = some r → s.ql.run.rxState = 3 →
        ∃ t : State, exec .legacyWakeTimeout s = .next t ∧ t.ql.run.rxState = 1 ∧ t.ql.cnt.legacyFalse = inc 32 s.ql.cnt.legacyFalse ∧
          t.ql.last = { r.record with result := 2 } ∧ t.link = s.link))

/-! ### Knuckle and calibration -/

/-- Knuckle, with no fast retrain pending: SHED sends KR and the pair, REINSTATE begins pair training, unless a self-test of the pair defers it; the partner's KR is
answered with KA where it is accepted, against an own request for the same pair too, and against another pair's the slave gives way with STALE; the requester
confirms with its own KA, and a KA that does not come or names another pair refuses the SHED; each direction takes its new form at the period named, and with
both in four-pair form again a REINSTATE is complete; pair training ends with READY of both ends, or after its time with the pair still shed; on the way back
the ends clear KR and KA (R248, R249, R250, R251, R252, R254, R255). Choices of the model that it rests on: log entries 75 and 76. -/
def Obligations.KnuckleShedsAndReinstates : Prop :=
  (∀ (s : State) (tag : BitVec 16) (q : Request), Takes s tag 0x4B q → s.shapeOk = true → s.fuse.part.knuckle = true → s.ready .knuckle = true →
    s.nativeData = true → s.link.knOk = true → s.link.frt.want = false →
    (q.cap.arg 28 1 = 0 → Plain q [(28, 2)] → q.cap.arg 29 1 < 4 → s.kn.state = 0 →
      ∃ t : State, exec (.knuckleShed tag) s = .next t ∧ t.kn.state = 1 ∧ t.kn.shed.val = q.cap.arg 29 1 ∧ t.kn.run.partnerAsked = false ∧
        t.kn.run.request = some (true, q.cap.tag) ∧ (t.statusTx 2).want = 1 ∧ (t.statusTx 6).want = q.cap.arg 29 1 ∧
        t.cyo.running = s.cyo.running ++ [{ q with since := s.time }] ∧ t.link = s.link ∧ t.rx = s.rx) ∧
    (q.cap.arg 28 1 = 1 → Plain q [(28, 1)] → s.kn.state = 2 → s.testOn 2 s.kn.shed.val = false → s.armed = false →
      ∃ (t : State) (g : Staging), exec (.knuckleReinstate tag) s = .next t ∧ t.kn.state = 3 ∧ t.kn.shed = s.kn.shed ∧
        t.kn.run.request = some (false, q.cap.tag) ∧ t.kn.run.ready = false ∧ t.kn.run.farReady = false ∧ t.eng.staging = some g ∧ g.state = 3 ∧
        g.profile = some (Profile.ofRung (s.link.mode.getD 0) false))) ∧
  (∀ (s : State) (p : Pair), s.shapeOk = true → s.nativeData = true → s.link.knOk = true → s.namedPair = some p →
    (s.kn.state = 0 → s.statusRx 2 = 1 → s.kn.accept = true →
      ∃ t : State, exec .knuckleRequestReceived s = .next t ∧ t.kn.state = 1 ∧ t.kn.shed = p ∧ t.kn.run.partnerAsked = true ∧ (t.statusTx 3).want = 1 ∧
        (t.statusTx 6).want = p.val ∧ t = { s with kn := t.kn, lc := t.lc }) ∧
    (s.kn.state = 0 → s.kn.accept = false → exec .knuckleRequestReceived s = .next s) ∧
    (s.kn.state = 1 → s.statusRx 2 = 1 → s.kn.run.partnerAsked = false → (s.statusTx 3).want ≠ 1 →
      (p = s.kn.shed → ∃ t : State, exec .knuckleRequestReceived s = .next t ∧ (t.statusTx 3).want = 1 ∧ t = { s with lc := t.lc }) ∧
      (p ≠ s.kn.shed → s.link.role = false → exec .knuckleRequestReceived s = .next s) ∧
      (p ≠ s.kn.shed → s.link.role = true →
        ∃ t : State, exec .knuckleRequestReceived s = .next t ∧ t.kn.run.request = none ∧ (t.statusTx 2).want = 0 ∧
          (s.kn.accept = true → t.kn.state = 1 ∧ t.kn.shed = p ∧ t.kn.run.partnerAsked = true ∧ (t.statusTx 3).want = 1) ∧
          (s.kn.accept = false → t.kn.state = 0))) ∧
    (s.kn.state = 2 → ∃ t : State, exec .knuckleRequestReceived s = .next t ∧ t.kn.state = 3 ∧ t.kn.run.partnerAsked = true ∧ t.kn.shed = s.kn.shed) ∧
    (s.kn.state = 4 → s.kn.run.partnerAsked = true → s.statusRx 2 ≠ 1 →
      ∃ t : State, exec .knuckleRequestReceived s = .next t ∧ (t.statusTx 2).want = 0 ∧ (t.statusTx 3).want = 0 ∧ t = { s with lc := t.lc }) ∧
    (∀ tag, s.kn.state = 1 → s.kn.run.request = some (true, tag) → s.statusRx 3 = 1 → (s.statusTx 3).want = 0 →
      (p = s.kn.shed → ∃ t : State, exec .knuckleAckReceived s = .next t ∧ (t.statusTx 3).want = 1 ∧ t = { s with lc := t.lc }) ∧
      (p ≠ s.kn.shed → ∃ t : State, exec .knuckleAckReceived s = .next t ∧ t.kn.state = 0 ∧ t.kn.refused = inc 8 s.kn.refused ∧ t.kn.run.request = none ∧
        (t.statusTx 2).want = 0)) ∧
    (s.kn.state = 4 → s.kn.run.partnerAsked = false → s.statusRx 3 = 0 →
      ∃ t : State, exec .knuckleAckReceived s = .next t ∧ (t.statusTx 3).want = 0 ∧ t = { s with lc := t.lc })) ∧
  (∀ (s : State) (tag : BitVec 16), s.shapeOk = true → s.kn.state = 1 → s.kn.run.request = some (true, tag) → (s.statusTx 2).now = 1 → (s.statusTx 3).want = 0 →
    ∃ t : State, exec .knuckleAckTimeout s = .next t ∧ t.kn.state = 0 ∧ t.kn.refused = inc 8 s.kn.refused ∧ t.kn.run.request = none ∧ (t.statusTx 2).want = 0) ∧
  (∀ s : State, s.nativeData = true →
    (s.kn.run.txAt = some s.lc.run.txSeq →
      ∃ t : State, exec .knuckleFormChange s = .next t ∧ t.kn.run.txForm = decide ((s.statusTx 3).now = 1) ∧ t.kn.run.txAt = none ∧
        t.kn.txSwitch = s.lc.run.txSeq ∧
        (s.kn.state = 4 → (s.statusTx 3).now ≠ 1 → s.kn.run.rxForm = false → t.kn.state = 0 ∧ t.kn.reinstates = inc 8 s.kn.reinstates)) ∧
    (s.kn.run.rxAt = some s.lc.run.rxSeq →
      ∃ t : State, exec .rxFormChange s = .next t ∧ t.kn.run.rxForm = !s.kn.run.rxForm ∧ t.kn.run.rxAt = none ∧ t.kn.rxSwitch = s.lc.run.rxSeq) ∧
    (s.kn.state = 3 → s.kn.run.ready = true → s.kn.run.farReady = true → s.shapeOk = true →
      ∃ t : State, exec .pairTrainingDone s = .next t ∧ t.kn = { s.kn with run := { s.kn.run with state := 4 } } ∧
        (s.kn.run.partnerAsked = false → (t.statusTx 2).want = 0) ∧ (s.kn.run.partnerAsked = true → t.lc = s.lc) ∧ t = { s with kn := t.kn, lc := t.lc }) ∧
    (s.kn.state = 3 →
      ∃ t : State, exec .pairTrainingTimeout s = .next t ∧ t.kn.state = 2 ∧ t.kn.shed = s.kn.shed ∧ t.kn.refused = inc 8 s.kn.refused ∧
        t.kn.run.request = none ∧
        (s.armed = false → ∃ g : Staging, t.eng.staging = some g ∧ g.state = 3 ∧ g.profile = some (Profile.ofRung (s.link.mode.getD 0) true)) ∧
        (s.armed = true → t.eng.laterProfile = some (Profile.ofRung (s.link.mode.getD 0) true))))

/-- CAL_RUN: it leaves every item named that the link state allows, on every pair named, to be estimated, and marks the others SKIPPED; an estimate that has what
it needs takes effect and ends its item, DONE or NO_CHANGE: the ADC's sets the trims of the mapped slices as targets, each within its range, the DAC's replaces
unfit cells, the hybrid's moves a code by one step and ends where no side has less echo, the die link's sets the lane phases; one that has not changes nothing; a
slice's shadow estimate sets its trims and begins the crossfade; an item that finds no engine ends NO_ENGINE, and at MAX_MS every item left ends TIMEOUT (R227,
R228, R230, R231, R232, R233, R234, R236, R238, R240). Choices of the model that it rests on: log entries 73 and 90. -/
def Obligations.CalibrationEstimatesItsItems : Prop :=
  (∀ (s : State) (tag : BitVec 16) (q : Request), Takes s tag 0x50 q → Plain q [(28, 2), (32, 4)] → s.cal.run = none →
    s.diagUses (bitsAt (q.cap.arg 29 1) 0 4) = false → s.ready .line = true → s.calTested (q.cap.arg 28 1) (q.cap.arg 29 1) = false →
    1 ≤ q.cap.arg 28 1 → q.cap.arg 28 1 < 32 → (q.cap.arg 29 1 = 0 → q.cap.arg 28 1 = 16) → q.cap.arg 29 1 < 16 → 100 ≤ q.cap.arg 32 4 →
    q.cap.arg 32 4 ≤ 60000 →
    let allowed := fun (i : Nat) => i = 4 ∨ s.nativeData = true ∨ (s.link.state = 0 ∧ i ≠ 3)
    ((∃ i < 5, bitAt (q.cap.arg 28 1) i = true ∧ allowed i) →
      ∃ (t : State) (r : CalRun), exec (.calRun tag) s = .next t ∧ t.cal.run = some r ∧ r.tag = q.cap.tag ∧ r.items = q.cap.arg 28 1 ∧
        (∀ i p, (i, p) ∈ r.left ↔ (i < 4 ∧ bitAt (q.cap.arg 28 1) i = true ∧ allowed i ∧ p < 4 ∧ bitAt (q.cap.arg 29 1) p = true) ∨
          (i = 4 ∧ p = 4 ∧ bitAt (q.cap.arg 28 1) 4 = true)) ∧
        (∀ i < 5, r.results.getD i 9 = if bitAt (q.cap.arg 28 1) i = true ∧ ¬ allowed i then 3 else 0) ∧
        t.cal = { s.cal with run := some r, est := t.cal.est } ∧ t.link = s.link ∧ t.cyo.running = s.cyo.running ++ [{ q with since := s.time }]) ∧
    ((∀ i < 5, bitAt (q.cap.arg 28 1) i = true → ¬ allowed i) →
      ∃ t : State, exec (.calRun tag) s = .next t ∧ t.cal.run = none ∧ (∀ i < 5, t.cal.results.getD i 9 = if bitAt (q.cap.arg 28 1) i = true then 3 else 0))) ∧
  (∀ (s : State) (r : CalRun) (p : Pair), s.cal.run = some r → r.results = [0, 0, 0, 0, 0] → s.cal.revertDue = false →
    let c := s.cal.pair.at p
    let e := s.cal.est.at p
    let ended := fun (t : State) (i k code : Nat) => (r.left = [(i, k)] → t.cal.run = none ∧ t.cal.results.getD i 0 = code) ∧
      (∀ r', t.cal.run = some r' → r'.left = r.left.erase (i, k) ∧ r'.results.getD i 0 = code)
    (s.calTask 0 p.val = true → s.calTask 1 p.val = false →
      (e.sums.any (fun x => x.n < 1048576) = true → exec (.calEstimateDone (.adc p)) s = .next s) ∧
      (e.sums.any (fun x => x.n < 1048576) = false →
        let f := adcFound e.sums s.symbolTime
        ∃ t : State, exec (.calEstimateDone (.adc p)) s = .next t ∧ (t.cal.pair.at p).mismatch = some (c.mismatchOf f) ∧
          ((∀ k < 32, c.trimSame k (c.needed f k) = true) → (t.cal.pair.at p).slices = c.slices ∧ ended t 0 p.val 2) ∧
          ((∃ k < 32, c.trimSame k (c.needed f k) = false) → c.map.Nodup → c.map.length = 32 →
            ended t 0 p.val 1 ∧
            ∀ k < 32, c.map.getD k 0 < c.slices.length →
              let x := (t.cal.pair.at p).slice (c.map.getD k 0)
              x.offsetTo = clampInt (-2048) 2048 (c.needed f k).1 ∧ x.gainTo = clampInt (-1024) 1024 (c.needed f k).2.1 ∧
                x.skewTo = clampInt (-160) 160 (c.needed f k).2.2))) ∧
    (s.calTask 2 p.val = true →
      (e.dacN < 4096 → exec (.calEstimateDone (.dac p)) s = .next s) ∧
      (4096 ≤ e.dacN →
        let errors := (List.range 71).map (fun j => clampInt (-128) 127 ((freeCellErrors e.seen).getD j 0))
        let bad := (List.range 63).filter (fun k => 16 < (errors.getD (c.cellsTo.getD k 0) 0).natAbs)
        ∃ t : State, exec (.calEstimateDone (.dac p)) s = .next t ∧ (t.cal.pair.at p).cellErr = errors ∧ (t.cal.pair.at p).cells = c.cells ∧
          (bad = [] → (t.cal.pair.at p).cellsTo = c.cellsTo ∧ ended t 2 p.val 2) ∧
          (∀ k j, bad = [k] → { c with cellErr := errors }.spareCell c.cellsTo = some j →
            (t.cal.pair.at p).cellsTo = setAt c.cellsTo k j ∧ (t.cal.pair.at p).cellRetired = c.cellsTo.getD k 0 :: c.cellRetired ∧ ended t 2 p.val 1) ∧
          (∀ k, bad = [k] → { c with cellErr := errors }.spareCell c.cellsTo = none → (t.cal.pair.at p).cellsTo = c.cellsTo ∧ ended t 2 p.val 6))) ∧
    (s.calTask 3 p.val = true →
      (e.hybN < 1024 → exec (.calEstimateDone (.hybrid p)) s = .next s) ∧
      (1024 ≤ e.hybN → e.axis < 2 →
        let d := if e.axis = 0 then e.direction c.hybR 255 else e.direction c.hybC 63
        ∃ t : State, exec (.calEstimateDone (.hybrid p)) s = .next t ∧ (t.cal.pair.at p).hybR = c.hybR ∧ (t.cal.pair.at p).hybC = c.hybC ∧
          (t.cal.pair.at p).hybRTo = (if e.axis = 0 then ((c.hybRTo : Int) + d).toNat else c.hybRTo) ∧
          (t.cal.pair.at p).hybCTo = (if e.axis = 0 then c.hybCTo else ((c.hybCTo : Int) + d).toNat) ∧
          (d ≠ 0 ∨ e.axis = 0 → t.cal.run = s.cal.run) ∧
          (d = 0 → e.axis = 1 → ended t 3 p.val (if (c.hybR, c.hybC) = e.start then 2 else 1)))) ∧
    (s.calTask 4 4 = true → ∀ inb k eye ph, ((s.dir inb).lane k).logical < 24 → 25 ≤ eye →
      ∃ t : State, exec (.calEstimateDone (.dielink [(inb, k, eye, ph)])) s = .next t ∧
        ((t.dir inb).lane k) = { (s.dir inb).lane k with eye := min 255 eye, phaseTo := clampInt (-32) 32 ph, phaseHeld := none } ∧
        t.dir (!inb) = s.dir (!inb) ∧ (∀ r', t.cal.run = some r' → r'.left = r.left.erase (4, 4)))) ∧
  (∀ (s : State) (p : Pair) (w : Swap) (o g k : Int), (s.cal.pair.at p).swap = some w → w.alpha = none → w.inc < (s.cal.pair.at p).slices.length →
    ∃ t : State, exec (.sliceShadowDone p o g k) s = .next t ∧ (t.cal.pair.at p).swap = some { w with alpha := some 0 } ∧
      (let x := (t.cal.pair.at p).slice w.inc
       x.offset = clampInt (-2048) 2048 o ∧ x.gain = clampInt (-1024) 1024 g ∧ x.skew = clampInt (-160) 160 k) ∧
      (t.cal.pair.at p).map = (s.cal.pair.at p).map ∧ t = { s with cal := t.cal }) ∧
  (∀ (s : State) (r : CalRun) (i p : Nat) (rest : List (Nat × Nat)), s.cal.run = some r → r.left = (i, p) :: rest → s.backgroundEngine = false →
    i < r.results.length →
    ((∃ x ∈ rest, x.1 ≠ i) →
      ∃ (t : State) (r' : CalRun), exec .calNoEngine s = .next t ∧ t.cal.run = some r' ∧ r'.results.getD i 0 = 5 ∧ r'.left = r.left.filter (fun x => x.1 ≠ i) ∧
        t = { s with cal := t.cal }) ∧
    ((∀ x ∈ rest, x.1 = i) → ∃ t : State, exec .calNoEngine s = .next t ∧ t.cal.run = none ∧ t.cal.results.getD i 0 = 5)) ∧
  (∀ (s : State) (r : CalRun), s.cal.run = some r →
    ∃ t : State, exec .calTimeout s = .next t ∧ t.cal.run = none ∧ (∀ x ∈ r.left, x.1 < r.results.length → t.cal.results.getD x.1 0 = 7) ∧
      (∀ i, (∀ x ∈ r.left, x.1 ≠ i) → t.cal.results.getD i 0 = r.results.getD i 0) ∧ t.cal.revertDue = false)

/-- The calibration blob: CAL_EXPORT writes the values in force to the buffer and takes the generation given; CAL_IMPORT refuses a blob with the number of
the first check that it fails, and an accepted blob becomes the targets of its pairs, in force at once in link states 0 to 2, approached by detents in native
data, and held in every other state (R243, R246, R247). Choices of the model that it rests on: log entry 74. -/
def Obligations.CalibrationIsExportedAndImported : Prop :=
  (∀ (s : State) (tag : BitVec 16) (q : Request), Takes s tag 0x51 q → q.cap.len = 0 → s.ready .line = true → calBufferOk q.cap [(32, 16)] = true →
    s.bufferFault (q.cap.arg 32 8) 2240 true = none →
    ∃ t : State, exec (.calExport tag) s = .next (t.finish q .ok [(32, q.cap.arg 44 4)] []) ∧ t.cal = { s.cal with dirty := false, gen := q.cap.arg 44 4 } ∧
      t = { (s.begin q).writeLines (q.cap.arg 32 8) 35 (s.calBlob (q.cap.arg 44 4) ++ List.replicate 44 0) with cal := t.cal }) ∧
  (∀ (s : State) (tag : BitVec 16) (bytes : List Byte) (q : Request), Takes s tag 0x52 q → q.cap.len = 0 → s.cal.run = none → s.diag.run = none →
    s.ready .line = true → calBufferOk q.cap [(32, 12)] = true → s.bufferFault (q.cap.arg 32 8) 2240 false = none →
    let b := fitBytes 2196 bytes
    (∀ n, s.blobReject b = some n →
      ∃ t : State, exec (.calImport tag bytes) s = .next (t.finish q .range [(32, 0), (8, n)] []) ∧ t = { s.begin q with cal := { s.cal with reject := n } }) ∧
    (s.blobReject b = none →
      ∃ t : State, exec (.calImport tag bytes) s = .next (t.finish q .ok [(32, leAt b 40 4)] []) ∧ t.cal.reject = 0 ∧ t.cal.gen = leAt b 40 4 ∧
        t.cal.dirty = false ∧
        (s.link.state ≤ 2 → t.cal.heldTargets = none ∧ ∀ p : Pair, (t.cal.pair.at p).hybR = leAt (blobPair b p.val) 4 2 ∧
          (t.cal.pair.at p).hybC = leAt (blobPair b p.val) 6 2 ∧ (t.cal.pair.at p).map = (t.cal.pair.at p).mapTo) ∧
        (s.nativeData = true → t.cal.heldTargets = none ∧ ∀ p : Pair, (t.cal.pair.at p).hybRTo = leAt (blobPair b p.val) 4 2 ∧
          (t.cal.pair.at p).hybCTo = leAt (blobPair b p.val) 6 2 ∧ (t.cal.pair.at p).hybR = (s.cal.pair.at p).hybR ∧
          (t.cal.pair.at p).map = (s.cal.pair.at p).map) ∧
        (2 < s.link.state → s.nativeData = false → t.cal.heldTargets = some (some b) ∧ t.cal.pair = s.cal.pair) ∧
        t = { s.begin q with cal := t.cal, dl := t.dl }))

/-! ### Cable diagnostics -/

/-- DIAG_TDR: with the link down it starts with the pairs named left to measure, and marks the others SKIPPED; on the shed pair of a link in Knuckle form it first
asks the partner for silence; a block, which needs an engine, is accumulated or discarded, the last block that a measurement needs ends it COMPLETE with the
findings of its response, the last NEXT measurement writes the map, too many discarded blocks end it DISTURBED; no engine gives NO_ENGINE; at MAX_MS what is
left is TIMEOUT and the command ends; a granted QUIET_ACK lets the acquisition begin, another answer or its absence ends the run REFUSED, a release of the
silence INTERRUPTED. The partner's QUIET_REQ is answered: it is granted on the shed pair, where the silence ends at its duration, and refused in four-pair form
(R262, R263, R264, R266, R267, R268, R269, R270, R277). Choices of the model that it rests on: log entries 77, 78 and 94. -/
def Obligations.CableDiagnosticsMeasure : Prop :=
  (∀ (s : State) (tag : BitVec 16) (q : Request), Takes s tag 0x53 q → q.cap.len = 0 → s.fuse.part.diag = true → s.ready .diag = true → s.ready .line = true →
    s.cal.run = none → s.diag.run = none → s.bist.run = none → diagBad q.cap = false →
    (q.cap.arg 32 8 = 0 ∨ s.bufferFault (q.cap.arg 32 8) 8256 true = none) →
    (s.link.state ≤ 2 →
      ∃ (t : State) (r : DiagRun), exec (.diagTdr tag) s = .next t ∧ t.diag.run = some r ∧ r.tag = q.cap.tag ∧ r.blocks = s.diag.blocks ∧ r.onShed = false ∧
        r.asking = false ∧
        (∀ p < 4, (p ∈ r.left ↔ q.cap.arg 28 1 % 4 ≠ 0 ∧ bitAt (q.cap.arg 29 1) p = true) ∧
          t.diag.tdrResult.getD p 9 = (if p ∈ r.left then 0 else 7)) ∧
        (4 ∈ r.left ↔ bitAt (q.cap.arg 28 1) 2 = true) ∧ t.diag.nextResult = (if 4 ∈ r.left then 0 else 7) ∧ r.suspended = decide (s.link.state ≠ 0) ∧
        t.cyo.running = s.cyo.running ++ [{ q with since := s.time }]) ∧
    (s.nativeData = true → s.kn.state = 2 → bitAt (q.cap.arg 28 1) 2 = false → q.cap.arg 29 1 = 2 ^ s.kn.shed.val →
      ∃ (t : State) (r : DiagRun) (item : List Byte), exec (.diagTdr tag) s = .next t ∧ t.diag.run = some r ∧ r.onShed = true ∧ r.asking = true ∧
        r.left = [s.kn.shed.val] ∧ t.lc.run.oam = s.lc.run.oam ++ [item] ∧ leAt item 0 2 = 2 ∧ leAt item 8 1 = s.kn.shed.val ∧ leAt item 9 1 = 1 ∧
        leAt item 10 2 = quietMs s.diag.blocks ∧ t.link = s.link)) ∧
  (∀ (s : State) (r : DiagRun) (b : DiagBlock) (k : Nat) (rest : List Nat), s.diag.run = some r → r.left = k :: rest → r.asking = false → r.onShed = false →
    (s.backgroundEngine = true →
      let a := s.accumulate r k b
      (blockGood b k = true → r.accepted + 1 < r.blocks → r.discardedHere < 4 * r.blocks →
        exec (.tdrBlockDone b) s = .next { s with diag := { s.diag with run := some a } }) ∧
      (blockGood b k = false → r.discardedHere + 1 < 4 * r.blocks → r.accepted < r.blocks →
        exec (.tdrBlockDone b) s = .next { s with diag := { s.diag with run := some { r with discardedHere := r.discardedHere + 1 }, discarded := inc 16 s.diag.discarded } }) ∧
      (blockGood b k = true → r.accepted + 1 = r.blocks → k < 4 →
        let p : Pair := ⟨k % 4, Nat.mod_lt _ (by decide)⟩
        let rl := if bitAt r.tests 1 then s.returnLoss a (a.acc.at p) else List.replicate 8 0
        ∃ t : State, exec (.tdrBlockDone b) s = .next t ∧ t.diag.tdrResult = setAt s.diag.tdrResult k 1 ∧
          t.diag.find.at p = tdrRecord r.stepThr r.endThr (s.diagBins r.range ((a.acc.at p).map (gammaOf r.blocks))) rl ∧
          (rest ≠ [] → t = { s with diag := t.diag } ∧ ∃ r' : DiagRun, t.diag.run = some r' ∧ r'.left = rest ∧ r'.accepted = 0 ∧ r'.discardedHere = 0) ∧
          (rest = [] → t.diag.run = none)) ∧
      (blockGood b k = true → r.accepted + 1 = r.blocks → 4 ≤ k →
        let l := r.next ++ (measuredPairs k).map (fun p => (k - 4, p.val, nextLoss a (a.acc.at p)))
        ∃ t : State, exec (.tdrBlockDone b) s = .next t ∧ t.diag.tdrResult = s.diag.tdrResult ∧
          (rest ≠ [] → t = { s with diag := t.diag } ∧ ∃ r' : DiagRun, t.diag.run = some r' ∧ r'.left = rest ∧ r'.next = l) ∧
          (rest = [] → t.diag.run = none ∧ t.diag.nextMap = combinations.map (nextMean l) ∧ (s.diag.nextResult ≠ 2 → t.diag.nextResult = 1))) ∧
      (blockGood b k = false → 4 * r.blocks = r.discardedHere + 1 → r.accepted < r.blocks → k < 4 → rest ≠ [] →
        ∃ (t : State) (r' : DiagRun), exec (.tdrBlockDone b) s = .next t ∧ t.diag.tdrResult = setAt s.diag.tdrResult k 2 ∧ t.diag.run = some r' ∧ r'.left = rest ∧
          t.diag.discarded = inc 16 s.diag.discarded ∧ t = { s with diag := t.diag })) ∧
    (s.backgroundEngine = false → exec (.tdrBlockDone b) s = .next s ∧
      (k < 4 → rest ≠ [] →
        ∃ (t : State) (r' : DiagRun), exec .diagNoEngine s = .next t ∧ t.diag.tdrResult = setAt s.diag.tdrResult k 5 ∧ t.diag.run = some r' ∧ r'.left = rest ∧
          t = { s with diag := t.diag }) ∧
      (4 ≤ k → ∃ t : State, exec .diagNoEngine s = .next t ∧ t.diag.nextResult = 5 ∧ t.diag.run = none))) ∧
  (∀ (s : State) (r : DiagRun), s.diag.run = some r →
    let all := fun (t : State) (code : Nat) => t.diag.run = none ∧ t.diag.find = s.diag.find ∧
      (∀ k ∈ r.left, k < s.diag.tdrResult.length → k < 4 → t.diag.tdrResult.getD k 0 = code) ∧
      (∀ k, k ∉ r.left → t.diag.tdrResult.getD k 0 = s.diag.tdrResult.getD k 0)
    (∃ t : State, exec .diagTimeout s = .next t ∧ all t 6) ∧
    (r.asking = true → ∃ t : State, exec .quietAckTimeout s = .next t ∧ all t 3) ∧
    (∀ (x : List Byte) (more : List (List Byte)), s.lc.oamIn = x :: more → oamOk x = true → leAt x 0 2 = 3 → leAt x 9 1 = 1 → r.onShed = true →
      (leAt x 10 1 = 0 → (s.link.map.far.at s.kn.shed).val = leAt x 8 1 →
        ∃ t : State, exec .quietAck s = .next t ∧ t.diag.run = some { r with asking := false } ∧ t.mon.oamRx = inc 32 s.mon.oamRx ∧ t.lc.oamIn = more ∧
          t = { s with lc := t.lc, mon := t.mon, diag := t.diag }) ∧
      (leAt x 10 1 = 1 ∨ leAt x 10 1 = 2 → ∃ t : State, exec .quietAck s = .next t ∧ all t 3) ∧
      (leAt x 10 1 = 3 → ∃ t : State, exec .quietAck s = .next t ∧ all t 4))) ∧
  (∀ (s : State) (x : List Byte) (more : List (List Byte)), s.lc.oamIn = x :: more →
    (oamOk x = false → ∀ c ∈ [Instr.quietReq, Instr.quietAck],
      exec c s = .next { s with lc := { s.lc with oamIn := more }, mon := { s.mon with oamDrop := inc 32 s.mon.oamDrop } }) ∧
    (∀ p : Pair, oamOk x = true → leAt x 0 2 = 2 → s.nativeData = true → (s.link.map.far.at p).val = leAt x 8 1 →
      (∀ p' : Pair, p' ≠ p → s.link.map.far.at p' ≠ s.link.map.far.at p) →
      let answered := fun (t : State) (result : Nat) => ∃ item : List Byte, t.lc.run.oam = s.lc.run.oam ++ [item] ∧ leAt item 0 2 = 3 ∧ leAt item 8 1 = p.val ∧
        leAt item 9 1 = leAt x 9 1 ∧ leAt item 10 1 = result ∧ t.mon.oamRx = inc 32 s.mon.oamRx ∧ t.mon.oamTx = inc 32 s.mon.oamTx ∧
        t = { s with lc := t.lc, mon := t.mon, diag := t.diag }
      (s.kn.state = 2 → p = s.kn.shed →
        ∃ t : State, exec .quietReq s = .next t ∧ t.diag.quietUntil = (if leAt x 9 1 = 1 then some (s.time + 1000000 * leAt x 10 2) else none) ∧
          t.mon.quietRefused = s.mon.quietRefused ∧ answered t 0) ∧
      (s.kn.state = 0 →
        ∃ t : State, exec .quietReq s = .next t ∧ t.diag.quietUntil = s.diag.quietUntil ∧ t.mon.quietRefused = inc 32 s.mon.quietRefused ∧ answered t 1))) ∧
  (∀ s : State, exec .quietDurationExpiry s = .next { s with diag := { s.diag with quietUntil := none } })

end Statements
end

