-- ==== Sys2Proof/Laws/State.lean ====
section
/-! SUPPORT. What each shared operation leaves alone: one lemma for each field of the state that it does not write. -/

namespace Sys2Proof.Machine

set_option linter.unreachableTactic false
set_option linter.unusedTactic false


@[simp] theorem State.ite_fuse (c : Prop) [Decidable c] (a b : State) : (if c then a else b).fuse = if c then a.fuse else b.fuse := by split <;> rfl
@[simp] theorem State.ite_nvm (c : Prop) [Decidable c] (a b : State) : (if c then a else b).nvm = if c then a.nvm else b.nvm := by split <;> rfl
@[simp] theorem State.ite_pwr (c : Prop) [Decidable c] (a b : State) : (if c then a else b).pwr = if c then a.pwr else b.pwr := by split <;> rfl
@[simp] theorem State.ite_fp (c : Prop) [Decidable c] (a b : State) : (if c then a else b).fp = if c then a.fp else b.fp := by split <;> rfl
@[simp] theorem State.ite_kw (c : Prop) [Decidable c] (a b : State) : (if c then a else b).kw = if c then a.kw else b.kw := by split <;> rfl
@[simp] theorem State.ite_flows (c : Prop) [Decidable c] (a b : State) : (if c then a else b).flows = if c then a.flows else b.flows := by split <;> rfl
@[simp] theorem State.ite_cyo (c : Prop) [Decidable c] (a b : State) : (if c then a else b).cyo = if c then a.cyo else b.cyo := by split <;> rfl
@[simp] theorem State.ite_ben (c : Prop) [Decidable c] (a b : State) : (if c then a else b).ben = if c then a.ben else b.ben := by split <;> rfl
@[simp] theorem State.ite_bist (c : Prop) [Decidable c] (a b : State) : (if c then a else b).bist = if c then a.bist else b.bist := by split <;> rfl
@[simp] theorem State.ite_page (c : Prop) [Decidable c] (a b : State) : (if c then a else b).page = if c then a.page else b.page := by split <;> rfl
@[simp] theorem State.ite_ward (c : Prop) [Decidable c] (a b : State) : (if c then a else b).ward = if c then a.ward else b.ward := by split <;> rfl
@[simp] theorem State.ite_spdm (c : Prop) [Decidable c] (a b : State) : (if c then a else b).spdm = if c then a.spdm else b.spdm := by split <;> rfl
@[simp] theorem State.ite_hasp (c : Prop) [Decidable c] (a b : State) : (if c then a else b).hasp = if c then a.hasp else b.hasp := by split <;> rfl
@[simp] theorem State.ite_clk (c : Prop) [Decidable c] (a b : State) : (if c then a else b).clk = if c then a.clk else b.clk := by split <;> rfl
@[simp] theorem State.ite_gate (c : Prop) [Decidable c] (a b : State) : (if c then a else b).gate = if c then a.gate else b.gate := by split <;> rfl
@[simp] theorem State.ite_dl (c : Prop) [Decidable c] (a b : State) : (if c then a else b).dl = if c then a.dl else b.dl := by split <;> rfl
@[simp] theorem State.ite_link (c : Prop) [Decidable c] (a b : State) : (if c then a else b).link = if c then a.link else b.link := by split <;> rfl
@[simp] theorem State.ite_lc (c : Prop) [Decidable c] (a b : State) : (if c then a else b).lc = if c then a.lc else b.lc := by split <;> rfl
@[simp] theorem State.ite_rx (c : Prop) [Decidable c] (a b : State) : (if c then a else b).rx = if c then a.rx else b.rx := by split <;> rfl
@[simp] theorem State.ite_eng (c : Prop) [Decidable c] (a b : State) : (if c then a else b).eng = if c then a.eng else b.eng := by split <;> rfl
@[simp] theorem State.ite_ql (c : Prop) [Decidable c] (a b : State) : (if c then a else b).ql = if c then a.ql else b.ql := by split <;> rfl
@[simp] theorem State.ite_cal (c : Prop) [Decidable c] (a b : State) : (if c then a else b).cal = if c then a.cal else b.cal := by split <;> rfl
@[simp] theorem State.ite_kn (c : Prop) [Decidable c] (a b : State) : (if c then a else b).kn = if c then a.kn else b.kn := by split <;> rfl
@[simp] theorem State.ite_diag (c : Prop) [Decidable c] (a b : State) : (if c then a else b).diag = if c then a.diag else b.diag := by split <;> rfl
@[simp] theorem State.ite_mon (c : Prop) [Decidable c] (a b : State) : (if c then a else b).mon = if c then a.mon else b.mon := by split <;> rfl
@[simp] theorem State.ite_out (c : Prop) [Decidable c] (a b : State) : (if c then a else b).out = if c then a.out else b.out := by split <;> rfl
@[simp] theorem State.ite_pending (c : Prop) [Decidable c] (a b : State) : (if c then a else b).pending = if c then a.pending else b.pending := by split <;> rfl
@[simp] theorem State.ite_draws (c : Prop) [Decidable c] (a b : State) : (if c then a else b).draws = if c then a.draws else b.draws := by split <;> rfl
@[simp] theorem State.ite_time (c : Prop) [Decidable c] (a b : State) : (if c then a else b).time = if c then a.time else b.time := by split <;> rfl
@[simp] theorem State.ite_porNs (c : Prop) [Decidable c] (a b : State) : (if c then a else b).porNs = if c then a.porNs else b.porNs := by split <;> rfl

@[simp] theorem State.emit_fuse (s : State) (o : Out) : (State.emit s o).fuse = s.fuse := rfl
@[simp] theorem State.emit_nvm (s : State) (o : Out) : (State.emit s o).nvm = s.nvm := rfl
@[simp] theorem State.emit_pwr (s : State) (o : Out) : (State.emit s o).pwr = s.pwr := rfl
@[simp] theorem State.emit_fp (s : State) (o : Out) : (State.emit s o).fp = s.fp := rfl
@[simp] theorem State.emit_kw (s : State) (o : Out) : (State.emit s o).kw = s.kw := rfl
@[simp] theorem State.emit_flows (s : State) (o : Out) : (State.emit s o).flows = s.flows := rfl
@[simp] theorem State.emit_cyo (s : State) (o : Out) : (State.emit s o).cyo = s.cyo := rfl
@[simp] theorem State.emit_ben (s : State) (o : Out) : (State.emit s o).ben = s.ben := rfl
@[simp] theorem State.emit_bist (s : State) (o : Out) : (State.emit s o).bist = s.bist := rfl
@[simp] theorem State.emit_page (s : State) (o : Out) : (State.emit s o).page = s.page := rfl
@[simp] theorem State.emit_ward (s : State) (o : Out) : (State.emit s o).ward = s.ward := rfl
@[simp] theorem State.emit_spdm (s : State) (o : Out) : (State.emit s o).spdm = s.spdm := rfl
@[simp] theorem State.emit_hasp (s : State) (o : Out) : (State.emit s o).hasp = s.hasp := rfl
@[simp] theorem State.emit_clk (s : State) (o : Out) : (State.emit s o).clk = s.clk := rfl
@[simp] theorem State.emit_gate (s : State) (o : Out) : (State.emit s o).gate = s.gate := rfl
@[simp] theorem State.emit_dl (s : State) (o : Out) : (State.emit s o).dl = s.dl := rfl
@[simp] theorem State.emit_link (s : State) (o : Out) : (State.emit s o).link = s.link := rfl
@[simp] theorem State.emit_lc (s : State) (o : Out) : (State.emit s o).lc = s.lc := rfl
@[simp] theorem State.emit_rx (s : State) (o : Out) : (State.emit s o).rx = s.rx := rfl
@[simp] theorem State.emit_eng (s : State) (o : Out) : (State.emit s o).eng = s.eng := rfl
@[simp] theorem State.emit_ql (s : State) (o : Out) : (State.emit s o).ql = s.ql := rfl
@[simp] theorem State.emit_cal (s : State) (o : Out) : (State.emit s o).cal = s.cal := rfl
@[simp] theorem State.emit_kn (s : State) (o : Out) : (State.emit s o).kn = s.kn := rfl
@[simp] theorem State.emit_diag (s : State) (o : Out) : (State.emit s o).diag = s.diag := rfl
@[simp] theorem State.emit_mon (s : State) (o : Out) : (State.emit s o).mon = s.mon := rfl
@[simp] theorem State.emit_pending (s : State) (o : Out) : (State.emit s o).pending = s.pending := rfl
@[simp] theorem State.emit_draws (s : State) (o : Out) : (State.emit s o).draws = s.draws := rfl
@[simp] theorem State.emit_time (s : State) (o : Out) : (State.emit s o).time = s.time := rfl
@[simp] theorem State.emit_porNs (s : State) (o : Out) : (State.emit s o).porNs = s.porNs := rfl

@[simp] theorem State.drawn_fuse (s : State) : (State.drawn s).fuse = s.fuse := rfl
@[simp] theorem State.drawn_nvm (s : State) : (State.drawn s).nvm = s.nvm := rfl
@[simp] theorem State.drawn_pwr (s : State) : (State.drawn s).pwr = s.pwr := rfl
@[simp] theorem State.drawn_fp (s : State) : (State.drawn s).fp = s.fp := rfl
@[simp] theorem State.drawn_kw (s : State) : (State.drawn s).kw = s.kw := rfl
@[simp] theorem State.drawn_flows (s : State) : (State.drawn s).flows = s.flows := rfl
@[simp] theorem State.drawn_cyo (s : State) : (State.drawn s).cyo = s.cyo := rfl
@[simp] theorem State.drawn_ben (s : State) : (State.drawn s).ben = s.ben := rfl
@[simp] theorem State.drawn_bist (s : State) : (State.drawn s).bist = s.bist := rfl
@[simp] theorem State.drawn_page (s : State) : (State.drawn s).page = s.page := rfl
@[simp] theorem State.drawn_ward (s : State) : (State.drawn s).ward = s.ward := rfl
@[simp] theorem State.drawn_spdm (s : State) : (State.drawn s).spdm = s.spdm := rfl
@[simp] theorem State.drawn_hasp (s : State) : (State.drawn s).hasp = s.hasp := rfl
@[simp] theorem State.drawn_clk (s : State) : (State.drawn s).clk = s.clk := rfl
@[simp] theorem State.drawn_gate (s : State) : (State.drawn s).gate = s.gate := rfl
@[simp] theorem State.drawn_dl (s : State) : (State.drawn s).dl = s.dl := rfl
@[simp] theorem State.drawn_link (s : State) : (State.drawn s).link = s.link := rfl
@[simp] theorem State.drawn_lc (s : State) : (State.drawn s).lc = s.lc := rfl
@[simp] theorem State.drawn_rx (s : State) : (State.drawn s).rx = s.rx := rfl
@[simp] theorem State.drawn_eng (s : State) : (State.drawn s).eng = s.eng := rfl
@[simp] theorem State.drawn_ql (s : State) : (State.drawn s).ql = s.ql := rfl
@[simp] theorem State.drawn_cal (s : State) : (State.drawn s).cal = s.cal := rfl
@[simp] theorem State.drawn_kn (s : State) : (State.drawn s).kn = s.kn := rfl
@[simp] theorem State.drawn_diag (s : State) : (State.drawn s).diag = s.diag := rfl
@[simp] theorem State.drawn_mon (s : State) : (State.drawn s).mon = s.mon := rfl
@[simp] theorem State.drawn_out (s : State) : (State.drawn s).out = s.out := rfl
@[simp] theorem State.drawn_pending (s : State) : (State.drawn s).pending = s.pending := rfl
@[simp] theorem State.drawn_time (s : State) : (State.drawn s).time = s.time := rfl
@[simp] theorem State.drawn_porNs (s : State) : (State.drawn s).porNs = s.porNs := rfl

@[simp] theorem State.signalVector_fuse (s : State) (v : Nat) : (State.signalVector s v).fuse = s.fuse := rfl
@[simp] theorem State.signalVector_nvm (s : State) (v : Nat) : (State.signalVector s v).nvm = s.nvm := rfl
@[simp] theorem State.signalVector_pwr (s : State) (v : Nat) : (State.signalVector s v).pwr = s.pwr := rfl
@[simp] theorem State.signalVector_kw (s : State) (v : Nat) : (State.signalVector s v).kw = s.kw := rfl
@[simp] theorem State.signalVector_flows (s : State) (v : Nat) : (State.signalVector s v).flows = s.flows := rfl
@[simp] theorem State.signalVector_cyo (s : State) (v : Nat) : (State.signalVector s v).cyo = s.cyo := rfl
@[simp] theorem State.signalVector_ben (s : State) (v : Nat) : (State.signalVector s v).ben = s.ben := rfl
@[simp] theorem State.signalVector_bist (s : State) (v : Nat) : (State.signalVector s v).bist = s.bist := rfl
@[simp] theorem State.signalVector_page (s : State) (v : Nat) : (State.signalVector s v).page = s.page := rfl
@[simp] theorem State.signalVector_ward (s : State) (v : Nat) : (State.signalVector s v).ward = s.ward := rfl
@[simp] theorem State.signalVector_spdm (s : State) (v : Nat) : (State.signalVector s v).spdm = s.spdm := rfl
@[simp] theorem State.signalVector_hasp (s : State) (v : Nat) : (State.signalVector s v).hasp = s.hasp := rfl
@[simp] theorem State.signalVector_clk (s : State) (v : Nat) : (State.signalVector s v).clk = s.clk := rfl
@[simp] theorem State.signalVector_gate (s : State) (v : Nat) : (State.signalVector s v).gate = s.gate := rfl
@[simp] theorem State.signalVector_dl (s : State) (v : Nat) : (State.signalVector s v).dl = s.dl := rfl
@[simp] theorem State.signalVector_link (s : State) (v : Nat) : (State.signalVector s v).link = s.link := rfl
@[simp] theorem State.signalVector_lc (s : State) (v : Nat) : (State.signalVector s v).lc = s.lc := rfl
@[simp] theorem State.signalVector_rx (s : State) (v : Nat) : (State.signalVector s v).rx = s.rx := rfl
@[simp] theorem State.signalVector_eng (s : State) (v : Nat) : (State.signalVector s v).eng = s.eng := rfl
@[simp] theorem State.signalVector_ql (s : State) (v : Nat) : (State.signalVector s v).ql = s.ql := rfl
@[simp] theorem State.signalVector_cal (s : State) (v : Nat) : (State.signalVector s v).cal = s.cal := rfl
@[simp] theorem State.signalVector_kn (s : State) (v : Nat) : (State.signalVector s v).kn = s.kn := rfl
@[simp] theorem State.signalVector_diag (s : State) (v : Nat) : (State.signalVector s v).diag = s.diag := rfl
@[simp] theorem State.signalVector_mon (s : State) (v : Nat) : (State.signalVector s v).mon = s.mon := rfl
@[simp] theorem State.signalVector_pending (s : State) (v : Nat) : (State.signalVector s v).pending = s.pending := rfl
@[simp] theorem State.signalVector_draws (s : State) (v : Nat) : (State.signalVector s v).draws = s.draws := rfl
@[simp] theorem State.signalVector_time (s : State) (v : Nat) : (State.signalVector s v).time = s.time := rfl
@[simp] theorem State.signalVector_porNs (s : State) (v : Nat) : (State.signalVector s v).porNs = s.porNs := rfl

@[simp] theorem State.signalGeneral_fuse (s : State) : (State.signalGeneral s).fuse = s.fuse := by
  unfold State.signalGeneral; repeat' (first | rfl | (simp; done) | split)
@[simp] theorem State.signalGeneral_nvm (s : State) : (State.signalGeneral s).nvm = s.nvm := by
  unfold State.signalGeneral; repeat' (first | rfl | (simp; done) | split)
@[simp] theorem State.signalGeneral_pwr (s : State) : (State.signalGeneral s).pwr = s.pwr := by
  unfold State.signalGeneral; repeat' (first | rfl | (simp; done) | split)
@[simp] theorem State.signalGeneral_kw (s : State) : (State.signalGeneral s).kw = s.kw := by
  unfold State.signalGeneral; repeat' (first | rfl | (simp; done) | split)
@[simp] theorem State.signalGeneral_flows (s : State) : (State.signalGeneral s).flows = s.flows := by
  unfold State.signalGeneral; repeat' (first | rfl | (simp; done) | split)
@[simp] theorem State.signalGeneral_cyo (s : State) : (State.signalGeneral s).cyo = s.cyo := by
  unfold State.signalGeneral; repeat' (first | rfl | (simp; done) | split)
@[simp] theorem State.signalGeneral_ben (s : State) : (State.signalGeneral s).ben = s.ben := by
  unfold State.signalGeneral; repeat' (first | rfl | (simp; done) | split)
@[simp] theorem State.signalGeneral_bist (s : State) : (State.signalGeneral s).bist = s.bist := by
  unfold State.signalGeneral; repeat' (first | rfl | (simp; done) | split)
@[simp] theorem State.signalGeneral_page (s : State) : (State.signalGeneral s).page = s.page := by
  unfold State.signalGeneral; repeat' (first | rfl | (simp; done) | split)
@[simp] theorem State.signalGeneral_ward (s : State) : (State.signalGeneral s).ward = s.ward := by
  unfold State.signalGeneral; repeat' (first | rfl | (simp; done) | split)
@[simp] theorem State.signalGeneral_spdm (s : State) : (State.signalGeneral s).spdm = s.spdm := by
  unfold State.signalGeneral; repeat' (first | rfl | (simp; done) | split)
@[simp] theorem State.signalGeneral_hasp (s : State) : (State.signalGeneral s).hasp = s.hasp := by
  unfold State.signalGeneral; repeat' (first | rfl | (simp; done) | split)
@[simp] theorem State.signalGeneral_clk (s : State) : (State.signalGeneral s).clk = s.clk := by
  unfold State.signalGeneral; repeat' (first | rfl | (simp; done) | split)
@[simp] theorem State.signalGeneral_gate (s : State) : (State.signalGeneral s).gate = s.gate := by
  unfold State.signalGeneral; repeat' (first | rfl | (simp; done) | split)
@[simp] theorem State.signalGeneral_dl (s : State) : (State.signalGeneral s).dl = s.dl := by
  unfold State.signalGeneral; repeat' (first | rfl | (simp; done) | split)
@[simp] theorem State.signalGeneral_link (s : State) : (State.signalGeneral s).link = s.link := by
  unfold State.signalGeneral; repeat' (first | rfl | (simp; done) | split)
@[simp] theorem State.signalGeneral_lc (s : State) : (State.signalGeneral s).lc = s.lc := by
  unfold State.signalGeneral; repeat' (first | rfl | (simp; done) | split)
@[simp] theorem State.signalGeneral_rx (s : State) : (State.signalGeneral s).rx = s.rx := by
  unfold State.signalGeneral; repeat' (first | rfl | (simp; done) | split)
@[simp] theorem State.signalGeneral_eng (s : State) : (State.signalGeneral s).eng = s.eng := by
  unfold State.signalGeneral; repeat' (first | rfl | (simp; done) | split)
@[simp] theorem State.signalGeneral_ql (s : State) : (State.signalGeneral s).ql = s.ql := by
  unfold State.signalGeneral; repeat' (first | rfl | (simp; done) | split)
@[simp] theorem State.signalGeneral_cal (s : State) : (State.signalGeneral s).cal = s.cal := by
  unfold State.signalGeneral; repeat' (first | rfl | (simp; done) | split)
@[simp] theorem State.signalGeneral_kn (s : State) : (State.signalGeneral s).kn = s.kn := by
  unfold State.signalGeneral; repeat' (first | rfl | (simp; done) | split)
@[simp] theorem State.signalGeneral_diag (s : State) : (State.signalGeneral s).diag = s.diag := by
  unfold State.signalGeneral; repeat' (first | rfl | (simp; done) | split)
@[simp] theorem State.signalGeneral_mon (s : State) : (State.signalGeneral s).mon = s.mon := by
  unfold State.signalGeneral; repeat' (first | rfl | (simp; done) | split)
@[simp] theorem State.signalGeneral_pending (s : State) : (State.signalGeneral s).pending = s.pending := by
  unfold State.signalGeneral; repeat' (first | rfl | (simp; done) | split)
@[simp] theorem State.signalGeneral_draws (s : State) : (State.signalGeneral s).draws = s.draws := by
  unfold State.signalGeneral; repeat' (first | rfl | (simp; done) | split)
@[simp] theorem State.signalGeneral_time (s : State) : (State.signalGeneral s).time = s.time := by
  unfold State.signalGeneral; repeat' (first | rfl | (simp; done) | split)
@[simp] theorem State.signalGeneral_porNs (s : State) : (State.signalGeneral s).porNs = s.porNs := by
  unfold State.signalGeneral; repeat' (first | rfl | (simp; done) | split)

@[simp] theorem State.raiseEvent_fuse (s : State) (i : Nat) : (State.raiseEvent s i).fuse = s.fuse := by
  unfold State.raiseEvent; repeat' (first | rfl | (simp; done) | split)
@[simp] theorem State.raiseEvent_nvm (s : State) (i : Nat) : (State.raiseEvent s i).nvm = s.nvm := by
  unfold State.raiseEvent; repeat' (first | rfl | (simp; done) | split)
@[simp] theorem State.raiseEvent_pwr (s : State) (i : Nat) : (State.raiseEvent s i).pwr = s.pwr := by
  unfold State.raiseEvent; repeat' (first | rfl | (simp; done) | split)
@[simp] theorem State.raiseEvent_kw (s : State) (i : Nat) : (State.raiseEvent s i).kw = s.kw := by
  unfold State.raiseEvent; repeat' (first | rfl | (simp; done) | split)
@[simp] theorem State.raiseEvent_flows (s : State) (i : Nat) : (State.raiseEvent s i).flows = s.flows := by
  unfold State.raiseEvent; repeat' (first | rfl | (simp; done) | split)
@[simp] theorem State.raiseEvent_cyo (s : State) (i : Nat) : (State.raiseEvent s i).cyo = s.cyo := by
  unfold State.raiseEvent; repeat' (first | rfl | (simp; done) | split)
@[simp] theorem State.raiseEvent_ben (s : State) (i : Nat) : (State.raiseEvent s i).ben = s.ben := by
  unfold State.raiseEvent; repeat' (first | rfl | (simp; done) | split)
@[simp] theorem State.raiseEvent_bist (s : State) (i : Nat) : (State.raiseEvent s i).bist = s.bist := by
  unfold State.raiseEvent; repeat' (first | rfl | (simp; done) | split)
@[simp] theorem State.raiseEvent_page (s : State) (i : Nat) : (State.raiseEvent s i).page = s.page := by
  unfold State.raiseEvent; repeat' (first | rfl | (simp; done) | split)
@[simp] theorem State.raiseEvent_ward (s : State) (i : Nat) : (State.raiseEvent s i).ward = s.ward := by
  unfold State.raiseEvent; repeat' (first | rfl | (simp; done) | split)
@[simp] theorem State.raiseEvent_spdm (s : State) (i : Nat) : (State.raiseEvent s i).spdm = s.spdm := by
  unfold State.raiseEvent; repeat' (first | rfl | (simp; done) | split)
@[simp] theorem State.raiseEvent_hasp (s : State) (i : Nat) : (State.raiseEvent s i).hasp = s.hasp := by
  unfold State.raiseEvent; repeat' (first | rfl | (simp; done) | split)
@[simp] theorem State.raiseEvent_clk (s : State) (i : Nat) : (State.raiseEvent s i).clk = s.clk := by
  unfold State.raiseEvent; repeat' (first | rfl | (simp; done) | split)
@[simp] theorem State.raiseEvent_gate (s : State) (i : Nat) : (State.raiseEvent s i).gate = s.gate := by
  unfold State.raiseEvent; repeat' (first | rfl | (simp; done) | split)
@[simp] theorem State.raiseEvent_dl (s : State) (i : Nat) : (State.raiseEvent s i).dl = s.dl := by
  unfold State.raiseEvent; repeat' (first | rfl | (simp; done) | split)
@[simp] theorem State.raiseEvent_link (s : State) (i : Nat) : (State.raiseEvent s i).link = s.link := by
  unfold State.raiseEvent; repeat' (first | rfl | (simp; done) | split)
@[simp] theorem State.raiseEvent_lc (s : State) (i : Nat) : (State.raiseEvent s i).lc = s.lc := by
  unfold State.raiseEvent; repeat' (first | rfl | (simp; done) | split)
@[simp] theorem State.raiseEvent_rx (s : State) (i : Nat) : (State.raiseEvent s i).rx = s.rx := by
  unfold State.raiseEvent; repeat' (first | rfl | (simp; done) | split)
@[simp] theorem State.raiseEvent_eng (s : State) (i : Nat) : (State.raiseEvent s i).eng = s.eng := by
  unfold State.raiseEvent; repeat' (first | rfl | (simp; done) | split)
@[simp] theorem State.raiseEvent_ql (s : State) (i : Nat) : (State.raiseEvent s i).ql = s.ql := by
  unfold State.raiseEvent; repeat' (first | rfl | (simp; done) | split)
@[simp] theorem State.raiseEvent_cal (s : State) (i : Nat) : (State.raiseEvent s i).cal = s.cal := by
  unfold State.raiseEvent; repeat' (first | rfl | (simp; done) | split)
@[simp] theorem State.raiseEvent_kn (s : State) (i : Nat) : (State.raiseEvent s i).kn = s.kn := by
  unfold State.raiseEvent; repeat' (first | rfl | (simp; done) | split)
@[simp] theorem State.raiseEvent_diag (s : State) (i : Nat) : (State.raiseEvent s i).diag = s.diag := by
  unfold State.raiseEvent; repeat' (first | rfl | (simp; done) | split)
@[simp] theorem State.raiseEvent_mon (s : State) (i : Nat) : (State.raiseEvent s i).mon = s.mon := by
  unfold State.raiseEvent; repeat' (first | rfl | (simp; done) | split)
@[simp] theorem State.raiseEvent_pending (s : State) (i : Nat) : (State.raiseEvent s i).pending = s.pending := by
  unfold State.raiseEvent; repeat' (first | rfl | (simp; done) | split)
@[simp] theorem State.raiseEvent_draws (s : State) (i : Nat) : (State.raiseEvent s i).draws = s.draws := by
  unfold State.raiseEvent; repeat' (first | rfl | (simp; done) | split)
@[simp] theorem State.raiseEvent_time (s : State) (i : Nat) : (State.raiseEvent s i).time = s.time := by
  unfold State.raiseEvent; repeat' (first | rfl | (simp; done) | split)
@[simp] theorem State.raiseEvent_porNs (s : State) (i : Nat) : (State.raiseEvent s i).porNs = s.porNs := by
  unfold State.raiseEvent; repeat' (first | rfl | (simp; done) | split)

@[simp] theorem State.raiseNme_fuse (s : State) (i : Nat) : (State.raiseNme s i).fuse = s.fuse := by
  unfold State.raiseNme; dsimp only; split <;> simp
@[simp] theorem State.raiseNme_pwr (s : State) (i : Nat) : (State.raiseNme s i).pwr = s.pwr := by
  unfold State.raiseNme; dsimp only; split <;> simp
@[simp] theorem State.raiseNme_kw (s : State) (i : Nat) : (State.raiseNme s i).kw = s.kw := by
  unfold State.raiseNme; dsimp only; split <;> simp
@[simp] theorem State.raiseNme_flows (s : State) (i : Nat) : (State.raiseNme s i).flows = s.flows := by
  unfold State.raiseNme; dsimp only; split <;> simp
@[simp] theorem State.raiseNme_cyo (s : State) (i : Nat) : (State.raiseNme s i).cyo = s.cyo := by
  unfold State.raiseNme; dsimp only; split <;> simp
@[simp] theorem State.raiseNme_ben (s : State) (i : Nat) : (State.raiseNme s i).ben = s.ben := by
  unfold State.raiseNme; dsimp only; split <;> simp
@[simp] theorem State.raiseNme_bist (s : State) (i : Nat) : (State.raiseNme s i).bist = s.bist := by
  unfold State.raiseNme; dsimp only; split <;> simp
@[simp] theorem State.raiseNme_page (s : State) (i : Nat) : (State.raiseNme s i).page = s.page := by
  unfold State.raiseNme; dsimp only; split <;> simp
@[simp] theorem State.raiseNme_ward (s : State) (i : Nat) : (State.raiseNme s i).ward = s.ward := by
  unfold State.raiseNme; dsimp only; split <;> simp
@[simp] theorem State.raiseNme_spdm (s : State) (i : Nat) : (State.raiseNme s i).spdm = s.spdm := by
  unfold State.raiseNme; dsimp only; split <;> simp
@[simp] theorem State.raiseNme_hasp (s : State) (i : Nat) : (State.raiseNme s i).hasp = s.hasp := by
  unfold State.raiseNme; dsimp only; split <;> simp
@[simp] theorem State.raiseNme_clk (s : State) (i : Nat) : (State.raiseNme s i).clk = s.clk := by
  unfold State.raiseNme; dsimp only; split <;> simp
@[simp] theorem State.raiseNme_gate (s : State) (i : Nat) : (State.raiseNme s i).gate = s.gate := by
  unfold State.raiseNme; dsimp only; split <;> simp
@[simp] theorem State.raiseNme_dl (s : State) (i : Nat) : (State.raiseNme s i).dl = s.dl := by
  unfold State.raiseNme; dsimp only; split <;> simp
@[simp] theorem State.raiseNme_link (s : State) (i : Nat) : (State.raiseNme s i).link = s.link := by
  unfold State.raiseNme; dsimp only; split <;> simp
@[simp] theorem State.raiseNme_lc (s : State) (i : Nat) : (State.raiseNme s i).lc = s.lc := by
  unfold State.raiseNme; dsimp only; split <;> simp
@[simp] theorem State.raiseNme_rx (s : State) (i : Nat) : (State.raiseNme s i).rx = s.rx := by
  unfold State.raiseNme; dsimp only; split <;> simp
@[simp] theorem State.raiseNme_eng (s : State) (i : Nat) : (State.raiseNme s i).eng = s.eng := by
  unfold State.raiseNme; dsimp only; split <;> simp
@[simp] theorem State.raiseNme_ql (s : State) (i : Nat) : (State.raiseNme s i).ql = s.ql := by
  unfold State.raiseNme; dsimp only; split <;> simp
@[simp] theorem State.raiseNme_cal (s : State) (i : Nat) : (State.raiseNme s i).cal = s.cal := by
  unfold State.raiseNme; dsimp only; split <;> simp
@[simp] theorem State.raiseNme_kn (s : State) (i : Nat) : (State.raiseNme s i).kn = s.kn := by
  unfold State.raiseNme; dsimp only; split <;> simp
@[simp] theorem State.raiseNme_diag (s : State) (i : Nat) : (State.raiseNme s i).diag = s.diag := by
  unfold State.raiseNme; dsimp only; split <;> simp
@[simp] theorem State.raiseNme_mon (s : State) (i : Nat) : (State.raiseNme s i).mon = s.mon := by
  unfold State.raiseNme; dsimp only; split <;> simp
@[simp] theorem State.raiseNme_pending (s : State) (i : Nat) : (State.raiseNme s i).pending = s.pending := by
  unfold State.raiseNme; dsimp only; split <;> simp
@[simp] theorem State.raiseNme_draws (s : State) (i : Nat) : (State.raiseNme s i).draws = s.draws := by
  unfold State.raiseNme; dsimp only; split <;> simp
@[simp] theorem State.raiseNme_time (s : State) (i : Nat) : (State.raiseNme s i).time = s.time := by
  unfold State.raiseNme; dsimp only; split <;> simp
@[simp] theorem State.raiseNme_porNs (s : State) (i : Nat) : (State.raiseNme s i).porNs = s.porNs := by
  unfold State.raiseNme; dsimp only; split <;> simp

@[simp] theorem State.admitLog_fuse (s : State) (e : LogEntry) : (State.admitLog s e).fuse = s.fuse := by
  unfold State.admitLog; repeat' (first | rfl | split)
@[simp] theorem State.admitLog_pwr (s : State) (e : LogEntry) : (State.admitLog s e).pwr = s.pwr := by
  unfold State.admitLog; repeat' (first | rfl | split)
@[simp] theorem State.admitLog_fp (s : State) (e : LogEntry) : (State.admitLog s e).fp = s.fp := by
  unfold State.admitLog; repeat' (first | rfl | split)
@[simp] theorem State.admitLog_kw (s : State) (e : LogEntry) : (State.admitLog s e).kw = s.kw := by
  unfold State.admitLog; repeat' (first | rfl | split)
@[simp] theorem State.admitLog_flows (s : State) (e : LogEntry) : (State.admitLog s e).flows = s.flows := by
  unfold State.admitLog; repeat' (first | rfl | split)
@[simp] theorem State.admitLog_cyo (s : State) (e : LogEntry) : (State.admitLog s e).cyo = s.cyo := by
  unfold State.admitLog; repeat' (first | rfl | split)
@[simp] theorem State.admitLog_bist (s : State) (e : LogEntry) : (State.admitLog s e).bist = s.bist := by
  unfold State.admitLog; repeat' (first | rfl | split)
@[simp] theorem State.admitLog_page (s : State) (e : LogEntry) : (State.admitLog s e).page = s.page := by
  unfold State.admitLog; repeat' (first | rfl | split)
@[simp] theorem State.admitLog_ward (s : State) (e : LogEntry) : (State.admitLog s e).ward = s.ward := by
  unfold State.admitLog; repeat' (first | rfl | split)
@[simp] theorem State.admitLog_spdm (s : State) (e : LogEntry) : (State.admitLog s e).spdm = s.spdm := by
  unfold State.admitLog; repeat' (first | rfl | split)
@[simp] theorem State.admitLog_hasp (s : State) (e : LogEntry) : (State.admitLog s e).hasp = s.hasp := by
  unfold State.admitLog; repeat' (first | rfl | split)
@[simp] theorem State.admitLog_clk (s : State) (e : LogEntry) : (State.admitLog s e).clk = s.clk := by
  unfold State.admitLog; repeat' (first | rfl | split)
@[simp] theorem State.admitLog_gate (s : State) (e : LogEntry) : (State.admitLog s e).gate = s.gate := by
  unfold State.admitLog; repeat' (first | rfl | split)
@[simp] theorem State.admitLog_dl (s : State) (e : LogEntry) : (State.admitLog s e).dl = s.dl := by
  unfold State.admitLog; repeat' (first | rfl | split)
@[simp] theorem State.admitLog_link (s : State) (e : LogEntry) : (State.admitLog s e).link = s.link := by
  unfold State.admitLog; repeat' (first | rfl | split)
@[simp] theorem State.admitLog_lc (s : State) (e : LogEntry) : (State.admitLog s e).lc = s.lc := by
  unfold State.admitLog; repeat' (first | rfl | split)
@[simp] theorem State.admitLog_rx (s : State) (e : LogEntry) : (State.admitLog s e).rx = s.rx := by
  unfold State.admitLog; repeat' (first | rfl | split)
@[simp] theorem State.admitLog_eng (s : State) (e : LogEntry) : (State.admitLog s e).eng = s.eng := by
  unfold State.admitLog; repeat' (first | rfl | split)
@[simp] theorem State.admitLog_ql (s : State) (e : LogEntry) : (State.admitLog s e).ql = s.ql := by
  unfold State.admitLog; repeat' (first | rfl | split)
@[simp] theorem State.admitLog_cal (s : State) (e : LogEntry) : (State.admitLog s e).cal = s.cal := by
  unfold State.admitLog; repeat' (first | rfl | split)
@[simp] theorem State.admitLog_kn (s : State) (e : LogEntry) : (State.admitLog s e).kn = s.kn := by
  unfold State.admitLog; repeat' (first | rfl | split)
@[simp] theorem State.admitLog_diag (s : State) (e : LogEntry) : (State.admitLog s e).diag = s.diag := by
  unfold State.admitLog; repeat' (first | rfl | split)
@[simp] theorem State.admitLog_mon (s : State) (e : LogEntry) : (State.admitLog s e).mon = s.mon := by
  unfold State.admitLog; repeat' (first | rfl | split)
@[simp] theorem State.admitLog_out (s : State) (e : LogEntry) : (State.admitLog s e).out = s.out := by
  unfold State.admitLog; repeat' (first | rfl | split)
@[simp] theorem State.admitLog_pending (s : State) (e : LogEntry) : (State.admitLog s e).pending = s.pending := by
  unfold State.admitLog; repeat' (first | rfl | split)
@[simp] theorem State.admitLog_draws (s : State) (e : LogEntry) : (State.admitLog s e).draws = s.draws := by
  unfold State.admitLog; repeat' (first | rfl | split)
@[simp] theorem State.admitLog_time (s : State) (e : LogEntry) : (State.admitLog s e).time = s.time := by
  unfold State.admitLog; repeat' (first | rfl | split)
@[simp] theorem State.admitLog_porNs (s : State) (e : LogEntry) : (State.admitLog s e).porNs = s.porNs := by
  unfold State.admitLog; repeat' (first | rfl | split)

@[simp] theorem State.logEntry_fuse (s : State) (unitId sev kind detail obj : Nat) (a0 a1 a2 a3 : Nat := 0) : (State.logEntry s unitId sev kind detail obj a0 a1 a2 a3).fuse = s.fuse := by
  unfold State.logEntry; split <;> simp
@[simp] theorem State.logEntry_pwr (s : State) (unitId sev kind detail obj : Nat) (a0 a1 a2 a3 : Nat := 0) : (State.logEntry s unitId sev kind detail obj a0 a1 a2 a3).pwr = s.pwr := by
  unfold State.logEntry; split <;> simp
@[simp] theorem State.logEntry_fp (s : State) (unitId sev kind detail obj : Nat) (a0 a1 a2 a3 : Nat := 0) : (State.logEntry s unitId sev kind detail obj a0 a1 a2 a3).fp = s.fp := by
  unfold State.logEntry; split <;> simp
@[simp] theorem State.logEntry_kw (s : State) (unitId sev kind detail obj : Nat) (a0 a1 a2 a3 : Nat := 0) : (State.logEntry s unitId sev kind detail obj a0 a1 a2 a3).kw = s.kw := by
  unfold State.logEntry; split <;> simp
@[simp] theorem State.logEntry_flows (s : State) (unitId sev kind detail obj : Nat) (a0 a1 a2 a3 : Nat := 0) : (State.logEntry s unitId sev kind detail obj a0 a1 a2 a3).flows = s.flows := by
  unfold State.logEntry; split <;> simp
@[simp] theorem State.logEntry_cyo (s : State) (unitId sev kind detail obj : Nat) (a0 a1 a2 a3 : Nat := 0) : (State.logEntry s unitId sev kind detail obj a0 a1 a2 a3).cyo = s.cyo := by
  unfold State.logEntry; split <;> simp
@[simp] theorem State.logEntry_bist (s : State) (unitId sev kind detail obj : Nat) (a0 a1 a2 a3 : Nat := 0) : (State.logEntry s unitId sev kind detail obj a0 a1 a2 a3).bist = s.bist := by
  unfold State.logEntry; split <;> simp
@[simp] theorem State.logEntry_page (s : State) (unitId sev kind detail obj : Nat) (a0 a1 a2 a3 : Nat := 0) : (State.logEntry s unitId sev kind detail obj a0 a1 a2 a3).page = s.page := by
  unfold State.logEntry; split <;> simp
@[simp] theorem State.logEntry_ward (s : State) (unitId sev kind detail obj : Nat) (a0 a1 a2 a3 : Nat := 0) : (State.logEntry s unitId sev kind detail obj a0 a1 a2 a3).ward = s.ward := by
  unfold State.logEntry; split <;> simp
@[simp] theorem State.logEntry_spdm (s : State) (unitId sev kind detail obj : Nat) (a0 a1 a2 a3 : Nat := 0) : (State.logEntry s unitId sev kind detail obj a0 a1 a2 a3).spdm = s.spdm := by
  unfold State.logEntry; split <;> simp
@[simp] theorem State.logEntry_hasp (s : State) (unitId sev kind detail obj : Nat) (a0 a1 a2 a3 : Nat := 0) : (State.logEntry s unitId sev kind detail obj a0 a1 a2 a3).hasp = s.hasp := by
  unfold State.logEntry; split <;> simp
@[simp] theorem State.logEntry_clk (s : State) (unitId sev kind detail obj : Nat) (a0 a1 a2 a3 : Nat := 0) : (State.logEntry s unitId sev kind detail obj a0 a1 a2 a3).clk = s.clk := by
  unfold State.logEntry; split <;> simp
@[simp] theorem State.logEntry_gate (s : State) (unitId sev kind detail obj : Nat) (a0 a1 a2 a3 : Nat := 0) : (State.logEntry s unitId sev kind detail obj a0 a1 a2 a3).gate = s.gate := by
  unfold State.logEntry; split <;> simp
@[simp] theorem State.logEntry_dl (s : State) (unitId sev kind detail obj : Nat) (a0 a1 a2 a3 : Nat := 0) : (State.logEntry s unitId sev kind detail obj a0 a1 a2 a3).dl = s.dl := by
  unfold State.logEntry; split <;> simp
@[simp] theorem State.logEntry_link (s : State) (unitId sev kind detail obj : Nat) (a0 a1 a2 a3 : Nat := 0) : (State.logEntry s unitId sev kind detail obj a0 a1 a2 a3).link = s.link := by
  unfold State.logEntry; split <;> simp
@[simp] theorem State.logEntry_lc (s : State) (unitId sev kind detail obj : Nat) (a0 a1 a2 a3 : Nat := 0) : (State.logEntry s unitId sev kind detail obj a0 a1 a2 a3).lc = s.lc := by
  unfold State.logEntry; split <;> simp
@[simp] theorem State.logEntry_rx (s : State) (unitId sev kind detail obj : Nat) (a0 a1 a2 a3 : Nat := 0) : (State.logEntry s unitId sev kind detail obj a0 a1 a2 a3).rx = s.rx := by
  unfold State.logEntry; split <;> simp
@[simp] theorem State.logEntry_eng (s : State) (unitId sev kind detail obj : Nat) (a0 a1 a2 a3 : Nat := 0) : (State.logEntry s unitId sev kind detail obj a0 a1 a2 a3).eng = s.eng := by
  unfold State.logEntry; split <;> simp
@[simp] theorem State.logEntry_ql (s : State) (unitId sev kind detail obj : Nat) (a0 a1 a2 a3 : Nat := 0) : (State.logEntry s unitId sev kind detail obj a0 a1 a2 a3).ql = s.ql := by
  unfold State.logEntry; split <;> simp
@[simp] theorem State.logEntry_cal (s : State) (unitId sev kind detail obj : Nat) (a0 a1 a2 a3 : Nat := 0) : (State.logEntry s unitId sev kind detail obj a0 a1 a2 a3).cal = s.cal := by
  unfold State.logEntry; split <;> simp
@[simp] theorem State.logEntry_kn (s : State) (unitId sev kind detail obj : Nat) (a0 a1 a2 a3 : Nat := 0) : (State.logEntry s unitId sev kind detail obj a0 a1 a2 a3).kn = s.kn := by
  unfold State.logEntry; split <;> simp
@[simp] theorem State.logEntry_diag (s : State) (unitId sev kind detail obj : Nat) (a0 a1 a2 a3 : Nat := 0) : (State.logEntry s unitId sev kind detail obj a0 a1 a2 a3).diag = s.diag := by
  unfold State.logEntry; split <;> simp
@[simp] theorem State.logEntry_mon (s : State) (unitId sev kind detail obj : Nat) (a0 a1 a2 a3 : Nat := 0) : (State.logEntry s unitId sev kind detail obj a0 a1 a2 a3).mon = s.mon := by
  unfold State.logEntry; split <;> simp
@[simp] theorem State.logEntry_out (s : State) (unitId sev kind detail obj : Nat) (a0 a1 a2 a3 : Nat := 0) : (State.logEntry s unitId sev kind detail obj a0 a1 a2 a3).out = s.out := by
  unfold State.logEntry; split <;> simp
@[simp] theorem State.logEntry_pending (s : State) (unitId sev kind detail obj : Nat) (a0 a1 a2 a3 : Nat := 0) : (State.logEntry s unitId sev kind detail obj a0 a1 a2 a3).pending = s.pending := by
  unfold State.logEntry; split <;> simp
@[simp] theorem State.logEntry_draws (s : State) (unitId sev kind detail obj : Nat) (a0 a1 a2 a3 : Nat := 0) : (State.logEntry s unitId sev kind detail obj a0 a1 a2 a3).draws = s.draws := by
  unfold State.logEntry; split <;> simp
@[simp] theorem State.logEntry_time (s : State) (unitId sev kind detail obj : Nat) (a0 a1 a2 a3 : Nat := 0) : (State.logEntry s unitId sev kind detail obj a0 a1 a2 a3).time = s.time := by
  unfold State.logEntry; split <;> simp
@[simp] theorem State.logEntry_porNs (s : State) (unitId sev kind detail obj : Nat) (a0 a1 a2 a3 : Nat := 0) : (State.logEntry s unitId sev kind detail obj a0 a1 a2 a3).porNs = s.porNs := by
  unfold State.logEntry; split <;> simp

@[simp] theorem State.windowFault_fuse (s : State) (source a kind : Nat) : (State.windowFault s source a kind).fuse = s.fuse := by
  unfold State.windowFault; simp
@[simp] theorem State.windowFault_nvm (s : State) (source a kind : Nat) : (State.windowFault s source a kind).nvm = s.nvm := by
  unfold State.windowFault; simp
@[simp] theorem State.windowFault_pwr (s : State) (source a kind : Nat) : (State.windowFault s source a kind).pwr = s.pwr := by
  unfold State.windowFault; simp
@[simp] theorem State.windowFault_flows (s : State) (source a kind : Nat) : (State.windowFault s source a kind).flows = s.flows := by
  unfold State.windowFault; simp
@[simp] theorem State.windowFault_cyo (s : State) (source a kind : Nat) : (State.windowFault s source a kind).cyo = s.cyo := by
  unfold State.windowFault; simp
@[simp] theorem State.windowFault_ben (s : State) (source a kind : Nat) : (State.windowFault s source a kind).ben = s.ben := by
  unfold State.windowFault; simp
@[simp] theorem State.windowFault_bist (s : State) (source a kind : Nat) : (State.windowFault s source a kind).bist = s.bist := by
  unfold State.windowFault; simp
@[simp] theorem State.windowFault_page (s : State) (source a kind : Nat) : (State.windowFault s source a kind).page = s.page := by
  unfold State.windowFault; simp
@[simp] theorem State.windowFault_ward (s : State) (source a kind : Nat) : (State.windowFault s source a kind).ward = s.ward := by
  unfold State.windowFault; simp
@[simp] theorem State.windowFault_spdm (s : State) (source a kind : Nat) : (State.windowFault s source a kind).spdm = s.spdm := by
  unfold State.windowFault; simp
@[simp] theorem State.windowFault_hasp (s : State) (source a kind : Nat) : (State.windowFault s source a kind).hasp = s.hasp := by
  unfold State.windowFault; simp
@[simp] theorem State.windowFault_clk (s : State) (source a kind : Nat) : (State.windowFault s source a kind).clk = s.clk := by
  unfold State.windowFault; simp
@[simp] theorem State.windowFault_gate (s : State) (source a kind : Nat) : (State.windowFault s source a kind).gate = s.gate := by
  unfold State.windowFault; simp
@[simp] theorem State.windowFault_dl (s : State) (source a kind : Nat) : (State.windowFault s source a kind).dl = s.dl := by
  unfold State.windowFault; simp
@[simp] theorem State.windowFault_link (s : State) (source a kind : Nat) : (State.windowFault s source a kind).link = s.link := by
  unfold State.windowFault; simp
@[simp] theorem State.windowFault_lc (s : State) (source a kind : Nat) : (State.windowFault s source a kind).lc = s.lc := by
  unfold State.windowFault; simp
@[simp] theorem State.windowFault_rx (s : State) (source a kind : Nat) : (State.windowFault s source a kind).rx = s.rx := by
  unfold State.windowFault; simp
@[simp] theorem State.windowFault_eng (s : State) (source a kind : Nat) : (State.windowFault s source a kind).eng = s.eng := by
  unfold State.windowFault; simp
@[simp] theorem State.windowFault_ql (s : State) (source a kind : Nat) : (State.windowFault s source a kind).ql = s.ql := by
  unfold State.windowFault; simp
@[simp] theorem State.windowFault_cal (s : State) (source a kind : Nat) : (State.windowFault s source a kind).cal = s.cal := by
  unfold State.windowFault; simp
@[simp] theorem State.windowFault_kn (s : State) (source a kind : Nat) : (State.windowFault s source a kind).kn = s.kn := by
  unfold State.windowFault; simp
@[simp] theorem State.windowFault_diag (s : State) (source a kind : Nat) : (State.windowFault s source a kind).diag = s.diag := by
  unfold State.windowFault; simp
@[simp] theorem State.windowFault_mon (s : State) (source a kind : Nat) : (State.windowFault s source a kind).mon = s.mon := by
  unfold State.windowFault; simp
@[simp] theorem State.windowFault_pending (s : State) (source a kind : Nat) : (State.windowFault s source a kind).pending = s.pending := by
  unfold State.windowFault; simp
@[simp] theorem State.windowFault_draws (s : State) (source a kind : Nat) : (State.windowFault s source a kind).draws = s.draws := by
  unfold State.windowFault; simp
@[simp] theorem State.windowFault_time (s : State) (source a kind : Nat) : (State.windowFault s source a kind).time = s.time := by
  unfold State.windowFault; simp
@[simp] theorem State.windowFault_porNs (s : State) (source a kind : Nat) : (State.windowFault s source a kind).porNs = s.porNs := by
  unfold State.windowFault; simp

@[simp] theorem State.writeLine_fuse (s : State) (a : Nat) (line : List Byte) : (State.writeLine s a line).fuse = s.fuse := rfl
@[simp] theorem State.writeLine_nvm (s : State) (a : Nat) (line : List Byte) : (State.writeLine s a line).nvm = s.nvm := rfl
@[simp] theorem State.writeLine_pwr (s : State) (a : Nat) (line : List Byte) : (State.writeLine s a line).pwr = s.pwr := rfl
@[simp] theorem State.writeLine_fp (s : State) (a : Nat) (line : List Byte) : (State.writeLine s a line).fp = s.fp := rfl
@[simp] theorem State.writeLine_kw (s : State) (a : Nat) (line : List Byte) : (State.writeLine s a line).kw = s.kw := rfl
@[simp] theorem State.writeLine_flows (s : State) (a : Nat) (line : List Byte) : (State.writeLine s a line).flows = s.flows := rfl
@[simp] theorem State.writeLine_cyo (s : State) (a : Nat) (line : List Byte) : (State.writeLine s a line).cyo = s.cyo := rfl
@[simp] theorem State.writeLine_ben (s : State) (a : Nat) (line : List Byte) : (State.writeLine s a line).ben = s.ben := rfl
@[simp] theorem State.writeLine_bist (s : State) (a : Nat) (line : List Byte) : (State.writeLine s a line).bist = s.bist := rfl
@[simp] theorem State.writeLine_page (s : State) (a : Nat) (line : List Byte) : (State.writeLine s a line).page = s.page := rfl
@[simp] theorem State.writeLine_ward (s : State) (a : Nat) (line : List Byte) : (State.writeLine s a line).ward = s.ward := rfl
@[simp] theorem State.writeLine_spdm (s : State) (a : Nat) (line : List Byte) : (State.writeLine s a line).spdm = s.spdm := rfl
@[simp] theorem State.writeLine_hasp (s : State) (a : Nat) (line : List Byte) : (State.writeLine s a line).hasp = s.hasp := rfl
@[simp] theorem State.writeLine_clk (s : State) (a : Nat) (line : List Byte) : (State.writeLine s a line).clk = s.clk := rfl
@[simp] theorem State.writeLine_gate (s : State) (a : Nat) (line : List Byte) : (State.writeLine s a line).gate = s.gate := rfl
@[simp] theorem State.writeLine_dl (s : State) (a : Nat) (line : List Byte) : (State.writeLine s a line).dl = s.dl := rfl
@[simp] theorem State.writeLine_link (s : State) (a : Nat) (line : List Byte) : (State.writeLine s a line).link = s.link := rfl
@[simp] theorem State.writeLine_lc (s : State) (a : Nat) (line : List Byte) : (State.writeLine s a line).lc = s.lc := rfl
@[simp] theorem State.writeLine_rx (s : State) (a : Nat) (line : List Byte) : (State.writeLine s a line).rx = s.rx := rfl
@[simp] theorem State.writeLine_eng (s : State) (a : Nat) (line : List Byte) : (State.writeLine s a line).eng = s.eng := rfl
@[simp] theorem State.writeLine_ql (s : State) (a : Nat) (line : List Byte) : (State.writeLine s a line).ql = s.ql := rfl
@[simp] theorem State.writeLine_cal (s : State) (a : Nat) (line : List Byte) : (State.writeLine s a line).cal = s.cal := rfl
@[simp] theorem State.writeLine_kn (s : State) (a : Nat) (line : List Byte) : (State.writeLine s a line).kn = s.kn := rfl
@[simp] theorem State.writeLine_diag (s : State) (a : Nat) (line : List Byte) : (State.writeLine s a line).diag = s.diag := rfl
@[simp] theorem State.writeLine_mon (s : State) (a : Nat) (line : List Byte) : (State.writeLine s a line).mon = s.mon := rfl
@[simp] theorem State.writeLine_pending (s : State) (a : Nat) (line : List Byte) : (State.writeLine s a line).pending = s.pending := rfl
@[simp] theorem State.writeLine_draws (s : State) (a : Nat) (line : List Byte) : (State.writeLine s a line).draws = s.draws := rfl
@[simp] theorem State.writeLine_time (s : State) (a : Nat) (line : List Byte) : (State.writeLine s a line).time = s.time := rfl
@[simp] theorem State.writeLine_porNs (s : State) (a : Nat) (line : List Byte) : (State.writeLine s a line).porNs = s.porNs := rfl

@[simp] theorem State.modRing_fuse (s : State) (i : Nat) (f : Ring → Ring) : (State.modRing s i f).fuse = s.fuse := rfl
@[simp] theorem State.modRing_nvm (s : State) (i : Nat) (f : Ring → Ring) : (State.modRing s i f).nvm = s.nvm := rfl
@[simp] theorem State.modRing_pwr (s : State) (i : Nat) (f : Ring → Ring) : (State.modRing s i f).pwr = s.pwr := rfl
@[simp] theorem State.modRing_fp (s : State) (i : Nat) (f : Ring → Ring) : (State.modRing s i f).fp = s.fp := rfl
@[simp] theorem State.modRing_flows (s : State) (i : Nat) (f : Ring → Ring) : (State.modRing s i f).flows = s.flows := rfl
@[simp] theorem State.modRing_cyo (s : State) (i : Nat) (f : Ring → Ring) : (State.modRing s i f).cyo = s.cyo := rfl
@[simp] theorem State.modRing_ben (s : State) (i : Nat) (f : Ring → Ring) : (State.modRing s i f).ben = s.ben := rfl
@[simp] theorem State.modRing_bist (s : State) (i : Nat) (f : Ring → Ring) : (State.modRing s i f).bist = s.bist := rfl
@[simp] theorem State.modRing_page (s : State) (i : Nat) (f : Ring → Ring) : (State.modRing s i f).page = s.page := rfl
@[simp] theorem State.modRing_ward (s : State) (i : Nat) (f : Ring → Ring) : (State.modRing s i f).ward = s.ward := rfl
@[simp] theorem State.modRing_spdm (s : State) (i : Nat) (f : Ring → Ring) : (State.modRing s i f).spdm = s.spdm := rfl
@[simp] theorem State.modRing_hasp (s : State) (i : Nat) (f : Ring → Ring) : (State.modRing s i f).hasp = s.hasp := rfl
@[simp] theorem State.modRing_clk (s : State) (i : Nat) (f : Ring → Ring) : (State.modRing s i f).clk = s.clk := rfl
@[simp] theorem State.modRing_gate (s : State) (i : Nat) (f : Ring → Ring) : (State.modRing s i f).gate = s.gate := rfl
@[simp] theorem State.modRing_dl (s : State) (i : Nat) (f : Ring → Ring) : (State.modRing s i f).dl = s.dl := rfl
@[simp] theorem State.modRing_link (s : State) (i : Nat) (f : Ring → Ring) : (State.modRing s i f).link = s.link := rfl
@[simp] theorem State.modRing_lc (s : State) (i : Nat) (f : Ring → Ring) : (State.modRing s i f).lc = s.lc := rfl
@[simp] theorem State.modRing_rx (s : State) (i : Nat) (f : Ring → Ring) : (State.modRing s i f).rx = s.rx := rfl
@[simp] theorem State.modRing_eng (s : State) (i : Nat) (f : Ring → Ring) : (State.modRing s i f).eng = s.eng := rfl
@[simp] theorem State.modRing_ql (s : State) (i : Nat) (f : Ring → Ring) : (State.modRing s i f).ql = s.ql := rfl
@[simp] theorem State.modRing_cal (s : State) (i : Nat) (f : Ring → Ring) : (State.modRing s i f).cal = s.cal := rfl
@[simp] theorem State.modRing_kn (s : State) (i : Nat) (f : Ring → Ring) : (State.modRing s i f).kn = s.kn := rfl
@[simp] theorem State.modRing_diag (s : State) (i : Nat) (f : Ring → Ring) : (State.modRing s i f).diag = s.diag := rfl
@[simp] theorem State.modRing_mon (s : State) (i : Nat) (f : Ring → Ring) : (State.modRing s i f).mon = s.mon := rfl
@[simp] theorem State.modRing_out (s : State) (i : Nat) (f : Ring → Ring) : (State.modRing s i f).out = s.out := rfl
@[simp] theorem State.modRing_pending (s : State) (i : Nat) (f : Ring → Ring) : (State.modRing s i f).pending = s.pending := rfl
@[simp] theorem State.modRing_draws (s : State) (i : Nat) (f : Ring → Ring) : (State.modRing s i f).draws = s.draws := rfl
@[simp] theorem State.modRing_time (s : State) (i : Nat) (f : Ring → Ring) : (State.modRing s i f).time = s.time := rfl
@[simp] theorem State.modRing_porNs (s : State) (i : Nat) (f : Ring → Ring) : (State.modRing s i f).porNs = s.porNs := rfl

@[simp] theorem State.doneLost_fuse (s : State) (n : Nat) : (State.doneLost s n).fuse = s.fuse := rfl
@[simp] theorem State.doneLost_nvm (s : State) (n : Nat) : (State.doneLost s n).nvm = s.nvm := rfl
@[simp] theorem State.doneLost_pwr (s : State) (n : Nat) : (State.doneLost s n).pwr = s.pwr := rfl
@[simp] theorem State.doneLost_fp (s : State) (n : Nat) : (State.doneLost s n).fp = s.fp := rfl
@[simp] theorem State.doneLost_flows (s : State) (n : Nat) : (State.doneLost s n).flows = s.flows := rfl
@[simp] theorem State.doneLost_cyo (s : State) (n : Nat) : (State.doneLost s n).cyo = s.cyo := rfl
@[simp] theorem State.doneLost_ben (s : State) (n : Nat) : (State.doneLost s n).ben = s.ben := rfl
@[simp] theorem State.doneLost_bist (s : State) (n : Nat) : (State.doneLost s n).bist = s.bist := rfl
@[simp] theorem State.doneLost_page (s : State) (n : Nat) : (State.doneLost s n).page = s.page := rfl
@[simp] theorem State.doneLost_ward (s : State) (n : Nat) : (State.doneLost s n).ward = s.ward := rfl
@[simp] theorem State.doneLost_spdm (s : State) (n : Nat) : (State.doneLost s n).spdm = s.spdm := rfl
@[simp] theorem State.doneLost_hasp (s : State) (n : Nat) : (State.doneLost s n).hasp = s.hasp := rfl
@[simp] theorem State.doneLost_clk (s : State) (n : Nat) : (State.doneLost s n).clk = s.clk := rfl
@[simp] theorem State.doneLost_gate (s : State) (n : Nat) : (State.doneLost s n).gate = s.gate := rfl
@[simp] theorem State.doneLost_dl (s : State) (n : Nat) : (State.doneLost s n).dl = s.dl := rfl
@[simp] theorem State.doneLost_link (s : State) (n : Nat) : (State.doneLost s n).link = s.link := rfl
@[simp] theorem State.doneLost_lc (s : State) (n : Nat) : (State.doneLost s n).lc = s.lc := rfl
@[simp] theorem State.doneLost_rx (s : State) (n : Nat) : (State.doneLost s n).rx = s.rx := rfl
@[simp] theorem State.doneLost_eng (s : State) (n : Nat) : (State.doneLost s n).eng = s.eng := rfl
@[simp] theorem State.doneLost_ql (s : State) (n : Nat) : (State.doneLost s n).ql = s.ql := rfl
@[simp] theorem State.doneLost_cal (s : State) (n : Nat) : (State.doneLost s n).cal = s.cal := rfl
@[simp] theorem State.doneLost_kn (s : State) (n : Nat) : (State.doneLost s n).kn = s.kn := rfl
@[simp] theorem State.doneLost_diag (s : State) (n : Nat) : (State.doneLost s n).diag = s.diag := rfl
@[simp] theorem State.doneLost_mon (s : State) (n : Nat) : (State.doneLost s n).mon = s.mon := rfl
@[simp] theorem State.doneLost_out (s : State) (n : Nat) : (State.doneLost s n).out = s.out := rfl
@[simp] theorem State.doneLost_pending (s : State) (n : Nat) : (State.doneLost s n).pending = s.pending := rfl
@[simp] theorem State.doneLost_draws (s : State) (n : Nat) : (State.doneLost s n).draws = s.draws := rfl
@[simp] theorem State.doneLost_time (s : State) (n : Nat) : (State.doneLost s n).time = s.time := rfl
@[simp] theorem State.doneLost_porNs (s : State) (n : Nat) : (State.doneLost s n).porNs = s.porNs := rfl

@[simp] theorem State.complete_fuse (s : State) (i release : Nat) (c : Completion) : (State.complete s i release c).fuse = s.fuse := by
  unfold State.complete; split <;> simp
@[simp] theorem State.complete_nvm (s : State) (i release : Nat) (c : Completion) : (State.complete s i release c).nvm = s.nvm := by
  unfold State.complete; split <;> simp
@[simp] theorem State.complete_pwr (s : State) (i release : Nat) (c : Completion) : (State.complete s i release c).pwr = s.pwr := by
  unfold State.complete; split <;> simp
@[simp] theorem State.complete_fp (s : State) (i release : Nat) (c : Completion) : (State.complete s i release c).fp = s.fp := by
  unfold State.complete; split <;> simp
@[simp] theorem State.complete_flows (s : State) (i release : Nat) (c : Completion) : (State.complete s i release c).flows = s.flows := by
  unfold State.complete; split <;> simp
@[simp] theorem State.complete_cyo (s : State) (i release : Nat) (c : Completion) : (State.complete s i release c).cyo = s.cyo := by
  unfold State.complete; split <;> simp
@[simp] theorem State.complete_ben (s : State) (i release : Nat) (c : Completion) : (State.complete s i release c).ben = s.ben := by
  unfold State.complete; split <;> simp
@[simp] theorem State.complete_bist (s : State) (i release : Nat) (c : Completion) : (State.complete s i release c).bist = s.bist := by
  unfold State.complete; split <;> simp
@[simp] theorem State.complete_page (s : State) (i release : Nat) (c : Completion) : (State.complete s i release c).page = s.page := by
  unfold State.complete; split <;> simp
@[simp] theorem State.complete_ward (s : State) (i release : Nat) (c : Completion) : (State.complete s i release c).ward = s.ward := by
  unfold State.complete; split <;> simp
@[simp] theorem State.complete_spdm (s : State) (i release : Nat) (c : Completion) : (State.complete s i release c).spdm = s.spdm := by
  unfold State.complete; split <;> simp
@[simp] theorem State.complete_hasp (s : State) (i release : Nat) (c : Completion) : (State.complete s i release c).hasp = s.hasp := by
  unfold State.complete; split <;> simp
@[simp] theorem State.complete_clk (s : State) (i release : Nat) (c : Completion) : (State.complete s i release c).clk = s.clk := by
  unfold State.complete; split <;> simp
@[simp] theorem State.complete_gate (s : State) (i release : Nat) (c : Completion) : (State.complete s i release c).gate = s.gate := by
  unfold State.complete; split <;> simp
@[simp] theorem State.complete_dl (s : State) (i release : Nat) (c : Completion) : (State.complete s i release c).dl = s.dl := by
  unfold State.complete; split <;> simp
@[simp] theorem State.complete_link (s : State) (i release : Nat) (c : Completion) : (State.complete s i release c).link = s.link := by
  unfold State.complete; split <;> simp
@[simp] theorem State.complete_lc (s : State) (i release : Nat) (c : Completion) : (State.complete s i release c).lc = s.lc := by
  unfold State.complete; split <;> simp
@[simp] theorem State.complete_rx (s : State) (i release : Nat) (c : Completion) : (State.complete s i release c).rx = s.rx := by
  unfold State.complete; split <;> simp
@[simp] theorem State.complete_eng (s : State) (i release : Nat) (c : Completion) : (State.complete s i release c).eng = s.eng := by
  unfold State.complete; split <;> simp
@[simp] theorem State.complete_ql (s : State) (i release : Nat) (c : Completion) : (State.complete s i release c).ql = s.ql := by
  unfold State.complete; split <;> simp
@[simp] theorem State.complete_cal (s : State) (i release : Nat) (c : Completion) : (State.complete s i release c).cal = s.cal := by
  unfold State.complete; split <;> simp
@[simp] theorem State.complete_kn (s : State) (i release : Nat) (c : Completion) : (State.complete s i release c).kn = s.kn := by
  unfold State.complete; split <;> simp
@[simp] theorem State.complete_diag (s : State) (i release : Nat) (c : Completion) : (State.complete s i release c).diag = s.diag := by
  unfold State.complete; split <;> simp
@[simp] theorem State.complete_mon (s : State) (i release : Nat) (c : Completion) : (State.complete s i release c).mon = s.mon := by
  unfold State.complete; split <;> simp
@[simp] theorem State.complete_out (s : State) (i release : Nat) (c : Completion) : (State.complete s i release c).out = s.out := by
  unfold State.complete; split <;> simp
@[simp] theorem State.complete_pending (s : State) (i release : Nat) (c : Completion) : (State.complete s i release c).pending = s.pending := by
  unfold State.complete; split <;> simp
@[simp] theorem State.complete_draws (s : State) (i release : Nat) (c : Completion) : (State.complete s i release c).draws = s.draws := by
  unfold State.complete; split <;> simp
@[simp] theorem State.complete_time (s : State) (i release : Nat) (c : Completion) : (State.complete s i release c).time = s.time := by
  unfold State.complete; split <;> simp
@[simp] theorem State.complete_porNs (s : State) (i release : Nat) (c : Completion) : (State.complete s i release c).porNs = s.porNs := by
  unfold State.complete; split <;> simp

@[simp] theorem State.modFlow_fuse (s : State) (f : Nat) (g : Flow → Flow) : (State.modFlow s f g).fuse = s.fuse := rfl
@[simp] theorem State.modFlow_nvm (s : State) (f : Nat) (g : Flow → Flow) : (State.modFlow s f g).nvm = s.nvm := rfl
@[simp] theorem State.modFlow_pwr (s : State) (f : Nat) (g : Flow → Flow) : (State.modFlow s f g).pwr = s.pwr := rfl
@[simp] theorem State.modFlow_fp (s : State) (f : Nat) (g : Flow → Flow) : (State.modFlow s f g).fp = s.fp := rfl
@[simp] theorem State.modFlow_kw (s : State) (f : Nat) (g : Flow → Flow) : (State.modFlow s f g).kw = s.kw := rfl
@[simp] theorem State.modFlow_cyo (s : State) (f : Nat) (g : Flow → Flow) : (State.modFlow s f g).cyo = s.cyo := rfl
@[simp] theorem State.modFlow_ben (s : State) (f : Nat) (g : Flow → Flow) : (State.modFlow s f g).ben = s.ben := rfl
@[simp] theorem State.modFlow_bist (s : State) (f : Nat) (g : Flow → Flow) : (State.modFlow s f g).bist = s.bist := rfl
@[simp] theorem State.modFlow_page (s : State) (f : Nat) (g : Flow → Flow) : (State.modFlow s f g).page = s.page := rfl
@[simp] theorem State.modFlow_ward (s : State) (f : Nat) (g : Flow → Flow) : (State.modFlow s f g).ward = s.ward := rfl
@[simp] theorem State.modFlow_spdm (s : State) (f : Nat) (g : Flow → Flow) : (State.modFlow s f g).spdm = s.spdm := rfl
@[simp] theorem State.modFlow_hasp (s : State) (f : Nat) (g : Flow → Flow) : (State.modFlow s f g).hasp = s.hasp := rfl
@[simp] theorem State.modFlow_clk (s : State) (f : Nat) (g : Flow → Flow) : (State.modFlow s f g).clk = s.clk := rfl
@[simp] theorem State.modFlow_gate (s : State) (f : Nat) (g : Flow → Flow) : (State.modFlow s f g).gate = s.gate := rfl
@[simp] theorem State.modFlow_dl (s : State) (f : Nat) (g : Flow → Flow) : (State.modFlow s f g).dl = s.dl := rfl
@[simp] theorem State.modFlow_link (s : State) (f : Nat) (g : Flow → Flow) : (State.modFlow s f g).link = s.link := rfl
@[simp] theorem State.modFlow_lc (s : State) (f : Nat) (g : Flow → Flow) : (State.modFlow s f g).lc = s.lc := rfl
@[simp] theorem State.modFlow_rx (s : State) (f : Nat) (g : Flow → Flow) : (State.modFlow s f g).rx = s.rx := rfl
@[simp] theorem State.modFlow_eng (s : State) (f : Nat) (g : Flow → Flow) : (State.modFlow s f g).eng = s.eng := rfl
@[simp] theorem State.modFlow_ql (s : State) (f : Nat) (g : Flow → Flow) : (State.modFlow s f g).ql = s.ql := rfl
@[simp] theorem State.modFlow_cal (s : State) (f : Nat) (g : Flow → Flow) : (State.modFlow s f g).cal = s.cal := rfl
@[simp] theorem State.modFlow_kn (s : State) (f : Nat) (g : Flow → Flow) : (State.modFlow s f g).kn = s.kn := rfl
@[simp] theorem State.modFlow_diag (s : State) (f : Nat) (g : Flow → Flow) : (State.modFlow s f g).diag = s.diag := rfl
@[simp] theorem State.modFlow_mon (s : State) (f : Nat) (g : Flow → Flow) : (State.modFlow s f g).mon = s.mon := rfl
@[simp] theorem State.modFlow_out (s : State) (f : Nat) (g : Flow → Flow) : (State.modFlow s f g).out = s.out := rfl
@[simp] theorem State.modFlow_pending (s : State) (f : Nat) (g : Flow → Flow) : (State.modFlow s f g).pending = s.pending := rfl
@[simp] theorem State.modFlow_draws (s : State) (f : Nat) (g : Flow → Flow) : (State.modFlow s f g).draws = s.draws := rfl
@[simp] theorem State.modFlow_time (s : State) (f : Nat) (g : Flow → Flow) : (State.modFlow s f g).time = s.time := rfl
@[simp] theorem State.modFlow_porNs (s : State) (f : Nat) (g : Flow → Flow) : (State.modFlow s f g).porNs = s.porNs := rfl

@[simp] theorem State.modStats_fuse (s : State) (f : Nat) (g : FlowStats → FlowStats) : (State.modStats s f g).fuse = s.fuse := rfl
@[simp] theorem State.modStats_nvm (s : State) (f : Nat) (g : FlowStats → FlowStats) : (State.modStats s f g).nvm = s.nvm := rfl
@[simp] theorem State.modStats_pwr (s : State) (f : Nat) (g : FlowStats → FlowStats) : (State.modStats s f g).pwr = s.pwr := rfl
@[simp] theorem State.modStats_fp (s : State) (f : Nat) (g : FlowStats → FlowStats) : (State.modStats s f g).fp = s.fp := rfl
@[simp] theorem State.modStats_kw (s : State) (f : Nat) (g : FlowStats → FlowStats) : (State.modStats s f g).kw = s.kw := rfl
@[simp] theorem State.modStats_cyo (s : State) (f : Nat) (g : FlowStats → FlowStats) : (State.modStats s f g).cyo = s.cyo := rfl
@[simp] theorem State.modStats_ben (s : State) (f : Nat) (g : FlowStats → FlowStats) : (State.modStats s f g).ben = s.ben := rfl
@[simp] theorem State.modStats_bist (s : State) (f : Nat) (g : FlowStats → FlowStats) : (State.modStats s f g).bist = s.bist := rfl
@[simp] theorem State.modStats_page (s : State) (f : Nat) (g : FlowStats → FlowStats) : (State.modStats s f g).page = s.page := rfl
@[simp] theorem State.modStats_ward (s : State) (f : Nat) (g : FlowStats → FlowStats) : (State.modStats s f g).ward = s.ward := rfl
@[simp] theorem State.modStats_spdm (s : State) (f : Nat) (g : FlowStats → FlowStats) : (State.modStats s f g).spdm = s.spdm := rfl
@[simp] theorem State.modStats_hasp (s : State) (f : Nat) (g : FlowStats → FlowStats) : (State.modStats s f g).hasp = s.hasp := rfl
@[simp] theorem State.modStats_clk (s : State) (f : Nat) (g : FlowStats → FlowStats) : (State.modStats s f g).clk = s.clk := rfl
@[simp] theorem State.modStats_gate (s : State) (f : Nat) (g : FlowStats → FlowStats) : (State.modStats s f g).gate = s.gate := rfl
@[simp] theorem State.modStats_dl (s : State) (f : Nat) (g : FlowStats → FlowStats) : (State.modStats s f g).dl = s.dl := rfl
@[simp] theorem State.modStats_link (s : State) (f : Nat) (g : FlowStats → FlowStats) : (State.modStats s f g).link = s.link := rfl
@[simp] theorem State.modStats_lc (s : State) (f : Nat) (g : FlowStats → FlowStats) : (State.modStats s f g).lc = s.lc := rfl
@[simp] theorem State.modStats_rx (s : State) (f : Nat) (g : FlowStats → FlowStats) : (State.modStats s f g).rx = s.rx := rfl
@[simp] theorem State.modStats_eng (s : State) (f : Nat) (g : FlowStats → FlowStats) : (State.modStats s f g).eng = s.eng := rfl
@[simp] theorem State.modStats_ql (s : State) (f : Nat) (g : FlowStats → FlowStats) : (State.modStats s f g).ql = s.ql := rfl
@[simp] theorem State.modStats_cal (s : State) (f : Nat) (g : FlowStats → FlowStats) : (State.modStats s f g).cal = s.cal := rfl
@[simp] theorem State.modStats_kn (s : State) (f : Nat) (g : FlowStats → FlowStats) : (State.modStats s f g).kn = s.kn := rfl
@[simp] theorem State.modStats_diag (s : State) (f : Nat) (g : FlowStats → FlowStats) : (State.modStats s f g).diag = s.diag := rfl
@[simp] theorem State.modStats_mon (s : State) (f : Nat) (g : FlowStats → FlowStats) : (State.modStats s f g).mon = s.mon := rfl
@[simp] theorem State.modStats_out (s : State) (f : Nat) (g : FlowStats → FlowStats) : (State.modStats s f g).out = s.out := rfl
@[simp] theorem State.modStats_pending (s : State) (f : Nat) (g : FlowStats → FlowStats) : (State.modStats s f g).pending = s.pending := rfl
@[simp] theorem State.modStats_draws (s : State) (f : Nat) (g : FlowStats → FlowStats) : (State.modStats s f g).draws = s.draws := rfl
@[simp] theorem State.modStats_time (s : State) (f : Nat) (g : FlowStats → FlowStats) : (State.modStats s f g).time = s.time := rfl
@[simp] theorem State.modStats_porNs (s : State) (f : Nat) (g : FlowStats → FlowStats) : (State.modStats s f g).porNs = s.porNs := rfl

@[simp] theorem State.countCapsule_fuse (s : State) : (State.countCapsule s).fuse = s.fuse := rfl
@[simp] theorem State.countCapsule_nvm (s : State) : (State.countCapsule s).nvm = s.nvm := rfl
@[simp] theorem State.countCapsule_pwr (s : State) : (State.countCapsule s).pwr = s.pwr := rfl
@[simp] theorem State.countCapsule_fp (s : State) : (State.countCapsule s).fp = s.fp := rfl
@[simp] theorem State.countCapsule_flows (s : State) : (State.countCapsule s).flows = s.flows := rfl
@[simp] theorem State.countCapsule_cyo (s : State) : (State.countCapsule s).cyo = s.cyo := rfl
@[simp] theorem State.countCapsule_ben (s : State) : (State.countCapsule s).ben = s.ben := rfl
@[simp] theorem State.countCapsule_bist (s : State) : (State.countCapsule s).bist = s.bist := rfl
@[simp] theorem State.countCapsule_page (s : State) : (State.countCapsule s).page = s.page := rfl
@[simp] theorem State.countCapsule_ward (s : State) : (State.countCapsule s).ward = s.ward := rfl
@[simp] theorem State.countCapsule_spdm (s : State) : (State.countCapsule s).spdm = s.spdm := rfl
@[simp] theorem State.countCapsule_hasp (s : State) : (State.countCapsule s).hasp = s.hasp := rfl
@[simp] theorem State.countCapsule_clk (s : State) : (State.countCapsule s).clk = s.clk := rfl
@[simp] theorem State.countCapsule_gate (s : State) : (State.countCapsule s).gate = s.gate := rfl
@[simp] theorem State.countCapsule_dl (s : State) : (State.countCapsule s).dl = s.dl := rfl
@[simp] theorem State.countCapsule_link (s : State) : (State.countCapsule s).link = s.link := rfl
@[simp] theorem State.countCapsule_lc (s : State) : (State.countCapsule s).lc = s.lc := rfl
@[simp] theorem State.countCapsule_rx (s : State) : (State.countCapsule s).rx = s.rx := rfl
@[simp] theorem State.countCapsule_eng (s : State) : (State.countCapsule s).eng = s.eng := rfl
@[simp] theorem State.countCapsule_ql (s : State) : (State.countCapsule s).ql = s.ql := rfl
@[simp] theorem State.countCapsule_cal (s : State) : (State.countCapsule s).cal = s.cal := rfl
@[simp] theorem State.countCapsule_kn (s : State) : (State.countCapsule s).kn = s.kn := rfl
@[simp] theorem State.countCapsule_diag (s : State) : (State.countCapsule s).diag = s.diag := rfl
@[simp] theorem State.countCapsule_mon (s : State) : (State.countCapsule s).mon = s.mon := rfl
@[simp] theorem State.countCapsule_out (s : State) : (State.countCapsule s).out = s.out := rfl
@[simp] theorem State.countCapsule_pending (s : State) : (State.countCapsule s).pending = s.pending := rfl
@[simp] theorem State.countCapsule_draws (s : State) : (State.countCapsule s).draws = s.draws := rfl
@[simp] theorem State.countCapsule_time (s : State) : (State.countCapsule s).time = s.time := rfl
@[simp] theorem State.countCapsule_porNs (s : State) : (State.countCapsule s).porNs = s.porNs := rfl

@[simp] theorem State.finish_fuse (s : State) (q : Request) (st : Status) (results : List (Nat × Nat)) (payload : List Byte) : (State.finish s q st results payload).fuse = s.fuse := by
  unfold State.finish; dsimp only; repeat' (first | rfl | simp | split)
@[simp] theorem State.finish_fp (s : State) (q : Request) (st : Status) (results : List (Nat × Nat)) (payload : List Byte) : (State.finish s q st results payload).fp = s.fp := by
  unfold State.finish; dsimp only; repeat' (first | rfl | simp | split)
@[simp] theorem State.finish_flows (s : State) (q : Request) (st : Status) (results : List (Nat × Nat)) (payload : List Byte) : (State.finish s q st results payload).flows = s.flows := by
  unfold State.finish; dsimp only; repeat' (first | rfl | simp | split)
@[simp] theorem State.finish_bist (s : State) (q : Request) (st : Status) (results : List (Nat × Nat)) (payload : List Byte) : (State.finish s q st results payload).bist = s.bist := by
  unfold State.finish; dsimp only; repeat' (first | rfl | simp | split)
@[simp] theorem State.finish_page (s : State) (q : Request) (st : Status) (results : List (Nat × Nat)) (payload : List Byte) : (State.finish s q st results payload).page = s.page := by
  unfold State.finish; dsimp only; repeat' (first | rfl | simp | split)
@[simp] theorem State.finish_ward (s : State) (q : Request) (st : Status) (results : List (Nat × Nat)) (payload : List Byte) : (State.finish s q st results payload).ward = s.ward := by
  unfold State.finish; dsimp only; repeat' (first | rfl | simp | split)
@[simp] theorem State.finish_spdm (s : State) (q : Request) (st : Status) (results : List (Nat × Nat)) (payload : List Byte) : (State.finish s q st results payload).spdm = s.spdm := by
  unfold State.finish; dsimp only; repeat' (first | rfl | simp | split)
@[simp] theorem State.finish_hasp (s : State) (q : Request) (st : Status) (results : List (Nat × Nat)) (payload : List Byte) : (State.finish s q st results payload).hasp = s.hasp := by
  unfold State.finish; dsimp only; repeat' (first | rfl | simp | split)
@[simp] theorem State.finish_clk (s : State) (q : Request) (st : Status) (results : List (Nat × Nat)) (payload : List Byte) : (State.finish s q st results payload).clk = s.clk := by
  unfold State.finish; dsimp only; repeat' (first | rfl | simp | split)
@[simp] theorem State.finish_gate (s : State) (q : Request) (st : Status) (results : List (Nat × Nat)) (payload : List Byte) : (State.finish s q st results payload).gate = s.gate := by
  unfold State.finish; dsimp only; repeat' (first | rfl | simp | split)
@[simp] theorem State.finish_dl (s : State) (q : Request) (st : Status) (results : List (Nat × Nat)) (payload : List Byte) : (State.finish s q st results payload).dl = s.dl := by
  unfold State.finish; dsimp only; repeat' (first | rfl | simp | split)
@[simp] theorem State.finish_link (s : State) (q : Request) (st : Status) (results : List (Nat × Nat)) (payload : List Byte) : (State.finish s q st results payload).link = s.link := by
  unfold State.finish; dsimp only; repeat' (first | rfl | simp | split)
@[simp] theorem State.finish_lc (s : State) (q : Request) (st : Status) (results : List (Nat × Nat)) (payload : List Byte) : (State.finish s q st results payload).lc = s.lc := by
  unfold State.finish; dsimp only; repeat' (first | rfl | simp | split)
@[simp] theorem State.finish_rx (s : State) (q : Request) (st : Status) (results : List (Nat × Nat)) (payload : List Byte) : (State.finish s q st results payload).rx = s.rx := by
  unfold State.finish; dsimp only; repeat' (first | rfl | simp | split)
@[simp] theorem State.finish_eng (s : State) (q : Request) (st : Status) (results : List (Nat × Nat)) (payload : List Byte) : (State.finish s q st results payload).eng = s.eng := by
  unfold State.finish; dsimp only; repeat' (first | rfl | simp | split)
@[simp] theorem State.finish_ql (s : State) (q : Request) (st : Status) (results : List (Nat × Nat)) (payload : List Byte) : (State.finish s q st results payload).ql = s.ql := by
  unfold State.finish; dsimp only; repeat' (first | rfl | simp | split)
@[simp] theorem State.finish_cal (s : State) (q : Request) (st : Status) (results : List (Nat × Nat)) (payload : List Byte) : (State.finish s q st results payload).cal = s.cal := by
  unfold State.finish; dsimp only; repeat' (first | rfl | simp | split)
@[simp] theorem State.finish_kn (s : State) (q : Request) (st : Status) (results : List (Nat × Nat)) (payload : List Byte) : (State.finish s q st results payload).kn = s.kn := by
  unfold State.finish; dsimp only; repeat' (first | rfl | simp | split)
@[simp] theorem State.finish_diag (s : State) (q : Request) (st : Status) (results : List (Nat × Nat)) (payload : List Byte) : (State.finish s q st results payload).diag = s.diag := by
  unfold State.finish; dsimp only; repeat' (first | rfl | simp | split)
@[simp] theorem State.finish_mon (s : State) (q : Request) (st : Status) (results : List (Nat × Nat)) (payload : List Byte) : (State.finish s q st results payload).mon = s.mon := by
  unfold State.finish; dsimp only; repeat' (first | rfl | simp | split)
@[simp] theorem State.finish_out (s : State) (q : Request) (st : Status) (results : List (Nat × Nat)) (payload : List Byte) : (State.finish s q st results payload).out = s.out := by
  unfold State.finish; dsimp only; repeat' (first | rfl | simp | split)
@[simp] theorem State.finish_pending (s : State) (q : Request) (st : Status) (results : List (Nat × Nat)) (payload : List Byte) : (State.finish s q st results payload).pending = s.pending := by
  unfold State.finish; dsimp only; repeat' (first | rfl | simp | split)
@[simp] theorem State.finish_draws (s : State) (q : Request) (st : Status) (results : List (Nat × Nat)) (payload : List Byte) : (State.finish s q st results payload).draws = s.draws := by
  unfold State.finish; dsimp only; repeat' (first | rfl | simp | split)
@[simp] theorem State.finish_time (s : State) (q : Request) (st : Status) (results : List (Nat × Nat)) (payload : List Byte) : (State.finish s q st results payload).time = s.time := by
  unfold State.finish; dsimp only; repeat' (first | rfl | simp | split)
@[simp] theorem State.finish_porNs (s : State) (q : Request) (st : Status) (results : List (Nat × Nat)) (payload : List Byte) : (State.finish s q st results payload).porNs = s.porNs := by
  unfold State.finish; dsimp only; repeat' (first | rfl | simp | split)

@[simp] theorem State.deferRequest_fuse (s : State) (q : Request) (test remainMs : Nat) : (State.deferRequest s q test remainMs).fuse = s.fuse := by
  unfold State.deferRequest; dsimp only; split <;> simp
@[simp] theorem State.deferRequest_nvm (s : State) (q : Request) (test remainMs : Nat) : (State.deferRequest s q test remainMs).nvm = s.nvm := by
  unfold State.deferRequest; dsimp only; split <;> simp
@[simp] theorem State.deferRequest_pwr (s : State) (q : Request) (test remainMs : Nat) : (State.deferRequest s q test remainMs).pwr = s.pwr := by
  unfold State.deferRequest; dsimp only; split <;> simp
@[simp] theorem State.deferRequest_fp (s : State) (q : Request) (test remainMs : Nat) : (State.deferRequest s q test remainMs).fp = s.fp := by
  unfold State.deferRequest; dsimp only; split <;> simp
@[simp] theorem State.deferRequest_flows (s : State) (q : Request) (test remainMs : Nat) : (State.deferRequest s q test remainMs).flows = s.flows := by
  unfold State.deferRequest; dsimp only; split <;> simp
@[simp] theorem State.deferRequest_ben (s : State) (q : Request) (test remainMs : Nat) : (State.deferRequest s q test remainMs).ben = s.ben := by
  unfold State.deferRequest; dsimp only; split <;> simp
@[simp] theorem State.deferRequest_bist (s : State) (q : Request) (test remainMs : Nat) : (State.deferRequest s q test remainMs).bist = s.bist := by
  unfold State.deferRequest; dsimp only; split <;> simp
@[simp] theorem State.deferRequest_page (s : State) (q : Request) (test remainMs : Nat) : (State.deferRequest s q test remainMs).page = s.page := by
  unfold State.deferRequest; dsimp only; split <;> simp
@[simp] theorem State.deferRequest_ward (s : State) (q : Request) (test remainMs : Nat) : (State.deferRequest s q test remainMs).ward = s.ward := by
  unfold State.deferRequest; dsimp only; split <;> simp
@[simp] theorem State.deferRequest_spdm (s : State) (q : Request) (test remainMs : Nat) : (State.deferRequest s q test remainMs).spdm = s.spdm := by
  unfold State.deferRequest; dsimp only; split <;> simp
@[simp] theorem State.deferRequest_hasp (s : State) (q : Request) (test remainMs : Nat) : (State.deferRequest s q test remainMs).hasp = s.hasp := by
  unfold State.deferRequest; dsimp only; split <;> simp
@[simp] theorem State.deferRequest_clk (s : State) (q : Request) (test remainMs : Nat) : (State.deferRequest s q test remainMs).clk = s.clk := by
  unfold State.deferRequest; dsimp only; split <;> simp
@[simp] theorem State.deferRequest_gate (s : State) (q : Request) (test remainMs : Nat) : (State.deferRequest s q test remainMs).gate = s.gate := by
  unfold State.deferRequest; dsimp only; split <;> simp
@[simp] theorem State.deferRequest_dl (s : State) (q : Request) (test remainMs : Nat) : (State.deferRequest s q test remainMs).dl = s.dl := by
  unfold State.deferRequest; dsimp only; split <;> simp
@[simp] theorem State.deferRequest_link (s : State) (q : Request) (test remainMs : Nat) : (State.deferRequest s q test remainMs).link = s.link := by
  unfold State.deferRequest; dsimp only; split <;> simp
@[simp] theorem State.deferRequest_lc (s : State) (q : Request) (test remainMs : Nat) : (State.deferRequest s q test remainMs).lc = s.lc := by
  unfold State.deferRequest; dsimp only; split <;> simp
@[simp] theorem State.deferRequest_rx (s : State) (q : Request) (test remainMs : Nat) : (State.deferRequest s q test remainMs).rx = s.rx := by
  unfold State.deferRequest; dsimp only; split <;> simp
@[simp] theorem State.deferRequest_eng (s : State) (q : Request) (test remainMs : Nat) : (State.deferRequest s q test remainMs).eng = s.eng := by
  unfold State.deferRequest; dsimp only; split <;> simp
@[simp] theorem State.deferRequest_ql (s : State) (q : Request) (test remainMs : Nat) : (State.deferRequest s q test remainMs).ql = s.ql := by
  unfold State.deferRequest; dsimp only; split <;> simp
@[simp] theorem State.deferRequest_cal (s : State) (q : Request) (test remainMs : Nat) : (State.deferRequest s q test remainMs).cal = s.cal := by
  unfold State.deferRequest; dsimp only; split <;> simp
@[simp] theorem State.deferRequest_kn (s : State) (q : Request) (test remainMs : Nat) : (State.deferRequest s q test remainMs).kn = s.kn := by
  unfold State.deferRequest; dsimp only; split <;> simp
@[simp] theorem State.deferRequest_diag (s : State) (q : Request) (test remainMs : Nat) : (State.deferRequest s q test remainMs).diag = s.diag := by
  unfold State.deferRequest; dsimp only; split <;> simp
@[simp] theorem State.deferRequest_mon (s : State) (q : Request) (test remainMs : Nat) : (State.deferRequest s q test remainMs).mon = s.mon := by
  unfold State.deferRequest; dsimp only; split <;> simp
@[simp] theorem State.deferRequest_out (s : State) (q : Request) (test remainMs : Nat) : (State.deferRequest s q test remainMs).out = s.out := by
  unfold State.deferRequest; dsimp only; split <;> simp
@[simp] theorem State.deferRequest_pending (s : State) (q : Request) (test remainMs : Nat) : (State.deferRequest s q test remainMs).pending = s.pending := by
  unfold State.deferRequest; dsimp only; split <;> simp
@[simp] theorem State.deferRequest_draws (s : State) (q : Request) (test remainMs : Nat) : (State.deferRequest s q test remainMs).draws = s.draws := by
  unfold State.deferRequest; dsimp only; split <;> simp
@[simp] theorem State.deferRequest_time (s : State) (q : Request) (test remainMs : Nat) : (State.deferRequest s q test remainMs).time = s.time := by
  unfold State.deferRequest; dsimp only; split <;> simp
@[simp] theorem State.deferRequest_porNs (s : State) (q : Request) (test remainMs : Nat) : (State.deferRequest s q test remainMs).porNs = s.porNs := by
  unfold State.deferRequest; dsimp only; split <;> simp

@[simp] theorem State.unrun_fuse (s : State) (tag : BitVec 16) : (State.unrun s tag).fuse = s.fuse := rfl
@[simp] theorem State.unrun_nvm (s : State) (tag : BitVec 16) : (State.unrun s tag).nvm = s.nvm := rfl
@[simp] theorem State.unrun_pwr (s : State) (tag : BitVec 16) : (State.unrun s tag).pwr = s.pwr := rfl
@[simp] theorem State.unrun_fp (s : State) (tag : BitVec 16) : (State.unrun s tag).fp = s.fp := rfl
@[simp] theorem State.unrun_kw (s : State) (tag : BitVec 16) : (State.unrun s tag).kw = s.kw := rfl
@[simp] theorem State.unrun_flows (s : State) (tag : BitVec 16) : (State.unrun s tag).flows = s.flows := rfl
@[simp] theorem State.unrun_ben (s : State) (tag : BitVec 16) : (State.unrun s tag).ben = s.ben := rfl
@[simp] theorem State.unrun_bist (s : State) (tag : BitVec 16) : (State.unrun s tag).bist = s.bist := rfl
@[simp] theorem State.unrun_page (s : State) (tag : BitVec 16) : (State.unrun s tag).page = s.page := rfl
@[simp] theorem State.unrun_ward (s : State) (tag : BitVec 16) : (State.unrun s tag).ward = s.ward := rfl
@[simp] theorem State.unrun_spdm (s : State) (tag : BitVec 16) : (State.unrun s tag).spdm = s.spdm := rfl
@[simp] theorem State.unrun_hasp (s : State) (tag : BitVec 16) : (State.unrun s tag).hasp = s.hasp := rfl
@[simp] theorem State.unrun_clk (s : State) (tag : BitVec 16) : (State.unrun s tag).clk = s.clk := rfl
@[simp] theorem State.unrun_gate (s : State) (tag : BitVec 16) : (State.unrun s tag).gate = s.gate := rfl
@[simp] theorem State.unrun_dl (s : State) (tag : BitVec 16) : (State.unrun s tag).dl = s.dl := rfl
@[simp] theorem State.unrun_link (s : State) (tag : BitVec 16) : (State.unrun s tag).link = s.link := rfl
@[simp] theorem State.unrun_lc (s : State) (tag : BitVec 16) : (State.unrun s tag).lc = s.lc := rfl
@[simp] theorem State.unrun_rx (s : State) (tag : BitVec 16) : (State.unrun s tag).rx = s.rx := rfl
@[simp] theorem State.unrun_eng (s : State) (tag : BitVec 16) : (State.unrun s tag).eng = s.eng := rfl
@[simp] theorem State.unrun_ql (s : State) (tag : BitVec 16) : (State.unrun s tag).ql = s.ql := rfl
@[simp] theorem State.unrun_cal (s : State) (tag : BitVec 16) : (State.unrun s tag).cal = s.cal := rfl
@[simp] theorem State.unrun_kn (s : State) (tag : BitVec 16) : (State.unrun s tag).kn = s.kn := rfl
@[simp] theorem State.unrun_diag (s : State) (tag : BitVec 16) : (State.unrun s tag).diag = s.diag := rfl
@[simp] theorem State.unrun_mon (s : State) (tag : BitVec 16) : (State.unrun s tag).mon = s.mon := rfl
@[simp] theorem State.unrun_out (s : State) (tag : BitVec 16) : (State.unrun s tag).out = s.out := rfl
@[simp] theorem State.unrun_pending (s : State) (tag : BitVec 16) : (State.unrun s tag).pending = s.pending := rfl
@[simp] theorem State.unrun_draws (s : State) (tag : BitVec 16) : (State.unrun s tag).draws = s.draws := rfl
@[simp] theorem State.unrun_time (s : State) (tag : BitVec 16) : (State.unrun s tag).time = s.time := rfl
@[simp] theorem State.unrun_porNs (s : State) (tag : BitVec 16) : (State.unrun s tag).porNs = s.porNs := rfl

@[simp] theorem State.startRun_fuse (s : State) (q : Request) : (State.startRun s q).fuse = s.fuse := rfl
@[simp] theorem State.startRun_nvm (s : State) (q : Request) : (State.startRun s q).nvm = s.nvm := rfl
@[simp] theorem State.startRun_pwr (s : State) (q : Request) : (State.startRun s q).pwr = s.pwr := rfl
@[simp] theorem State.startRun_fp (s : State) (q : Request) : (State.startRun s q).fp = s.fp := rfl
@[simp] theorem State.startRun_kw (s : State) (q : Request) : (State.startRun s q).kw = s.kw := rfl
@[simp] theorem State.startRun_flows (s : State) (q : Request) : (State.startRun s q).flows = s.flows := rfl
@[simp] theorem State.startRun_ben (s : State) (q : Request) : (State.startRun s q).ben = s.ben := rfl
@[simp] theorem State.startRun_bist (s : State) (q : Request) : (State.startRun s q).bist = s.bist := rfl
@[simp] theorem State.startRun_page (s : State) (q : Request) : (State.startRun s q).page = s.page := rfl
@[simp] theorem State.startRun_ward (s : State) (q : Request) : (State.startRun s q).ward = s.ward := rfl
@[simp] theorem State.startRun_spdm (s : State) (q : Request) : (State.startRun s q).spdm = s.spdm := rfl
@[simp] theorem State.startRun_hasp (s : State) (q : Request) : (State.startRun s q).hasp = s.hasp := rfl
@[simp] theorem State.startRun_clk (s : State) (q : Request) : (State.startRun s q).clk = s.clk := rfl
@[simp] theorem State.startRun_gate (s : State) (q : Request) : (State.startRun s q).gate = s.gate := rfl
@[simp] theorem State.startRun_dl (s : State) (q : Request) : (State.startRun s q).dl = s.dl := rfl
@[simp] theorem State.startRun_link (s : State) (q : Request) : (State.startRun s q).link = s.link := rfl
@[simp] theorem State.startRun_lc (s : State) (q : Request) : (State.startRun s q).lc = s.lc := rfl
@[simp] theorem State.startRun_rx (s : State) (q : Request) : (State.startRun s q).rx = s.rx := rfl
@[simp] theorem State.startRun_eng (s : State) (q : Request) : (State.startRun s q).eng = s.eng := rfl
@[simp] theorem State.startRun_ql (s : State) (q : Request) : (State.startRun s q).ql = s.ql := rfl
@[simp] theorem State.startRun_cal (s : State) (q : Request) : (State.startRun s q).cal = s.cal := rfl
@[simp] theorem State.startRun_kn (s : State) (q : Request) : (State.startRun s q).kn = s.kn := rfl
@[simp] theorem State.startRun_diag (s : State) (q : Request) : (State.startRun s q).diag = s.diag := rfl
@[simp] theorem State.startRun_mon (s : State) (q : Request) : (State.startRun s q).mon = s.mon := rfl
@[simp] theorem State.startRun_out (s : State) (q : Request) : (State.startRun s q).out = s.out := rfl
@[simp] theorem State.startRun_pending (s : State) (q : Request) : (State.startRun s q).pending = s.pending := rfl
@[simp] theorem State.startRun_draws (s : State) (q : Request) : (State.startRun s q).draws = s.draws := rfl
@[simp] theorem State.startRun_time (s : State) (q : Request) : (State.startRun s q).time = s.time := rfl
@[simp] theorem State.startRun_porNs (s : State) (q : Request) : (State.startRun s q).porNs = s.porNs := rfl

@[simp] theorem State.endRun_fuse (s : State) (op : Nat) (p : Capsule → Bool) (st : Status) (results : List (Nat × Nat)) : (State.endRun s op p st results).fuse = s.fuse := by
  unfold State.endRun; split <;> simp
@[simp] theorem State.endRun_fp (s : State) (op : Nat) (p : Capsule → Bool) (st : Status) (results : List (Nat × Nat)) : (State.endRun s op p st results).fp = s.fp := by
  unfold State.endRun; split <;> simp
@[simp] theorem State.endRun_flows (s : State) (op : Nat) (p : Capsule → Bool) (st : Status) (results : List (Nat × Nat)) : (State.endRun s op p st results).flows = s.flows := by
  unfold State.endRun; split <;> simp
@[simp] theorem State.endRun_bist (s : State) (op : Nat) (p : Capsule → Bool) (st : Status) (results : List (Nat × Nat)) : (State.endRun s op p st results).bist = s.bist := by
  unfold State.endRun; split <;> simp
@[simp] theorem State.endRun_page (s : State) (op : Nat) (p : Capsule → Bool) (st : Status) (results : List (Nat × Nat)) : (State.endRun s op p st results).page = s.page := by
  unfold State.endRun; split <;> simp
@[simp] theorem State.endRun_ward (s : State) (op : Nat) (p : Capsule → Bool) (st : Status) (results : List (Nat × Nat)) : (State.endRun s op p st results).ward = s.ward := by
  unfold State.endRun; split <;> simp
@[simp] theorem State.endRun_spdm (s : State) (op : Nat) (p : Capsule → Bool) (st : Status) (results : List (Nat × Nat)) : (State.endRun s op p st results).spdm = s.spdm := by
  unfold State.endRun; split <;> simp
@[simp] theorem State.endRun_hasp (s : State) (op : Nat) (p : Capsule → Bool) (st : Status) (results : List (Nat × Nat)) : (State.endRun s op p st results).hasp = s.hasp := by
  unfold State.endRun; split <;> simp
@[simp] theorem State.endRun_clk (s : State) (op : Nat) (p : Capsule → Bool) (st : Status) (results : List (Nat × Nat)) : (State.endRun s op p st results).clk = s.clk := by
  unfold State.endRun; split <;> simp
@[simp] theorem State.endRun_gate (s : State) (op : Nat) (p : Capsule → Bool) (st : Status) (results : List (Nat × Nat)) : (State.endRun s op p st results).gate = s.gate := by
  unfold State.endRun; split <;> simp
@[simp] theorem State.endRun_dl (s : State) (op : Nat) (p : Capsule → Bool) (st : Status) (results : List (Nat × Nat)) : (State.endRun s op p st results).dl = s.dl := by
  unfold State.endRun; split <;> simp
@[simp] theorem State.endRun_link (s : State) (op : Nat) (p : Capsule → Bool) (st : Status) (results : List (Nat × Nat)) : (State.endRun s op p st results).link = s.link := by
  unfold State.endRun; split <;> simp
@[simp] theorem State.endRun_lc (s : State) (op : Nat) (p : Capsule → Bool) (st : Status) (results : List (Nat × Nat)) : (State.endRun s op p st results).lc = s.lc := by
  unfold State.endRun; split <;> simp
@[simp] theorem State.endRun_rx (s : State) (op : Nat) (p : Capsule → Bool) (st : Status) (results : List (Nat × Nat)) : (State.endRun s op p st results).rx = s.rx := by
  unfold State.endRun; split <;> simp
@[simp] theorem State.endRun_eng (s : State) (op : Nat) (p : Capsule → Bool) (st : Status) (results : List (Nat × Nat)) : (State.endRun s op p st results).eng = s.eng := by
  unfold State.endRun; split <;> simp
@[simp] theorem State.endRun_ql (s : State) (op : Nat) (p : Capsule → Bool) (st : Status) (results : List (Nat × Nat)) : (State.endRun s op p st results).ql = s.ql := by
  unfold State.endRun; split <;> simp
@[simp] theorem State.endRun_cal (s : State) (op : Nat) (p : Capsule → Bool) (st : Status) (results : List (Nat × Nat)) : (State.endRun s op p st results).cal = s.cal := by
  unfold State.endRun; split <;> simp
@[simp] theorem State.endRun_kn (s : State) (op : Nat) (p : Capsule → Bool) (st : Status) (results : List (Nat × Nat)) : (State.endRun s op p st results).kn = s.kn := by
  unfold State.endRun; split <;> simp
@[simp] theorem State.endRun_diag (s : State) (op : Nat) (p : Capsule → Bool) (st : Status) (results : List (Nat × Nat)) : (State.endRun s op p st results).diag = s.diag := by
  unfold State.endRun; split <;> simp
@[simp] theorem State.endRun_mon (s : State) (op : Nat) (p : Capsule → Bool) (st : Status) (results : List (Nat × Nat)) : (State.endRun s op p st results).mon = s.mon := by
  unfold State.endRun; split <;> simp
@[simp] theorem State.endRun_out (s : State) (op : Nat) (p : Capsule → Bool) (st : Status) (results : List (Nat × Nat)) : (State.endRun s op p st results).out = s.out := by
  unfold State.endRun; split <;> simp
@[simp] theorem State.endRun_pending (s : State) (op : Nat) (p : Capsule → Bool) (st : Status) (results : List (Nat × Nat)) : (State.endRun s op p st results).pending = s.pending := by
  unfold State.endRun; split <;> simp
@[simp] theorem State.endRun_draws (s : State) (op : Nat) (p : Capsule → Bool) (st : Status) (results : List (Nat × Nat)) : (State.endRun s op p st results).draws = s.draws := by
  unfold State.endRun; split <;> simp
@[simp] theorem State.endRun_time (s : State) (op : Nat) (p : Capsule → Bool) (st : Status) (results : List (Nat × Nat)) : (State.endRun s op p st results).time = s.time := by
  unfold State.endRun; split <;> simp
@[simp] theorem State.endRun_porNs (s : State) (op : Nat) (p : Capsule → Bool) (st : Status) (results : List (Nat × Nat)) : (State.endRun s op p st results).porNs = s.porNs := by
  unfold State.endRun; split <;> simp

@[simp] theorem State.setFp_fuse (s : State) (f : FrontPanel → FrontPanel) : (State.setFp s f).fuse = s.fuse := rfl
@[simp] theorem State.setFp_nvm (s : State) (f : FrontPanel → FrontPanel) : (State.setFp s f).nvm = s.nvm := rfl
@[simp] theorem State.setFp_pwr (s : State) (f : FrontPanel → FrontPanel) : (State.setFp s f).pwr = s.pwr := rfl
@[simp] theorem State.setFp_kw (s : State) (f : FrontPanel → FrontPanel) : (State.setFp s f).kw = s.kw := rfl
@[simp] theorem State.setFp_flows (s : State) (f : FrontPanel → FrontPanel) : (State.setFp s f).flows = s.flows := rfl
@[simp] theorem State.setFp_cyo (s : State) (f : FrontPanel → FrontPanel) : (State.setFp s f).cyo = s.cyo := rfl
@[simp] theorem State.setFp_ben (s : State) (f : FrontPanel → FrontPanel) : (State.setFp s f).ben = s.ben := rfl
@[simp] theorem State.setFp_bist (s : State) (f : FrontPanel → FrontPanel) : (State.setFp s f).bist = s.bist := rfl
@[simp] theorem State.setFp_page (s : State) (f : FrontPanel → FrontPanel) : (State.setFp s f).page = s.page := rfl
@[simp] theorem State.setFp_ward (s : State) (f : FrontPanel → FrontPanel) : (State.setFp s f).ward = s.ward := rfl
@[simp] theorem State.setFp_spdm (s : State) (f : FrontPanel → FrontPanel) : (State.setFp s f).spdm = s.spdm := rfl
@[simp] theorem State.setFp_hasp (s : State) (f : FrontPanel → FrontPanel) : (State.setFp s f).hasp = s.hasp := rfl
@[simp] theorem State.setFp_clk (s : State) (f : FrontPanel → FrontPanel) : (State.setFp s f).clk = s.clk := rfl
@[simp] theorem State.setFp_gate (s : State) (f : FrontPanel → FrontPanel) : (State.setFp s f).gate = s.gate := rfl
@[simp] theorem State.setFp_dl (s : State) (f : FrontPanel → FrontPanel) : (State.setFp s f).dl = s.dl := rfl
@[simp] theorem State.setFp_link (s : State) (f : FrontPanel → FrontPanel) : (State.setFp s f).link = s.link := rfl
@[simp] theorem State.setFp_lc (s : State) (f : FrontPanel → FrontPanel) : (State.setFp s f).lc = s.lc := rfl
@[simp] theorem State.setFp_rx (s : State) (f : FrontPanel → FrontPanel) : (State.setFp s f).rx = s.rx := rfl
@[simp] theorem State.setFp_eng (s : State) (f : FrontPanel → FrontPanel) : (State.setFp s f).eng = s.eng := rfl
@[simp] theorem State.setFp_ql (s : State) (f : FrontPanel → FrontPanel) : (State.setFp s f).ql = s.ql := rfl
@[simp] theorem State.setFp_cal (s : State) (f : FrontPanel → FrontPanel) : (State.setFp s f).cal = s.cal := rfl
@[simp] theorem State.setFp_kn (s : State) (f : FrontPanel → FrontPanel) : (State.setFp s f).kn = s.kn := rfl
@[simp] theorem State.setFp_diag (s : State) (f : FrontPanel → FrontPanel) : (State.setFp s f).diag = s.diag := rfl
@[simp] theorem State.setFp_mon (s : State) (f : FrontPanel → FrontPanel) : (State.setFp s f).mon = s.mon := rfl
@[simp] theorem State.setFp_out (s : State) (f : FrontPanel → FrontPanel) : (State.setFp s f).out = s.out := rfl
@[simp] theorem State.setFp_pending (s : State) (f : FrontPanel → FrontPanel) : (State.setFp s f).pending = s.pending := rfl
@[simp] theorem State.setFp_draws (s : State) (f : FrontPanel → FrontPanel) : (State.setFp s f).draws = s.draws := rfl
@[simp] theorem State.setFp_time (s : State) (f : FrontPanel → FrontPanel) : (State.setFp s f).time = s.time := rfl
@[simp] theorem State.setFp_porNs (s : State) (f : FrontPanel → FrontPanel) : (State.setFp s f).porNs = s.porNs := rfl

@[simp] theorem State.modKwCnt_fuse (s : State) (f : KwCounters → KwCounters) : (State.modKwCnt s f).fuse = s.fuse := rfl
@[simp] theorem State.modKwCnt_nvm (s : State) (f : KwCounters → KwCounters) : (State.modKwCnt s f).nvm = s.nvm := rfl
@[simp] theorem State.modKwCnt_pwr (s : State) (f : KwCounters → KwCounters) : (State.modKwCnt s f).pwr = s.pwr := rfl
@[simp] theorem State.modKwCnt_fp (s : State) (f : KwCounters → KwCounters) : (State.modKwCnt s f).fp = s.fp := rfl
@[simp] theorem State.modKwCnt_flows (s : State) (f : KwCounters → KwCounters) : (State.modKwCnt s f).flows = s.flows := rfl
@[simp] theorem State.modKwCnt_cyo (s : State) (f : KwCounters → KwCounters) : (State.modKwCnt s f).cyo = s.cyo := rfl
@[simp] theorem State.modKwCnt_ben (s : State) (f : KwCounters → KwCounters) : (State.modKwCnt s f).ben = s.ben := rfl
@[simp] theorem State.modKwCnt_bist (s : State) (f : KwCounters → KwCounters) : (State.modKwCnt s f).bist = s.bist := rfl
@[simp] theorem State.modKwCnt_page (s : State) (f : KwCounters → KwCounters) : (State.modKwCnt s f).page = s.page := rfl
@[simp] theorem State.modKwCnt_ward (s : State) (f : KwCounters → KwCounters) : (State.modKwCnt s f).ward = s.ward := rfl
@[simp] theorem State.modKwCnt_spdm (s : State) (f : KwCounters → KwCounters) : (State.modKwCnt s f).spdm = s.spdm := rfl
@[simp] theorem State.modKwCnt_hasp (s : State) (f : KwCounters → KwCounters) : (State.modKwCnt s f).hasp = s.hasp := rfl
@[simp] theorem State.modKwCnt_clk (s : State) (f : KwCounters → KwCounters) : (State.modKwCnt s f).clk = s.clk := rfl
@[simp] theorem State.modKwCnt_gate (s : State) (f : KwCounters → KwCounters) : (State.modKwCnt s f).gate = s.gate := rfl
@[simp] theorem State.modKwCnt_dl (s : State) (f : KwCounters → KwCounters) : (State.modKwCnt s f).dl = s.dl := rfl
@[simp] theorem State.modKwCnt_link (s : State) (f : KwCounters → KwCounters) : (State.modKwCnt s f).link = s.link := rfl
@[simp] theorem State.modKwCnt_lc (s : State) (f : KwCounters → KwCounters) : (State.modKwCnt s f).lc = s.lc := rfl
@[simp] theorem State.modKwCnt_rx (s : State) (f : KwCounters → KwCounters) : (State.modKwCnt s f).rx = s.rx := rfl
@[simp] theorem State.modKwCnt_eng (s : State) (f : KwCounters → KwCounters) : (State.modKwCnt s f).eng = s.eng := rfl
@[simp] theorem State.modKwCnt_ql (s : State) (f : KwCounters → KwCounters) : (State.modKwCnt s f).ql = s.ql := rfl
@[simp] theorem State.modKwCnt_cal (s : State) (f : KwCounters → KwCounters) : (State.modKwCnt s f).cal = s.cal := rfl
@[simp] theorem State.modKwCnt_kn (s : State) (f : KwCounters → KwCounters) : (State.modKwCnt s f).kn = s.kn := rfl
@[simp] theorem State.modKwCnt_diag (s : State) (f : KwCounters → KwCounters) : (State.modKwCnt s f).diag = s.diag := rfl
@[simp] theorem State.modKwCnt_mon (s : State) (f : KwCounters → KwCounters) : (State.modKwCnt s f).mon = s.mon := rfl
@[simp] theorem State.modKwCnt_out (s : State) (f : KwCounters → KwCounters) : (State.modKwCnt s f).out = s.out := rfl
@[simp] theorem State.modKwCnt_pending (s : State) (f : KwCounters → KwCounters) : (State.modKwCnt s f).pending = s.pending := rfl
@[simp] theorem State.modKwCnt_draws (s : State) (f : KwCounters → KwCounters) : (State.modKwCnt s f).draws = s.draws := rfl
@[simp] theorem State.modKwCnt_time (s : State) (f : KwCounters → KwCounters) : (State.modKwCnt s f).time = s.time := rfl
@[simp] theorem State.modKwCnt_porNs (s : State) (f : KwCounters → KwCounters) : (State.modKwCnt s f).porNs = s.porNs := rfl

@[simp] theorem State.modBen_fuse (s : State) (f : Benash → Benash) : (State.modBen s f).fuse = s.fuse := rfl
@[simp] theorem State.modBen_nvm (s : State) (f : Benash → Benash) : (State.modBen s f).nvm = s.nvm := rfl
@[simp] theorem State.modBen_pwr (s : State) (f : Benash → Benash) : (State.modBen s f).pwr = s.pwr := rfl
@[simp] theorem State.modBen_fp (s : State) (f : Benash → Benash) : (State.modBen s f).fp = s.fp := rfl
@[simp] theorem State.modBen_kw (s : State) (f : Benash → Benash) : (State.modBen s f).kw = s.kw := rfl
@[simp] theorem State.modBen_flows (s : State) (f : Benash → Benash) : (State.modBen s f).flows = s.flows := rfl
@[simp] theorem State.modBen_cyo (s : State) (f : Benash → Benash) : (State.modBen s f).cyo = s.cyo := rfl
@[simp] theorem State.modBen_bist (s : State) (f : Benash → Benash) : (State.modBen s f).bist = s.bist := rfl
@[simp] theorem State.modBen_page (s : State) (f : Benash → Benash) : (State.modBen s f).page = s.page := rfl
@[simp] theorem State.modBen_ward (s : State) (f : Benash → Benash) : (State.modBen s f).ward = s.ward := rfl
@[simp] theorem State.modBen_spdm (s : State) (f : Benash → Benash) : (State.modBen s f).spdm = s.spdm := rfl
@[simp] theorem State.modBen_hasp (s : State) (f : Benash → Benash) : (State.modBen s f).hasp = s.hasp := rfl
@[simp] theorem State.modBen_clk (s : State) (f : Benash → Benash) : (State.modBen s f).clk = s.clk := rfl
@[simp] theorem State.modBen_gate (s : State) (f : Benash → Benash) : (State.modBen s f).gate = s.gate := rfl
@[simp] theorem State.modBen_dl (s : State) (f : Benash → Benash) : (State.modBen s f).dl = s.dl := rfl
@[simp] theorem State.modBen_link (s : State) (f : Benash → Benash) : (State.modBen s f).link = s.link := rfl
@[simp] theorem State.modBen_lc (s : State) (f : Benash → Benash) : (State.modBen s f).lc = s.lc := rfl
@[simp] theorem State.modBen_rx (s : State) (f : Benash → Benash) : (State.modBen s f).rx = s.rx := rfl
@[simp] theorem State.modBen_eng (s : State) (f : Benash → Benash) : (State.modBen s f).eng = s.eng := rfl
@[simp] theorem State.modBen_ql (s : State) (f : Benash → Benash) : (State.modBen s f).ql = s.ql := rfl
@[simp] theorem State.modBen_cal (s : State) (f : Benash → Benash) : (State.modBen s f).cal = s.cal := rfl
@[simp] theorem State.modBen_kn (s : State) (f : Benash → Benash) : (State.modBen s f).kn = s.kn := rfl
@[simp] theorem State.modBen_diag (s : State) (f : Benash → Benash) : (State.modBen s f).diag = s.diag := rfl
@[simp] theorem State.modBen_mon (s : State) (f : Benash → Benash) : (State.modBen s f).mon = s.mon := rfl
@[simp] theorem State.modBen_out (s : State) (f : Benash → Benash) : (State.modBen s f).out = s.out := rfl
@[simp] theorem State.modBen_pending (s : State) (f : Benash → Benash) : (State.modBen s f).pending = s.pending := rfl
@[simp] theorem State.modBen_draws (s : State) (f : Benash → Benash) : (State.modBen s f).draws = s.draws := rfl
@[simp] theorem State.modBen_time (s : State) (f : Benash → Benash) : (State.modBen s f).time = s.time := rfl
@[simp] theorem State.modBen_porNs (s : State) (f : Benash → Benash) : (State.modBen s f).porNs = s.porNs := rfl

@[simp] theorem State.frameSeen_fuse (s : State) : (State.frameSeen s).fuse = s.fuse := rfl
@[simp] theorem State.frameSeen_nvm (s : State) : (State.frameSeen s).nvm = s.nvm := rfl
@[simp] theorem State.frameSeen_fp (s : State) : (State.frameSeen s).fp = s.fp := rfl
@[simp] theorem State.frameSeen_kw (s : State) : (State.frameSeen s).kw = s.kw := rfl
@[simp] theorem State.frameSeen_flows (s : State) : (State.frameSeen s).flows = s.flows := rfl
@[simp] theorem State.frameSeen_cyo (s : State) : (State.frameSeen s).cyo = s.cyo := rfl
@[simp] theorem State.frameSeen_ben (s : State) : (State.frameSeen s).ben = s.ben := rfl
@[simp] theorem State.frameSeen_bist (s : State) : (State.frameSeen s).bist = s.bist := rfl
@[simp] theorem State.frameSeen_page (s : State) : (State.frameSeen s).page = s.page := rfl
@[simp] theorem State.frameSeen_ward (s : State) : (State.frameSeen s).ward = s.ward := rfl
@[simp] theorem State.frameSeen_spdm (s : State) : (State.frameSeen s).spdm = s.spdm := rfl
@[simp] theorem State.frameSeen_hasp (s : State) : (State.frameSeen s).hasp = s.hasp := rfl
@[simp] theorem State.frameSeen_clk (s : State) : (State.frameSeen s).clk = s.clk := rfl
@[simp] theorem State.frameSeen_gate (s : State) : (State.frameSeen s).gate = s.gate := rfl
@[simp] theorem State.frameSeen_dl (s : State) : (State.frameSeen s).dl = s.dl := rfl
@[simp] theorem State.frameSeen_link (s : State) : (State.frameSeen s).link = s.link := rfl
@[simp] theorem State.frameSeen_lc (s : State) : (State.frameSeen s).lc = s.lc := rfl
@[simp] theorem State.frameSeen_rx (s : State) : (State.frameSeen s).rx = s.rx := rfl
@[simp] theorem State.frameSeen_eng (s : State) : (State.frameSeen s).eng = s.eng := rfl
@[simp] theorem State.frameSeen_ql (s : State) : (State.frameSeen s).ql = s.ql := rfl
@[simp] theorem State.frameSeen_cal (s : State) : (State.frameSeen s).cal = s.cal := rfl
@[simp] theorem State.frameSeen_kn (s : State) : (State.frameSeen s).kn = s.kn := rfl
@[simp] theorem State.frameSeen_diag (s : State) : (State.frameSeen s).diag = s.diag := rfl
@[simp] theorem State.frameSeen_mon (s : State) : (State.frameSeen s).mon = s.mon := rfl
@[simp] theorem State.frameSeen_out (s : State) : (State.frameSeen s).out = s.out := rfl
@[simp] theorem State.frameSeen_pending (s : State) : (State.frameSeen s).pending = s.pending := rfl
@[simp] theorem State.frameSeen_draws (s : State) : (State.frameSeen s).draws = s.draws := rfl
@[simp] theorem State.frameSeen_time (s : State) : (State.frameSeen s).time = s.time := rfl
@[simp] theorem State.frameSeen_porNs (s : State) : (State.frameSeen s).porNs = s.porNs := rfl

@[simp] theorem State.modWard_fuse (s : State) (f : Ward → Ward) : (State.modWard s f).fuse = s.fuse := rfl
@[simp] theorem State.modWard_nvm (s : State) (f : Ward → Ward) : (State.modWard s f).nvm = s.nvm := rfl
@[simp] theorem State.modWard_pwr (s : State) (f : Ward → Ward) : (State.modWard s f).pwr = s.pwr := rfl
@[simp] theorem State.modWard_fp (s : State) (f : Ward → Ward) : (State.modWard s f).fp = s.fp := rfl
@[simp] theorem State.modWard_kw (s : State) (f : Ward → Ward) : (State.modWard s f).kw = s.kw := rfl
@[simp] theorem State.modWard_flows (s : State) (f : Ward → Ward) : (State.modWard s f).flows = s.flows := rfl
@[simp] theorem State.modWard_cyo (s : State) (f : Ward → Ward) : (State.modWard s f).cyo = s.cyo := rfl
@[simp] theorem State.modWard_ben (s : State) (f : Ward → Ward) : (State.modWard s f).ben = s.ben := rfl
@[simp] theorem State.modWard_bist (s : State) (f : Ward → Ward) : (State.modWard s f).bist = s.bist := rfl
@[simp] theorem State.modWard_page (s : State) (f : Ward → Ward) : (State.modWard s f).page = s.page := rfl
@[simp] theorem State.modWard_spdm (s : State) (f : Ward → Ward) : (State.modWard s f).spdm = s.spdm := rfl
@[simp] theorem State.modWard_hasp (s : State) (f : Ward → Ward) : (State.modWard s f).hasp = s.hasp := rfl
@[simp] theorem State.modWard_clk (s : State) (f : Ward → Ward) : (State.modWard s f).clk = s.clk := rfl
@[simp] theorem State.modWard_gate (s : State) (f : Ward → Ward) : (State.modWard s f).gate = s.gate := rfl
@[simp] theorem State.modWard_dl (s : State) (f : Ward → Ward) : (State.modWard s f).dl = s.dl := rfl
@[simp] theorem State.modWard_link (s : State) (f : Ward → Ward) : (State.modWard s f).link = s.link := rfl
@[simp] theorem State.modWard_lc (s : State) (f : Ward → Ward) : (State.modWard s f).lc = s.lc := rfl
@[simp] theorem State.modWard_rx (s : State) (f : Ward → Ward) : (State.modWard s f).rx = s.rx := rfl
@[simp] theorem State.modWard_eng (s : State) (f : Ward → Ward) : (State.modWard s f).eng = s.eng := rfl
@[simp] theorem State.modWard_ql (s : State) (f : Ward → Ward) : (State.modWard s f).ql = s.ql := rfl
@[simp] theorem State.modWard_cal (s : State) (f : Ward → Ward) : (State.modWard s f).cal = s.cal := rfl
@[simp] theorem State.modWard_kn (s : State) (f : Ward → Ward) : (State.modWard s f).kn = s.kn := rfl
@[simp] theorem State.modWard_diag (s : State) (f : Ward → Ward) : (State.modWard s f).diag = s.diag := rfl
@[simp] theorem State.modWard_mon (s : State) (f : Ward → Ward) : (State.modWard s f).mon = s.mon := rfl
@[simp] theorem State.modWard_out (s : State) (f : Ward → Ward) : (State.modWard s f).out = s.out := rfl
@[simp] theorem State.modWard_pending (s : State) (f : Ward → Ward) : (State.modWard s f).pending = s.pending := rfl
@[simp] theorem State.modWard_draws (s : State) (f : Ward → Ward) : (State.modWard s f).draws = s.draws := rfl
@[simp] theorem State.modWard_time (s : State) (f : Ward → Ward) : (State.modWard s f).time = s.time := rfl
@[simp] theorem State.modWard_porNs (s : State) (f : Ward → Ward) : (State.modWard s f).porNs = s.porNs := rfl

@[simp] theorem State.modPwr_fuse (s : State) (f : Power → Power) : (State.modPwr s f).fuse = s.fuse := rfl
@[simp] theorem State.modPwr_nvm (s : State) (f : Power → Power) : (State.modPwr s f).nvm = s.nvm := rfl
@[simp] theorem State.modPwr_fp (s : State) (f : Power → Power) : (State.modPwr s f).fp = s.fp := rfl
@[simp] theorem State.modPwr_kw (s : State) (f : Power → Power) : (State.modPwr s f).kw = s.kw := rfl
@[simp] theorem State.modPwr_flows (s : State) (f : Power → Power) : (State.modPwr s f).flows = s.flows := rfl
@[simp] theorem State.modPwr_cyo (s : State) (f : Power → Power) : (State.modPwr s f).cyo = s.cyo := rfl
@[simp] theorem State.modPwr_ben (s : State) (f : Power → Power) : (State.modPwr s f).ben = s.ben := rfl
@[simp] theorem State.modPwr_bist (s : State) (f : Power → Power) : (State.modPwr s f).bist = s.bist := rfl
@[simp] theorem State.modPwr_page (s : State) (f : Power → Power) : (State.modPwr s f).page = s.page := rfl
@[simp] theorem State.modPwr_ward (s : State) (f : Power → Power) : (State.modPwr s f).ward = s.ward := rfl
@[simp] theorem State.modPwr_spdm (s : State) (f : Power → Power) : (State.modPwr s f).spdm = s.spdm := rfl
@[simp] theorem State.modPwr_hasp (s : State) (f : Power → Power) : (State.modPwr s f).hasp = s.hasp := rfl
@[simp] theorem State.modPwr_clk (s : State) (f : Power → Power) : (State.modPwr s f).clk = s.clk := rfl
@[simp] theorem State.modPwr_gate (s : State) (f : Power → Power) : (State.modPwr s f).gate = s.gate := rfl
@[simp] theorem State.modPwr_dl (s : State) (f : Power → Power) : (State.modPwr s f).dl = s.dl := rfl
@[simp] theorem State.modPwr_link (s : State) (f : Power → Power) : (State.modPwr s f).link = s.link := rfl
@[simp] theorem State.modPwr_lc (s : State) (f : Power → Power) : (State.modPwr s f).lc = s.lc := rfl
@[simp] theorem State.modPwr_rx (s : State) (f : Power → Power) : (State.modPwr s f).rx = s.rx := rfl
@[simp] theorem State.modPwr_eng (s : State) (f : Power → Power) : (State.modPwr s f).eng = s.eng := rfl
@[simp] theorem State.modPwr_ql (s : State) (f : Power → Power) : (State.modPwr s f).ql = s.ql := rfl
@[simp] theorem State.modPwr_cal (s : State) (f : Power → Power) : (State.modPwr s f).cal = s.cal := rfl
@[simp] theorem State.modPwr_kn (s : State) (f : Power → Power) : (State.modPwr s f).kn = s.kn := rfl
@[simp] theorem State.modPwr_diag (s : State) (f : Power → Power) : (State.modPwr s f).diag = s.diag := rfl
@[simp] theorem State.modPwr_mon (s : State) (f : Power → Power) : (State.modPwr s f).mon = s.mon := rfl
@[simp] theorem State.modPwr_out (s : State) (f : Power → Power) : (State.modPwr s f).out = s.out := rfl
@[simp] theorem State.modPwr_pending (s : State) (f : Power → Power) : (State.modPwr s f).pending = s.pending := rfl
@[simp] theorem State.modPwr_draws (s : State) (f : Power → Power) : (State.modPwr s f).draws = s.draws := rfl
@[simp] theorem State.modPwr_time (s : State) (f : Power → Power) : (State.modPwr s f).time = s.time := rfl
@[simp] theorem State.modPwr_porNs (s : State) (f : Power → Power) : (State.modPwr s f).porNs = s.porNs := rfl

@[simp] theorem State.begin_fuse (s : State) (q : Request) : (State.begin s q).fuse = s.fuse := rfl
@[simp] theorem State.begin_pwr (s : State) (q : Request) : (State.begin s q).pwr = s.pwr := rfl
@[simp] theorem State.begin_fp (s : State) (q : Request) : (State.begin s q).fp = s.fp := rfl
@[simp] theorem State.begin_kw (s : State) (q : Request) : (State.begin s q).kw = s.kw := rfl
@[simp] theorem State.begin_flows (s : State) (q : Request) : (State.begin s q).flows = s.flows := rfl
@[simp] theorem State.begin_ben (s : State) (q : Request) : (State.begin s q).ben = s.ben := rfl
@[simp] theorem State.begin_bist (s : State) (q : Request) : (State.begin s q).bist = s.bist := rfl
@[simp] theorem State.begin_page (s : State) (q : Request) : (State.begin s q).page = s.page := rfl
@[simp] theorem State.begin_ward (s : State) (q : Request) : (State.begin s q).ward = s.ward := rfl
@[simp] theorem State.begin_spdm (s : State) (q : Request) : (State.begin s q).spdm = s.spdm := rfl
@[simp] theorem State.begin_hasp (s : State) (q : Request) : (State.begin s q).hasp = s.hasp := rfl
@[simp] theorem State.begin_clk (s : State) (q : Request) : (State.begin s q).clk = s.clk := rfl
@[simp] theorem State.begin_gate (s : State) (q : Request) : (State.begin s q).gate = s.gate := rfl
@[simp] theorem State.begin_dl (s : State) (q : Request) : (State.begin s q).dl = s.dl := rfl
@[simp] theorem State.begin_link (s : State) (q : Request) : (State.begin s q).link = s.link := rfl
@[simp] theorem State.begin_lc (s : State) (q : Request) : (State.begin s q).lc = s.lc := rfl
@[simp] theorem State.begin_rx (s : State) (q : Request) : (State.begin s q).rx = s.rx := rfl
@[simp] theorem State.begin_eng (s : State) (q : Request) : (State.begin s q).eng = s.eng := rfl
@[simp] theorem State.begin_ql (s : State) (q : Request) : (State.begin s q).ql = s.ql := rfl
@[simp] theorem State.begin_cal (s : State) (q : Request) : (State.begin s q).cal = s.cal := rfl
@[simp] theorem State.begin_kn (s : State) (q : Request) : (State.begin s q).kn = s.kn := rfl
@[simp] theorem State.begin_diag (s : State) (q : Request) : (State.begin s q).diag = s.diag := rfl
@[simp] theorem State.begin_mon (s : State) (q : Request) : (State.begin s q).mon = s.mon := rfl
@[simp] theorem State.begin_out (s : State) (q : Request) : (State.begin s q).out = s.out := rfl
@[simp] theorem State.begin_pending (s : State) (q : Request) : (State.begin s q).pending = s.pending := rfl
@[simp] theorem State.begin_draws (s : State) (q : Request) : (State.begin s q).draws = s.draws := rfl
@[simp] theorem State.begin_time (s : State) (q : Request) : (State.begin s q).time = s.time := rfl
@[simp] theorem State.begin_porNs (s : State) (q : Request) : (State.begin s q).porNs = s.porNs := rfl

end Sys2Proof.Machine
end

