-- ==== Sys2Proof/Laws/Kept.lean ====
section
/-! SUPPORT. No operation of the block touches the queue of waiting commands, and none but a lifecycle transition the fuses: one lemma for each
operation, in the order of the files that define them. The lemmas of the operations that take a continuation say it of any continuation that
keeps the field. -/

namespace Sys2Proof.Machine

set_option linter.unreachableTactic false
set_option linter.unusedTactic false
set_option linter.unusedSimpArgs false

/-! ### The fuses -/

/-- A fold of steps that keep the field keeps it. -/
theorem foldl_fuse {α : Type} (f : State → α → State) (h : ∀ st x, (f st x).fuse = st.fuse) (l : List α) (s : State) : (l.foldl f s).fuse = s.fuse := by
  induction l generalizing s with
  | nil => rfl
  | cons a t ih => exact (ih (f s a)).trans (h s a)

@[simp] theorem State.writeLines_fuse (n : Nat) : ∀ (s : State) (a : Nat) (bs : List Byte), (s.writeLines a n bs).fuse = s.fuse := by
  induction n with
  | zero => intros; rfl
  | succ n ih => intro s a bs; simp only [State.writeLines]; rw [ih]; simp

theorem State.runRequest_fuse {s : State} {tag : BitVec 16} {op : Nat} {body : Request → State → State} (h : ∀ q st, (body q st).fuse = st.fuse) : (s.runRequest tag op body).fuse = s.fuse := by
  unfold State.runRequest; repeat' (first | rfl | (simp [h]; done) | split)

theorem State.guarded_fuse {s : State} {q : Request} {cs : List (Bool × Status)} {rs : List (Nat × Nat)} {go : State → State} (h : ∀ st, (go st).fuse = st.fuse) : (s.guarded q cs rs go).fuse = s.fuse := by
  unfold State.guarded; split <;> simp [h]

@[simp] theorem State.putSlot_fuse (s : State) (a k : Nat) (x : SaSlot) : (State.putSlot s a k x).fuse = s.fuse := rfl

@[simp] theorem State.advance_fuse (s : State) (a : Nat) : (State.advance s a).1.fuse = s.fuse := by
  unfold State.advance; dsimp only; repeat' split
  all_goals simp

@[simp] theorem State.rotatePn_fuse (s : State) (a rotate pn : Nat) : (State.rotatePn s a rotate pn).fuse = s.fuse := by simp [State.rotatePn]

@[simp] theorem State.installSlot_fuse (s : State) (a an : Nat) (sak salt ssci : List Byte) : (State.installSlot s a an sak salt ssci).fuse = s.fuse := rfl

@[simp] theorem State.eraseSlots_fuse (s : State) (a : Nat) : (State.eraseSlots s a).fuse = s.fuse := rfl

@[simp] theorem State.endSessions_fuse (s : State) : (State.endSessions s).fuse = s.fuse := by simp [State.endSessions]

@[simp] theorem State.protectWith_fuse (s : State) (a : Nat) (txSci : List Byte) (sc conf : Bool) (rotate : Nat) (bs : List Byte) : (State.protectWith s a txSci sc conf rotate bs).1.fuse = s.fuse := by
  unfold State.protectWith; dsimp only; repeat' split
  all_goals simp

@[simp] theorem State.wardTransmit_fuse (s : State) (f : Nat) (assoc bs : List Byte) : (State.wardTransmit s f assoc bs).1.fuse = s.fuse := by
  unfold State.wardTransmit
  repeat' (first | rfl | (simp; done) | (refine foldl_fuse _ (fun _ _ => ?_) _ _) | (refine (foldl_fuse _ (fun _ _ => ?_) _ _).trans ?_) | split | (dsimp only; split))

@[simp] theorem State.receiveWith_fuse (s : State) (a validate : Nat) (conf : Bool) (replay : Nat) (bs : List Byte) : (State.receiveWith s a validate conf replay bs).1.fuse = s.fuse := by
  unfold State.receiveWith; dsimp only; repeat' split
  all_goals simp

@[simp] theorem State.wardPass_fuse (s : State) (x : RxFrame) : (State.wardPass s x).fuse = s.fuse := rfl

@[simp] theorem State.wardDiscard_fuse (s : State) (x : RxFrame) (text : Option (List Byte)) : (State.wardDiscard s x text).fuse = s.fuse := by simp [State.wardDiscard]

@[simp] theorem State.predictShape_fuse (s : State) : (State.predictShape s).fuse = s.fuse := by simp [State.predictShape]

@[simp] theorem State.shapeTraining_fuse (s : State) (m : Rung) : (State.shapeTraining s m).fuse = s.fuse := by simp [State.shapeTraining]

@[simp] theorem State.storeShape_fuse (s : State) (f : Shape → Shape) : (State.storeShape s f).fuse = s.fuse := by simp [State.storeShape]

@[simp] theorem State.modEngine_fuse (s : State) (e : Nat) (f : Engine → Engine) : (State.modEngine s e f).fuse = s.fuse := rfl

@[simp] theorem State.modEng_fuse (s : State) (f : Engines → Engines) : (State.modEng s f).fuse = s.fuse := rfl

@[simp] theorem State.gateEngines_fuse (s : State) : (State.gateEngines s).fuse = s.fuse := rfl

@[simp] theorem State.openEngines_fuse (s : State) : (State.openEngines s).fuse = s.fuse := by simp [State.openEngines]

@[simp] theorem State.loadFirst_fuse (s : State) : (State.loadFirst s).fuse = s.fuse := by simp [State.loadFirst]

@[simp] theorem State.finishRepair_fuse (s : State) : (State.finishRepair s).fuse = s.fuse := by
  unfold State.finishRepair; split <;> simp

@[simp] theorem State.retireIdle_fuse (s : State) (e cause : Nat) : (State.retireIdle s e cause).fuse = s.fuse := by simp [State.retireIdle]

@[simp] theorem State.retireFailing_fuse (s : State) : (State.retireFailing s).fuse = s.fuse := by
  unfold State.retireFailing
  repeat' (first | rfl | (simp; done) | (refine foldl_fuse _ (fun _ _ => ?_) _ _) | (refine (foldl_fuse _ (fun _ _ => ?_) _ _).trans ?_) | split | (dsimp only; split))

@[simp] theorem State.openStaging_fuse (s : State) (host : Bool) : (State.openStaging s host).fuse = s.fuse := by simp [State.openStaging]

@[simp] theorem State.commitProfile_fuse (s : State) (p : Profile) : (State.commitProfile s p).fuse = s.fuse := by simp [State.commitProfile]

@[simp] theorem State.stageMove_fuse (s : State) (src dst : Nat) : (State.stageMove s src dst).1.fuse = s.fuse := by
  unfold State.stageMove; dsimp only; split <;> simp

@[simp] theorem State.stageRepair_fuse (s : State) (r : Repair) : (State.stageRepair s r).fuse = s.fuse := by simp [State.stageRepair]

@[simp] theorem State.openWaiting_fuse (s : State) : (State.openWaiting s).fuse = s.fuse := by
  unfold State.openWaiting; dsimp only; repeat' split
  all_goals simp

@[simp] theorem State.afterSwitch_fuse (s : State) : (State.afterSwitch s).fuse = s.fuse := by
  unfold State.afterSwitch
  repeat' (first | rfl | (simp; done) | (refine foldl_fuse _ (fun _ _ => ?_) _ _) | (refine (foldl_fuse _ (fun _ _ => ?_) _ _).trans ?_) | split | (dsimp only; split))

@[simp] theorem State.bankSwitch_fuse (s : State) : (State.bankSwitch s).fuse = s.fuse := by
  unfold State.bankSwitch; dsimp only; repeat' split
  all_goals simp

@[simp] theorem State.supersede_fuse (s : State) : (State.supersede s).fuse = s.fuse := rfl

@[simp] theorem State.abandonRepair_fuse (s : State) : (State.abandonRepair s).fuse = s.fuse := by
  unfold State.abandonRepair; split <;> simp

@[simp] theorem State.repairCause_fuse (s : State) (e cause : Nat) (auto : Bool) : (State.repairCause s e cause auto).fuse = s.fuse := by simp [State.repairCause]

@[simp] theorem State.agingRepair_fuse (s : State) (e : Nat) : (State.agingRepair s e).fuse = s.fuse := by simp [State.agingRepair]

@[simp] theorem State.modRx_fuse (s : State) (p : Pair) (f : RxPair → RxPair) : (State.modRx s p f).fuse = s.fuse := rfl

@[simp] theorem State.lateBlock_fuse (s : State) (task : Nat) (p : Pair) (a b : Nat) : (State.lateBlock s task p a b).fuse = s.fuse := by
  unfold State.lateBlock
  repeat' (first | rfl | (simp; done) | (refine foldl_fuse _ (fun _ _ => ?_) _ _) | (refine (foldl_fuse _ (fun _ _ => ?_) _ _).trans ?_) | split | (dsimp only; split))

@[simp] theorem State.lateSlot_fuse (s : State) (e i doneSegs : Nat) : (State.lateSlot s e i doneSegs).fuse = s.fuse := by simp [State.lateSlot]

@[simp] theorem State.loadNew_fuse (s : State) (es : List Nat) : (s.loadNew es).fuse = s.fuse := by
  have h : (es.foldl (fun st e => st.modEngine e (fun x => { x with newProg := true })) s).fuse = s.fuse := foldl_fuse _ (fun _ _ => by simp) _ _
  unfold State.loadNew; dsimp only; split
  · exact h
  · simp; exact h

@[simp] theorem State.finishSwap_fuse (s : State) : (State.finishSwap s).fuse = s.fuse := by simp [State.finishSwap]

@[simp] theorem State.modRun_fuse (s : State) (f : LcRun → LcRun) : (State.modRun s f).fuse = s.fuse := rfl

@[simp] theorem State.setStatus_fuse (s : State) (i v : Nat) : (State.setStatus s i v).fuse = s.fuse := rfl

@[simp] theorem State.modQl_fuse (s : State) (f : QlRun → QlRun) : (State.modQl s f).fuse = s.fuse := rfl

@[simp] theorem State.modQlCnt_fuse (s : State) (f : QlCounters → QlCounters) : (State.modQlCnt s f).fuse = s.fuse := rfl

@[simp] theorem State.withdrawQuiet_fuse (s : State) : (State.withdrawQuiet s).fuse = s.fuse := by simp [State.withdrawQuiet]

@[simp] theorem State.wakeCause_fuse (s : State) (n : Nat) : (State.wakeCause s n).fuse = s.fuse := by simp [State.wakeCause]

@[simp] theorem State.restoreReception_fuse (s : State) : (State.restoreReception s).fuse = s.fuse := rfl

@[simp] theorem State.askRetrain_fuse (s : State) : (State.askRetrain s).fuse = s.fuse := by simp [State.askRetrain]

@[simp] theorem State.modCal_fuse (s : State) (p : Pair) (f : CalPair → CalPair) : (State.modCal s p f).fuse = s.fuse := rfl

@[simp] theorem State.lanePhases_fuse (s : State) (frames : Nat) : (State.lanePhases s frames).fuse = s.fuse := by simp [State.lanePhases]

@[simp] theorem State.loadTrim_fuse (s : State) : (State.loadTrim s).fuse = s.fuse := by simp [State.loadTrim]

@[simp] theorem State.revert_fuse (s : State) : (State.revert s).fuse = s.fuse := rfl

@[simp] theorem State.restartEstimates_fuse (s : State) : (State.restartEstimates s).fuse = s.fuse := by simp [State.restartEstimates]

@[simp] theorem State.modLink_fuse (s : State) (f : Link → Link) : (State.modLink s f).fuse = s.fuse := rfl

@[simp] theorem State.modLinkCnt_fuse (s : State) (f : LinkCounters → LinkCounters) : (State.modLinkCnt s f).fuse = s.fuse := rfl

@[simp] theorem State.modLc_fuse (s : State) (f : LcCounters → LcCounters) : (State.modLc s f).fuse = s.fuse := rfl

@[simp] theorem State.ladderReset_fuse (s : State) : (State.ladderReset s).fuse = s.fuse := rfl

@[simp] theorem State.askLadderReset_fuse (s : State) : (State.askLadderReset s).fuse = s.fuse := by simp [State.askLadderReset]

@[simp] theorem State.ladderStep_fuse (s : State) (rung : Rung) : (State.ladderStep s rung).fuse = s.fuse := by
  unfold State.ladderStep; dsimp only; repeat' split
  all_goals simp

@[simp] theorem State.dropTx_fuse (s : State) : (State.dropTx s).fuse = s.fuse := by
  unfold State.dropTx
  repeat' (first | rfl | (simp; done) | (refine foldl_fuse _ (fun _ _ => ?_) _ _) | (refine (foldl_fuse _ (fun _ _ => ?_) _ _).trans ?_) | split | (dsimp only; split))

@[simp] theorem State.heldRevert_fuse (s : State) : (State.heldRevert s).fuse = s.fuse := by simp [State.heldRevert]

@[simp] theorem State.finishCal_fuse (s : State) : (State.finishCal s).fuse = s.fuse := by
  unfold State.finishCal; split <;> simp

@[simp] theorem State.endCalItems_fuse (s : State) (code : Nat) (which : Nat → Bool) : (State.endCalItems s code which).fuse = s.fuse := by
  unfold State.endCalItems; split <;> simp

@[simp] theorem State.calLinkChange_fuse (s : State) : (State.calLinkChange s).fuse = s.fuse := by simp [State.calLinkChange]

@[simp] theorem State.sendOam_fuse (s : State) (typ : Nat) (body : List Byte) : (State.sendOam s typ body).fuse = s.fuse := by simp [State.sendOam]

@[simp] theorem State.sendQuietReq_fuse (s : State) (p : Pair) (action ms : Nat) : (State.sendQuietReq s p action ms).fuse = s.fuse := by simp [State.sendQuietReq]

@[simp] theorem State.sendQuietAck_fuse (s : State) (p : Pair) (action result : Nat) : (State.sendQuietAck s p action result).fuse = s.fuse := by simp [State.sendQuietAck]

@[simp] theorem State.finishDiag_fuse (s : State) (st : Status) : (State.finishDiag s st).fuse = s.fuse := by
  unfold State.finishDiag; split <;> simp

@[simp] theorem State.endDiagTests_fuse (s : State) (code : Nat) (st : Status) : (State.endDiagTests s code st).fuse = s.fuse := by
  unfold State.endDiagTests; split <;> simp

@[simp] theorem State.interruptDiagRun_fuse (s : State) : (State.interruptDiagRun s).fuse = s.fuse := by simp [State.interruptDiagRun]

@[simp] theorem State.interruptDiag_fuse (s : State) (_q : Request) : (State.interruptDiag s _q).fuse = s.fuse := by simp [State.interruptDiag]

@[simp] theorem State.resumeCalibration_fuse (s : State) : (State.resumeCalibration s).fuse = s.fuse := by simp [State.resumeCalibration]

@[simp] theorem State.endKnuckle_fuse (s : State) (st : Status) : (State.endKnuckle s st).fuse = s.fuse := by
  unfold State.endKnuckle; split <;> simp

@[simp] theorem State.modKn_fuse (s : State) (f : KnRun → KnRun) : (State.modKn s f).fuse = s.fuse := rfl

@[simp] theorem State.formsChanged_fuse (s : State) : (State.formsChanged s).fuse = s.fuse := by simp [State.formsChanged]

@[simp] theorem State.knuckleSettled_fuse (s : State) : (State.knuckleSettled s).fuse = s.fuse := by simp [State.knuckleSettled]

@[simp] theorem State.dropItem_fuse (s : State) : (State.dropItem s).fuse = s.fuse := by
  unfold State.dropItem; dsimp only; repeat' split
  all_goals simp

@[simp] theorem State.lineDown_fuse (s : State) (retrain : Status) : (State.lineDown s retrain).fuse = s.fuse := by simp [State.lineDown]

@[simp] theorem State.recordFailure_fuse (s : State) (cause : Nat) (counted quiet : Bool) : (State.recordFailure s cause counted quiet).fuse = s.fuse := by simp [State.recordFailure]

@[simp] theorem State.enter_fuse (s : State) (n : Nat) : (State.enter s n).fuse = s.fuse := rfl

@[simp] theorem State.linkFail_fuse (s : State) (cause : Nat) (retrain : Status := .notReady) (silent : Bool := false) : (State.linkFail s cause retrain silent).fuse = s.fuse := by simp [State.linkFail]

@[simp] theorem State.linkDown_fuse (s : State) (cause : Nat) : (State.linkDown s cause).fuse = s.fuse := by simp [State.linkDown]

@[simp] theorem State.adminDown_fuse (s : State) : (State.adminDown s).fuse = s.fuse := by simp [State.adminDown]

@[simp] theorem State.dielinkFall_fuse (s : State) : (State.dielinkFall s).fuse = s.fuse := by simp [State.dielinkFall]

@[simp] theorem State.leaveDormant_fuse (s : State) : (State.leaveDormant s).fuse = s.fuse := by simp [State.leaveDormant]

@[simp] theorem State.dueReset_fuse (s : State) : (State.dueReset s).fuse = s.fuse := by simp [State.dueReset]

@[simp] theorem State.startNegotiation_fuse (s : State) : (State.startNegotiation s).fuse = s.fuse := by simp [State.startNegotiation]

@[simp] theorem State.beginNegotiation_fuse (s : State) : (State.beginNegotiation s).fuse = s.fuse := by
  unfold State.beginNegotiation; dsimp only; split
  · rfl
  · rw [State.endRun_fuse, foldl_fuse _ (fun st e => State.emit_fuse st e), State.drawn_fuse, State.modLink_fuse, State.modLink_fuse, State.dueReset_fuse]

@[simp] theorem State.enterData_fuse (s : State) : (State.enterData s).fuse = s.fuse := by simp [State.enterData]

@[simp] theorem State.restartCycle_fuse (s : State) : (State.restartCycle s).fuse = s.fuse := by simp [State.restartCycle]

@[simp] theorem State.startTraining_fuse (s : State) (m : Rung) (n : Nat) : (State.startTraining s m n).fuse = s.fuse := by simp [State.startTraining]

@[simp] theorem State.requestRetrain_fuse (s : State) : (State.requestRetrain s).fuse = s.fuse := by simp [State.requestRetrain]

@[simp] theorem State.stopBackground_fuse (s : State) (test target : Nat) : (State.stopBackground s test target).fuse = s.fuse := by simp [State.stopBackground]

@[simp] theorem State.retireElement_fuse (s : State) (test target : Nat) : (State.retireElement s test target).fuse = s.fuse := by simp [State.retireElement]

@[simp] theorem State.modDir_fuse (s : State) (inb : Bool) (f : DlDir → DlDir) : (State.modDir s inb f).fuse = s.fuse := rfl

@[simp] theorem State.laneToSpare_fuse (s : State) (t : Nat) : (State.laneToSpare s t).fuse = s.fuse := rfl

@[simp] theorem State.sliceUnfit_fuse (s : State) (p e : Nat) : (State.sliceUnfit s p e).fuse = s.fuse := rfl

@[simp] theorem State.noteReduced_fuse (s : State) (inb was : Bool) : (State.noteReduced s inb was).fuse = s.fuse := by simp [State.noteReduced]

@[simp] theorem State.reduceMap_fuse (s : State) (inb : Bool) (bad : Nat) : (State.reduceMap s inb bad).fuse = s.fuse := by simp [State.reduceMap]

@[simp] theorem State.substitute_fuse (s : State) (inb : Bool) (lane cause : Nat) : (State.substitute s inb lane cause).fuse = s.fuse := by
  unfold State.substitute; dsimp only; repeat' split
  all_goals simp

@[simp] theorem State.nextSubst_fuse (inb : Bool) (n : Nat) : ∀ s : State, (s.nextSubst inb n).fuse = s.fuse := by
  induction n with
  | zero => intros; rfl
  | succ n ih => intro s; simp only [State.nextSubst]; split <;> (try split) <;> simp [ih]

@[simp] theorem State.laneCause_fuse (s : State) (inb : Bool) (lane cause : Nat) : (State.laneCause s inb lane cause).fuse = s.fuse := by simp [State.laneCause]

@[simp] theorem State.startSearch_fuse (s : State) : (State.startSearch s).fuse = s.fuse := by simp [State.startSearch]

@[simp] theorem State.retireFailed_fuse (s : State) (e : StartUpEnd) : (State.retireFailed s e).fuse = s.fuse := by
  unfold State.retireFailed
  repeat' (first | rfl | (simp; done) | (refine foldl_fuse _ (fun _ _ => ?_) _ _) | (refine (foldl_fuse _ (fun _ _ => ?_) _ _).trans ?_) | split | (dsimp only; split))

@[simp] theorem State.runGain_fuse (s : State) (adc : Quad (List Int)) : (State.runGain s adc).fuse = s.fuse := by simp [State.runGain]

@[simp] theorem State.reestimate_fuse (s : State) (p : Pair) : (State.reestimate s p).fuse = s.fuse := by simp [State.reestimate]

@[simp] theorem State.snapshotPair_fuse (s : State) (p : Pair) : (State.snapshotPair s p).fuse = s.fuse := by simp [State.snapshotPair]

@[simp] theorem State.takeSnapshot_fuse (s : State) : (State.takeSnapshot s).fuse = s.fuse := by
  unfold State.takeSnapshot
  repeat' (first | rfl | (simp; done) | (refine foldl_fuse _ (fun _ _ => ?_) _ _) | (refine (foldl_fuse _ (fun _ _ => ?_) _ _).trans ?_) | split | (dsimp only; split))

@[simp] theorem State.defer_fuse (s : State) (q : Request) (test : Nat) : (State.defer s q test).fuse = s.fuse := by simp [State.defer]

@[simp] theorem State.startTest_fuse (s : State) (test target : Nat) : (State.startTest s test target).fuse = s.fuse := rfl

@[simp] theorem State.recordTest_fuse (s : State) (test target result ended done : Nat) (since : Nat) (sig : BitVec 64) : (State.recordTest s test target result ended done since sig).fuse = s.fuse := by simp [State.recordTest]

@[simp] theorem State.releaseHeld_fuse (s : State) : (State.releaseHeld s).fuse = s.fuse := rfl

@[simp] theorem State.finishShutdown_fuse (s : State) : (State.finishShutdown s).fuse = s.fuse := by simp [State.finishShutdown]

@[simp] theorem State.abortTest_fuse (s : State) (ended : Nat) : (State.abortTest s ended).fuse = s.fuse := by
  unfold State.abortTest; split <;> simp

@[simp] theorem State.startupExcursion_fuse (s : State) : (State.startupExcursion s).fuse = s.fuse := by simp [State.startupExcursion]

@[simp] theorem State.excursion_fuse (s : State) : (State.excursion s).fuse = s.fuse := by simp [State.excursion]

@[simp] theorem State.failTrial_fuse (s : State) : (State.failTrial s).fuse = s.fuse := by simp [State.failTrial]

@[simp] theorem State.startRestart_fuse (s : State) : (State.startRestart s).fuse = s.fuse := by simp [State.startRestart]

@[simp] theorem State.boot_fuse (s : State) : (State.boot s).fuse = s.fuse := by
  unfold State.boot; split <;> simp

@[simp] theorem State.flushQueue_fuse (s : State) : s.flushQueue.fuse = s.fuse := by
  have h : ∀ s : State, (s.ben.queue.foldl (fun (st : State) e => st.admitLog e) { s with ben := { s.ben with queue := [] } }).fuse = s.fuse :=
    fun s => (foldl_fuse _ (fun _ _ => by simp) _ _).trans rfl
  unfold State.flushQueue; dsimp only; split
  · exact h s
  · simp only [State.raiseEvent_fuse, State.logEntry_fuse]; exact h s

@[simp] theorem State.modBank_fuse (s : State) (b : Nat) (f : StoreBank → StoreBank) : (State.modBank s b f).fuse = s.fuse := rfl

@[simp] theorem State.withdrawWaiting_fuse (s : State) (who : Nat) : (State.withdrawWaiting s who).fuse = s.fuse := rfl

@[simp] theorem State.withdrawGrant_fuse (s : State) (who : Nat) : (State.withdrawGrant s who).fuse = s.fuse := rfl

@[simp] theorem State.stopSlot_fuse (s : State) (e i doneSegs : Nat) : (State.stopSlot s e i doneSegs).fuse = s.fuse := by simp [State.stopSlot]

@[simp] theorem State.bankViolation_fuse (s : State) (e i doneSegs : Nat) : (State.bankViolation s e i doneSegs).fuse = s.fuse := by simp [State.bankViolation]

@[simp] theorem State.enterRequest_fuse (s : State) (a : StoreAsk) : (State.enterRequest s a).fuse = s.fuse := by simp [State.enterRequest]

@[simp] theorem State.granted_fuse (s : State) (q : StoreReq) : (State.granted s q).fuse = s.fuse := by simp [State.granted]

@[simp] theorem State.round_fuse (s : State) (free : Nat → Bool) (b : Nat) : (State.round s free b).1.fuse = s.fuse := by
  unfold State.round; dsimp only; repeat' split
  all_goals simp

@[simp] theorem State.rounds_fuse (free : Nat → Bool) (l : List Nat) : ∀ s : State, (s.rounds free l).1.fuse = s.fuse := by
  induction l with
  | nil => intros; rfl
  | cons b l ih => intro s; simp only [State.rounds]; split <;> simp [ih]

@[simp] theorem State.storeError_fuse (s : State) (b line : Nat) (reader : Option (Nat × Nat × Nat)) : (State.storeError s b line reader).fuse = s.fuse := by
  unfold State.storeError; dsimp only; repeat' split
  all_goals simp

@[simp] theorem State.storeReads_fuse (s : State) (es : List (Nat × Nat × Bool)) : (State.storeReads s es).fuse = s.fuse := by
  unfold State.storeReads
  repeat' (first | rfl | (simp; done) | (refine foldl_fuse _ (fun _ _ => ?_) _ _) | (refine (foldl_fuse _ (fun _ _ => ?_) _ _).trans ?_) | split | (dsimp only; split))

@[simp] theorem State.markedReads_fuse (s : State) : (State.markedReads s).fuse = s.fuse := by
  unfold State.markedReads
  refine foldl_fuse _ (fun _ _ => ?_) _ _
  repeat' split
  all_goals simp

@[simp] theorem State.recordLoad_fuse (s : State) (ls : List EngineLoad) : (State.recordLoad s ls).fuse = s.fuse := by
  unfold State.recordLoad
  repeat' (first | rfl | (simp; done) | (refine foldl_fuse _ (fun _ _ => ?_) _ _) | (refine (foldl_fuse _ (fun _ _ => ?_) _ _).trans ?_) | split | (dsimp only; split))

theorem State.runWhere_fuse {s : State} {tag : BitVec 16} {op : Nat} {p : Capsule → Bool} {body : Request → State → State} (h : ∀ q st, (body q st).fuse = st.fuse) : (s.runWhere tag op p body).fuse = s.fuse := by
  unfold State.runWhere; repeat' (first | rfl | exact State.runRequest_fuse h | split)

@[simp] theorem State.commitStaging_fuse (s : State) (q : Request) : (State.commitStaging s q).fuse = s.fuse := by
  unfold State.commitStaging; split <;> simp

@[simp] theorem State.clearSpare_fuse (s : State) (k : Nat) : (State.clearSpare s k).fuse = s.fuse := by simp [State.clearSpare]

@[simp] theorem State.storeEngCtl_fuse (s : State) (v : Nat) : (State.storeEngCtl s v).fuse = s.fuse := rfl

@[simp] theorem State.hostRepair_fuse (s : State) (e : Nat) : (State.hostRepair s e).1.fuse = s.fuse := by
  unfold State.hostRepair
  repeat' (first | rfl | (simp; done) | (refine foldl_fuse _ (fun _ _ => ?_) _ _) | (refine (foldl_fuse _ (fun _ _ => ?_) _ _).trans ?_) | split | (dsimp only; split))

@[simp] theorem State.endCalItem_fuse (s : State) (item pair code : Nat) (changed : Bool) : (State.endCalItem s item pair code changed).fuse = s.fuse := by
  unfold State.endCalItem; dsimp only; repeat' split
  all_goals simp

@[simp] theorem State.echoSettled_fuse (s : State) (p : Pair) : (State.echoSettled s p).fuse = s.fuse := by simp [State.echoSettled]

@[simp] theorem State.selectDone_fuse (s : State) (p : Pair) : (State.selectDone s p).fuse = s.fuse := by
  unfold State.selectDone; split <;> simp

@[simp] theorem State.pairDetents_fuse (s : State) (go quiet : Bool) (p : Pair) : (State.pairDetents s go quiet p).fuse = s.fuse := by simp [State.pairDetents]

@[simp] theorem State.detents_fuse (s : State) : (State.detents s).fuse = s.fuse := by
  unfold State.detents
  repeat' (first | rfl | (simp; done) | (refine foldl_fuse _ (fun _ _ => ?_) _ _) | (refine (foldl_fuse _ (fun _ _ => ?_) _ _).trans ?_) | split | (dsimp only; split))

@[simp] theorem State.sampleAdc_fuse (s : State) (p : Pair) (age : Nat) (part : Bool) : (State.sampleAdc s p age part).fuse = s.fuse := by simp [State.sampleAdc]

@[simp] theorem State.observeProbe_fuse (s : State) (p : Pair) (age : Nat) (residual : Rat) : (State.observeProbe s p age residual).fuse = s.fuse := by simp [State.observeProbe]

@[simp] theorem State.probe_fuse (s : State) (p : Pair) : (State.probe s p).fuse = s.fuse := by simp [State.probe]

@[simp] theorem State.probes_fuse (s : State) (idle : Bool) : (State.probes s idle).fuse = s.fuse := by
  unfold State.probes
  repeat' (first | rfl | (simp; done) | (refine foldl_fuse _ (fun _ _ => ?_) _ _) | (refine (foldl_fuse _ (fun _ _ => ?_) _ _).trans ?_) | split | (dsimp only; split))

@[simp] theorem State.takeHeld_fuse (s : State) (blob : CalPair → Pair → List Byte → CalPair) : (State.takeHeld s blob).fuse = s.fuse := by
  unfold State.takeHeld; dsimp only; repeat' split
  all_goals simp

@[simp] theorem State.startCal_fuse (s : State) (q : Request) : (State.startCal s q).fuse = s.fuse := by simp [State.startCal]

@[simp] theorem State.trimPair_fuse (s : State) (p : Pair) (f : AdcFound) : (State.trimPair s p f).fuse = s.fuse := by simp [State.trimPair]

@[simp] theorem State.selectPair_fuse (s : State) (p : Pair) (f : AdcFound) : (State.selectPair s p f).fuse = s.fuse := by simp [State.selectPair]

@[simp] theorem State.adcEstimate_fuse (s : State) (p : Pair) : (State.adcEstimate s p).fuse = s.fuse := by simp [State.adcEstimate]

@[simp] theorem State.dacEstimate_fuse (s : State) (p : Pair) : (State.dacEstimate s p).fuse = s.fuse := by simp [State.dacEstimate]

@[simp] theorem State.hybEstimate_fuse (s : State) (p : Pair) : (State.hybEstimate s p).fuse = s.fuse := by simp [State.hybEstimate]

@[simp] theorem State.dielinkEstimate_fuse (s : State) (l : List (Bool × Nat × Nat × Int)) : (s.dielinkEstimate l).fuse = s.fuse := by
  unfold State.dielinkEstimate; split
  · rfl
  · rw [State.endCalItem_fuse]; refine foldl_fuse _ (fun _ _ => ?_) _ _; dsimp only; split <;> simp

@[simp] theorem State.applyBlob_fuse (s : State) (b : List Byte) : (State.applyBlob s b).fuse = s.fuse := rfl

@[simp] theorem State.calTick_fuse (s : State) : (State.calTick s).fuse = s.fuse := by simp [State.calTick]

@[simp] theorem State.beginMsg_fuse (s : State) (kn : Bool) (seq : Nat) : (State.beginMsg s kn seq).fuse = s.fuse := by
  unfold State.beginMsg; dsimp only; split <;> simp

@[simp] theorem State.infoTx_fuse (s : State) (kn : Bool) (seq room : Nat) : (State.infoTx s kn seq room).1.fuse = s.fuse := by
  unfold State.infoTx; dsimp only; repeat' split
  all_goals simp

@[simp] theorem State.pushItem_fuse (s : State) (typ : Nat) (body : List Byte) : (State.pushItem s typ body).fuse = s.fuse := rfl

@[simp] theorem State.pushFrame_fuse (s : State) (f : TxFrame) (dt : Nat) : (State.pushFrame s f dt).fuse = s.fuse := rfl

@[simp] theorem State.pushOam_fuse (s : State) (o : List Byte) : (State.pushOam s o).fuse = s.fuse := by simp [State.pushOam]

@[simp] theorem State.pushIdle_fuse (s : State) : (State.pushIdle s).fuse = s.fuse := rfl

@[simp] theorem State.pushLast_fuse (s : State) (left : Nat) : (State.pushLast s left).fuse = s.fuse := by simp [State.pushLast]

@[simp] theorem State.fillStream_fuse (need : Nat) (total : Option Nat) (idleOnly : Bool) (n : Nat) : ∀ s : State, (s.fillStream need total idleOnly n).fuse = s.fuse := by
  induction n with
  | zero => intros; rfl
  | succ n ih =>
    intro s
    unfold State.fillStream; dsimp only
    repeat' (first | rfl | (rw [ih]; first | rfl | (simp; done)) | split)

@[simp] theorem State.itemSent_fuse (s : State) (x : Leaving) : (State.itemSent s x).fuse = s.fuse := by
  unfold State.itemSent
  repeat' (first | rfl | (simp; done) | (refine foldl_fuse _ (fun _ _ => ?_) _ _) | (refine (foldl_fuse _ (fun _ _ => ?_) _ _).trans ?_) | split | (dsimp only; split))

@[simp] theorem State.takeStream_fuse (s : State) (n : Nat) : (State.takeStream s n).fuse = s.fuse := by
  unfold State.takeStream
  repeat' (first | rfl | (simp; done) | (refine foldl_fuse _ (fun _ _ => ?_) _ _) | (refine (foldl_fuse _ (fun _ _ => ?_) _ _).trans ?_) | split | (dsimp only; split))

@[simp] theorem State.recallStream_fuse (s : State) : (State.recallStream s).fuse = s.fuse := by simp [State.recallStream]

@[simp] theorem State.drivePair_fuse (s : State) (p : Pair) (sym : Option (List Int)) (precode : Bool) : (s.drivePair p sym precode).1.fuse = s.fuse := by
  unfold State.drivePair; split <;> rfl

@[simp] theorem State.drivePairs_fuse (s : State) (precode : Bool) (sym : Pair → Option (List Int)) : (State.drivePairs s precode sym).1.fuse = s.fuse := by simp [State.drivePairs]

@[simp] theorem State.drive_fuse (s : State) (kind : Nat) (precode : Bool) (sym : Pair → Option (List Int)) : (State.drive s kind precode sym).fuse = s.fuse := by simp [State.drive]

@[simp] theorem State.driveBurst_fuse (s : State) (kind lead : Nat) (sym : Pair → List Int) : (State.driveBurst s kind lead sym).fuse = s.fuse := by
  simp only [State.driveBurst, State.emit_fuse]
  exact State.drivePairs_fuse s false _

@[simp] theorem State.loopback_fuse (s : State) : (State.loopback s).fuse = s.fuse := by simp [State.loopback]

@[simp] theorem State.silent_fuse (s : State) : (State.silent s).fuse = s.fuse := rfl

@[simp] theorem State.statusStep_fuse (s : State) (seq : Nat) : (State.statusStep s seq).fuse = s.fuse := rfl

@[simp] theorem State.sendData_fuse (s : State) (idleOnly : Bool) (room : Nat) : (State.sendData s idleOnly room).fuse = s.fuse := by simp [State.sendData]

@[simp] theorem State.sendTraining_fuse (s : State) (phase : Nat) (frt : Bool) : (State.sendTraining s phase frt).fuse = s.fuse := by
  unfold State.sendTraining; dsimp only; repeat' split
  all_goals simp

@[simp] theorem State.sendRefresh_fuse (s : State) : s.sendRefresh.fuse = s.fuse := by
  unfold State.sendRefresh; dsimp only; rw [State.modRun_fuse, State.drive_fuse]

@[simp] theorem State.sendStandard_fuse (s : State) : (State.sendStandard s).fuse = s.fuse := by
  unfold State.sendStandard
  repeat' (first | rfl | (simp; done) | (refine foldl_fuse _ (fun _ _ => ?_) _ _) | (refine (foldl_fuse _ (fun _ _ => ?_) _ _).trans ?_) | split | (dsimp only; split))

@[simp] theorem State.sendQuiet_fuse (s : State) : s.sendQuiet.fuse = s.fuse := by
  unfold State.sendQuiet; dsimp only
  split
  · simp only [State.modQlCnt_fuse, State.modQl_fuse, State.modRun_fuse, State.silent_fuse, State.drive_fuse]
  · simp only [State.ite_fuse, State.modQlCnt_fuse, State.modQl_fuse, State.sendRefresh_fuse, State.sendData_fuse, ite_self]
  · simp only [State.ite_fuse, State.modQl_fuse, State.modRun_fuse, State.silent_fuse, State.sendData_fuse, ite_self]
  · simp only [State.sendData_fuse]

@[simp] theorem State.leaveQuiet_fuse (s : State) : (State.leaveQuiet s).fuse = s.fuse := by simp [State.leaveQuiet]

@[simp] theorem State.quietBank_fuse (s0 : State) : (State.quietBank s0).fuse = s0.fuse := by simp [State.quietBank]

@[simp] theorem State.idleTick_fuse (s : State) : (State.idleTick s).fuse = s.fuse := by simp [State.idleTick]

@[simp] theorem State.txPeriod_fuse (s : State) : s.txPeriod.fuse = s.fuse := by
  unfold State.txPeriod
  repeat' split
  all_goals (first | rfl | (simp; done) | exact (foldl_fuse _ (fun st p => State.probe_fuse st p) _ _).trans (State.loopback_fuse s))

@[simp] theorem State.enterPeriod_fuse (s : State) (adc : Quad (List Int)) : (State.enterPeriod s adc).fuse = s.fuse := by simp [State.enterPeriod]

@[simp] theorem State.acquireGain_fuse (s : State) : (State.acquireGain s).fuse = s.fuse := by simp [State.acquireGain]

@[simp] theorem State.trainIn_fuse (s : State) : (State.trainIn s).fuse = s.fuse := by simp [State.trainIn]

@[simp] theorem State.loopbackIn_fuse (s : State) : (State.loopbackIn s).fuse = s.fuse := by
  unfold State.loopbackIn
  repeat' (first | rfl | (simp; done) | (refine foldl_fuse _ (fun _ _ => ?_) _ _) | (refine (foldl_fuse _ (fun _ _ => ?_) _ _).trans ?_) | split | (dsimp only; split))

@[simp] theorem State.modTrain_fuse (s : State) (f : Train → Train) : (State.modTrain s f).fuse = s.fuse := rfl

@[simp] theorem State.messageIn_fuse (s : State) (kn : Bool) (slices : List (Option Nat)) (seq : Nat) : (State.messageIn s kn slices seq).fuse = s.fuse := by
  unfold State.messageIn; split <;> simp

@[simp] theorem State.dropPartial_fuse (s : State) : (State.dropPartial s).fuse = s.fuse := by
  unfold State.dropPartial; split <;> simp

@[simp] theorem State.sliceIn_fuse (s : State) (kn : Bool) (seq : Nat) (info : Option Nat) : (State.sliceIn s kn seq info).fuse = s.fuse := by
  unfold State.sliceIn; dsimp only; repeat' split
  all_goals simp

@[simp] theorem State.popMsg_fuse (s : State) : (State.popMsg s).fuse = s.fuse := rfl

@[simp] theorem State.ackMessage_fuse (s : State) (m : Nat) (nak : Bool) : (State.ackMessage s m nak).fuse = s.fuse := rfl

theorem State.onMessage_fuse {s : State} {typ : Nat} {ap : Nat → Nat → State → State × Bool} (h : ∀ m q st, (ap m q st).1.fuse = st.fuse) : (s.onMessage typ ap).fuse = s.fuse := by
  unfold State.onMessage; repeat' (first | rfl | (simp [h]; done) | split)

@[simp] theorem State.applySwitch_fuse (s : State) (x : Switch) : (State.applySwitch s x).fuse = s.fuse := by simp [State.applySwitch]

@[simp] theorem State.storeShapeCtl_fuse (s : State) (v : Nat) : (State.storeShapeCtl s v).fuse = s.fuse := by simp [State.storeShapeCtl]

@[simp] theorem State.storeFir_fuse (s : State) (p : Pair) (bs : List Byte) : (State.storeFir s p bs).fuse = s.fuse := by simp [State.storeFir]

@[simp] theorem State.storeMask_fuse (s : State) (bs : List Byte) : (State.storeMask s bs).fuse = s.fuse := by simp [State.storeMask]

@[simp] theorem State.headerIn_fuse (s : State) (kn : Bool) (h : Nat) : (State.headerIn s kn h).fuse = s.fuse := by simp [State.headerIn]

@[simp] theorem State.discard_fuse (s : State) (f : LcCounters → LcCounters) : (State.discard s f).fuse = s.fuse := by simp [State.discard]

@[simp] theorem State.finishItem_fuse (s : State) : (State.finishItem s).fuse = s.fuse := by
  unfold State.finishItem; split <;> simp

@[simp] theorem State.enterSearch_fuse (s : State) : (State.enterSearch s).fuse = s.fuse := rfl

@[simp] theorem State.beginItem_fuse (s : State) (tag : List (Option Byte)) (stamp : Nat) : (State.beginItem s tag stamp).fuse = s.fuse := by
  unfold State.beginItem; dsimp only; repeat' split
  all_goals simp

@[simp] theorem State.deframe_fuse (g : Nat → Nat) (n : Nat) : ∀ (off : Nat) (bs : List (Option Byte)) (s : State), (State.deframe g n off bs s).fuse = s.fuse := by
  induction n with
  | zero => intro off bs s; cases bs <;> rfl
  | succ n ih => intro off bs s; cases bs <;> simp only [State.deframe] <;> repeat' (first | rfl | (simp [ih]; done) | split)

@[simp] theorem State.overrule_fuse (s : State) (bs : List (Option Byte)) : (State.overrule s bs).fuse = s.fuse := by
  unfold State.overrule; dsimp only; repeat' split
  all_goals simp

@[simp] theorem State.resumeAt_fuse (s : State) (at' : Nat → Nat) (first : Nat) (bs : List (Option Byte)) : (State.resumeAt s at' first bs).fuse = s.fuse := by simp [State.resumeAt]

@[simp] theorem State.payloadIn_fuse (s : State) (at' : Nat → Nat) (bs : List (Option Byte)) (first : Option Nat) : (State.payloadIn s at' bs first).fuse = s.fuse := by
  unfold State.payloadIn; split <;> simp

@[simp] theorem State.takeRxForm_fuse (s : State) (kn : Bool) : (State.takeRxForm s kn).fuse = s.fuse := by simp [State.takeRxForm]

@[simp] theorem State.calPeriod_fuse (s : State) (f : Front) (part : Pair → Bool) : (State.calPeriod s f part).fuse = s.fuse := by
  unfold State.calPeriod
  repeat' (first | rfl | (simp; done) | (refine foldl_fuse _ (fun _ _ => ?_) _ _) | (refine (foldl_fuse _ (fun _ _ => ?_) _ _).trans ?_) | split | (dsimp only; split))

@[simp] theorem State.learnPeriod_fuse (s : State) (f : Front) (ws : Quad WordOut) (adapt : Bool) (order : List Pair) : (State.learnPeriod s f ws adapt order).fuse = s.fuse := by simp [State.learnPeriod]

@[simp] theorem State.dataIn_fuse (s : State) (adapt : Bool) : (s.dataIn adapt).fuse = s.fuse := by
  unfold State.dataIn; dsimp only
  rw [State.payloadIn_fuse]
  split <;> simp <;> split <;> simp [State.takeRxForm]

@[simp] theorem State.nextRx_fuse (s : State) : (State.nextRx s).fuse = s.fuse := rfl

@[simp] theorem State.judgeQuiet_fuse (s : State) : (State.judgeQuiet s).fuse = s.fuse := by simp [State.judgeQuiet]

@[simp] theorem State.gapChain_fuse (s : State) : (State.gapChain s).fuse = s.fuse := by simp [State.gapChain]

@[simp] theorem State.holdPhase_fuse (s : State) : (State.holdPhase s).fuse = s.fuse := by simp [State.holdPhase]

@[simp] theorem State.farQuiet_fuse (s : State) : (State.farQuiet s).fuse = s.fuse := by simp [State.farQuiet]

@[simp] theorem State.restPeriod_fuse (s : State) : (State.restPeriod s).fuse = s.fuse := by
  unfold State.restPeriod
  repeat' (first | rfl | (simp; done) | (refine foldl_fuse _ (fun _ _ => ?_) _ _) | (refine (foldl_fuse _ (fun _ _ => ?_) _ _).trans ?_) | split | (dsimp only; split))

@[simp] theorem State.contentIn_fuse (s : State) (content : Bool) : (State.contentIn s content).fuse = s.fuse := by simp [State.contentIn]

@[simp] theorem State.endFarWindow_fuse (s : State) : (State.endFarWindow s).fuse = s.fuse := by simp [State.endFarWindow]

@[simp] theorem State.quietIn_fuse (s : State) : (State.quietIn s).fuse = s.fuse := by simp [State.quietIn]

@[simp] theorem State.settleIn_fuse (s : State) : (State.settleIn s).fuse = s.fuse := by
  unfold State.settleIn; dsimp only; repeat' split
  all_goals simp

@[simp] theorem State.rxAwake_fuse (s : State) (cause : Nat) : (State.rxAwake s cause).fuse = s.fuse := by simp [State.rxAwake]

@[simp] theorem State.listenIn_fuse (s : State) : (State.listenIn s).fuse = s.fuse := by
  unfold State.listenIn; dsimp only; repeat' split
  all_goals simp

@[simp] theorem State.takePeriod_fuse (s : State) : (State.takePeriod s).fuse = s.fuse := by simp [State.takePeriod]

@[simp] theorem State.countData_fuse (s : State) : (State.countData s).fuse = s.fuse := by simp [State.countData]

@[simp] theorem State.nativeIn_fuse (s : State) : (State.nativeIn s).fuse = s.fuse := by
  unfold State.nativeIn; dsimp only; repeat' split
  all_goals simp

@[simp] theorem State.stdCodeword_fuse (s : State) (w : StdCodeword) : (State.stdCodeword s w).fuse = s.fuse := by simp [State.stdCodeword]

@[simp] theorem State.stdFrameIn_fuse (s : State) (f : StdFrame) : (State.stdFrameIn s f).fuse = s.fuse := by simp [State.stdFrameIn]

@[simp] theorem State.standardIn_fuse (s : State) (d : DecodeIn) : (State.standardIn s d).fuse = s.fuse := by
  unfold State.standardIn
  repeat' (first | rfl | (simp; done) | (refine foldl_fuse _ (fun _ _ => ?_) _ _) | (refine (foldl_fuse _ (fun _ _ => ?_) _ _).trans ?_) | split | (dsimp only; split))

@[simp] theorem State.trip_fuse (s : State) (cause : Nat) (who : BitVec 4) : (State.trip s cause who).fuse = s.fuse := by simp [State.trip]

@[simp] theorem State.recordDrift_fuse (s : State) : (State.recordDrift s).fuse = s.fuse := by simp [State.recordDrift]

@[simp] theorem State.storeRxCtl_fuse (s : State) (v : Nat) : (State.storeRxCtl s v).fuse = s.fuse := rfl

@[simp] theorem State.burstIn_fuse (s : State) : (State.burstIn s).fuse = s.fuse := rfl

@[simp] theorem State.recordPartner_fuse (s : State) (r : Option Rung) : (State.recordPartner s r).fuse = s.fuse := rfl

@[simp] theorem State.beginTraining_fuse (s : State) (r : Rung) (slave : Bool) : (State.beginTraining s r slave).fuse = s.fuse := by simp [State.beginTraining]

@[simp] theorem State.takeRole_fuse (s : State) (r : Rung) (x : Bool ⊕ Bool) : (State.takeRole s r x).fuse = s.fuse := by
  unfold State.takeRole
  repeat' (first | rfl | (simp; done) | (refine foldl_fuse _ (fun _ _ => ?_) _ _) | (refine (foldl_fuse _ (fun _ _ => ?_) _ _).trans ?_) | split | (dsimp only; split))

@[simp] theorem State.freshRx_fuse (s : State) : (State.freshRx s).fuse = s.fuse := by simp [State.freshRx]

@[simp] theorem State.wordIn_fuse (s : State) (v : Nat) : (State.wordIn s v).fuse = s.fuse := by simp [State.wordIn]

@[simp] theorem State.wordBad_fuse (s : State) : (State.wordBad s).fuse = s.fuse := by
  unfold State.wordBad; split <;> simp

@[simp] theorem State.pairWord_fuse (s : State) (w : BitVec 64) : (State.pairWord s w).fuse = s.fuse := by simp [State.pairWord]

@[simp] theorem State.nextPhase_fuse (s : State) : (State.nextPhase s).fuse = s.fuse := rfl

@[simp] theorem State.freshTx_fuse (s : State) : (State.freshTx s).fuse = s.fuse := rfl

@[simp] theorem State.reachData_fuse (s : State) (e : PhaseEnd) : (State.reachData s e).fuse = s.fuse := by simp [State.reachData]

@[simp] theorem State.yieldFullTest_fuse (s : State) (ok : Bool) : (State.yieldFullTest s ok).fuse = s.fuse := by simp [State.yieldFullTest]

@[simp] theorem State.hostTrain_fuse (s : State) : (State.hostTrain s).fuse = s.fuse := by simp [State.hostTrain]

@[simp] theorem State.storeLinkCtl_fuse (s : State) (v : Nat) : (State.storeLinkCtl s v).fuse = s.fuse := by simp [State.storeLinkCtl]

@[simp] theorem State.eraseLane_fuse (s : State) (frame logical lanes : Nat) : (State.eraseLane s frame logical lanes).fuse = s.fuse := by
  unfold State.eraseLane; dsimp only; repeat' split
  all_goals simp

@[simp] theorem State.doubtLane_fuse (s : State) (frame logical lanes : Nat) : (State.doubtLane s frame logical lanes).fuse = s.fuse := by
  unfold State.doubtLane; dsimp only; repeat' split
  all_goals simp

@[simp] theorem State.replaceAtExit_fuse (s : State) (inb : Bool) (lane : Nat) : (State.replaceAtExit s inb lane).fuse = s.fuse := by
  unfold State.replaceAtExit; dsimp only; repeat' split
  all_goals simp

@[simp] theorem State.storeDormantCtl_fuse (s : State) (v : Nat) : (State.storeDormantCtl s v).fuse = s.fuse := by simp [State.storeDormantCtl]

@[simp] theorem State.withPart_fuse (s : State) (k : RxInstant) : (State.withPart s k).fuse = s.fuse := by simp [State.withPart]

@[simp] theorem State.modRec_fuse (s : State) (f : Reception → Reception) : (State.modRec s f).fuse = s.fuse := rfl

@[simp] theorem State.startGain_fuse (s : State) (k : RxInstant) : (State.startGain s k).fuse = s.fuse := by simp [State.startGain]

@[simp] theorem State.freezeGain_fuse (s : State) (k : RxInstant) (back : Nat) : (State.freezeGain s k back).fuse = s.fuse := by simp [State.freezeGain]

@[simp] theorem State.holdReception_fuse (s : State) : (State.holdReception s).fuse = s.fuse := by simp [State.holdReception]

@[simp] theorem State.endReception_fuse (s : State) (r : Reception) (result : Nat) : (State.endReception s r result).fuse = s.fuse := by simp [State.endReception]

@[simp] theorem State.abandon_fuse (s : State) (r : Reception) (result : Nat) : (State.abandon s r result).fuse = s.fuse := by simp [State.abandon]

@[simp] theorem State.latchAt_fuse (s : State) (k : RxInstant) (back : Nat) (who : BitVec 4) (rho : Nat) (r : Reception) : (State.latchAt s k back who rho r).fuse = s.fuse := by simp [State.latchAt]

@[simp] theorem State.freezeAfc_fuse (s : State) (f : Int) : (State.freezeAfc s f).fuse = s.fuse := by simp [State.freezeAfc]

@[simp] theorem State.acceptSync_fuse (s : State) (k : RxInstant) (r : Reception) : (State.acceptSync s k r).fuse = s.fuse := by simp [State.acceptSync]

@[simp] theorem State.falseWake_fuse (s : State) (r : Reception) (result : Nat) : (State.falseWake s r result).fuse = s.fuse := by simp [State.falseWake]

@[simp] theorem State.captureAt_fuse (s : State) (k : RxInstant) (r : Reception) : (State.captureAt s k r).fuse = s.fuse := by simp [State.captureAt]

@[simp] theorem State.awake_fuse (s : State) : (State.awake s).fuse = s.fuse := by simp [State.awake]

@[simp] theorem State.legacyWake_fuse (s : State) : (State.legacyWake s).fuse = s.fuse := by
  unfold State.legacyWake; dsimp only; repeat' split
  all_goals simp

@[simp] theorem State.huntStep_fuse (s : State) (dac : Nat) : (State.huntStep s dac).fuse = s.fuse := by
  unfold State.huntStep; dsimp only; repeat' split
  all_goals simp

@[simp] theorem State.storeQlCtl_fuse (s : State) (v : Nat) : (State.storeQlCtl s v).fuse = s.fuse := by simp [State.storeQlCtl]

@[simp] theorem State.storeLegacyCtl_fuse (s : State) (v : Nat) : (State.storeLegacyCtl s v).fuse = s.fuse := rfl

@[simp] theorem State.beginPairTraining_fuse (s : State) (partner : Bool) : (State.beginPairTraining s partner).fuse = s.fuse := by simp [State.beginPairTraining]

@[simp] theorem State.answerKnuckle_fuse (s : State) (p : Pair) : (State.answerKnuckle s p).fuse = s.fuse := rfl

@[simp] theorem State.dropRequest_fuse (s : State) (st : Status) : (State.dropRequest s st).fuse = s.fuse := by simp [State.dropRequest]

@[simp] theorem State.refuseShed_fuse (s : State) : (State.refuseShed s).fuse = s.fuse := by simp [State.refuseShed]

@[simp] theorem State.storeKnCtl_fuse (s : State) (v : Nat) : (State.storeKnCtl s v).fuse = s.fuse := rfl

@[simp] theorem State.modDiag_fuse (s : State) (f : Diag → Diag) : (State.modDiag s f).fuse = s.fuse := rfl

@[simp] theorem State.askQuiet_fuse (s : State) (blocks : Nat) : (State.askQuiet s blocks).fuse = s.fuse := by simp [State.askQuiet]

@[simp] theorem State.startDiag_fuse (s : State) (q : Request) : (State.startDiag s q).fuse = s.fuse := by simp [State.startDiag]

@[simp] theorem State.endMeasurement_fuse (s : State) (r : DiagRun) (k result : Nat) : (State.endMeasurement s r k result).fuse = s.fuse := by simp [State.endMeasurement]

@[simp] theorem State.settleDiag_fuse (s : State) : (State.settleDiag s).fuse = s.fuse := by
  unfold State.settleDiag; split <;> simp

theorem State.onOam_fuse {s : State} {typ : Nat} {act : List Byte → State → State} (h : ∀ x st, (act x st).fuse = st.fuse) : (s.onOam typ act).fuse = s.fuse := by
  unfold State.onOam; dsimp only; repeat' (first | rfl | (rw [h]; done) | split)

@[simp] theorem State.storeDiagCtl_fuse (s : State) (v : Nat) : (State.storeDiagCtl s v).fuse = s.fuse := rfl

@[simp] theorem State.modMon_fuse (s : State) (f : Monitor → Monitor) : (State.modMon s f).fuse = s.fuse := rfl

@[simp] theorem State.storeAlarms_fuse (s : State) (bs : List Byte) : (State.storeAlarms s bs).fuse = s.fuse := rfl

@[simp] theorem State.alarmChange_fuse (s : State) (i : Nat) (a : Alarm) (set : Bool) (p : Pair) : (State.alarmChange s i a set p).fuse = s.fuse := by simp [State.alarmChange]

@[simp] theorem State.evalAlarm_fuse (s : State) (i : Nat) : (State.evalAlarm s i).fuse = s.fuse := by
  unfold State.evalAlarm; dsimp only; repeat' split
  all_goals simp

@[simp] theorem State.evaluate_fuse (s : State) : (State.evaluate s).fuse = s.fuse := by
  unfold State.evaluate
  repeat' (first | rfl | (simp; done) | (refine foldl_fuse _ (fun _ _ => ?_) _ _) | (refine (foldl_fuse _ (fun _ _ => ?_) _ _).trans ?_) | split | (dsimp only; split))

@[simp] theorem State.storeMonCtl_fuse (s : State) (v : Nat) : (State.storeMonCtl s v).fuse = s.fuse := rfl

@[simp] theorem State.putOther_fuse (s : State) (x : FwSlot) : (State.putOther s x).fuse = s.fuse := rfl

@[simp] theorem State.resumeRun_fuse (s : State) (q : Request) : (State.resumeRun s q).fuse = s.fuse := by
  unfold State.resumeRun; split <;> simp

@[simp] theorem State.limitLog_fuse (s : State) (field sev value limit sensor : Nat) : (State.limitLog s field sev value limit sensor).fuse = s.fuse := by simp [State.limitLog]

@[simp] theorem State.supplyChange_fuse (s : State) (i : Nat) (critical begins : Bool) (v : Nat) : (State.supplyChange s i critical begins v).fuse = s.fuse := by simp [State.supplyChange]

@[simp] theorem State.judgeSupply_fuse (s : State) (critical : Bool) (i v : Nat) : (State.judgeSupply s critical i v).fuse = s.fuse := by simp [State.judgeSupply]

@[simp] theorem State.judgeTemps_fuse (s : State) : (State.judgeTemps s).fuse = s.fuse := by simp [State.judgeTemps]

@[simp] theorem State.agingAct_fuse (s : State) (m e : Nat) : (State.agingAct s m e).fuse = s.fuse := by simp [State.agingAct]

@[simp] theorem State.measureAging_fuse (s : State) (m reading element : Nat) : (State.measureAging s m reading element).fuse = s.fuse := by simp [State.measureAging]

@[simp] theorem State.nvmError_fuse (s : State) (a : NvmArea) : (State.nvmError s a).fuse = s.fuse := by simp [State.nvmError]

@[simp] theorem State.storeMgmtCtl_fuse (s : State) (v : Nat) : (State.storeMgmtCtl s v).fuse = s.fuse := rfl

@[simp] theorem State.signalRing_fuse (s : State) (i : Nat) : (State.signalRing s i).fuse = s.fuse := by simp [State.signalRing]

@[simp] theorem State.freeStaging_fuse (s : State) (i : Nat) : (State.freeStaging s i).fuse = s.fuse := rfl

@[simp] theorem State.forgetWritten_fuse (s : State) (i : Nat) : (State.forgetWritten s i).fuse = s.fuse := rfl

@[simp] theorem State.haltRing_fuse (s : State) (i code : Nat) : (State.haltRing s i code).fuse = s.fuse := by simp [State.haltRing]

@[simp] theorem State.refuseCapsule_fuse (s : State) (i : Nat) (c : Capsule) (st : Status) : (State.refuseCapsule s i c st).fuse = s.fuse := by simp [State.refuseCapsule]

@[simp] theorem State.takeRequest_fuse (s : State) (c : Capsule) : (State.takeRequest s c).fuse = s.fuse := by simp [State.takeRequest]

@[simp] theorem State.takeTurn_fuse (s : State) (i n : Nat) : (State.takeTurn s i n).fuse = s.fuse := rfl

@[simp] theorem State.queueFrames_fuse (i : Nat) (a : Accepted) (l : List (List Byte)) : ∀ s : State, (s.queueFrames i a l).1.fuse = s.fuse := by
  induction l with
  | nil => intros; rfl
  | cons x l ih => intro s; simp only [State.queueFrames]; split <;> simp [ih]

@[simp] theorem State.sendCapsule_fuse (s : State) (i : Nat) (a : Accepted) : (State.sendCapsule s i a).fuse = s.fuse := by simp [State.sendCapsule]

@[simp] theorem State.writeEvent_fuse (s : State) (v : BitVec 32) : (State.writeEvent s v).fuse = s.fuse := by simp [State.writeEvent]

@[simp] theorem State.writeEventEn_fuse (s : State) (v : BitVec 32) : (State.writeEventEn s v).fuse = s.fuse := by simp [State.writeEventEn]

@[simp] theorem State.writeNme_fuse (s : State) (v : BitVec 32) : (State.writeNme s v).fuse = s.fuse := by simp [State.writeNme]

@[simp] theorem State.writeStateAddr_fuse (s : State) (v : BitVec 64) : (State.writeStateAddr s v).fuse = s.fuse := rfl

@[simp] theorem State.writeWindow_fuse (s : State) (w off : Nat) (wide : Bool) (v : BitVec 64) : (State.writeWindow s w off wide v).fuse = s.fuse := rfl

@[simp] theorem State.enableRing_fuse (s : State) (i v : Nat) : (State.enableRing s i v).fuse = s.fuse := by simp [State.enableRing]

@[simp] theorem State.stopRing_fuse (s : State) (i : Nat) : (State.stopRing s i).fuse = s.fuse := by simp [State.stopRing]

@[simp] theorem State.disableRing_fuse (s : State) (i v : Nat) : (State.disableRing s i v).fuse = s.fuse := by simp [State.disableRing]

@[simp] theorem State.badDoorbell_fuse (s : State) (i : Nat) : (State.badDoorbell s i).fuse = s.fuse := by simp [State.badDoorbell]

@[simp] theorem State.writeSqTail_fuse (s : State) (i : Nat) (v : BitVec 32) : (State.writeSqTail s i v).fuse = s.fuse := by simp [State.writeSqTail]

@[simp] theorem State.writeCqHead_fuse (s : State) (i : Nat) (v : BitVec 32) : (State.writeCqHead s i v).fuse = s.fuse := by simp [State.writeCqHead]

@[simp] theorem State.resetRing_fuse (s : State) (i : Nat) : (State.resetRing s i).fuse = s.fuse := by simp [State.resetRing]

@[simp] theorem State.writeRingReg_fuse (s : State) (i off : Nat) (wide : Bool) (v : BitVec 64) : (State.writeRingReg s i off wide v).fuse = s.fuse := by simp [State.writeRingReg]

@[simp] theorem State.writeMsix_fuse (s : State) (off : Nat) (wide : Bool) (v : BitVec 64) : (State.writeMsix s off wide v).fuse = s.fuse := by simp [State.writeMsix]

@[simp] theorem State.wakeAssert_fuse (s : State) : (State.wakeAssert s).fuse = s.fuse := rfl

@[simp] theorem State.keywayRise_fuse (s : State) : (State.keywayRise s).fuse = s.fuse := by simp [State.keywayRise]

@[simp] theorem State.writeCapsule_fuse (s : State) (r : Ring) (pos : BitVec 32) (c : Completion) : (State.writeCapsule s r pos c).fuse = s.fuse := by
  unfold State.writeCapsule
  repeat' (first | rfl | (simp; done) | (refine foldl_fuse _ (fun _ _ => ?_) _ _) | (refine (foldl_fuse _ (fun _ _ => ?_) _ _).trans ?_) | split | (dsimp only; split))

@[simp] theorem State.placeNotice_fuse (s : State) (i : Nat) : (State.placeNotice s i).fuse = s.fuse := rfl

@[simp] theorem State.dropRing_fuse (s : State) (f : Nat) : (State.dropRing s f).fuse = s.fuse := rfl

@[simp] theorem State.holdFrame_fuse (s : State) (f : Nat) (x : RxFrame) : (State.holdFrame s f x).fuse = s.fuse := by simp [State.holdFrame]

@[simp] theorem State.overflow_fuse (s : State) : (State.overflow s).fuse = s.fuse := by simp [State.overflow]

@[simp] theorem State.deliver_fuse (s : State) (c : Class) (x : RxFrame) (held : Bool) : (State.deliver s c x held).1.fuse = s.fuse := by
  unfold State.deliver; dsimp only; repeat' split
  all_goals simp

@[simp] theorem State.noSpace_fuse (s : State) (i : Nat) : (State.noSpace s i).fuse = s.fuse := rfl

@[simp] theorem State.dropFrame_fuse (s : State) : (State.dropFrame s).fuse = s.fuse := rfl

@[simp] theorem State.checkUnverified_fuse (s : State) (f : Nat) (x : RxFrame) : (State.checkUnverified s f x).1.fuse = s.fuse := by
  unfold State.checkUnverified; dsimp only; split <;> simp

@[simp] theorem State.classifyEarly_fuse (s : State) : (State.classifyEarly s).fuse = s.fuse := by
  unfold State.classifyEarly; split <;> simp

@[simp] theorem State.dropKeys_fuse (s : State) (f : Nat) : (State.dropKeys s f).fuse = s.fuse := by simp [State.dropKeys]

@[simp] theorem State.dropHeld_fuse (s : State) (f : Nat) : (State.dropHeld s f).fuse = s.fuse := rfl

@[simp] theorem State.signed_fuse (s : State) (code : Nat) (body : List Byte) : (State.signed s code body).fuse = s.fuse := rfl

@[simp] theorem State.answer_fuse (s : State) (m : WardMsg) (code : Nat) (st : Status) : (State.answer s m code st).fuse = s.fuse := rfl

@[simp] theorem State.refuseKey_fuse (s : State) (m : WardMsg) (st : Status) : (State.refuseKey s m st).fuse = s.fuse := by simp [State.refuseKey]

theorem State.message_fuse {s : State} {m : WardMsg} {code : Nat} {key latchOk : Bool} {form : Checks} {body : Session → State → State} (h : ∀ x st, (body x st).fuse = st.fuse) : (s.message m code key latchOk form body).fuse = s.fuse := by
  unfold State.message; dsimp only; repeat' (first | rfl | (simp [h]; done) | split)

@[simp] theorem State.storeHaspCfg_fuse (s : State) (cfg : BitVec 32) : (State.storeHaspCfg s cfg).fuse = s.fuse := by simp [State.storeHaspCfg]

@[simp] theorem State.reloadKeys_fuse (s : State) : (State.reloadKeys s).fuse = s.fuse := rfl

@[simp] theorem State.zeroize_fuse (s : State) : (State.zeroize s).fuse = s.fuse := by simp [State.zeroize]

@[simp] theorem State.actOnTrip_fuse (s : State) (i : Nat) : (State.actOnTrip s i).fuse = s.fuse := by simp [State.actOnTrip]

@[simp] theorem State.tripSensor_fuse (s : State) (i : Nat) : (State.tripSensor s i).fuse = s.fuse := by simp [State.tripSensor]

@[simp] theorem State.storeWardCtl_fuse (s : State) (v : Nat) : (State.storeWardCtl s v).fuse = s.fuse := by simp [State.storeWardCtl]

@[simp] theorem State.modClk_fuse (s : State) (f : Clock → Clock) : (State.modClk s f).fuse = s.fuse := rfl

@[simp] theorem State.loseLock_fuse (s : State) : (State.loseLock s).fuse = s.fuse := by simp [State.loseLock]

@[simp] theorem State.switchTo_fuse (s : State) (i : Nat) : (State.switchTo s i).fuse = s.fuse := by simp [State.switchTo]

@[simp] theorem State.holdOver_fuse (s : State) : (State.holdOver s).fuse = s.fuse := by simp [State.holdOver]

@[simp] theorem State.replaceRef_fuse (s : State) : (State.replaceRef s).fuse = s.fuse := by
  unfold State.replaceRef; dsimp only; split <;> simp

@[simp] theorem State.sourceFailed_fuse (s : State) (i : Nat) : (State.sourceFailed s i).fuse = s.fuse := by simp [State.sourceFailed]

@[simp] theorem State.isoFails_fuse (s : State) : (State.isoFails s).fuse = s.fuse := by simp [State.isoFails]

@[simp] theorem State.takeWindow_fuse (s : State) (w : ClockWindow) : (State.takeWindow s w).fuse = s.fuse := rfl

@[simp] theorem State.sourceStable_fuse (s : State) (i : Nat) : (State.sourceStable s i).fuse = s.fuse := by simp [State.sourceStable]

@[simp] theorem State.trackMl1_fuse (s : State) : (State.trackMl1 s).fuse = s.fuse := by simp [State.trackMl1]

@[simp] theorem State.storeClkCtl_fuse (s : State) (v : Nat) : (State.storeClkCtl s v).fuse = s.fuse := by
  unfold State.storeClkCtl; dsimp only; split <;> simp

@[simp] theorem State.modGate_fuse (s : State) (f : Gates → Gates) : (State.modGate s f).fuse = s.fuse := rfl

@[simp] theorem State.hostGatesDone_fuse (s : State) : (State.hostGatesDone s).fuse = s.fuse := by simp [State.hostGatesDone]

@[simp] theorem State.storeGateCtl_fuse (s : State) (q : Request) (v : Nat) : (State.storeGateCtl s q v).fuse = s.fuse := by simp [State.storeGateCtl]

@[simp] theorem State.clearUnits_fuse (s : State) : (State.clearUnits s).fuse = s.fuse := rfl

@[simp] theorem State.powerOff_fuse (s : State) : (State.powerOff s).fuse = s.fuse := rfl

@[simp] theorem State.warmClear_fuse (s : State) (cause : Nat) : (State.warmClear s cause).fuse = s.fuse := rfl

@[simp] theorem State.coreClear_fuse (s : State) (cause : Nat) : (State.coreClear s cause).fuse = s.fuse := rfl

@[simp] theorem State.trimStart_fuse (s : State) : (State.trimStart s).fuse = s.fuse := by simp [State.trimStart]

@[simp] theorem State.startUp_fuse (s : State) : (State.startUp s).fuse = s.fuse := by simp [State.startUp]

@[simp] theorem State.warmStart_fuse (s : State) (cause : Nat) : (State.warmStart s cause).fuse = s.fuse := rfl

@[simp] theorem State.warmEnd_fuse (s : State) (bootSel : Bool) (smbAddr : BitVec 2) : (State.warmEnd s bootSel smbAddr).fuse = s.fuse := by simp [State.warmEnd]

@[simp] theorem State.warmReset_fuse (s : State) (cause : Nat) : (State.warmReset s cause).fuse = s.fuse := by simp [State.warmReset]

@[simp] theorem State.coreReset_fuse (s : State) (cause : Nat) : (State.coreReset s cause).fuse = s.fuse := by simp [State.coreReset]

@[simp] theorem State.writeFpReset_fuse (s : State) (v : BitVec 32) : (State.writeFpReset s v).fuse = s.fuse := by simp [State.writeFpReset]

@[simp] theorem State.dropStream_fuse (s : State) : (State.dropStream s).fuse = s.fuse := by
  unfold State.dropStream
  repeat' (first | rfl | (simp; done) | (refine foldl_fuse _ (fun _ _ => ?_) _ _) | (refine (foldl_fuse _ (fun _ _ => ?_) _ _).trans ?_) | split | (dsimp only; split))

@[simp] theorem State.perstRing_fuse (s : State) (i : Nat) : (State.perstRing s i).fuse = s.fuse := by
  unfold State.perstRing
  repeat' (first | rfl | (simp; done) | (refine foldl_fuse _ (fun _ _ => ?_) _ _) | (refine (foldl_fuse _ (fun _ _ => ?_) _ _).trans ?_) | split | (dsimp only; split))

@[simp] theorem State.perstControl_fuse (s : State) : (State.perstControl s).fuse = s.fuse := by
  unfold State.perstControl
  repeat' (first | rfl | (simp; done) | (refine foldl_fuse _ (fun _ _ => ?_) _ _) | (refine (foldl_fuse _ (fun _ _ => ?_) _ _).trans ?_) | split | (dsimp only; split))

@[simp] theorem State.cxlReset_fuse (s : State) (l : List Nat) : (s.cxlReset l).fuse = s.fuse := by
  unfold State.cxlReset; dsimp only
  rw [State.endSessions_fuse, State.perstControl_fuse]; exact (foldl_fuse _ (fun _ _ => by simp) _ _).trans rfl

@[simp] theorem State.forgetXin_fuse (s : State) : (State.forgetXin s).fuse = s.fuse := rfl

@[simp] theorem State.keepRead_fuse (s : State) (r : ObjectRow) : (State.keepRead s r).fuse = s.fuse := by simp [State.keepRead]

@[simp] theorem State.writeEngCtl_fuse (s : State) (v : Nat) : (s.writeEngCtl v).1.fuse = s.fuse := by
  unfold State.writeEngCtl; split
  · dsimp only; split <;> simp
  · simp

@[simp] theorem State.writeCalCtl_fuse (s : State) (v : Nat) : (State.writeCalCtl s v).fuse = s.fuse := by simp [State.writeCalCtl]

@[simp] theorem State.clearAlarms_fuse (s : State) (v : Nat) : (State.clearAlarms s v).fuse = s.fuse := rfl

@[simp] theorem State.storeObject_fuse (s : State) (id v : Nat) (bs : List Byte) : (State.storeObject s id v bs).1.fuse = s.fuse := by
  unfold State.storeObject; split <;> simp

@[simp] theorem State.setParam_fuse (s : State) (q : Request) : (s.setParam q).fuse = s.fuse := by
  unfold State.setParam; exact State.guarded_fuse (fun st => by dsimp only; split <;> simp)

@[simp] theorem State.setParamOf_fuse (s : State) (tag : BitVec 16) (p : Nat → Nat → Bool) : (s.setParamOf tag p).fuse = s.fuse := by
  unfold State.setParamOf; repeat' (first | rfl | exact State.runRequest_fuse (fun _ _ => by simp) | split)

@[simp] theorem State.timeOut_fuse (s : State) (q : Request) : (State.timeOut s q).fuse = s.fuse := by
  unfold State.timeOut; split <;> simp

@[simp] theorem State.skipEpoch_fuse (s : State) : (State.skipEpoch s).fuse = s.fuse := rfl

@[simp] theorem State.beginPage_fuse (s : State) : (State.beginPage s).fuse = s.fuse := by simp [State.beginPage]

@[simp] theorem State.writeRegister_fuse (s : State) (bar off : Nat) (wide : Bool) (v : BitVec 64) : (s.writeRegister bar off wide v).fuse = s.fuse := by
  unfold State.writeRegister
  by_cases h1 : (bar = 0 && off = 0xF0 && aligned off wide) = true
  · rw [if_pos h1]; simp
  · rw [if_neg h1]
    by_cases h2 : (!s.fpLive || !aligned off wide) = true
    · rw [if_pos h2]
    · rw [if_neg h2]
      split
      · simp only [State.ite_fuse, State.writeEvent_fuse, State.writeEventEn_fuse, State.writeNme_fuse, State.writeRingReg_fuse, State.writeStateAddr_fuse, State.setFp_fuse, State.writeWindow_fuse, State.writeSqTail_fuse, State.writeCqHead_fuse, State.resetRing_fuse, State.writeMsix_fuse, ite_self]
      · by_cases h3 : ringExists (off / 4096) = true
        · rw [if_pos h3]; split <;> simp only [State.ite_fuse, State.writeEvent_fuse, State.writeEventEn_fuse, State.writeNme_fuse, State.writeRingReg_fuse, State.writeStateAddr_fuse, State.setFp_fuse, State.writeWindow_fuse, State.writeSqTail_fuse, State.writeCqHead_fuse, State.resetRing_fuse, State.writeMsix_fuse, ite_self]
        · rw [if_neg h3]
      · simp only [State.ite_fuse, State.writeEvent_fuse, State.writeEventEn_fuse, State.writeNme_fuse, State.writeRingReg_fuse, State.writeStateAddr_fuse, State.setFp_fuse, State.writeWindow_fuse, State.writeSqTail_fuse, State.writeCqHead_fuse, State.resetRing_fuse, State.writeMsix_fuse, ite_self]
      · rfl

@[simp] theorem State.smbAnswer_fuse (s : State) (a : Nat) (pec : Bool) (code : Nat) (bs : List Byte) : (State.smbAnswer s a pec code bs).fuse = s.fuse := by simp [State.smbAnswer]

@[simp] theorem State.tick_fuse (s : State) : (State.tick s).fuse = s.fuse := by simp [State.tick]

@[simp] theorem State.withFetchWord_fuse (s : State) (nbits w : Nat) : (State.withFetchWord s nbits w).fuse = s.fuse := rfl

/-! ### The queue -/

/-- A fold of steps that keep the field keeps it. -/
theorem foldl_pending {α : Type} (f : State → α → State) (h : ∀ st x, (f st x).pending = st.pending) (l : List α) (s : State) : (l.foldl f s).pending = s.pending := by
  induction l generalizing s with
  | nil => rfl
  | cons a t ih => exact (ih (f s a)).trans (h s a)

@[simp] theorem State.writeLines_pending (n : Nat) : ∀ (s : State) (a : Nat) (bs : List Byte), (s.writeLines a n bs).pending = s.pending := by
  induction n with
  | zero => intros; rfl
  | succ n ih => intro s a bs; simp only [State.writeLines]; rw [ih]; simp

theorem State.runRequest_pending {s : State} {tag : BitVec 16} {op : Nat} {body : Request → State → State} (h : ∀ q st, (body q st).pending = st.pending) : (s.runRequest tag op body).pending = s.pending := by
  unfold State.runRequest; repeat' (first | rfl | (simp [h]; done) | split)

theorem State.guarded_pending {s : State} {q : Request} {cs : List (Bool × Status)} {rs : List (Nat × Nat)} {go : State → State} (h : ∀ st, (go st).pending = st.pending) : (s.guarded q cs rs go).pending = s.pending := by
  unfold State.guarded; split <;> simp [h]

@[simp] theorem State.putSlot_pending (s : State) (a k : Nat) (x : SaSlot) : (State.putSlot s a k x).pending = s.pending := rfl

@[simp] theorem State.advance_pending (s : State) (a : Nat) : (State.advance s a).1.pending = s.pending := by
  unfold State.advance; dsimp only; repeat' split
  all_goals simp

@[simp] theorem State.rotatePn_pending (s : State) (a rotate pn : Nat) : (State.rotatePn s a rotate pn).pending = s.pending := by simp [State.rotatePn]

@[simp] theorem State.installSlot_pending (s : State) (a an : Nat) (sak salt ssci : List Byte) : (State.installSlot s a an sak salt ssci).pending = s.pending := rfl

@[simp] theorem State.eraseSlots_pending (s : State) (a : Nat) : (State.eraseSlots s a).pending = s.pending := rfl

@[simp] theorem State.endSessions_pending (s : State) : (State.endSessions s).pending = s.pending := by simp [State.endSessions]

@[simp] theorem State.protectWith_pending (s : State) (a : Nat) (txSci : List Byte) (sc conf : Bool) (rotate : Nat) (bs : List Byte) : (State.protectWith s a txSci sc conf rotate bs).1.pending = s.pending := by
  unfold State.protectWith; dsimp only; repeat' split
  all_goals simp

@[simp] theorem State.wardTransmit_pending (s : State) (f : Nat) (assoc bs : List Byte) : (State.wardTransmit s f assoc bs).1.pending = s.pending := by
  unfold State.wardTransmit
  repeat' (first | rfl | (simp; done) | (refine foldl_pending _ (fun _ _ => ?_) _ _) | (refine (foldl_pending _ (fun _ _ => ?_) _ _).trans ?_) | split | (dsimp only; split))

@[simp] theorem State.receiveWith_pending (s : State) (a validate : Nat) (conf : Bool) (replay : Nat) (bs : List Byte) : (State.receiveWith s a validate conf replay bs).1.pending = s.pending := by
  unfold State.receiveWith; dsimp only; repeat' split
  all_goals simp

@[simp] theorem State.wardPass_pending (s : State) (x : RxFrame) : (State.wardPass s x).pending = s.pending := rfl

@[simp] theorem State.wardDiscard_pending (s : State) (x : RxFrame) (text : Option (List Byte)) : (State.wardDiscard s x text).pending = s.pending := by simp [State.wardDiscard]

@[simp] theorem State.predictShape_pending (s : State) : (State.predictShape s).pending = s.pending := by simp [State.predictShape]

@[simp] theorem State.shapeTraining_pending (s : State) (m : Rung) : (State.shapeTraining s m).pending = s.pending := by simp [State.shapeTraining]

@[simp] theorem State.storeShape_pending (s : State) (f : Shape → Shape) : (State.storeShape s f).pending = s.pending := by simp [State.storeShape]

@[simp] theorem State.modEngine_pending (s : State) (e : Nat) (f : Engine → Engine) : (State.modEngine s e f).pending = s.pending := rfl

@[simp] theorem State.modEng_pending (s : State) (f : Engines → Engines) : (State.modEng s f).pending = s.pending := rfl

@[simp] theorem State.gateEngines_pending (s : State) : (State.gateEngines s).pending = s.pending := rfl

@[simp] theorem State.openEngines_pending (s : State) : (State.openEngines s).pending = s.pending := by simp [State.openEngines]

@[simp] theorem State.loadFirst_pending (s : State) : (State.loadFirst s).pending = s.pending := by simp [State.loadFirst]

@[simp] theorem State.finishRepair_pending (s : State) : (State.finishRepair s).pending = s.pending := by
  unfold State.finishRepair; split <;> simp

@[simp] theorem State.retireIdle_pending (s : State) (e cause : Nat) : (State.retireIdle s e cause).pending = s.pending := by simp [State.retireIdle]

@[simp] theorem State.retireFailing_pending (s : State) : (State.retireFailing s).pending = s.pending := by
  unfold State.retireFailing
  repeat' (first | rfl | (simp; done) | (refine foldl_pending _ (fun _ _ => ?_) _ _) | (refine (foldl_pending _ (fun _ _ => ?_) _ _).trans ?_) | split | (dsimp only; split))

@[simp] theorem State.openStaging_pending (s : State) (host : Bool) : (State.openStaging s host).pending = s.pending := by simp [State.openStaging]

@[simp] theorem State.commitProfile_pending (s : State) (p : Profile) : (State.commitProfile s p).pending = s.pending := by simp [State.commitProfile]

@[simp] theorem State.stageMove_pending (s : State) (src dst : Nat) : (State.stageMove s src dst).1.pending = s.pending := by
  unfold State.stageMove; dsimp only; split <;> simp

@[simp] theorem State.stageRepair_pending (s : State) (r : Repair) : (State.stageRepair s r).pending = s.pending := by simp [State.stageRepair]

@[simp] theorem State.openWaiting_pending (s : State) : (State.openWaiting s).pending = s.pending := by
  unfold State.openWaiting; dsimp only; repeat' split
  all_goals simp

@[simp] theorem State.afterSwitch_pending (s : State) : (State.afterSwitch s).pending = s.pending := by
  unfold State.afterSwitch
  repeat' (first | rfl | (simp; done) | (refine foldl_pending _ (fun _ _ => ?_) _ _) | (refine (foldl_pending _ (fun _ _ => ?_) _ _).trans ?_) | split | (dsimp only; split))

@[simp] theorem State.bankSwitch_pending (s : State) : (State.bankSwitch s).pending = s.pending := by
  unfold State.bankSwitch; dsimp only; repeat' split
  all_goals simp

@[simp] theorem State.supersede_pending (s : State) : (State.supersede s).pending = s.pending := rfl

@[simp] theorem State.abandonRepair_pending (s : State) : (State.abandonRepair s).pending = s.pending := by
  unfold State.abandonRepair; split <;> simp

@[simp] theorem State.repairCause_pending (s : State) (e cause : Nat) (auto : Bool) : (State.repairCause s e cause auto).pending = s.pending := by simp [State.repairCause]

@[simp] theorem State.agingRepair_pending (s : State) (e : Nat) : (State.agingRepair s e).pending = s.pending := by simp [State.agingRepair]

@[simp] theorem State.modRx_pending (s : State) (p : Pair) (f : RxPair → RxPair) : (State.modRx s p f).pending = s.pending := rfl

@[simp] theorem State.lateBlock_pending (s : State) (task : Nat) (p : Pair) (a b : Nat) : (State.lateBlock s task p a b).pending = s.pending := by
  unfold State.lateBlock
  repeat' (first | rfl | (simp; done) | (refine foldl_pending _ (fun _ _ => ?_) _ _) | (refine (foldl_pending _ (fun _ _ => ?_) _ _).trans ?_) | split | (dsimp only; split))

@[simp] theorem State.lateSlot_pending (s : State) (e i doneSegs : Nat) : (State.lateSlot s e i doneSegs).pending = s.pending := by simp [State.lateSlot]

@[simp] theorem State.loadNew_pending (s : State) (es : List Nat) : (s.loadNew es).pending = s.pending := by
  have h : (es.foldl (fun st e => st.modEngine e (fun x => { x with newProg := true })) s).pending = s.pending := foldl_pending _ (fun _ _ => by simp) _ _
  unfold State.loadNew; dsimp only; split
  · exact h
  · simp; exact h

@[simp] theorem State.finishSwap_pending (s : State) : (State.finishSwap s).pending = s.pending := by simp [State.finishSwap]

@[simp] theorem State.modRun_pending (s : State) (f : LcRun → LcRun) : (State.modRun s f).pending = s.pending := rfl

@[simp] theorem State.setStatus_pending (s : State) (i v : Nat) : (State.setStatus s i v).pending = s.pending := rfl

@[simp] theorem State.modQl_pending (s : State) (f : QlRun → QlRun) : (State.modQl s f).pending = s.pending := rfl

@[simp] theorem State.modQlCnt_pending (s : State) (f : QlCounters → QlCounters) : (State.modQlCnt s f).pending = s.pending := rfl

@[simp] theorem State.withdrawQuiet_pending (s : State) : (State.withdrawQuiet s).pending = s.pending := by simp [State.withdrawQuiet]

@[simp] theorem State.wakeCause_pending (s : State) (n : Nat) : (State.wakeCause s n).pending = s.pending := by simp [State.wakeCause]

@[simp] theorem State.restoreReception_pending (s : State) : (State.restoreReception s).pending = s.pending := rfl

@[simp] theorem State.askRetrain_pending (s : State) : (State.askRetrain s).pending = s.pending := by simp [State.askRetrain]

@[simp] theorem State.modCal_pending (s : State) (p : Pair) (f : CalPair → CalPair) : (State.modCal s p f).pending = s.pending := rfl

@[simp] theorem State.lanePhases_pending (s : State) (frames : Nat) : (State.lanePhases s frames).pending = s.pending := by simp [State.lanePhases]

@[simp] theorem State.loadTrim_pending (s : State) : (State.loadTrim s).pending = s.pending := by simp [State.loadTrim]

@[simp] theorem State.revert_pending (s : State) : (State.revert s).pending = s.pending := rfl

@[simp] theorem State.restartEstimates_pending (s : State) : (State.restartEstimates s).pending = s.pending := by simp [State.restartEstimates]

@[simp] theorem State.modLink_pending (s : State) (f : Link → Link) : (State.modLink s f).pending = s.pending := rfl

@[simp] theorem State.modLinkCnt_pending (s : State) (f : LinkCounters → LinkCounters) : (State.modLinkCnt s f).pending = s.pending := rfl

@[simp] theorem State.modLc_pending (s : State) (f : LcCounters → LcCounters) : (State.modLc s f).pending = s.pending := rfl

@[simp] theorem State.ladderReset_pending (s : State) : (State.ladderReset s).pending = s.pending := rfl

@[simp] theorem State.askLadderReset_pending (s : State) : (State.askLadderReset s).pending = s.pending := by simp [State.askLadderReset]

@[simp] theorem State.ladderStep_pending (s : State) (rung : Rung) : (State.ladderStep s rung).pending = s.pending := by
  unfold State.ladderStep; dsimp only; repeat' split
  all_goals simp

@[simp] theorem State.dropTx_pending (s : State) : (State.dropTx s).pending = s.pending := by
  unfold State.dropTx
  repeat' (first | rfl | (simp; done) | (refine foldl_pending _ (fun _ _ => ?_) _ _) | (refine (foldl_pending _ (fun _ _ => ?_) _ _).trans ?_) | split | (dsimp only; split))

@[simp] theorem State.heldRevert_pending (s : State) : (State.heldRevert s).pending = s.pending := by simp [State.heldRevert]

@[simp] theorem State.finishCal_pending (s : State) : (State.finishCal s).pending = s.pending := by
  unfold State.finishCal; split <;> simp

@[simp] theorem State.endCalItems_pending (s : State) (code : Nat) (which : Nat → Bool) : (State.endCalItems s code which).pending = s.pending := by
  unfold State.endCalItems; split <;> simp

@[simp] theorem State.calLinkChange_pending (s : State) : (State.calLinkChange s).pending = s.pending := by simp [State.calLinkChange]

@[simp] theorem State.sendOam_pending (s : State) (typ : Nat) (body : List Byte) : (State.sendOam s typ body).pending = s.pending := by simp [State.sendOam]

@[simp] theorem State.sendQuietReq_pending (s : State) (p : Pair) (action ms : Nat) : (State.sendQuietReq s p action ms).pending = s.pending := by simp [State.sendQuietReq]

@[simp] theorem State.sendQuietAck_pending (s : State) (p : Pair) (action result : Nat) : (State.sendQuietAck s p action result).pending = s.pending := by simp [State.sendQuietAck]

@[simp] theorem State.finishDiag_pending (s : State) (st : Status) : (State.finishDiag s st).pending = s.pending := by
  unfold State.finishDiag; split <;> simp

@[simp] theorem State.endDiagTests_pending (s : State) (code : Nat) (st : Status) : (State.endDiagTests s code st).pending = s.pending := by
  unfold State.endDiagTests; split <;> simp

@[simp] theorem State.interruptDiagRun_pending (s : State) : (State.interruptDiagRun s).pending = s.pending := by simp [State.interruptDiagRun]

@[simp] theorem State.interruptDiag_pending (s : State) (_q : Request) : (State.interruptDiag s _q).pending = s.pending := by simp [State.interruptDiag]

@[simp] theorem State.resumeCalibration_pending (s : State) : (State.resumeCalibration s).pending = s.pending := by simp [State.resumeCalibration]

@[simp] theorem State.endKnuckle_pending (s : State) (st : Status) : (State.endKnuckle s st).pending = s.pending := by
  unfold State.endKnuckle; split <;> simp

@[simp] theorem State.modKn_pending (s : State) (f : KnRun → KnRun) : (State.modKn s f).pending = s.pending := rfl

@[simp] theorem State.formsChanged_pending (s : State) : (State.formsChanged s).pending = s.pending := by simp [State.formsChanged]

@[simp] theorem State.knuckleSettled_pending (s : State) : (State.knuckleSettled s).pending = s.pending := by simp [State.knuckleSettled]

@[simp] theorem State.dropItem_pending (s : State) : (State.dropItem s).pending = s.pending := by
  unfold State.dropItem; dsimp only; repeat' split
  all_goals simp

@[simp] theorem State.lineDown_pending (s : State) (retrain : Status) : (State.lineDown s retrain).pending = s.pending := by simp [State.lineDown]

@[simp] theorem State.recordFailure_pending (s : State) (cause : Nat) (counted quiet : Bool) : (State.recordFailure s cause counted quiet).pending = s.pending := by simp [State.recordFailure]

@[simp] theorem State.enter_pending (s : State) (n : Nat) : (State.enter s n).pending = s.pending := rfl

@[simp] theorem State.linkFail_pending (s : State) (cause : Nat) (retrain : Status := .notReady) (silent : Bool := false) : (State.linkFail s cause retrain silent).pending = s.pending := by simp [State.linkFail]

@[simp] theorem State.linkDown_pending (s : State) (cause : Nat) : (State.linkDown s cause).pending = s.pending := by simp [State.linkDown]

@[simp] theorem State.adminDown_pending (s : State) : (State.adminDown s).pending = s.pending := by simp [State.adminDown]

@[simp] theorem State.dielinkFall_pending (s : State) : (State.dielinkFall s).pending = s.pending := by simp [State.dielinkFall]

@[simp] theorem State.leaveDormant_pending (s : State) : (State.leaveDormant s).pending = s.pending := by simp [State.leaveDormant]

@[simp] theorem State.dueReset_pending (s : State) : (State.dueReset s).pending = s.pending := by simp [State.dueReset]

@[simp] theorem State.startNegotiation_pending (s : State) : (State.startNegotiation s).pending = s.pending := by simp [State.startNegotiation]

@[simp] theorem State.beginNegotiation_pending (s : State) : (State.beginNegotiation s).pending = s.pending := by
  unfold State.beginNegotiation; dsimp only; split
  · rfl
  · rw [State.endRun_pending, foldl_pending _ (fun st e => State.emit_pending st e), State.drawn_pending, State.modLink_pending, State.modLink_pending, State.dueReset_pending]

@[simp] theorem State.enterData_pending (s : State) : (State.enterData s).pending = s.pending := by simp [State.enterData]

@[simp] theorem State.restartCycle_pending (s : State) : (State.restartCycle s).pending = s.pending := by simp [State.restartCycle]

@[simp] theorem State.startTraining_pending (s : State) (m : Rung) (n : Nat) : (State.startTraining s m n).pending = s.pending := by simp [State.startTraining]

@[simp] theorem State.requestRetrain_pending (s : State) : (State.requestRetrain s).pending = s.pending := by simp [State.requestRetrain]

@[simp] theorem State.stopBackground_pending (s : State) (test target : Nat) : (State.stopBackground s test target).pending = s.pending := by simp [State.stopBackground]

@[simp] theorem State.retireElement_pending (s : State) (test target : Nat) : (State.retireElement s test target).pending = s.pending := by simp [State.retireElement]

@[simp] theorem State.modDir_pending (s : State) (inb : Bool) (f : DlDir → DlDir) : (State.modDir s inb f).pending = s.pending := rfl

@[simp] theorem State.laneToSpare_pending (s : State) (t : Nat) : (State.laneToSpare s t).pending = s.pending := rfl

@[simp] theorem State.sliceUnfit_pending (s : State) (p e : Nat) : (State.sliceUnfit s p e).pending = s.pending := rfl

@[simp] theorem State.noteReduced_pending (s : State) (inb was : Bool) : (State.noteReduced s inb was).pending = s.pending := by simp [State.noteReduced]

@[simp] theorem State.reduceMap_pending (s : State) (inb : Bool) (bad : Nat) : (State.reduceMap s inb bad).pending = s.pending := by simp [State.reduceMap]

@[simp] theorem State.substitute_pending (s : State) (inb : Bool) (lane cause : Nat) : (State.substitute s inb lane cause).pending = s.pending := by
  unfold State.substitute; dsimp only; repeat' split
  all_goals simp

@[simp] theorem State.nextSubst_pending (inb : Bool) (n : Nat) : ∀ s : State, (s.nextSubst inb n).pending = s.pending := by
  induction n with
  | zero => intros; rfl
  | succ n ih => intro s; simp only [State.nextSubst]; split <;> (try split) <;> simp [ih]

@[simp] theorem State.laneCause_pending (s : State) (inb : Bool) (lane cause : Nat) : (State.laneCause s inb lane cause).pending = s.pending := by simp [State.laneCause]

@[simp] theorem State.startSearch_pending (s : State) : (State.startSearch s).pending = s.pending := by simp [State.startSearch]

@[simp] theorem State.retireFailed_pending (s : State) (e : StartUpEnd) : (State.retireFailed s e).pending = s.pending := by
  unfold State.retireFailed
  repeat' (first | rfl | (simp; done) | (refine foldl_pending _ (fun _ _ => ?_) _ _) | (refine (foldl_pending _ (fun _ _ => ?_) _ _).trans ?_) | split | (dsimp only; split))

@[simp] theorem State.runGain_pending (s : State) (adc : Quad (List Int)) : (State.runGain s adc).pending = s.pending := by simp [State.runGain]

@[simp] theorem State.reestimate_pending (s : State) (p : Pair) : (State.reestimate s p).pending = s.pending := by simp [State.reestimate]

@[simp] theorem State.snapshotPair_pending (s : State) (p : Pair) : (State.snapshotPair s p).pending = s.pending := by simp [State.snapshotPair]

@[simp] theorem State.takeSnapshot_pending (s : State) : (State.takeSnapshot s).pending = s.pending := by
  unfold State.takeSnapshot
  repeat' (first | rfl | (simp; done) | (refine foldl_pending _ (fun _ _ => ?_) _ _) | (refine (foldl_pending _ (fun _ _ => ?_) _ _).trans ?_) | split | (dsimp only; split))

@[simp] theorem State.defer_pending (s : State) (q : Request) (test : Nat) : (State.defer s q test).pending = s.pending := by simp [State.defer]

@[simp] theorem State.startTest_pending (s : State) (test target : Nat) : (State.startTest s test target).pending = s.pending := rfl

@[simp] theorem State.recordTest_pending (s : State) (test target result ended done : Nat) (since : Nat) (sig : BitVec 64) : (State.recordTest s test target result ended done since sig).pending = s.pending := by simp [State.recordTest]

@[simp] theorem State.releaseHeld_pending (s : State) : (State.releaseHeld s).pending = s.pending := rfl

@[simp] theorem State.finishShutdown_pending (s : State) : (State.finishShutdown s).pending = s.pending := by simp [State.finishShutdown]

@[simp] theorem State.abortTest_pending (s : State) (ended : Nat) : (State.abortTest s ended).pending = s.pending := by
  unfold State.abortTest; split <;> simp

@[simp] theorem State.startupExcursion_pending (s : State) : (State.startupExcursion s).pending = s.pending := by simp [State.startupExcursion]

@[simp] theorem State.excursion_pending (s : State) : (State.excursion s).pending = s.pending := by simp [State.excursion]

@[simp] theorem State.failTrial_pending (s : State) : (State.failTrial s).pending = s.pending := by simp [State.failTrial]

@[simp] theorem State.startRestart_pending (s : State) : (State.startRestart s).pending = s.pending := by simp [State.startRestart]

@[simp] theorem State.boot_pending (s : State) : (State.boot s).pending = s.pending := by
  unfold State.boot; split <;> simp

@[simp] theorem State.flushQueue_pending (s : State) : s.flushQueue.pending = s.pending := by
  have h : ∀ s : State, (s.ben.queue.foldl (fun (st : State) e => st.admitLog e) { s with ben := { s.ben with queue := [] } }).pending = s.pending :=
    fun s => (foldl_pending _ (fun _ _ => by simp) _ _).trans rfl
  unfold State.flushQueue; dsimp only; split
  · exact h s
  · simp only [State.raiseEvent_pending, State.logEntry_pending]; exact h s

@[simp] theorem State.modBank_pending (s : State) (b : Nat) (f : StoreBank → StoreBank) : (State.modBank s b f).pending = s.pending := rfl

@[simp] theorem State.withdrawWaiting_pending (s : State) (who : Nat) : (State.withdrawWaiting s who).pending = s.pending := rfl

@[simp] theorem State.withdrawGrant_pending (s : State) (who : Nat) : (State.withdrawGrant s who).pending = s.pending := rfl

@[simp] theorem State.stopSlot_pending (s : State) (e i doneSegs : Nat) : (State.stopSlot s e i doneSegs).pending = s.pending := by simp [State.stopSlot]

@[simp] theorem State.bankViolation_pending (s : State) (e i doneSegs : Nat) : (State.bankViolation s e i doneSegs).pending = s.pending := by simp [State.bankViolation]

@[simp] theorem State.enterRequest_pending (s : State) (a : StoreAsk) : (State.enterRequest s a).pending = s.pending := by simp [State.enterRequest]

@[simp] theorem State.granted_pending (s : State) (q : StoreReq) : (State.granted s q).pending = s.pending := by simp [State.granted]

@[simp] theorem State.round_pending (s : State) (free : Nat → Bool) (b : Nat) : (State.round s free b).1.pending = s.pending := by
  unfold State.round; dsimp only; repeat' split
  all_goals simp

@[simp] theorem State.rounds_pending (free : Nat → Bool) (l : List Nat) : ∀ s : State, (s.rounds free l).1.pending = s.pending := by
  induction l with
  | nil => intros; rfl
  | cons b l ih => intro s; simp only [State.rounds]; split <;> simp [ih]

@[simp] theorem State.storeError_pending (s : State) (b line : Nat) (reader : Option (Nat × Nat × Nat)) : (State.storeError s b line reader).pending = s.pending := by
  unfold State.storeError; dsimp only; repeat' split
  all_goals simp

@[simp] theorem State.storeReads_pending (s : State) (es : List (Nat × Nat × Bool)) : (State.storeReads s es).pending = s.pending := by
  unfold State.storeReads
  repeat' (first | rfl | (simp; done) | (refine foldl_pending _ (fun _ _ => ?_) _ _) | (refine (foldl_pending _ (fun _ _ => ?_) _ _).trans ?_) | split | (dsimp only; split))

@[simp] theorem State.markedReads_pending (s : State) : (State.markedReads s).pending = s.pending := by
  unfold State.markedReads
  refine foldl_pending _ (fun _ _ => ?_) _ _
  repeat' split
  all_goals simp

@[simp] theorem State.recordLoad_pending (s : State) (ls : List EngineLoad) : (State.recordLoad s ls).pending = s.pending := by
  unfold State.recordLoad
  repeat' (first | rfl | (simp; done) | (refine foldl_pending _ (fun _ _ => ?_) _ _) | (refine (foldl_pending _ (fun _ _ => ?_) _ _).trans ?_) | split | (dsimp only; split))

theorem State.runWhere_pending {s : State} {tag : BitVec 16} {op : Nat} {p : Capsule → Bool} {body : Request → State → State} (h : ∀ q st, (body q st).pending = st.pending) : (s.runWhere tag op p body).pending = s.pending := by
  unfold State.runWhere; repeat' (first | rfl | exact State.runRequest_pending h | split)

@[simp] theorem State.commitStaging_pending (s : State) (q : Request) : (State.commitStaging s q).pending = s.pending := by
  unfold State.commitStaging; split <;> simp

@[simp] theorem State.clearSpare_pending (s : State) (k : Nat) : (State.clearSpare s k).pending = s.pending := by simp [State.clearSpare]

@[simp] theorem State.storeEngCtl_pending (s : State) (v : Nat) : (State.storeEngCtl s v).pending = s.pending := rfl

@[simp] theorem State.hostRepair_pending (s : State) (e : Nat) : (State.hostRepair s e).1.pending = s.pending := by
  unfold State.hostRepair
  repeat' (first | rfl | (simp; done) | (refine foldl_pending _ (fun _ _ => ?_) _ _) | (refine (foldl_pending _ (fun _ _ => ?_) _ _).trans ?_) | split | (dsimp only; split))

@[simp] theorem State.endCalItem_pending (s : State) (item pair code : Nat) (changed : Bool) : (State.endCalItem s item pair code changed).pending = s.pending := by
  unfold State.endCalItem; dsimp only; repeat' split
  all_goals simp

@[simp] theorem State.echoSettled_pending (s : State) (p : Pair) : (State.echoSettled s p).pending = s.pending := by simp [State.echoSettled]

@[simp] theorem State.selectDone_pending (s : State) (p : Pair) : (State.selectDone s p).pending = s.pending := by
  unfold State.selectDone; split <;> simp

@[simp] theorem State.pairDetents_pending (s : State) (go quiet : Bool) (p : Pair) : (State.pairDetents s go quiet p).pending = s.pending := by simp [State.pairDetents]

@[simp] theorem State.detents_pending (s : State) : (State.detents s).pending = s.pending := by
  unfold State.detents
  repeat' (first | rfl | (simp; done) | (refine foldl_pending _ (fun _ _ => ?_) _ _) | (refine (foldl_pending _ (fun _ _ => ?_) _ _).trans ?_) | split | (dsimp only; split))

@[simp] theorem State.sampleAdc_pending (s : State) (p : Pair) (age : Nat) (part : Bool) : (State.sampleAdc s p age part).pending = s.pending := by simp [State.sampleAdc]

@[simp] theorem State.observeProbe_pending (s : State) (p : Pair) (age : Nat) (residual : Rat) : (State.observeProbe s p age residual).pending = s.pending := by simp [State.observeProbe]

@[simp] theorem State.probe_pending (s : State) (p : Pair) : (State.probe s p).pending = s.pending := by simp [State.probe]

@[simp] theorem State.probes_pending (s : State) (idle : Bool) : (State.probes s idle).pending = s.pending := by
  unfold State.probes
  repeat' (first | rfl | (simp; done) | (refine foldl_pending _ (fun _ _ => ?_) _ _) | (refine (foldl_pending _ (fun _ _ => ?_) _ _).trans ?_) | split | (dsimp only; split))

@[simp] theorem State.takeHeld_pending (s : State) (blob : CalPair → Pair → List Byte → CalPair) : (State.takeHeld s blob).pending = s.pending := by
  unfold State.takeHeld; dsimp only; repeat' split
  all_goals simp

@[simp] theorem State.startCal_pending (s : State) (q : Request) : (State.startCal s q).pending = s.pending := by simp [State.startCal]

@[simp] theorem State.trimPair_pending (s : State) (p : Pair) (f : AdcFound) : (State.trimPair s p f).pending = s.pending := by simp [State.trimPair]

@[simp] theorem State.selectPair_pending (s : State) (p : Pair) (f : AdcFound) : (State.selectPair s p f).pending = s.pending := by simp [State.selectPair]

@[simp] theorem State.adcEstimate_pending (s : State) (p : Pair) : (State.adcEstimate s p).pending = s.pending := by simp [State.adcEstimate]

@[simp] theorem State.dacEstimate_pending (s : State) (p : Pair) : (State.dacEstimate s p).pending = s.pending := by simp [State.dacEstimate]

@[simp] theorem State.hybEstimate_pending (s : State) (p : Pair) : (State.hybEstimate s p).pending = s.pending := by simp [State.hybEstimate]

@[simp] theorem State.dielinkEstimate_pending (s : State) (l : List (Bool × Nat × Nat × Int)) : (s.dielinkEstimate l).pending = s.pending := by
  unfold State.dielinkEstimate; split
  · rfl
  · rw [State.endCalItem_pending]; refine foldl_pending _ (fun _ _ => ?_) _ _; dsimp only; split <;> simp

@[simp] theorem State.applyBlob_pending (s : State) (b : List Byte) : (State.applyBlob s b).pending = s.pending := rfl

@[simp] theorem State.calTick_pending (s : State) : (State.calTick s).pending = s.pending := by simp [State.calTick]

@[simp] theorem State.beginMsg_pending (s : State) (kn : Bool) (seq : Nat) : (State.beginMsg s kn seq).pending = s.pending := by
  unfold State.beginMsg; dsimp only; split <;> simp

@[simp] theorem State.infoTx_pending (s : State) (kn : Bool) (seq room : Nat) : (State.infoTx s kn seq room).1.pending = s.pending := by
  unfold State.infoTx; dsimp only; repeat' split
  all_goals simp

@[simp] theorem State.pushItem_pending (s : State) (typ : Nat) (body : List Byte) : (State.pushItem s typ body).pending = s.pending := rfl

@[simp] theorem State.pushFrame_pending (s : State) (f : TxFrame) (dt : Nat) : (State.pushFrame s f dt).pending = s.pending := rfl

@[simp] theorem State.pushOam_pending (s : State) (o : List Byte) : (State.pushOam s o).pending = s.pending := by simp [State.pushOam]

@[simp] theorem State.pushIdle_pending (s : State) : (State.pushIdle s).pending = s.pending := rfl

@[simp] theorem State.pushLast_pending (s : State) (left : Nat) : (State.pushLast s left).pending = s.pending := by simp [State.pushLast]

@[simp] theorem State.fillStream_pending (need : Nat) (total : Option Nat) (idleOnly : Bool) (n : Nat) : ∀ s : State, (s.fillStream need total idleOnly n).pending = s.pending := by
  induction n with
  | zero => intros; rfl
  | succ n ih =>
    intro s
    unfold State.fillStream; dsimp only
    repeat' (first | rfl | (rw [ih]; first | rfl | (simp; done)) | split)

@[simp] theorem State.itemSent_pending (s : State) (x : Leaving) : (State.itemSent s x).pending = s.pending := by
  unfold State.itemSent
  repeat' (first | rfl | (simp; done) | (refine foldl_pending _ (fun _ _ => ?_) _ _) | (refine (foldl_pending _ (fun _ _ => ?_) _ _).trans ?_) | split | (dsimp only; split))

@[simp] theorem State.takeStream_pending (s : State) (n : Nat) : (State.takeStream s n).pending = s.pending := by
  unfold State.takeStream
  repeat' (first | rfl | (simp; done) | (refine foldl_pending _ (fun _ _ => ?_) _ _) | (refine (foldl_pending _ (fun _ _ => ?_) _ _).trans ?_) | split | (dsimp only; split))

@[simp] theorem State.recallStream_pending (s : State) : (State.recallStream s).pending = s.pending := by simp [State.recallStream]

@[simp] theorem State.drivePair_pending (s : State) (p : Pair) (sym : Option (List Int)) (precode : Bool) : (s.drivePair p sym precode).1.pending = s.pending := by
  unfold State.drivePair; split <;> rfl

@[simp] theorem State.drivePairs_pending (s : State) (precode : Bool) (sym : Pair → Option (List Int)) : (State.drivePairs s precode sym).1.pending = s.pending := by simp [State.drivePairs]

@[simp] theorem State.drive_pending (s : State) (kind : Nat) (precode : Bool) (sym : Pair → Option (List Int)) : (State.drive s kind precode sym).pending = s.pending := by simp [State.drive]

@[simp] theorem State.driveBurst_pending (s : State) (kind lead : Nat) (sym : Pair → List Int) : (State.driveBurst s kind lead sym).pending = s.pending := by
  simp only [State.driveBurst, State.emit_pending]
  exact State.drivePairs_pending s false _

@[simp] theorem State.loopback_pending (s : State) : (State.loopback s).pending = s.pending := by simp [State.loopback]

@[simp] theorem State.silent_pending (s : State) : (State.silent s).pending = s.pending := rfl

@[simp] theorem State.statusStep_pending (s : State) (seq : Nat) : (State.statusStep s seq).pending = s.pending := rfl

@[simp] theorem State.sendData_pending (s : State) (idleOnly : Bool) (room : Nat) : (State.sendData s idleOnly room).pending = s.pending := by simp [State.sendData]

@[simp] theorem State.sendTraining_pending (s : State) (phase : Nat) (frt : Bool) : (State.sendTraining s phase frt).pending = s.pending := by
  unfold State.sendTraining; dsimp only; repeat' split
  all_goals simp

@[simp] theorem State.sendRefresh_pending (s : State) : s.sendRefresh.pending = s.pending := by
  unfold State.sendRefresh; dsimp only; rw [State.modRun_pending, State.drive_pending]

@[simp] theorem State.sendStandard_pending (s : State) : (State.sendStandard s).pending = s.pending := by
  unfold State.sendStandard
  repeat' (first | rfl | (simp; done) | (refine foldl_pending _ (fun _ _ => ?_) _ _) | (refine (foldl_pending _ (fun _ _ => ?_) _ _).trans ?_) | split | (dsimp only; split))

@[simp] theorem State.sendQuiet_pending (s : State) : s.sendQuiet.pending = s.pending := by
  unfold State.sendQuiet; dsimp only
  split
  · simp only [State.modQlCnt_pending, State.modQl_pending, State.modRun_pending, State.silent_pending, State.drive_pending]
  · simp only [State.ite_pending, State.modQlCnt_pending, State.modQl_pending, State.sendRefresh_pending, State.sendData_pending, ite_self]
  · simp only [State.ite_pending, State.modQl_pending, State.modRun_pending, State.silent_pending, State.sendData_pending, ite_self]
  · simp only [State.sendData_pending]

@[simp] theorem State.leaveQuiet_pending (s : State) : (State.leaveQuiet s).pending = s.pending := by simp [State.leaveQuiet]

@[simp] theorem State.quietBank_pending (s0 : State) : (State.quietBank s0).pending = s0.pending := by simp [State.quietBank]

@[simp] theorem State.idleTick_pending (s : State) : (State.idleTick s).pending = s.pending := by simp [State.idleTick]

@[simp] theorem State.txPeriod_pending (s : State) : s.txPeriod.pending = s.pending := by
  unfold State.txPeriod
  repeat' split
  all_goals (first | rfl | (simp; done) | exact (foldl_pending _ (fun st p => State.probe_pending st p) _ _).trans (State.loopback_pending s))

@[simp] theorem State.enterPeriod_pending (s : State) (adc : Quad (List Int)) : (State.enterPeriod s adc).pending = s.pending := by simp [State.enterPeriod]

@[simp] theorem State.acquireGain_pending (s : State) : (State.acquireGain s).pending = s.pending := by simp [State.acquireGain]

@[simp] theorem State.trainIn_pending (s : State) : (State.trainIn s).pending = s.pending := by simp [State.trainIn]

@[simp] theorem State.loopbackIn_pending (s : State) : (State.loopbackIn s).pending = s.pending := by
  unfold State.loopbackIn
  repeat' (first | rfl | (simp; done) | (refine foldl_pending _ (fun _ _ => ?_) _ _) | (refine (foldl_pending _ (fun _ _ => ?_) _ _).trans ?_) | split | (dsimp only; split))

@[simp] theorem State.modTrain_pending (s : State) (f : Train → Train) : (State.modTrain s f).pending = s.pending := rfl

@[simp] theorem State.messageIn_pending (s : State) (kn : Bool) (slices : List (Option Nat)) (seq : Nat) : (State.messageIn s kn slices seq).pending = s.pending := by
  unfold State.messageIn; split <;> simp

@[simp] theorem State.dropPartial_pending (s : State) : (State.dropPartial s).pending = s.pending := by
  unfold State.dropPartial; split <;> simp

@[simp] theorem State.sliceIn_pending (s : State) (kn : Bool) (seq : Nat) (info : Option Nat) : (State.sliceIn s kn seq info).pending = s.pending := by
  unfold State.sliceIn; dsimp only; repeat' split
  all_goals simp

@[simp] theorem State.popMsg_pending (s : State) : (State.popMsg s).pending = s.pending := rfl

@[simp] theorem State.ackMessage_pending (s : State) (m : Nat) (nak : Bool) : (State.ackMessage s m nak).pending = s.pending := rfl

theorem State.onMessage_pending {s : State} {typ : Nat} {ap : Nat → Nat → State → State × Bool} (h : ∀ m q st, (ap m q st).1.pending = st.pending) : (s.onMessage typ ap).pending = s.pending := by
  unfold State.onMessage; repeat' (first | rfl | (simp [h]; done) | split)

@[simp] theorem State.applySwitch_pending (s : State) (x : Switch) : (State.applySwitch s x).pending = s.pending := by simp [State.applySwitch]

@[simp] theorem State.storeShapeCtl_pending (s : State) (v : Nat) : (State.storeShapeCtl s v).pending = s.pending := by simp [State.storeShapeCtl]

@[simp] theorem State.storeFir_pending (s : State) (p : Pair) (bs : List Byte) : (State.storeFir s p bs).pending = s.pending := by simp [State.storeFir]

@[simp] theorem State.storeMask_pending (s : State) (bs : List Byte) : (State.storeMask s bs).pending = s.pending := by simp [State.storeMask]

@[simp] theorem State.headerIn_pending (s : State) (kn : Bool) (h : Nat) : (State.headerIn s kn h).pending = s.pending := by simp [State.headerIn]

@[simp] theorem State.discard_pending (s : State) (f : LcCounters → LcCounters) : (State.discard s f).pending = s.pending := by simp [State.discard]

@[simp] theorem State.finishItem_pending (s : State) : (State.finishItem s).pending = s.pending := by
  unfold State.finishItem; split <;> simp

@[simp] theorem State.enterSearch_pending (s : State) : (State.enterSearch s).pending = s.pending := rfl

@[simp] theorem State.beginItem_pending (s : State) (tag : List (Option Byte)) (stamp : Nat) : (State.beginItem s tag stamp).pending = s.pending := by
  unfold State.beginItem; dsimp only; repeat' split
  all_goals simp

@[simp] theorem State.deframe_pending (g : Nat → Nat) (n : Nat) : ∀ (off : Nat) (bs : List (Option Byte)) (s : State), (State.deframe g n off bs s).pending = s.pending := by
  induction n with
  | zero => intro off bs s; cases bs <;> rfl
  | succ n ih => intro off bs s; cases bs <;> simp only [State.deframe] <;> repeat' (first | rfl | (simp [ih]; done) | split)

@[simp] theorem State.overrule_pending (s : State) (bs : List (Option Byte)) : (State.overrule s bs).pending = s.pending := by
  unfold State.overrule; dsimp only; repeat' split
  all_goals simp

@[simp] theorem State.resumeAt_pending (s : State) (at' : Nat → Nat) (first : Nat) (bs : List (Option Byte)) : (State.resumeAt s at' first bs).pending = s.pending := by simp [State.resumeAt]

@[simp] theorem State.payloadIn_pending (s : State) (at' : Nat → Nat) (bs : List (Option Byte)) (first : Option Nat) : (State.payloadIn s at' bs first).pending = s.pending := by
  unfold State.payloadIn; split <;> simp

@[simp] theorem State.takeRxForm_pending (s : State) (kn : Bool) : (State.takeRxForm s kn).pending = s.pending := by simp [State.takeRxForm]

@[simp] theorem State.calPeriod_pending (s : State) (f : Front) (part : Pair → Bool) : (State.calPeriod s f part).pending = s.pending := by
  unfold State.calPeriod
  repeat' (first | rfl | (simp; done) | (refine foldl_pending _ (fun _ _ => ?_) _ _) | (refine (foldl_pending _ (fun _ _ => ?_) _ _).trans ?_) | split | (dsimp only; split))

@[simp] theorem State.learnPeriod_pending (s : State) (f : Front) (ws : Quad WordOut) (adapt : Bool) (order : List Pair) : (State.learnPeriod s f ws adapt order).pending = s.pending := by simp [State.learnPeriod]

@[simp] theorem State.dataIn_pending (s : State) (adapt : Bool) : (s.dataIn adapt).pending = s.pending := by
  unfold State.dataIn; dsimp only
  rw [State.payloadIn_pending]
  split <;> simp <;> split <;> simp [State.takeRxForm]

@[simp] theorem State.nextRx_pending (s : State) : (State.nextRx s).pending = s.pending := rfl

@[simp] theorem State.judgeQuiet_pending (s : State) : (State.judgeQuiet s).pending = s.pending := by simp [State.judgeQuiet]

@[simp] theorem State.gapChain_pending (s : State) : (State.gapChain s).pending = s.pending := by simp [State.gapChain]

@[simp] theorem State.holdPhase_pending (s : State) : (State.holdPhase s).pending = s.pending := by simp [State.holdPhase]

@[simp] theorem State.farQuiet_pending (s : State) : (State.farQuiet s).pending = s.pending := by simp [State.farQuiet]

@[simp] theorem State.restPeriod_pending (s : State) : (State.restPeriod s).pending = s.pending := by
  unfold State.restPeriod
  repeat' (first | rfl | (simp; done) | (refine foldl_pending _ (fun _ _ => ?_) _ _) | (refine (foldl_pending _ (fun _ _ => ?_) _ _).trans ?_) | split | (dsimp only; split))

@[simp] theorem State.contentIn_pending (s : State) (content : Bool) : (State.contentIn s content).pending = s.pending := by simp [State.contentIn]

@[simp] theorem State.endFarWindow_pending (s : State) : (State.endFarWindow s).pending = s.pending := by simp [State.endFarWindow]

@[simp] theorem State.quietIn_pending (s : State) : (State.quietIn s).pending = s.pending := by simp [State.quietIn]

@[simp] theorem State.settleIn_pending (s : State) : (State.settleIn s).pending = s.pending := by
  unfold State.settleIn; dsimp only; repeat' split
  all_goals simp

@[simp] theorem State.rxAwake_pending (s : State) (cause : Nat) : (State.rxAwake s cause).pending = s.pending := by simp [State.rxAwake]

@[simp] theorem State.listenIn_pending (s : State) : (State.listenIn s).pending = s.pending := by
  unfold State.listenIn; dsimp only; repeat' split
  all_goals simp

@[simp] theorem State.takePeriod_pending (s : State) : (State.takePeriod s).pending = s.pending := by simp [State.takePeriod]

@[simp] theorem State.countData_pending (s : State) : (State.countData s).pending = s.pending := by simp [State.countData]

@[simp] theorem State.nativeIn_pending (s : State) : (State.nativeIn s).pending = s.pending := by
  unfold State.nativeIn; dsimp only; repeat' split
  all_goals simp

@[simp] theorem State.stdCodeword_pending (s : State) (w : StdCodeword) : (State.stdCodeword s w).pending = s.pending := by simp [State.stdCodeword]

@[simp] theorem State.stdFrameIn_pending (s : State) (f : StdFrame) : (State.stdFrameIn s f).pending = s.pending := by simp [State.stdFrameIn]

@[simp] theorem State.standardIn_pending (s : State) (d : DecodeIn) : (State.standardIn s d).pending = s.pending := by
  unfold State.standardIn
  repeat' (first | rfl | (simp; done) | (refine foldl_pending _ (fun _ _ => ?_) _ _) | (refine (foldl_pending _ (fun _ _ => ?_) _ _).trans ?_) | split | (dsimp only; split))

@[simp] theorem State.trip_pending (s : State) (cause : Nat) (who : BitVec 4) : (State.trip s cause who).pending = s.pending := by simp [State.trip]

@[simp] theorem State.recordDrift_pending (s : State) : (State.recordDrift s).pending = s.pending := by simp [State.recordDrift]

@[simp] theorem State.storeRxCtl_pending (s : State) (v : Nat) : (State.storeRxCtl s v).pending = s.pending := rfl

@[simp] theorem State.burstIn_pending (s : State) : (State.burstIn s).pending = s.pending := rfl

@[simp] theorem State.recordPartner_pending (s : State) (r : Option Rung) : (State.recordPartner s r).pending = s.pending := rfl

@[simp] theorem State.beginTraining_pending (s : State) (r : Rung) (slave : Bool) : (State.beginTraining s r slave).pending = s.pending := by simp [State.beginTraining]

@[simp] theorem State.takeRole_pending (s : State) (r : Rung) (x : Bool ⊕ Bool) : (State.takeRole s r x).pending = s.pending := by
  unfold State.takeRole
  repeat' (first | rfl | (simp; done) | (refine foldl_pending _ (fun _ _ => ?_) _ _) | (refine (foldl_pending _ (fun _ _ => ?_) _ _).trans ?_) | split | (dsimp only; split))

@[simp] theorem State.freshRx_pending (s : State) : (State.freshRx s).pending = s.pending := by simp [State.freshRx]

@[simp] theorem State.wordIn_pending (s : State) (v : Nat) : (State.wordIn s v).pending = s.pending := by simp [State.wordIn]

@[simp] theorem State.wordBad_pending (s : State) : (State.wordBad s).pending = s.pending := by
  unfold State.wordBad; split <;> simp

@[simp] theorem State.pairWord_pending (s : State) (w : BitVec 64) : (State.pairWord s w).pending = s.pending := by simp [State.pairWord]

@[simp] theorem State.nextPhase_pending (s : State) : (State.nextPhase s).pending = s.pending := rfl

@[simp] theorem State.freshTx_pending (s : State) : (State.freshTx s).pending = s.pending := rfl

@[simp] theorem State.reachData_pending (s : State) (e : PhaseEnd) : (State.reachData s e).pending = s.pending := by simp [State.reachData]

@[simp] theorem State.yieldFullTest_pending (s : State) (ok : Bool) : (State.yieldFullTest s ok).pending = s.pending := by simp [State.yieldFullTest]

@[simp] theorem State.hostTrain_pending (s : State) : (State.hostTrain s).pending = s.pending := by simp [State.hostTrain]

@[simp] theorem State.storeLinkCtl_pending (s : State) (v : Nat) : (State.storeLinkCtl s v).pending = s.pending := by simp [State.storeLinkCtl]

@[simp] theorem State.eraseLane_pending (s : State) (frame logical lanes : Nat) : (State.eraseLane s frame logical lanes).pending = s.pending := by
  unfold State.eraseLane; dsimp only; repeat' split
  all_goals simp

@[simp] theorem State.doubtLane_pending (s : State) (frame logical lanes : Nat) : (State.doubtLane s frame logical lanes).pending = s.pending := by
  unfold State.doubtLane; dsimp only; repeat' split
  all_goals simp

@[simp] theorem State.replaceAtExit_pending (s : State) (inb : Bool) (lane : Nat) : (State.replaceAtExit s inb lane).pending = s.pending := by
  unfold State.replaceAtExit; dsimp only; repeat' split
  all_goals simp

@[simp] theorem State.storeDormantCtl_pending (s : State) (v : Nat) : (State.storeDormantCtl s v).pending = s.pending := by simp [State.storeDormantCtl]

@[simp] theorem State.withPart_pending (s : State) (k : RxInstant) : (State.withPart s k).pending = s.pending := by simp [State.withPart]

@[simp] theorem State.modRec_pending (s : State) (f : Reception → Reception) : (State.modRec s f).pending = s.pending := rfl

@[simp] theorem State.startGain_pending (s : State) (k : RxInstant) : (State.startGain s k).pending = s.pending := by simp [State.startGain]

@[simp] theorem State.freezeGain_pending (s : State) (k : RxInstant) (back : Nat) : (State.freezeGain s k back).pending = s.pending := by simp [State.freezeGain]

@[simp] theorem State.holdReception_pending (s : State) : (State.holdReception s).pending = s.pending := by simp [State.holdReception]

@[simp] theorem State.endReception_pending (s : State) (r : Reception) (result : Nat) : (State.endReception s r result).pending = s.pending := by simp [State.endReception]

@[simp] theorem State.abandon_pending (s : State) (r : Reception) (result : Nat) : (State.abandon s r result).pending = s.pending := by simp [State.abandon]

@[simp] theorem State.latchAt_pending (s : State) (k : RxInstant) (back : Nat) (who : BitVec 4) (rho : Nat) (r : Reception) : (State.latchAt s k back who rho r).pending = s.pending := by simp [State.latchAt]

@[simp] theorem State.freezeAfc_pending (s : State) (f : Int) : (State.freezeAfc s f).pending = s.pending := by simp [State.freezeAfc]

@[simp] theorem State.acceptSync_pending (s : State) (k : RxInstant) (r : Reception) : (State.acceptSync s k r).pending = s.pending := by simp [State.acceptSync]

@[simp] theorem State.falseWake_pending (s : State) (r : Reception) (result : Nat) : (State.falseWake s r result).pending = s.pending := by simp [State.falseWake]

@[simp] theorem State.captureAt_pending (s : State) (k : RxInstant) (r : Reception) : (State.captureAt s k r).pending = s.pending := by simp [State.captureAt]

@[simp] theorem State.awake_pending (s : State) : (State.awake s).pending = s.pending := by simp [State.awake]

@[simp] theorem State.legacyWake_pending (s : State) : (State.legacyWake s).pending = s.pending := by
  unfold State.legacyWake; dsimp only; repeat' split
  all_goals simp

@[simp] theorem State.huntStep_pending (s : State) (dac : Nat) : (State.huntStep s dac).pending = s.pending := by
  unfold State.huntStep; dsimp only; repeat' split
  all_goals simp

@[simp] theorem State.storeQlCtl_pending (s : State) (v : Nat) : (State.storeQlCtl s v).pending = s.pending := by simp [State.storeQlCtl]

@[simp] theorem State.storeLegacyCtl_pending (s : State) (v : Nat) : (State.storeLegacyCtl s v).pending = s.pending := rfl

@[simp] theorem State.beginPairTraining_pending (s : State) (partner : Bool) : (State.beginPairTraining s partner).pending = s.pending := by simp [State.beginPairTraining]

@[simp] theorem State.answerKnuckle_pending (s : State) (p : Pair) : (State.answerKnuckle s p).pending = s.pending := rfl

@[simp] theorem State.dropRequest_pending (s : State) (st : Status) : (State.dropRequest s st).pending = s.pending := by simp [State.dropRequest]

@[simp] theorem State.refuseShed_pending (s : State) : (State.refuseShed s).pending = s.pending := by simp [State.refuseShed]

@[simp] theorem State.storeKnCtl_pending (s : State) (v : Nat) : (State.storeKnCtl s v).pending = s.pending := rfl

@[simp] theorem State.modDiag_pending (s : State) (f : Diag → Diag) : (State.modDiag s f).pending = s.pending := rfl

@[simp] theorem State.askQuiet_pending (s : State) (blocks : Nat) : (State.askQuiet s blocks).pending = s.pending := by simp [State.askQuiet]

@[simp] theorem State.startDiag_pending (s : State) (q : Request) : (State.startDiag s q).pending = s.pending := by simp [State.startDiag]

@[simp] theorem State.endMeasurement_pending (s : State) (r : DiagRun) (k result : Nat) : (State.endMeasurement s r k result).pending = s.pending := by simp [State.endMeasurement]

@[simp] theorem State.settleDiag_pending (s : State) : (State.settleDiag s).pending = s.pending := by
  unfold State.settleDiag; split <;> simp

theorem State.onOam_pending {s : State} {typ : Nat} {act : List Byte → State → State} (h : ∀ x st, (act x st).pending = st.pending) : (s.onOam typ act).pending = s.pending := by
  unfold State.onOam; dsimp only; repeat' (first | rfl | (rw [h]; done) | split)

@[simp] theorem State.storeDiagCtl_pending (s : State) (v : Nat) : (State.storeDiagCtl s v).pending = s.pending := rfl

@[simp] theorem State.modMon_pending (s : State) (f : Monitor → Monitor) : (State.modMon s f).pending = s.pending := rfl

@[simp] theorem State.storeAlarms_pending (s : State) (bs : List Byte) : (State.storeAlarms s bs).pending = s.pending := rfl

@[simp] theorem State.alarmChange_pending (s : State) (i : Nat) (a : Alarm) (set : Bool) (p : Pair) : (State.alarmChange s i a set p).pending = s.pending := by simp [State.alarmChange]

@[simp] theorem State.evalAlarm_pending (s : State) (i : Nat) : (State.evalAlarm s i).pending = s.pending := by
  unfold State.evalAlarm; dsimp only; repeat' split
  all_goals simp

@[simp] theorem State.evaluate_pending (s : State) : (State.evaluate s).pending = s.pending := by
  unfold State.evaluate
  repeat' (first | rfl | (simp; done) | (refine foldl_pending _ (fun _ _ => ?_) _ _) | (refine (foldl_pending _ (fun _ _ => ?_) _ _).trans ?_) | split | (dsimp only; split))

@[simp] theorem State.storeMonCtl_pending (s : State) (v : Nat) : (State.storeMonCtl s v).pending = s.pending := rfl

@[simp] theorem State.putOther_pending (s : State) (x : FwSlot) : (State.putOther s x).pending = s.pending := rfl

@[simp] theorem State.resumeRun_pending (s : State) (q : Request) : (State.resumeRun s q).pending = s.pending := by
  unfold State.resumeRun; split <;> simp

@[simp] theorem State.limitLog_pending (s : State) (field sev value limit sensor : Nat) : (State.limitLog s field sev value limit sensor).pending = s.pending := by simp [State.limitLog]

@[simp] theorem State.supplyChange_pending (s : State) (i : Nat) (critical begins : Bool) (v : Nat) : (State.supplyChange s i critical begins v).pending = s.pending := by simp [State.supplyChange]

@[simp] theorem State.judgeSupply_pending (s : State) (critical : Bool) (i v : Nat) : (State.judgeSupply s critical i v).pending = s.pending := by simp [State.judgeSupply]

@[simp] theorem State.judgeTemps_pending (s : State) : (State.judgeTemps s).pending = s.pending := by simp [State.judgeTemps]

@[simp] theorem State.agingAct_pending (s : State) (m e : Nat) : (State.agingAct s m e).pending = s.pending := by simp [State.agingAct]

@[simp] theorem State.measureAging_pending (s : State) (m reading element : Nat) : (State.measureAging s m reading element).pending = s.pending := by simp [State.measureAging]

@[simp] theorem State.nvmError_pending (s : State) (a : NvmArea) : (State.nvmError s a).pending = s.pending := by simp [State.nvmError]

@[simp] theorem State.storeMgmtCtl_pending (s : State) (v : Nat) : (State.storeMgmtCtl s v).pending = s.pending := rfl

@[simp] theorem State.signalRing_pending (s : State) (i : Nat) : (State.signalRing s i).pending = s.pending := by simp [State.signalRing]

@[simp] theorem State.freeStaging_pending (s : State) (i : Nat) : (State.freeStaging s i).pending = s.pending := rfl

@[simp] theorem State.forgetWritten_pending (s : State) (i : Nat) : (State.forgetWritten s i).pending = s.pending := rfl

@[simp] theorem State.haltRing_pending (s : State) (i code : Nat) : (State.haltRing s i code).pending = s.pending := by simp [State.haltRing]

@[simp] theorem State.refuseCapsule_pending (s : State) (i : Nat) (c : Capsule) (st : Status) : (State.refuseCapsule s i c st).pending = s.pending := by simp [State.refuseCapsule]

@[simp] theorem State.takeRequest_pending (s : State) (c : Capsule) : (State.takeRequest s c).pending = s.pending := by simp [State.takeRequest]

@[simp] theorem State.takeTurn_pending (s : State) (i n : Nat) : (State.takeTurn s i n).pending = s.pending := rfl

@[simp] theorem State.queueFrames_pending (i : Nat) (a : Accepted) (l : List (List Byte)) : ∀ s : State, (s.queueFrames i a l).1.pending = s.pending := by
  induction l with
  | nil => intros; rfl
  | cons x l ih => intro s; simp only [State.queueFrames]; split <;> simp [ih]

@[simp] theorem State.sendCapsule_pending (s : State) (i : Nat) (a : Accepted) : (State.sendCapsule s i a).pending = s.pending := by simp [State.sendCapsule]

@[simp] theorem State.writeEvent_pending (s : State) (v : BitVec 32) : (State.writeEvent s v).pending = s.pending := by simp [State.writeEvent]

@[simp] theorem State.writeEventEn_pending (s : State) (v : BitVec 32) : (State.writeEventEn s v).pending = s.pending := by simp [State.writeEventEn]

@[simp] theorem State.writeNme_pending (s : State) (v : BitVec 32) : (State.writeNme s v).pending = s.pending := by simp [State.writeNme]

@[simp] theorem State.writeStateAddr_pending (s : State) (v : BitVec 64) : (State.writeStateAddr s v).pending = s.pending := rfl

@[simp] theorem State.writeWindow_pending (s : State) (w off : Nat) (wide : Bool) (v : BitVec 64) : (State.writeWindow s w off wide v).pending = s.pending := rfl

@[simp] theorem State.enableRing_pending (s : State) (i v : Nat) : (State.enableRing s i v).pending = s.pending := by simp [State.enableRing]

@[simp] theorem State.stopRing_pending (s : State) (i : Nat) : (State.stopRing s i).pending = s.pending := by simp [State.stopRing]

@[simp] theorem State.disableRing_pending (s : State) (i v : Nat) : (State.disableRing s i v).pending = s.pending := by simp [State.disableRing]

@[simp] theorem State.badDoorbell_pending (s : State) (i : Nat) : (State.badDoorbell s i).pending = s.pending := by simp [State.badDoorbell]

@[simp] theorem State.writeSqTail_pending (s : State) (i : Nat) (v : BitVec 32) : (State.writeSqTail s i v).pending = s.pending := by simp [State.writeSqTail]

@[simp] theorem State.writeCqHead_pending (s : State) (i : Nat) (v : BitVec 32) : (State.writeCqHead s i v).pending = s.pending := by simp [State.writeCqHead]

@[simp] theorem State.resetRing_pending (s : State) (i : Nat) : (State.resetRing s i).pending = s.pending := by simp [State.resetRing]

@[simp] theorem State.writeRingReg_pending (s : State) (i off : Nat) (wide : Bool) (v : BitVec 64) : (State.writeRingReg s i off wide v).pending = s.pending := by simp [State.writeRingReg]

@[simp] theorem State.writeMsix_pending (s : State) (off : Nat) (wide : Bool) (v : BitVec 64) : (State.writeMsix s off wide v).pending = s.pending := by simp [State.writeMsix]

@[simp] theorem State.wakeAssert_pending (s : State) : (State.wakeAssert s).pending = s.pending := rfl

@[simp] theorem State.keywayRise_pending (s : State) : (State.keywayRise s).pending = s.pending := by simp [State.keywayRise]

@[simp] theorem State.writeCapsule_pending (s : State) (r : Ring) (pos : BitVec 32) (c : Completion) : (State.writeCapsule s r pos c).pending = s.pending := by
  unfold State.writeCapsule
  repeat' (first | rfl | (simp; done) | (refine foldl_pending _ (fun _ _ => ?_) _ _) | (refine (foldl_pending _ (fun _ _ => ?_) _ _).trans ?_) | split | (dsimp only; split))

@[simp] theorem State.placeNotice_pending (s : State) (i : Nat) : (State.placeNotice s i).pending = s.pending := rfl

@[simp] theorem State.dropRing_pending (s : State) (f : Nat) : (State.dropRing s f).pending = s.pending := rfl

@[simp] theorem State.holdFrame_pending (s : State) (f : Nat) (x : RxFrame) : (State.holdFrame s f x).pending = s.pending := by simp [State.holdFrame]

@[simp] theorem State.overflow_pending (s : State) : (State.overflow s).pending = s.pending := by simp [State.overflow]

@[simp] theorem State.deliver_pending (s : State) (c : Class) (x : RxFrame) (held : Bool) : (State.deliver s c x held).1.pending = s.pending := by
  unfold State.deliver; dsimp only; repeat' split
  all_goals simp

@[simp] theorem State.noSpace_pending (s : State) (i : Nat) : (State.noSpace s i).pending = s.pending := rfl

@[simp] theorem State.dropFrame_pending (s : State) : (State.dropFrame s).pending = s.pending := rfl

@[simp] theorem State.checkUnverified_pending (s : State) (f : Nat) (x : RxFrame) : (State.checkUnverified s f x).1.pending = s.pending := by
  unfold State.checkUnverified; dsimp only; split <;> simp

@[simp] theorem State.classifyEarly_pending (s : State) : (State.classifyEarly s).pending = s.pending := by
  unfold State.classifyEarly; split <;> simp

@[simp] theorem State.dropKeys_pending (s : State) (f : Nat) : (State.dropKeys s f).pending = s.pending := by simp [State.dropKeys]

@[simp] theorem State.dropHeld_pending (s : State) (f : Nat) : (State.dropHeld s f).pending = s.pending := rfl

@[simp] theorem State.signed_pending (s : State) (code : Nat) (body : List Byte) : (State.signed s code body).pending = s.pending := rfl

@[simp] theorem State.answer_pending (s : State) (m : WardMsg) (code : Nat) (st : Status) : (State.answer s m code st).pending = s.pending := rfl

@[simp] theorem State.refuseKey_pending (s : State) (m : WardMsg) (st : Status) : (State.refuseKey s m st).pending = s.pending := by simp [State.refuseKey]

theorem State.message_pending {s : State} {m : WardMsg} {code : Nat} {key latchOk : Bool} {form : Checks} {body : Session → State → State} (h : ∀ x st, (body x st).pending = st.pending) : (s.message m code key latchOk form body).pending = s.pending := by
  unfold State.message; dsimp only; repeat' (first | rfl | (simp [h]; done) | split)

@[simp] theorem State.storeHaspCfg_pending (s : State) (cfg : BitVec 32) : (State.storeHaspCfg s cfg).pending = s.pending := by simp [State.storeHaspCfg]

@[simp] theorem State.transition_pending (s : State) (lc : Lifecycle) (owner : Option (BitVec 384)) : (State.transition s lc owner).pending = s.pending := rfl

@[simp] theorem State.reloadKeys_pending (s : State) : (State.reloadKeys s).pending = s.pending := rfl

@[simp] theorem State.zeroize_pending (s : State) : (State.zeroize s).pending = s.pending := by simp [State.zeroize]

@[simp] theorem State.actOnTrip_pending (s : State) (i : Nat) : (State.actOnTrip s i).pending = s.pending := by simp [State.actOnTrip]

@[simp] theorem State.tripSensor_pending (s : State) (i : Nat) : (State.tripSensor s i).pending = s.pending := by simp [State.tripSensor]

@[simp] theorem State.storeWardCtl_pending (s : State) (v : Nat) : (State.storeWardCtl s v).pending = s.pending := by simp [State.storeWardCtl]

@[simp] theorem State.modClk_pending (s : State) (f : Clock → Clock) : (State.modClk s f).pending = s.pending := rfl

@[simp] theorem State.loseLock_pending (s : State) : (State.loseLock s).pending = s.pending := by simp [State.loseLock]

@[simp] theorem State.switchTo_pending (s : State) (i : Nat) : (State.switchTo s i).pending = s.pending := by simp [State.switchTo]

@[simp] theorem State.holdOver_pending (s : State) : (State.holdOver s).pending = s.pending := by simp [State.holdOver]

@[simp] theorem State.replaceRef_pending (s : State) : (State.replaceRef s).pending = s.pending := by
  unfold State.replaceRef; dsimp only; split <;> simp

@[simp] theorem State.sourceFailed_pending (s : State) (i : Nat) : (State.sourceFailed s i).pending = s.pending := by simp [State.sourceFailed]

@[simp] theorem State.isoFails_pending (s : State) : (State.isoFails s).pending = s.pending := by simp [State.isoFails]

@[simp] theorem State.takeWindow_pending (s : State) (w : ClockWindow) : (State.takeWindow s w).pending = s.pending := rfl

@[simp] theorem State.sourceStable_pending (s : State) (i : Nat) : (State.sourceStable s i).pending = s.pending := by simp [State.sourceStable]

@[simp] theorem State.trackMl1_pending (s : State) : (State.trackMl1 s).pending = s.pending := by simp [State.trackMl1]

@[simp] theorem State.storeClkCtl_pending (s : State) (v : Nat) : (State.storeClkCtl s v).pending = s.pending := by
  unfold State.storeClkCtl; dsimp only; split <;> simp

@[simp] theorem State.modGate_pending (s : State) (f : Gates → Gates) : (State.modGate s f).pending = s.pending := rfl

@[simp] theorem State.hostGatesDone_pending (s : State) : (State.hostGatesDone s).pending = s.pending := by simp [State.hostGatesDone]

@[simp] theorem State.storeGateCtl_pending (s : State) (q : Request) (v : Nat) : (State.storeGateCtl s q v).pending = s.pending := by simp [State.storeGateCtl]

@[simp] theorem State.clearUnits_pending (s : State) : (State.clearUnits s).pending = s.pending := rfl

@[simp] theorem State.powerOff_pending (s : State) : (State.powerOff s).pending = s.pending := rfl

@[simp] theorem State.warmClear_pending (s : State) (cause : Nat) : (State.warmClear s cause).pending = s.pending := rfl

@[simp] theorem State.coreClear_pending (s : State) (cause : Nat) : (State.coreClear s cause).pending = s.pending := rfl

@[simp] theorem State.trimStart_pending (s : State) : (State.trimStart s).pending = s.pending := by simp [State.trimStart]

@[simp] theorem State.startUp_pending (s : State) : (State.startUp s).pending = s.pending := by simp [State.startUp]

@[simp] theorem State.warmStart_pending (s : State) (cause : Nat) : (State.warmStart s cause).pending = s.pending := rfl

@[simp] theorem State.warmEnd_pending (s : State) (bootSel : Bool) (smbAddr : BitVec 2) : (State.warmEnd s bootSel smbAddr).pending = s.pending := by simp [State.warmEnd]

@[simp] theorem State.warmReset_pending (s : State) (cause : Nat) : (State.warmReset s cause).pending = s.pending := by simp [State.warmReset]

@[simp] theorem State.coreReset_pending (s : State) (cause : Nat) : (State.coreReset s cause).pending = s.pending := by simp [State.coreReset]

@[simp] theorem State.writeFpReset_pending (s : State) (v : BitVec 32) : (State.writeFpReset s v).pending = s.pending := by simp [State.writeFpReset]

@[simp] theorem State.dropStream_pending (s : State) : (State.dropStream s).pending = s.pending := by
  unfold State.dropStream
  repeat' (first | rfl | (simp; done) | (refine foldl_pending _ (fun _ _ => ?_) _ _) | (refine (foldl_pending _ (fun _ _ => ?_) _ _).trans ?_) | split | (dsimp only; split))

@[simp] theorem State.perstRing_pending (s : State) (i : Nat) : (State.perstRing s i).pending = s.pending := by
  unfold State.perstRing
  repeat' (first | rfl | (simp; done) | (refine foldl_pending _ (fun _ _ => ?_) _ _) | (refine (foldl_pending _ (fun _ _ => ?_) _ _).trans ?_) | split | (dsimp only; split))

@[simp] theorem State.perstControl_pending (s : State) : (State.perstControl s).pending = s.pending := by
  unfold State.perstControl
  repeat' (first | rfl | (simp; done) | (refine foldl_pending _ (fun _ _ => ?_) _ _) | (refine (foldl_pending _ (fun _ _ => ?_) _ _).trans ?_) | split | (dsimp only; split))

@[simp] theorem State.cxlReset_pending (s : State) (l : List Nat) : (s.cxlReset l).pending = s.pending := by
  unfold State.cxlReset; dsimp only
  rw [State.endSessions_pending, State.perstControl_pending]; exact (foldl_pending _ (fun _ _ => by simp) _ _).trans rfl

@[simp] theorem State.forgetXin_pending (s : State) : (State.forgetXin s).pending = s.pending := rfl

@[simp] theorem State.keepRead_pending (s : State) (r : ObjectRow) : (State.keepRead s r).pending = s.pending := by simp [State.keepRead]

@[simp] theorem State.writeEngCtl_pending (s : State) (v : Nat) : (s.writeEngCtl v).1.pending = s.pending := by
  unfold State.writeEngCtl; split
  · dsimp only; split <;> simp
  · simp

@[simp] theorem State.writeCalCtl_pending (s : State) (v : Nat) : (State.writeCalCtl s v).pending = s.pending := by simp [State.writeCalCtl]

@[simp] theorem State.clearAlarms_pending (s : State) (v : Nat) : (State.clearAlarms s v).pending = s.pending := rfl

@[simp] theorem State.storeObject_pending (s : State) (id v : Nat) (bs : List Byte) : (State.storeObject s id v bs).1.pending = s.pending := by
  unfold State.storeObject; split <;> simp

@[simp] theorem State.setParam_pending (s : State) (q : Request) : (s.setParam q).pending = s.pending := by
  unfold State.setParam; exact State.guarded_pending (fun st => by dsimp only; split <;> simp)

@[simp] theorem State.setParamOf_pending (s : State) (tag : BitVec 16) (p : Nat → Nat → Bool) : (s.setParamOf tag p).pending = s.pending := by
  unfold State.setParamOf; repeat' (first | rfl | exact State.runRequest_pending (fun _ _ => by simp) | split)

@[simp] theorem State.timeOut_pending (s : State) (q : Request) : (State.timeOut s q).pending = s.pending := by
  unfold State.timeOut; split <;> simp

@[simp] theorem State.skipEpoch_pending (s : State) : (State.skipEpoch s).pending = s.pending := rfl

@[simp] theorem State.beginPage_pending (s : State) : (State.beginPage s).pending = s.pending := by simp [State.beginPage]

@[simp] theorem State.writeRegister_pending (s : State) (bar off : Nat) (wide : Bool) (v : BitVec 64) : (s.writeRegister bar off wide v).pending = s.pending := by
  unfold State.writeRegister
  by_cases h1 : (bar = 0 && off = 0xF0 && aligned off wide) = true
  · rw [if_pos h1]; simp
  · rw [if_neg h1]
    by_cases h2 : (!s.fpLive || !aligned off wide) = true
    · rw [if_pos h2]
    · rw [if_neg h2]
      split
      · simp only [State.ite_pending, State.writeEvent_pending, State.writeEventEn_pending, State.writeNme_pending, State.writeRingReg_pending, State.writeStateAddr_pending, State.setFp_pending, State.writeWindow_pending, State.writeSqTail_pending, State.writeCqHead_pending, State.resetRing_pending, State.writeMsix_pending, ite_self]
      · by_cases h3 : ringExists (off / 4096) = true
        · rw [if_pos h3]; split <;> simp only [State.ite_pending, State.writeEvent_pending, State.writeEventEn_pending, State.writeNme_pending, State.writeRingReg_pending, State.writeStateAddr_pending, State.setFp_pending, State.writeWindow_pending, State.writeSqTail_pending, State.writeCqHead_pending, State.resetRing_pending, State.writeMsix_pending, ite_self]
        · rw [if_neg h3]
      · simp only [State.ite_pending, State.writeEvent_pending, State.writeEventEn_pending, State.writeNme_pending, State.writeRingReg_pending, State.writeStateAddr_pending, State.setFp_pending, State.writeWindow_pending, State.writeSqTail_pending, State.writeCqHead_pending, State.resetRing_pending, State.writeMsix_pending, ite_self]
      · rfl

@[simp] theorem State.smbAnswer_pending (s : State) (a : Nat) (pec : Bool) (code : Nat) (bs : List Byte) : (State.smbAnswer s a pec code bs).pending = s.pending := by simp [State.smbAnswer]

@[simp] theorem State.tick_pending (s : State) : (State.tick s).pending = s.pending := by simp [State.tick]

@[simp] theorem State.withFetchWord_pending (s : State) (nbits w : Nat) : (State.withFetchWord s nbits w).pending = s.pending := rfl

end Sys2Proof.Machine
end

