-- ==== Sys2Proof/Laws/Sparse.lean ====
section
/-! SUPPORT. The sparse tables: what is read after a write, and that every operation keeps the canonical form. -/

namespace Sys2Proof.Machine

variable {α : Type} [DecidableEq α]

/-- A write leaves every other key alone. -/
theorem sget_sset_ne (d : α) (t : Sparse α) {k j : Nat} (a : α) (h : j ≠ k) : sget d (sset d t k a) j = sget d t j := by
  induction t with
  | nil => grind [sset, sget]
  | cons x t ih => obtain ⟨n, v⟩ := x; grind [sset, sget]

/-- A value other than the default is read back. -/
theorem sget_sset_self (d : α) (t : Sparse α) (k : Nat) {a : α} (h : a ≠ d) : sget d (sset d t k a) k = a := by
  induction t with
  | nil => grind [sset, sget]
  | cons x t ih => obtain ⟨n, v⟩ := x; grind [sset, sget]

/-- Every key listed lies above a bound. -/
def Sparse.above (b : Nat) (t : Sparse α) : Prop := ∀ e ∈ t, b < e.1

omit [DecidableEq α] in
/-- A key below all those listed reads as the default. -/
theorem sget_above (d : α) {t : Sparse α} {k : Nat} (h : Sparse.above k t) : sget d t k = d := by
  induction t with
  | nil => rfl
  | cons x t ih =>
    obtain ⟨n, v⟩ := x
    have hk : k < n := h (n, v) (by simp)
    have ht : Sparse.above k t := fun e he => h e (List.mem_cons_of_mem _ he)
    simp [sget, show n ≠ k by omega, ih ht]

/-- The canonical form, entry by entry. -/
theorem Sparse.wf_cons (d : α) (k : Nat) (v : α) (t : Sparse α) :
    Sparse.wf d ((k, v) :: t) = true ↔ v ≠ d ∧ Sparse.above k t ∧ Sparse.wf d t = true := by
  induction t generalizing k v with
  | nil => simp [Sparse.wf, Sparse.above]
  | cons x t ih =>
    obtain ⟨n, w⟩ := x
    have hx := ih n w
    simp only [Sparse.wf, Bool.and_eq_true, decide_eq_true_eq]
    constructor
    · rintro ⟨⟨h1, h2⟩, h3⟩
      refine ⟨h1, ?_, h3⟩
      intro e he
      rcases List.mem_cons.mp he with rfl | he
      · exact h2
      · exact Nat.lt_trans h2 ((hx.mp h3).2.1 e he)
    · rintro ⟨h1, h2, h3⟩
      exact ⟨⟨h1, h2 (n, w) (by simp)⟩, h3⟩

/-- What a write lists lies above a bound when the table and the key do. -/
theorem sset_above (d : α) {t : Sparse α} {b k : Nat} (a : α) (hk : b < k) (h : Sparse.above b t) : Sparse.above b (sset d t k a) := by
  induction t with
  | nil =>
    intro e he
    by_cases ha : a = d <;> simp [sset, ha] at he
    subst he; exact hk
  | cons x t ih =>
    obtain ⟨n, v⟩ := x
    have ht : Sparse.above b t := fun e he => h e (List.mem_cons_of_mem _ he)
    have hn : b < n := h (n, v) (by simp)
    intro e he
    have hi := ih ht
    unfold sset at he
    split at he
    · split at he
      · exact h e he
      · rcases List.mem_cons.mp he with rfl | he
        · exact hk
        · exact h e he
    · split at he
      · split at he
        · exact ht e he
        · rcases List.mem_cons.mp he with rfl | he
          · exact hn
          · exact ht e he
      · rcases List.mem_cons.mp he with rfl | he
        · exact hn
        · exact hi e he

/-- A write keeps the canonical form. -/
theorem sset_wf (d : α) {t : Sparse α} (k : Nat) (a : α) (h : Sparse.wf d t = true) : Sparse.wf d (sset d t k a) = true := by
  induction t with
  | nil => by_cases ha : a = d <;> simp [sset, ha, Sparse.wf]
  | cons x t ih =>
    obtain ⟨n, v⟩ := x
    obtain ⟨h1, h2, h3⟩ := (Sparse.wf_cons d n v t).mp h
    unfold sset
    split
    · split
      · exact h
      · rename_i hk ha
        refine (Sparse.wf_cons d k a _).mpr ⟨ha, ?_, h⟩
        intro e he
        rcases List.mem_cons.mp he with rfl | he
        · exact hk
        · exact Nat.lt_trans hk (h2 e he)
    · split
      · split
        · exact h3
        · rename_i ha
          exact (Sparse.wf_cons d n a t).mpr ⟨ha, h2, h3⟩
      · rename_i h4 h5
        exact (Sparse.wf_cons d n v _).mpr ⟨h1, sset_above d a (by omega) h2, ih h3⟩

/-- A change of one entry keeps the canonical form. -/
theorem smod_wf (d : α) {t : Sparse α} (k : Nat) (f : α → α) (h : Sparse.wf d t = true) : Sparse.wf d (smod d t k f) = true :=
  sset_wf d k _ h

/-- A change of every entry gives the canonical form. -/
theorem smap_wf (d : α) (t : Sparse α) (f : Nat → α → α) : Sparse.wf d (smap d t f) = true := by
  have h : ∀ (l : Sparse α) (acc : Sparse α), Sparse.wf d acc = true → Sparse.wf d (l.foldl (fun acc e => sset d acc e.1 (f e.1 e.2)) acc) = true := by
    intro l
    induction l with
    | nil => exact fun _ h => h
    | cons x l ih => exact fun acc h => ih _ (sset_wf d x.1 _ h)
  exact h t [] rfl

/-- In canonical form a write is read back, the default too. -/
theorem sget_sset_wf (d : α) {t : Sparse α} (k : Nat) (a : α) (h : Sparse.wf d t = true) : sget d (sset d t k a) k = a := by
  by_cases ha : a = d
  · subst ha
    induction t with
    | nil => simp [sset, sget]
    | cons x t ih =>
      obtain ⟨n, v⟩ := x
      obtain ⟨_, h2, h3⟩ := (Sparse.wf_cons a n v t).mp h
      unfold sset
      split
      · rename_i hk
        refine (if_pos rfl ▸ ?_)
        exact sget_above a (fun e he => by
          rcases List.mem_cons.mp he with rfl | he
          · exact hk
          · exact Nat.lt_trans hk (h2 e he))
      · split
        · rename_i hk
          subst hk
          exact (if_pos rfl ▸ sget_above a h2)
        · rename_i h5
          simp [sget, show n ≠ k by omega, ih h3]
  · exact sget_sset_self d t k ha

end Sys2Proof.Machine
end

