-- ==== Sys2Proof/Laws/Ops.lean ====
section
/-! SUPPORT. What the shared operations do, said once each: requests and their checks, completions, events, the log. -/

namespace Sys2Proof.Machine

/-- A request that Benash takes up is executed by its body, on the state in which it no longer waits. -/
theorem runRequest_takes {s : State} {tag : BitVec 16} {op : Nat} {q : Request} (body : Request → State → State) (h : Takes s tag op q) :
    s.runRequest tag op body = body q (s.begin q) := by
  simp only [State.runRequest, h.1]

/-- Outside recovery, and for the requests that recovery executes, the first check that fails gives the status (R10, R428). -/
theorem failing_eq {s : State} {q : Request} {checks : Checks} (h : (s.ben.recovery && recoveryRefuses q.cap) = false) :
    s.failing q checks = firstFail checks := by
  simp [State.failing, h]

/-- The same on the state in which a request that Benash takes up no longer waits. -/
theorem failing_begin {s : State} {tag : BitVec 16} {op : Nat} {q : Request} {checks : Checks} (h : Takes s tag op q) :
    (s.begin q).failing q checks = firstFail checks := failing_eq h.2

/-- In recovery no check lets a request go on that recovery does not execute (R428). -/
theorem failing_recovery {s : State} {q : Request} {checks : Checks} (h : (s.ben.recovery && recoveryRefuses q.cap) = true) : s.failing q checks ≠ none := by
  simp [State.failing, h]

/-- Checks that all pass let the request go on. -/
theorem guarded_pass {s : State} {q : Request} {checks : Checks} {results : List (Nat × Nat)} {go : State → State}
    (h : s.failing q checks = none) : s.guarded q checks results go = go s := by
  simp only [State.guarded, h]

/-- The first check that fails ends the request with its status. -/
theorem guarded_fail {s : State} {q : Request} {checks : Checks} {results : List (Nat × Nat)} {go : State → State} {st : Status}
    (h : s.failing q checks = some st) : s.guarded q checks results go = s.finish q st results [] := by
  simp only [State.guarded, h]

/-- Checks pass when the first does and the rest do. -/
theorem firstFail_cons {b : Bool} {st : Status} {t : List (Bool × Status)} : firstFail ((b, st) :: t) = none ↔ b = false ∧ firstFail t = none := by
  simp only [firstFail]
  split <;> simp_all

/-- No checks: they pass. -/
theorem firstFail_nil : firstFail [] = none := rfl

/-- Benash is up where it takes a request up, and the request waits there with its opcode and TAG. -/
theorem takes_facts {s : State} {tag : BitVec 16} {op : Nat} {q : Request} (h : Takes s tag op q) :
    s.ben.up = true ∧ q.cap.op = op ∧ q.cap.tag = tag ∧ q ∈ s.cyo.inbox := by
  obtain ⟨h1, _⟩ := h
  unfold State.startable at h1
  split at h1
  · rename_i p hp
    split at h1
    · rename_i hc
      obtain rfl := Option.some.inj h1
      have := List.find?_some hp
      simp at hc this
      exact ⟨hc.1.2, hc.1.1, this, List.mem_of_find?_eq_some hp⟩
    · cases h1
  · cases h1

/-- A final completion that is to be written is placed on the control ring. -/
theorem finish_ring {s : State} {q : Request} {st : Status} {results : List (Nat × Nat)} {payload : List Byte} (h1 : s.ben.up = true)
    (h2 : q.fate = .ring) (h3 : (s.ring controlRing).running = true) :
    s.finish q st results payload = s.modRing controlRing (fun r => r.place q.room
      { opcode := q.cap.opcode.toNat + 0x80, flags := 0, flow := 0, fcount := 0, tag := q.cap.tag.toNat, status := st, seq := 0, stamp := none,
        args := packBytes 40 results, payload := (if st = .ok then payload else []).map some
        span := spanOf (if st = .ok then payload else []).length }) := by
  simp [State.finish, h1, h2, State.complete, h3]

/-- A ring that was changed reads so, when the change leaves something in it. -/
theorem ring_modRing_self {s : State} {i : Nat} {f : Ring → Ring} (h : f (s.ring i) ≠ {}) : (s.modRing i f).ring i = f (s.ring i) := by
  simp only [State.modRing, State.ring, smod]
  exact sget_sset_self _ _ _ h

/-- The other rings stay. -/
theorem ring_modRing_ne {s : State} {i j : Nat} {f : Ring → Ring} (h : j ≠ i) : (s.modRing i f).ring j = s.ring j := by
  simp only [State.modRing, State.ring, smod]
  exact sget_sset_ne _ _ _ h

/-- Taking the turn writes the ring's deficit and the turn alone (R341). -/
@[simp] theorem takeTurn_turn (s : State) (i n : Nat) : (s.takeTurn i n).kw.turn = some i := rfl

/-- The other rings stay. -/
theorem ring_takeTurn_ne {s : State} {i j n : Nat} (h : j ≠ i) : (s.takeTurn i n).ring j = s.ring j := by
  simp only [State.takeTurn, State.modRing, State.ring, smod]
  exact sget_sset_ne _ _ _ h

/-- The control ring is outside the round (R341). -/
@[simp] theorem inRound_control (s : State) (n : Nat) : s.inRound controlRing n = true := by simp [State.inRound]

/-- A placed completion makes a ring's entry differ from an absent one. -/
theorem place_ne (r : Ring) (n : Nat) (c : Completion) : r.place n c ≠ {} := by
  intro h
  have := congrArg Ring.placed h
  simp [Ring.place] at this

/-- Signalling touches no event flag. -/
@[simp] theorem signalVector_event (s : State) (v : Nat) : (s.signalVector v).fp.event = s.fp.event := rfl
/-- Nor any non-maskable one. -/
@[simp] theorem signalVector_nme (s : State) (v : Nat) : (s.signalVector v).fp.nme = s.fp.nme := rfl
/-- Signalling touches no event flag. -/
@[simp] theorem signalGeneral_event (s : State) : s.signalGeneral.fp.event = s.fp.event := by
  unfold State.signalGeneral; dsimp only; split <;> (try split) <;> rfl
/-- Nor any non-maskable one. -/
@[simp] theorem signalGeneral_nme (s : State) : s.signalGeneral.fp.nme = s.fp.nme := by
  unfold State.signalGeneral; dsimp only; split <;> (try split) <;> rfl

/-- A general event of a present unit sets its flag and keeps the others (R318). -/
theorem raiseEvent_event {s : State} {i : Nat} (h : s.eventPresent i = true) : (s.raiseEvent i).fp.event = s.fp.event ||| BitVec.twoPow 13 i := by
  unfold State.raiseEvent
  simp only [h, if_true]
  split <;> simp

/-- A general event leaves the non-maskable ones. -/
@[simp] theorem raiseEvent_nme (s : State) (i : Nat) : (s.raiseEvent i).fp.nme = s.fp.nme := by
  unfold State.raiseEvent; dsimp only; split <;> (try split) <;> simp

/-- A non-maskable event sets its bit and keeps the others (R319). -/
theorem raiseNme_nme (s : State) (i : Nat) : (s.raiseNme i).fp.nme = s.fp.nme ||| BitVec.twoPow 7 i := by
  unfold State.raiseNme; dsimp only; split <;> simp

/-- A non-maskable event leaves the general ones. -/
@[simp] theorem raiseNme_event (s : State) (i : Nat) : (s.raiseNme i).fp.event = s.fp.event := by
  unfold State.raiseNme; dsimp only; split <;> simp

/-- Sorting keeps what a list holds. -/
theorem sortBy_perm {α : Type} (le : α → α → Bool) (l : List α) : (sortBy le l).Perm l := by
  have h : ∀ (x : α) (t : List α), (insertBy le x t).Perm (x :: t) := by
    intro x t
    induction t with
    | nil => exact .refl _
    | cons y t ih =>
      unfold insertBy
      split
      · exact .refl _
      · exact (ih.cons y).trans (.swap x y t)
  induction l with
  | nil => exact .refl _
  | cons a t ih => exact (h a (sortBy le t)).trans (ih.cons a)

@[simp] theorem length_sortBy {α : Type} (le : α → α → Bool) (l : List α) : (sortBy le l).length = l.length := (sortBy_perm le l).length_eq

end Sys2Proof.Machine
end

