-- ==== Sys2Proof/Laws/PerInstr.lean ====
section
/-! SUPPORT. Statements made constructor by constructor, about the command as it is written. -/

namespace Sys2Proof.Laws.Shape

/-- No word of the opcode table spells the command: the table gives no row any bits. -/
def Statement (i : Instr) : Prop := ∀ nbits w : Nat, decodeTableWord nbits w ≠ some i

/-- It holds of every command. -/
theorem all (i : Instr) : Statement i := fun _ _ h => nomatch h

theorem identify (a0 : BitVec 16) : Statement (.identify a0) := all _
theorem getCaps (a0 : BitVec 16) : Statement (.getCaps a0) := all _
theorem getParam (a0 : BitVec 16) : Statement (.getParam a0) := all _
theorem setParam (a0 : BitVec 16) : Statement (.setParam a0) := all _
theorem repairGo (a0 : BitVec 16) : Statement (.repairGo a0) := all _
theorem revert (a0 : BitVec 16) : Statement (.revert a0) := all _
theorem refSel (a0 : BitVec 16) : Statement (.refSel a0) := all _
theorem gateCtl (a0 : BitVec 16) : Statement (.gateCtl a0) := all _
theorem alarmStatusClear (a0 : BitVec 16) : Statement (.alarmStatusClear a0) := all _
theorem linkUp (a0 : BitVec 16) : Statement (.linkUp a0) := all _
theorem linkDown (a0 : BitVec 16) : Statement (.linkDown a0) := all _
theorem trainFull (a0 : BitVec 16) : Statement (.trainFull a0) := all _
theorem trainFast (a0 : BitVec 16) : Statement (.trainFast a0) := all _
theorem knuckleShed (a0 : BitVec 16) : Statement (.knuckleShed a0) := all _
theorem knuckleReinstate (a0 : BitVec 16) : Statement (.knuckleReinstate a0) := all _
theorem calRun (a0 : BitVec 16) : Statement (.calRun a0) := all _
theorem calExport (a0 : BitVec 16) : Statement (.calExport a0) := all _
theorem calImport (a0 : BitVec 16) (a1 : List Byte) : Statement (.calImport a0 a1) := all _
theorem diagTdr (a0 : BitVec 16) : Statement (.diagTdr a0) := all _
theorem bistRun (a0 : BitVec 16) : Statement (.bistRun a0) := all _
theorem bistAbort (a0 : BitVec 16) : Statement (.bistAbort a0) := all _
theorem logRead (a0 : BitVec 16) : Statement (.logRead a0) := all _
theorem fwStage (a0 : BitVec 16) (a1 : List Byte) : Statement (.fwStage a0 a1) := all _
theorem fwCommit (a0 : BitVec 16) : Statement (.fwCommit a0) := all _
theorem fwActivate (a0 : BitVec 16) : Statement (.fwActivate a0) := all _
theorem shutdownPrep (a0 : BitVec 16) : Statement (.shutdownPrep a0) := all _
theorem flowCreate (a0 : BitVec 16) : Statement (.flowCreate a0) := all _
theorem flowModify (a0 : BitVec 16) : Statement (.flowModify a0) := all _
theorem flowDestroy (a0 : BitVec 16) : Statement (.flowDestroy a0) := all _
theorem slotStageOpen (a0 : BitVec 16) : Statement (.slotStageOpen a0) := all _
theorem slotStageWrite (a0 : BitVec 16) : Statement (.slotStageWrite a0) := all _
theorem slotStageClear (a0 : BitVec 16) : Statement (.slotStageClear a0) := all _
theorem slotCommit (a0 : BitVec 16) : Statement (.slotCommit a0) := all _
theorem wardKat (a0 : BitVec 16) : Statement (.wardKat a0) := all _
theorem saAdvance (a0 : BitVec 16) : Statement (.saAdvance a0) := all _
theorem keyErase (a0 : BitVec 16) : Statement (.keyErase a0) := all _
theorem kekInstall (a0 : WardMsg) : Statement (.kekInstall a0) := all _
theorem kekErase (a0 : WardMsg) : Statement (.kekErase a0) := all _
theorem keyInstall (a0 : WardMsg) : Statement (.keyInstall a0) := all _
theorem keyEraseMsg (a0 : WardMsg) : Statement (.keyEraseMsg a0) := all _
theorem cakInstall (a0 : WardMsg) : Statement (.cakInstall a0) := all _
theorem haspSet (a0 : WardMsg) : Statement (.haspSet a0) := all _
theorem tamperClear (a0 : WardMsg) : Statement (.tamperClear a0) := all _
theorem modeSet (a0 : WardMsg) : Statement (.modeSet a0) := all _
theorem lifecycle (a0 : WardMsg) : Statement (.lifecycle a0) := all _
theorem getVersion : Statement .getVersion := all _
theorem getCapabilities : Statement .getCapabilities := all _
theorem negotiateAlgorithms (a0 : Bool) (a1 : Bool) (a2 : Bool) (a3 : Bool) : Statement (.negotiateAlgorithms a0 a1 a2 a3) := all _
theorem getDigests : Statement .getDigests := all _
theorem getCertificate (a0 : Nat) (a1 : Nat) (a2 : Nat) : Statement (.getCertificate a0 a1 a2) := all _
theorem setCertificate (a0 : Option Nat) (a1 : List Byte) : Statement (.setCertificate a0 a1) := all _
theorem challenge (a0 : Nat) (a1 : BitVec 256) : Statement (.challenge a0 a1) := all _
theorem getMeasurements (a0 : Nat) (a1 : Bool) : Statement (.getMeasurements a0 a1) := all _
theorem keyExchange : Statement .keyExchange := all _
theorem finish (a0 : Nat) (a1 : Bool) (a2 : Option (BitVec 384 × BitVec 384)) : Statement (.finish a0 a1 a2) := all _
theorem keyUpdate (a0 : Nat) : Statement (.keyUpdate a0) := all _
theorem heartbeat (a0 : Nat) : Statement (.heartbeat a0) := all _
theorem endSession (a0 : Nat) : Statement (.endSession a0) := all _
theorem ideKm (a0 : Nat) (a1 : Bool) (a2 : Bool) : Statement (.ideKm a0 a1 a2) := all _
theorem submissionFetch (a0 : Nat) (a1 : Capsule) : Statement (.submissionFetch a0 a1) := all _
theorem nop (a0 : Nat) : Statement (.nop a0) := all _
theorem send (a0 : Nat) : Statement (.send a0) := all _
theorem sendMulti (a0 : Nat) : Statement (.sendMulti a0) := all _
theorem fence (a0 : Nat) : Statement (.fence a0) := all _
theorem sendDone (a0 : Nat) : Statement (.sendDone a0) := all _
theorem fpResetCore (a0 : BitVec 32) : Statement (.fpResetCore a0) := all _
theorem fpResetWarm (a0 : BitVec 32) : Statement (.fpResetWarm a0) := all _
theorem fpResetBenash (a0 : BitVec 32) : Statement (.fpResetBenash a0) := all _
theorem fpEventWrite (a0 : BitVec 32) : Statement (.fpEventWrite a0) := all _
theorem fpEventEnWrite (a0 : BitVec 32) : Statement (.fpEventEnWrite a0) := all _
theorem fpEventCntRead (a0 : Nat) (a1 : Bool) : Statement (.fpEventCntRead a0 a1) := all _
theorem fpNmeStatusWrite (a0 : BitVec 32) : Statement (.fpNmeStatusWrite a0) := all _
theorem fpNmeCntRead (a0 : Nat) (a1 : Bool) : Statement (.fpNmeCntRead a0 a1) := all _
theorem fpFaultInfoRead : Statement .fpFaultInfoRead := all _
theorem fpStateAddrWrite (a0 : BitVec 64) : Statement (.fpStateAddrWrite a0) := all _
theorem windowWrite (a0 : Nat) (a1 : Nat) (a2 : Bool) (a3 : BitVec 64) : Statement (.windowWrite a0 a1 a2 a3) := all _
theorem ringEnable (a0 : Nat) (a1 : BitVec 32) : Statement (.ringEnable a0 a1) := all _
theorem ringStop (a0 : Nat) (a1 : BitVec 32) : Statement (.ringStop a0 a1) := all _
theorem sqTailWrite (a0 : Nat) (a1 : BitVec 32) : Statement (.sqTailWrite a0 a1) := all _
theorem cqHeadWrite (a0 : Nat) (a1 : BitVec 32) : Statement (.cqHeadWrite a0 a1) := all _
theorem ringReset (a0 : Nat) : Statement (.ringReset a0) := all _
theorem registerWrite (a0 : Nat) (a1 : Nat) (a2 : Bool) (a3 : BitVec 64) : Statement (.registerWrite a0 a1 a2 a3) := all _
theorem h2dSnoop : Statement .h2dSnoop := all _
theorem cxlLinkUp (a0 : Nat) (a1 : Nat) : Statement (.cxlLinkUp a0 a1) := all _
theorem frameClassify : Statement .frameClassify := all _
theorem wardRxFrame : Statement .wardRxFrame := all _
theorem mkpdu (a0 : MkaIn) : Statement (.mkpdu a0) := all _
theorem completionWrite (a0 : Nat) : Statement (.completionWrite a0) := all _
theorem completionObserved (a0 : Nat) : Statement (.completionObserved a0) := all _
theorem rxMultiClose (a0 : Nat) : Statement (.rxMultiClose a0) := all _
theorem irqHoldoffExpiry (a0 : Nat) : Statement (.irqHoldoffExpiry a0) := all _
theorem eventSignalMerge : Statement .eventSignalMerge := all _
theorem heldFrameDelivery (a0 : Nat) : Statement (.heldFrameDelivery a0) := all _
theorem timelineBoundary (a0 : List EngineLoad) (a1 : Quad (List Int)) : Statement (.timelineBoundary a0 a1) := all _
theorem slotBankSwitch : Statement .slotBankSwitch := all _
theorem slotDeadline (a0 : Nat) (a1 : Nat) (a2 : Nat) (a3 : Nat) : Statement (.slotDeadline a0 a1 a2 a3) := all _
theorem storeGrant (a0 : StoreCycle) : Statement (.storeGrant a0) := all _
theorem overholdCutoff (a0 : Nat) : Statement (.overholdCutoff a0) := all _
theorem storeScrub (a0 : List (Nat × Nat × Bool)) : Statement (.storeScrub a0) := all _
theorem driftGuardEval : Statement .driftGuardEval := all _
theorem decodeRelease (a0 : DecodeIn) : Statement (.decodeRelease a0) := all _
theorem thpCoef : Statement .thpCoef := all _
theorem thpSwitch : Statement .thpSwitch := all _
theorem ack : Statement .ack := all _
theorem peerId : Statement .peerId := all _
theorem infofieldRetry : Statement .infofieldRetry := all _
theorem thpSetActivate : Statement .thpSetActivate := all _
theorem remoteFault : Statement .remoteFault := all _
theorem raSet : Statement .raSet := all _
theorem rateConfirmed : Statement .rateConfirmed := all _
theorem stdRateConfirm : Statement .stdRateConfirm := all _
theorem alignmentSearch : Statement .alignmentSearch := all _
theorem alignmentSearchEnd (a0 : List LaneTest) (a1 : List LaneTest) : Statement (.alignmentSearchEnd a0 a1) := all _
theorem alignmentRetry : Statement .alignmentRetry := all _
theorem laneFrameCheck (a0 : Bool) (a1 : Nat) (a2 : Nat) (a3 : List (BitVec 32)) : Statement (.laneFrameCheck a0 a1 a2 a3) := all _
theorem laneSubstitution (a0 : Bool) (a1 : Nat) (a2 : Nat) : Statement (.laneSubstitution a0 a1 a2) := all _
theorem spareCleanCount (a0 : Bool) : Statement (.spareCleanCount a0) := all _
theorem substitutionSwitch (a0 : Bool) : Statement (.substitutionSwitch a0) := all _
theorem deepLowPowerExit (a0 : List Nat) (a1 : List Nat) : Statement (.deepLowPowerExit a0 a1) := all _
theorem energyDetect (a0 : Pair) : Statement (.energyDetect a0) := all _
theorem energyLoss (a0 : Pair) : Statement (.energyLoss a0) := all _
theorem dormantEntry : Statement .dormantEntry := all _
theorem dormantExit : Statement .dormantExit := all _
theorem negotiationStart : Statement .negotiationStart := all _
theorem nativeAbilityMessage (a0 : Nat) (a1 : Nat) (a2 : Nat) (a3 : Nat) : Statement (.nativeAbilityMessage a0 a1 a2 a3) := all _
theorem negotiationResolve (a0 : Nat) (a1 : Option Bool) : Statement (.negotiationResolve a0 a1) := all _
theorem noPartnerTimer : Statement .noPartnerTimer := all _
theorem ladderResetTimer : Statement .ladderResetTimer := all _
theorem trainingWord (a0 : BitVec 64) (a1 : TrainMeas) : Statement (.trainingWord a0 a1) := all _
theorem phaseChange (a0 : PhaseEnd) : Statement (.phaseChange a0) := all _
theorem phaseTimer (a0 : BitVec 4) : Statement (.phaseTimer a0) := all _
theorem breakEnd : Statement .breakEnd := all _
theorem hdrLoss : Statement .hdrLoss := all _
theorem stdTrainingDone (a0 : PhaseEnd) : Statement (.stdTrainingDone a0) := all _
theorem stdLinkFail (a0 : BitVec 4) : Statement (.stdLinkFail a0) := all _
theorem fastRetrainRequest : Statement .fastRetrainRequest := all _
theorem fastRetrainStart : Statement .fastRetrainStart := all _
theorem fastRetrainEnd : Statement .fastRetrainEnd := all _
theorem fastRetrainTimeout : Statement .fastRetrainTimeout := all _
theorem lclkDivisionChange (a0 : Nat) (a1 : Nat) : Statement (.lclkDivisionChange a0 a1) := all _
theorem qlIdleTimer : Statement .qlIdleTimer := all _
theorem quietWithdraw : Statement .quietWithdraw := all _
theorem quietStart : Statement .quietStart := all _
theorem entryAbort : Statement .entryAbort := all _
theorem refreshWindow (a0 : Option Bool) : Statement (.refreshWindow a0) := all _
theorem wakeBurstStart : Statement .wakeBurstStart := all _
theorem onset (a0 : RxInstant) : Statement (.onset a0) := all _
theorem acquisitionTimeout (a0 : RxInstant) : Statement (.acquisitionTimeout a0) := all _
theorem latchPoint (a0 : RxInstant) : Statement (.latchPoint a0) := all _
theorem syncWord (a0 : RxInstant) : Statement (.syncWord a0) := all _
theorem syncSearchTimeout : Statement .syncSearchTimeout := all _
theorem settleHeaderTimeout : Statement .settleHeaderTimeout := all _
theorem receptionConfirmed : Statement .receptionConfirmed := all _
theorem listenTimeout : Statement .listenTimeout := all _
theorem capture (a0 : RxInstant) : Statement (.capture a0) := all _
theorem qlHdrLoss : Statement .qlHdrLoss := all _
theorem legacyBurstDetect (a0 : Nat) (a1 : RxInstant) : Statement (.legacyBurstDetect a0 a1) := all _
theorem legacyWakeTimeout : Statement .legacyWakeTimeout := all _
theorem knuckleRequestReceived : Statement .knuckleRequestReceived := all _
theorem knuckleAckReceived : Statement .knuckleAckReceived := all _
theorem knuckleFormChange : Statement .knuckleFormChange := all _
theorem rxFormChange : Statement .rxFormChange := all _
theorem knuckleAckTimeout : Statement .knuckleAckTimeout := all _
theorem pairTrainingDone : Statement .pairTrainingDone := all _
theorem pairTrainingTimeout : Statement .pairTrainingTimeout := all _
theorem calEstimateDone (a0 : CalEst) : Statement (.calEstimateDone a0) := all _
theorem sliceShadowDone (a0 : Pair) (a1 : Int) (a2 : Int) (a3 : Int) : Statement (.sliceShadowDone a0 a1 a2 a3) := all _
theorem calNoEngine : Statement .calNoEngine := all _
theorem calTimeout : Statement .calTimeout := all _
theorem tdrBlockDone (a0 : DiagBlock) : Statement (.tdrBlockDone a0) := all _
theorem diagTimeout : Statement .diagTimeout := all _
theorem diagNoEngine : Statement .diagNoEngine := all _
theorem quietReq : Statement .quietReq := all _
theorem quietAck : Statement .quietAck := all _
theorem quietAckTimeout : Statement .quietAckTimeout := all _
theorem quietDurationExpiry : Statement .quietDurationExpiry := all _
theorem farReportTimer : Statement .farReportTimer := all _
theorem farReport : Statement .farReport := all _
theorem statePageEpoch : Statement .statePageEpoch := all _
theorem statePagePublished : Statement .statePagePublished := all _
theorem trendInterval : Statement .trendInterval := all _
theorem gateCloseRequest (a0 : Nat) : Statement (.gateCloseRequest a0) := all _
theorem gateIdleAck (a0 : Nat) : Statement (.gateIdleAck a0) := all _
theorem gateCloseRefused (a0 : Nat) : Statement (.gateCloseRefused a0) := all _
theorem gateReopen (a0 : Nat) (a1 : Bool) : Statement (.gateReopen a0 a1) := all _
theorem unitReset (a0 : Nat) (a1 : Bool) : Statement (.unitReset a0 a1) := all _
theorem repairStart : Statement .repairStart := all _
theorem repairLoadDone (a0 : Bool) : Statement (.repairLoadDone a0) := all _
theorem programSwap : Statement .programSwap := all _
theorem clockMonitorWindow (a0 : ClockWindow) : Statement (.clockMonitorWindow a0) := all _
theorem referenceEdgeLoss : Statement .referenceEdgeLoss := all _
theorem holdoverExpiry : Statement .holdoverExpiry := all _
theorem ml0Relock : Statement .ml0Relock := all _
theorem powerOnReset (a0 : Bool) (a1 : BitVec 2) (a2 : Bool) : Statement (.powerOnReset a0 a1 a2) := all _
theorem startUpTestEnd (a0 : StartUpEnd) : Statement (.startUpTestEnd a0) := all _
theorem powerOnResetAssert : Statement .powerOnResetAssert := all _
theorem resetPin (a0 : ResetLevel) : Statement (.resetPin a0) := all _
theorem coreResetRelease : Statement .coreResetRelease := all _
theorem perstAssert (a0 : List Nat) : Statement (.perstAssert a0) := all _
theorem perstRelease : Statement .perstRelease := all _
theorem benashWatchdog : Statement .benashWatchdog := all _
theorem benashRestartEnd (a0 : Bool) : Statement (.benashRestartEnd a0) := all _
theorem escalation : Statement .escalation := all _
theorem railUndervoltage (a0 : Nat) : Statement (.railUndervoltage a0) := all _
theorem railRecovery (a0 : Nat) : Statement (.railRecovery a0) := all _
theorem supplyLoss : Statement .supplyLoss := all _
theorem meshCheck (a0 : Bool) : Statement (.meshCheck a0) := all _
theorem haspTrip (a0 : Nat) (a1 : Bool) (a2 : Int) : Statement (.haspTrip a0 a1 a2) := all _
theorem zeroizeNvmErase : Statement .zeroizeNvmErase := all _
theorem wardSelfTestDone : Statement .wardSelfTestDone := all _
theorem wardSelfTestFail : Statement .wardSelfTestFail := all _
theorem mkaHello : Statement .mkaHello := all _
theorem mkaLifeExpiry : Statement .mkaLifeExpiry := all _
theorem sensorRead (a0 : List Int) (a1 : List Nat) : Statement (.sensorRead a0 a1) := all _
theorem agingMeasure (a0 : List (List (Nat × Nat))) : Statement (.agingMeasure a0) := all _
theorem sramScrub (a0 : Nat) (a1 : Bool) : Statement (.sramScrub a0 a1) := all _
theorem nvmScrub (a0 : Nat) (a1 : List NvmArea) : Statement (.nvmScrub a0 a1) := all _
theorem logSuppressedRecord : Statement .logSuppressedRecord := all _
theorem fwTrialConfirm : Statement .fwTrialConfirm := all _
theorem sdRecordDisarm : Statement .sdRecordDisarm := all _
theorem bistTestEnd (a0 : TestEnd) : Statement (.bistTestEnd a0) := all _
theorem led1Timer : Statement .led1Timer := all _
theorem smbReadFpId (a0 : Nat) (a1 : Bool) : Statement (.smbReadFpId a0 a1) := all _
theorem smbReadFpCaps (a0 : Nat) (a1 : Bool) : Statement (.smbReadFpCaps a0 a1) := all _
theorem smbReadFpReady (a0 : Nat) (a1 : Bool) : Statement (.smbReadFpReady a0 a1) := all _
theorem smbReadFpNmeStatus (a0 : Nat) (a1 : Bool) : Statement (.smbReadFpNmeStatus a0 a1) := all _
theorem smbReadLinkStatus (a0 : Nat) (a1 : Bool) : Statement (.smbReadLinkStatus a0 a1) := all _
theorem smbReadPowerState (a0 : Nat) (a1 : Bool) : Statement (.smbReadPowerState a0 a1) := all _
theorem smbReadTemp (a0 : Nat) (a1 : Bool) : Statement (.smbReadTemp a0 a1) := all _
theorem smbReadSupply (a0 : Nat) (a1 : Bool) : Statement (.smbReadSupply a0 a1) := all _
theorem smbReadAging (a0 : Nat) (a1 : Bool) : Statement (.smbReadAging a0 a1) := all _
theorem fastLinkPulseBurst (a0 : LinkPage) : Statement (.fastLinkPulseBurst a0) := all _
theorem cableDischarge (a0 : Pair) : Statement (.cableDischarge a0) := all _
theorem configurationWrite (a0 : ConfigWrite) : Statement (.configurationWrite a0) := all _
theorem lpiSleep (a0 : Bool) : Statement (.lpiSleep a0) := all _
theorem lpiWake (a0 : Bool) : Statement (.lpiWake a0) := all _
theorem commandTimeout (a0 : BitVec 16) : Statement (.commandTimeout a0) := all _

end Sys2Proof.Laws.Shape
end

