-- ==== Sys2Proof/Tests/Slice0.lean ====
section
/-! SUPPORT. The model's own tests: ill-formed commands, values that the spec works out, and for every statement with hypotheses a state and
operands that meet them together. -/

namespace Sys2Proof.Tests

open Machine

set_option Elab.async false

/-! ### States and requests that the witnesses share -/

/-- A device that has come up, with its control ring enabled. -/
def live : State :=
  { pwr := { porHeld := false, perst := false, kwUp := true }, ben := { up := true }, bist := { passed := true }
    clk := { ready := true, ml0Lock := true, stable := 7, xin0Cfg := 1, xin1Cfg := 1 }
    dl := { ready := true, searches := 1, outb := { mapped := true }, inb := { mapped := true } }
    hasp := { armed := true }, ward := { tested := true }
    kw := { rings := [(controlRing, { en := true, sqLog2 := 8, cqLog2 := 8, reserved := 3 })] } }

/-- A request with TAG 7, RSPAN 2 and these fields from byte 28 on. -/
def req (op : Nat) (fields : List (Nat × Nat)) (payload : List Byte := []) : Request :=
  { cap := { opcode := BitVec.ofNat 8 op, flags := 0, flowWord := 0, length := BitVec.ofNat 16 payload.length, spanWord := 1, tag := 7, status := 0
             args := packBytes 40 ([(16, 2), (16, 0)] ++ fields), payload := payload }
    room := 3 }

/-- The request waits. -/
def asks (s : State) (q : Request) : State := { s with cyo := { s.cyo with inbox := [q] } }

/-- The request runs. -/
def runs (s : State) (q : Request) : State := { s with cyo := { s.cyo with running := [q] } }

/-! ### The whole block and the objects -/

/-- Benash with less than a token. -/
def noToken : State := { live with ben := { live.ben with tokens := 999 } }
/-- A log entry of a severity. -/
def entry (sev : Nat) : LogEntry := ⟨0, 0, 0, 1, sev, 1, 0, 0xFF, 0, 0, 0, 0⟩
/-- GET_PARAM. -/
def getReq (id off len : Nat) : Request := req 0x42 [(16, id), (16, 0), (32, off), (32, len)]
/-- SET_PARAM. -/
def setReq (id : Nat) (bs : List Byte) : Request := req 0x43 [(16, id), (16, 0)] bs
/-- LOG_READ from the oldest entry. -/
def logReq : Request := req 0x58 [(32, 0xFFFFFFFF), (16, 1)]
/-- Suppressed entries are to be recorded. -/
def suppressing : State := { live with ben := { live.ben with suppressedNew := 3 } }
/-- The object's row. -/
def rowOf (id : Nat) : ObjectRow := (objectRow id).getD ⟨0, 0, false, fun _ _ => [], false⟩

/-! ### Benash -/

/-- FW_STAGE of a first chunk of one block. -/
def stageReq : Request := req 0x59 [(8, 1), (24, 0), (64, 0x1000), (32, 4096), (32, 0)]
/-- A window of the host's memory, open for reading and writing. -/
def windowed (s : State) : State := { s with fp := { s.fp with windows := [(0, { lo := 0x19, hi := 0x1000 })] } }
/-- FW_ACTIVATE of a valid slot. -/
def slotBGood : State := { live with nvm := { live.nvm with slotB := { live.nvm.slotA with fwver := 0x01000001 } } }
/-- A trial runs. -/
def onTrial : State := { slotBGood with time := 600000000005, ben := { slotBGood.ben with trial := true, runB := true, trialSince := 5 } }
/-- Supplies at nominal. -/
def supplied (s : State) : State := { s with ben := { s.ben with supplies := (List.range 10).map supplyNominal } }
/-- The link in a state. -/
def linkAt (s : State) (n : Nat) : State := { s with link := { s.link with state := n } }
/-- BIST_RUN and BIST_ABORT of a pair. -/
def bistReq (op test target : Nat) : Request := req op [(16, test), (16, target)]
/-- A test of pair 2 runs. -/
def testing : State := { supplied live with bist := { live.bist with run := some { test := 2, target := 2, planned := bistSteps 2, since := 0, draw := 0 } } }
/-- Its run. -/
def testRun : BistRun := { test := 2, target := 2, planned := bistSteps 2, since := 0, draw := 0 }
/-- The start-up test runs. -/
def starting : State := { live with bist := { startup := true } }
/-- An armed shut-down record. -/
def armedRecord : SdRecord := { armed := true, used := false, result := 0, disarm := 0, boot := 0, slotB := false, fwver := 0, temp := 0, signature := 0, tamperCount := 0 }
/-- It is stored. -/
def armedDown : State := { live with nvm := { live.nvm with sd := some armedRecord } }
/-- A start-up test that found nothing wrong. -/
def allPassed : StartUpEnd := ⟨false, [], [], [], [], [], false, 0, expectedSignature 17 0⟩
/-- An aging threshold that no reading reaches. -/
def tolerant : State := { live with ben := { live.ben with agingThr := 6554 } }
/-- What each monitor finds at its first element. -/
def agingFound : List (Nat × Nat) := (List.range 12).map (fun m => (tolerant.agingReading m [(100, 100)]).getD (0, 0))
/-- Benash is down. -/
def down : State := { live with ben := { live.ben with up := false, restartSince := some 0 } }
/-- Benash is down after a reset, not in a restart. -/
def downCold : State := { live with ben := { live.ben with up := false } }

/-! ### Resets, rails, gates and balls -/

/-- A warm reset is held. -/
def warm : State := { live with pwr := { live.pwr with warmHeld := true } }
/-- A core reset is in progress. -/
def coreReset : State := { live with pwr := { live.pwr with coreSince := some 0 } }
/-- PERST# is asserted. -/
def perst : State := { live with pwr := { live.pwr with perst := true, persts := 1, perstSince := 0, kwUp := false }, time := 5000000 }
/-- Rails are low. -/
def railsLow (b : BitVec 5) : State := { live with pwr := { live.pwr with railLow := b } }
/-- Gates as given: closed, asked. -/
def gates (c a : BitVec 106) : State := { live with gate := { live.gate with closed := c, asked := a } }
/-- LED1 is on. -/
def ledOn : State := { live with pwr := { live.pwr with led1 := true } }

/-! ### Clocks -/

/-- XIN0 alone is configured and in use. -/
def onXin0 : State := { live with clk := { live.clk with xin0Cfg := 2, xin1Cfg := 0, stable := 3, refSel := 1, srcInUse := 1 } }
/-- In holdover without a source. -/
def holding : State := { linkAt live 8 with clk := { live.clk with holdover := true, srcInUse := 3, holdSince := live.time }, time := live.time + 1000000000 }
/-- Relocking to the IFO. -/
def relocking : State := { live with clk := { live.clk with ml0Lock := false } }

/-! ### The state page and monitoring -/

/-- The page is enabled at device address 0. -/
def paged : State := { windowed live with fp := { (windowed live).fp with pageEn := true, pageAddr := 0 } }
/-- A publication is in progress. -/
def publishing : State := { paged with page := { busy := true, seq := 1, head := List.replicate 56 0, snapshot := List.replicate 4088 0 } }
/-- A native link in data. -/
def native : State := { live with link := { live.link with state := 8, mode := some 0, qlOk := true, frOk := true, knOk := true, role := true } }
/-- Before a report. -/
def reporting : State := { native with page := { snapshot := List.replicate 4088 0 } }
/-- A FAR_REPORT of zeros. -/
def farItem : List Byte := packBytes 8 [(16, 1), (8, 1), (8, 0), (32, 0)] ++ List.replicate 52 0
/-- It has arrived. -/
def reported : State := { native with lc := { native.lc with oamIn := [farItem] } }
/-- A merged signal is due, and vector 1,002 is unmasked. -/
def merging : State := { live with
  kw := { live.kw with status := { linkUp := true } }
  fp := { mergeDue := true, msix := [(1002, { addr := 0x1000, data := 5, masked := false })] } }

/-! ### Keyway -/

/-- The link is in data, with the window open. -/
def dataUp : State := windowed (linkAt live 8)
/-- Flow 3 exists. -/
def flow3 : Flow := { exist := true, gen := 5 }
/-- Flow 3's ring runs, with 256 bytes to serve. -/
def ring3 (r : Ring) : State := { dataUp with
  flows := [(3, flow3)]
  kw := { dataUp.kw with rings := [(3, { r with en := true, sqAddr := 0x10000, cqAddr := 0x20000 }), (controlRing, { live.ring controlRing with sqTail := 256, sqLog2 := 16, cqLog2 := 16, sqAddr := 0x30000, cqAddr := 0x40000 })] } }
/-- A frame of 64 bytes to a group address. -/
def frame64 : List Byte := packBytes 64 [(8, 1), (40, 0x123456789), (48, 0x77), (16, 0x0008)]
/-- SEND of that frame on flow 3. -/
def sendCap : Capsule := { opcode := 1, flags := 0, flowWord := 3, length := 64, spanWord := 2, tag := 9, status := 0, args := List.replicate 40 0, payload := frame64 }
/-- SEND_MULTI of two frames. -/
def multiCap : Capsule := { opcode := 2, flags := 1, flowWord := 3 + 1024, length := 144, spanWord := 4, tag := 9, status := 0, args := List.replicate 40 0
                            payload := packBytes 8 [(16, 64)] ++ frame64 ++ packBytes 8 [(16, 64)] ++ frame64 ++ List.replicate 48 0 }
/-- NOP, FENCE and an unknown opcode. -/
def bareCap (op : Nat) : Capsule := { opcode := BitVec.ofNat 8 op, flags := 1, flowWord := 3, length := 0, spanWord := 1, tag := 4, status := 0, args := List.replicate 40 0, payload := [] }
/-- IDENTIFY on the control ring. -/
def controlCap : Capsule := (req 0x40 []).cap
/-- Capsules have been taken up. -/
def taken (c : Capsule) : Ring := { sqHead := 64, sqTail := 64, accepted := [⟨c, 5, List.replicate 32 0⟩, ⟨bareCap 0, 5, List.replicate 32 0⟩], reserved := 2 }
/-- What waits at the head. -/
def acc (c : Capsule) : Accepted := ⟨c, 5, List.replicate 32 0⟩
/-- A capsule in flight with all its frames sent. -/
def flight : InFlight := { opcode := 1, tag := 9, doneReq := true, gen := 5, left := 0, sent := 1, stamp := some 100 }
/-- A state that a witness below takes. -/
def case07a : State := { live with fp := { live.fp with event := 0x1F, eventEn := 0x10, nme := 3 } }
/-- A state that a witness below takes. -/
def case07b : State := { live with fp := { live.fp with event := 1, eventEn := 0x10, nme := 1 } }
/-- Counters have counted. -/
def counted : State := { live with fp := { live.fp with eventCnt := [(4, 7), (5, 9), (6, 1)], nmeCnt := [(1, 3)] } }
/-- A state that a witness below takes. -/
def case07c : State := { live with kw := { live.kw with status := { linkUp := true } } }
/-- Flow 4's ring is set up and stopped. -/
def stopped4 : State := { dataUp with kw := { dataUp.kw with rings := [(4, { sqAddr := 0x10000, cqAddr := 0x20000, seqBase := 5, sqTail := 64 })] } }
/-- A state that a witness below takes. -/
def case07d : State := ring3 { (taken sendCap) with inflight := [flight] }
/-- A completion of one frame. -/
def doneRecv : Completion := { opcode := 0x81, flags := 0, flow := 3, fcount := 0, tag := 0, status := .ok, seq := 7, stamp := some 50, args := List.replicate 40 0
                               payload := frame64.map some, span := 2, frames := 1, frameBytes := 64, staged := 64 }
/-- Open capsules of one and of two frames. -/
def openOne : OpenMulti := { gen := 5, stamp := 40, byDefault := false, frames := [(frame64, 0, 40)], sci := 0, lines := 3 }
/-- Two frames. -/
def openTwo : OpenMulti := { openOne with frames := [(frame64, 0, 40), (frame64, 0, 60)], lines := 5 }
/-- A received frame. -/
def rx64 : RxFrame := { bytes := frame64.map some, stamp := 40, warded := true }
/-- Its flow's rule is its DA. -/
def ruled (s : State) : State := { s with flows := [(3, { flow3 with rule := { matchBits := 1, da := frame64.take 6 } })], kw := { s.kw with ready := [rx64] } }
/-- A held frame. -/
def held3 : HeldFrame := ⟨3, { rx64 with cls := some ⟨3, 5, false, none, 0⟩ }⟩
/-- It waits. -/
def holdsOne : State := let s := ring3 {}; { s with kw := { s.kw with hold := [held3] } }
/-- A frame has arrived at Ward. -/
def rxW : RxFrame := { bytes := frame64.map some, stamp := 40 }
/-- An MKPDU. -/
def rxM : RxFrame := { bytes := ([0x01, 0x80, 0xC2, 0x00, 0x00, 0x03, 1, 2, 3, 4, 5, 6, 0x88, 0x8E] ++ List.replicate 50 0).map some, stamp := 40 }
/-- At Ward, with MKA running. -/
def atWard (x : RxFrame) (en : Bool) : State := { dataUp with
  kw := { dataUp.kw with arrived := [x] }
  ward := { dataUp.ward with linkEn := en, mkaEn := true, cak := some (List.replicate 32 1, List.replicate 16 2, false) } }
/-- A SAK. -/
def sakIn : MkaSak := { an := 1, sak := List.replicate 32 7, salt := List.replicate 12 8, ssci := [1, 2, 3, 4] }
/-- A flow context with a DA rule. -/
def ctxBytes (assoc : List Byte) : List Byte := fitBytes 64 (packBytes 24 [(48, 0x0123456789), (16, 0), (16, 0), (8, 1)] ++ fitBytes 32 assoc)
/-- A context with an association whose SCI is its rule. -/
def wardedCtx : List Byte := packBytes 24 [(48, 0), (16, 0), (16, 0), (8, 8), (8, 0), (64, 0x42)] ++ packBytes 32 [(64, 0x41), (64, 0x42), (8, 7), (8, 2)] ++ List.replicate 8 0
/-- Flow requests of flow 3. -/
def flowReq (op : Nat) (fields : List (Nat × Nat)) (bs : List Byte) : Request := req op ((16, 3) :: (16, 0) :: fields) bs
/-- Flow 3 exists with an association and keys. -/
def keyed3 : State := { dataUp with
  flows := [(3, { flow3 with assoc := packBytes 32 [(64, 0x51), (64, 0x52), (8, 7), (8, 2)] })]
  ward := { dataUp.ward with slots := [(6, { state := 2, an := 1, sak := List.replicate 32 9 })] } }
/-- A state that a witness below takes. -/
def case07e : State := asks (let s := holdsOne; { s with kw := { s.kw with rings := [(controlRing, live.ring controlRing)] } }) (flowReq 0x62 [(32, 5)] [])
/-- Requests that name flow 0. -/
def flow0Req (op : Nat) (bs : List Byte) : Request := req op [(16, 0), (16, 0)] bs

/-! ### The engines and the coefficient store -/

/-- A slot entry over segments 0 to 15. -/
def slotW (task pair start budget : Nat) : BitVec 64 := BitVec.ofNat 64 (task + 2 ^ 8 * pair + 2 ^ 14 * 15 + 2 ^ 32 * start + 2 ^ 48 * budget)
/-- Four slots that cover the profile without a link, on one engine. -/
def tableOn (e : Nat) : Sparse (BitVec 64) :=
  [(16 * e, slotW 1 0 0 10), (16 * e + 1, slotW 1 1 10 10), (16 * e + 2, slotW 0x11 0 20 10), (16 * e + 3, slotW 0x11 1 30 10)]
/-- An open staging of generation 4, and a table in force on engine 0. -/
def staged (t : Sparse (BitVec 64)) : State := { live with eng := { live.eng with bankA := tableOn 0, bankB := t, lastGen := 4, staging := some { gen := 4, host := true } } }
/-- SLOT_STAGE OPEN, WRITE of an entry of engine 5, CLEAR of engine 0, and SLOT_COMMIT. -/
def openReq : Request := req 0x64 [(8, 0)]
/-- WRITE. -/
def writeReq : Request := req 0x64 [(8, 1), (8, 1), (8, 5), (8, 2), (8, 1), (24, 0), (32, 4)] (leBytes 8 (slotW 1 0 0 10).toNat)
/-- CLEAR. -/
def clearReq : Request := req 0x64 [(8, 2), (8, 1), (8, 0), (8, 0), (32, 0), (32, 4)]
/-- SLOT_COMMIT. -/
def commitReq : Request := req 0x65 [(64, 0), (32, 4)]
/-- It is armed. -/
def armed4 : Staging := { gen := 4, host := true, state := 3, tag := some 7 }
/-- With its SLOT_COMMIT. -/
def armedTable : State := let s := staged (tableOn 1); { runs s commitReq with eng := { s.eng with staging := some armed4 } }
/-- A lone request for bank 3. -/
def lone : StoreCycle := { cycle := 9, asks := [{ who := 96, slot := 0, banks := 8, lines := 4, line := 100, write := false, done := 0 }], withdrawn := [], errors := [] }
/-- A grant in force on bank 1, and a dead cycle on bank 2. -/
def granting (held : Nat) : State := { live with eng := { live.eng with
  store := [{}, { grant := some { who := 4, slot := 0, lines := 9, held := held } }, { dead := true }] ++ List.replicate 5 {} } }
/-- Engine 0 has failed, and a spare is chosen. -/
def broken : State := { staged [] with eng := { (staged []).eng with staging := none, repairQueue := [(0, 2), (9, 1)], profile := .noLink } }
/-- The repair in progress. -/
def mending : State := { broken with eng := { broken.eng with repairQueue := [(9, 1)], repair := some { failed := 0, spare := 1, cause := 2 } } }
/-- A staging is armed. -/
def mendingArmed : State := { mending with eng := { mending.eng with staging := some armed4 } }
/-- A swap of programs with no slots anywhere. -/
def swapping : State := { live with ben := { live.ben with swapLeft := 3 } }

/-! ### Ward, SPDM and Hasp -/

/-- Flow 3 with an association, NEXT and CURRENT slots. -/
def keys3 : State := { keyed3 with ward := { keyed3.ward with
  slots := [(6, { state := 2, an := 1, sak := List.replicate 32 9 }), (7, { state := 1, an := 2, sak := List.replicate 32 8 })]
  info := [(3, { tenant := some 5 })], keks := [(0, ⟨some (List.replicate 32 3), some 1, false⟩), (5, ⟨some (List.replicate 32 4), some 77, true⟩)] } }
/-- WARD_KAT, SA_ADVANCE and KEY_ERASE of flow 3. -/
def katReq : Request := req 0x70 []
/-- SA_ADVANCE. -/
def advReq : Request := req 0x71 [(16, 3), (16, 0), (32, 5)]
/-- KEY_ERASE. -/
def eraReq : Request := req 0x72 [(16, 3), (16, 0), (32, 5)]
/-- Ward untested, with a stored CAK. -/
def untested : State := { keys3 with ward := { keys3.ward with tested := false }, nvm := { keys3.nvm with cak := some ([1], [2]) } }
/-- It has a session too. -/
def owner : Session := { sid := 2, established := true, requester := some (77, 99) }
/-- A secured session of the owner. -/
def owned : State := { keys3 with
  fuse := { keys3.fuse with ownerHash := some 99 }
  kw := { keys3.kw with status := { linkUp := true } }
  spdm := { phase := 3, sessions := [{ sid := 0 }, owner] } }
/-- The latch is set. -/
def latchedHasp : State := { owned with hasp := { owned.hasp with latched := true } }
/-- The erasure is pending. -/
def erasing : State := { keys3 with nvm := { keys3.nvm with erasePending := true } }
/-- A message over it. -/
def msg (body : List Byte) : WardMsg := ⟨some 2, 0x1234, body⟩
/-- KEY_INSTALL for flow 3, generation 5, AN 3, tenant 5. -/
def installMsg : WardMsg := msg (packBytes 8 [(16, 3), (8, 3), (8, 5), (32, 5)] ++ List.replicate 56 6)
/-- CAK_INSTALL. -/
def cakMsg : WardMsg := msg (packBytes 8 [(8, 1), (8, 16)] ++ List.replicate 32 6 ++ List.replicate 40 1)
/-- The other mode. -/
def otherMode : State := { owned with nvm := { owned.nvm with approved := !owned.nvm.approved } }
/-- A state that a witness below takes. -/
def case09a : State := { owned with nvm := { owned.nvm with approved := true }, hasp := { owned.hasp with cfg := 0 } }
/-- A deployed device. -/
def deployed : State := { owned with fuse := { owned.fuse with lifecycle := .deployed } }
/-- No owner has been burned. -/
def ownerless : State := { owned with fuse := { owned.fuse with ownerHash := none } }
/-- Classes 0 to 3 on sensors 0 to 3. -/
def classes : State := { owned with hasp := { owned.hasp with cfg := 0x3210 } }
/-- A state that a witness below takes. -/
def case09b : State := { classes with hasp := { classes.hasp with cfg := 0x3000000 } }
/-- A state that a witness below takes. -/
def case09c : State := { classes with pwr := { classes.pwr with warmHeld := true } }
/-- Every sensor has tripped. -/
def allTripped : State := { classes with hasp := { classes.hasp with tripped := 0x7F } }
/-- The mesh has class 3. -/
def meshZeroizes : State := { owned with hasp := { owned.hasp with cfg := 3 } }
/-- The device has both certificate chains. -/
def certified : State := { owned with nvm := { owned.nvm with cert0 := [1, 2, 3], cert1 := [4, 5, 6, 7] } }
/-- Four sessions are open. -/
def full4 : State := { owned with spdm := { phase := 3, sessions := [{ sid := 0 }, owner, { sid := 1 }, { sid := 3 }] } }

/-! ### The link -/

/-- The line commands. -/
def upReq : Request := req 0x48 []
/-- LINK_DOWN. -/
def downReq : Request := req 0x49 []
/-- TRAIN with TYPE. -/
def trainReq (t : Nat) : Request := req 0x4A [(8, t)]
/-- Asleep, and administratively down in sleep. -/
def dormant : State := { linkAt live 1 with pwr := { live.pwr with state := .dormant, dormAuto := true }, dl := { live.dl with deep := true } }
/-- A state that a witness below takes. -/
def case10a : State := asks { native with link := { native.link with frOk := false } } (trainReq 1)
/-- A ladder reset waits. -/
def resetWaits : State := { linkAt live 1 with link := { (linkAt live 1).link with ladderPos := 4, resetDue := true } }
/-- A negotiation has begun; the partner has sent its pages and its native message. -/
def negotiating : State := { linkAt live 1 with link := { (linkAt live 1).link with neg := { begun := true } } }
/-- With the partner's abilities: a base page, standard rungs, and the native message. -/
def heard (rungs : Nat) (nat : Option (Nat × Nat × Nat)) : State := { negotiating with
  link := { negotiating.link with neg := { begun := true, seed := 5, rungs := 0xFF, sent := some 0x83, burst := true, basePage := some 1, stdRungs := rungs, native := nat } } }
/-- Another partner than that of the last link, with the ladder stepped down. -/
def strange : State := { heard 0xFC none with link := { (heard 0xFC none).link with lastPartner := some (7, 7, 7, 7), ladderPos := 5 } }
/-- A state that a witness below takes. -/
def case10b : State := { native with link := { native.link with energy := 15 } }
/-- A training or header word with its check. -/
def tword (fields : List (Nat × Nat)) : BitVec 64 := let v := packNat ((16, 0) :: fields) / 65536; BitVec.ofNat 64 (v * 65536 + crc16 (msbBits 48 v))
/-- Measurements of a period. -/
def meas : TrainMeas := { residual := Quad.all 500, snr := Quad.all 300, afcMove := 0, mapDone := true }
/-- A native training in a phase. -/
def training (n : Nat) (slave : Bool) : State := { linkAt native n with link := { (linkAt native n).link with
  role := slave, map := {}, train := { cd := 1, expect := some 9, farTwo := 3, tseq := 3 } } }
/-- A phase change. -/
def phase : PhaseEnd := { background := Quad.all (-600), heard := true, far := ⟨0, 1, 2, 3⟩, inv := Quad.all false, delay := Quad.all 3, offset := 40
                          pga := Quad.all 5, freq := 300000, mse := Quad.all 100 }
/-- A phase change that a witness below takes. -/
def case10c : PhaseEnd := { phase with background := Quad.all (-500) }
/-- The master at the end of its turn. -/
def turned : State := let s := training 4 false; { s with link := { s.link with train := { s.link.train with turnReady := true, pos := 6176 } } }
/-- A native link in data that receives, after a period without a valid header. -/
def receiving : State := { native with link := { native.link with upSince := 5 }, lc := { native.lc with run := { native.lc.run with rxOn := true, badRun := 2 } } }
/-- A standard mode in a state. -/
def stdAt (n : Nat) : State := { linkAt live n with link := { (linkAt live n).link with mode := some 3, frOk := true } }
/-- A native link whose partner's STATUS has a field at 1. -/
def farStatus (s : State) (i : Nat) : State := { s with lc := { s.lc with run := { s.lc.run with stRx := modAt s.lc.run.stRx i (fun x => { x with val := 1 }) } } }
/-- A state that a witness below takes. -/
def case10d : State := { farStatus native 4 with link := { native.link with ra := true } }
/-- A state that a witness below takes. -/
def case10e : State := { farStatus native 0 with link := { native.link with frOk := false } }
/-- Both ends have asked for the fast retrain. -/
def askedBoth : State := let s := farStatus native 5; { s with
  link := { s.link with frt := { want := true, since := 3 } }
  lc := { s.lc with run := { s.lc.run with stTx := modAt s.lc.run.stTx 5 (fun _ => { want := 1, now := 1, age := 8 }) } } }
/-- It runs. -/
def retraining : State := { linkAt native 9 with link := { (linkAt native 9).link with frt := { want := true, started := some 4 }, train := { cd := 1 } } }
/-- A TRAIN waits for it. -/
def retrainAsked : State := runs retraining (trainReq 1)
/-- An accepted message waits. -/
def messaged (m : Nat) : State := { training 6 true with lc := { native.lc with run := { native.lc.run with ifMsgs := [(m, 20)] } } }
/-- THP_COEF of pair 2, THP_SWITCH, PEER_ID and ACK. -/
def coefMsg : Nat := packNat [(6, 1), (2, 2), (6, 4), (1, 0), (2, 1), (14, 5), (14, 6), (14, 7), (4, 3)]
/-- THP_SWITCH of all pairs, set 1, at SEQ 30. -/
def switchMsg : Nat := packNat [(6, 2), (4, 15), (2, 1), (8, 30), (39, 0), (4, 3)]
/-- PEER_ID. -/
def peerMsg : Nat := packNat [(6, 4), (53, 12345), (4, 3)]
/-- An ACK of PEER_ID number 2. -/
def ackIn : Nat := packNat [(6, 3), (2, 0), (6, 4), (4, 2), (1, 0), (40, 0), (4, 3)]
/-- The staged sets are full. -/
def stagedSets : State := let s := messaged switchMsg; { s with lc := { s.lc with pre := Quad.all { stgSet := 1, stgSeen := 0xFFFF, stgTaps := List.replicate 48 1 } } }
/-- A state that a witness below takes. -/
def case10f : State := { stagedSets with lc := { stagedSets.lc with run := { stagedSets.lc.run with ifMsgs := [(switchMsg, 27)] } } }
/-- A state that a witness below takes. -/
def case10g : State := { stagedSets with lc := { stagedSets.lc with run := { stagedSets.lc.run with ifMsgs := [(switchMsg, 158)] } } }
/-- A state that a witness below takes. -/
def case10h : State := { stagedSets with lc := { stagedSets.lc with run := { stagedSets.lc.run with ifMsgs := [(switchMsg, 157)] } } }
/-- The message repeats the one before. -/
def repeating (m : Nat) : State := let s := messaged m; { s with lc := { s.lc with run := { s.lc.run with ifLast := some (msgType m, msgSeq m, true) } } }
/-- A message of this end that awaits its ACK. -/
def outMsg (sends : Nat) : IfOut := { msg := packNat [(6, 4), (53, 777), (4, 2)], sends := sends, waited := 100, due := false }
/-- A switch of this end. -/
def outSwitch : IfOut := { msg := packNat [(6, 2), (4, 15), (2, 1), (8, 30), (39, 0), (4, 2)], sends := 1, waited := 100, due := false }
/-- A NAK of it. -/
def nakIn : Nat := packNat [(6, 3), (2, 0), (6, 2), (4, 2), (1, 1), (40, 0), (4, 3)]
/-- A message is out. -/
def waitsAck (m : Nat) (o : IfOut) : State := let s := messaged m; { s with lc := { s.lc with run := { s.lc.run with ifOut := some o } } }
/-- A switch of two pairs at SEQ 30, and of others later. -/
def dueSwitch : Switch := { at' := 30, sets := ⟨some (1, List.replicate 48 2), none, some (1, [5]), none⟩ }
/-- Its SEQ is next. -/
def switchDue : State := let s := stagedSets; { s with
  link := { s.link with train := { s.link.train with tseq := 30 } }
  lc := { s.lc with run := { s.lc.run with pendSwitch := [dueSwitch, { dueSwitch with at' := 31 }] } } }
/-- A released period of which nothing is decoded outside. -/
def release : DecodeIn := { stdWords := [], stdFrames := [], points := Quad.all [] }
/-- A native link in data that receives, in another link or receive state. -/
def receivesIn (n q : Nat) : State := let s := receiving; { s with link := { s.link with state := n }, ql := { s.ql with run := { s.ql.run with rxState := q } } }
/-- A frame of a standard mode. -/
def stdFrame : StdFrame := ⟨frame64.map (fun b => (some b, 0)), true, 77⟩
/-- A codeword of one. -/
def stdWord : StdCodeword := ⟨[(0, 2, 5, 100)], 2048, some 3⟩
/-- The last codeword was flagged. -/
def flagging : State := { stdAt 8 with rx := { (stdAt 8).rx with flagged := [true] } }
/-- A release that a witness below takes. -/
def case10i : DecodeIn := { release with stdFrames := [stdFrame] }
/-- A frame that a witness below takes. -/
def case10j : StdFrame := { stdFrame with good := false }
/-- A release that a witness below takes. -/
def case10k : DecodeIn := { release with stdFrames := [case10j] }
/-- A release that a witness below takes. -/
def case10l : DecodeIn := { release with stdWords := [stdWord] }
/-- The guard is due; a pair's lag, error or coefficients stand out, or none. -/
def guarded (x : RxPair) (act fr : Bool) : State := { native with
  link := { native.link with frOk := fr }
  rx := { native.rx with ctl := { native.rx.ctl with dgAction := act }, dgCount := 1024, pair := (Quad.all { mse := 100, snap := 100, mseSet := true }).put 2 x } }
/-- A pair that stands out in nothing. -/
def calm : RxPair := { mse := 100, snap := 100, mseSet := true }
/-- A state that a witness below takes. -/
def case10m : State := guarded { calm with lagRun := 1024 } true true
/-- A state that a witness below takes. -/
def case10n : State := guarded { calm with mse := 1000 } false true
/-- A state that a witness below takes. -/
def case10o : State := guarded { calm with coef := { ffe := [100] }, snapCoef := { ffe := [50] } } false false
/-- A state that a witness below takes. -/
def case10p : State := guarded { calm with lagRun := 1023 } false true

/-! ### The die link and the power states -/

/-- No lane has been mapped. -/
def unmapped : State := { native with dl := { searches := 1 } }
/-- A lane test that is good, or bad. -/
def laneT (good : Bool) : LaneTest := ⟨good, 3, 30, 0⟩
/-- A search runs. -/
def searching : State := { live with dl := { searches := 1, searching := some 0 } }
/-- Dormant is wanted by the administrator. -/
def sleepy : State := let s := linkAt live 0; { s with pwr := { s.pwr with dormAdmin := true } }
/-- A state that a witness below takes. -/
def case11a : State := let s := linkAt live 1; { s with pwr := { s.pwr with dormAuto := true, dormIdle := 1 }, time := 20000000 }
/-- A substitution runs as the device falls asleep. -/
def sleepyLane : State := { sleepy with dl := { sleepy.dl with outb := { sleepy.dl.outb with subst := some { logical := 3, old := 3, spare := 24, cause := 2 } } } }
/-- A state that a witness below takes. -/
def case11b : State := { dormant with pwr := { dormant.pwr with dormAuto := false } }
/-- The exit has begun. -/
def leaving : State := { dormant with pwr := { dormant.pwr with dormExit := true } }
/-- The die link runs on lanes 0 to 23, and words wait to be sent again. -/
def laned : State := { native with dl := { native.dl with
  outb := { native.dl.outb with resend := [{ frame := 2, lane := 4, words := 900 }] } } }
/-- A payload of one lane. -/
def payload7 : List (BitVec 32) := List.replicate 62 7
/-- Lane 5 has failed three times. -/
def thrice (inb : Bool) : State := { native with dl := { native.dl with
  outb := { native.dl.outb with lanes := modAt native.dl.outb.lanes 5 (fun l => { l with recent := if inb then [] else [6, 5, 4] }) }
  inb := { native.dl.inb with lanes := modAt native.dl.inb.lanes 5 (fun l => { l with recent := if inb then [6, 5, 4] else [] }) } } }
/-- A substitution runs outbound. -/
def substituting (ann : Option Nat) : State := { native with dl := { native.dl with outb := { native.dl.outb with
  subst := some { logical := 3, old := 3, spare := 24, cause := 2, announced := ann } } } }
/-- It. -/
def subst3 (ann : Option Nat) : Subst := { logical := 3, old := 3, spare := 24, cause := 2, announced := ann }
/-- Spares are spent. -/
def noSpares (m : Rung) : State := { native with
  link := { native.link with mode := some m }
  dl := { native.dl with outb := { native.dl.outb with lanes := modAt (modAt native.dl.outb.lanes 24 (fun l => { l with logical := 0xFE })) 25 (fun l => { l with logical := 0xFE }) } } }
/-- A state that a witness below takes. -/
def case11c : State := { substituting (some 20) with dl := { (substituting (some 20)).dl with frameNo := 20 } }

/-! ### Quiet-Latch -/

/-- The quiet run in a state. -/
def qlAt (s : State) (f : QlRun → QlRun) : State := { s with ql := { s.ql with run := f s.ql.run } }
/-- No engine is left. -/
def noEngines : State := { native with eng := { native.eng with eng := List.replicate 96 { retired := true } } }
/-- The transmit direction is idle and the profile staged. -/
def entering : State := let s := qlAt native (fun q => { q with txState := 1 }); { s with
  eng := { s.eng with staging := some { gen := 9, host := false, state := 2, profile := some .ql100 }, lastGen := 9 }
  lc := { s.lc with run := { s.lc.run with stTx := modAt s.lc.run.stTx 1 (fun _ => { want := 1, now := 1, age := 8 }), stRx := modAt s.lc.run.stRx 1 (fun x => { x with val := 1 }) } } }
/-- A condition fails. -/
def entryOff : State := { entering with ql := { entering.ql with ctl := { entering.ql.ctl with en := false } } }
/-- The idle conditions have held for IDLE_TIME. -/
def rested (s : State) : State := qlAt s (fun q => { q with idleSince := some (0, 0) })
/-- A host's staging has taken the place. -/
def hostStaged : State := { entryOff with eng := { entryOff.eng with staging := some { gen := 9, host := true, state := 2 } } }
/-- The receive direction is quiet already. -/
def enteringBoth : State := qlAt entering (fun q => { q with rxState := 1 })
/-- Quiet, in a quiet period. -/
def quietTx (k : Nat) (f : QlRun → QlRun) : State := let s := qlAt native (fun q => f { q with txState := 2, qc := some k }); { s with pwr := { s.pwr with state := .quietLatch } }
/-- A state that a witness below takes. -/
def case12a : State := quietTx 64 (fun q => { q with waitFar := 64 })
/-- A state that a witness below takes. -/
def case12b : State := quietTx 64 (fun q => { q with farQr0 := 3 })
/-- A state that a witness below takes. -/
def case12c : State := quietTx 1562 (fun q => { q with wakeDue := some (1, 5) })
/-- A state that a witness below takes. -/
def case12d : State := quietTx 70 (fun q => { q with wakeDue := some (1, 5), laid := true })
/-- The receive direction in a state of Quiet-Latch. -/
def quietRx (n : Nat) (f : QlRun → QlRun) : State := { qlAt native (fun q => f { q with rxState := n }) with pwr := { native.pwr with state := .quietLatch } }
/-- A state that a witness below takes. -/
def case12e : State := quietRx 1 (fun q => { q with missRow := 8 })
/-- The chips of a pair's far end, as ADC codes. -/
def chipCodes (p : Pair) : List Int := (native.link.map.chips p).map (fun v => 100 * ⌊v⌋)
/-- The first repetition ends on pairs 0 and 1. -/
def heardChips : RxInstant := ⟨511, ⟨chipCodes 0, chipCodes 1, [], []⟩⟩
/-- An instant in silence. -/
def silent (n : Nat) : RxInstant := ⟨n, Quad.all []⟩
/-- The samples of a sync word at the end of a period. -/
def heardSync (seq : Nat) : RxInstant := ⟨1023, Quad.all (List.replicate 960 0 ++ (wordSymbols 16 (syncWord seq 5)).map (6 * ·))⟩
/-- A quiet link whose reception is in a state. -/
def hearing (n : Nat) (r : Reception) : State := qlAt native (fun q => { q with txState := 2, rxState := n, rx := some r })
/-- The same in a later timeline period. -/
def hearingIn (m n : Nat) (r : Reception) : State := { hearing n r with eng := { native.eng with period := m } }
/-- A state that a witness below takes. -/
def case12g : State := qlAt native (fun q => { q with txState := 2, rxState := 1 })
/-- An instant that a witness below takes. -/
def case12h : RxInstant := { heardChips with pos := 500 }
/-- Captured at symbol 0. -/
def captured0 : Reception := { capture := some 0, pairs := 3 }
/-- Latched at a symbol, with reference strengths. -/
def latchedAt (n : Nat) (ref : Int) : Reception := { latch := some n, pairs := 3, ref := Quad.all ref }
/-- A reception that a witness below takes. -/
def case12i : Reception := { latchedAt 100 0 with settle := 4 }
/-- A state that a witness below takes. -/
def case12j : State := hearing 4 case12i
/-- A reception that a witness below takes. -/
def case12k : Reception := { latchedAt 100 0 with hdr := true }
/-- A state that a witness below takes. -/
def case12l : State := hearing 4 case12k
/-- A state that a witness below takes. -/
def case12m : State := quietRx 6 (fun q => { q with listen := some (0, 1), listenHeld := some (Quad.all { pga := 7 }) })
/-- A standard link with an idle, and a T40 partner's. -/
def stdIdle (legacy : Bool) (tx rx : Nat) : State := let s := qlAt (stdAt 8) (fun q => { q with txState := tx, rxState := rx, rx := some (latchedAt 100 0) }); { s with
  link := { s.link with eee := !legacy, legacyIdle := legacy }, clk := { s.clk with adcDiv := 2 } }
/-- The chips of the 2.0 GBd segment at 8.0 GS/s on pair 0. -/
def heardSegment : RxInstant := ⟨1023, ⟨(legacySegment.take 256).flatMap (fun v => List.replicate 4 (50 * v)), [], [], []⟩⟩

/-! ### Knuckle and calibration -/

/-- SHED of pair 2, and REINSTATE. -/
def shedReq : Request := req 0x4B [(8, 0), (8, 2)]
/-- REINSTATE. -/
def reinReq : Request := req 0x4B [(8, 1)]
/-- Knuckle in a state, pair 2 shed. -/
def knAt (n : Nat) (f : KnRun → KnRun) : State := { native with kn := { native.kn with run := f { state := n, shed := 2, txForm := 2 ≤ n, rxForm := 2 ≤ n } } }
/-- STATUS fields: what the partner shows, and what this end wants and sends. -/
def status (s : State) (far own : List (Nat × Nat)) : State := { s with lc := { s.lc with run := { s.lc.run with
  stRx := far.foldl (fun l x => modAt l x.1 (fun y => { y with val := x.2 })) s.lc.run.stRx
  stTx := own.foldl (fun l x => modAt l x.1 (fun y => { y with want := x.2, now := x.2 })) s.lc.run.stTx } } }
/-- This end refuses. -/
def refusing : State := let s := status native [(2, 1), (6, 2)] []; { s with kn := { s.kn with accept := false } }
/-- This end has asked. -/
def asking (far : List (Nat × Nat)) : State := status (knAt 1 (fun k => { k with request := some (true, 7) })) far [(2, 1), (6, 2)]
/-- It is the master, or refuses. -/
def askingAs (slave acc : Bool) (far : List (Nat × Nat)) : State := let s := asking far; { s with link := { s.link with role := slave }, kn := { s.kn with accept := acc } }
/-- A state that a witness below takes. -/
def case13a : State := status (knAt 4 (fun k => { k with partnerAsked := true })) [(6, 2)] [(3, 1)]
/-- The forms change. -/
def changing : State := let s := status (knAt 4 (fun k => { k with txAt := some 40, rxAt := some 50, rxForm := false })) [] []; { s with lc := { s.lc with run := { s.lc.run with txSeq := 40, rxSeq := 50, rxOn := true } } }
/-- A state that a witness below takes. -/
def case13b : State := status (knAt 3 (fun k => { k with ready := true, farReady := true })) [] [(2, 1)]
/-- A state that a witness below takes. -/
def case13c : State := status (knAt 3 (fun k => { k with ready := true, farReady := true, partnerAsked := true })) [] [(3, 1)]
/-- A staging is armed as pair training goes on. -/
def trainingArmed : State := let s := knAt 3 id; { s with eng := { s.eng with staging := some armed4 } }
/-- CAL_RUN of items on pairs. -/
def calReq (items ps : Nat) : Request := req 0x50 [(8, items), (8, ps), (16, 0), (32, 100)]
/-- A run with items left. -/
def calRun0 (left : List (Nat × Nat)) : CalRun := { tag := 7, items := 31, pairs := 15, left := left, results := [0, 0, 0, 0, 0] }
/-- It goes on. -/
def calibrating (left : List (Nat × Nat)) : State := { runs native (calReq 31 15) with cal := { native.cal with run := some (calRun0 left) } }
/-- Pair 1 has accumulated something. -/
def estimating (left : List (Nat × Nat)) (e : PairEst) : State := let s := calibrating left; { s with cal := { s.cal with est := s.cal.est.put 1 e } }
/-- Full sums of every slice, with a mean of its own in slice 0. -/
def fullSums (m : Int) : List SliceSum :=
  { n := 1048576, sum := 1048576 * m, sq := 104857600, prodN := 1048575, prod := 1000 } :: List.replicate 31 { n := 1048576, sum := 0, sq := 104857600, prodN := 1048575, prod := 1000 }
/-- A swap's comparison runs. -/
def swapping1 : State := let s := calibrating [(1, 1)]; { s with cal := { s.cal with pair := { s.cal.pair with p1 := { s.cal.pair.p1 with swap := some { pos := 3, out := 3, inc := 33 } } } } }
/-- No engine is free. -/
def busyAll : State := let s := calibrating [(0, 0), (0, 1), (2, 0)]; { s with eng := { s.eng with eng := List.replicate 96 { retired := true } } }
/-- One item is left. -/
def busyLast : State := { busyAll with cal := { busyAll.cal with run := some (calRun0 [(2, 0)]) } }
/-- CAL_EXPORT and CAL_IMPORT. -/
def exportReq : Request := req 0x51 [(32, 0), (64, 0x1000), (32, 2240), (32, 9)]
/-- CAL_IMPORT. -/
def importReq : Request := req 0x52 [(32, 0), (64, 0x1000), (32, 2240)]
/-- The window is open; the link is down or up. -/
def exporting (n : Nat) : State := windowed (linkAt native n)

/-! ### Cable diagnostics -/

/-- DIAG_TDR of tests on pairs. -/
def diagReq (tests ps : Nat) : Request := req 0x53 [(8, tests), (8, ps), (16, 100)]
/-- A run with measurements left. -/
def diagRun0 (left : List Nat) (acc disc : Nat) : DiagRun := { tag := 7, tests := 3, pairs := 15, outAddr := 0, outLen := 0, left := left, accepted := acc, discardedHere := disc
                                                               blocks := 2, range := 1000, stepThr := 13, endThr := 154 }
/-- It goes on. -/
def diagnosing (r : DiagRun) : State := { runs (linkAt live 0) (diagReq 3 15) with diag := { live.diag with run := some r } }
/-- A block of two pulses, with energy from outside on some pairs. -/
def dblock (e : BitVec 4) : DiagBlock := { pulses := [Quad.all [0, 3, -5, 9], Quad.all [1, 4, -5, 8]], energy := e, marked := 0 }
/-- The run after a command. -/
def runAfter (c : Instr) (r : DiagRun) : DiagRun := (match exec c (diagnosing r) with | .next t => t.diag.run.getD (diagRun0 [] 0 0) | _ => diagRun0 [] 0 0)
/-- No engine is free. -/
def noneFree (left : List Nat) : State := { diagnosing (diagRun0 left 1 7) with eng := { live.eng with eng := List.replicate 96 { retired := true } } }
/-- A run on the shed pair that waits for its QUIET_ACK. -/
def shedRun : DiagRun := { diagRun0 [2] 0 0 with onShed := true, asking := true }
/-- A QUIET_ACK and a QUIET_REQ for the pair. -/
def quietItem (typ res : Nat) : List Byte := packBytes 60 [(16, typ), (8, 1), (8, 0), (32, 0), (8, 2), (8, 1), (8, res), (8, 0)]
/-- In Knuckle form, with an item in. -/
def shedDiag (x : List Byte) : State := let s := knAt 2 id; { s with
  diag := { s.diag with run := some shedRun }
  cyo := { s.cyo with running := [diagReq 3 4] }
  lc := { s.lc with oamIn := [x] } }
/-- In four-pair form. -/
def fourPairs : State := { native with lc := { native.lc with oamIn := [quietItem 2 5] } }

/-! ### Ill-formed commands are refused by WellFormed, one for each check -/

/-- A header without a payload. -/
def anyCap : Capsule := { opcode := 0, flags := 0, flowWord := 0, length := 0, spanWord := 1, tag := 0, status := 0, args := List.replicate 40 0, payload := [] }
/-- An MKPDU without a SAK. -/
def anyMka : MkaIn := { icvGood := true, live := true, peerSci := List.replicate 8 1, sak := none, advance := false }
/-- An empty store cycle. -/
def anyCycle : StoreCycle := { cycle := 0, asks := [], withdrawn := [], errors := [] }
/-- A start-up test without failures. -/
def anyStart : StartUpEnd := { excursion := false, engines := [], lanesOut := [], lanesIn := [], slices := [], cells := [], ldpc := false, pairs := 0, signature := 0 }
/-- An empty release. -/
def anyDecode : DecodeIn := { stdWords := [], stdFrames := [], points := Quad.all [] }
/-- An instant past the end of a period. -/
def late : RxInstant := { pos := 1024, part := Quad.all [] }

theorem test_wf_rings_and_flows : (Instr.nop 1000).wf = false ∧ (Instr.nop 1023).wf = true ∧ (Instr.sendDone 1024).wf = false ∧
    (Instr.submissionFetch 1000 anyCap).wf = false ∧ (Instr.submissionFetch 3 { anyCap with args := [] }).wf = false ∧
    (Instr.submissionFetch 3 { anyCap with payload := [1] }).wf = false ∧ (Instr.submissionFetch 3 anyCap).wf = true ∧
    (Instr.send 1023).wf = false ∧ (Instr.sendMulti 1000).wf = false ∧ (Instr.fence 1000).wf = false ∧ (Instr.ringEnable 1000 0).wf = false ∧
    (Instr.ringStop 1000 0).wf = false ∧ (Instr.sqTailWrite 1000 0).wf = false ∧ (Instr.cqHeadWrite 1000 0).wf = false ∧ (Instr.ringReset 1000).wf = false ∧
    (Instr.completionWrite 1000).wf = false ∧ (Instr.completionObserved 1000).wf = false ∧ (Instr.rxMultiClose 1023).wf = false ∧
    (Instr.irqHoldoffExpiry 1000).wf = false ∧ (Instr.heldFrameDelivery 1000).wf = false ∧ (Instr.perstAssert [1000]).wf = false := by decide

theorem test_wf_register_accesses : (Instr.fpEventCntRead 8 false).wf = false ∧ (Instr.fpEventCntRead 3 true).wf = false ∧
    (Instr.fpNmeCntRead 4 false).wf = false ∧ (Instr.fpNmeCntRead 1 true).wf = false ∧ (Instr.windowWrite 64 0 false 0).wf = false ∧
    (Instr.windowWrite 0 16 false 0).wf = false ∧ (Instr.windowWrite 0 4 true 0).wf = false ∧ (Instr.registerWrite 5 0 false 0).wf = false ∧
    (Instr.registerWrite 0 2 false 0).wf = false ∧ (Instr.cxlLinkUp 3 32).wf = false ∧ (Instr.cxlLinkUp 8 7).wf = false ∧
    (Instr.smbReadFpId 128 false).wf = false ∧ (Instr.smbReadFpCaps 128 false).wf = false ∧ (Instr.smbReadFpReady 128 false).wf = false ∧
    (Instr.smbReadFpNmeStatus 128 false).wf = false ∧ (Instr.smbReadLinkStatus 128 false).wf = false ∧ (Instr.smbReadPowerState 128 false).wf = false ∧
    (Instr.smbReadTemp 128 false).wf = false ∧ (Instr.smbReadSupply 128 false).wf = false ∧ (Instr.smbReadAging 128 false).wf = false := by decide

theorem test_wf_security : (Instr.kekInstall ⟨some 65536, 0, []⟩).wf = false ∧ (Instr.kekErase ⟨none, 2 ^ 32, []⟩).wf = false ∧
    (Instr.keyInstall ⟨some 65536, 0, []⟩).wf = false ∧ (Instr.keyEraseMsg ⟨some 65536, 0, []⟩).wf = false ∧ (Instr.cakInstall ⟨some 65536, 0, []⟩).wf = false ∧
    (Instr.haspSet ⟨some 65536, 0, []⟩).wf = false ∧ (Instr.tamperClear ⟨some 65536, 0, []⟩).wf = false ∧ (Instr.modeSet ⟨some 65536, 0, []⟩).wf = false ∧
    (Instr.lifecycle ⟨some 65536, 0, []⟩).wf = false ∧ (Instr.getCertificate 8 0 0).wf = false ∧ (Instr.challenge 8 0).wf = false ∧
    (Instr.getMeasurements 256 true).wf = false ∧ (Instr.finish 65536 true none).wf = false ∧ (Instr.keyUpdate 65536).wf = false ∧
    (Instr.heartbeat 65536).wf = false ∧ (Instr.endSession 65536).wf = false ∧ (Instr.ideKm 65536 true true).wf = false ∧
    (Instr.mkpdu { anyMka with peerSci := [] }).wf = false ∧ (Instr.mkpdu { anyMka with sak := some ⟨4, [], [], []⟩ }).wf = false ∧
    (Instr.mkpdu anyMka).wf = true ∧ (Instr.haspTrip 7 true 0).wf = false := by decide

theorem test_wf_engines : (Instr.timelineBoundary [⟨96, 0, 0, 0, false⟩] (Quad.all [])).wf = false ∧ (Instr.slotDeadline 96 0 0 0).wf = false ∧
    (Instr.slotDeadline 0 16 0 0).wf = false ∧ (Instr.storeGrant { anyCycle with asks := [⟨99, 0, 1, 1, 0, false, 0⟩] }).wf = false ∧
    (Instr.storeGrant { anyCycle with asks := [⟨9, 16, 1, 1, 0, false, 0⟩] }).wf = false ∧ (Instr.storeGrant { anyCycle with asks := [⟨9, 0, 0, 1, 0, false, 0⟩] }).wf = false ∧
    (Instr.storeGrant { anyCycle with withdrawn := [99] }).wf = false ∧ (Instr.storeGrant { anyCycle with errors := [(8, 0, true)] }).wf = false ∧
    (Instr.overholdCutoff 8).wf = false ∧ (Instr.storeScrub [(8, 0, true)]).wf = false ∧
    (Instr.decodeRelease { anyDecode with stdWords := [⟨[], 0, none⟩] }).wf = false ∧
    (Instr.decodeRelease { anyDecode with stdWords := [⟨[(2, 0, 0, 1)], 8, none⟩] }).wf = false ∧
    (Instr.decodeRelease { anyDecode with stdWords := [⟨[(0, 0, 16, 1)], 8, none⟩] }).wf = false ∧ (Instr.decodeRelease anyDecode).wf = true := by decide

theorem test_wf_line : (Instr.calImport 0 []).wf = false ∧ (Instr.alignmentSearchEnd [] []).wf = false ∧ (Instr.laneFrameCheck true 26 1 (List.replicate 64 0)).wf = false ∧
    (Instr.laneFrameCheck true 0 1 []).wf = false ∧ (Instr.laneSubstitution true 26 1).wf = false ∧ (Instr.laneSubstitution true 3 5).wf = false ∧
    (Instr.laneSubstitution true 25 1).wf = true ∧ (Instr.deepLowPowerExit [26] []).wf = false ∧
    (Instr.deepLowPowerExit [] [26]).wf = false ∧ (Instr.nativeAbilityMessage 16777216 0 0 0).wf = false ∧ (Instr.nativeAbilityMessage 0 2048 0 0).wf = false ∧
    (Instr.nativeAbilityMessage 0 0 2048 0).wf = false ∧ (Instr.nativeAbilityMessage 0 0 0 2048).wf = false ∧
    (Instr.phaseChange { phase with far := Quad.all 0 }).wf = false ∧ (Instr.stdTrainingDone { phase with far := Quad.all 1 }).wf = false ∧ (Instr.phaseChange phase).wf = true ∧
    (Instr.lclkDivisionChange 0 1).wf = false ∧ (Instr.lclkDivisionChange 1 0).wf = false ∧ (Instr.onset late).wf = false ∧ (Instr.acquisitionTimeout late).wf = false ∧
    (Instr.latchPoint late).wf = false ∧ (Instr.syncWord late).wf = false ∧ (Instr.capture late).wf = false ∧ (Instr.legacyBurstDetect 0 late).wf = false ∧
    (Instr.legacyBurstDetect 3 { late with pos := 0 }).wf = false ∧ (Instr.calEstimateDone (.dielink [(true, 26, 0, 0)])).wf = false ∧
    (Instr.tdrBlockDone ⟨[], 0, 0⟩).wf = false := by decide

theorem test_wf_units : (Instr.gateCloseRequest 106).wf = false ∧ (Instr.gateIdleAck 106).wf = false ∧ (Instr.gateCloseRefused 106).wf = false ∧
    (Instr.gateReopen 106 true).wf = false ∧ (Instr.unitReset 106 true).wf = false ∧ (Instr.railUndervoltage 5).wf = false ∧ (Instr.railRecovery 5).wf = false ∧
    (Instr.sensorRead [] (List.replicate 10 0)).wf = false ∧ (Instr.sensorRead (List.replicate 6 0) []).wf = false ∧ (Instr.agingMeasure []).wf = false ∧
    (Instr.startUpTestEnd { anyStart with engines := [96] }).wf = false ∧ (Instr.startUpTestEnd { anyStart with lanesOut := [26] }).wf = false ∧
    (Instr.startUpTestEnd { anyStart with lanesIn := [26] }).wf = false ∧ (Instr.startUpTestEnd { anyStart with slices := [(4, 0)] }).wf = false ∧
    (Instr.startUpTestEnd { anyStart with slices := [(0, 36)] }).wf = false ∧ (Instr.startUpTestEnd { anyStart with cells := [(0, 71)] }).wf = false ∧
    (Instr.startUpTestEnd anyStart).wf = true := by decide

/-- Too long for the field: a SET_CERTIFICATE chain and an FW_STAGE block. -/
theorem test_wf_lengths (n : Nat) : (65535 < n → (Instr.setCertificate none (List.replicate n 0)).wf = false) ∧
    (1048576 < n → (Instr.fwStage 0 (List.replicate n 0)).wf = false) := by
  simp [Instr.wf]

/-! ### Values that the spec works out -/

/-- The ASCII string "123456789" that the checksums of chapters 2 and 7 are given for. -/
def digits : List Byte := [0x31, 0x32, 0x33, 0x34, 0x35, 0x36, 0x37, 0x38, 0x39]

/-- R65, Table 2-11 (TCHECK) and Table 7-6: the check values of the three checksums. -/
theorem test_check_values : crc16 (msbBits 72 0x313233343536373839) = 0x29B1 ∧ crc8 (msbBits 72 0x313233343536373839) = 0xF4 ∧ crc32 digits = 0xCBF43926 := by
  decide +kernel

/-- The worked period of chapter 2: the ACK's slice, the header, the tag, and the first point of pair 0. -/
theorem test_worked_period : bitsAt (ackMsg 2 5 false) 0 21 = 0x14203 ∧ makeHeader false 40 0x2D 0 0x14203 = 0x0505A0014203E8CD ∧
    tagBytes 0 1518 = [0x00, 0x1D, 0xB8, 0x17] ∧ itemSize 1518 = 1524 ∧ dsq128 0x5C = (15, 11) ∧ bitsAt (scramble 0xE8CD 0x2D 0) 0 7 = 0x5C := by
  decide +kernel

/-- The example of R204: the sync word of sequence 0xB7. -/
theorem test_sync_word : syncWord 0xB7 5 = 0x55B7 := by decide

/-- The example of chapter 0: FP_CAPS of the WQ50-S. -/
theorem test_caps_example : Part.wq50s.capsValue = 0x0000000003403F1E := by decide

/-- The worked contention of chapter 4: the entries of DE9, DE33 and DE70, and bank 5 granted to DE45 until cycle 59. -/
def contended (k3 : StoreBank) (left : Nat) (w : List StoreReq) : State := { live with eng := { live.eng with
  bankA := [(16 * 9, BitVec.ofNat 64 (1 + 2 ^ 18 * 6 + 2 ^ 24 * 8)), (16 * 33, BitVec.ofNat 64 (2 + 2 ^ 18 * 6 + 2 ^ 24 * 0x28)),
    (16 * 70, BitVec.ofNat 64 (0x20 + 2 ^ 18 * 2 + 2 ^ 24 * 8))]
  store := [{}, {}, {}, k3, {}, { grant := some { who := 45, slot := 0, lines := left, held := 24 - left } }, {}, {}]
  waiting := w } }

/-- Bank 3 after one cycle of the arbiters. -/
def bank3After (s : State) (c : StoreCycle) : StoreBank := match exec (.storeGrant c) s with | .next t => t.storeBank 3 | _ => {}

/-- Table 4-9, cycle 40: DE9 is first at or after 0, the pointer moves to 10, and the losers rise by 1. -/
theorem test_contention_cycle_40 :
    let k := bank3After (contended {} 20 []) { cycle := 40, asks := [⟨9, 0, 8, 16, 0, false, 0⟩, ⟨33, 0, 0x28, 8, 0, false, 0⟩, ⟨70, 0, 8, 32, 0, false, 0⟩, ⟨98, 0, 8, 4, 0, false, 0⟩], withdrawn := [], errors := [] }
    k.grant.map (·.who) = some 9 ∧ k.pointer = 10 ∧ k.aged = [(33, 1), (70, 1), (98, 1)] := by decide +kernel

/-- Table 4-9, cycle 56: DE33 wins bank 3 while bank 5 is busy, so bank 3 is reserved for it and the others rise again. -/
theorem test_contention_cycle_56 :
    let k := bank3After (contended { pointer := 10, aged := [(33, 1), (70, 1), (98, 1)] } 4
      [⟨33, 0, 0x28, 8, 0, false, 0, 6, 16⟩, ⟨70, 0, 8, 32, 0, false, 0, 2, 16⟩, ⟨98, 0, 8, 4, 0, false, 0, 2, 16⟩]) { cycle := 56, asks := [], withdrawn := [], errors := [] }
    k.grant = none ∧ k.reserved = some 33 ∧ k.pointer = 34 ∧ k.aged = [(33, 1), (70, 2), (98, 2)] := by decide +kernel

/-- A flow ring whose turn goes on is not overtaken, and a fetch takes its payload off the ring's deficit (R341). -/
theorem test_round : (let s := ring3 { sqTail := 20000, deficit := 20000, cqLog2 := 16 }
    ({ s with kw := { s.kw with turn := some 3 } } : State).keepsTurn 3 16384) = true ∧
    (ring3 { sqTail := 256 }).deficitAfter 3 100 128 = 16284 ∧ (ring3 { sqTail := 256 }).deficitAfter 3 100 256 = 0 := by decide +kernel

/-- Commands leave the queue first in, first out. -/
theorem test_queue_order : (match step { live with pending := [.gateIdleAck 3, .nop 4] } with | .next t => t.pending | _ => []) = [.nop 4] := by decide +kernel

/-- On an empty queue a step is a nanosecond. -/
theorem test_idle_step : (match step live with | .next t => t.time | _ => 0) = 1 := by decide +kernel

/-- The next SEQ after 0xFFFFFFFE is 0 (R420). -/
theorem test_log_seq_wraps : (match ({ live with nvm := { live.nvm with nextSeq := 0xFFFFFFFE } } : State).admitLog (entry 3) with | t => t.nvm.nextSeq) = 0 := by decide +kernel

/-! ### Facts that the witnesses need and evaluation alone is slow to give -/

/-- No engine has slots while the programs are swapped. -/
theorem swapping_hasSlots : ∀ e : Nat, swapping.hasSlots e = false := by
  intro e
  have h : swapping.eng.active = [] := rfl
  simp [State.hasSlots, h, slotsOf, sget, slotTask, bitsAt]

/-- The Ethernet CRC has 32 bits. -/
theorem crc32_lt (bs : List Byte) : crc32 bs < 2 ^ 32 := by
  have : ∀ (l : List Bool) (r : Nat), r < 2 ^ 32 → l.foldl (crcStepRight 0xEDB88320) r < 2 ^ 32 := by
    intro l
    induction l with
    | nil => exact fun _ h => h
    | cons b t ih =>
      intro r h
      refine ih _ ?_
      unfold crcStepRight
      dsimp only
      split
      · exact Nat.xor_lt_two_pow (by omega) (by decide)
      · omega
  exact Nat.xor_lt_two_pow (this _ _ (by decide)) (by decide)

/-- A left-shifting CRC of 16 bits has 16 bits. -/
theorem crcLeft_lt {poly r : Nat} (l : List Bool) (hp : poly < 2 ^ 16) (h : r < 2 ^ 16) : crcLeft 16 poly r l < 2 ^ 16 := by
  unfold crcLeft
  induction l generalizing r with
  | nil => exact h
  | cons b t ih =>
    refine ih (r := crcStepLeft 16 poly r b) ?_
    unfold crcStepLeft
    dsimp only
    split
    · exact Nat.xor_lt_two_pow (by omega) hp
    · omega

/-- A lane frame with its check passes. -/
theorem laneFrame_passes : laneFails (laneFrame 7 0 payload7) 7 0 = false := by
  have h : ∀ (body : List (BitVec 32)) (v : BitVec 32), body.length = 63 → (body.getD 0 0).toNat = 0x75A3C → v.toNat = laneCheck body →
      laneCheck body < 65536 → laneFails (body ++ [v]) 7 0 = false := by
    intro body v h1 h2 h3 h4
    have h5 : laneCheck (body ++ [v]) = laneCheck body := by
      simp [laneCheck, List.take_of_length_le (Nat.le_of_eq h1), h1]
    have h6 : (body ++ [v]).getD 63 0 = v := by simp [List.getD_eq_getElem?_getD, ← h1]
    have h7 : (body ++ [v]).getD 0 0 = body.getD 0 0 := by
      rw [List.getD_eq_getElem?_getD, List.getD_eq_getElem?_getD, List.getElem?_append_left (by omega)]
    simp only [laneFails, h5, h6, h7, h2, h3, Nat.mod_eq_of_lt h4]
    simp [bitsAt, h1]
  have h8 : ∀ ws, laneCheck ws < 65536 := fun ws => crcLeft_lt _ (by decide) (by decide)
  refine h _ _ rfl rfl ?_ (h8 _)
  rw [BitVec.toNat_ofNat, Nat.mod_eq_of_lt (Nat.lt_trans (h8 _) (by decide))]

/-- The bytes of a number spell it again. -/
theorem leNat_leBytes (n v : Nat) : leNat (leBytes n v) = v % 256 ^ n := by
  induction n generalizing v with
  | zero => simp [leBytes, leNat, Nat.mod_one]
  | succ n ih =>
    rw [leBytes, leNat, ih, BitVec.toNat_ofNat, show 256 ^ (n + 1) = 256 * 256 ^ n by rw [Nat.pow_succ, Nat.mul_comm], Nat.mod_mul]

/-- A blob is judged by the fuses alone. -/
theorem blobReject_fuse {s s' : State} (h : s.fuse = s'.fuse) (b : List Byte) : s.blobReject b = s'.blobReject b := by
  unfold State.blobReject; rw [h]

/-- The CRC of an exported blob is that of what precedes it. -/
theorem calBlob_crc (s : State) (g : Nat) (h : (s.calBlob g).length = 2196) : leAt (s.calBlob g) 2192 4 = crc32 ((s.calBlob g).take 2192) := by
  obtain ⟨b, hb⟩ : ∃ b, s.calBlob g = b ++ leBytes 4 (crc32 b) := ⟨_, rfl⟩
  have h4 : (leBytes 4 (crc32 b)).length = 4 := rfl
  have hl : b.length = 2192 := by rw [hb, List.length_append, h4] at h; omega
  rw [hb, List.take_left' hl, leAt, List.drop_left' hl, List.take_of_length_le (by rw [h4]), leNat_leBytes]
  exact Nat.mod_eq_of_lt (crc32_lt b)

/-- The blob that the device exports is one that it takes. -/
theorem blob_taken : live.blobReject (fitBytes 2196 (live.calBlob 9)) = none := by
  have hl : (live.calBlob 9).length = 2196 := by decide +kernel
  have hf : fitBytes 2196 (live.calBlob 9) = live.calBlob 9 := by
    rw [fitBytes, hl, List.take_of_length_le (by rw [hl])]; simp
  rw [hf]
  unfold State.blobReject
  dsimp only
  rw [List.find?_cons_of_neg (by decide +kernel), List.find?_cons_of_neg (by simpa using calBlob_crc live 9 hl), List.find?_cons_of_neg (by decide +kernel),
    List.find?_cons_of_neg (by decide +kernel), List.find?_cons_of_neg (by decide +kernel), List.find?_cons_of_neg (by decide +kernel),
    List.find?_cons_of_neg (by decide +kernel)]
  rfl

/-- So it is while a link is in data. -/
theorem blob_taken_data : (asks (exporting 8) importReq).blobReject (fitBytes 2196 (live.calBlob 9)) = none :=
  (blobReject_fuse rfl _).trans blob_taken

/-- And while the link is down. -/
theorem blob_taken_down : (asks (exporting 1) importReq).blobReject (fitBytes 2196 (live.calBlob 9)) = none :=
  (blobReject_fuse rfl _).trans blob_taken

/-- And in training. -/
theorem blob_taken_training : (asks (exporting 5) importReq).blobReject (fitBytes 2196 (live.calBlob 9)) = none :=
  (blobReject_fuse rfl _).trans blob_taken

/-- In the epoch of native data, inbound. -/
theorem lane_passes_inbound : laneFails (laneFrame 7 0 payload7) 7 ((native.dir true).epochOf 7) = false := laneFrame_passes

/-- Outbound. -/
theorem lane_passes_outbound : laneFails (laneFrame 7 0 payload7) 7 ((native.dir false).epochOf 7) = false := laneFrame_passes

/-- Benash's layout for a profile is what a commit takes, whatever the signed set's words are, once the plain table passes (R473). -/
theorem profileBank_passes {s : State} {p : Profile}
    (h : s.validate (bankOf ((s.usable.take p.engines).zipIdx.map (fun x => (x.1, plainEntries p s.kn.shed x.2)))) p = none) :
    s.validate (s.profileBank p) p = none := by
  have base : ∀ {t u : Sparse (BitVec 64)} {b : Bool}, (b = true → s.validate t p = none) → s.validate u p = none → s.validate (if b then t else u) p = none := by
    intro t u b hb hu
    cases b
    · exact hu
    · exact hb rfl
  unfold State.profileBank
  exact base (fun hf => Option.isNone_iff_eq_none.mp hf) (base (fun hb => Option.isNone_iff_eq_none.mp (Bool.and_eq_true_iff.mp hb).1) h)

/-- The first repetition is heard on a quiet link, whatever its reception. -/
theorem peak_of_hearing (n : Nat) (r : Reception) : ((hearing n r).withPart heardChips).peakAt heardChips = ((hearing 2 {}).withPart heardChips).peakAt heardChips := rfl

/-- What the monitors find is what they read, whatever their baselines are. -/
theorem agingFound_read : ∀ m < 12, tolerant.agingReading m ((List.replicate 12 [(100, 100)]).getD m []) = some (agingFound.getD m (0, 0)) := by
  intro m hm
  have h : ∀ k < 12, (tolerant.agingReading k [(100, 100)]).isSome = true := by intro k hk; interval_cases k <;> rfl
  obtain ⟨v, hv⟩ := Option.isSome_iff_exists.mp (h m hm)
  interval_cases m <;> exact hv.trans (congrArg some (by simp only [agingFound, hv, List.range, List.range.loop, List.map, List.getD, List.getElem?_cons_succ, List.getElem?_cons_zero, Option.getD]))

/-- No reading exceeds its 16 bits. -/
theorem agingReading_le {s : State} {m : Nat} {fs : List (Nat × Nat)} {r : Nat × Nat} (h : s.agingReading m fs = some r) : r.1 ≤ 65535 := by
  unfold State.agingReading at h
  obtain ⟨b, -, rfl⟩ := Option.map_eq_some_iff.mp h
  exact Nat.min_le_left _ _

/-- So none of them reaches the threshold. -/
theorem agingFound_low : ∀ r ∈ agingFound, r.1 < tolerant.ben.agingThr * 10 := by
  intro r hr
  obtain ⟨m, -, rfl⟩ := List.mem_map.mp hr
  have h0 : tolerant.ben.agingThr * 10 = 65540 := rfl
  rw [h0]
  cases h : tolerant.agingReading m [(100, 100)] with
  | none => decide
  | some v => exact Nat.lt_of_le_of_lt (agingReading_le h) (by decide)

/-- Which pairs have fired does not depend on the reception. -/
theorem fired_of_hearing (n : Nat) (r : Reception) :
    ((hearing n r).withPart heardChips).firedPairs heardChips = ((hearing 2 {}).withPart heardChips).firedPairs heardChips := rfl

/-- Pairs 0 and 1 have fired. -/
theorem fired_heard : ((hearing 2 {}).withPart heardChips).firedPairs heardChips = 3 := by decide +kernel

/-- DET_PAIRS pairs have fired, the last of them at this instant. -/
theorem peak_heard : ((hearing 2 {}).withPart heardChips).peakAt heardChips = true := by
  unfold State.peakAt; rw [fired_heard]; decide +kernel

/-- Nor does the sync word. -/
theorem sync_of_hearing (n : Nat) (r : Reception) :
    syncOf (((hearing n r).withPart (heardSync 3)).syncSums (heardSync 3)) = syncOf (((hearing 2 {}).withPart (heardSync 3)).syncSums (heardSync 3)) := rfl

/-- It is that of sequence 3. -/
theorem sync_heard : syncOf (((hearing 2 {}).withPart (heardSync 3)).syncSums (heardSync 3)) = some (syncWord 3 5) := by decide +kernel

/-- A byte before an exported blob spoils its magic number. -/
theorem blob_shifted : (asks (exporting 1) importReq).blobReject (fitBytes 2196 ((1 : Byte) :: live.calBlob 9)) = some 1 := by decide +kernel
/-! ### Witnesses: what the statements assume can be met -/

/-- What AFinalCompletionIsPlacedOnce assumes is met here, clause by clause. -/
theorem witness_AFinalCompletionIsPlacedOnce :
    (live.ben.up = true ∧
      (req 64 []).fate = Fate.ring ∧
      (live.ring controlRing).running = true) := by
  decide +kernel

/-- What TheLogTakesItsEntries assumes is met here, clause by clause. -/
theorem witness_TheLogTakesItsEntries :
    (live.ben.up = true ∧
      3 ≤ (entry 3).sev ∧
      live.nvm.log.length ≤ 65536) ∧
    (live.ben.up = true ∧
      (entry 1).sev < 3 ∧
      live.ben.logSev ≤ (entry 1).sev ∧
      1000 ≤ live.tokensNow) ∧
    (noToken.ben.up = true ∧
      (entry 1).sev < 3 ∧
      noToken.ben.logSev ≤ (entry 1).sev ∧
      noToken.tokensNow < 1000) := by
  refine ⟨?_, ?_, ?_⟩
  all_goals decide +kernel

/-- What FpCapsReadsAsItsPart assumes is met here, clause by clause. -/
theorem witness_FpCapsReadsAsItsPart :
    (live.smbAlive 104 = true) := by
  decide +kernel

/-- What IdentityIsAnswered assumes is met here, clause by clause. -/
theorem witness_IdentityIsAnswered :
    (Takes (asks live (req 64 [])) 7 64 (req 64 []) ∧
      Plain (req 64 []) [] ∧
      2 ≤ (req 64 []).cap.rspan) ∧
    (Takes (asks live (req 65 [])) 7 65 (req 65 []) ∧
      Plain (req 65 []) [] ∧
      2 ≤ (req 65 []).cap.rspan) := by
  refine ⟨?_, ?_⟩
  all_goals ((try unfold Takes); (try unfold Plain); decide +kernel)

/-- What TheLogIsReadInOrder assumes is met here, clause by clause. -/
theorem witness_TheLogIsReadInOrder :
    (Takes (asks live logReq) 7 88 logReq ∧
      Plain logReq [(28, 4), (32, 2)] ∧
      1 ≤ logReq.cap.arg 32 2 ∧
      logReq.cap.arg 32 2 ≤ 512 ∧
      1 + (logReq.cap.arg 32 2 + 1) / 2 ≤ logReq.cap.rspan) ∧
    (suppressing.ben.up = true ∧
      0 < suppressing.ben.suppressedNew ∧
      1000 ≤ suppressing.tokensNow ∧
      suppressing.ben.logSev ≤ 2) := by
  refine ⟨?_, ?_⟩
  all_goals ((try unfold Takes); (try unfold Plain); decide +kernel)

/-- What ParametersAreReadAndWritten assumes is met here, clause by clause. -/
theorem witness_ParametersAreReadAndWritten :
    (Takes (asks live (getReq 256 0 8)) 7 66 (getReq 256 0 8) ∧
      Plain (getReq 256 0 8) [(28, 4), (32, 8)] ∧
      objectRow ((getReq 256 0 8).cap.arg 28 2) = some (rowOf 256) ∧
      (asks live (getReq 256 0 8)).objectAbsent ((getReq 256 0 8).cap.arg 28 2) = false ∧
      (if (rowOf 256).indexed = true then (getReq 256 0 8).cap.arg 30 2 < 1000 else (getReq 256 0 8).cap.arg 30 2 = 0) ∧
      (getReq 256 0 8).cap.arg 32 4 % 4 = 0 ∧
      (getReq 256 0 8).cap.arg 32 4 < (rowOf 256).size ∧
      (getReq 256 0 8).cap.arg 36 4 % 4 = 0 ∧
      (((getReq 256 0 8).cap.arg 32 4 + if (getReq 256 0 8).cap.arg 36 4 = 0 then (rowOf 256).size - (getReq 256 0 8).cap.arg 32 4 else (getReq 256 0 8).cap.arg 36 4) ≤ (rowOf 256).size) ∧
      (1 + ((if (getReq 256 0 8).cap.arg 36 4 = 0 then (rowOf 256).size - (getReq 256 0 8).cap.arg 32 4 else (getReq 256 0 8).cap.arg 36 4) + 63) / 64 ≤ (getReq 256 0 8).cap.rspan) ∧
      ((if (getReq 256 0 8).cap.arg 36 4 = 0 then (rowOf 256).size - (getReq 256 0 8).cap.arg 32 4 else (getReq 256 0 8).cap.arg 36 4) ≤ 16384)) ∧
    (Takes (asks live (setReq 768 (leBytes 8 3))) 7 67 (setReq 768 (leBytes 8 3)) ∧
      (asks live (setReq 768 (leBytes 8 3))).gate.hostAsked = (0 : BitVec 3) ∧
      objectRow ((setReq 768 (leBytes 8 3)).cap.arg 28 2) = some (rowOf 768) ∧
      (rowOf 768).rw = true ∧
      (setReq 768 (leBytes 8 3)).cap.len = (rowOf 768).size ∧
      (setReq 768 (leBytes 8 3)).cap.fieldsOk [(28, 4)] = true ∧
      (setReq 768 (leBytes 8 3)).cap.arg 30 2 = 0 ∧
      (asks live (setReq 768 (leBytes 8 3))).objectAbsent ((setReq 768 (leBytes 8 3)).cap.arg 28 2) = false ∧
      (asks live (setReq 768 (leBytes 8 3))).valueAbsent ((setReq 768 (leBytes 8 3)).cap.arg 28 2) (leNat (setReq 768 (leBytes 8 3)).cap.payload) = false ∧
      (asks live (setReq 768 (leBytes 8 3))).objectGated ((setReq 768 (leBytes 8 3)).cap.arg 28 2) = false ∧
      ((setReq 768 (leBytes 8 3)).cap.arg 28 2 = 1280 → (asks live (setReq 768 (leBytes 8 3))).clkNotReady (leNat (setReq 768 (leBytes 8 3)).cap.payload) = false) ∧
      ((setReq 768 (leBytes 8 3)).cap.arg 28 2 = 1283 → (asks live (setReq 768 (leBytes 8 3))).gateCtlTested (leNat (setReq 768 (leBytes 8 3)).cap.payload) = false) ∧
      ((setReq 768 (leBytes 8 3)).cap.arg 28 2 = 1792 → (asks live (setReq 768 (leBytes 8 3))).wardApproved = true → bitsAt (leNat (setReq 768 (leBytes 8 3)).cap.payload) 3 2 = 2) ∧
      objectOk ((setReq 768 (leBytes 8 3)).cap.arg 28 2) (leNat (setReq 768 (leBytes 8 3)).cap.payload) (setReq 768 (leBytes 8 3)).cap.payload = true ∧
      ((setReq 768 (leBytes 8 3)).cap.arg 28 2 = 2176 → (asks live (setReq 768 (leBytes 8 3))).haspForbids (leNat (setReq 768 (leBytes 8 3)).cap.payload) = false) ∧
      (setReq 768 (leBytes 8 3)).cap.arg 28 2 ≠ 1283 ∧
      (setReq 768 (leBytes 8 3)).cap.arg 28 2 = 768 ∧
      bitAt (leNat (setReq 768 (leBytes 8 3)).cap.payload) 1 = true) ∧
    (Takes (asks live (setReq 1280 (leBytes 8 517))) 7 67 (setReq 1280 (leBytes 8 517)) ∧
      (asks live (setReq 1280 (leBytes 8 517))).gate.hostAsked = (0 : BitVec 3) ∧
      objectRow ((setReq 1280 (leBytes 8 517)).cap.arg 28 2) = some (rowOf 1280) ∧
      (rowOf 1280).rw = true ∧
      (setReq 1280 (leBytes 8 517)).cap.len = (rowOf 1280).size ∧
      (setReq 1280 (leBytes 8 517)).cap.fieldsOk [(28, 4)] = true ∧
      (setReq 1280 (leBytes 8 517)).cap.arg 30 2 = 0 ∧
      (asks live (setReq 1280 (leBytes 8 517))).objectAbsent ((setReq 1280 (leBytes 8 517)).cap.arg 28 2) = false ∧
      (asks live (setReq 1280 (leBytes 8 517))).valueAbsent ((setReq 1280 (leBytes 8 517)).cap.arg 28 2) (leNat (setReq 1280 (leBytes 8 517)).cap.payload) = false ∧
      (asks live (setReq 1280 (leBytes 8 517))).objectGated ((setReq 1280 (leBytes 8 517)).cap.arg 28 2) = false ∧
      ((setReq 1280 (leBytes 8 517)).cap.arg 28 2 = 1280 → (asks live (setReq 1280 (leBytes 8 517))).clkNotReady (leNat (setReq 1280 (leBytes 8 517)).cap.payload) = false) ∧
      ((setReq 1280 (leBytes 8 517)).cap.arg 28 2 = 1283 → (asks live (setReq 1280 (leBytes 8 517))).gateCtlTested (leNat (setReq 1280 (leBytes 8 517)).cap.payload) = false) ∧
      ((setReq 1280 (leBytes 8 517)).cap.arg 28 2 = 1792 → (asks live (setReq 1280 (leBytes 8 517))).wardApproved = true → bitsAt (leNat (setReq 1280 (leBytes 8 517)).cap.payload) 3 2 = 2) ∧
      objectOk ((setReq 1280 (leBytes 8 517)).cap.arg 28 2) (leNat (setReq 1280 (leBytes 8 517)).cap.payload) (setReq 1280 (leBytes 8 517)).cap.payload = true ∧
      ((setReq 1280 (leBytes 8 517)).cap.arg 28 2 = 2176 → (asks live (setReq 1280 (leBytes 8 517))).haspForbids (leNat (setReq 1280 (leBytes 8 517)).cap.payload) = false) ∧
      (setReq 1280 (leBytes 8 517)).cap.arg 28 2 ≠ 1283 ∧
      (setReq 1280 (leBytes 8 517)).cap.arg 28 2 = 1280 ∧
      bitsAt (leNat (setReq 1280 (leBytes 8 517)).cap.payload) 0 2 ≠ (asks live (setReq 1280 (leBytes 8 517))).clk.refSel) ∧
    (Takes (asks live (setReq 512 (leBytes 8 16777475))) 7 67 (setReq 512 (leBytes 8 16777475)) ∧
      (asks live (setReq 512 (leBytes 8 16777475))).gate.hostAsked = (0 : BitVec 3) ∧
      objectRow ((setReq 512 (leBytes 8 16777475)).cap.arg 28 2) = some (rowOf 512) ∧
      (rowOf 512).rw = true ∧
      (setReq 512 (leBytes 8 16777475)).cap.len = (rowOf 512).size ∧
      (setReq 512 (leBytes 8 16777475)).cap.fieldsOk [(28, 4)] = true ∧
      (setReq 512 (leBytes 8 16777475)).cap.arg 30 2 = 0 ∧
      (asks live (setReq 512 (leBytes 8 16777475))).objectAbsent ((setReq 512 (leBytes 8 16777475)).cap.arg 28 2) = false ∧
      (asks live (setReq 512 (leBytes 8 16777475))).valueAbsent ((setReq 512 (leBytes 8 16777475)).cap.arg 28 2) (leNat (setReq 512 (leBytes 8 16777475)).cap.payload) = false ∧
      (asks live (setReq 512 (leBytes 8 16777475))).objectGated ((setReq 512 (leBytes 8 16777475)).cap.arg 28 2) = false ∧
      ((setReq 512 (leBytes 8 16777475)).cap.arg 28 2 = 1280 → (asks live (setReq 512 (leBytes 8 16777475))).clkNotReady (leNat (setReq 512 (leBytes 8 16777475)).cap.payload) = false) ∧
      ((setReq 512 (leBytes 8 16777475)).cap.arg 28 2 = 1283 → (asks live (setReq 512 (leBytes 8 16777475))).gateCtlTested (leNat (setReq 512 (leBytes 8 16777475)).cap.payload) = false) ∧
      ((setReq 512 (leBytes 8 16777475)).cap.arg 28 2 = 1792 → (asks live (setReq 512 (leBytes 8 16777475))).wardApproved = true → bitsAt (leNat (setReq 512 (leBytes 8 16777475)).cap.payload) 3 2 = 2) ∧
      objectOk ((setReq 512 (leBytes 8 16777475)).cap.arg 28 2) (leNat (setReq 512 (leBytes 8 16777475)).cap.payload) (setReq 512 (leBytes 8 16777475)).cap.payload = true ∧
      ((setReq 512 (leBytes 8 16777475)).cap.arg 28 2 = 2176 → (asks live (setReq 512 (leBytes 8 16777475))).haspForbids (leNat (setReq 512 (leBytes 8 16777475)).cap.payload) = false) ∧
      (setReq 512 (leBytes 8 16777475)).cap.arg 28 2 ≠ 1283 ∧
      (setReq 512 (leBytes 8 16777475)).cap.arg 28 2 = 512 ∧
      bitAt (leNat (setReq 512 (leBytes 8 16777475)).cap.payload) 24 = true) ∧
    (Takes (asks live (setReq 1283 (leBytes 8 1))) 7 67 (setReq 1283 (leBytes 8 1)) ∧
      (asks live (setReq 1283 (leBytes 8 1))).gate.hostAsked = (0 : BitVec 3) ∧
      objectRow ((setReq 1283 (leBytes 8 1)).cap.arg 28 2) = some (rowOf 1283) ∧
      (rowOf 1283).rw = true ∧
      (setReq 1283 (leBytes 8 1)).cap.len = (rowOf 1283).size ∧
      (setReq 1283 (leBytes 8 1)).cap.fieldsOk [(28, 4)] = true ∧
      (setReq 1283 (leBytes 8 1)).cap.arg 30 2 = 0 ∧
      (asks live (setReq 1283 (leBytes 8 1))).objectAbsent ((setReq 1283 (leBytes 8 1)).cap.arg 28 2) = false ∧
      (asks live (setReq 1283 (leBytes 8 1))).valueAbsent ((setReq 1283 (leBytes 8 1)).cap.arg 28 2) (leNat (setReq 1283 (leBytes 8 1)).cap.payload) = false ∧
      (asks live (setReq 1283 (leBytes 8 1))).objectGated ((setReq 1283 (leBytes 8 1)).cap.arg 28 2) = false ∧
      ((setReq 1283 (leBytes 8 1)).cap.arg 28 2 = 1280 → (asks live (setReq 1283 (leBytes 8 1))).clkNotReady (leNat (setReq 1283 (leBytes 8 1)).cap.payload) = false) ∧
      ((setReq 1283 (leBytes 8 1)).cap.arg 28 2 = 1283 → (asks live (setReq 1283 (leBytes 8 1))).gateCtlTested (leNat (setReq 1283 (leBytes 8 1)).cap.payload) = false) ∧
      ((setReq 1283 (leBytes 8 1)).cap.arg 28 2 = 1792 → (asks live (setReq 1283 (leBytes 8 1))).wardApproved = true → bitsAt (leNat (setReq 1283 (leBytes 8 1)).cap.payload) 3 2 = 2) ∧
      objectOk ((setReq 1283 (leBytes 8 1)).cap.arg 28 2) (leNat (setReq 1283 (leBytes 8 1)).cap.payload) (setReq 1283 (leBytes 8 1)).cap.payload = true ∧
      ((setReq 1283 (leBytes 8 1)).cap.arg 28 2 = 2176 → (asks live (setReq 1283 (leBytes 8 1))).haspForbids (leNat (setReq 1283 (leBytes 8 1)).cap.payload) = false) ∧
      (setReq 1283 (leBytes 8 1)).cap.arg 28 2 = 1283) ∧
    (Takes (asks live (setReq 388 (leBytes 8 1095233372415))) 7 67 (setReq 388 (leBytes 8 1095233372415)) ∧
      (asks live (setReq 388 (leBytes 8 1095233372415))).gate.hostAsked = (0 : BitVec 3) ∧
      (setReq 388 (leBytes 8 1095233372415)).cap.arg 28 2 = 388 ∧
      (setReq 388 (leBytes 8 1095233372415)).cap.len = 8 ∧
      (setReq 388 (leBytes 8 1095233372415)).cap.fieldsOk [(28, 4)] = true ∧
      (setReq 388 (leBytes 8 1095233372415)).cap.arg 30 2 = 0 ∧
      leNat (setReq 388 (leBytes 8 1095233372415)).cap.payload / 2 ^ 48 = 0) := by
  unfold Takes Plain; and_intros <;> first | decide +kernel | rfl

/-- What ACommandTimesOut assumes is met here, clause by clause. -/
theorem witness_ACommandTimesOut :
    ((runs live (req 97 [])).ben.up = true ∧
      (List.find? (fun r => decide (r.cap.tag = 7)) (runs live (req 97 [])).cyo.running = some (req 97 [])) ∧
      [80, 83, 84, 92, 75, 101, 67].contains (req 97 []).cap.op = false) := by
  decide +kernel

/-- What PowerStateReadsTheState assumes is met here, clause by clause. -/
theorem witness_PowerStateReadsTheState :
    ((getReq 272 0 8).cap.arg 28 2 = 272 ∧
      Takes (asks live (getReq 272 0 8)) 7 66 (getReq 272 0 8) ∧
      Plain (getReq 272 0 8) [(28, 4), (32, 8)] ∧
      (getReq 272 0 8).cap.arg 30 2 = 0 ∧
      (getReq 272 0 8).cap.arg 32 4 = 0 ∧
      (getReq 272 0 8).cap.arg 36 4 = 8 ∧
      2 ≤ (getReq 272 0 8).cap.rspan) ∧
    ((setReq 272 (leBytes 8 0)).cap.arg 28 2 = 272 ∧
      Takes (asks live (setReq 272 (leBytes 8 0))) 7 67 (setReq 272 (leBytes 8 0)) ∧
      (setReq 272 (leBytes 8 0)).cap.len = 8) ∧
    ((setReq 272 (leBytes 4 0)).cap.arg 28 2 = 272 ∧
      Takes (asks live (setReq 272 (leBytes 4 0))) 7 67 (setReq 272 (leBytes 4 0)) ∧
      (setReq 272 (leBytes 4 0)).cap.len ≠ 8) := by
  refine ⟨?_, ?_, ?_⟩
  all_goals ((try unfold Takes); (try unfold Plain); decide +kernel)

/-- What WardCountersReadInOrder assumes is met here, clause by clause. -/
theorem witness_WardCountersReadInOrder :
    (Takes (asks live (getReq 1794 0 64)) 7 66 (getReq 1794 0 64) ∧
      Plain (getReq 1794 0 64) [(28, 4), (32, 8)] ∧
      (asks live (getReq 1794 0 64)).fuse.part.ward = true ∧
      (getReq 1794 0 64).cap.arg 28 2 = 1794 ∧
      (getReq 1794 0 64).cap.arg 30 2 = 0 ∧
      (getReq 1794 0 64).cap.arg 32 4 = 0 ∧
      (getReq 1794 0 64).cap.arg 36 4 = 64 ∧
      2 ≤ (getReq 1794 0 64).cap.rspan) := by
  unfold Takes Plain; decide +kernel

/-- What FirmwareIsUpdated assumes is met here, clause by clause. -/
theorem witness_FirmwareIsUpdated :
    (Takes (asks (windowed live) stageReq) 7 89 stageReq ∧
      Plain stageReq [(28, 1), (32, 16)] ∧
      stageReq.cap.arg 28 1 ≤ 1 ∧
      stageReq.cap.arg 32 8 < 2 ^ 41 ∧
      4096 ≤ stageReq.cap.arg 40 4 ∧
      stageReq.cap.arg 40 4 ≤ 1048576 ∧
      stageReq.cap.arg 40 4 % 4096 = 0 ∧
      (stageReq.cap.arg 44 4 = if bitAt (stageReq.cap.arg 28 1) 0 = true then 0 else (asks (windowed live) stageReq).ben.staged) ∧
      stageReq.cap.arg 44 4 + stageReq.cap.arg 40 4 ≤ 4194304 ∧
      (asks (windowed live) stageReq).bufferFault (stageReq.cap.arg 32 8) (stageReq.cap.arg 40 4) false = none) ∧
    (Takes (asks slotBGood (req 91 [])) 7 91 (req 91 []) ∧
      Plain (req 91 []) [] ∧
      (asks slotBGood (req 91 [])).ben.recovery = false ∧
      (asks slotBGood (req 91 [])).otherSlot.valid = true) ∧
    (onTrial.ben.trial = true ∧
      onTrial.ben.up = true ∧
      onTrial.ben.trialSince + 600000000000 ≤ onTrial.time) := by
  refine ⟨?_, ?_, ?_⟩
  all_goals ((try unfold Takes); (try unfold Plain); decide +kernel)

/-- What SelfTestsRunAndEnd assumes is met here, clause by clause. -/
theorem witness_SelfTestsRunAndEnd :
    (Takes (asks (supplied (linkAt live 0)) (bistReq 84 2 2)) 7 84 (bistReq 84 2 2) ∧
      Plain (bistReq 84 2 2) [(28, 4)] ∧
      (asks (supplied (linkAt live 0)) (bistReq 84 2 2)).ready Rdy.bist = true ∧
      (asks (supplied (linkAt live 0)) (bistReq 84 2 2)).bist.run = none ∧
      (asks (supplied (linkAt live 0)) (bistReq 84 2 2)).bistTargetOk ((bistReq 84 2 2).cap.arg 28 2) ((bistReq 84 2 2).cap.arg 30 2) = true ∧
      ((asks (supplied (linkAt live 0)) (bistReq 84 2 2)).begin (bistReq 84 2 2)).bistTargetFree ((bistReq 84 2 2).cap.arg 28 2) ((bistReq 84 2 2).cap.arg 30 2) = true ∧
      (asks (supplied (linkAt live 0)) (bistReq 84 2 2)).bistMayStart = true ∧
      ((bistReq 84 2 2).cap.arg 28 2 = 2 ∨ (bistReq 84 2 2).cap.arg 28 2 = 3 → (asks (supplied (linkAt live 0)) (bistReq 84 2 2)).ready Rdy.line = true)) ∧
    (Takes (asks testing (bistReq 85 2 2)) 7 85 (bistReq 85 2 2) ∧
      Plain (bistReq 85 2 2) [(28, 4)] ∧
      (asks testing (bistReq 85 2 2)).ready Rdy.bist = true ∧
      (asks testing (bistReq 85 2 2)).bist.run = some testRun ∧
      testRun.test = (bistReq 85 2 2).cap.arg 28 2 ∧
      testRun.target = (bistReq 85 2 2).cap.arg 30 2 ∧
      (asks testing (bistReq 85 2 2)).ben.sdPrep = false) ∧
    (testing.bist.run = some testRun) := by
  refine ⟨?_, ?_, ?_⟩
  all_goals ((try unfold Takes); (try unfold Plain); decide +kernel)

/-- What TheShutDownRecordIsKept assumes is met here, clause by clause. -/
theorem witness_TheShutDownRecordIsKept :
    (starting.bist.startup = true ∧
      allPassed.excursion = false ∧
      allPassed.engines = [] ∧
      allPassed.lanesOut = [] ∧
      allPassed.lanesIn = [] ∧
      allPassed.slices = [] ∧
      allPassed.cells = [] ∧
      allPassed.ldpc = false ∧
      allPassed.pairs = (0 : BitVec 4) ∧
      (allPassed.signature = expectedSignature (if starting.ben.startFull = true then 16 else 17) 0)) ∧
    (Takes (asks (supplied live) (req 92 [])) 7 92 (req 92 []) ∧
      Plain (req 92 []) [] ∧
      (asks (supplied live) (req 92 [])).bist.run = none ∧
      (asks (supplied live) (req 92 [])).bistMayStart = true) ∧
    (armedDown.nvm.sd = some armedRecord ∧
      armedRecord.armed = true) := by
  unfold Takes Plain; and_intros <;> first | decide +kernel | rfl

/-- What SensorsAndMemoryAreWatched assumes is met here, clause by clause. -/
theorem witness_SensorsAndMemoryAreWatched :
    (live.pwr.porHeld = false ∧
      live.pwr.warmHeld = false ∧
      [(100 : Int), (200 : Int), (300 : Int), (400 : Int), (500 : Int), (1149 : Int)].length = 6 ∧
      (List.map supplyNominal (List.range 10)).length = 10) ∧
    (live.pwr.porHeld = false ∧
      live.pwr.warmHeld = false ∧
      [(100 : Int), (200 : Int), (300 : Int), (400 : Int), (500 : Int), (1150 : Int)].length = 6 ∧
      (List.map supplyNominal (List.range 10)).length = 10) ∧
    (tolerant.ben.up = true ∧
      (List.replicate 12 [(100, 100)]).length = 12 ∧
      agingFound.length = 12 ∧
      tolerant.ben.aging.length = 12 ∧
      (∀ m < 12, tolerant.agingReading m ((List.replicate 12 [(100, 100)]).getD m []) = some (agingFound.getD m (0, 0))) ∧
      (∀ r ∈ agingFound, r.1 < tolerant.ben.agingThr * 10) ∧
      (∀ a ∈ tolerant.ben.aging, a.alarm = false)) ∧
    (live.ben.up = true) := by
  and_intros <;> first | exact agingFound_read | exact agingFound_low | decide +kernel

/-- What BenashRestarts assumes is met here, clause by clause. -/
theorem witness_BenashRestarts :
    (live.ben.up = true ∧
      live.bist.run = none) ∧
    (onTrial.ben.up = true ∧
      onTrial.bist.run = none) ∧
    (down.ben.up = false ∧
      down.pwr.porHeld = false ∧
      down.pwr.warmHeld = false ∧
      down.pwr.coreSince = none ∧
      down.bootSlot.isSome = true ∧
      down.cyo.running = [] ∧
      down.ben.queue = [] ∧
      down.ben.lostNew = 0 ∧
      down.cal.run = none) ∧
    (downCold.ben.up = false ∧
      downCold.ben.restartSince = none ∧
      downCold.pwr.porHeld = false ∧
      downCold.pwr.warmHeld = false ∧
      downCold.pwr.coreSince = none) ∧
    (down.heldReset = false ∧
      down.ben.restartSince.isSome = true ∧
      down.ben.trial = false) := by
  refine ⟨?_, ?_, ?_, ?_, ?_⟩
  all_goals decide +kernel

/-- What ResetsPutUnitsBack assumes is met here, clause by clause. -/
theorem witness_ResetsPutUnitsBack :
    (State.reset.pwr.porHeld = true ∧
      State.reset.pwr.railLow.getLsbD 4 = false ∧
      State.reset.hasp.meshBroken = false) ∧
    (live.pwr.porHeld = false ∧
      live.pwr.warmHeld = false ∧
      live.pwr.railLow.getLsbD 4 = false ∧
      1000 ≤ 1000) ∧
    (live.pwr.porHeld = false ∧
      live.pwr.warmHeld = false ∧
      live.pwr.railLow.getLsbD 4 = false ∧
      99 < 100) ∧
    (warm.pwr.porHeld = false ∧
      warm.pwr.warmHeld = true) ∧
    (coreReset.pwr.coreSince.isSome = true ∧
      coreReset.pwr.porHeld = false ∧
      coreReset.pwr.warmHeld = false) ∧
    (live.heldReset = false ∧
      live.ben.up = true ∧
      105 < 106 ∧
      105 ≠ 100 ∧
      105 ≠ 102) ∧
    (live.heldReset = false ∧
      live.ben.up = true ∧
      0 < 106 ∧
      0 ≠ 100 ∧
      0 ≠ 102) := by
  refine ⟨?_, ?_, ?_, ?_, ?_, ?_, ?_⟩
  all_goals decide +kernel

/-- What FpResetNeedsItsKey assumes is met here, clause by clause. -/
theorem witness_FpResetNeedsItsKey :
    (live.fpResetLive = true ∧
      bitsAt (BitVec.toNat (50433 : BitVec 32)) 8 8 = 197 ∧
      BitVec.getLsbD (50433 : BitVec 32) 0 = true ∧
      BitVec.getLsbD (50433 : BitVec 32) 1 = false ∧
      BitVec.getLsbD (50433 : BitVec 32) 2 = false ∧
      live.pwr.coreSince = none) ∧
    (live.fpResetLive = true ∧
      bitsAt (BitVec.toNat (50434 : BitVec 32)) 8 8 = 197 ∧
      BitVec.getLsbD (50434 : BitVec 32) 0 = false ∧
      BitVec.getLsbD (50434 : BitVec 32) 1 = true ∧
      BitVec.getLsbD (50434 : BitVec 32) 2 = false) ∧
    (live.fpResetLive = true ∧
      bitsAt (BitVec.toNat (50436 : BitVec 32)) 8 8 = 197 ∧
      BitVec.getLsbD (50436 : BitVec 32) 0 = false ∧
      BitVec.getLsbD (50436 : BitVec 32) 1 = false ∧
      BitVec.getLsbD (50436 : BitVec 32) 2 = true ∧
      live.ben.up = true ∧
      live.ben.restartSince = none ∧
      live.pwr.coreSince = none) ∧
    (live.fpResetLive = true ∧
      BitVec.getLsbD (50177 : BitVec 32) 0 = true ∧
      (bitsAt (BitVec.toNat (50177 : BitVec 32)) 8 8 ≠ 197 ∨ BitVec.getLsbD (50177 : BitVec 32) 1 = true ∨ BitVec.getLsbD (50177 : BitVec 32) 2 = true)) ∧
    (live.fpResetLive = true ∧
      BitVec.getLsbD (50435 : BitVec 32) 0 = true ∧
      (bitsAt (BitVec.toNat (50435 : BitVec 32)) 8 8 ≠ 197 ∨ BitVec.getLsbD (50435 : BitVec 32) 1 = true ∨ BitVec.getLsbD (50435 : BitVec 32) 2 = true)) := by
  refine ⟨?_, ?_, ?_, ?_, ?_⟩
  all_goals decide +kernel

/-- What PerstAndRailsActOnTheirSide assumes is met here, clause by clause. -/
theorem witness_PerstAndRailsActOnTheirSide :
    (perst.pwr.perst = true ∧
      perst.pwr.porHeld = false ∧
      perst.pwr.warmHeld = false ∧
      perst.pwr.persts ≠ 0) ∧
    (0 < 5 ∧
      live.pwr.railLow.getLsbD 0 = false ∧
      live.pwr.porHeld = false) ∧
    (1 < 5 ∧
      live.pwr.railLow.getLsbD 1 = false ∧
      live.pwr.porHeld = false) ∧
    (2 < 5 ∧
      live.pwr.railLow.getLsbD 2 = false ∧
      live.pwr.porHeld = false) ∧
    (3 < 5 ∧
      live.pwr.railLow.getLsbD 3 = false ∧
      live.pwr.porHeld = false) ∧
    (4 < 5 ∧
      live.pwr.railLow.getLsbD 4 = false ∧
      live.pwr.porHeld = false) ∧
    (0 < 5 ∧
      (railsLow (1 : BitVec 5)).pwr.railLow.getLsbD 0 = true) ∧
    (1 < 5 ∧
      (railsLow (3 : BitVec 5)).pwr.railLow.getLsbD 1 = true) ∧
    (4 < 5 ∧
      (railsLow (16 : BitVec 5)).pwr.railLow.getLsbD 4 = true) ∧
    (2 < 5 ∧
      (railsLow (4 : BitVec 5)).pwr.railLow.getLsbD 2 = true) ∧
    (live.pwr.perst = false ∧
      live.pwr.cxlHeld = false ∧
      live.pwr.porHeld = false ∧
      live.pwr.warmHeld = false ∧
      live.pwr.railLow.getLsbD 2 = false ∧
      live.pwr.railLow.getLsbD 3 = false ∧
      (8 = 1 ∨ 8 = 2 ∨ 8 = 4 ∨ 8 = 8) ∧
      8 ≤ 32) ∧
    (live.pwr.perst = false ∧
      live.pwr.cxlHeld = false ∧
      live.pwr.porHeld = false ∧
      live.pwr.warmHeld = false ∧
      live.pwr.railLow.getLsbD 2 = false ∧
      live.pwr.railLow.getLsbD 3 = false ∧
      (1 = 1 ∨ 1 = 2 ∨ 1 = 4 ∨ 1 = 8) ∧
      8 ≤ 8) := by
  refine ⟨?_, ?_, ?_, ?_, ?_, ?_, ?_, ?_, ?_, ?_, ?_, ?_⟩
  all_goals decide +kernel

/-- What GatesCloseByHandshake assumes is met here, clause by clause. -/
theorem witness_GatesCloseByHandshake :
    (105 < 106 ∧
      live.heldReset = false ∧
      live.gatePresent 105 = true ∧
      live.gate.closed.getLsbD 105 = false) ∧
    (0 < 106 ∧
      live.heldReset = false ∧
      live.gatePresent 0 = true ∧
      live.gate.closed.getLsbD 0 = false) ∧
    (97 < 106 ∧
      (gates (0 : BitVec 106) (BitVec.twoPow 106 97)).gate.asked.getLsbD 97 = true ∧
      (gates (0 : BitVec 106) (BitVec.twoPow 106 97)).unitBusy 97 = false ∧
      (gates (0 : BitVec 106) (BitVec.twoPow 106 97)).gate.hostAsked = (0 : BitVec 3)) ∧
    (105 < 106 ∧
      (gates (0 : BitVec 106) (BitVec.twoPow 106 105)).gate.asked.getLsbD 105 = true ∧
      (gates (0 : BitVec 106) (BitVec.twoPow 106 105)).gate.hostAsked = (0 : BitVec 3)) ∧
    (103 < 106 ∧
      (102 ≤ 103 → (gates (BitVec.twoPow 106 103) (0 : BitVec 106)).gate.hostClosed (103 - 102) = false) ∧
      (gates (BitVec.twoPow 106 103) (0 : BitVec 106)).gate.closed.getLsbD 103 = true) ∧
    (5 < 106 ∧
      (102 ≤ 5 → (gates (BitVec.twoPow 106 5) (0 : BitVec 106)).gate.hostClosed (5 - 102) = false) ∧
      (gates (BitVec.twoPow 106 5) (0 : BitVec 106)).gate.closed.getLsbD 5 = true) := by
  refine ⟨?_, ?_, ?_, ?_, ?_, ?_⟩
  all_goals decide +kernel

/-- What TheSideBandOnlyReads assumes is met here, clause by clause. -/
theorem witness_TheSideBandOnlyReads :
    (live.smbAlive 104 = true) ∧
    (105 ≠ 104 + live.pwr.smbAddr) ∧
    (ledOn.heldReset = false ∧
      ledOn.pwr.led1 = true) := by
  refine ⟨?_, ?_, ?_⟩
  all_goals decide +kernel

/-- What TheClocksFollowTheirSources assumes is met here, clause by clause. -/
theorem witness_TheClocksFollowTheirSources :
    (live.pwr.porHeld = false ∧
      live.pwr.warmHeld = false ∧
      live.pwr.railLow.getLsbD 4 = false ∧
      live.clk.stable = (7 : BitVec 3) ∧
      live.clk.xin0Cfg ≠ 0 ∧
      live.clk.xin1Cfg ≠ 0 ∧
      live.clk.isoFailed = false ∧
      live.clk.holdover = false ∧
      live.clk.ready = true ∧
      live.clk.refSel = live.clk.srcInUse ∧
      live.clk.srcInUse ≤ 2 ∧
      Int.natAbs (5000 : Int) ≤ 5000 ∧
      Int.natAbs (10000 : Int) ≤ 10000 ∧
      (-10000 : Int).natAbs ≤ 10000) ∧
    (onXin0.pwr.porHeld = false ∧
      onXin0.pwr.warmHeld = false ∧
      onXin0.pwr.railLow.getLsbD 4 = false ∧
      onXin0.clk.stable = (3 : BitVec 3) ∧
      onXin0.clk.failed = (0 : BitVec 3) ∧
      onXin0.clk.xin0Cfg ≠ 0 ∧
      onXin0.clk.xin1Cfg = 0 ∧
      onXin0.clk.isoFailed = false ∧
      onXin0.clk.ready = true ∧
      onXin0.clk.refSel = 1 ∧
      onXin0.clk.srcInUse = 1 ∧
      onXin0.clk.revert = false ∧
      onXin0.bist.run = none ∧
      onXin0.bist.startup = false ∧
      Int.natAbs (0 : Int) ≤ 5000 ∧
      50000 < Int.natAbs (50001 : Int) ∧
      Int.natAbs (50001 : Int) ≤ 1000000) ∧
    (live.clk.ready = true ∧
      live.clk.srcInUse ≠ 3 ∧
      live.bist.run = none ∧
      live.bist.startup = false) ∧
    (holding.clk.holdover = true ∧
      holding.clk.srcInUse = 3 ∧
      holding.clk.holdSince + 1000000000 ≤ holding.time ∧
      3 ≤ holding.link.state) ∧
    (relocking.clk.srcInUse ≤ 2 ∧
      relocking.clk.holdover = false ∧
      relocking.clk.ml0Lock = false ∧
      relocking.clk.stable.getLsbD relocking.clk.srcInUse = true) ∧
    (2 ∈ lclkDivisions ∧
      live.link.state ≤ 3 ∧
      live.ql.run.hunt = none) ∧
    ((3 ∉ lclkDivisions ∨ 3 ∉ lclkDivisions ∨ 3 ≠ 3 ∧ live.link.state ≠ 8)) ∧
    ((2 ∉ lclkDivisions ∨ 4 ∉ lclkDivisions ∨ 2 ≠ 4 ∧ live.link.state ≠ 8)) := by
  refine ⟨?_, ?_, ?_, ?_, ?_, ?_, ?_, ?_⟩
  all_goals decide +kernel

/-- What TheStatePageIsPublishedInTwoSteps assumes is met here, clause by clause. -/
theorem witness_TheStatePageIsPublishedInTwoSteps :
    (paged.heldReset = false ∧
      paged.ben.up = true ∧
      paged.page.busy = false ∧
      paged.fp.pageEn = true ∧
      paged.windowKind (4096 * paged.fp.pageAddr) 4096 true = 0) ∧
    (live.heldReset = false ∧
      live.ben.up = true ∧
      (live.page.busy = true ∨ live.fp.pageEn = false)) ∧
    (publishing.heldReset = false ∧
      publishing.ben.up = true ∧
      (publishing.page.busy = true ∨ publishing.fp.pageEn = false)) ∧
    (publishing.page.busy = true ∧
      publishing.windowKind publishing.page.addr 64 true = 0 ∧
      publishing.pwr.perstNote = false) := by
  refine ⟨?_, ?_, ?_, ?_⟩
  all_goals decide +kernel

/-- What MonitoringKeepsItsRecords assumes is met here, clause by clause. -/
theorem witness_MonitoringKeepsItsRecords :
    (live.ben.up = true) ∧
    (reporting.ben.up = true ∧
      reporting.nativeData = true ∧
      reporting.mon.reportMs ≠ 0 ∧
      reporting.ql.run.txState = 0 ∧
      reporting.link.frt.want = false ∧
      reporting.page.snapshot ≠ []) ∧
    (reported.lc.oamIn = [farItem] ∧
      oamOk farItem = true ∧
      leAt farItem 0 2 = 1) ∧
    (live.pwr.porHeld = false ∧
      live.pwr.warmHeld = false ∧
      live.pwr.railLow &&& (3 : BitVec 5) = (0 : BitVec 5)) ∧
    (merging.fp.mergeDue = true) := by
  refine ⟨?_, ?_, ?_, ?_, ?_⟩
  all_goals decide +kernel

/-- What SubmissionsAreTakenInOrder assumes is met here, clause by clause. -/
theorem witness_SubmissionsAreTakenInOrder :
    ((ring3 { sqTail := (256 : BitVec 32) : Machine.Ring }).mayServe 3 = true ∧
      (ring3 { sqTail := (256 : BitVec 32) : Machine.Ring }).inRound 3 (roundLen sendCap) = true ∧
      sendCap.span = spanOf sendCap.len ∧
      sendCap.len ≤ 16384 ∧
      (∀ k < sendCap.span, (ring3 { sqTail := (256 : BitVec 32) : Machine.Ring }).windowKind (ringLine ((ring3 { sqTail := (256 : BitVec 32) : Machine.Ring }).ring 3).sqAddr ((ring3 { sqTail := (256 : BitVec 32) : Machine.Ring }).ring 3).sqLog2 ((ring3 { sqTail := (256 : BitVec 32) : Machine.Ring }).ring 3).sqHead k) 64 false = 0) ∧
      64 * sendCap.span ≤ (((ring3 { sqTail := (256 : BitVec 32) : Machine.Ring }).ring 3).sqTail - ((ring3 { sqTail := (256 : BitVec 32) : Machine.Ring }).ring 3).sqHead).toNat ∧
      64 * roomOwed 3 sendCap ≤ ((ring3 { sqTail := (256 : BitVec 32) : Machine.Ring }).ring 3).free ∧
      (3 = controlRing ∨ (ring3 { sqTail := (256 : BitVec 32) : Machine.Ring }).txUsed + sendCap.len ≤ 524288) ∧
      3 ≠ controlRing ∧
      (ring3 { sqTail := (256 : BitVec 32) : Machine.Ring }).checkFlowCapsule 3 sendCap = none) ∧
    ((ring3 { sqTail := (256 : BitVec 32) : Machine.Ring }).mayServe 3 = true ∧
      (ring3 { sqTail := (256 : BitVec 32) : Machine.Ring }).inRound 3 (roundLen multiCap) = true ∧
      multiCap.span = spanOf multiCap.len ∧
      multiCap.len ≤ 16384 ∧
      (∀ k < multiCap.span, (ring3 { sqTail := (256 : BitVec 32) : Machine.Ring }).windowKind (ringLine ((ring3 { sqTail := (256 : BitVec 32) : Machine.Ring }).ring 3).sqAddr ((ring3 { sqTail := (256 : BitVec 32) : Machine.Ring }).ring 3).sqLog2 ((ring3 { sqTail := (256 : BitVec 32) : Machine.Ring }).ring 3).sqHead k) 64 false = 0) ∧
      64 * multiCap.span ≤ (((ring3 { sqTail := (256 : BitVec 32) : Machine.Ring }).ring 3).sqTail - ((ring3 { sqTail := (256 : BitVec 32) : Machine.Ring }).ring 3).sqHead).toNat ∧
      64 * roomOwed 3 multiCap ≤ ((ring3 { sqTail := (256 : BitVec 32) : Machine.Ring }).ring 3).free ∧
      (3 = controlRing ∨ (ring3 { sqTail := (256 : BitVec 32) : Machine.Ring }).txUsed + multiCap.len ≤ 524288) ∧
      3 ≠ controlRing ∧
      (ring3 { sqTail := (256 : BitVec 32) : Machine.Ring }).checkFlowCapsule 3 multiCap = none) ∧
    ((ring3 { sqTail := (256 : BitVec 32) : Machine.Ring }).mayServe 3 = true ∧
      (ring3 { sqTail := (256 : BitVec 32) : Machine.Ring }).inRound 3 (roundLen (bareCap 3)) = true ∧
      (bareCap 3).span = spanOf (bareCap 3).len ∧
      (bareCap 3).len ≤ 16384 ∧
      (∀ k < (bareCap 3).span, (ring3 { sqTail := (256 : BitVec 32) : Machine.Ring }).windowKind (ringLine ((ring3 { sqTail := (256 : BitVec 32) : Machine.Ring }).ring 3).sqAddr ((ring3 { sqTail := (256 : BitVec 32) : Machine.Ring }).ring 3).sqLog2 ((ring3 { sqTail := (256 : BitVec 32) : Machine.Ring }).ring 3).sqHead k) 64 false = 0) ∧
      64 * (bareCap 3).span ≤ (((ring3 { sqTail := (256 : BitVec 32) : Machine.Ring }).ring 3).sqTail - ((ring3 { sqTail := (256 : BitVec 32) : Machine.Ring }).ring 3).sqHead).toNat ∧
      64 * roomOwed 3 (bareCap 3) ≤ ((ring3 { sqTail := (256 : BitVec 32) : Machine.Ring }).ring 3).free ∧
      (3 = controlRing ∨ (ring3 { sqTail := (256 : BitVec 32) : Machine.Ring }).txUsed + (bareCap 3).len ≤ 524288) ∧
      3 ≠ controlRing ∧
      (ring3 { sqTail := (256 : BitVec 32) : Machine.Ring }).checkFlowCapsule 3 (bareCap 3) = none) ∧
    ((ring3 { sqTail := (256 : BitVec 32) : Machine.Ring }).mayServe 3 = true ∧
      (ring3 { sqTail := (256 : BitVec 32) : Machine.Ring }).inRound 3 (roundLen (bareCap 9)) = true ∧
      (bareCap 9).span = spanOf (bareCap 9).len ∧
      (bareCap 9).len ≤ 16384 ∧
      (∀ k < (bareCap 9).span, (ring3 { sqTail := (256 : BitVec 32) : Machine.Ring }).windowKind (ringLine ((ring3 { sqTail := (256 : BitVec 32) : Machine.Ring }).ring 3).sqAddr ((ring3 { sqTail := (256 : BitVec 32) : Machine.Ring }).ring 3).sqLog2 ((ring3 { sqTail := (256 : BitVec 32) : Machine.Ring }).ring 3).sqHead k) 64 false = 0) ∧
      64 * (bareCap 9).span ≤ (((ring3 { sqTail := (256 : BitVec 32) : Machine.Ring }).ring 3).sqTail - ((ring3 { sqTail := (256 : BitVec 32) : Machine.Ring }).ring 3).sqHead).toNat ∧
      64 * roomOwed 3 (bareCap 9) ≤ ((ring3 { sqTail := (256 : BitVec 32) : Machine.Ring }).ring 3).free ∧
      (3 = controlRing ∨ (ring3 { sqTail := (256 : BitVec 32) : Machine.Ring }).txUsed + (bareCap 9).len ≤ 524288) ∧
      3 ≠ controlRing ∧
      (ring3 { sqTail := (256 : BitVec 32) : Machine.Ring }).checkFlowCapsule 3 (bareCap 9) = some Status.badOpcode) ∧
    ((ring3 { : Machine.Ring }).mayServe controlRing = true ∧
      (ring3 { : Machine.Ring }).inRound controlRing (roundLen controlCap) = true ∧
      controlCap.span = spanOf controlCap.len ∧
      controlCap.len ≤ 16384 ∧
      (∀ k < controlCap.span, (ring3 { : Machine.Ring }).windowKind (ringLine ((ring3 { : Machine.Ring }).ring controlRing).sqAddr ((ring3 { : Machine.Ring }).ring controlRing).sqLog2 ((ring3 { : Machine.Ring }).ring controlRing).sqHead k) 64 false = 0) ∧
      64 * controlCap.span ≤ (((ring3 { : Machine.Ring }).ring controlRing).sqTail - ((ring3 { : Machine.Ring }).ring controlRing).sqHead).toNat ∧
      64 * roomOwed controlRing controlCap ≤ ((ring3 { : Machine.Ring }).ring controlRing).free ∧
      (controlRing = controlRing ∨ (ring3 { : Machine.Ring }).txUsed + controlCap.len ≤ 524288) ∧
      controlRing = controlRing ∧
      checkControlCapsule controlCap = none ∧
      BitVec.toNat controlCap.opcode ∈ cyonerOpcodes ∧
      (112 ≤ BitVec.toNat controlCap.opcode → (ring3 { : Machine.Ring }).fuse.part.ward = true) ∧
      (∀ o ∈ (ring3 { : Machine.Ring }).cyo.outstanding, o.cap.tag ≠ controlCap.tag)) := by
  refine ⟨?_, ?_, ?_, ?_, ?_⟩
  all_goals decide +kernel

/-- What CapsulesAreExecutedInOrder assumes is met here, clause by clause. -/
theorem witness_CapsulesAreExecutedInOrder :
    (((ring3 (taken (bareCap 0))).ring 3).accepted = [acc (bareCap 0), acc (bareCap 0)] ∧
      (Instr.nop 3 = Instr.nop 3 ∧ BitVec.toNat (acc (bareCap 0)).cap.opcode = 0 ∨ Instr.nop 3 = Instr.fence 3 ∧ BitVec.toNat (acc (bareCap 0)).cap.opcode = 3)) ∧
    (((ring3 (taken (bareCap 3))).ring 3).accepted = [acc (bareCap 3), acc (bareCap 0)] ∧
      (Instr.fence 3 = Instr.nop 3 ∧ BitVec.toNat (acc (bareCap 3)).cap.opcode = 0 ∨ Instr.fence 3 = Instr.fence 3 ∧ BitVec.toNat (acc (bareCap 3)).cap.opcode = 3)) ∧
    (((ring3 (taken sendCap)).ring 3).accepted = [acc sendCap, acc (bareCap 0)] ∧
      (Instr.send 3 = Instr.send 3 ∧ BitVec.toNat (acc sendCap).cap.opcode = 1 ∨ Instr.send 3 = Instr.sendMulti 3 ∧ BitVec.toNat (acc sendCap).cap.opcode = 2)) ∧
    (((ring3 (taken multiCap)).ring 3).accepted = [acc multiCap, acc (bareCap 0)] ∧
      (Instr.sendMulti 3 = Instr.send 3 ∧ BitVec.toNat (acc multiCap).cap.opcode = 1 ∨ Instr.sendMulti 3 = Instr.sendMulti 3 ∧ BitVec.toNat (acc multiCap).cap.opcode = 2)) ∧
    (((ring3 { reserved := 1, inflight := [flight] : Machine.Ring }).ring 3).inflight = [flight] ∧
      flight.left = 0 ∧
      flight.doneReq = true ∧
      (3 = controlRing → flight.opcode = 3 → (ring3 { reserved := 1, inflight := [flight] : Machine.Ring }).cyo.outstanding = []) ∧
      ((ring3 { reserved := 1, inflight := [flight] : Machine.Ring }).ring 3).running = true) := by
  refine ⟨?_, ?_, ?_, ?_, ?_⟩
  all_goals decide +kernel

/-- What FrontPanelRegistersAnswer assumes is met here, clause by clause. -/
theorem witness_FrontPanelRegistersAnswer :
    (case07a.fpLive = true) ∧
    (case07b.fpLive = true) ∧
    (counted.fpLive = true ∧
      counted.tablesOk = true ∧
      (false = true → 2 % 2 = 0) ∧
      2 < 8 ∧
      2 < 4) ∧
    (counted.fpLive = true ∧
      counted.tablesOk = true ∧
      (true = true → 2 % 2 = 0) ∧
      2 < 8 ∧
      2 < 4) ∧
    (counted.fpLive = true ∧
      counted.tablesOk = true ∧
      (true = true → 0 % 2 = 0) ∧
      0 < 8 ∧
      0 < 4) ∧
    (dataUp.fpLive = true ∧
      1 < 64 ∧
      0 < 16 ∧
      aligned 0 true = true) ∧
    (dataUp.fpLive = true ∧
      1 < 64 ∧
      8 < 16 ∧
      aligned 8 true = true) ∧
    (dataUp.fpLive = true ∧
      0 < 64 ∧
      0 < 16 ∧
      aligned 0 true = true) ∧
    (dataUp.fpLive = true ∧
      0 < 64 ∧
      0 < 16 ∧
      aligned 0 false = true) ∧
    (dataUp.fpLive = true ∧
      0 < 64 ∧
      8 < 16 ∧
      aligned 8 true = true) ∧
    (dataUp.fpLive = true ∧
      0 < 64 ∧
      12 < 16 ∧
      aligned 12 false = true) ∧
    (dataUp.fpLive = true ∧
      1 < 64 ∧
      4 < 16 ∧
      aligned 4 false = true) ∧
    (dataUp.fpLive = true ∧
      dataUp.tablesOk = true ∧
      4 < 1000 ∧
      (dataUp.ring 4).en = false) ∧
    (dataUp.fpLive = true ∧
      dataUp.tablesOk = true ∧
      0 < 1000 ∧
      (dataUp.ring 0).en = false) ∧
    (dataUp.fpLive = true ∧
      dataUp.tablesOk = true ∧
      999 < 1000 ∧
      (dataUp.ring 999).en = false) ∧
    (case07c.kw.status.linkUp = true) := by
  refine ⟨?_, ?_, ?_, ?_, ?_, ?_, ?_, ?_, ?_, ?_, ?_, ?_, ?_, ?_, ?_, ?_⟩
  all_goals decide +kernel

/-- What RingsStartStopAndRing assumes is met here, clause by clause. -/
theorem witness_RingsStartStopAndRing :
    (stopped4.fpLive = true ∧
      ringExists 4 = true ∧
      stopped4.tablesOk = true ∧
      BitVec.getLsbD (16846864 : BitVec 32) 16 = true ∧
      (stopped4.ring 4).en = false ∧
      stopped4.mayEnable (have __src := stopped4.ring 4; { sqAddr := __src.sqAddr, cqAddr := __src.cqAddr, sqLog2 := BitVec.toNat (16846864 : BitVec 32) % 2 ^ 5, cqLog2 := BitVec.toNat (16846864 : BitVec 32) / 2 ^ 8 % 2 ^ 5, en := __src.en, earlyHead := __src.earlyHead, rxMulti := __src.rxMulti, downDiscard := __src.downDiscard, irqHoldoff := __src.irqHoldoff, seqBase := __src.seqBase, sqTail := __src.sqTail, cqHead := __src.cqHead, sqHead := __src.sqHead, cqTail := __src.cqTail, cqSeq := __src.cqSeq, halted := __src.halted, resetting := __src.resetting, fault := __src.fault, reserved := __src.reserved, accepted := __src.accepted, inflight := __src.inflight, placed := __src.placed, written := __src.written, noticeDue := __src.noticeDue, multi := __src.multi, lastSignal := __src.lastSignal, signalDue := __src.signalDue, deficit := __src.deficit : Machine.Ring }) = true) ∧
    (case07d.fpLive = true ∧
      ringExists 3 = true ∧
      case07d.tablesOk = true ∧
      BitVec.getLsbD (4112 : BitVec 32) 16 = false ∧
      (case07d.ring 3).en = true ∧
      (case07d.ring 3).resetting = false ∧
      BitVec.toNat (4112 : BitVec 32) % 64 ≠ 0) ∧
    ((ring3 { : Machine.Ring }).fpLive = true ∧
      ringExists controlRing = true ∧
      (ring3 { : Machine.Ring }).tablesOk = true ∧
      BitVec.getLsbD (4112 : BitVec 32) 16 = false ∧
      ((ring3 { : Machine.Ring }).ring controlRing).en = true ∧
      ((ring3 { : Machine.Ring }).ring controlRing).resetting = false ∧
      BitVec.toNat (4112 : BitVec 32) % 64 ≠ 0) ∧
    ((ring3 { sqTail := (128 : BitVec 32), sqHead := (64 : BitVec 32), cqTail := (128 : BitVec 32), halted := true, fault := 2 : Machine.Ring }).fpLive = true ∧
      ringExists 3 = true ∧
      (ring3 { sqTail := (128 : BitVec 32), sqHead := (64 : BitVec 32), cqTail := (128 : BitVec 32), halted := true, fault := 2 : Machine.Ring }).tablesOk = true ∧
      BitVec.getLsbD (192 : BitVec 32) 16 = false ∧
      ((ring3 { sqTail := (128 : BitVec 32), sqHead := (64 : BitVec 32), cqTail := (128 : BitVec 32), halted := true, fault := 2 : Machine.Ring }).ring 3).en = true ∧
      ((ring3 { sqTail := (128 : BitVec 32), sqHead := (64 : BitVec 32), cqTail := (128 : BitVec 32), halted := true, fault := 2 : Machine.Ring }).ring 3).resetting = false ∧
      BitVec.toNat (192 : BitVec 32) % 64 = 0 ∧
      (((ring3 { sqTail := (128 : BitVec 32), sqHead := (64 : BitVec 32), cqTail := (128 : BitVec 32), halted := true, fault := 2 : Machine.Ring }).ring 3).sqTail - ((ring3 { sqTail := (128 : BitVec 32), sqHead := (64 : BitVec 32), cqTail := (128 : BitVec 32), halted := true, fault := 2 : Machine.Ring }).ring 3).sqHead).toNat ≤ ((192 : BitVec 32) - ((ring3 { sqTail := (128 : BitVec 32), sqHead := (64 : BitVec 32), cqTail := (128 : BitVec 32), halted := true, fault := 2 : Machine.Ring }).ring 3).sqHead).toNat ∧
      ((192 : BitVec 32) - ((ring3 { sqTail := (128 : BitVec 32), sqHead := (64 : BitVec 32), cqTail := (128 : BitVec 32), halted := true, fault := 2 : Machine.Ring }).ring 3).sqHead).toNat ≤ 2 ^ ((ring3 { sqTail := (128 : BitVec 32), sqHead := (64 : BitVec 32), cqTail := (128 : BitVec 32), halted := true, fault := 2 : Machine.Ring }).ring 3).sqLog2) ∧
    ((ring3 { sqTail := (128 : BitVec 32), sqHead := (64 : BitVec 32), cqTail := (128 : BitVec 32) : Machine.Ring }).fpLive = true ∧
      ringExists 3 = true ∧
      (ring3 { sqTail := (128 : BitVec 32), sqHead := (64 : BitVec 32), cqTail := (128 : BitVec 32) : Machine.Ring }).tablesOk = true ∧
      BitVec.getLsbD (64 : BitVec 32) 16 = false ∧
      ((ring3 { sqTail := (128 : BitVec 32), sqHead := (64 : BitVec 32), cqTail := (128 : BitVec 32) : Machine.Ring }).ring 3).en = true ∧
      ((ring3 { sqTail := (128 : BitVec 32), sqHead := (64 : BitVec 32), cqTail := (128 : BitVec 32) : Machine.Ring }).ring 3).resetting = false ∧
      BitVec.toNat (64 : BitVec 32) % 64 = 0 ∧
      (((ring3 { sqTail := (128 : BitVec 32), sqHead := (64 : BitVec 32), cqTail := (128 : BitVec 32) : Machine.Ring }).ring 3).cqTail - (64 : BitVec 32)).toNat ≤ (((ring3 { sqTail := (128 : BitVec 32), sqHead := (64 : BitVec 32), cqTail := (128 : BitVec 32) : Machine.Ring }).ring 3).cqTail - ((ring3 { sqTail := (128 : BitVec 32), sqHead := (64 : BitVec 32), cqTail := (128 : BitVec 32) : Machine.Ring }).ring 3).cqHead).toNat) ∧
    ((ring3 { sqTail := (128 : BitVec 32), sqHead := (64 : BitVec 32), cqTail := (128 : BitVec 32) : Machine.Ring }).fpLive = true ∧
      ringExists 3 = true ∧
      (ring3 { sqTail := (128 : BitVec 32), sqHead := (64 : BitVec 32), cqTail := (128 : BitVec 32) : Machine.Ring }).tablesOk = true ∧
      BitVec.getLsbD (65 : BitVec 32) 16 = false ∧
      ((ring3 { sqTail := (128 : BitVec 32), sqHead := (64 : BitVec 32), cqTail := (128 : BitVec 32) : Machine.Ring }).ring 3).en = true ∧
      ((ring3 { sqTail := (128 : BitVec 32), sqHead := (64 : BitVec 32), cqTail := (128 : BitVec 32) : Machine.Ring }).ring 3).resetting = false ∧
      BitVec.toNat (65 : BitVec 32) % 64 ≠ 0) ∧
    ((ring3 { sqTail := (128 : BitVec 32), sqHead := (64 : BitVec 32), cqTail := (128 : BitVec 32) : Machine.Ring }).fpLive = true ∧
      ringExists controlRing = true ∧
      (ring3 { sqTail := (128 : BitVec 32), sqHead := (64 : BitVec 32), cqTail := (128 : BitVec 32) : Machine.Ring }).tablesOk = true ∧
      BitVec.getLsbD (65 : BitVec 32) 16 = false ∧
      ((ring3 { sqTail := (128 : BitVec 32), sqHead := (64 : BitVec 32), cqTail := (128 : BitVec 32) : Machine.Ring }).ring controlRing).en = true ∧
      ((ring3 { sqTail := (128 : BitVec 32), sqHead := (64 : BitVec 32), cqTail := (128 : BitVec 32) : Machine.Ring }).ring controlRing).resetting = false ∧
      BitVec.toNat (65 : BitVec 32) % 64 ≠ 0) := by
  refine ⟨?_, ?_, ?_, ?_, ?_, ?_, ?_⟩
  all_goals decide +kernel

/-- What CompletionsReachTheHost assumes is met here, clause by clause. -/
theorem witness_CompletionsReachTheHost :
    (ringExists 3 = true ∧
      ((ring3 { cqSeq := (9 : BitVec 32), placed := [doneRecv] : Machine.Ring }).ring 3).placed = [doneRecv] ∧
      doneRecv.ready = true ∧
      ((ring3 { cqSeq := (9 : BitVec 32), placed := [doneRecv] : Machine.Ring }).ring 3).running = true ∧
      (ring3 { cqSeq := (9 : BitVec 32), placed := [doneRecv] : Machine.Ring }).kw.status.d3hot = false ∧
      (ring3 { cqSeq := (9 : BitVec 32), placed := [doneRecv] : Machine.Ring }).pwr.kwUp = true ∧
      (∀ k < doneRecv.span, (ring3 { cqSeq := (9 : BitVec 32), placed := [doneRecv] : Machine.Ring }).windowKind (ringLine ((ring3 { cqSeq := (9 : BitVec 32), placed := [doneRecv] : Machine.Ring }).ring 3).cqAddr ((ring3 { cqSeq := (9 : BitVec 32), placed := [doneRecv] : Machine.Ring }).ring 3).cqLog2 (((ring3 { cqSeq := (9 : BitVec 32), placed := [doneRecv] : Machine.Ring }).ring 3).cqTail + BitVec.ofNat 32 (64 * sumNat (List.map (fun x => x.span) ((ring3 { cqSeq := (9 : BitVec 32), placed := [doneRecv] : Machine.Ring }).ring 3).written))) k) 64 true = 0)) ∧
    (ringExists 3 = true ∧
      ((ring3 { placed := [doneRecv, doneRecv], written := [doneRecv] : Machine.Ring }).ring 3).placed = [doneRecv, doneRecv] ∧
      doneRecv.ready = true ∧
      ((ring3 { placed := [doneRecv, doneRecv], written := [doneRecv] : Machine.Ring }).ring 3).running = true ∧
      (ring3 { placed := [doneRecv, doneRecv], written := [doneRecv] : Machine.Ring }).kw.status.d3hot = false ∧
      (ring3 { placed := [doneRecv, doneRecv], written := [doneRecv] : Machine.Ring }).pwr.kwUp = true ∧
      (∀ k < doneRecv.span, (ring3 { placed := [doneRecv, doneRecv], written := [doneRecv] : Machine.Ring }).windowKind (ringLine ((ring3 { placed := [doneRecv, doneRecv], written := [doneRecv] : Machine.Ring }).ring 3).cqAddr ((ring3 { placed := [doneRecv, doneRecv], written := [doneRecv] : Machine.Ring }).ring 3).cqLog2 (((ring3 { placed := [doneRecv, doneRecv], written := [doneRecv] : Machine.Ring }).ring 3).cqTail + BitVec.ofNat 32 (64 * sumNat (List.map (fun x => x.span) ((ring3 { placed := [doneRecv, doneRecv], written := [doneRecv] : Machine.Ring }).ring 3).written))) k) 64 true = 0)) ∧
    ((ring3 { written := [doneRecv, doneRecv] : Machine.Ring }).tablesOk = true ∧
      ((ring3 { written := [doneRecv, doneRecv] : Machine.Ring }).ring 3).written = [doneRecv, doneRecv]) ∧
    ((ring3 { irqHoldoff := 9, written := [doneRecv], lastSignal := some 0 : Machine.Ring }).tablesOk = true ∧
      ((ring3 { irqHoldoff := 9, written := [doneRecv], lastSignal := some 0 : Machine.Ring }).ring 3).written = [doneRecv]) ∧
    (((ring3 { signalDue := true : Machine.Ring }).ring 3).signalDue = true) ∧
    (ringExists 3 = true ∧
      ((ring3 { reserved := 3, multi := some openOne : Machine.Ring }).ring 3).multi = some openOne) ∧
    (ringExists 3 = true ∧
      ((ring3 { reserved := 5, multi := some openTwo : Machine.Ring }).ring 3).multi = some openTwo) := by
  refine ⟨?_, ?_, ?_, ?_, ?_, ?_, ?_⟩
  all_goals decide +kernel

/-- What ReceivedFramesFindTheirFlow assumes is met here, clause by clause. -/
theorem witness_ReceivedFramesFindTheirFlow :
    ((ruled (ring3 { : Machine.Ring })).nextFrame = some rx64 ∧
      rx64.cls = none ∧
      rx64.forced = none ∧
      rx64.good = true ∧
      assocNone ((ruled (ring3 { : Machine.Ring })).flow ((ruled (ring3 { : Machine.Ring })).classifyBytes (presentBytes rx64.bytes)).1).assoc = true ∧
      ((ruled (ring3 { : Machine.Ring })).flow ((ruled (ring3 { : Machine.Ring })).classifyBytes (presentBytes rx64.bytes)).1).heldOver = false ∧
      (∀ h ∈ (ruled (ring3 { : Machine.Ring })).kw.hold, h.flow ≠ ((ruled (ring3 { : Machine.Ring })).classifyBytes (presentBytes rx64.bytes)).1) ∧
      ((ruled (ring3 { : Machine.Ring })).ring ((ruled (ring3 { : Machine.Ring })).classifyBytes (presentBytes rx64.bytes)).1).running = true ∧
      ((ruled (ring3 { : Machine.Ring })).ring ((ruled (ring3 { : Machine.Ring })).classifyBytes (presentBytes rx64.bytes)).1).rxMulti = false ∧
      (ruled (ring3 { : Machine.Ring })).kw.stagingUsed + rx64.bytes.length ≤ 524288 ∧
      64 * spanOf rx64.bytes.length ≤ ((ruled (ring3 { : Machine.Ring })).ring ((ruled (ring3 { : Machine.Ring })).classifyBytes (presentBytes rx64.bytes)).1).free) ∧
    ((ruled dataUp).nextFrame = some rx64 ∧
      rx64.cls = none ∧
      rx64.forced = none ∧
      rx64.good = true ∧
      assocNone ((ruled dataUp).flow ((ruled dataUp).classifyBytes (presentBytes rx64.bytes)).1).assoc = true ∧
      ((ruled dataUp).flow ((ruled dataUp).classifyBytes (presentBytes rx64.bytes)).1).heldOver = false ∧
      (∀ h ∈ (ruled dataUp).kw.hold, h.flow ≠ ((ruled dataUp).classifyBytes (presentBytes rx64.bytes)).1) ∧
      ((ruled dataUp).ring ((ruled dataUp).classifyBytes (presentBytes rx64.bytes)).1).running = false) ∧
    ((List.find? (fun h => decide (h.flow = 3)) holdsOne.kw.hold = some held3) ∧
      held3.frame.cls = some { flow := 3, gen := 5, byDefault := false, early := none : Machine.Class } ∧
      { flow := 3, gen := 5, byDefault := false, early := none : Machine.Class }.flow = 3 ∧
      held3.frame.good = true ∧
      holdsOne.pwr.perst = false ∧
      (holdsOne.flow 3).heldOver = false ∧
      (holdsOne.ring 3).running = true ∧
      (holdsOne.ring 3).rxMulti = false ∧
      holdsOne.kw.stagingUsed + held3.frame.bytes.length ≤ 524288 ∧
      64 * spanOf held3.frame.bytes.length ≤ (holdsOne.ring 3).free) ∧
    ((atWard rxW false).kw.arrived = [rxW] ∧
      (atWard rxW false).fuse.part.ward = true ∧
      rxW.good = true ∧
      (isMkpdu (List.map (fun x => x.getD (0 : Byte)) rxW.bytes) = false) ∧
      ((frameFields (List.map (fun x => x.getD (0 : Byte)) rxW.bytes)).sci = none) ∧
      (atWard rxW false).ward.linkEn = false) ∧
    ((atWard rxW true).kw.arrived = [rxW] ∧
      (atWard rxW true).fuse.part.ward = true ∧
      rxW.good = true ∧
      (isMkpdu (List.map (fun x => x.getD (0 : Byte)) rxW.bytes) = false) ∧
      ((frameFields (List.map (fun x => x.getD (0 : Byte)) rxW.bytes)).sci = none) ∧
      (atWard rxW true).ward.linkEn = true ∧
      (atWard rxW true).ward.linkValidate = 2 ∧
      rxW.cls = none) ∧
    ((atWard rxM true).kw.arrived = [rxM] ∧
      (atWard rxM true).fuse.part.ward = true ∧
      rxM.good = true ∧
      (isMkpdu (List.map (fun x => x.getD (0 : Byte)) rxM.bytes) = true) ∧
      { icvGood := false, live := true, peerSci := List.replicate 8 (1 : Byte), sak := none, advance := false : MkaIn }.icvGood = false) ∧
    ((atWard rxM true).kw.arrived = [rxM] ∧
      (atWard rxM true).fuse.part.ward = true ∧
      rxM.good = true ∧
      (isMkpdu (List.map (fun x => x.getD (0 : Byte)) rxM.bytes) = true) ∧
      { icvGood := true, live := true, peerSci := List.replicate 8 (1 : Byte), sak := none, advance := false : MkaIn }.icvGood = true ∧
      (atWard rxM true).mkaRuns = true ∧
      { icvGood := true, live := true, peerSci := List.replicate 8 (1 : Byte), sak := none, advance := false : MkaIn }.live = true ∧
      { icvGood := true, live := true, peerSci := List.replicate 8 (1 : Byte), sak := none, advance := false : MkaIn }.sak = none ∧
      { icvGood := true, live := true, peerSci := List.replicate 8 (1 : Byte), sak := none, advance := false : MkaIn }.advance = false) ∧
    ((atWard rxM true).kw.arrived = [rxM] ∧
      (atWard rxM true).fuse.part.ward = true ∧
      rxM.good = true ∧
      (isMkpdu (List.map (fun x => x.getD (0 : Byte)) rxM.bytes) = true) ∧
      { icvGood := true, live := true, peerSci := List.replicate 8 (1 : Byte), sak := some sakIn, advance := false : MkaIn }.icvGood = true ∧
      (atWard rxM true).mkaRuns = true ∧
      { icvGood := true, live := true, peerSci := List.replicate 8 (1 : Byte), sak := some sakIn, advance := false : MkaIn }.sak = some sakIn ∧
      { icvGood := true, live := true, peerSci := List.replicate 8 (1 : Byte), sak := some sakIn, advance := false : MkaIn }.advance = false) := by
  refine ⟨?_, ?_, ?_, ?_, ?_, ?_, ?_, ?_⟩
  all_goals decide +kernel

/-- What FlowsAreManaged assumes is met here, clause by clause. -/
theorem witness_FlowsAreManaged :
    ((asks dataUp (flowReq 96 [] (ctxBytes []))).ready Rdy.keyway = true ∧
      (flowReq 96 [] (ctxBytes [])).cap.arg 28 2 < 1000 ∧
      Takes (asks dataUp (flowReq 96 [] (ctxBytes []))) 7 96 (flowReq 96 [] (ctxBytes [])) ∧
      (flowReq 96 [] (ctxBytes [])).cap.len = 64 ∧
      (assocNone (contextAssoc (fitBytes 64 (flowReq 96 [] (ctxBytes [])).cap.payload)) = true ∨ (asks dataUp (flowReq 96 [] (ctxBytes []))).fuse.part.ward = true ∧ ((asks dataUp (flowReq 96 [] (ctxBytes []))).wardApproved = true → assocValidate (contextAssoc (fitBytes 64 (flowReq 96 [] (ctxBytes [])).cap.payload)) = 2)) ∧
      (flowReq 96 [] (ctxBytes [])).cap.arg 28 2 ≠ 0 ∧
      (flowReq 96 [] (ctxBytes [])).cap.fieldsOk [(28, 2)] = true ∧
      ((asks dataUp (flowReq 96 [] (ctxBytes []))).flow ((flowReq 96 [] (ctxBytes [])).cap.arg 28 2)).exist = false ∧
      contextOk (fitBytes 64 (flowReq 96 [] (ctxBytes [])).cap.payload) = true ∧
      (contextRule (fitBytes 64 (flowReq 96 [] (ctxBytes [])).cap.payload)).matchBits ≠ (0 : BitVec 4) ∧
      (asks dataUp (flowReq 96 [] (ctxBytes []))).assocOk ((flowReq 96 [] (ctxBytes [])).cap.arg 28 2) (contextRule (fitBytes 64 (flowReq 96 [] (ctxBytes [])).cap.payload)) (contextAssoc (fitBytes 64 (flowReq 96 [] (ctxBytes [])).cap.payload)) = true) ∧
    ((asks dataUp (flowReq 96 [] wardedCtx)).ready Rdy.keyway = true ∧
      (flowReq 96 [] wardedCtx).cap.arg 28 2 < 1000 ∧
      Takes (asks dataUp (flowReq 96 [] wardedCtx)) 7 96 (flowReq 96 [] wardedCtx) ∧
      (flowReq 96 [] wardedCtx).cap.len = 64 ∧
      (assocNone (contextAssoc (fitBytes 64 (flowReq 96 [] wardedCtx).cap.payload)) = true ∨ (asks dataUp (flowReq 96 [] wardedCtx)).fuse.part.ward = true ∧ ((asks dataUp (flowReq 96 [] wardedCtx)).wardApproved = true → assocValidate (contextAssoc (fitBytes 64 (flowReq 96 [] wardedCtx).cap.payload)) = 2)) ∧
      (flowReq 96 [] wardedCtx).cap.arg 28 2 ≠ 0 ∧
      (flowReq 96 [] wardedCtx).cap.fieldsOk [(28, 2)] = true ∧
      ((asks dataUp (flowReq 96 [] wardedCtx)).flow ((flowReq 96 [] wardedCtx).cap.arg 28 2)).exist = false ∧
      contextOk (fitBytes 64 (flowReq 96 [] wardedCtx).cap.payload) = true ∧
      (contextRule (fitBytes 64 (flowReq 96 [] wardedCtx).cap.payload)).matchBits ≠ (0 : BitVec 4) ∧
      (asks dataUp (flowReq 96 [] wardedCtx)).assocOk ((flowReq 96 [] wardedCtx).cap.arg 28 2) (contextRule (fitBytes 64 (flowReq 96 [] wardedCtx).cap.payload)) (contextAssoc (fitBytes 64 (flowReq 96 [] wardedCtx).cap.payload)) = true) ∧
    ((asks (ring3 { : Machine.Ring }) (flowReq 97 [(32, 5)] (ctxBytes []))).ready Rdy.keyway = true ∧
      (flowReq 97 [(32, 5)] (ctxBytes [])).cap.arg 28 2 < 1000 ∧
      Takes (asks (ring3 { : Machine.Ring }) (flowReq 97 [(32, 5)] (ctxBytes []))) 7 97 (flowReq 97 [(32, 5)] (ctxBytes [])) ∧
      (flowReq 97 [(32, 5)] (ctxBytes [])).cap.len = 64 ∧
      (assocNone (contextAssoc (fitBytes 64 (flowReq 97 [(32, 5)] (ctxBytes [])).cap.payload)) = true ∨ (asks (ring3 { : Machine.Ring }) (flowReq 97 [(32, 5)] (ctxBytes []))).fuse.part.ward = true ∧ ((asks (ring3 { : Machine.Ring }) (flowReq 97 [(32, 5)] (ctxBytes []))).wardApproved = true → assocValidate (contextAssoc (fitBytes 64 (flowReq 97 [(32, 5)] (ctxBytes [])).cap.payload)) = 2)) ∧
      (flowReq 97 [(32, 5)] (ctxBytes [])).cap.fieldsOk [(28, 2), (32, 4)] = true ∧
      ((asks (ring3 { : Machine.Ring }) (flowReq 97 [(32, 5)] (ctxBytes []))).flow ((flowReq 97 [(32, 5)] (ctxBytes [])).cap.arg 28 2)).exist = true ∧
      contextOk (fitBytes 64 (flowReq 97 [(32, 5)] (ctxBytes [])).cap.payload) = true ∧
      ((contextRule (fitBytes 64 (flowReq 97 [(32, 5)] (ctxBytes [])).cap.payload)).matchBits = (0 : BitVec 4) ↔ (flowReq 97 [(32, 5)] (ctxBytes [])).cap.arg 28 2 = 0) ∧
      (asks (ring3 { : Machine.Ring }) (flowReq 97 [(32, 5)] (ctxBytes []))).assocOk ((flowReq 97 [(32, 5)] (ctxBytes [])).cap.arg 28 2) (contextRule (fitBytes 64 (flowReq 97 [(32, 5)] (ctxBytes [])).cap.payload)) (contextAssoc (fitBytes 64 (flowReq 97 [(32, 5)] (ctxBytes [])).cap.payload)) = true ∧
      (flowReq 97 [(32, 5)] (ctxBytes [])).cap.arg 32 4 = ((asks (ring3 { : Machine.Ring }) (flowReq 97 [(32, 5)] (ctxBytes []))).flow ((flowReq 97 [(32, 5)] (ctxBytes [])).cap.arg 28 2)).gen ∧
      keepsSlots ((asks (ring3 { : Machine.Ring }) (flowReq 97 [(32, 5)] (ctxBytes []))).flow ((flowReq 97 [(32, 5)] (ctxBytes [])).cap.arg 28 2)).assoc (contextAssoc (fitBytes 64 (flowReq 97 [(32, 5)] (ctxBytes [])).cap.payload)) = true) ∧
    ((asks keyed3 (flowReq 97 [(32, 5)] wardedCtx)).ready Rdy.keyway = true ∧
      (flowReq 97 [(32, 5)] wardedCtx).cap.arg 28 2 < 1000 ∧
      Takes (asks keyed3 (flowReq 97 [(32, 5)] wardedCtx)) 7 97 (flowReq 97 [(32, 5)] wardedCtx) ∧
      (flowReq 97 [(32, 5)] wardedCtx).cap.len = 64 ∧
      (assocNone (contextAssoc (fitBytes 64 (flowReq 97 [(32, 5)] wardedCtx).cap.payload)) = true ∨ (asks keyed3 (flowReq 97 [(32, 5)] wardedCtx)).fuse.part.ward = true ∧ ((asks keyed3 (flowReq 97 [(32, 5)] wardedCtx)).wardApproved = true → assocValidate (contextAssoc (fitBytes 64 (flowReq 97 [(32, 5)] wardedCtx).cap.payload)) = 2)) ∧
      (flowReq 97 [(32, 5)] wardedCtx).cap.fieldsOk [(28, 2), (32, 4)] = true ∧
      ((asks keyed3 (flowReq 97 [(32, 5)] wardedCtx)).flow ((flowReq 97 [(32, 5)] wardedCtx).cap.arg 28 2)).exist = true ∧
      contextOk (fitBytes 64 (flowReq 97 [(32, 5)] wardedCtx).cap.payload) = true ∧
      ((contextRule (fitBytes 64 (flowReq 97 [(32, 5)] wardedCtx).cap.payload)).matchBits = (0 : BitVec 4) ↔ (flowReq 97 [(32, 5)] wardedCtx).cap.arg 28 2 = 0) ∧
      (asks keyed3 (flowReq 97 [(32, 5)] wardedCtx)).assocOk ((flowReq 97 [(32, 5)] wardedCtx).cap.arg 28 2) (contextRule (fitBytes 64 (flowReq 97 [(32, 5)] wardedCtx).cap.payload)) (contextAssoc (fitBytes 64 (flowReq 97 [(32, 5)] wardedCtx).cap.payload)) = true ∧
      (flowReq 97 [(32, 5)] wardedCtx).cap.arg 32 4 = ((asks keyed3 (flowReq 97 [(32, 5)] wardedCtx)).flow ((flowReq 97 [(32, 5)] wardedCtx).cap.arg 28 2)).gen ∧
      keepsSlots ((asks keyed3 (flowReq 97 [(32, 5)] wardedCtx)).flow ((flowReq 97 [(32, 5)] wardedCtx).cap.arg 28 2)).assoc (contextAssoc (fitBytes 64 (flowReq 97 [(32, 5)] wardedCtx).cap.payload)) = false) ∧
    (case07e.ready Rdy.keyway = true ∧
      (flowReq 98 [(32, 5)] []).cap.arg 28 2 < 1000 ∧
      Takes case07e 7 98 (flowReq 98 [(32, 5)] []) ∧
      (flowReq 98 [(32, 5)] []).cap.len = 0 ∧
      (flowReq 98 [(32, 5)] []).cap.arg 28 2 ≠ 0 ∧
      (flowReq 98 [(32, 5)] []).cap.fieldsOk [(28, 2), (32, 4)] = true ∧
      (case07e.flow ((flowReq 98 [(32, 5)] []).cap.arg 28 2)).exist = true ∧
      (flowReq 98 [(32, 5)] []).cap.arg 32 4 = (case07e.flow ((flowReq 98 [(32, 5)] []).cap.arg 28 2)).gen ∧
      case07e.tablesOk = true) ∧
    ((asks keyed3 (flowReq 98 [(32, 5)] [])).ready Rdy.keyway = true ∧
      (flowReq 98 [(32, 5)] []).cap.arg 28 2 < 1000 ∧
      Takes (asks keyed3 (flowReq 98 [(32, 5)] [])) 7 98 (flowReq 98 [(32, 5)] []) ∧
      (flowReq 98 [(32, 5)] []).cap.len = 0 ∧
      (flowReq 98 [(32, 5)] []).cap.arg 28 2 ≠ 0 ∧
      (flowReq 98 [(32, 5)] []).cap.fieldsOk [(28, 2), (32, 4)] = true ∧
      ((asks keyed3 (flowReq 98 [(32, 5)] [])).flow ((flowReq 98 [(32, 5)] []).cap.arg 28 2)).exist = true ∧
      (flowReq 98 [(32, 5)] []).cap.arg 32 4 = ((asks keyed3 (flowReq 98 [(32, 5)] [])).flow ((flowReq 98 [(32, 5)] []).cap.arg 28 2)).gen ∧
      (asks keyed3 (flowReq 98 [(32, 5)] [])).tablesOk = true) ∧
    ((asks (ring3 { : Machine.Ring }) (flowReq 97 [(32, 6)] (ctxBytes []))).ready Rdy.keyway = true ∧
      (flowReq 97 [(32, 6)] (ctxBytes [])).cap.arg 28 2 < 1000 ∧
      Takes (asks (ring3 { : Machine.Ring }) (flowReq 97 [(32, 6)] (ctxBytes []))) 7 97 (flowReq 97 [(32, 6)] (ctxBytes [])) ∧
      (flowReq 97 [(32, 6)] (ctxBytes [])).cap.len = 64 ∧
      (assocNone (contextAssoc (fitBytes 64 (flowReq 97 [(32, 6)] (ctxBytes [])).cap.payload)) = true ∨ (asks (ring3 { : Machine.Ring }) (flowReq 97 [(32, 6)] (ctxBytes []))).fuse.part.ward = true ∧ ((asks (ring3 { : Machine.Ring }) (flowReq 97 [(32, 6)] (ctxBytes []))).wardApproved = true → assocValidate (contextAssoc (fitBytes 64 (flowReq 97 [(32, 6)] (ctxBytes [])).cap.payload)) = 2)) ∧
      (flowReq 97 [(32, 6)] (ctxBytes [])).cap.fieldsOk [(28, 2), (32, 4)] = true ∧
      ((asks (ring3 { : Machine.Ring }) (flowReq 97 [(32, 6)] (ctxBytes []))).flow ((flowReq 97 [(32, 6)] (ctxBytes [])).cap.arg 28 2)).exist = true ∧
      contextOk (fitBytes 64 (flowReq 97 [(32, 6)] (ctxBytes [])).cap.payload) = true ∧
      ((contextRule (fitBytes 64 (flowReq 97 [(32, 6)] (ctxBytes [])).cap.payload)).matchBits = (0 : BitVec 4) ↔ (flowReq 97 [(32, 6)] (ctxBytes [])).cap.arg 28 2 = 0) ∧
      (asks (ring3 { : Machine.Ring }) (flowReq 97 [(32, 6)] (ctxBytes []))).assocOk ((flowReq 97 [(32, 6)] (ctxBytes [])).cap.arg 28 2) (contextRule (fitBytes 64 (flowReq 97 [(32, 6)] (ctxBytes [])).cap.payload)) (contextAssoc (fitBytes 64 (flowReq 97 [(32, 6)] (ctxBytes [])).cap.payload)) = true ∧
      (flowReq 97 [(32, 6)] (ctxBytes [])).cap.arg 32 4 ≠ ((asks (ring3 { : Machine.Ring }) (flowReq 97 [(32, 6)] (ctxBytes []))).flow ((flowReq 97 [(32, 6)] (ctxBytes [])).cap.arg 28 2)).gen) ∧
    ((asks keyed3 (flowReq 98 [(32, 6)] [])).ready Rdy.keyway = true ∧
      (flowReq 98 [(32, 6)] []).cap.arg 28 2 < 1000 ∧
      Takes (asks keyed3 (flowReq 98 [(32, 6)] [])) 7 98 (flowReq 98 [(32, 6)] []) ∧
      (flowReq 98 [(32, 6)] []).cap.len = 0 ∧
      (flowReq 98 [(32, 6)] []).cap.arg 28 2 ≠ 0 ∧
      (flowReq 98 [(32, 6)] []).cap.fieldsOk [(28, 2), (32, 4)] = true ∧
      ((asks keyed3 (flowReq 98 [(32, 6)] [])).flow ((flowReq 98 [(32, 6)] []).cap.arg 28 2)).exist = true ∧
      (flowReq 98 [(32, 6)] []).cap.arg 32 4 ≠ ((asks keyed3 (flowReq 98 [(32, 6)] [])).flow ((flowReq 98 [(32, 6)] []).cap.arg 28 2)).gen) ∧
    ((asks dataUp (flow0Req 96 (ctxBytes []))).ready Rdy.keyway = true ∧
      (flow0Req 96 (ctxBytes [])).cap.arg 28 2 < 1000 ∧
      Takes (asks dataUp (flow0Req 96 (ctxBytes []))) 7 96 (flow0Req 96 (ctxBytes [])) ∧
      (flow0Req 96 (ctxBytes [])).cap.len = 64 ∧
      (assocNone (contextAssoc (fitBytes 64 (flow0Req 96 (ctxBytes [])).cap.payload)) = true ∨ (asks dataUp (flow0Req 96 (ctxBytes []))).fuse.part.ward = true ∧ ((asks dataUp (flow0Req 96 (ctxBytes []))).wardApproved = true → assocValidate (contextAssoc (fitBytes 64 (flow0Req 96 (ctxBytes [])).cap.payload)) = 2)) ∧
      (flow0Req 96 (ctxBytes [])).cap.arg 28 2 = 0) ∧
    ((asks dataUp (flow0Req 98 [])).ready Rdy.keyway = true ∧
      (flow0Req 98 []).cap.arg 28 2 < 1000 ∧
      Takes (asks dataUp (flow0Req 98 [])) 7 98 (flow0Req 98 []) ∧
      (flow0Req 98 []).cap.len = 0 ∧
      (flow0Req 98 []).cap.arg 28 2 = 0) := by
  refine ⟨?_, ?_, ?_, ?_, ?_, ?_, ?_, ?_, ?_, ?_⟩
  all_goals ((try unfold Takes); decide +kernel)

/-- What StagedSlotsComeIntoForce assumes is met here, clause by clause. -/
theorem witness_StagedSlotsComeIntoForce :
    (Takes (asks live openReq) 7 100 openReq ∧
      (asks live openReq).ready Rdy.engines = true ∧
      openReq.cap.arg 28 1 = 0 ∧
      Plain openReq [(28, 1)] ∧
      (asks live openReq).inQuiet = false ∧
      (asks live openReq).txQuiet = false ∧
      (∀ (g : Staging), (asks live openReq).eng.staging = some g → g.state ≠ 3)) ∧
    (Takes (asks (staged (tableOn 0)) clearReq) 7 100 clearReq ∧
      (asks (staged (tableOn 0)) clearReq).ready Rdy.engines = true ∧
      clearReq.cap.arg 28 1 = 2 ∧
      clearReq.cap.len = 0 ∧
      (asks (staged (tableOn 0)) clearReq).stageStale clearReq.cap = false ∧
      clearReq.cap.fieldsOk [(28, 3), (36, 4)] = true ∧
      clearReq.cap.arg 29 1 ≤ 1 ∧
      clearReq.cap.arg 30 1 < (asks (staged (tableOn 0)) clearReq).fuse.part.engines ∧
      (asks (staged (tableOn 0)) clearReq).tablesOk = true) ∧
    (Takes (asks (staged (tableOn 1)) commitReq) 7 101 commitReq ∧
      (asks (staged (tableOn 1)) commitReq).ready Rdy.engines = true ∧
      Plain commitReq [(36, 4)] ∧
      (asks (staged (tableOn 1)) commitReq).eng.stageOpen (commitReq.cap.arg 36 4) = true ∧
      (asks (staged (tableOn 1)) commitReq).testedTarget = none ∧
      ((asks (staged (tableOn 1)) commitReq).begin commitReq).validate (asks (staged (tableOn 1)) commitReq).eng.inactive (asks (staged (tableOn 1)) commitReq).eng.profile = none) ∧
    (Takes (asks (staged []) commitReq) 7 101 commitReq ∧
      (asks (staged []) commitReq).ready Rdy.engines = true ∧
      Plain commitReq [(36, 4)] ∧
      (asks (staged []) commitReq).eng.stageOpen (commitReq.cap.arg 36 4) = true ∧
      (asks (staged []) commitReq).testedTarget = none ∧
      ((asks (staged []) commitReq).begin commitReq).validate (asks (staged []) commitReq).eng.inactive (asks (staged []) commitReq).eng.profile = some (5, 0)) ∧
    (armedTable.eng.staging = some armed4 ∧
      armed4.state = 3 ∧
      armedTable.eng.laterProfile = none ∧
      armedTable.eng.laterMove = none ∧
      ((armedTable.findRun 100 fun _ => true) = none)) := by
  refine ⟨?_, ?_, ?_, ?_, ?_⟩
  all_goals ((try unfold Takes); (try unfold Plain); decide +kernel)

/-- What TheTimelineAdvances assumes is met here, clause by clause. -/
theorem witness_TheTimelineAdvances :
    (0 < (staged []).fuse.part.engines ∧
      0 < 16 ∧
      0 < (staged []).eng.eng.length ∧
      slotTask (sget (0 : BitVec 64) (staged []).eng.active (16 * 0 + 0)) ≠ 0 ∧
      (slotComplete (sget (0 : BitVec 64) (staged []).eng.active (16 * 0 + 0)) 16 = true ∨ (staged []).slotSkipped (sget (0 : BitVec 64) (staged []).eng.active (16 * 0 + 0)) = true)) ∧
    (0 < (staged []).fuse.part.engines ∧
      0 < 16 ∧
      0 < (staged []).eng.eng.length ∧
      slotTask (sget (0 : BitVec 64) (staged []).eng.active (16 * 0 + 0)) ≠ 0 ∧
      slotComplete (sget (0 : BitVec 64) (staged []).eng.active (16 * 0 + 0)) 7 = false ∧
      (staged []).slotSkipped (sget (0 : BitVec 64) (staged []).eng.active (16 * 0 + 0)) = false) ∧
    (0 < (staged []).fuse.part.engines ∧
      2 < 16 ∧
      0 < (staged []).eng.eng.length ∧
      slotTask (sget (0 : BitVec 64) (staged []).eng.active (16 * 0 + 2)) ≠ 0 ∧
      slotComplete (sget (0 : BitVec 64) (staged []).eng.active (16 * 0 + 2)) 7 = false ∧
      (staged []).slotSkipped (sget (0 : BitVec 64) (staged []).eng.active (16 * 0 + 2)) = false) ∧
    ((linkAt live 0).heldReset = false ∧
      (linkAt live 0).link.state ≤ 3) ∧
    ((linkAt live 3).heldReset = false ∧
      (linkAt live 3).link.state ≤ 3) ∧
    ((linkAt live 4).heldReset = false ∧
      4 ≤ (linkAt live 4).link.state ∧
      (linkAt live 4).link.state ≤ 7) ∧
    ((linkAt native 7).heldReset = false ∧
      4 ≤ (linkAt native 7).link.state ∧
      (linkAt native 7).link.state ≤ 7) ∧
    (native.heldReset = false ∧
      native.nativeData = true ∧
      native.ql.run.txState = 0 ∧
      native.ql.run.laid = false) := by
  refine ⟨?_, ?_, ?_, ?_, ?_, ?_, ?_, ?_⟩
  all_goals decide +kernel

/-- What StoreArbitrationHolds assumes is met here, clause by clause. -/
theorem witness_StoreArbitrationHolds :
    ({ cycle := 9, asks := [], withdrawn := [], errors := [] : StoreCycle }.asks = [] ∧
      { cycle := 9, asks := [], withdrawn := [], errors := [] : StoreCycle }.withdrawn = [] ∧
      { cycle := 9, asks := [], withdrawn := [], errors := [] : StoreCycle }.errors = [] ∧
      (granting 3).eng.waiting = [] ∧
      (granting 3).eng.marked = []) ∧
    (3 < 8 ∧
      live.eng.store = List.replicate 8 { : StoreBank } ∧
      live.eng.waiting = [] ∧
      lone.withdrawn = [] ∧
      lone.errors = [] ∧
      lone.asks = [{ who := 96, slot := 0, banks := (8 : BitVec 8), lines := 4, line := 100, write := false, done := 0 : StoreAsk }] ∧
      { who := 96, slot := 0, banks := (8 : BitVec 8), lines := 4, line := 100, write := false, done := 0 : StoreAsk }.banks = BitVec.twoPow 8 3 ∧
      1 < { who := 96, slot := 0, banks := (8 : BitVec 8), lines := 4, line := 100, write := false, done := 0 : StoreAsk }.lines ∧
      ({ who := 96, slot := 0, banks := (8 : BitVec 8), lines := 4, line := 100, write := false, done := 0 : StoreAsk }.who = 96 ∨ { who := 96, slot := 0, banks := (8 : BitVec 8), lines := 4, line := 100, write := false, done := 0 : StoreAsk }.who = 98 ∨ { who := 96, slot := 0, banks := (8 : BitVec 8), lines := 4, line := 100, write := false, done := 0 : StoreAsk }.who = 97 ∧ live.fuse.part.diag = true ∨ { who := 96, slot := 0, banks := (8 : BitVec 8), lines := 4, line := 100, write := false, done := 0 : StoreAsk }.who < 96 ∧ { who := 96, slot := 0, banks := (8 : BitVec 8), lines := 4, line := 100, write := false, done := 0 : StoreAsk }.who < live.fuse.part.engines ∧ (live.engine { who := 96, slot := 0, banks := (8 : BitVec 8), lines := 4, line := 100, write := false, done := 0 : StoreAsk }.who).retired = false ∧ { who := 96, slot := 0, banks := (8 : BitVec 8), lines := 4, line := 100, write := false, done := 0 : StoreAsk }.slot < 16 ∧ slotTask (sget (0 : BitVec 64) live.eng.active (16 * { who := 96, slot := 0, banks := (8 : BitVec 8), lines := 4, line := 100, write := false, done := 0 : StoreAsk }.who + { who := 96, slot := 0, banks := (8 : BitVec 8), lines := 4, line := 100, write := false, done := 0 : StoreAsk }.slot)) ≠ 0 ∧ (slotBanks (sget (0 : BitVec 64) live.eng.active (16 * { who := 96, slot := 0, banks := (8 : BitVec 8), lines := 4, line := 100, write := false, done := 0 : StoreAsk }.who + { who := 96, slot := 0, banks := (8 : BitVec 8), lines := 4, line := 100, write := false, done := 0 : StoreAsk }.slot))).testBit 3 = true ∧ ({ who := 96, slot := 0, banks := (8 : BitVec 8), lines := 4, line := 100, write := false, done := 0 : StoreAsk }.write = true ∨ live.eng.marked.contains (3, { who := 96, slot := 0, banks := (8 : BitVec 8), lines := 4, line := 100, write := false, done := 0 : StoreAsk }.line) = false))) ∧
    (0 < 8 ∧
      live.eng.store = List.replicate 8 { : StoreBank } ∧
      live.eng.waiting = [] ∧
      { cycle := 9, asks := [{ who := 98, slot := 0, banks := (1 : BitVec 8), lines := 2, line := 7, write := true, done := 0 : StoreAsk }], withdrawn := [], errors := [] : StoreCycle }.withdrawn = [] ∧
      { cycle := 9, asks := [{ who := 98, slot := 0, banks := (1 : BitVec 8), lines := 2, line := 7, write := true, done := 0 : StoreAsk }], withdrawn := [], errors := [] : StoreCycle }.errors = [] ∧
      { cycle := 9, asks := [{ who := 98, slot := 0, banks := (1 : BitVec 8), lines := 2, line := 7, write := true, done := 0 : StoreAsk }], withdrawn := [], errors := [] : StoreCycle }.asks = [{ who := 98, slot := 0, banks := (1 : BitVec 8), lines := 2, line := 7, write := true, done := 0 : StoreAsk }] ∧
      { who := 98, slot := 0, banks := (1 : BitVec 8), lines := 2, line := 7, write := true, done := 0 : StoreAsk }.banks = BitVec.twoPow 8 0 ∧
      1 < { who := 98, slot := 0, banks := (1 : BitVec 8), lines := 2, line := 7, write := true, done := 0 : StoreAsk }.lines ∧
      ({ who := 98, slot := 0, banks := (1 : BitVec 8), lines := 2, line := 7, write := true, done := 0 : StoreAsk }.who = 96 ∨ { who := 98, slot := 0, banks := (1 : BitVec 8), lines := 2, line := 7, write := true, done := 0 : StoreAsk }.who = 98 ∨ { who := 98, slot := 0, banks := (1 : BitVec 8), lines := 2, line := 7, write := true, done := 0 : StoreAsk }.who = 97 ∧ live.fuse.part.diag = true ∨ { who := 98, slot := 0, banks := (1 : BitVec 8), lines := 2, line := 7, write := true, done := 0 : StoreAsk }.who < 96 ∧ { who := 98, slot := 0, banks := (1 : BitVec 8), lines := 2, line := 7, write := true, done := 0 : StoreAsk }.who < live.fuse.part.engines ∧ (live.engine { who := 98, slot := 0, banks := (1 : BitVec 8), lines := 2, line := 7, write := true, done := 0 : StoreAsk }.who).retired = false ∧ { who := 98, slot := 0, banks := (1 : BitVec 8), lines := 2, line := 7, write := true, done := 0 : StoreAsk }.slot < 16 ∧ slotTask (sget (0 : BitVec 64) live.eng.active (16 * { who := 98, slot := 0, banks := (1 : BitVec 8), lines := 2, line := 7, write := true, done := 0 : StoreAsk }.who + { who := 98, slot := 0, banks := (1 : BitVec 8), lines := 2, line := 7, write := true, done := 0 : StoreAsk }.slot)) ≠ 0 ∧ (slotBanks (sget (0 : BitVec 64) live.eng.active (16 * { who := 98, slot := 0, banks := (1 : BitVec 8), lines := 2, line := 7, write := true, done := 0 : StoreAsk }.who + { who := 98, slot := 0, banks := (1 : BitVec 8), lines := 2, line := 7, write := true, done := 0 : StoreAsk }.slot))).testBit 0 = true ∧ ({ who := 98, slot := 0, banks := (1 : BitVec 8), lines := 2, line := 7, write := true, done := 0 : StoreAsk }.write = true ∨ live.eng.marked.contains (0, { who := 98, slot := 0, banks := (1 : BitVec 8), lines := 2, line := 7, write := true, done := 0 : StoreAsk }.line) = false))) ∧
    (((granting 64).storeBank 1).grant = some { who := 4, slot := 0, lines := 9, held := 64 : Grant } ∧
      64 ≤ { who := 4, slot := 0, lines := 9, held := 64 : Grant }.held ∧
      { who := 4, slot := 0, lines := 9, held := 64 : Grant }.lines ≠ 0) ∧
    (live.ben.up = true ∧
      3 < 8 ∧
      3 < live.eng.store.length) := by
  refine ⟨?_, ?_, ?_, ?_, ?_⟩
  all_goals decide +kernel

/-- What RepairsAndSwapsProceed assumes is met here, clause by clause. -/
theorem witness_RepairsAndSwapsProceed :
    (broken.eng.repairQueue = [(0, 2), (9, 1)] ∧
      broken.ben.up = true ∧
      broken.eng.repair = none ∧
      broken.hasSlots 0 = true ∧
      broken.inQuiet = false ∧
      broken.txQuiet = false ∧
      broken.spareFor 0 = some 1 ∧
      broken.engineState 1 = 2 ∧
      1 < broken.eng.eng.length) ∧
    (mending.eng.repair = some { failed := 0, spare := 1, cause := 2 : Repair } ∧
      { failed := 0, spare := 1, cause := 2 : Repair }.committed = false ∧
      { failed := 0, spare := 1, cause := 2 : Repair }.spare < mending.eng.eng.length ∧
      mending.armed = false ∧
      (((mending.modEngine { failed := 0, spare := 1, cause := 2 : Repair }.spare fun x => { retired := x.retired || false, gateRefused := x.gateRefused, failing := x.failing, cause := x.cause, dropped := x.dropped, overrun := x.overrun, drops := x.drops, overholds := x.overholds, bankViol := x.bankViol, memCe := x.memCe, busy := x.busy, waits := x.waits, newProg := x.newProg, ovhAt := x.ovhAt, violAt := x.violAt : Engine }).stageMove { failed := 0, spare := 1, cause := 2 : Repair }.failed { failed := 0, spare := 1, cause := 2 : Repair }.spare).2 = true)) ∧
    (mendingArmed.eng.repair = some { failed := 0, spare := 1, cause := 2 : Repair } ∧
      { failed := 0, spare := 1, cause := 2 : Repair }.committed = false ∧
      { failed := 0, spare := 1, cause := 2 : Repair }.spare < mendingArmed.eng.eng.length ∧
      mendingArmed.armed = true) ∧
    (swapping.ben.swapLeft ≠ 0 ∧
      swapping.ben.swapDeferred = false ∧
      swapping.ben.up = true ∧
      swapping.eng.repair = none ∧
      swapping.eng.repairQueue = [] ∧
      (∀ (g : Staging), swapping.eng.staging = some g → g.state ≠ 3) ∧
      (∀ (e : Nat), swapping.hasSlots e = false) ∧
      swapping.fuse.part.engines ≤ swapping.eng.eng.length) := by
  and_intros <;> first | decide +kernel | exact swapping_hasSlots

/-- What WardCommandsAnswer assumes is met here, clause by clause. -/
theorem witness_WardCommandsAnswer :
    ((asks keys3 katReq).ready Rdy.ward = true ∧
      Takes (asks keys3 katReq) 7 112 katReq ∧
      Plain katReq [] ∧
      (((asks keys3 katReq).findRun 112 fun _ => true) = none)) ∧
    ((asks keys3 advReq).ready Rdy.ward = true ∧
      Plain advReq [(28, 2), (32, 4)] ∧
      advReq.cap.arg 28 2 < 1000 ∧
      ((asks keys3 advReq).flow (advReq.cap.arg 28 2)).exist = true ∧
      advReq.cap.arg 32 4 = ((asks keys3 advReq).flow (advReq.cap.arg 28 2)).gen ∧
      assocNone ((asks keys3 advReq).flow (advReq.cap.arg 28 2)).assoc = false ∧
      Takes (asks keys3 advReq) 7 113 advReq ∧
      (asks keys3 advReq).slotIn (advReq.cap.arg 28 2) 1 = some 1) ∧
    ((asks keys3 eraReq).ready Rdy.ward = true ∧
      Plain eraReq [(28, 2), (32, 4)] ∧
      eraReq.cap.arg 28 2 < 1000 ∧
      ((asks keys3 eraReq).flow (eraReq.cap.arg 28 2)).exist = true ∧
      eraReq.cap.arg 32 4 = ((asks keys3 eraReq).flow (eraReq.cap.arg 28 2)).gen ∧
      assocNone ((asks keys3 eraReq).flow (eraReq.cap.arg 28 2)).assoc = false ∧
      Takes (asks keys3 eraReq) 7 114 eraReq ∧
      (asks keys3 eraReq).tablesOk = true) ∧
    (untested.fuse.part.ward = true ∧
      untested.heldReset = false ∧
      ((untested.findRun 112 fun _ => true) = none) ∧
      untested.fuse.lifecycle ≠ Lifecycle.retired ∧
      untested.ward.tested = false ∧
      untested.ward.error = false ∧
      untested.hasp.latched = false ∧
      untested.nvm.erasePending = false) ∧
    (latchedHasp.fuse.part.ward = true ∧
      latchedHasp.heldReset = false ∧
      ((latchedHasp.findRun 112 fun _ => true) = none) ∧
      latchedHasp.fuse.lifecycle ≠ Lifecycle.retired) ∧
    ((atWard rxM true).mkaRuns = true) ∧
    (erasing.nvm.erasePending = true) := by
  refine ⟨?_, ?_, ?_, ?_, ?_, ?_, ?_⟩
  all_goals ((try unfold Takes); (try unfold Plain); decide +kernel)

/-- What KeyMessagesNeedTheirRights assumes is met here, clause by clause. -/
theorem witness_KeyMessagesNeedTheirRights :
    (KeyMessage owned (msg (packBytes 8 [(8, 6), (8, 1)] ++ List.replicate 32 (7 : Byte))) owner ∧
      (msg (packBytes 8 [(8, 6), (8, 1)] ++ List.replicate 32 (7 : Byte))).body.length = 40 ∧
      (msg (packBytes 8 [(8, 6), (8, 1)] ++ List.replicate 32 (7 : Byte))).arg 8 1 ≤ 63 ∧
      (msg (packBytes 8 [(8, 6), (8, 1)] ++ List.replicate 32 (7 : Byte))).arg 9 1 ≤ 1 ∧
      (msg (packBytes 8 [(8, 6), (8, 1)] ++ List.replicate 32 (7 : Byte))).arg 10 6 = 0 ∧
      ((msg (packBytes 8 [(8, 6), (8, 1)] ++ List.replicate 32 (7 : Byte))).arg 8 1 = 0 → owned.isOwner owner = true) ∧
      ((msg (packBytes 8 [(8, 6), (8, 1)] ++ List.replicate 32 (7 : Byte))).arg 8 1 ≠ 0 → (sget { : Kek } owned.ward.keks ((msg (packBytes 8 [(8, 6), (8, 1)] ++ List.replicate 32 (7 : Byte))).arg 8 1)).key = none ∨ owned.isInstaller owner ((msg (packBytes 8 [(8, 6), (8, 1)] ++ List.replicate 32 (7 : Byte))).arg 8 1) = true) ∧
      (owned.isInstaller owner ((msg (packBytes 8 [(8, 6), (8, 1)] ++ List.replicate 32 (7 : Byte))).arg 8 1) = true ∨ owned.isOwner owner = true) ∧
      owned.tablesOk = true) ∧
    (KeyMessage owned (msg (packBytes 8 [(8, 0), (8, 0)] ++ List.replicate 32 (7 : Byte))) owner ∧
      (msg (packBytes 8 [(8, 0), (8, 0)] ++ List.replicate 32 (7 : Byte))).body.length = 40 ∧
      (msg (packBytes 8 [(8, 0), (8, 0)] ++ List.replicate 32 (7 : Byte))).arg 8 1 ≤ 63 ∧
      (msg (packBytes 8 [(8, 0), (8, 0)] ++ List.replicate 32 (7 : Byte))).arg 9 1 ≤ 1 ∧
      (msg (packBytes 8 [(8, 0), (8, 0)] ++ List.replicate 32 (7 : Byte))).arg 10 6 = 0 ∧
      ((msg (packBytes 8 [(8, 0), (8, 0)] ++ List.replicate 32 (7 : Byte))).arg 8 1 = 0 → owned.isOwner owner = true) ∧
      ((msg (packBytes 8 [(8, 0), (8, 0)] ++ List.replicate 32 (7 : Byte))).arg 8 1 ≠ 0 → (sget { : Kek } owned.ward.keks ((msg (packBytes 8 [(8, 0), (8, 0)] ++ List.replicate 32 (7 : Byte))).arg 8 1)).key = none ∨ owned.isInstaller owner ((msg (packBytes 8 [(8, 0), (8, 0)] ++ List.replicate 32 (7 : Byte))).arg 8 1) = true) ∧
      (owned.isInstaller owner ((msg (packBytes 8 [(8, 0), (8, 0)] ++ List.replicate 32 (7 : Byte))).arg 8 1) = true ∨ owned.isOwner owner = true) ∧
      owned.tablesOk = true) ∧
    (KeyMessage owned (msg (packBytes 8 [(8, 63), (8, 0)] ++ List.replicate 32 (7 : Byte))) owner ∧
      (msg (packBytes 8 [(8, 63), (8, 0)] ++ List.replicate 32 (7 : Byte))).body.length = 40 ∧
      (msg (packBytes 8 [(8, 63), (8, 0)] ++ List.replicate 32 (7 : Byte))).arg 8 1 ≤ 63 ∧
      (msg (packBytes 8 [(8, 63), (8, 0)] ++ List.replicate 32 (7 : Byte))).arg 9 1 ≤ 1 ∧
      (msg (packBytes 8 [(8, 63), (8, 0)] ++ List.replicate 32 (7 : Byte))).arg 10 6 = 0 ∧
      ((msg (packBytes 8 [(8, 63), (8, 0)] ++ List.replicate 32 (7 : Byte))).arg 8 1 = 0 → owned.isOwner owner = true) ∧
      ((msg (packBytes 8 [(8, 63), (8, 0)] ++ List.replicate 32 (7 : Byte))).arg 8 1 ≠ 0 → (sget { : Kek } owned.ward.keks ((msg (packBytes 8 [(8, 63), (8, 0)] ++ List.replicate 32 (7 : Byte))).arg 8 1)).key = none ∨ owned.isInstaller owner ((msg (packBytes 8 [(8, 63), (8, 0)] ++ List.replicate 32 (7 : Byte))).arg 8 1) = true) ∧
      (owned.isInstaller owner ((msg (packBytes 8 [(8, 63), (8, 0)] ++ List.replicate 32 (7 : Byte))).arg 8 1) = true ∨ owned.isOwner owner = true) ∧
      owned.tablesOk = true) ∧
    (KeyMessage owned (msg (packBytes 8 [(8, 5), (8, 0)] ++ List.replicate 32 (7 : Byte))) owner ∧
      (msg (packBytes 8 [(8, 5), (8, 0)] ++ List.replicate 32 (7 : Byte))).body.length = 40 ∧
      (msg (packBytes 8 [(8, 5), (8, 0)] ++ List.replicate 32 (7 : Byte))).arg 8 1 ≤ 63 ∧
      (msg (packBytes 8 [(8, 5), (8, 0)] ++ List.replicate 32 (7 : Byte))).arg 9 1 ≤ 1 ∧
      (msg (packBytes 8 [(8, 5), (8, 0)] ++ List.replicate 32 (7 : Byte))).arg 10 6 = 0 ∧
      ((msg (packBytes 8 [(8, 5), (8, 0)] ++ List.replicate 32 (7 : Byte))).arg 8 1 = 0 → owned.isOwner owner = true) ∧
      ((msg (packBytes 8 [(8, 5), (8, 0)] ++ List.replicate 32 (7 : Byte))).arg 8 1 ≠ 0 → (sget { : Kek } owned.ward.keks ((msg (packBytes 8 [(8, 5), (8, 0)] ++ List.replicate 32 (7 : Byte))).arg 8 1)).key = none ∨ owned.isInstaller owner ((msg (packBytes 8 [(8, 5), (8, 0)] ++ List.replicate 32 (7 : Byte))).arg 8 1) = true) ∧
      (owned.isInstaller owner ((msg (packBytes 8 [(8, 5), (8, 0)] ++ List.replicate 32 (7 : Byte))).arg 8 1) = true ∨ owned.isOwner owner = true) ∧
      owned.tablesOk = true) ∧
    (KeyMessage owned (msg [(5 : Byte), (0 : Byte), (0 : Byte), (0 : Byte), (0 : Byte), (0 : Byte), (0 : Byte), (0 : Byte)]) owner ∧
      (msg [(5 : Byte), (0 : Byte), (0 : Byte), (0 : Byte), (0 : Byte), (0 : Byte), (0 : Byte), (0 : Byte)]).arg 8 1 ≤ 63 ∧
      (owned.isInstaller owner ((msg [(5 : Byte), (0 : Byte), (0 : Byte), (0 : Byte), (0 : Byte), (0 : Byte), (0 : Byte), (0 : Byte)]).arg 8 1) = true ∨ owned.isOwner owner = true) ∧
      owned.tablesOk = true) ∧
    (KeyMessage owned installMsg owner ∧
      installMsg.arg 8 1 ≤ 63 ∧
      (owned.isInstaller owner (installMsg.arg 8 1) = true ∨ owned.isOwner owner = true) ∧
      owned.tablesOk = true ∧
      installMsg.arg 8 2 < 1000 ∧
      (owned.flow (installMsg.arg 8 2)).exist = true ∧
      installMsg.arg 12 4 = (owned.flow (installMsg.arg 8 2)).gen ∧
      assocNone (owned.flow (installMsg.arg 8 2)).assoc = false ∧
      owned.isOwner owner = true) ∧
    (KeyMessage owned (msg (packBytes 8 [(16, 3), (16, 0), (32, 5)])) owner ∧
      (msg (packBytes 8 [(16, 3), (16, 0), (32, 5)])).arg 8 1 ≤ 63 ∧
      (owned.isInstaller owner ((msg (packBytes 8 [(16, 3), (16, 0), (32, 5)])).arg 8 1) = true ∨ owned.isOwner owner = true) ∧
      owned.tablesOk = true ∧
      (msg (packBytes 8 [(16, 3), (16, 0), (32, 5)])).arg 8 2 < 1000 ∧
      (owned.flow ((msg (packBytes 8 [(16, 3), (16, 0), (32, 5)])).arg 8 2)).exist = true ∧
      (msg (packBytes 8 [(16, 3), (16, 0), (32, 5)])).arg 12 4 = (owned.flow ((msg (packBytes 8 [(16, 3), (16, 0), (32, 5)])).arg 8 2)).gen ∧
      assocNone (owned.flow ((msg (packBytes 8 [(16, 3), (16, 0), (32, 5)])).arg 8 2)).assoc = false ∧
      (msg (packBytes 8 [(16, 3), (16, 0), (32, 5)])).arg 10 1 ≤ 3 ∧
      (∀ (c : Nat), owned.slotIn ((msg (packBytes 8 [(16, 3), (16, 0), (32, 5)])).arg 8 2) 2 = some c → (owned.slot ((msg (packBytes 8 [(16, 3), (16, 0), (32, 5)])).arg 8 2) c).an ≠ (msg (packBytes 8 [(16, 3), (16, 0), (32, 5)])).arg 10 1) ∧
      owned.isOwner owner = true) ∧
    (KeyMessage owned cakMsg owner ∧
      cakMsg.arg 8 1 ≤ 63 ∧
      (owned.isInstaller owner (cakMsg.arg 8 1) = true ∨ owned.isOwner owner = true) ∧
      owned.tablesOk = true) := by
  refine ⟨?_, ?_, ?_, ?_, ?_, ?_, ?_, ?_⟩
  all_goals ((try unfold KeyMessage); (try unfold Secured); decide +kernel)

/-- What TheOwnerControlsTheDevice assumes is met here, clause by clause. -/
theorem witness_TheOwnerControlsTheDevice :
    (Secured owned (msg (packBytes 16 [(32, 4096)])) owner ∧
      owned.isOwner owner = true ∧
      (owned.wardApproved = true → classesApproved (BitVec.ofNat 32 (leAt (fitBytes 16 ((msg (packBytes 16 [(32, 4096)])).bytes 8 16)) 0 4)) = true) ∧
      haspCfgOk (fitBytes 16 ((msg (packBytes 16 [(32, 4096)])).bytes 8 16)) = true ∧
      owned.zeroizeTripped = false) ∧
    (Secured owned (msg (packBytes 16 [(32, 4095)])) owner ∧
      owned.isOwner owner = true ∧
      owned.zeroizeTripped = false) ∧
    (Secured latchedHasp (msg []) owner ∧
      latchedHasp.isOwner owner = true ∧
      (latchedHasp.wardApproved = true → classesApproved (BitVec.ofNat 32 (leAt (fitBytes 16 ((msg []).bytes 8 16)) 0 4)) = true) ∧
      haspCfgOk (fitBytes 16 ((msg []).bytes 8 16)) = true ∧
      latchedHasp.zeroizeTripped = false) ∧
    (Secured owned (msg [(1 : Byte), (0 : Byte), (0 : Byte), (0 : Byte), (0 : Byte), (0 : Byte), (0 : Byte), (0 : Byte)]) owner ∧
      owned.isOwner owner = true ∧
      (owned.wardApproved = true → classesApproved (BitVec.ofNat 32 (leAt (fitBytes 16 ((msg [(1 : Byte), (0 : Byte), (0 : Byte), (0 : Byte), (0 : Byte), (0 : Byte), (0 : Byte), (0 : Byte)]).bytes 8 16)) 0 4)) = true) ∧
      haspCfgOk (fitBytes 16 ((msg [(1 : Byte), (0 : Byte), (0 : Byte), (0 : Byte), (0 : Byte), (0 : Byte), (0 : Byte), (0 : Byte)]).bytes 8 16)) = true ∧
      owned.zeroizeTripped = false ∧
      owned.hasp.latched = false ∧
      (msg [(1 : Byte), (0 : Byte), (0 : Byte), (0 : Byte), (0 : Byte), (0 : Byte), (0 : Byte), (0 : Byte)]).arg 8 1 ≤ 1 ∧
      ((msg [(1 : Byte), (0 : Byte), (0 : Byte), (0 : Byte), (0 : Byte), (0 : Byte), (0 : Byte), (0 : Byte)]).arg 8 1 = 1 → owned.allStrict = true ∧ classesApproved owned.hasp.cfg = true) ∧
      owned.nvm.approved ≠ decide ((msg [(1 : Byte), (0 : Byte), (0 : Byte), (0 : Byte), (0 : Byte), (0 : Byte), (0 : Byte), (0 : Byte)]).arg 8 1 = 1)) ∧
    (Secured otherMode (msg [(0 : Byte), (0 : Byte), (0 : Byte), (0 : Byte), (0 : Byte), (0 : Byte), (0 : Byte), (0 : Byte)]) owner ∧
      otherMode.isOwner owner = true ∧
      (otherMode.wardApproved = true → classesApproved (BitVec.ofNat 32 (leAt (fitBytes 16 ((msg [(0 : Byte), (0 : Byte), (0 : Byte), (0 : Byte), (0 : Byte), (0 : Byte), (0 : Byte), (0 : Byte)]).bytes 8 16)) 0 4)) = true) ∧
      haspCfgOk (fitBytes 16 ((msg [(0 : Byte), (0 : Byte), (0 : Byte), (0 : Byte), (0 : Byte), (0 : Byte), (0 : Byte), (0 : Byte)]).bytes 8 16)) = true ∧
      otherMode.zeroizeTripped = false ∧
      otherMode.hasp.latched = false ∧
      (msg [(0 : Byte), (0 : Byte), (0 : Byte), (0 : Byte), (0 : Byte), (0 : Byte), (0 : Byte), (0 : Byte)]).arg 8 1 ≤ 1 ∧
      ((msg [(0 : Byte), (0 : Byte), (0 : Byte), (0 : Byte), (0 : Byte), (0 : Byte), (0 : Byte), (0 : Byte)]).arg 8 1 = 1 → otherMode.allStrict = true ∧ classesApproved otherMode.hasp.cfg = true) ∧
      otherMode.nvm.approved ≠ decide ((msg [(0 : Byte), (0 : Byte), (0 : Byte), (0 : Byte), (0 : Byte), (0 : Byte), (0 : Byte), (0 : Byte)]).arg 8 1 = 1)) ∧
    (Secured otherMode (msg [(1 : Byte), (0 : Byte), (0 : Byte), (0 : Byte), (0 : Byte), (0 : Byte), (0 : Byte), (0 : Byte)]) owner ∧
      otherMode.isOwner owner = true ∧
      (otherMode.wardApproved = true → classesApproved (BitVec.ofNat 32 (leAt (fitBytes 16 ((msg [(1 : Byte), (0 : Byte), (0 : Byte), (0 : Byte), (0 : Byte), (0 : Byte), (0 : Byte), (0 : Byte)]).bytes 8 16)) 0 4)) = true) ∧
      haspCfgOk (fitBytes 16 ((msg [(1 : Byte), (0 : Byte), (0 : Byte), (0 : Byte), (0 : Byte), (0 : Byte), (0 : Byte), (0 : Byte)]).bytes 8 16)) = true ∧
      otherMode.zeroizeTripped = false) ∧
    (Secured case09a (msg [(0 : Byte)]) owner ∧
      case09a.isOwner owner = true ∧
      (case09a.wardApproved = true → classesApproved (BitVec.ofNat 32 (leAt (fitBytes 16 ((msg [(0 : Byte)]).bytes 8 16)) 0 4)) = true) ∧
      haspCfgOk (fitBytes 16 ((msg [(0 : Byte)]).bytes 8 16)) = true ∧
      case09a.zeroizeTripped = false ∧
      case09a.hasp.latched = false ∧
      (msg [(0 : Byte)]).arg 8 1 ≤ 1 ∧
      ((msg [(0 : Byte)]).arg 8 1 = 1 → case09a.allStrict = true ∧ classesApproved case09a.hasp.cfg = true) ∧
      case09a.nvm.approved ≠ decide ((msg [(0 : Byte)]).arg 8 1 = 1)) ∧
    (Secured deployed (msg [(3 : Byte), (0 : Byte), (0 : Byte), (0 : Byte), (0 : Byte), (0 : Byte), (0 : Byte), (0 : Byte)]) owner ∧
      deployed.isOwner owner = true ∧
      (deployed.wardApproved = true → classesApproved (BitVec.ofNat 32 (leAt (fitBytes 16 ((msg [(3 : Byte), (0 : Byte), (0 : Byte), (0 : Byte), (0 : Byte), (0 : Byte), (0 : Byte), (0 : Byte)]).bytes 8 16)) 0 4)) = true) ∧
      haspCfgOk (fitBytes 16 ((msg [(3 : Byte), (0 : Byte), (0 : Byte), (0 : Byte), (0 : Byte), (0 : Byte), (0 : Byte), (0 : Byte)]).bytes 8 16)) = true ∧
      deployed.zeroizeTripped = false ∧
      deployed.lcHoldHigh = false ∧
      deployed.fuse.lifecycle = Lifecycle.deployed ∧
      (msg [(3 : Byte), (0 : Byte), (0 : Byte), (0 : Byte), (0 : Byte), (0 : Byte), (0 : Byte), (0 : Byte)]).arg 8 1 = 3) ∧
    (Secured ownerless (msg [(2 : Byte), (0 : Byte), (0 : Byte), (0 : Byte), (0 : Byte), (0 : Byte), (0 : Byte), (0 : Byte)]) owner ∧
      ownerless.lcHoldHigh = false ∧
      ownerless.fuse.lifecycle = Lifecycle.provisioned ∧
      (msg [(2 : Byte), (0 : Byte), (0 : Byte), (0 : Byte), (0 : Byte), (0 : Byte), (0 : Byte), (0 : Byte)]).arg 8 1 = 2 ∧
      owner.requester = some ((77 : BitVec 384), (99 : BitVec 384))) := by
  refine ⟨?_, ?_, ?_, ?_, ?_, ?_, ?_, ?_, ?_⟩
  all_goals ((try unfold Secured); decide +kernel)

/-- What HaspRespondsByClass assumes is met here, clause by clause. -/
theorem witness_HaspRespondsByClass :
    (classes.pwr.porHeld = false ∧
      0 < 7 ∧
      classes.hasp.tripped.getLsbD 0 = false) ∧
    (classes.pwr.porHeld = false ∧
      1 < 7 ∧
      classes.hasp.tripped.getLsbD 1 = false) ∧
    (classes.pwr.porHeld = false ∧
      2 < 7 ∧
      classes.hasp.tripped.getLsbD 2 = false) ∧
    (classes.pwr.porHeld = false ∧
      3 < 7 ∧
      classes.hasp.tripped.getLsbD 3 = false) ∧
    (case09b.pwr.porHeld = false ∧
      6 < 7 ∧
      case09b.hasp.tripped.getLsbD 6 = false) ∧
    (case09c.pwr.porHeld = false ∧
      3 < 7 ∧
      case09c.hasp.tripped.getLsbD 3 = false) ∧
    (allTripped.pwr.porHeld = false ∧
      6 < 7 ∧
      (6 = 0 → allTripped.hasp.meshBroken = false)) ∧
    (allTripped.pwr.porHeld = false ∧
      0 < 7 ∧
      (0 = 0 → allTripped.hasp.meshBroken = false)) ∧
    (meshZeroizes.pwr.porHeld = false ∧
      meshZeroizes.hasp.tripped.getLsbD 0 = false ∧
      haspClass meshZeroizes.hasp.cfg 0 = 3) := by
  refine ⟨?_, ?_, ?_, ?_, ?_, ?_, ?_, ?_, ?_⟩
  all_goals decide +kernel

/-- What SpdmAnswersItsRequests assumes is met here, clause by clause. -/
theorem witness_SpdmAnswersItsRequests :
    (owned.spdmUp = true ∧
      1 ≤ owned.spdm.phase ∧
      2 ≤ owned.spdm.phase ∧
      owned.fuse.lifecycle = Lifecycle.provisioned) ∧
    (certified.spdmUp = true ∧
      3 ≤ certified.spdm.phase ∧
      1 < certified.nvm.cert1.length ∧
      1 ≤ 1 ∧
      certified.fuse.identityKey = true ∧
      certified.spdm.sessions.length < 4) ∧
    (full4.spdmUp = true ∧
      3 ≤ full4.spdm.phase ∧
      full4.fuse.identityKey = true ∧
      4 ≤ full4.spdm.sessions.length) ∧
    (owned.spdmUp = true ∧
      owner ∈ owned.spdm.sessions ∧
      owner.established = true) ∧
    (owned.spdmUp = true ∧
      { sid := 0 : Session } ∈ owned.spdm.sessions ∧
      { sid := 0 : Session }.established = false) := by
  refine ⟨?_, ?_, ?_, ?_, ?_⟩
  all_goals decide +kernel

/-- What LineCommandsAct assumes is met here, clause by clause. -/
theorem witness_LineCommandsAct :
    ((asks (linkAt live 2) upReq).ready Rdy.line = true ∧
      (asks (linkAt live 2) upReq).bist.run = none ∧
      Takes (asks (linkAt live 2) upReq) 7 72 upReq ∧
      Plain upReq [] ∧
      (asks (linkAt live 2) upReq).link.state ≠ 0) ∧
    ((asks (linkAt live 0) upReq).ready Rdy.line = true ∧
      (asks (linkAt live 0) upReq).bist.run = none ∧
      Takes (asks (linkAt live 0) upReq) 7 72 upReq ∧
      Plain upReq [] ∧
      (asks (linkAt live 0) upReq).link.state = 0 ∧
      (asks (linkAt live 0) upReq).diag.run = none ∧
      (∀ r ∈ (asks (linkAt live 0) upReq).cyo.running, BitVec.toNat r.cap.opcode ≠ 72) ∧
      (asks (linkAt live 0) upReq).pwr.state ≠ PowerState.dormant ∧
      (asks (linkAt live 0) upReq).heldReset = false) ∧
    ((asks native downReq).ready Rdy.line = true ∧
      (asks native downReq).bist.run = none ∧
      Takes (asks native downReq) 7 73 downReq ∧
      Plain downReq []) ∧
    ((asks (linkAt live 0) downReq).ready Rdy.line = true ∧
      (asks (linkAt live 0) downReq).bist.run = none ∧
      Takes (asks (linkAt live 0) downReq) 7 73 downReq ∧
      Plain downReq []) ∧
    ((asks (linkAt live 2) downReq).ready Rdy.line = true ∧
      (asks (linkAt live 2) downReq).bist.run = none ∧
      Takes (asks (linkAt live 2) downReq) 7 73 downReq ∧
      Plain downReq []) ∧
    ((asks native (trainReq 0)).ready Rdy.line = true ∧
      (asks native (trainReq 0)).bist.run = none ∧
      Takes (asks native (trainReq 0)) 7 74 (trainReq 0) ∧
      Plain (trainReq 0) [(28, 1)] ∧
      (trainReq 0).cap.arg 28 1 = 0 ∧
      (asks native (trainReq 0)).link.state ≠ 0) ∧
    ((asks (linkAt live 1) (trainReq 0)).ready Rdy.line = true ∧
      (asks (linkAt live 1) (trainReq 0)).bist.run = none ∧
      Takes (asks (linkAt live 1) (trainReq 0)) 7 74 (trainReq 0) ∧
      Plain (trainReq 0) [(28, 1)] ∧
      (trainReq 0).cap.arg 28 1 = 0 ∧
      (asks (linkAt live 1) (trainReq 0)).link.state ≠ 0) ∧
    ((asks (linkAt live 2) (trainReq 0)).ready Rdy.line = true ∧
      (asks (linkAt live 2) (trainReq 0)).bist.run = none ∧
      Takes (asks (linkAt live 2) (trainReq 0)) 7 74 (trainReq 0) ∧
      Plain (trainReq 0) [(28, 1)] ∧
      (trainReq 0).cap.arg 28 1 = 0 ∧
      (asks (linkAt live 2) (trainReq 0)).link.state ≠ 0) ∧
    ((asks native (trainReq 1)).ready Rdy.line = true ∧
      (asks native (trainReq 1)).bist.run = none ∧
      Takes (asks native (trainReq 1)) 7 74 (trainReq 1) ∧
      Plain (trainReq 1) [(28, 1)] ∧
      (trainReq 1).cap.arg 28 1 = 1 ∧
      (asks native (trainReq 1)).linkInData = true ∧
      (asks native (trainReq 1)).link.frOk = true ∧
      (asks native (trainReq 1)).link.ctl.frEn = true ∧
      (asks native (trainReq 1)).diag.run = none) ∧
    ((asks (linkAt dormant 0) upReq).ready Rdy.line = true ∧
      (asks (linkAt dormant 0) upReq).bist.run = none ∧
      Takes (asks (linkAt dormant 0) upReq) 7 72 upReq ∧
      Plain upReq [] ∧
      (asks (linkAt dormant 0) upReq).link.state = 0 ∧
      (asks (linkAt dormant 0) upReq).diag.run = none ∧
      (∀ r ∈ (asks (linkAt dormant 0) upReq).cyo.running, BitVec.toNat r.cap.opcode ≠ 72) ∧
      (asks (linkAt dormant 0) upReq).pwr.state = PowerState.dormant) ∧
    ((asks dormant upReq).ready Rdy.line = true ∧
      (asks dormant upReq).bist.run = none ∧
      Takes (asks dormant upReq) 7 72 upReq ∧
      Plain upReq [] ∧
      (asks dormant upReq).link.state ≠ 0) ∧
    ((asks native (trainReq 2)).ready Rdy.line = true ∧
      (asks native (trainReq 2)).bist.run = none ∧
      Takes (asks native (trainReq 2)) 7 74 (trainReq 2) ∧
      Plain (trainReq 2) [(28, 1)] ∧
      2 ≤ (trainReq 2).cap.arg 28 1) ∧
    ((asks (linkAt live 0) (trainReq 0)).ready Rdy.line = true ∧
      (asks (linkAt live 0) (trainReq 0)).bist.run = none ∧
      Takes (asks (linkAt live 0) (trainReq 0)) 7 74 (trainReq 0) ∧
      Plain (trainReq 0) [(28, 1)] ∧
      (trainReq 0).cap.arg 28 1 = 0 ∧
      (asks (linkAt live 0) (trainReq 0)).link.state = 0) ∧
    ((asks (linkAt live 2) (trainReq 1)).ready Rdy.line = true ∧
      (asks (linkAt live 2) (trainReq 1)).bist.run = none ∧
      Takes (asks (linkAt live 2) (trainReq 1)) 7 74 (trainReq 1) ∧
      Plain (trainReq 1) [(28, 1)] ∧
      (trainReq 1).cap.arg 28 1 = 1 ∧
      (asks (linkAt live 2) (trainReq 1)).linkInData = false) ∧
    (case10a.ready Rdy.line = true ∧
      case10a.bist.run = none ∧
      Takes case10a 7 74 (trainReq 1) ∧
      Plain (trainReq 1) [(28, 1)] ∧
      (trainReq 1).cap.arg 28 1 = 1 ∧
      case10a.linkInData = true ∧
      (case10a.link.frOk && case10a.link.ctl.frEn) = false) := by
  refine ⟨?_, ?_, ?_, ?_, ?_, ?_, ?_, ?_, ?_, ?_, ?_, ?_, ?_, ?_, ?_⟩
  all_goals ((try unfold Takes); (try unfold Plain); decide +kernel)

/-- What NegotiationFindsTheRung assumes is met here, clause by clause. -/
theorem witness_NegotiationFindsTheRung :
    ((linkAt live 1).ben.up = true ∧
      (linkAt live 1).mayNegotiate = true) ∧
    (resetWaits.ben.up = true ∧
      resetWaits.mayNegotiate = true) ∧
    (negotiating.link.state = 1 ∧
      negotiating.link.neg.begun = true ∧
      negotiating.link.neg.burst = false) ∧
    ((heard 0 none).link.state = 1 ∧
      (heard 0 none).link.neg.begun = true ∧
      (heard 0 none).link.neg.basePage.isSome = true ∧
      ((heard 0 none).partnerChanged = true → (heard 0 none).link.ladderPos = (heard 0 none).ladderTop) ∧
      (List.find? (fun r => bitAt ((heard 0 none).link.neg.stdRungs / 4 * 4 + match (heard 0 none).link.neg.native with | some m => m.2.1 % 4 | none => 0) r && bitAt (heard 0 none).link.neg.rungs r) (List.range 8) = none)) ∧
    ((heard 252 none).link.state = 1 ∧
      (heard 252 none).link.neg.begun = true ∧
      (heard 252 none).link.neg.basePage.isSome = true ∧
      ((heard 252 none).partnerChanged = true → (heard 252 none).link.ladderPos = (heard 252 none).ladderTop) ∧
      (List.find? (fun r => bitAt ((heard 252 none).link.neg.stdRungs / 4 * 4 + match (heard 252 none).link.neg.native with | some m => m.2.1 % 4 | none => 0) r && bitAt (heard 252 none).link.neg.rungs r) (List.range 8) = some 2) ∧
      ((fun r => if r < (2 : Rung) then nativeRole (heard 252 none).link.used.msMode (heard 252 none).link.neg.seed.toNat (bitsAt ((heard 252 none).link.neg.native.getD (0, 0, 0)).2.1 5 2) ((heard 252 none).link.neg.native.getD (0, 0, 0)).2.2 else stdRole (heard 252 none).link.used.msMode 0 (some true)) 2 = Sum.inl true)) ∧
    ((heard 252 none).link.state = 1 ∧
      (heard 252 none).link.neg.begun = true ∧
      (heard 252 none).link.neg.basePage.isSome = true ∧
      ((heard 252 none).partnerChanged = true → (heard 252 none).link.ladderPos = (heard 252 none).ladderTop) ∧
      (List.find? (fun r => bitAt ((heard 252 none).link.neg.stdRungs / 4 * 4 + match (heard 252 none).link.neg.native with | some m => m.2.1 % 4 | none => 0) r && bitAt (heard 252 none).link.neg.rungs r) (List.range 8) = some 2) ∧
      ((fun r => if r < (2 : Rung) then nativeRole (heard 252 none).link.used.msMode (heard 252 none).link.neg.seed.toNat (bitsAt ((heard 252 none).link.neg.native.getD (0, 0, 0)).2.1 5 2) ((heard 252 none).link.neg.native.getD (0, 0, 0)).2.2 else stdRole (heard 252 none).link.used.msMode 0 none) 2 = Sum.inr true)) ∧
    ((heard 252 (some (1447, 131, 9))).link.state = 1 ∧
      (heard 252 (some (1447, 131, 9))).link.neg.begun = true ∧
      (heard 252 (some (1447, 131, 9))).link.neg.basePage.isSome = true ∧
      ((heard 252 (some (1447, 131, 9))).partnerChanged = true → (heard 252 (some (1447, 131, 9))).link.ladderPos = (heard 252 (some (1447, 131, 9))).ladderTop) ∧
      (List.find? (fun r => bitAt ((heard 252 (some (1447, 131, 9))).link.neg.stdRungs / 4 * 4 + match (heard 252 (some (1447, 131, 9))).link.neg.native with | some m => m.2.1 % 4 | none => 0) r && bitAt (heard 252 (some (1447, 131, 9))).link.neg.rungs r) (List.range 8) = some 0) ∧
      ((fun r => if r < (2 : Rung) then nativeRole (heard 252 (some (1447, 131, 9))).link.used.msMode (heard 252 (some (1447, 131, 9))).link.neg.seed.toNat (bitsAt ((heard 252 (some (1447, 131, 9))).link.neg.native.getD (0, 0, 0)).2.1 5 2) ((heard 252 (some (1447, 131, 9))).link.neg.native.getD (0, 0, 0)).2.2 else stdRole (heard 252 (some (1447, 131, 9))).link.used.msMode 0 none) 0 = Sum.inl true)) ∧
    ((heard 252 (some (1447, 131, 5))).link.state = 1 ∧
      (heard 252 (some (1447, 131, 5))).link.neg.begun = true ∧
      (heard 252 (some (1447, 131, 5))).link.neg.basePage.isSome = true ∧
      ((heard 252 (some (1447, 131, 5))).partnerChanged = true → (heard 252 (some (1447, 131, 5))).link.ladderPos = (heard 252 (some (1447, 131, 5))).ladderTop) ∧
      (List.find? (fun r => bitAt ((heard 252 (some (1447, 131, 5))).link.neg.stdRungs / 4 * 4 + match (heard 252 (some (1447, 131, 5))).link.neg.native with | some m => m.2.1 % 4 | none => 0) r && bitAt (heard 252 (some (1447, 131, 5))).link.neg.rungs r) (List.range 8) = some 0) ∧
      ((fun r => if r < (2 : Rung) then nativeRole (heard 252 (some (1447, 131, 5))).link.used.msMode (heard 252 (some (1447, 131, 5))).link.neg.seed.toNat (bitsAt ((heard 252 (some (1447, 131, 5))).link.neg.native.getD (0, 0, 0)).2.1 5 2) ((heard 252 (some (1447, 131, 5))).link.neg.native.getD (0, 0, 0)).2.2 else stdRole (heard 252 (some (1447, 131, 5))).link.used.msMode 0 none) 0 = Sum.inr true)) ∧
    (strange.link.state = 1 ∧
      strange.link.neg.begun = true ∧
      strange.link.neg.basePage.isSome = true ∧
      strange.partnerChanged = true ∧
      strange.link.ladderPos ≠ strange.ladderTop) ∧
    ((linkAt live 2).link.energy = (0 : BitVec 4) ∧
      (linkAt live 2).link.state < 3) ∧
    ((linkAt live 0).link.energy = (0 : BitVec 4) ∧
      (linkAt live 0).link.state < 3) ∧
    ((linkAt live 2).link.state = 2 ∧
      (linkAt live 2).ben.up = true) ∧
    ((dormant.expectsEnergy && dormant.activePair (2 : Pair)) = false) ∧
    (native.expectsEnergy = true ∧
      native.activePair (2 : Pair) = true) ∧
    (case10b.expectsEnergy = true ∧
      case10b.activePair (2 : Pair) = true) := by
  refine ⟨?_, ?_, ?_, ?_, ?_, ?_, ?_, ?_, ?_, ?_, ?_, ?_, ?_, ?_, ?_⟩
  all_goals decide +kernel

/-- What TrainingReachesData assumes is met here, clause by clause. -/
theorem witness_TrainingReachesData :
    (4 ≤ (training 4 true).link.state ∧
      (training 4 true).link.state ≤ 7 ∧
      (training 4 true).lc.run.rxOn = false ∧
      trainingWordOk (tword [(7, 0), (25, 0), (8, 9), (4, 0), (4, 1)]) = true ∧
      (∀ (e : Nat), (training 4 true).link.train.expect = some e → bitsAt (tword [(7, 0), (25, 0), (8, 9), (4, 0), (4, 1)]).toNat 48 8 = e)) ∧
    (4 ≤ (training 7 true).link.state ∧
      (training 7 true).link.state ≤ 7 ∧
      (training 7 true).lc.run.rxOn = false ∧
      trainingWordOk (tword [(7, 0), (4, 1), (21, 0), (8, 9), (4, 0), (4, 4)]) = true ∧
      (∀ (e : Nat), (training 7 true).link.train.expect = some e → bitsAt (tword [(7, 0), (4, 1), (21, 0), (8, 9), (4, 0), (4, 4)]).toNat 48 8 = e)) ∧
    (4 ≤ (training 7 false).link.state ∧
      (training 7 false).link.state ≤ 7 ∧
      (training 7 false).lc.run.rxOn = false ∧
      trainingWordOk (tword [(7, 0), (4, 1), (21, 0), (8, 9), (4, 0), (4, 4)]) = true ∧
      (∀ (e : Nat), (training 7 false).link.train.expect = some e → bitsAt (tword [(7, 0), (4, 1), (21, 0), (8, 9), (4, 0), (4, 4)]).toNat 48 8 = e)) ∧
    (4 ≤ (training 4 true).link.state ∧
      (training 4 true).link.state ≤ 7 ∧
      (training 4 true).lc.run.rxOn = false ∧
      (trainingWordOk (5 : BitVec 64) = false ∨ ∃ e, (training 4 true).link.train.expect = some e ∧ bitsAt (BitVec.toNat (5 : BitVec 64)) 48 8 ≠ e)) ∧
    (4 ≤ (training 7 false).link.state ∧
      (training 7 false).link.state ≤ 7 ∧
      (training 7 false).lc.run.rxOn = false ∧
      (trainingWordOk (5 : BitVec 64) = false ∨ ∃ e, (training 7 false).link.train.expect = some e ∧ bitsAt (BitVec.toNat (5 : BitVec 64)) 48 8 ≠ e)) ∧
    ((training 3 true).link.state = 3 ∧
      backgroundOk (training 3 true).link.mode case10c.background = false) ∧
    (turned.link.state = 4 ∧
      (turned.link.role = true → 3 ≤ turned.link.train.farTwo) ∧
      (turned.link.role = false → turned.link.train.turnReady = true ∧ turned.link.train.pos % 4128 = 2048)) ∧
    ((training 3 true).link.state = 3 ∧
      backgroundOk (training 3 true).link.mode phase.background = true ∧
      ((training 3 true).link.role = true → phase.heard = true)) ∧
    ((training 3 false).link.state = 3 ∧
      backgroundOk (training 3 false).link.mode phase.background = true ∧
      ((training 3 false).link.role = true → phase.heard = true)) ∧
    ((training 4 true).link.state = 4 ∧
      ((training 4 true).link.role = true → 3 ≤ (training 4 true).link.train.farTwo) ∧
      ((training 4 true).link.role = false → (training 4 true).link.train.turnReady = true ∧ (training 4 true).link.train.pos % 4128 = 2048)) ∧
    ((training 5 true).link.state = 5 ∧
      (training 5 true).link.train.cd = 1 ∧
      mapOk phase = true) ∧
    ((training 5 false).link.state = 5 ∧
      (training 5 false).link.train.cd = 1 ∧
      mapOk phase = true) ∧
    ((training 6 false).link.state = 6 ∧
      (training 6 false).link.train.cd = 1) ∧
    ((training 7 false).link.state = 7 ∧
      (training 7 false).link.train.cd = 1) ∧
    (3 ≤ (training 3 false).link.state ∧
      (training 3 false).link.state ≤ 7) ∧
    (3 ≤ (training 7 false).link.state ∧
      (training 7 false).link.state ≤ 7) ∧
    (3 ≤ (training 5 true).link.state ∧
      (training 5 true).link.state ≤ 7) ∧
    (receiving.nativeData = true ∧
      receiving.lc.run.rxOn = true ∧
      receiving.ql.run.rxState = 0 ∧
      receiving.lc.run.badRun ≠ 0) ∧
    ((stdAt 10).link.state = 10) ∧
    ((stdAt 8).linkInData = true ∧
      (stdAt 8).nativeMode = false) := by
  refine ⟨?_, ?_, ?_, ?_, ?_, ?_, ?_, ?_, ?_, ?_, ?_, ?_, ?_, ?_, ?_, ?_, ?_, ?_, ?_, ?_⟩
  all_goals decide +kernel

/-- What NativeLinksRetrainFast assumes is met here, clause by clause. -/
theorem witness_NativeLinksRetrainFast :
    (case10d.linkInData = true ∧
      case10d.nativeMode = true ∧
      case10d.link.ra = true ∧
      case10d.statusRx 4 = 1) ∧
    ((farStatus native 0).nativeData = true ∧
      (farStatus native 0).retrainPossible = true ∧
      (farStatus native 0).statusRx 0 = 1) ∧
    ((farStatus native 5).nativeData = true ∧
      (farStatus native 5).retrainPossible = true ∧
      (farStatus native 5).statusRx 5 = 1) ∧
    (case10e.nativeData = true ∧
      case10e.retrainPossible = false ∧
      case10e.statusRx 0 = 1) ∧
    (askedBoth.nativeData = true ∧
      askedBoth.retrainPossible = true ∧
      askedBoth.statusRx 5 = 1 ∧
      askedBoth.retrainReady = true) ∧
    ((stdAt 8).link.state = 8 ∧
      (stdAt 8).nativeMode = false ∧
      (stdAt 8).link.frOk = true ∧
      (stdAt 8).link.ctl.frEn = true) ∧
    (retraining.link.state = 9 ∧
      (retraining.nativeMode = true → retraining.link.train.cd = 1)) ∧
    (retrainAsked.link.state = 9 ∧
      (retrainAsked.nativeMode = true → retrainAsked.link.train.cd = 1)) ∧
    ((stdAt 9).link.state = 9 ∧
      ((stdAt 9).nativeMode = true → (stdAt 9).link.train.cd = 1)) ∧
    (retraining.nativeMode = true ∧
      (retraining.link.state = 9 ∨ retraining.link.state = 8 ∧ retraining.link.frt.want = true)) ∧
    (askedBoth.nativeMode = true ∧
      (askedBoth.link.state = 9 ∨ askedBoth.link.state = 8 ∧ askedBoth.link.frt.want = true)) := by
  refine ⟨?_, ?_, ?_, ?_, ?_, ?_, ?_, ?_, ?_, ?_, ?_⟩
  all_goals decide +kernel

/-- What InfoFieldMessagesAct assumes is met here, clause by clause. -/
theorem witness_InfoFieldMessagesAct :
    ((messaged coefMsg).lc.run.ifMsgs = [(coefMsg, 20)] ∧
      (messaged coefMsg).repeated coefMsg = none ∧
      msgType coefMsg = 1) ∧
    ((messaged switchMsg).lc.run.ifMsgs = [(switchMsg, 20)] ∧
      (messaged switchMsg).repeated switchMsg = none ∧
      msgType switchMsg = 2) ∧
    (stagedSets.lc.run.ifMsgs = [(switchMsg, 20)] ∧
      stagedSets.repeated switchMsg = none ∧
      msgType switchMsg = 2) ∧
    (case10f.lc.run.ifMsgs = [(switchMsg, 27)] ∧
      case10f.repeated switchMsg = none ∧
      msgType switchMsg = 2) ∧
    (case10g.lc.run.ifMsgs = [(switchMsg, 158)] ∧
      case10g.repeated switchMsg = none ∧
      msgType switchMsg = 2) ∧
    (case10h.lc.run.ifMsgs = [(switchMsg, 157)] ∧
      case10h.repeated switchMsg = none ∧
      msgType switchMsg = 2) ∧
    ((messaged peerMsg).lc.run.ifMsgs = [(peerMsg, 20)] ∧
      (messaged peerMsg).repeated peerMsg = none ∧
      msgType peerMsg = 4) ∧
    ((repeating coefMsg).lc.run.ifMsgs = [(coefMsg, 20)] ∧
      (repeating coefMsg).repeated coefMsg = some true ∧
      msgType coefMsg = 1) ∧
    ((repeating switchMsg).lc.run.ifMsgs = [(switchMsg, 20)] ∧
      (repeating switchMsg).repeated switchMsg = some true ∧
      msgType switchMsg = 2) ∧
    ((repeating peerMsg).lc.run.ifMsgs = [(peerMsg, 20)] ∧
      (repeating peerMsg).repeated peerMsg = some true ∧
      msgType peerMsg = 4) ∧
    ((waitsAck ackIn (outMsg 1)).lc.run.ifMsgs = [(ackIn, 20)] ∧
      msgType ackIn = 3 ∧
      (waitsAck ackIn (outMsg 1)).lc.run.ifOut = some (outMsg 1) ∧
      msgType (outMsg 1).msg = bitsAt ackIn 8 6 ∧
      msgSeq (outMsg 1).msg = bitsAt ackIn 14 4) ∧
    ((waitsAck nakIn outSwitch).lc.run.ifMsgs = [(nakIn, 20)] ∧
      msgType nakIn = 3 ∧
      (waitsAck nakIn outSwitch).lc.run.ifOut = some outSwitch ∧
      msgType outSwitch.msg = bitsAt nakIn 8 6 ∧
      msgSeq outSwitch.msg = bitsAt nakIn 14 4) ∧
    ((waitsAck nakIn (outMsg 1)).lc.run.ifMsgs = [(nakIn, 20)] ∧
      msgType nakIn = 3 ∧
      (∀ (o : IfOut), (waitsAck nakIn (outMsg 1)).lc.run.ifOut = some o → msgType o.msg ≠ bitsAt nakIn 8 6 ∨ msgSeq o.msg ≠ bitsAt nakIn 14 4)) ∧
    ((waitsAck ackIn (outMsg 1)).lc.run.ifOut = some (outMsg 1) ∧
      (outMsg 1).due = false ∧
      (waitsAck ackIn (outMsg 1)).lc.run.ifNow ≠ some (outMsg 1).msg ∧
      retryPeriods (waitsAck ackIn (outMsg 1)).kn.run.txForm ≤ (outMsg 1).waited ∧
      0 < (outMsg 1).sends ∧
      (outMsg 1).sends < 8) ∧
    ((waitsAck ackIn (outMsg 7)).lc.run.ifOut = some (outMsg 7) ∧
      (outMsg 7).due = false ∧
      (waitsAck ackIn (outMsg 7)).lc.run.ifNow ≠ some (outMsg 7).msg ∧
      retryPeriods (waitsAck ackIn (outMsg 7)).kn.run.txForm ≤ (outMsg 7).waited ∧
      0 < (outMsg 7).sends ∧
      (outMsg 7).sends < 8) ∧
    ((waitsAck ackIn (outMsg 8)).lc.run.ifOut = some (outMsg 8) ∧
      (outMsg 8).due = false ∧
      (waitsAck ackIn (outMsg 8)).lc.run.ifNow ≠ some (outMsg 8).msg ∧
      retryPeriods (waitsAck ackIn (outMsg 8)).kn.run.txForm ≤ (outMsg 8).waited ∧
      8 ≤ (outMsg 8).sends) ∧
    ((List.filter (fun y => decide (y.at' = if switchDue.link.state = 8 then switchDue.lc.run.txSeq else switchDue.link.train.tseq)) switchDue.lc.run.pendSwitch = [dueSwitch])) := by
  refine ⟨?_, ?_, ?_, ?_, ?_, ?_, ?_, ?_, ?_, ?_, ?_, ?_, ?_, ?_, ?_, ?_, ?_⟩
  all_goals decide +kernel

/-- What ReleasedPeriodsAreReceived assumes is met here, clause by clause. -/
theorem witness_ReleasedPeriodsAreReceived :
    (receiving.lc.run.rxOn = true ∧
      7 ≤ receiving.link.state ∧
      receiving.link.state ≤ 9 ∧
      receiving.nativeMode = true) ∧
    ((receivesIn 7 0).lc.run.rxOn = true ∧
      7 ≤ (receivesIn 7 0).link.state ∧
      (receivesIn 7 0).link.state ≤ 9 ∧
      (receivesIn 7 0).nativeMode = true) ∧
    ((receivesIn 9 0).lc.run.rxOn = true ∧
      7 ≤ (receivesIn 9 0).link.state ∧
      (receivesIn 9 0).link.state ≤ 9 ∧
      (receivesIn 9 0).nativeMode = true) ∧
    ((receivesIn 8 4).lc.run.rxOn = true ∧
      7 ≤ (receivesIn 8 4).link.state ∧
      (receivesIn 8 4).link.state ≤ 9 ∧
      (receivesIn 8 4).nativeMode = true) ∧
    ((receivesIn 8 1).lc.run.rxOn = true ∧
      7 ≤ (receivesIn 8 1).link.state ∧
      (receivesIn 8 1).link.state ≤ 9 ∧
      (receivesIn 8 1).nativeMode = true) ∧
    ((receivesIn 8 2).lc.run.rxOn = true ∧
      7 ≤ (receivesIn 8 2).link.state ∧
      (receivesIn 8 2).link.state ≤ 9 ∧
      (receivesIn 8 2).nativeMode = true) ∧
    ((receivesIn 8 3).lc.run.rxOn = true ∧
      7 ≤ (receivesIn 8 3).link.state ∧
      (receivesIn 8 3).link.state ≤ 9 ∧
      (receivesIn 8 3).nativeMode = true) ∧
    ((stdAt 8).link.state = 8 ∧
      (stdAt 8).link.mode = some (3 : Rung) ∧
      (2 : Rung) ≤ (3 : Rung) ∧
      (stdAt 8).ql.run.rxState = 0 ∧
      case10i.stdWords = [] ∧
      case10i.stdFrames = [stdFrame]) ∧
    ((stdAt 8).link.state = 8 ∧
      (stdAt 8).link.mode = some (3 : Rung) ∧
      (2 : Rung) ≤ (3 : Rung) ∧
      (stdAt 8).ql.run.rxState = 0 ∧
      case10k.stdWords = [] ∧
      case10k.stdFrames = [case10j]) ∧
    (flagging.link.state = 8 ∧
      flagging.link.mode = some (3 : Rung) ∧
      (2 : Rung) ≤ (3 : Rung) ∧
      flagging.ql.run.rxState = 0 ∧
      case10i.stdWords = [] ∧
      case10i.stdFrames = [stdFrame]) ∧
    ((stdAt 8).link.state = 8 ∧
      (stdAt 8).link.mode = some (3 : Rung) ∧
      (2 : Rung) ≤ (3 : Rung) ∧
      (stdAt 8).ql.run.rxState = 0 ∧
      (3 : Rung) ≠ (7 : Rung) ∧
      case10l.stdWords = [stdWord] ∧
      case10l.stdFrames = []) ∧
    (case10m.driftDue = true ∧
      (((fun f => ∃ p, case10m.activePair p = true ∧ f p) fun p => ↑case10m.rx.ctl.dgMse ≤ (case10m.rx.pair.at p).rise) ∨ ((fun f => ∃ p, case10m.activePair p = true ∧ f p) fun p => ∃ k ∈ case10m.movements p, case10m.rx.ctl.dgNorm * case10m.rx.ctl.dgNorm * k.2 < 4096 * k.1) ∨ (fun f => ∃ p, case10m.activePair p = true ∧ f p) fun p => 1024 ≤ (case10m.rx.pair.at p).lagRun)) ∧
    (case10n.driftDue = true ∧
      (((fun f => ∃ p, case10n.activePair p = true ∧ f p) fun p => ↑case10n.rx.ctl.dgMse ≤ (case10n.rx.pair.at p).rise) ∨ ((fun f => ∃ p, case10n.activePair p = true ∧ f p) fun p => ∃ k ∈ case10n.movements p, case10n.rx.ctl.dgNorm * case10n.rx.ctl.dgNorm * k.2 < 4096 * k.1) ∨ (fun f => ∃ p, case10n.activePair p = true ∧ f p) fun p => 1024 ≤ (case10n.rx.pair.at p).lagRun)) ∧
    (case10o.driftDue = true ∧
      (((fun f => ∃ p, case10o.activePair p = true ∧ f p) fun p => ↑case10o.rx.ctl.dgMse ≤ (case10o.rx.pair.at p).rise) ∨ ((fun f => ∃ p, case10o.activePair p = true ∧ f p) fun p => ∃ k ∈ case10o.movements p, case10o.rx.ctl.dgNorm * case10o.rx.ctl.dgNorm * k.2 < 4096 * k.1) ∨ (fun f => ∃ p, case10o.activePair p = true ∧ f p) fun p => 1024 ≤ (case10o.rx.pair.at p).lagRun)) ∧
    (case10p.driftDue = true ∧
      (¬(((fun f => ∃ p, case10p.activePair p = true ∧ f p) fun p => ↑case10p.rx.ctl.dgMse ≤ (case10p.rx.pair.at p).rise) ∨ ((fun f => ∃ p, case10p.activePair p = true ∧ f p) fun p => ∃ k ∈ case10p.movements p, case10p.rx.ctl.dgNorm * case10p.rx.ctl.dgNorm * k.2 < 4096 * k.1) ∨ (fun f => ∃ p, case10p.activePair p = true ∧ f p) fun p => 1024 ≤ (case10p.rx.pair.at p).lagRun))) := by
  refine ⟨?_, ?_, ?_, ?_, ?_, ?_, ?_, ?_, ?_, ?_, ?_, ?_, ?_, ?_, ?_⟩
  all_goals decide +kernel

/-- What TheDieLinkComesUpAndSleeps assumes is met here, clause by clause. -/
theorem witness_TheDieLinkComesUpAndSleeps :
    (native.heldReset = false ∧
      native.dl.searching = none ∧
      native.pwr.railLow &&& (3 : BitVec 5) = (0 : BitVec 5)) ∧
    (unmapped.heldReset = false ∧
      unmapped.dl.searching = none ∧
      unmapped.pwr.railLow &&& (3 : BitVec 5) = (0 : BitVec 5) ∧
      unmapped.dl.searches ≠ 0 ∧
      (unmapped.dl.outb.mapped && unmapped.dl.inb.mapped) = false) ∧
    (searching.dl.searching.isSome = true) ∧
    (live.dl.outb.lanes.length = 26 ∧
      (List.replicate 26 (laneT true)).length = 26 ∧
      24 < 26 ∧
      (24 ∈ List.filter (fun k => laneHealthy ((List.replicate 26 (laneT true)).getD k { locked := false, slips := 0, eye := 0, errors := 0 : LaneTest })) (List.range 26)) ∧
      25 < 26 ∧
      (25 ∈ List.filter (fun k => laneHealthy ((List.replicate 26 (laneT true)).getD k { locked := false, slips := 0, eye := 0, errors := 0 : LaneTest })) (List.range 26))) ∧
    (live.dl.outb.lanes.length = 26 ∧
      (List.replicate 3 (laneT false) ++ List.replicate 23 (laneT true)).length = 26 ∧
      22 < 26 ∧
      (22 ∈ List.filter (fun k => laneHealthy ((List.replicate 3 (laneT false) ++ List.replicate 23 (laneT true)).getD k { locked := false, slips := 0, eye := 0, errors := 0 : LaneTest })) (List.range 26)) ∧
      25 < 26 ∧
      (25 ∈ List.filter (fun k => laneHealthy ((List.replicate 3 (laneT false) ++ List.replicate 23 (laneT true)).getD k { locked := false, slips := 0, eye := 0, errors := 0 : LaneTest })) (List.range 26))) ∧
    (live.dl.outb.lanes.length = 26 ∧
      (List.replicate 7 (laneT false) ++ List.replicate 19 (laneT true)).length = 26 ∧
      22 < 26 ∧
      (22 ∈ List.filter (fun k => laneHealthy ((List.replicate 7 (laneT false) ++ List.replicate 19 (laneT true)).getD k { locked := false, slips := 0, eye := 0, errors := 0 : LaneTest })) (List.range 26)) ∧
      25 < 26 ∧
      (25 ∈ List.filter (fun k => laneHealthy ((List.replicate 7 (laneT false) ++ List.replicate 19 (laneT true)).getD k { locked := false, slips := 0, eye := 0, errors := 0 : LaneTest })) (List.range 26))) ∧
    (sleepy.heldReset = false ∧
      sleepy.pwr.state = PowerState.active ∧
      sleepy.dormantWanted = true ∧
      sleepy.dormantBlocked = false) ∧
    (case11a.heldReset = false ∧
      case11a.pwr.state = PowerState.active ∧
      case11a.dormantWanted = true ∧
      case11a.dormantBlocked = false) ∧
    (sleepyLane.heldReset = false ∧
      sleepyLane.pwr.state = PowerState.active ∧
      sleepyLane.dormantWanted = true ∧
      sleepyLane.dormantBlocked = false) ∧
    (case11b.pwr.state = PowerState.dormant ∧
      case11b.dormantCause = true) ∧
    (leaving.pwr.state = PowerState.dormant ∧
      leaving.pwr.dormExit = true ∧
      leaving.dl.outb.waiting = [] ∧
      leaving.dl.inb.waiting = [] ∧
      leaving.dl.outb.carries 3 = true ∧
      leaving.dl.outb.spare = some 24) := by
  refine ⟨?_, ?_, ?_, ?_, ?_, ?_, ?_, ?_, ?_, ?_, ?_⟩
  all_goals decide +kernel

/-- What FailingLanesAreSubstituted assumes is met here, clause by clause. -/
theorem witness_FailingLanesAreSubstituted :
    (payload7.length = 62 ∧
      3 < 256) ∧
    (native.lanesRun false = true ∧
      3 < (native.dir false).lanes.length ∧
      (native.dir false).carries 3 = true ∧
      (∀ (x : Subst), (native.dir false).subst = some x → x.spare ≠ 3) ∧
      laneFails (laneFrame 7 0 payload7) 7 ((native.dir false).epochOf 7) = false ∧
      (native.dir false).resend = []) ∧
    (native.lanesRun true = true ∧
      3 < (native.dir true).lanes.length ∧
      (native.dir true).carries 3 = true ∧
      (∀ (x : Subst), (native.dir true).subst = some x → x.spare ≠ 3) ∧
      laneFails (laneFrame 7 0 payload7) 7 ((native.dir true).epochOf 7) = false ∧
      (native.dir true).resend = []) ∧
    (laned.lanesRun false = true ∧
      3 < (laned.dir false).lanes.length ∧
      (laned.dir false).carries 3 = true ∧
      (∀ (x : Subst), (laned.dir false).subst = some x → x.spare ≠ 3) ∧
      laneFails (laneFrame 7 0 payload7) 8 ((laned.dir false).epochOf 8) = true ∧
      ((8 :: List.filter (fun f => decide (8 < f + 8192)) ((laned.dir false).lane 3).recent).length < 4)) ∧
    (native.lanesRun true = true ∧
      23 < (native.dir true).lanes.length ∧
      (native.dir true).carries 23 = true ∧
      (∀ (x : Subst), (native.dir true).subst = some x → x.spare ≠ 23) ∧
      laneFails (laneFrame 7 0 payload7) 8 ((native.dir true).epochOf 8) = true ∧
      ((8 :: List.filter (fun f => decide (8 < f + 8192)) ((native.dir true).lane 23).recent).length < 4)) ∧
    ((thrice true).lanesRun true = true ∧
      5 < ((thrice true).dir true).lanes.length ∧
      ((thrice true).dir true).carries 5 = true ∧
      (∀ (x : Subst), ((thrice true).dir true).subst = some x → x.spare ≠ 5) ∧
      laneFails [] 8 (((thrice true).dir true).epochOf 8) = true ∧
      (4 ≤ (8 :: List.filter (fun f => decide (8 < f + 8192)) (((thrice true).dir true).lane 5).recent).length) ∧
      ((thrice true).dir true).subst = none ∧
      ((thrice true).dir true).spare = some 24) ∧
    ((thrice false).lanesRun false = true ∧
      5 < ((thrice false).dir false).lanes.length ∧
      ((thrice false).dir false).carries 5 = true ∧
      (∀ (x : Subst), ((thrice false).dir false).subst = some x → x.spare ≠ 5) ∧
      laneFails [] 8 (((thrice false).dir false).epochOf 8) = true ∧
      (4 ≤ (8 :: List.filter (fun f => decide (8 < f + 8192)) (((thrice false).dir false).lane 5).recent).length) ∧
      ((thrice false).dir false).subst = none ∧
      ((thrice false).dir false).spare = some 24) ∧
    ((substituting none).lanesRun false = true ∧
      24 < ((substituting none).dir false).lanes.length ∧
      ((substituting none).dir false).subst = some (subst3 none) ∧
      (subst3 none).spare = 24 ∧
      laneFails [] 8 (((substituting none).dir false).epochOf 8) = true) ∧
    ((native.dir true).mapped = true ∧
      native.dl.searching = none ∧
      (native.dir true).carries 3 = true ∧
      native.lanesRun true = true ∧
      (native.dir true).subst = none ∧
      (native.dir true).spare = some 24) ∧
    (((substituting none).dir false).mapped = true ∧
      (substituting none).dl.searching = none ∧
      ((substituting none).dir false).carries 23 = true ∧
      (((substituting none).dir false).subst.isSome = true ∨ (substituting none).lanesRun false = false) ∧
      ((((substituting none).dir false).waiting.any fun w => decide (w.1 = 23)) = false)) ∧
    (((linkAt dormant 1).dir false).mapped = true ∧
      (linkAt dormant 1).dl.searching = none ∧
      ((linkAt dormant 1).dir false).carries 23 = true ∧
      (((linkAt dormant 1).dir false).subst.isSome = true ∨ (linkAt dormant 1).lanesRun false = false) ∧
      ((((linkAt dormant 1).dir false).waiting.any fun w => decide (w.1 = 23)) = false)) ∧
    (((noSpares (0 : Rung)).dir false).mapped = true ∧
      (noSpares (0 : Rung)).dl.searching = none ∧
      ((noSpares (0 : Rung)).dir false).carries 7 = true ∧
      (noSpares (0 : Rung)).lanesRun false = true ∧
      ((noSpares (0 : Rung)).dir false).subst = none ∧
      ((noSpares (0 : Rung)).dir false).spare = none ∧
      ((noSpares (0 : Rung)).dir false).waiting = [] ∧
      (noSpares (0 : Rung)).dl.reduced = false ∧
      (20 ≤ (List.filter (fun k => decide (k ≠ 7) && decide ((((noSpares (0 : Rung)).dir false).lane k).logical ≠ 254)) (List.range 26)).length)) ∧
    (((noSpares (1 : Rung)).dir false).mapped = true ∧
      (noSpares (1 : Rung)).dl.searching = none ∧
      ((noSpares (1 : Rung)).dir false).carries 7 = true ∧
      (noSpares (1 : Rung)).lanesRun false = true ∧
      ((noSpares (1 : Rung)).dir false).subst = none ∧
      ((noSpares (1 : Rung)).dir false).spare = none ∧
      ((noSpares (1 : Rung)).dir false).waiting = [] ∧
      (noSpares (1 : Rung)).dl.reduced = false ∧
      (20 ≤ (List.filter (fun k => decide (k ≠ 7) && decide ((((noSpares (1 : Rung)).dir false).lane k).logical ≠ 254)) (List.range 26)).length)) ∧
    ((substituting none).lanesRun false = true ∧
      ((substituting none).dir false).subst = some (subst3 none) ∧
      (subst3 none).announced = none) ∧
    (case11c.lanesRun false = true ∧
      (case11c.dir false).subst = some (subst3 (some 20)) ∧
      (subst3 (some 20)).announced = some 20 ∧
      20 ≤ case11c.dl.frameNo + case11c.framesNow ∧
      (case11c.dir false).waiting = [] ∧
      (subst3 (some 20)).old ≠ (subst3 (some 20)).spare ∧
      (subst3 (some 20)).old < (case11c.dir false).lanes.length ∧
      (subst3 (some 20)).spare < (case11c.dir false).lanes.length) := by
  and_intros <;> first | with_reducible exact lane_passes_inbound | with_reducible exact lane_passes_outbound | decide +kernel

/-- What QuietLatchIsEnteredAndLeft assumes is met here, clause by clause. -/
theorem witness_QuietLatchIsEnteredAndLeft :
    (1 < (rested native).lc.run.stTx.length ∧
      (rested native).quietAllowed = true ∧
      (rested native).idleOver = true ∧
      (rested native).ql.run.txState = 0 ∧
      (rested native).ql.run.rxState = 0 ∧
      (rested native).ben.up = true ∧
      (rested native).armed = false ∧
      ((rested native).openStaging false).validate (((rested native).openStaging false).profileBank (rested native).quietProfile) (rested native).quietProfile = none) ∧
    (1 < (rested noEngines).lc.run.stTx.length ∧
      (rested noEngines).quietAllowed = true ∧
      (rested noEngines).idleOver = true ∧
      (rested noEngines).ql.run.txState = 0 ∧
      (rested noEngines).ql.run.rxState = 0 ∧
      (rested noEngines).ben.up = true ∧
      (rested noEngines).armed = false ∧
      ((rested noEngines).openStaging false).validate (((rested noEngines).openStaging false).profileBank (rested noEngines).quietProfile) (rested noEngines).quietProfile = some (5, 0)) ∧
    (1 < hostStaged.lc.run.stTx.length ∧
      hostStaged.quietAllowed = false ∧
      hostStaged.ql.run.txState = 1) ∧
    (1 < entryOff.lc.run.stTx.length ∧
      entryOff.quietAllowed = false ∧
      entryOff.ql.run.txState = 1) ∧
    (entering.quietAllowed = true ∧
      entering.ql.run.txState = 1 ∧
      (entering.statusTx 1).now = 1 ∧
      8 ≤ (entering.statusTx 1).age ∧
      entering.statusRx 1 = 1 ∧
      entering.lc.run.txSeq % 16 = 0 ∧
      entering.armed = false) ∧
    (enteringBoth.quietAllowed = true ∧
      enteringBoth.ql.run.txState = 1 ∧
      (enteringBoth.statusTx 1).now = 1 ∧
      8 ≤ (enteringBoth.statusTx 1).age ∧
      enteringBoth.statusRx 1 = 1 ∧
      enteringBoth.lc.run.txSeq % 16 = 0 ∧
      enteringBoth.armed = false) ∧
    (case12a.nativeData = true ∧
      (case12a.ql.run.txState = 2 ∨ case12a.ql.run.txState = 3) ∧
      case12a.ql.run.wakeDue = none ∧
      (3 ≤ case12a.ql.run.farQr0 ∨ case12a.ql.run.farQc = none ∧ 64 ≤ case12a.ql.run.waitFar)) ∧
    (case12b.nativeData = true ∧
      (case12b.ql.run.txState = 2 ∨ case12b.ql.run.txState = 3) ∧
      case12b.ql.run.wakeDue = none ∧
      (3 ≤ case12b.ql.run.farQr0 ∨ case12b.ql.run.farQc = none ∧ 64 ≤ case12b.ql.run.waitFar)) ∧
    ((quietTx 1562 id).nativeData = true ∧
      (quietTx 1562 id).ql.run.txState = 2 ∧
      (quietTx 1562 id).ql.run.qc = some 1562 ∧
      (quietTx 1562 id).ql.run.wakeDue = none ∧
      1562 ≠ 0 ∧
      ((1562 % if (quietTx 1562 id).link.mode = some (0 : Rung) then 1562 else 781) = 0)) ∧
    ((quietTx 1561 id).nativeData = true ∧
      (quietTx 1561 id).ql.run.txState = 2 ∧
      (quietTx 1561 id).ql.run.qc = some 1561 ∧
      ((quietTx 1561 id).ql.run.wakeDue.isSome = true ∨ 1561 = 0 ∨ (1561 % if (quietTx 1561 id).link.mode = some (0 : Rung) then 1562 else 781) ≠ 0)) ∧
    ((quietTx 0 id).nativeData = true ∧
      (quietTx 0 id).ql.run.txState = 2 ∧
      (quietTx 0 id).ql.run.qc = some 0 ∧
      ((quietTx 0 id).ql.run.wakeDue.isSome = true ∨ 0 = 0 ∨ (0 % if (quietTx 0 id).link.mode = some (0 : Rung) then 1562 else 781) ≠ 0)) ∧
    (case12c.nativeData = true ∧
      case12c.ql.run.txState = 2 ∧
      case12c.ql.run.qc = some 1562 ∧
      (case12c.ql.run.wakeDue.isSome = true ∨ 1562 = 0 ∨ (1562 % if case12c.link.mode = some (0 : Rung) then 1562 else 781) ≠ 0)) ∧
    (case12d.nativeData = true ∧
      case12d.ql.run.txState = 2 ∧
      case12d.ql.run.wakeDue = some (1, 5) ∧
      1 < case12d.lc.run.stTx.length) ∧
    (case12e.nativeData = true ∧
      case12e.ql.run.rxState ≠ 0 ∧
      (8 ≤ case12e.ql.run.missRow ∨ ∃ t0, case12e.ql.run.burstAt = some t0 ∧ t0 + 2000000 ≤ case12e.time)) := by
  and_intros <;> first | exact profileBank_passes (by decide +kernel) | decide +kernel

/-- What a clause of ReceptionsAreJudged assumes is met here. -/
theorem witness_ReceptionsAreJudged_0 :
    case12g.mayReceive = true ∧
    case12g.ql.run.rxState = 1 ∧
    (∃ p, case12g.activePair p = true ∧ (case12g.withPart heardChips).onsetOn heardChips p = true) := by
  exact ⟨by decide +kernel, by decide +kernel, by decide +kernel⟩

/-- What a clause of ReceptionsAreJudged assumes is met here. -/
theorem witness_ReceptionsAreJudged_1 :
    (hearingIn 2 2 { : Reception }).ql.run.rx = some { : Reception } ∧
    (hearingIn 2 2 { : Reception }).mayReceive = true ∧
    (hearingIn 2 2 { : Reception }).ql.run.rxState = 2 ∧
    { : Reception }.capture = none ∧
    { : Reception }.since + 1536 ≤ (hearingIn 2 2 { : Reception }).symbolAt (silent 0) := by
  exact ⟨by decide +kernel, by decide +kernel, by decide +kernel, by decide +kernel, by decide +kernel⟩

/-- What a clause of ReceptionsAreJudged assumes is met here. -/
theorem witness_ReceptionsAreJudged_2 :
    (hearingIn 2 2 { : Reception }).ql.run.rx = some { : Reception } ∧
    (hearingIn 2 2 { : Reception }).mayReceive = true ∧
    (hearingIn 2 2 { : Reception }).ql.run.rxState = 2 ∧
    { : Reception }.capture = none ∧
    { : Reception }.since + 1536 ≤ (hearingIn 2 2 { : Reception }).symbolAt case12h := by
  exact ⟨by decide +kernel, by decide +kernel, by decide +kernel, by decide +kernel, by decide +kernel⟩

/-- What a clause of ReceptionsAreJudged assumes is met here. -/
theorem witness_ReceptionsAreJudged_3 :
    (hearing 2 { : Reception }).ql.run.rx = some { : Reception } ∧
    (hearing 2 { : Reception }).nativeData = true ∧
    (hearing 2 { : Reception }).ql.run.rxState = 2 ∧
    { : Reception }.capture = none ∧
    ((hearing 2 { : Reception }).withPart heardChips).peakAt heardChips = true := by
  exact ⟨by decide +kernel, by decide +kernel, by decide +kernel, by decide +kernel, by exact (peak_of_hearing _ _).trans peak_heard⟩

/-- What a clause of ReceptionsAreJudged assumes is met here. -/
theorem witness_ReceptionsAreJudged_4 :
    (hearing 2 captured0).ql.run.rx = some captured0 ∧
    (hearing 2 captured0).nativeData = true ∧
    (hearing 2 captured0).ql.run.rxState = 2 ∧
    captured0.capture = some 0 ∧
    0 + 516 ≤ (hearing 2 captured0).symbolAt (silent 516) := by
  exact ⟨by decide +kernel, by decide +kernel, by decide +kernel, by decide +kernel, by decide +kernel⟩

/-- What a clause of ReceptionsAreJudged assumes is met here. -/
theorem witness_ReceptionsAreJudged_5 :
    (hearing 2 captured0).ql.run.rx = some captured0 ∧
    (hearing 2 captured0).nativeData = true ∧
    (hearing 2 captured0).ql.run.rxState = 2 ∧
    captured0.capture = some 0 ∧
    (hearing 2 captured0).symbolAt heardChips < 0 + 516 ∧
    0 + 508 ≤ (hearing 2 captured0).symbolAt heardChips ∧
    ((hearing 2 captured0).withPart heardChips).peakAt heardChips = true := by
  exact ⟨by decide +kernel, by decide +kernel, by decide +kernel, by decide +kernel, by decide +kernel, by decide +kernel, by exact (peak_of_hearing _ _).trans peak_heard⟩

/-- What a clause of ReceptionsAreJudged assumes is met here. -/
theorem witness_ReceptionsAreJudged_6 :
    (hearing 3 (latchedAt 447 (0 : Int))).ql.run.rx = some (latchedAt 447 (0 : Int)) ∧
    (hearing 3 (latchedAt 447 (0 : Int))).nativeData = true ∧
    ((hearing 3 (latchedAt 447 (0 : Int))).ql.run.rxState = 3 ∨ (hearing 3 (latchedAt 447 (0 : Int))).ql.run.rxState = 2 ∧ (latchedAt 447 (0 : Int)).capture.isSome = true) ∧
    syncOf (((hearing 3 (latchedAt 447 (0 : Int))).withPart (heardSync 3)).syncSums (heardSync 3)) = some (syncWord 3 5) ∧
    (hearing 3 (latchedAt 447 (0 : Int))).syncValid (latchedAt 447 (0 : Int)) (heardSync 3) (syncWord 3 5) = true := by
  exact ⟨by decide +kernel, by decide +kernel, by decide +kernel, by exact (sync_of_hearing _ _).trans sync_heard, by decide +kernel⟩

/-- What a clause of ReceptionsAreJudged assumes is met here. -/
theorem witness_ReceptionsAreJudged_7 :
    (hearing 2 { capture := some 447, pairs := (3 : BitVec 4) : Reception }).ql.run.rx = some { capture := some 447, pairs := (3 : BitVec 4) : Reception } ∧
    (hearing 2 { capture := some 447, pairs := (3 : BitVec 4) : Reception }).nativeData = true ∧
    ((hearing 2 { capture := some 447, pairs := (3 : BitVec 4) : Reception }).ql.run.rxState = 3 ∨ (hearing 2 { capture := some 447, pairs := (3 : BitVec 4) : Reception }).ql.run.rxState = 2 ∧ { capture := some 447, pairs := (3 : BitVec 4) : Reception }.capture.isSome = true) ∧
    syncOf (((hearing 2 { capture := some 447, pairs := (3 : BitVec 4) : Reception }).withPart (heardSync 3)).syncSums (heardSync 3)) = some (syncWord 3 5) ∧
    (hearing 2 { capture := some 447, pairs := (3 : BitVec 4) : Reception }).syncValid { capture := some 447, pairs := (3 : BitVec 4) : Reception } (heardSync 3) (syncWord 3 5) = true := by
  exact ⟨by decide +kernel, by decide +kernel, by decide +kernel, by exact (sync_of_hearing _ _).trans sync_heard, by decide +kernel⟩

/-- What a clause of ReceptionsAreJudged assumes is met here. -/
theorem witness_ReceptionsAreJudged_9 :
    (hearing 3 (latchedAt 447 (0 : Int))).ql.run.rx = some (latchedAt 447 (0 : Int)) ∧
    (hearing 3 (latchedAt 447 (0 : Int))).nativeData = true ∧
    ((hearing 3 (latchedAt 447 (0 : Int))).ql.run.rxState = 3 ∨ (hearing 3 (latchedAt 447 (0 : Int))).ql.run.rxState = 2 ∧ (latchedAt 447 (0 : Int)).capture.isSome = true) ∧
    (∀ (w : Nat), syncOf (((hearing 3 (latchedAt 447 (0 : Int))).withPart (silent 1023)).syncSums (silent 1023)) = some w → (hearing 3 (latchedAt 447 (0 : Int))).syncValid (latchedAt 447 (0 : Int)) (silent 1023) w = false) := by
  exact ⟨by decide +kernel, by decide +kernel, by decide +kernel, by decide +kernel⟩

/-- What a clause of ReceptionsAreJudged assumes is met here. -/
theorem witness_ReceptionsAreJudged_10 :
    (hearing 3 (latchedAt 0 (0 : Int))).ql.run.rx = some (latchedAt 0 (0 : Int)) ∧
    (hearing 3 (latchedAt 0 (0 : Int))).nativeData = true ∧
    ((hearing 3 (latchedAt 0 (0 : Int))).ql.run.rxState = 3 ∨ (hearing 3 (latchedAt 0 (0 : Int))).ql.run.rxState = 4) ∧
    ((hearing 3 (latchedAt 0 (0 : Int))).withPart heardChips).peakAt heardChips = true ∧
    nearSecond ((hearing 3 (latchedAt 0 (0 : Int))).symbolAt heardChips) ((latchedAt 0 (0 : Int)).capture.getD ((latchedAt 0 (0 : Int)).latch.getD 0)) = true := by
  exact ⟨by decide +kernel, by decide +kernel, by decide +kernel, by exact (peak_of_hearing _ _).trans peak_heard, by decide +kernel⟩

/-- What a clause of ReceptionsAreJudged assumes is met here. -/
theorem witness_ReceptionsAreJudged_11 :
    (hearing 3 (latchedAt 100 (-400 : Int))).ql.run.rx = some (latchedAt 100 (-400 : Int)) ∧
    (hearing 3 (latchedAt 100 (-400 : Int))).nativeData = true ∧
    ((hearing 3 (latchedAt 100 (-400 : Int))).ql.run.rxState = 3 ∨ (hearing 3 (latchedAt 100 (-400 : Int))).ql.run.rxState = 4) ∧
    ((hearing 3 (latchedAt 100 (-400 : Int))).withPart heardChips).peakAt heardChips = true ∧
    nearSecond ((hearing 3 (latchedAt 100 (-400 : Int))).symbolAt heardChips) ((latchedAt 100 (-400 : Int)).capture.getD ((latchedAt 100 (-400 : Int)).latch.getD 0)) = false ∧
    ((hearing 3 (latchedAt 100 (-400 : Int))).withPart heardChips).captures heardChips (latchedAt 100 (-400 : Int)) = true := by
  exact ⟨by decide +kernel, by decide +kernel, by decide +kernel, by exact (peak_of_hearing _ _).trans peak_heard, by decide +kernel, by unfold State.captures; rw [fired_of_hearing, fired_heard]; decide +kernel⟩

/-- What a clause of ReceptionsAreJudged assumes is met here. -/
theorem witness_ReceptionsAreJudged_12 :
    (hearing 3 (latchedAt 100 (400 : Int))).ql.run.rx = some (latchedAt 100 (400 : Int)) ∧
    (hearing 3 (latchedAt 100 (400 : Int))).nativeData = true ∧
    ((hearing 3 (latchedAt 100 (400 : Int))).ql.run.rxState = 3 ∨ (hearing 3 (latchedAt 100 (400 : Int))).ql.run.rxState = 4) ∧
    ((hearing 3 (latchedAt 100 (400 : Int))).withPart heardChips).peakAt heardChips = true ∧
    nearSecond ((hearing 3 (latchedAt 100 (400 : Int))).symbolAt heardChips) ((latchedAt 100 (400 : Int)).capture.getD ((latchedAt 100 (400 : Int)).latch.getD 0)) = false ∧
    ((hearing 3 (latchedAt 100 (400 : Int))).withPart heardChips).captures heardChips (latchedAt 100 (400 : Int)) = false := by
  exact ⟨by decide +kernel, by decide +kernel, by decide +kernel, by exact (peak_of_hearing _ _).trans peak_heard, by decide +kernel, by unfold State.captures; rw [fired_of_hearing, fired_heard]; decide +kernel⟩

/-- What a clause of ReceptionsAreJudged assumes is met here. -/
theorem witness_ReceptionsAreJudged_13 :
    (hearingIn 1 3 (latchedAt 100 (0 : Int))).ql.run.rx = some (latchedAt 100 (0 : Int)) ∧
    (hearingIn 1 3 (latchedAt 100 (0 : Int))).nativeData = true ∧
    (hearingIn 1 3 (latchedAt 100 (0 : Int))).ql.run.rxState = 3 ∧
    (latchedAt 100 (0 : Int)).latch.getD 0 + 1200 < 1024 * ((hearingIn 1 3 (latchedAt 100 (0 : Int))).eng.period + 1) := by
  exact ⟨by decide +kernel, by decide +kernel, by decide +kernel, by decide +kernel⟩

/-- What a clause of ReceptionsAreJudged assumes is met here. -/
theorem witness_ReceptionsAreJudged_14 :
    case12j.ql.run.rx = some case12i ∧
    case12j.nativeData = true ∧
    case12j.ql.run.rxState = 4 ∧
    case12i.hdr = false ∧
    4 ≤ case12i.settle := by
  exact ⟨by decide +kernel, by decide +kernel, by decide +kernel, by decide +kernel, by decide +kernel⟩

/-- What a clause of ReceptionsAreJudged assumes is met here. -/
theorem witness_ReceptionsAreJudged_15 :
    case12l.ql.run.rx = some case12k ∧
    case12l.nativeData = true ∧
    case12l.ql.run.rxState = 4 ∧
    case12k.hdr = true := by
  exact ⟨by decide +kernel, by decide +kernel, by decide +kernel, by decide +kernel⟩

/-- What a clause of ReceptionsAreJudged assumes is met here. -/
theorem witness_ReceptionsAreJudged_16 :
    case12m.nativeData = true ∧
    case12m.ql.run.rxState = 6 ∧
    case12m.ql.run.listen = some (0, 1) := by
  exact ⟨by decide +kernel, by decide +kernel, by decide +kernel⟩

/-- What StandardIdleFollowsItsClause assumes is met here, clause by clause. -/
theorem witness_StandardIdleFollowsItsClause :
    ((stdIdle false 0 0).stdIdle = true ∧
      (stdIdle false 0 0).ql.run.txState = 0 ∧
      (stdIdle false 0 0).txIdle = true ∧
      (stdIdle false 0 0).ql.run.rxState = 0) ∧
    ((stdIdle false 2 1).stdIdle = true ∧
      (stdIdle false 2 1).ql.run.txState = 2 ∧
      (stdIdle false 2 1).ql.run.rxState ≠ 0) ∧
    ((stdIdle true 2 1).stdIdle = true ∧
      (stdIdle true 2 1).ql.run.txState = 2 ∧
      (stdIdle true 2 1).ql.run.rxState ≠ 0 ∧
      (stdIdle true 2 1).link.legacyIdle = true) ∧
    ((stdIdle true 0 1).stdIdle = true ∧
      (stdIdle true 0 1).ql.run.txState = 0 ∧
      (stdIdle true 0 1).txIdle = true ∧
      (stdIdle true 0 1).ql.run.rxState ≠ 0 ∧
      (stdIdle true 0 1).link.legacyIdle = true ∧
      (stdIdle true 0 1).ready Rdy.legacyWake = true ∧
      (stdIdle true 0 1).clk.adcDiv = 2 ∧
      ((stdIdle true 0 1).ql.run.rxState = 1 ∨ (stdIdle true 0 1).ql.run.rxState = 2) ∧
      (stdIdle true 0 1).pairsWhere ((stdIdle true 0 1).legacyFires 1 heardSegment) ≠ (0 : BitVec 4)) ∧
    ((stdIdle true 0 2).stdIdle = true ∧
      (stdIdle true 0 2).ql.run.txState = 0 ∧
      (stdIdle true 0 2).txIdle = true ∧
      (stdIdle true 0 2).ql.run.rxState ≠ 0 ∧
      (stdIdle true 0 2).link.legacyIdle = true ∧
      (stdIdle true 0 2).ready Rdy.legacyWake = true ∧
      (stdIdle true 0 2).clk.adcDiv = 2 ∧
      ((stdIdle true 0 2).ql.run.rxState = 1 ∨ (stdIdle true 0 2).ql.run.rxState = 2) ∧
      (stdIdle true 0 2).pairsWhere ((stdIdle true 0 2).legacyFires 2 (silent 5)) = (0 : BitVec 4)) ∧
    ((stdIdle true 2 3).stdIdle = true ∧
      (stdIdle true 2 3).ql.run.txState = 2 ∧
      (stdIdle true 2 3).ql.run.rxState ≠ 0 ∧
      (stdIdle true 2 3).link.legacyIdle = true ∧
      (stdIdle true 2 3).ql.run.rx = some (latchedAt 100 (0 : Int)) ∧
      (stdIdle true 2 3).ql.run.rxState = 3) := by
  refine ⟨?_, ?_, ?_, ?_, ?_, ?_⟩
  all_goals decide +kernel

/-- What KnuckleShedsAndReinstates assumes is met here, clause by clause. -/
theorem witness_KnuckleShedsAndReinstates :
    (Takes (asks native shedReq) 7 75 shedReq ∧
      (asks native shedReq).shapeOk = true ∧
      (asks native shedReq).fuse.part.knuckle = true ∧
      (asks native shedReq).ready Rdy.knuckle = true ∧
      (asks native shedReq).nativeData = true ∧
      (asks native shedReq).link.knOk = true ∧
      (asks native shedReq).link.frt.want = false ∧
      shedReq.cap.arg 28 1 = 0 ∧
      Plain shedReq [(28, 2)] ∧
      shedReq.cap.arg 29 1 < 4 ∧
      (asks native shedReq).kn.state = 0) ∧
    (Takes (asks (knAt 2 id) reinReq) 7 75 reinReq ∧
      (asks (knAt 2 id) reinReq).shapeOk = true ∧
      (asks (knAt 2 id) reinReq).fuse.part.knuckle = true ∧
      (asks (knAt 2 id) reinReq).ready Rdy.knuckle = true ∧
      (asks (knAt 2 id) reinReq).nativeData = true ∧
      (asks (knAt 2 id) reinReq).link.knOk = true ∧
      (asks (knAt 2 id) reinReq).link.frt.want = false ∧
      reinReq.cap.arg 28 1 = 1 ∧
      Plain reinReq [(28, 1)] ∧
      (asks (knAt 2 id) reinReq).kn.state = 2 ∧
      (asks (knAt 2 id) reinReq).testOn 2 ↑(asks (knAt 2 id) reinReq).kn.shed = false ∧
      (asks (knAt 2 id) reinReq).armed = false) ∧
    ((status native [(2, 1), (6, 2)] []).shapeOk = true ∧
      (status native [(2, 1), (6, 2)] []).nativeData = true ∧
      (status native [(2, 1), (6, 2)] []).link.knOk = true ∧
      (status native [(2, 1), (6, 2)] []).namedPair = some (2 : Pair) ∧
      (status native [(2, 1), (6, 2)] []).kn.state = 0 ∧
      (status native [(2, 1), (6, 2)] []).statusRx 2 = 1 ∧
      (status native [(2, 1), (6, 2)] []).kn.accept = true) ∧
    (refusing.shapeOk = true ∧
      refusing.nativeData = true ∧
      refusing.link.knOk = true ∧
      refusing.namedPair = some (2 : Pair) ∧
      refusing.kn.state = 0 ∧
      refusing.kn.accept = false) ∧
    ((status (knAt 2 id) [(2, 1), (6, 2)] []).shapeOk = true ∧
      (status (knAt 2 id) [(2, 1), (6, 2)] []).nativeData = true ∧
      (status (knAt 2 id) [(2, 1), (6, 2)] []).link.knOk = true ∧
      (status (knAt 2 id) [(2, 1), (6, 2)] []).namedPair = some (2 : Pair) ∧
      (status (knAt 2 id) [(2, 1), (6, 2)] []).kn.state = 2) ∧
    ((asking [(2, 1), (6, 2)]).shapeOk = true ∧
      (asking [(2, 1), (6, 2)]).nativeData = true ∧
      (asking [(2, 1), (6, 2)]).link.knOk = true ∧
      (asking [(2, 1), (6, 2)]).namedPair = some (2 : Pair) ∧
      (asking [(2, 1), (6, 2)]).kn.state = 1 ∧
      (asking [(2, 1), (6, 2)]).statusRx 2 = 1 ∧
      (asking [(2, 1), (6, 2)]).kn.run.partnerAsked = false ∧
      ((asking [(2, 1), (6, 2)]).statusTx 3).want ≠ 1 ∧
      (2 : Pair) = (asking [(2, 1), (6, 2)]).kn.shed) ∧
    ((askingAs false true [(2, 1), (6, 1)]).shapeOk = true ∧
      (askingAs false true [(2, 1), (6, 1)]).nativeData = true ∧
      (askingAs false true [(2, 1), (6, 1)]).link.knOk = true ∧
      (askingAs false true [(2, 1), (6, 1)]).namedPair = some (1 : Pair) ∧
      (askingAs false true [(2, 1), (6, 1)]).kn.state = 1 ∧
      (askingAs false true [(2, 1), (6, 1)]).statusRx 2 = 1 ∧
      (askingAs false true [(2, 1), (6, 1)]).kn.run.partnerAsked = false ∧
      ((askingAs false true [(2, 1), (6, 1)]).statusTx 3).want ≠ 1 ∧
      (1 : Pair) ≠ (askingAs false true [(2, 1), (6, 1)]).kn.shed ∧
      (askingAs false true [(2, 1), (6, 1)]).link.role = false) ∧
    ((askingAs true true [(2, 1), (6, 1)]).shapeOk = true ∧
      (askingAs true true [(2, 1), (6, 1)]).nativeData = true ∧
      (askingAs true true [(2, 1), (6, 1)]).link.knOk = true ∧
      (askingAs true true [(2, 1), (6, 1)]).namedPair = some (1 : Pair) ∧
      (askingAs true true [(2, 1), (6, 1)]).kn.state = 1 ∧
      (askingAs true true [(2, 1), (6, 1)]).statusRx 2 = 1 ∧
      (askingAs true true [(2, 1), (6, 1)]).kn.run.partnerAsked = false ∧
      ((askingAs true true [(2, 1), (6, 1)]).statusTx 3).want ≠ 1 ∧
      (1 : Pair) ≠ (askingAs true true [(2, 1), (6, 1)]).kn.shed ∧
      (askingAs true true [(2, 1), (6, 1)]).link.role = true) ∧
    ((askingAs true false [(2, 1), (6, 1)]).shapeOk = true ∧
      (askingAs true false [(2, 1), (6, 1)]).nativeData = true ∧
      (askingAs true false [(2, 1), (6, 1)]).link.knOk = true ∧
      (askingAs true false [(2, 1), (6, 1)]).namedPair = some (1 : Pair) ∧
      (askingAs true false [(2, 1), (6, 1)]).kn.state = 1 ∧
      (askingAs true false [(2, 1), (6, 1)]).statusRx 2 = 1 ∧
      (askingAs true false [(2, 1), (6, 1)]).kn.run.partnerAsked = false ∧
      ((askingAs true false [(2, 1), (6, 1)]).statusTx 3).want ≠ 1 ∧
      (1 : Pair) ≠ (askingAs true false [(2, 1), (6, 1)]).kn.shed ∧
      (askingAs true false [(2, 1), (6, 1)]).link.role = true) ∧
    (case13a.shapeOk = true ∧
      case13a.nativeData = true ∧
      case13a.link.knOk = true ∧
      case13a.namedPair = some (2 : Pair) ∧
      case13a.kn.state = 4 ∧
      case13a.kn.run.partnerAsked = true ∧
      case13a.statusRx 2 ≠ 1) ∧
    ((status (knAt 4 id) [(6, 2)] [(3, 1)]).shapeOk = true ∧
      (status (knAt 4 id) [(6, 2)] [(3, 1)]).nativeData = true ∧
      (status (knAt 4 id) [(6, 2)] [(3, 1)]).link.knOk = true ∧
      (status (knAt 4 id) [(6, 2)] [(3, 1)]).namedPair = some (2 : Pair) ∧
      (status (knAt 4 id) [(6, 2)] [(3, 1)]).kn.state = 4 ∧
      (status (knAt 4 id) [(6, 2)] [(3, 1)]).kn.run.partnerAsked = false ∧
      (status (knAt 4 id) [(6, 2)] [(3, 1)]).statusRx 3 = 0) ∧
    ((asking [(3, 1), (6, 2)]).shapeOk = true ∧
      (asking [(3, 1), (6, 2)]).nativeData = true ∧
      (asking [(3, 1), (6, 2)]).link.knOk = true ∧
      (asking [(3, 1), (6, 2)]).namedPair = some (2 : Pair) ∧
      (asking [(3, 1), (6, 2)]).kn.state = 1 ∧
      (asking [(3, 1), (6, 2)]).kn.run.request = some (true, 7) ∧
      (asking [(3, 1), (6, 2)]).statusRx 3 = 1 ∧
      ((asking [(3, 1), (6, 2)]).statusTx 3).want = 0 ∧
      (2 : Pair) = (asking [(3, 1), (6, 2)]).kn.shed) ∧
    ((asking [(3, 1), (6, 1)]).shapeOk = true ∧
      (asking [(3, 1), (6, 1)]).nativeData = true ∧
      (asking [(3, 1), (6, 1)]).link.knOk = true ∧
      (asking [(3, 1), (6, 1)]).namedPair = some (1 : Pair) ∧
      (asking [(3, 1), (6, 1)]).kn.state = 1 ∧
      (asking [(3, 1), (6, 1)]).kn.run.request = some (true, 7) ∧
      (asking [(3, 1), (6, 1)]).statusRx 3 = 1 ∧
      ((asking [(3, 1), (6, 1)]).statusTx 3).want = 0 ∧
      (1 : Pair) ≠ (asking [(3, 1), (6, 1)]).kn.shed) ∧
    ((asking []).shapeOk = true ∧
      (asking []).kn.state = 1 ∧
      (asking []).kn.run.request = some (true, 7) ∧
      ((asking []).statusTx 2).now = 1 ∧
      ((asking []).statusTx 3).want = 0) ∧
    (changing.nativeData = true ∧
      changing.kn.run.txAt = some changing.lc.run.txSeq ∧
      changing.kn.run.rxAt = some changing.lc.run.rxSeq) ∧
    (case13b.nativeData = true ∧
      case13b.kn.state = 3 ∧
      case13b.kn.run.ready = true ∧
      case13b.kn.run.farReady = true ∧
      case13b.shapeOk = true) ∧
    (case13c.nativeData = true ∧
      case13c.kn.state = 3 ∧
      case13c.kn.run.ready = true ∧
      case13c.kn.run.farReady = true ∧
      case13c.shapeOk = true) ∧
    (trainingArmed.nativeData = true ∧
      trainingArmed.kn.state = 3) := by
  refine ⟨?_, ?_, ?_, ?_, ?_, ?_, ?_, ?_, ?_, ?_, ?_, ?_, ?_, ?_, ?_, ?_, ?_, ?_⟩
  all_goals ((try unfold Takes); (try unfold Plain); decide +kernel)

/-- What CalibrationEstimatesItsItems assumes is met here, clause by clause. -/
theorem witness_CalibrationEstimatesItsItems :
    (Takes (asks native (calReq 31 15)) 7 80 (calReq 31 15) ∧
      Plain (calReq 31 15) [(28, 2), (32, 4)] ∧
      (asks native (calReq 31 15)).cal.run = none ∧
      (asks native (calReq 31 15)).diagUses (bitsAt ((calReq 31 15).cap.arg 29 1) 0 4) = false ∧
      (asks native (calReq 31 15)).ready Rdy.line = true ∧
      (asks native (calReq 31 15)).calTested ((calReq 31 15).cap.arg 28 1) ((calReq 31 15).cap.arg 29 1) = false ∧
      1 ≤ (calReq 31 15).cap.arg 28 1 ∧
      (calReq 31 15).cap.arg 28 1 < 32 ∧
      ((calReq 31 15).cap.arg 29 1 = 0 → (calReq 31 15).cap.arg 28 1 = 16) ∧
      (calReq 31 15).cap.arg 29 1 < 16 ∧
      100 ≤ (calReq 31 15).cap.arg 32 4 ∧
      (calReq 31 15).cap.arg 32 4 ≤ 60000 ∧
      (∃ i < 5, bitAt ((calReq 31 15).cap.arg 28 1) i = true ∧ (fun i => i = 4 ∨ (asks native (calReq 31 15)).nativeData = true ∨ (asks native (calReq 31 15)).link.state = 0 ∧ i ≠ 3) i)) ∧
    (Takes (asks native (calReq 16 1)) 7 80 (calReq 16 1) ∧
      Plain (calReq 16 1) [(28, 2), (32, 4)] ∧
      (asks native (calReq 16 1)).cal.run = none ∧
      (asks native (calReq 16 1)).diagUses (bitsAt ((calReq 16 1).cap.arg 29 1) 0 4) = false ∧
      (asks native (calReq 16 1)).ready Rdy.line = true ∧
      (asks native (calReq 16 1)).calTested ((calReq 16 1).cap.arg 28 1) ((calReq 16 1).cap.arg 29 1) = false ∧
      1 ≤ (calReq 16 1).cap.arg 28 1 ∧
      (calReq 16 1).cap.arg 28 1 < 32 ∧
      ((calReq 16 1).cap.arg 29 1 = 0 → (calReq 16 1).cap.arg 28 1 = 16) ∧
      (calReq 16 1).cap.arg 29 1 < 16 ∧
      100 ≤ (calReq 16 1).cap.arg 32 4 ∧
      (calReq 16 1).cap.arg 32 4 ≤ 60000 ∧
      (∃ i < 5, bitAt ((calReq 16 1).cap.arg 28 1) i = true ∧ (fun i => i = 4 ∨ (asks native (calReq 16 1)).nativeData = true ∨ (asks native (calReq 16 1)).link.state = 0 ∧ i ≠ 3) i)) ∧
    (Takes (asks native (calReq 5 8)) 7 80 (calReq 5 8) ∧
      Plain (calReq 5 8) [(28, 2), (32, 4)] ∧
      (asks native (calReq 5 8)).cal.run = none ∧
      (asks native (calReq 5 8)).diagUses (bitsAt ((calReq 5 8).cap.arg 29 1) 0 4) = false ∧
      (asks native (calReq 5 8)).ready Rdy.line = true ∧
      (asks native (calReq 5 8)).calTested ((calReq 5 8).cap.arg 28 1) ((calReq 5 8).cap.arg 29 1) = false ∧
      1 ≤ (calReq 5 8).cap.arg 28 1 ∧
      (calReq 5 8).cap.arg 28 1 < 32 ∧
      ((calReq 5 8).cap.arg 29 1 = 0 → (calReq 5 8).cap.arg 28 1 = 16) ∧
      (calReq 5 8).cap.arg 29 1 < 16 ∧
      100 ≤ (calReq 5 8).cap.arg 32 4 ∧
      (calReq 5 8).cap.arg 32 4 ≤ 60000 ∧
      (∃ i < 5, bitAt ((calReq 5 8).cap.arg 28 1) i = true ∧ (fun i => i = 4 ∨ (asks native (calReq 5 8)).nativeData = true ∨ (asks native (calReq 5 8)).link.state = 0 ∧ i ≠ 3) i)) ∧
    (Takes (asks (linkAt native 5) (calReq 5 8)) 7 80 (calReq 5 8) ∧
      Plain (calReq 5 8) [(28, 2), (32, 4)] ∧
      (asks (linkAt native 5) (calReq 5 8)).cal.run = none ∧
      (asks (linkAt native 5) (calReq 5 8)).diagUses (bitsAt ((calReq 5 8).cap.arg 29 1) 0 4) = false ∧
      (asks (linkAt native 5) (calReq 5 8)).ready Rdy.line = true ∧
      (asks (linkAt native 5) (calReq 5 8)).calTested ((calReq 5 8).cap.arg 28 1) ((calReq 5 8).cap.arg 29 1) = false ∧
      1 ≤ (calReq 5 8).cap.arg 28 1 ∧
      (calReq 5 8).cap.arg 28 1 < 32 ∧
      ((calReq 5 8).cap.arg 29 1 = 0 → (calReq 5 8).cap.arg 28 1 = 16) ∧
      (calReq 5 8).cap.arg 29 1 < 16 ∧
      100 ≤ (calReq 5 8).cap.arg 32 4 ∧
      (calReq 5 8).cap.arg 32 4 ≤ 60000 ∧
      (∀ i < 5, bitAt ((calReq 5 8).cap.arg 28 1) i = true → ¬(fun i => i = 4 ∨ (asks (linkAt native 5) (calReq 5 8)).nativeData = true ∨ (asks (linkAt native 5) (calReq 5 8)).link.state = 0 ∧ i ≠ 3) i)) ∧
    ((estimating [(0, 1)] { : PairEst }).cal.run = some (calRun0 [(0, 1)]) ∧
      (calRun0 [(0, 1)]).results = [0, 0, 0, 0, 0] ∧
      (estimating [(0, 1)] { : PairEst }).cal.revertDue = false ∧
      (estimating [(0, 1)] { : PairEst }).calTask 0 ↑(1 : Pair) = true ∧
      (estimating [(0, 1)] { : PairEst }).calTask 1 ↑(1 : Pair) = false ∧
      ((((estimating [(0, 1)] { : PairEst }).cal.est.at (1 : Pair)).sums.any fun x => decide (x.n < 1048576)) = true)) ∧
    ((estimating [(0, 1)] { sums := fullSums (0 : Int) : PairEst }).cal.run = some (calRun0 [(0, 1)]) ∧
      (calRun0 [(0, 1)]).results = [0, 0, 0, 0, 0] ∧
      (estimating [(0, 1)] { sums := fullSums (0 : Int) : PairEst }).cal.revertDue = false ∧
      (estimating [(0, 1)] { sums := fullSums (0 : Int) : PairEst }).calTask 0 ↑(1 : Pair) = true ∧
      (estimating [(0, 1)] { sums := fullSums (0 : Int) : PairEst }).calTask 1 ↑(1 : Pair) = false ∧
      ((((estimating [(0, 1)] { sums := fullSums (0 : Int) : PairEst }).cal.est.at (1 : Pair)).sums.any fun x => decide (x.n < 1048576)) = false)) ∧
    ((estimating [(0, 1)] { sums := fullSums (3 : Int) : PairEst }).cal.run = some (calRun0 [(0, 1)]) ∧
      (calRun0 [(0, 1)]).results = [0, 0, 0, 0, 0] ∧
      (estimating [(0, 1)] { sums := fullSums (3 : Int) : PairEst }).cal.revertDue = false ∧
      (estimating [(0, 1)] { sums := fullSums (3 : Int) : PairEst }).calTask 0 ↑(1 : Pair) = true ∧
      (estimating [(0, 1)] { sums := fullSums (3 : Int) : PairEst }).calTask 1 ↑(1 : Pair) = false ∧
      ((((estimating [(0, 1)] { sums := fullSums (3 : Int) : PairEst }).cal.est.at (1 : Pair)).sums.any fun x => decide (x.n < 1048576)) = false)) ∧
    ((estimating [(0, 1), (0, 2)] { sums := fullSums (3 : Int) : PairEst }).cal.run = some (calRun0 [(0, 1), (0, 2)]) ∧
      (calRun0 [(0, 1), (0, 2)]).results = [0, 0, 0, 0, 0] ∧
      (estimating [(0, 1), (0, 2)] { sums := fullSums (3 : Int) : PairEst }).cal.revertDue = false ∧
      (estimating [(0, 1), (0, 2)] { sums := fullSums (3 : Int) : PairEst }).calTask 0 ↑(1 : Pair) = true ∧
      (estimating [(0, 1), (0, 2)] { sums := fullSums (3 : Int) : PairEst }).calTask 1 ↑(1 : Pair) = false ∧
      ((((estimating [(0, 1), (0, 2)] { sums := fullSums (3 : Int) : PairEst }).cal.est.at (1 : Pair)).sums.any fun x => decide (x.n < 1048576)) = false)) ∧
    ((estimating [(2, 1)] { : PairEst }).cal.run = some (calRun0 [(2, 1)]) ∧
      (calRun0 [(2, 1)]).results = [0, 0, 0, 0, 0] ∧
      (estimating [(2, 1)] { : PairEst }).cal.revertDue = false ∧
      (estimating [(2, 1)] { : PairEst }).calTask 2 ↑(1 : Pair) = true ∧
      ((estimating [(2, 1)] { : PairEst }).cal.est.at (1 : Pair)).dacN < 4096) ∧
    ((estimating [(2, 1)] { dacN := 4096 : PairEst }).cal.run = some (calRun0 [(2, 1)]) ∧
      (calRun0 [(2, 1)]).results = [0, 0, 0, 0, 0] ∧
      (estimating [(2, 1)] { dacN := 4096 : PairEst }).cal.revertDue = false ∧
      (estimating [(2, 1)] { dacN := 4096 : PairEst }).calTask 2 ↑(1 : Pair) = true ∧
      4096 ≤ ((estimating [(2, 1)] { dacN := 4096 : PairEst }).cal.est.at (1 : Pair)).dacN) ∧
    ((estimating [(3, 1)] { : PairEst }).cal.run = some (calRun0 [(3, 1)]) ∧
      (calRun0 [(3, 1)]).results = [0, 0, 0, 0, 0] ∧
      (estimating [(3, 1)] { : PairEst }).cal.revertDue = false ∧
      (estimating [(3, 1)] { : PairEst }).calTask 3 ↑(1 : Pair) = true ∧
      ((estimating [(3, 1)] { : PairEst }).cal.est.at (1 : Pair)).hybN < 1024) ∧
    ((estimating [(3, 1)] { hybN := 1024, up := (5 : ℚ), down := (3 : ℚ) : PairEst }).cal.run = some (calRun0 [(3, 1)]) ∧
      (calRun0 [(3, 1)]).results = [0, 0, 0, 0, 0] ∧
      (estimating [(3, 1)] { hybN := 1024, up := (5 : ℚ), down := (3 : ℚ) : PairEst }).cal.revertDue = false ∧
      (estimating [(3, 1)] { hybN := 1024, up := (5 : ℚ), down := (3 : ℚ) : PairEst }).calTask 3 ↑(1 : Pair) = true ∧
      1024 ≤ ((estimating [(3, 1)] { hybN := 1024, up := (5 : ℚ), down := (3 : ℚ) : PairEst }).cal.est.at (1 : Pair)).hybN ∧
      ((estimating [(3, 1)] { hybN := 1024, up := (5 : ℚ), down := (3 : ℚ) : PairEst }).cal.est.at (1 : Pair)).axis < 2) ∧
    ((estimating [(3, 1)] { axis := 1, hybN := 1024 : PairEst }).cal.run = some (calRun0 [(3, 1)]) ∧
      (calRun0 [(3, 1)]).results = [0, 0, 0, 0, 0] ∧
      (estimating [(3, 1)] { axis := 1, hybN := 1024 : PairEst }).cal.revertDue = false ∧
      (estimating [(3, 1)] { axis := 1, hybN := 1024 : PairEst }).calTask 3 ↑(1 : Pair) = true ∧
      1024 ≤ ((estimating [(3, 1)] { axis := 1, hybN := 1024 : PairEst }).cal.est.at (1 : Pair)).hybN ∧
      ((estimating [(3, 1)] { axis := 1, hybN := 1024 : PairEst }).cal.est.at (1 : Pair)).axis < 2) ∧
    ((calibrating [(4, 4)]).cal.run = some (calRun0 [(4, 4)]) ∧
      (calRun0 [(4, 4)]).results = [0, 0, 0, 0, 0] ∧
      (calibrating [(4, 4)]).cal.revertDue = false ∧
      (calibrating [(4, 4)]).calTask 4 4 = true ∧
      (((calibrating [(4, 4)]).dir true).lane 3).logical < 24 ∧
      25 ≤ 40) ∧
    ((swapping1.cal.pair.at (1 : Pair)).swap = some { pos := 3, out := 3, inc := 33 : Swap } ∧
      { pos := 3, out := 3, inc := 33 : Swap }.alpha = none ∧
      { pos := 3, out := 3, inc := 33 : Swap }.inc < (swapping1.cal.pair.at (1 : Pair)).slices.length) ∧
    (busyAll.cal.run = some (calRun0 [(0, 0), (0, 1), (2, 0)]) ∧
      (calRun0 [(0, 0), (0, 1), (2, 0)]).left = [(0, 0), (0, 1), (2, 0)] ∧
      busyAll.backgroundEngine = false ∧
      0 < (calRun0 [(0, 0), (0, 1), (2, 0)]).results.length ∧
      (∃ x ∈ [(0, 1), (2, 0)], x.1 ≠ 0)) ∧
    (busyLast.cal.run = some (calRun0 [(2, 0)]) ∧
      (calRun0 [(2, 0)]).left = [(2, 0)] ∧
      busyLast.backgroundEngine = false ∧
      2 < (calRun0 [(2, 0)]).results.length ∧
      (∀ x ∈ ([] : List (Nat × Nat)), x.1 = 2)) ∧
    ((calibrating [(0, 0), (2, 1)]).cal.run = some (calRun0 [(0, 0), (2, 1)])) := by
  refine ⟨?_, ?_, ?_, ?_, ?_, ?_, ?_, ?_, ?_, ?_, ?_, ?_, ?_, ?_, ?_, ?_, ?_, ?_⟩
  all_goals ((try unfold Takes); (try unfold Plain); decide +kernel)

/-- What CalibrationIsExportedAndImported assumes is met here, clause by clause. -/
theorem witness_CalibrationIsExportedAndImported :
    (Takes (asks (exporting 8) exportReq) 7 81 exportReq ∧
      exportReq.cap.len = 0 ∧
      (asks (exporting 8) exportReq).ready Rdy.line = true ∧
      calBufferOk exportReq.cap [(32, 16)] = true ∧
      (asks (exporting 8) exportReq).bufferFault (exportReq.cap.arg 32 8) 2240 true = none) ∧
    (Takes (asks (exporting 8) importReq) 7 82 importReq ∧
      importReq.cap.len = 0 ∧
      (asks (exporting 8) importReq).cal.run = none ∧
      (asks (exporting 8) importReq).diag.run = none ∧
      (asks (exporting 8) importReq).ready Rdy.line = true ∧
      calBufferOk importReq.cap [(32, 12)] = true ∧
      (asks (exporting 8) importReq).bufferFault (importReq.cap.arg 32 8) 2240 false = none ∧
      (asks (exporting 8) importReq).blobReject (fitBytes 2196 (live.calBlob 9)) = none) ∧
    (Takes (asks (exporting 1) importReq) 7 82 importReq ∧
      importReq.cap.len = 0 ∧
      (asks (exporting 1) importReq).cal.run = none ∧
      (asks (exporting 1) importReq).diag.run = none ∧
      (asks (exporting 1) importReq).ready Rdy.line = true ∧
      calBufferOk importReq.cap [(32, 12)] = true ∧
      (asks (exporting 1) importReq).bufferFault (importReq.cap.arg 32 8) 2240 false = none ∧
      (asks (exporting 1) importReq).blobReject (fitBytes 2196 (live.calBlob 9)) = none) ∧
    (Takes (asks (exporting 5) importReq) 7 82 importReq ∧
      importReq.cap.len = 0 ∧
      (asks (exporting 5) importReq).cal.run = none ∧
      (asks (exporting 5) importReq).diag.run = none ∧
      (asks (exporting 5) importReq).ready Rdy.line = true ∧
      calBufferOk importReq.cap [(32, 12)] = true ∧
      (asks (exporting 5) importReq).bufferFault (importReq.cap.arg 32 8) 2240 false = none ∧
      (asks (exporting 5) importReq).blobReject (fitBytes 2196 (live.calBlob 9)) = none) ∧
    (Takes (asks (exporting 1) importReq) 7 82 importReq ∧
      importReq.cap.len = 0 ∧
      (asks (exporting 1) importReq).cal.run = none ∧
      (asks (exporting 1) importReq).diag.run = none ∧
      (asks (exporting 1) importReq).ready Rdy.line = true ∧
      calBufferOk importReq.cap [(32, 12)] = true ∧
      (asks (exporting 1) importReq).bufferFault (importReq.cap.arg 32 8) 2240 false = none ∧
      (asks (exporting 1) importReq).blobReject (fitBytes 2196 ((1 : Byte) :: live.calBlob 9)) = some 1) := by
  unfold Takes; and_intros <;> first | with_reducible exact blob_taken_data | with_reducible exact blob_taken_down | with_reducible exact blob_taken_training | with_reducible exact blob_shifted | decide +kernel

/-- What CableDiagnosticsMeasure assumes is met here, clause by clause. -/
theorem witness_CableDiagnosticsMeasure :
    (Takes (asks (linkAt live 0) (diagReq 7 5)) 7 83 (diagReq 7 5) ∧
      (diagReq 7 5).cap.len = 0 ∧
      (asks (linkAt live 0) (diagReq 7 5)).fuse.part.diag = true ∧
      (asks (linkAt live 0) (diagReq 7 5)).ready Rdy.diag = true ∧
      (asks (linkAt live 0) (diagReq 7 5)).ready Rdy.line = true ∧
      (asks (linkAt live 0) (diagReq 7 5)).cal.run = none ∧
      (asks (linkAt live 0) (diagReq 7 5)).diag.run = none ∧
      (asks (linkAt live 0) (diagReq 7 5)).bist.run = none ∧
      diagBad (diagReq 7 5).cap = false ∧
      ((diagReq 7 5).cap.arg 32 8 = 0 ∨ (asks (linkAt live 0) (diagReq 7 5)).bufferFault ((diagReq 7 5).cap.arg 32 8) 8256 true = none) ∧
      (asks (linkAt live 0) (diagReq 7 5)).link.state ≤ 2) ∧
    (Takes (asks (linkAt live 2) (diagReq 4 0)) 7 83 (diagReq 4 0) ∧
      (diagReq 4 0).cap.len = 0 ∧
      (asks (linkAt live 2) (diagReq 4 0)).fuse.part.diag = true ∧
      (asks (linkAt live 2) (diagReq 4 0)).ready Rdy.diag = true ∧
      (asks (linkAt live 2) (diagReq 4 0)).ready Rdy.line = true ∧
      (asks (linkAt live 2) (diagReq 4 0)).cal.run = none ∧
      (asks (linkAt live 2) (diagReq 4 0)).diag.run = none ∧
      (asks (linkAt live 2) (diagReq 4 0)).bist.run = none ∧
      diagBad (diagReq 4 0).cap = false ∧
      ((diagReq 4 0).cap.arg 32 8 = 0 ∨ (asks (linkAt live 2) (diagReq 4 0)).bufferFault ((diagReq 4 0).cap.arg 32 8) 8256 true = none) ∧
      (asks (linkAt live 2) (diagReq 4 0)).link.state ≤ 2) ∧
    (Takes (asks (linkAt live 1) (diagReq 3 15)) 7 83 (diagReq 3 15) ∧
      (diagReq 3 15).cap.len = 0 ∧
      (asks (linkAt live 1) (diagReq 3 15)).fuse.part.diag = true ∧
      (asks (linkAt live 1) (diagReq 3 15)).ready Rdy.diag = true ∧
      (asks (linkAt live 1) (diagReq 3 15)).ready Rdy.line = true ∧
      (asks (linkAt live 1) (diagReq 3 15)).cal.run = none ∧
      (asks (linkAt live 1) (diagReq 3 15)).diag.run = none ∧
      (asks (linkAt live 1) (diagReq 3 15)).bist.run = none ∧
      diagBad (diagReq 3 15).cap = false ∧
      ((diagReq 3 15).cap.arg 32 8 = 0 ∨ (asks (linkAt live 1) (diagReq 3 15)).bufferFault ((diagReq 3 15).cap.arg 32 8) 8256 true = none) ∧
      (asks (linkAt live 1) (diagReq 3 15)).link.state ≤ 2) ∧
    (Takes (asks (knAt 2 id) (diagReq 1 4)) 7 83 (diagReq 1 4) ∧
      (diagReq 1 4).cap.len = 0 ∧
      (asks (knAt 2 id) (diagReq 1 4)).fuse.part.diag = true ∧
      (asks (knAt 2 id) (diagReq 1 4)).ready Rdy.diag = true ∧
      (asks (knAt 2 id) (diagReq 1 4)).ready Rdy.line = true ∧
      (asks (knAt 2 id) (diagReq 1 4)).cal.run = none ∧
      (asks (knAt 2 id) (diagReq 1 4)).diag.run = none ∧
      (asks (knAt 2 id) (diagReq 1 4)).bist.run = none ∧
      diagBad (diagReq 1 4).cap = false ∧
      ((diagReq 1 4).cap.arg 32 8 = 0 ∨ (asks (knAt 2 id) (diagReq 1 4)).bufferFault ((diagReq 1 4).cap.arg 32 8) 8256 true = none) ∧
      (asks (knAt 2 id) (diagReq 1 4)).nativeData = true ∧
      (asks (knAt 2 id) (diagReq 1 4)).kn.state = 2 ∧
      bitAt ((diagReq 1 4).cap.arg 28 1) 2 = false ∧
      (diagReq 1 4).cap.arg 29 1 = 2 ^ (asks (knAt 2 id) (diagReq 1 4)).kn.shed.val) ∧
    ((diagnosing (diagRun0 [1, 2] 0 3)).diag.run = some (diagRun0 [1, 2] 0 3) ∧
      (diagRun0 [1, 2] 0 3).left = [1, 2] ∧
      (diagRun0 [1, 2] 0 3).asking = false ∧
      (diagRun0 [1, 2] 0 3).onShed = false ∧
      (diagnosing (diagRun0 [1, 2] 0 3)).backgroundEngine = true ∧
      blockGood (dblock (0 : BitVec 4)) 1 = true ∧
      (diagRun0 [1, 2] 0 3).accepted + 1 < (diagRun0 [1, 2] 0 3).blocks ∧
      (diagRun0 [1, 2] 0 3).discardedHere < 4 * (diagRun0 [1, 2] 0 3).blocks) ∧
    ((diagnosing (diagRun0 [1, 2] 1 3)).diag.run = some (diagRun0 [1, 2] 1 3) ∧
      (diagRun0 [1, 2] 1 3).left = [1, 2] ∧
      (diagRun0 [1, 2] 1 3).asking = false ∧
      (diagRun0 [1, 2] 1 3).onShed = false ∧
      (diagnosing (diagRun0 [1, 2] 1 3)).backgroundEngine = true ∧
      blockGood (dblock (0 : BitVec 4)) 1 = true ∧
      (diagRun0 [1, 2] 1 3).accepted + 1 = (diagRun0 [1, 2] 1 3).blocks ∧
      1 < 4) ∧
    ((diagnosing (diagRun0 [1] 1 3)).diag.run = some (diagRun0 [1] 1 3) ∧
      (diagRun0 [1] 1 3).left = [1] ∧
      (diagRun0 [1] 1 3).asking = false ∧
      (diagRun0 [1] 1 3).onShed = false ∧
      (diagnosing (diagRun0 [1] 1 3)).backgroundEngine = true ∧
      blockGood (dblock (0 : BitVec 4)) 1 = true ∧
      (diagRun0 [1] 1 3).accepted + 1 = (diagRun0 [1] 1 3).blocks ∧
      1 < 4) ∧
    ((diagnosing (diagRun0 [4, 5] 1 3)).diag.run = some (diagRun0 [4, 5] 1 3) ∧
      (diagRun0 [4, 5] 1 3).left = [4, 5] ∧
      (diagRun0 [4, 5] 1 3).asking = false ∧
      (diagRun0 [4, 5] 1 3).onShed = false ∧
      (diagnosing (diagRun0 [4, 5] 1 3)).backgroundEngine = true ∧
      blockGood (dblock (0 : BitVec 4)) 4 = true ∧
      (diagRun0 [4, 5] 1 3).accepted + 1 = (diagRun0 [4, 5] 1 3).blocks ∧
      4 ≤ 4) ∧
    ((diagnosing (diagRun0 [7] 1 3)).diag.run = some (diagRun0 [7] 1 3) ∧
      (diagRun0 [7] 1 3).left = [7] ∧
      (diagRun0 [7] 1 3).asking = false ∧
      (diagRun0 [7] 1 3).onShed = false ∧
      (diagnosing (diagRun0 [7] 1 3)).backgroundEngine = true ∧
      blockGood (dblock (0 : BitVec 4)) 7 = true ∧
      (diagRun0 [7] 1 3).accepted + 1 = (diagRun0 [7] 1 3).blocks ∧
      4 ≤ 7) ∧
    ((diagnosing (diagRun0 [1, 2] 1 6)).diag.run = some (diagRun0 [1, 2] 1 6) ∧
      (diagRun0 [1, 2] 1 6).left = [1, 2] ∧
      (diagRun0 [1, 2] 1 6).asking = false ∧
      (diagRun0 [1, 2] 1 6).onShed = false ∧
      (diagnosing (diagRun0 [1, 2] 1 6)).backgroundEngine = true ∧
      blockGood (dblock (2 : BitVec 4)) 1 = false ∧
      (diagRun0 [1, 2] 1 6).discardedHere + 1 < 4 * (diagRun0 [1, 2] 1 6).blocks ∧
      (diagRun0 [1, 2] 1 6).accepted < (diagRun0 [1, 2] 1 6).blocks) ∧
    ((diagnosing (diagRun0 [1, 2] 1 7)).diag.run = some (diagRun0 [1, 2] 1 7) ∧
      (diagRun0 [1, 2] 1 7).left = [1, 2] ∧
      (diagRun0 [1, 2] 1 7).asking = false ∧
      (diagRun0 [1, 2] 1 7).onShed = false ∧
      (diagnosing (diagRun0 [1, 2] 1 7)).backgroundEngine = true ∧
      blockGood (dblock (2 : BitVec 4)) 1 = false ∧
      4 * (diagRun0 [1, 2] 1 7).blocks = (diagRun0 [1, 2] 1 7).discardedHere + 1 ∧
      (diagRun0 [1, 2] 1 7).accepted < (diagRun0 [1, 2] 1 7).blocks ∧
      1 < 4 ∧
      [2] ≠ []) ∧
    ((noneFree [1, 2]).diag.run = some (diagRun0 [1, 2] 1 7) ∧
      (diagRun0 [1, 2] 1 7).left = [1, 2] ∧
      (diagRun0 [1, 2] 1 7).asking = false ∧
      (diagRun0 [1, 2] 1 7).onShed = false ∧
      (noneFree [1, 2]).backgroundEngine = false ∧
      1 < 4 ∧
      [2] ≠ []) ∧
    ((noneFree [4]).diag.run = some (diagRun0 [4] 1 7) ∧
      (diagRun0 [4] 1 7).left = [4] ∧
      (diagRun0 [4] 1 7).asking = false ∧
      (diagRun0 [4] 1 7).onShed = false ∧
      (noneFree [4]).backgroundEngine = false ∧
      4 ≤ 4) ∧
    ((shedDiag (quietItem 3 0)).diag.run = some shedRun ∧
      shedRun.asking = true ∧
      (shedDiag (quietItem 3 0)).lc.oamIn = [quietItem 3 0] ∧
      oamOk (quietItem 3 0) = true ∧
      leAt (quietItem 3 0) 0 2 = 3 ∧
      leAt (quietItem 3 0) 9 1 = 1 ∧
      shedRun.onShed = true ∧
      leAt (quietItem 3 0) 10 1 = 0 ∧
      ↑((shedDiag (quietItem 3 0)).link.map.far.at (shedDiag (quietItem 3 0)).kn.shed) = leAt (quietItem 3 0) 8 1) ∧
    ((shedDiag (quietItem 3 1)).diag.run = some shedRun ∧
      shedRun.asking = true ∧
      (shedDiag (quietItem 3 1)).lc.oamIn = [quietItem 3 1] ∧
      oamOk (quietItem 3 1) = true ∧
      leAt (quietItem 3 1) 0 2 = 3 ∧
      leAt (quietItem 3 1) 9 1 = 1 ∧
      shedRun.onShed = true ∧
      (leAt (quietItem 3 1) 10 1 = 1 ∨ leAt (quietItem 3 1) 10 1 = 2)) ∧
    ((shedDiag (quietItem 3 3)).diag.run = some shedRun ∧
      shedRun.asking = true ∧
      (shedDiag (quietItem 3 3)).lc.oamIn = [quietItem 3 3] ∧
      oamOk (quietItem 3 3) = true ∧
      leAt (quietItem 3 3) 0 2 = 3 ∧
      leAt (quietItem 3 3) 9 1 = 1 ∧
      shedRun.onShed = true ∧
      leAt (quietItem 3 3) 10 1 = 3) ∧
    ((diagnosing (diagRun0 [1, 2, 4] 1 7)).diag.run = some (diagRun0 [1, 2, 4] 1 7)) ∧
    (fourPairs.lc.oamIn = [quietItem 2 5] ∧
      oamOk (quietItem 2 5) = true ∧
      leAt (quietItem 2 5) 0 2 = 2 ∧
      fourPairs.nativeData = true ∧
      ↑(fourPairs.link.map.far.at (2 : Pair)) = leAt (quietItem 2 5) 8 1 ∧
      (∀ (p' : Pair), p' ≠ (2 : Pair) → fourPairs.link.map.far.at p' ≠ fourPairs.link.map.far.at (2 : Pair)) ∧
      fourPairs.kn.state = 0) ∧
    ((shedDiag (quietItem 2 5)).lc.oamIn = [quietItem 2 5] ∧
      oamOk (quietItem 2 5) = true ∧
      leAt (quietItem 2 5) 0 2 = 2 ∧
      (shedDiag (quietItem 2 5)).nativeData = true ∧
      ↑((shedDiag (quietItem 2 5)).link.map.far.at (2 : Pair)) = leAt (quietItem 2 5) 8 1 ∧
      (∀ (p' : Pair), p' ≠ (2 : Pair) → (shedDiag (quietItem 2 5)).link.map.far.at p' ≠ (shedDiag (quietItem 2 5)).link.map.far.at (2 : Pair)) ∧
      (shedDiag (quietItem 2 5)).kn.state = 2 ∧
      (2 : Pair) = (shedDiag (quietItem 2 5)).kn.shed) ∧
    ((shedDiag [(1 : Byte), (2 : Byte)]).lc.oamIn = [[(1 : Byte), (2 : Byte)]] ∧
      oamOk [(1 : Byte), (2 : Byte)] = false ∧
      Instr.quietReq ∈ [Instr.quietReq, Instr.quietAck] ∧
      Instr.quietAck ∈ [Instr.quietReq, Instr.quietAck]) := by
  refine ⟨?_, ?_, ?_, ?_, ?_, ?_, ?_, ?_, ?_, ?_, ?_, ?_, ?_, ?_, ?_, ?_, ?_, ?_, ?_, ?_⟩
  all_goals ((try unfold Takes); decide +kernel)

/-- What StagedSlotsComeIntoForce assumes of a WRITE is met here. -/
theorem witness_StagedSlotsComeIntoForce_write :
    Takes (asks (staged []) writeReq) 7 0x64 writeReq ∧ (asks (staged []) writeReq).ready .engines = true ∧ writeReq.cap.arg 28 1 = 1 ∧
      writeReq.cap.len = 8 * writeReq.cap.arg 32 1 ∧
      (∀ e ∈ stageEntries writeReq.cap, taskAbsent (asks (staged []) writeReq).fuse.part (slotTask e) = false ∧ entryBad e = false) ∧
      (asks (staged []) writeReq).stageStale writeReq.cap = false ∧ writeReq.cap.fieldsOk [(28, 5), (36, 4)] = true ∧ writeReq.cap.arg 29 1 ≤ 1 ∧
      writeReq.cap.arg 30 1 < (asks (staged []) writeReq).fuse.part.engines ∧ writeReq.cap.arg 32 1 ≠ 0 ∧ writeReq.cap.arg 31 1 + writeReq.cap.arg 32 1 ≤ 16 ∧
      (asks (staged []) writeReq).tablesOk = true := by
  have e : stageEntries writeReq.cap = [slotW 1 0 0 10] := by decide +kernel
  refine ⟨by unfold Takes; decide +kernel, by decide +kernel, by decide +kernel, by decide +kernel, ?_, by decide +kernel⟩
  rw [e]; intro x hx; rw [List.mem_singleton.mp hx]; decide +kernel

/-- An image of two blocks for slot B with its sections, key 0 and no digests. -/
def image : List Byte :=
  packBytes 7680 [(32, 0x57594D46), (16, 1), (16, 256), (32, 8192), (32, 0x01000002), (32, 1), (32, 0x01000000), (64, 0xFFFFFFFF),
    (32, 256), (32, 16), (32, 512), (32, 16), (32, 1024), (32, 16)] ++ List.replicate 512 0
/-- It is staged whole. -/
def imageStaged : State := { live with ben := { live.ben with staged := 8192 }, nvm := { live.nvm with slotB := { live.nvm.slotB with image := image } } }
/-- FW_COMMIT of it. -/
def fwCommitReq : Request := req 0x5A [(32, 8192)]

/-- What FirmwareIsUpdated assumes of a commit is met here, wherever the named functions accept the image: the key is the boot ROM's, the
signature is good, and the security partition has the digest of the header. -/
theorem witness_FirmwareIsUpdated_commit
    (hk : sha384 ((image.drop 7684).take 97) = romKeyDigest 0)
    (hs : ecdsaVerify ((image.drop 7684).take 97) (sha384 (image.take 7680)) ((image.drop 7784).take 96) = true)
    (hd : (sha384 ((image.drop 512).take 16)).toNat = 0) :
    Takes (asks imageStaged fwCommitReq) 7 0x5A fwCommitReq ∧ Plain fwCommitReq [(28, 4)] ∧
      (asks imageStaged fwCommitReq).commitCheck (asks imageStaged fwCommitReq).otherSlot.image (fwCommitReq.cap.arg 28 4) = none := by
  unfold Takes Plain
  refine ⟨by decide +kernel, by decide +kernel, ?_⟩
  have h1 : (asks imageStaged fwCommitReq).otherSlot.image = image := rfl
  have h2 : fwCommitReq.cap.arg 28 4 = 8192 := by decide +kernel
  rw [h1, h2]
  simp only [State.commitCheck]
  have h3 : imageField image 44 4 = 16 := by decide +kernel
  have h4 : imageField image 40 4 = 512 := by decide +kernel
  have h5 : image.length = 8192 := by decide +kernel
  have h6 : imageField image (8192 - 512 + 2) 1 = 0 := by decide +kernel
  have h7 : beNat ((image.drop 64).take 48) = 0 := by decide +kernel
  rw [h3, h4, h5, h6, h7, hd, if_neg (by decide +kernel), if_neg (by decide +kernel), if_neg, if_neg, if_neg (by decide +kernel), if_neg (by decide)]
  · simpa using hs
  · simpa using ⟨by decide +kernel, hk⟩

/-- What KeyMessagesNeedTheirRights assumes of a KEY_INSTALL is met here, both where the wrapped key unwraps and where it does not. -/
theorem witness_KeyMessagesNeedTheirRights_install :
    KeyMessage owned installMsg owner ∧ installMsg.arg 8 2 < 1000 ∧ (owned.flow (installMsg.arg 8 2)).exist = true ∧
      installMsg.arg 12 4 = (owned.flow (installMsg.arg 8 2)).gen ∧ assocNone (owned.flow (installMsg.arg 8 2)).assoc = false ∧ installMsg.arg 10 1 ≤ 3 ∧
      (∀ c, owned.slotIn (installMsg.arg 8 2) 2 = some c → (owned.slot (installMsg.arg 8 2) c).an ≠ installMsg.arg 10 1) ∧
      owned.isInstaller owner (installMsg.arg 11 1) = true ∧ (sget {} owned.ward.keks (installMsg.arg 11 1)).key = some (List.replicate 32 4) ∧
      (sget {} owned.ward.info (installMsg.arg 8 2)).tenant = some (installMsg.arg 11 1) := by
  unfold KeyMessage Secured
  decide +kernel

/-- What KeyMessagesNeedTheirRights assumes of a CAK_INSTALL is met here, wherever the wrapped CAK unwraps. -/
theorem witness_KeyMessagesNeedTheirRights_cak :
    KeyMessage owned cakMsg owner ∧ cakMsg.arg 8 1 ≤ 1 ∧ 1 ≤ cakMsg.arg 9 1 ∧ cakMsg.arg 9 1 ≤ 32 ∧ owned.isOwner owner = true ∧
      (sget {} owned.ward.keks 0).key = some (List.replicate 32 3) := by
  unfold KeyMessage Secured; decide +kernel

/-- What SelfTestsRunAndEnd assumes of a test that passes is met here. -/
theorem witness_SelfTestsRunAndEnd_pass :
    testing.bist.run = some testRun ∧
      (let e : TestEnd := { done := bistSteps 2, failed := false, restored := true, signature := expectedSignature 2 2 }
       e.failed = false ∧ e.restored = true ∧ testRun.planned ≤ e.done ∧ e.signature = expectedSignature testRun.test testRun.target) := by
  exact ⟨rfl, rfl, rfl, Nat.le_refl _, rfl⟩

/-- What the statements about every step assume is met here: the first step after POWER_ON_RESET arrives. -/
def firstStep : State := { State.reset with pending := [.powerOnReset false 1 false] }

theorem witness_TablesStayCanonical : firstStep.tablesOk = true ∧ ∃ t, step firstStep = .next t := ⟨by decide +kernel, _, rfl⟩

theorem witness_ListsKeepTheirLengths : firstStep.shapeOk = true ∧ ∃ t, step firstStep = .next t := ⟨by decide +kernel, _, rfl⟩

theorem witness_FusesOnlyGoForward : ∃ t, step { onTrial with pending := [.fwTrialConfirm] } = .next t := ⟨_, rfl⟩

theorem witness_OnlyTwoCommandsBurnFuses : (∀ m, Instr.supplyLoss ≠ .lifecycle m) ∧ Instr.supplyLoss ≠ .fwTrialConfirm ∧ ∃ t, exec .supplyLoss live = .next t :=
  ⟨(by intro m h; cases h), (by decide), _, rfl⟩

end Sys2Proof.Tests
end

section
/-! PROOFS. The side-band reads of live registers (R451, R452) and FP_CAPS of each part (Tables 0-3 and 0-4). -/

namespace Sys2Proof.Machine

/-! ### The SMBus target's answer -/

/-- An acknowledged address without a PEC clocked sends the bytes alone (R451). -/
theorem State.smbAnswer_of_smbAlive {s : State} {a : Nat} (alive : s.smbAlive a = true) (code : Nat) (bs : List Byte) :
    s.smbAnswer a false code bs = s.emit (.smb bs) := by
  simp [State.smbAnswer, alive]

theorem exec_smbReadFpCaps (a : Nat) (pec : Bool) (s : State) :
    exec (.smbReadFpCaps a pec) s = .next (s.smbAnswer a pec 0x01 (leBytes 8 s.fuse.part.capsValue)) := rfl

/-! ### FP_CAPS of each part: the fields of Table 0-3 add up to the values of Table 0-4 -/

theorem capsValue_wq100s : Part.wq100s.capsValue = 0x0000000001603F3F := by decide

theorem capsValue_wq100e : Part.wq100e.capsValue = 0x0000000002603F37 := by decide

theorem capsValue_wq50s : Part.wq50s.capsValue = 0x0000000003403F1E := by decide

theorem capsValue_wq40s : Part.wq40s.capsValue = 0x0000000004283F08 := by decide

/-- Settles O10: the target answers with the bytes of FP_CAPS, and each part's fields add up to its value in Table 0-4. -/
theorem fpCapsReadsAsItsPart : Obligations.FpCapsReadsAsItsPart := by
  unfold Obligations.FpCapsReadsAsItsPart
  intro s a alive
  rw [exec_smbReadFpCaps, State.smbAnswer_of_smbAlive alive]
  cases s.fuse.part with
  | wq100s => rw [capsValue_wq100s]
  | wq100e => rw [capsValue_wq100e]
  | wq50s => rw [capsValue_wq50s]
  | wq40s => rw [capsValue_wq40s]

end Sys2Proof.Machine
end

section
/-! PROOFS. What GET_PARAM and SET_PARAM answer of an object (R361), and POWER_STATE read through them (R40). -/

namespace Sys2Proof.Machine

/-! ### GET_PARAM and SET_PARAM, by what stands in the object index -/

/-- GET_PARAM of an object that is there, within its bytes and with room for them in RSPAN, answers `n` bytes from OFFSET on (R361). -/
theorem exec_getParam_of_objectRow {s : State} {tag : BitVec 16} {q : Request} {r : ObjectRow} {n : Nat}
    (takes : Takes s tag 0x42 q) (plain : Plain q [(28, 4), (32, 8)])
    (row : objectRow (q.cap.arg 28 2) = some r) (present : s.objectAbsent (q.cap.arg 28 2) = false)
    (index : if r.indexed then q.cap.arg 30 2 < 1000 else q.cap.arg 30 2 = 0)
    (count : (if q.cap.arg 36 4 = 0 then r.size - q.cap.arg 32 4 else q.cap.arg 36 4) = n)
    (offAligned : q.cap.arg 32 4 % 4 = 0) (offInside : q.cap.arg 32 4 < r.size) (lenAligned : q.cap.arg 36 4 % 4 = 0)
    (inside : q.cap.arg 32 4 + n ≤ r.size) (room : 1 + (n + 63) / 64 ≤ q.cap.rspan) (atMost : n ≤ 16384) :
    exec (.getParam tag) s = .next (((s.begin q).keepRead r).finish q .ok [(32, r.size), (32, 0), (64, s.time)]
      (((objectBytes r ((s.begin q).foundImage r (q.cap.arg 30 2))).drop (q.cap.arg 32 4)).take n)) := by
  obtain ⟨noPayload, fields⟩ := plain
  have present' : (s.begin q).objectAbsent (q.cap.arg 28 2) = false := present
  change Host.Outcome.next (s.runRequest tag 0x42 _) = _
  rw [runRequest_takes _ takes]
  dsimp only
  rw [row]
  dsimp only
  rw [count, guarded_pass]
  · rfl
  · rw [failing_begin takes]
    simp only [firstFail_cons, firstFail_nil, present', fields, noPayload]
    cases indexed : r.indexed <;> simp [indexed] at index ⊢ <;> omega

/-- SET_PARAM of an object whose write does not wait for GATE_CTL's handshakes is checked and applied at once. -/
theorem exec_setParam_of_ne_gateCtl {s : State} {tag : BitVec 16} {q : Request} (takes : Takes s tag 0x43 q) (other : q.cap.arg 28 2 ≠ 0x0503) :
    exec (.setParam tag) s = .next ((s.begin q).setParam q) := by
  change Host.Outcome.next (s.setParamOf tag _) = _
  simp [State.setParamOf, takes.1, other, runRequest_takes _ takes]

/-- A LENGTH that is not the object's size is LEN_RANGE before any other check (R361). -/
theorem setParam_of_len_ne {s : State} {tag : BitVec 16} {q : Request} {r : ObjectRow} (takes : Takes s tag 0x43 q)
    (row : objectRow (q.cap.arg 28 2) = some r) (len : q.cap.len ≠ r.size) :
    (s.begin q).setParam q = (s.begin q).finish q .lenRange [] [] := by
  unfold State.setParam
  refine guarded_fail ?_
  rw [failing_begin takes, row]
  simp [firstFail, len]

/-- The objects whose written values have checks of their own before that of writability are writable. -/
theorem objectRow_rw_of_valueChecked : ∀ id ∈ [0x0100, 0x0500, 0x0503, 0x0700], (objectRow id).all (·.rw) = true := by decide

/-- SET_PARAM of a read-only object that is there, with the right LENGTH, is RANGE whatever its bytes (R361, R362). -/
theorem setParam_of_readOnly {s : State} {tag : BitVec 16} {q : Request} {r : ObjectRow} (takes : Takes s tag 0x43 q)
    (row : objectRow (q.cap.arg 28 2) = some r) (readOnly : r.rw = false) (len : q.cap.len = r.size)
    (present : s.objectAbsent (q.cap.arg 28 2) = false) (ungated : s.objectGated (q.cap.arg 28 2) = false) :
    (s.begin q).setParam q = (s.begin q).finish q .range [] [] := by
  have unchecked : ∀ id ∈ [0x0100, 0x0500, 0x0503, 0x0700], q.cap.arg 28 2 ≠ id := by
    intro id mem eq
    have writable := objectRow_rw_of_valueChecked id mem
    simp [← eq, row, readOnly] at writable
  have present' : (s.begin q).objectAbsent (q.cap.arg 28 2) = false := present
  have ungated' : (s.begin q).objectGated (q.cap.arg 28 2) = false := ungated
  simp only [List.forall_mem_cons] at unchecked
  obtain ⟨notLinkCtl, notClkCtl, notGateCtl, notWardCtl, -⟩ := unchecked
  unfold State.setParam
  refine guarded_fail ?_
  rw [failing_begin takes, row]
  simp [firstFail, len, readOnly, present', ungated', State.valueAbsent, notLinkCtl, notClkCtl, notGateCtl, notWardCtl]

/-! ### Object 0x0110 POWER_STATE -/

/-- Bits [1:0] of POWER_STATE (R40). -/
def powerCode : PowerState → Nat
  | .active => 0
  | .quietLatch => 1
  | .dormant => 2

theorem powerCode_lt (p : PowerState) : powerCode p < 3 := by cases p <;> decide

theorem objectRow_powerState : objectRow 0x0110 = some (ro 0x0110 8 State.powerStateImage) := rfl

theorem objectAbsent_powerState (s : State) : s.objectAbsent 0x0110 = false := by simp [State.objectAbsent]

theorem objectGated_powerState (s : State) : s.objectGated 0x0110 = false := by simp [State.objectGated]

theorem powerStateImage_eq (s : State) : s.powerStateImage = [(2, powerCode s.pwr.state), (62, 0)] := by
  unfold State.powerStateImage
  cases s.pwr.state <;> rfl

theorem packNat_powerStateImage (s : State) : packNat s.powerStateImage = powerCode s.pwr.state := by
  rw [powerStateImage_eq]
  cases s.pwr.state <;> rfl

/-- POWER_STATE is no line-die object, so that GET_PARAM finds the power state as it stands and keeps no copy (R44, R472). -/
theorem foundImage_powerState (s : State) (idx : Nat) : s.foundImage (ro 0x0110 8 State.powerStateImage) idx = s.powerStateImage := rfl

theorem keepRead_powerState (s : State) : s.keepRead (ro 0x0110 8 State.powerStateImage) = s := rfl

theorem objectBytes_powerState (s : State) :
    objectBytes (ro 0x0110 8 State.powerStateImage) s.powerStateImage = leBytes 8 (powerCode s.pwr.state) := by
  change leBytes 8 (packNat s.powerStateImage) = _
  rw [packNat_powerStateImage]

/-- GET_PARAM of the 8 bytes of POWER_STATE answers the power state's code. -/
theorem exec_getParam_powerState {s : State} {tag : BitVec 16} {q : Request} (takes : Takes s tag 0x42 q) (plain : Plain q [(28, 4), (32, 8)])
    (id : q.cap.arg 28 2 = 0x0110) (index : q.cap.arg 30 2 = 0) (off : q.cap.arg 32 4 = 0) (len : q.cap.arg 36 4 = 8) (room : 2 ≤ q.cap.rspan) :
    exec (.getParam tag) s = .next ((s.begin q).finish q .ok [(32, 8), (32, 0), (64, s.time)] (leBytes 8 (powerCode s.pwr.state))) := by
  have row : objectRow (q.cap.arg 28 2) = some (ro 0x0110 8 State.powerStateImage) := by rw [id, objectRow_powerState]
  have present : s.objectAbsent (q.cap.arg 28 2) = false := by rw [id, objectAbsent_powerState]
  have count : (if q.cap.arg 36 4 = 0 then 8 - q.cap.arg 32 4 else q.cap.arg 36 4) = 8 := by simp [len]
  rw [exec_getParam_of_objectRow takes plain row present index count (by rw [off]) (by rw [off]; decide) (by rw [len]) (by rw [off]; decide)
    (by omega) (by decide), foundImage_powerState, keepRead_powerState, objectBytes_powerState, off]
  rfl

/-- Settles O15: GET_PARAM finds the code of the power state, and SET_PARAM meets a read-only object. -/
theorem powerStateReadsTheState : Obligations.PowerStateReadsTheState := by
  unfold Obligations.PowerStateReadsTheState
  intro s tag q id
  have row : objectRow (q.cap.arg 28 2) = some (ro 0x0110 8 State.powerStateImage) := by rw [id, objectRow_powerState]
  refine ⟨fun takes plain index off len room => ?_, fun takes => ?_⟩
  · exact ⟨powerCode s.pwr.state, exec_getParam_powerState takes plain id index off len room, powerCode_lt _,
      fun active => congrArg powerCode active, fun quiet => congrArg powerCode quiet, fun dormant => congrArg powerCode dormant⟩
  · rw [exec_setParam_of_ne_gateCtl takes (by rw [id]; decide)]
    refine ⟨fun len => ?_, fun len => ?_⟩
    · rw [setParam_of_readOnly takes row rfl len (by rw [id, objectAbsent_powerState]) (by rw [id, objectGated_powerState])]
    · rw [setParam_of_len_ne takes row len]

end Sys2Proof.Machine
end

section
/-! PROOFS. WARD_COUNTERS (R410) read through GET_PARAM. -/

namespace Sys2Proof.Machine

/-! ### The bytes of fields that fill whole bytes -/

/-- Little-endian bytes, the low `m` taken from one number and the next `n` from another. -/
theorem leBytes_mod_add_mul (m n v w : Nat) : leBytes (m + n) (v % 256 ^ m + 256 ^ m * w) = leBytes m v ++ leBytes n w := by
  induction m generalizing v with
  | zero => simp [leBytes, Nat.mod_one]
  | succ m ih =>
    have sum_eq : v % 256 ^ (m + 1) + 256 ^ (m + 1) * w = v % 256 + 256 * (v / 256 % 256 ^ m + 256 ^ m * w) := by
      rw [Nat.pow_succ', Nat.mod_mul, Nat.mul_add, Nat.add_assoc, Nat.mul_assoc]
    have low : BitVec.ofNat 8 (v % 256 + 256 * (v / 256 % 256 ^ m + 256 ^ m * w)) = BitVec.ofNat 8 v := by
      apply BitVec.eq_of_toNat_eq
      rw [BitVec.toNat_ofNat, BitVec.toNat_ofNat]
      omega
    have high : (v % 256 + 256 * (v / 256 % 256 ^ m + 256 ^ m * w)) / 256 = v / 256 % 256 ^ m + 256 ^ m * w := by omega
    rw [sum_eq, Nat.succ_add, leBytes, low, high, ih, leBytes, List.cons_append]

/-- Counters of 32 bits, packed lowest first, are their 4-byte spellings one after another. -/
theorem packBytes_map_word (vs : List Nat) : packBytes (4 * vs.length) (vs.map (fun v => (32, v))) = vs.flatMap (leBytes 4) := by
  induction vs with
  | nil => rfl
  | cons v vs ih =>
    unfold packBytes at ih
    have bytes_cons : 4 * (v :: vs).length = 4 + 4 * vs.length := by rw [List.length_cons]; omega
    rw [packBytes, List.map_cons, packNat, bytes_cons, show 2 ^ 32 = 256 ^ 4 by decide, leBytes_mod_add_mul, ih, List.flatMap_cons]

/-! ### Object 0x0702 WARD_COUNTERS -/

/-- The 16 counters in the order of R410, the last of them 0. -/
def WardCounters.inOrder (c : WardCounters) : List Nat :=
  [c.txProtected, c.rxVerified, c.rxIcvFail, c.rxReplay, c.rxNoSa, c.rxUntaggedDrop, c.txNoSaDrop, c.saAdvances, c.keyInstalls, c.keyRefused,
   c.sessionsOpened, c.mkpduRx, c.mkpduTx, c.mkpduBad, c.zeroizations, 0]

theorem wardCountersImage_eq (s : State) : s.wardCountersImage = s.ward.cnt.inOrder.map (fun v => (32, v)) := rfl

theorem objectRow_wardCounters : objectRow 0x0702 = some (ro 0x0702 64 State.wardCountersImage) := rfl

/-- The Ward objects are there on a part that has Ward (R14, Table 11-4). -/
theorem objectAbsent_wardCounters {s : State} (ward : s.fuse.part.ward = true) : s.objectAbsent 0x0702 = false := by
  simp [State.objectAbsent, ward]

/-- WARD_COUNTERS is no line-die object, so that GET_PARAM finds the counters as they stand and keeps no copy (R44, R472). -/
theorem foundImage_wardCounters (s : State) (idx : Nat) : s.foundImage (ro 0x0702 64 State.wardCountersImage) idx = s.wardCountersImage := rfl

theorem keepRead_wardCounters (s : State) : s.keepRead (ro 0x0702 64 State.wardCountersImage) = s := rfl

/-- Taking up a request counts nothing in Ward. -/
theorem begin_wardCountersImage (s : State) (q : Request) : (s.begin q).wardCountersImage = s.wardCountersImage := rfl

theorem objectBytes_wardCounters (s : State) :
    objectBytes (ro 0x0702 64 State.wardCountersImage) s.wardCountersImage = s.ward.cnt.inOrder.flatMap (leBytes 4) := by
  rw [wardCountersImage_eq]
  exact packBytes_map_word s.ward.cnt.inOrder

theorem length_inOrder_bytes (c : WardCounters) : (c.inOrder.flatMap (leBytes 4)).length = 64 := rfl

/-- Settles O16: GET_PARAM of the whole object answers the packed counters, and 16 packed words are their bytes in order. -/
theorem wardCountersReadInOrder : Obligations.WardCountersReadInOrder := by
  unfold Obligations.WardCountersReadInOrder
  intro s tag q takes plain ward id index off len room
  change _ = Host.Outcome.next ((s.begin q).finish q .ok [(32, 64), (32, 0), (64, s.time)] (s.ward.cnt.inOrder.flatMap (leBytes 4)))
  have row : objectRow (q.cap.arg 28 2) = some (ro 0x0702 64 State.wardCountersImage) := by rw [id, objectRow_wardCounters]
  have present : s.objectAbsent (q.cap.arg 28 2) = false := by rw [id, objectAbsent_wardCounters ward]
  have count : (if q.cap.arg 36 4 = 0 then 64 - q.cap.arg 32 4 else q.cap.arg 36 4) = 64 := by simp [len]
  rw [exec_getParam_of_objectRow takes plain row present index count (by rw [off]) (by rw [off]; decide) (by rw [len]) (by rw [off]; decide)
    (by omega) (by decide), foundImage_wardCounters, keepRead_wardCounters, begin_wardCountersImage, objectBytes_wardCounters, off, List.drop_zero,
    List.take_of_length_le (length_inOrder_bytes _).le]
  rfl

end Sys2Proof.Machine
end

section
/-! PROOFS. What every operation keeps: the queue, the fuses, the canonical tables and the lengths of the numbered lists. -/

namespace Sys2Proof.Machine

set_option Elab.async false

/-! ### What every operation keeps -/

/-- What the statements about every step read of the engines. -/
def Engines.core (g : Engines) : Sparse (BitVec 64) × Sparse (BitVec 64) × Nat × Nat := (g.bankA, g.bankB, g.eng.length, g.store.length)

/-- What they read of a state: the queue, the fuses, the sparse tables and the lengths of the numbered lists. -/
def State.core (s : State) :=
  (s.pending, s.fuse, s.kw.rings, s.flows, s.fp.windows, s.fp.msix, s.fp.eventCnt, s.fp.nmeCnt, s.ward.slots, s.ward.info, s.ward.keks, s.nvm.keks,
    s.eng.core, s.lc.run.stTx.length, s.dl.outb.lanes.length, s.dl.inb.lanes.length, s.ben.aging.length, s.cal.run.map (·.results.length), s.nvm.log)

/-- From s to t the queue and the fuses stay, and the tables and lists keep their form. -/
structure Kept (s t : State) : Prop where
  pending : t.pending = s.pending
  fuse : t.fuse = s.fuse
  tables : s.tablesOk = true → t.tablesOk = true
  shape : s.shapeOk = true → t.shapeOk = true

theorem Kept.refl (s : State) : Kept s s := ⟨rfl, rfl, id, id⟩

theorem Kept.trans {s t u : State} (h : Kept s t) (k : Kept t u) : Kept s u :=
  ⟨k.pending.trans h.pending, k.fuse.trans h.fuse, k.tables ∘ h.tables, k.shape ∘ h.shape⟩

theorem shapeOk_iff (s : State) : s.shapeOk = true ↔
    s.lc.run.stTx.length = 7 ∧ s.eng.eng.length = 96 ∧ s.eng.store.length = 8 ∧ s.dl.outb.lanes.length = 26 ∧ s.dl.inb.lanes.length = 26 ∧
      s.ben.aging.length = 12 ∧ (∀ n ∈ s.cal.run.map (·.results.length), n = 5) ∧ s.nvm.log.length ≤ 65536 := by
  cases h : s.cal.run <;> simp [State.shapeOk, h, and_assoc]

/-- A change of anything else keeps them. -/
theorem Kept.same {s t u : State} (h : Kept s t) (e : u.core = t.core := by unfold State.core; rfl) : Kept s u := by
  simp only [State.core, Engines.core, Prod.mk.injEq] at e
  obtain ⟨pending, fuse, rings, flows, windows, msix, eventCnt, nmeCnt, slots, info, keks, stored, ⟨bankA, bankB, engines, store⟩, stTx, outb, inb, aging,
    results, log⟩ := e
  refine h.trans ⟨pending, fuse, fun ok => ?_, fun ok => ?_⟩
  · simpa only [State.tablesOk, rings, flows, windows, msix, eventCnt, nmeCnt, slots, info, keks, stored, bankA, bankB] using ok
  · rw [shapeOk_iff] at ok ⊢
    simpa only [engines, store, stTx, outb, inb, aging, results, log] using ok

theorem Kept.ite {s a b : State} {c : Prop} [Decidable c] (ha : Kept s a) (hb : Kept s b) : Kept s (if c then a else b) := by
  split
  · exact ha
  · exact hb

theorem Kept.ite_fst {α : Type} {s : State} {a b : State × α} {c : Prop} [Decidable c] (ha : Kept s a.1) (hb : Kept s b.1) :
    Kept s (if c then a else b).1 := by
  split
  · exact ha
  · exact hb

theorem Kept.foldl {α : Type} {s t : State} {f : State → α → State} {l : List α} (h : Kept s t) (k : ∀ u x, Kept s u → Kept s (f u x)) :
    Kept s (l.foldl f t) := by
  induction l generalizing t with
  | nil => exact h
  | cons x l ih => exact ih (k t x h)

/-! ### The units whose tables or lists an operation changes -/

/-- The tables of the front panel are in canonical form. -/
def FrontPanel.canonical (f : FrontPanel) : Prop :=
  Sparse.wf {} f.windows = true ∧ Sparse.wf {} f.msix = true ∧ Sparse.wf 0 f.eventCnt = true ∧ Sparse.wf 0 f.nmeCnt = true

/-- The tables of Ward are in canonical form. -/
def Ward.canonical (w : Ward) : Prop := Sparse.wf {} w.slots = true ∧ Sparse.wf {} w.info = true ∧ Sparse.wf {} w.keks = true

/-- Both banks of slots are in canonical form. -/
def Engines.canonical (g : Engines) : Prop := Sparse.wf 0 g.bankA = true ∧ Sparse.wf 0 g.bankB = true

theorem tablesOk_iff (s : State) : s.tablesOk = true ↔
    Sparse.wf {} s.kw.rings = true ∧ Sparse.wf {} s.flows = true ∧ s.fp.canonical ∧ s.ward.canonical ∧ s.eng.canonical ∧ Sparse.wf {} s.nvm.keks = true := by
  simp only [State.tablesOk, Bool.and_eq_true, FrontPanel.canonical, Ward.canonical, Engines.canonical]
  tauto

/-- A run of CAL_RUN has a result for each item. -/
def Cal.fiveResults (c : Cal) : Prop := ∀ n ∈ c.run.map (·.results.length), n = 5

theorem shapeOk_iff' (s : State) : s.shapeOk = true ↔
    s.lc.run.stTx.length = 7 ∧ s.eng.eng.length = 96 ∧ s.eng.store.length = 8 ∧ s.dl.outb.lanes.length = 26 ∧ s.dl.inb.lanes.length = 26 ∧
      s.ben.aging.length = 12 ∧ s.cal.fiveResults ∧ s.nvm.log.length ≤ 65536 := shapeOk_iff s

section
variable {s t : State} (h : Kept s t)
include h

theorem Kept.setRings {r : Sparse Ring} (k : Sparse.wf {} t.kw.rings = true → Sparse.wf {} r = true) : Kept s { t with kw := { t.kw with rings := r } } := by
  refine h.trans ⟨rfl, rfl, fun ok => ?_, id⟩
  obtain ⟨rings, rest⟩ := (tablesOk_iff t).mp ok
  exact (tablesOk_iff _).mpr ⟨k rings, rest⟩

theorem Kept.setFlows {l : Sparse Flow} (k : Sparse.wf {} t.flows = true → Sparse.wf {} l = true) : Kept s { t with flows := l } := by
  refine h.trans ⟨rfl, rfl, fun ok => ?_, id⟩
  obtain ⟨rings, flows, rest⟩ := (tablesOk_iff t).mp ok
  exact (tablesOk_iff _).mpr ⟨rings, k flows, rest⟩

theorem Kept.withFp {f : FrontPanel} (k : t.fp.canonical → f.canonical) : Kept s { t with fp := f } := by
  refine h.trans ⟨rfl, rfl, fun ok => ?_, id⟩
  obtain ⟨rings, flows, fp, rest⟩ := (tablesOk_iff t).mp ok
  exact (tablesOk_iff _).mpr ⟨rings, flows, k fp, rest⟩

theorem Kept.withWard {w : Ward} (k : t.ward.canonical → w.canonical) : Kept s { t with ward := w } := by
  refine h.trans ⟨rfl, rfl, fun ok => ?_, id⟩
  obtain ⟨rings, flows, fp, ward, rest⟩ := (tablesOk_iff t).mp ok
  exact (tablesOk_iff _).mpr ⟨rings, flows, fp, k ward, rest⟩

theorem Kept.withNvm {n : Nvm} (k : Sparse.wf {} t.nvm.keks = true → Sparse.wf {} n.keks = true := by exact id)
    (l : t.nvm.log.length ≤ 65536 → n.log.length ≤ 65536 := by exact id) : Kept s { t with nvm := n } := by
  refine h.trans ⟨rfl, rfl, fun ok => ?_, fun ok => ?_⟩
  · obtain ⟨rings, flows, fp, ward, eng, keks⟩ := (tablesOk_iff t).mp ok
    exact (tablesOk_iff _).mpr ⟨rings, flows, fp, ward, eng, k keks⟩
  · obtain ⟨stTx, engines, store, outb, inb, aging, cal, log⟩ := (shapeOk_iff' t).mp ok
    exact (shapeOk_iff' _).mpr ⟨stTx, engines, store, outb, inb, aging, cal, l log⟩

theorem Kept.withEng {g : Engines} (k : t.eng.canonical → g.canonical := by exact id) (e : g.eng.length = t.eng.eng.length := by rfl)
    (b : g.store.length = t.eng.store.length := by rfl) : Kept s { t with eng := g } := by
  refine h.trans ⟨rfl, rfl, fun ok => ?_, fun ok => ?_⟩
  · obtain ⟨rings, flows, fp, ward, eng, keks⟩ := (tablesOk_iff t).mp ok
    exact (tablesOk_iff _).mpr ⟨rings, flows, fp, ward, k eng, keks⟩
  · obtain ⟨stTx, engines, store, rest⟩ := (shapeOk_iff' t).mp ok
    exact (shapeOk_iff' _).mpr ⟨stTx, e.trans engines, b.trans store, rest⟩

theorem Kept.withLc {l : LineCode} (k : t.lc.run.stTx.length = 7 → l.run.stTx.length = 7) : Kept s { t with lc := l } := by
  refine h.trans ⟨rfl, rfl, id, fun ok => ?_⟩
  obtain ⟨stTx, rest⟩ := (shapeOk_iff' t).mp ok
  exact (shapeOk_iff' _).mpr ⟨k stTx, rest⟩

theorem Kept.withDl {d : DieLink} (o : d.outb.lanes.length = t.dl.outb.lanes.length) (i : d.inb.lanes.length = t.dl.inb.lanes.length) :
    Kept s { t with dl := d } := by
  refine h.trans ⟨rfl, rfl, id, fun ok => ?_⟩
  obtain ⟨stTx, engines, store, outb, inb, rest⟩ := (shapeOk_iff' t).mp ok
  exact (shapeOk_iff' _).mpr ⟨stTx, engines, store, o.trans outb, i.trans inb, rest⟩

theorem Kept.withCal {c : Cal} (k : t.cal.fiveResults → c.fiveResults) : Kept s { t with cal := c } := by
  refine h.trans ⟨rfl, rfl, id, fun ok => ?_⟩
  obtain ⟨stTx, engines, store, outb, inb, aging, cal, log⟩ := (shapeOk_iff' t).mp ok
  exact (shapeOk_iff' _).mpr ⟨stTx, engines, store, outb, inb, aging, k cal, log⟩

theorem Kept.withBen {b : Benash} (k : b.aging.length = t.ben.aging.length) : Kept s { t with ben := b } := by
  refine h.trans ⟨rfl, rfl, id, fun ok => ?_⟩
  obtain ⟨stTx, engines, store, outb, inb, aging, rest⟩ := (shapeOk_iff' t).mp ok
  exact (shapeOk_iff' _).mpr ⟨stTx, engines, store, outb, inb, k.trans aging, rest⟩

/-! ### Operations that change an entry of a table or of a list -/

theorem Kept.modRing {i : Nat} {f : Ring → Ring} : Kept s (t.modRing i f) := h.setRings (smod_wf _ _ _)

theorem Kept.modFlow {f : Nat} {g : Flow → Flow} : Kept s (t.modFlow f g) := h.setFlows (smod_wf _ _ _)

theorem Kept.modEngine {e : Nat} {f : Engine → Engine} : Kept s (t.modEngine e f) := h.withEng id (by simp [modAt])

theorem Kept.modBank {b : Nat} {f : StoreBank → StoreBank} : Kept s (t.modBank b f) := h.withEng id rfl (by simp [modAt])

theorem Kept.setStatus {i v : Nat} : Kept s (t.setStatus i v) := h.withLc (by simp [modAt])

theorem Kept.modDir {inb : Bool} {f : DlDir → DlDir} (k : ∀ d, (f d).lanes.length = d.lanes.length := by exact fun _ => rfl) : Kept s (t.modDir inb f) := by
  cases inb
  · exact h.withDl (k _) rfl
  · exact h.withDl rfl (k _)

theorem Kept.signalVector {v : Nat} : Kept s (t.signalVector v) := by
  refine Kept.same (h.withFp (f := (t.signalVector v).fp) fun ⟨windows, msix, counts⟩ => ⟨windows, ?_, counts⟩)
  show Sparse.wf _ (if _ then _ else _) = true
  split
  · exact sset_wf _ _ _ msix
  · exact msix

theorem Kept.signalGeneral : Kept s t.signalGeneral :=
  .ite h.same h.signalVector.same

theorem Kept.raiseEvent {i : Nat} : Kept s (t.raiseEvent i) := by
  have counted : Kept s { t with fp := { t.fp with
      event := t.fp.event ||| BitVec.twoPow 13 i
      eventCnt := smod 0 t.fp.eventCnt i (inc 16) } } :=
    h.withFp fun ⟨windows, msix, events, nmes⟩ => ⟨windows, msix, smod_wf _ _ _ events, nmes⟩
  exact .ite (.ite counted.signalGeneral counted) h

theorem Kept.raiseNme {i : Nat} : Kept s (t.raiseNme i) := by
  have counted : Kept s { t with fp := { t.fp with
      nme := t.fp.nme ||| BitVec.twoPow 7 i
      nmeCnt := smod 0 t.fp.nmeCnt i (inc 16) } } :=
    h.withFp fun ⟨windows, msix, events, nmes⟩ => ⟨windows, msix, events, smod_wf _ _ _ nmes⟩
  have disarmed := counted.withNvm (n := t.nvm.disarm 4)
  exact .ite disarmed.signalVector disarmed

omit h in
/-- Writing an entry keeps the bound of the log (R422). -/
theorem length_writeLog (n : Nvm) (e : LogEntry) : (n.writeLog e).log.length ≤ 65536 := by
  simp only [Nvm.writeLog, List.length_cons, List.length_take]
  omega

theorem Kept.writeLog {e : LogEntry} : Kept s { t with nvm := t.nvm.writeLog e } := h.withNvm id fun _ => length_writeLog _ _

theorem Kept.admitLog {e : LogEntry} : Kept s (t.admitLog e) := by
  have queued : Kept s { t with ben := if t.ben.queue.length < 64 then { t.ben with queue := t.ben.queue ++ [e] }
      else { t.ben with lost := inc 16 t.ben.lost, lostNew := t.ben.lostNew + 1 } } := by
    split
    · exact h.same
    · exact h.same
  refine .ite h (.ite queued (.ite (h.writeLog (e := e)).same ?_))
  dsimp only
  split
  · exact (h.writeLog (e := e)).same
  · exact h.same

theorem Kept.begin {q : Request} : Kept s (t.begin q) := by
  unfold State.begin
  split
  · exact h.same
  · exact (h.withNvm (n := t.nvm.disarm 1)).same

end

/-! ### Banks of slots -/

theorem Engines.active_wf {g : Engines} (h : g.canonical) : Sparse.wf 0 g.active = true := by
  obtain ⟨a, b⟩ := h
  unfold Engines.active
  split
  · exact b
  · exact a

theorem Engines.canonical_putInactive {g : Engines} {t : Sparse (BitVec 64)} (h : g.canonical) (k : Sparse.wf 0 t = true) : (g.putInactive t).canonical := by
  obtain ⟨a, b⟩ := h
  unfold Engines.putInactive
  split
  · exact ⟨k, b⟩
  · exact ⟨a, k⟩

theorem Engines.length_putInactive (g : Engines) (t : Sparse (BitVec 64)) :
    (g.putInactive t).eng.length = g.eng.length ∧ (g.putInactive t).store.length = g.store.length := by
  unfold Engines.putInactive
  split
  · exact ⟨rfl, rfl⟩
  · exact ⟨rfl, rfl⟩

/-- A fold whose step keeps the canonical form keeps it. -/
theorem foldl_wf {α β : Type} [DecidableEq α] {d : α} {f : Sparse α → β → Sparse α} (k : ∀ t x, Sparse.wf d t = true → Sparse.wf d (f t x) = true) (l : List β)
    {t : Sparse α} (h : Sparse.wf d t = true) : Sparse.wf d (l.foldl f t) = true := by
  induction l generalizing t with
  | nil => exact h
  | cons x l ih => exact ih (k t x h)

/-- Entries put into a bank, each at the key of its engine and slot, keep its form. -/
theorem putEntries_wf (l : List (Nat × List (BitVec 64))) {t : Sparse (BitVec 64)} (h : Sparse.wf 0 t = true) :
    Sparse.wf 0 (l.foldl (fun t x => x.2.zipIdx.foldl (fun t y => sset 0 t (16 * x.1 + y.2) y.1) t) t) = true :=
  foldl_wf (fun _ _ k => foldl_wf (fun _ _ k => sset_wf _ _ _ k) _ k) _ h

theorem State.profileBank_wf (s : State) (p : Profile) : Sparse.wf 0 (s.profileBank p) = true := by
  have base : ∀ l, Sparse.wf 0 (bankOf l) = true := fun l => putEntries_wf l rfl
  unfold State.profileBank
  extract_lets used rest table signed b full
  have hb : Sparse.wf 0 b = true := by
    unfold b table signed table
    split
    · exact base _
    · exact base _
  split
  · exact putEntries_wf _ hb
  · exact hb

theorem moveSlots_wf {t : Sparse (BitVec 64)} (src dst : Nat) (h : Sparse.wf 0 t = true) : Sparse.wf 0 (moveSlots t src dst) = true :=
  foldl_wf (fun _ _ k => sset_wf _ _ _ (sset_wf _ _ _ k)) _ h

/-- A change of the values alone, to none that reads as an unlisted entry does, keeps the form. -/
theorem Sparse.wf_map_value {α β : Type} [DecidableEq α] [DecidableEq β] {a : α} {b : β} {f : α → β} (k : ∀ x, f x ≠ b) {t : Sparse α}
    (h : Sparse.wf a t = true) : Sparse.wf b (t.map (fun e => (e.1, f e.2))) = true := by
  induction t with
  | nil => rfl
  | cons e t ih =>
    obtain ⟨n, v⟩ := e
    obtain ⟨_, above, wf⟩ := (Sparse.wf_cons a n v t).mp h
    refine (Sparse.wf_cons b n (f v) _).mpr ⟨k v, ?_, ih wf⟩
    intro e he
    obtain ⟨x, hx, rfl⟩ := List.mem_map.mp he
    exact above x hx

theorem DlDir.length_keep (d : DlDir) : d.keep.lanes.length = 26 := by simp [DlDir.keep, resetLanes]

section
variable {s t : State} (h : Kept s t)
include h

/-- A change of the engines that puts a canonical bank in the place of the inactive one. -/
theorem Kept.putInactive {b : Sparse (BitVec 64)} (k : t.eng.canonical → Sparse.wf 0 b = true) : Kept s (t.modEng (·.putInactive b)) := by
  obtain ⟨engines, store⟩ := Engines.length_putInactive t.eng b
  exact h.withEng (fun ok => Engines.canonical_putInactive ok (k ok)) engines store

theorem Kept.openStaging {host : Bool} : Kept s (t.openStaging host) := (h.putInactive Engines.active_wf).same
end

end Sys2Proof.Machine
end

section
/-! PROOFS. Each operation of the state keeps them; one lemma per operation, in the order of the model. -/

namespace Sys2Proof.Machine

set_option Elab.async false

/-! ### Operations of Ops.lean -/

theorem Kept.emit {s t : State} {o : Out} (h : Kept s t) : Kept s (t.emit o) :=
  h.same

theorem Kept.drawn {s t : State} (h : Kept s t) : Kept s t.drawn :=
  h.same

theorem Kept.logEntry {s t : State} {unitId sev kind detail obj a0 a1 a2 a3 : Nat} (h :
    Kept s t) : Kept s (t.logEntry unitId sev kind detail obj a0 a1 a2 a3) :=
  .ite h h.admitLog

theorem Kept.windowFault {s t : State} {source a kind : Nat} (h : Kept s t) : Kept s (t.windowFault source a kind) :=
  h.same.raiseEvent

theorem Kept.writeLine {s t : State} {a : Nat} {line : List Byte} (h : Kept s t) : Kept s (t.writeLine a line) := by
  unfold State.writeLine
  exact h.emit

theorem Kept.writeLines {s : State} {n : Nat} {t : State} {a : Nat} {bs : List Byte} (h : Kept s t) : Kept s (t.writeLines a n bs) := by
  induction n generalizing t a bs with
  | zero => exact h
  | succ n ih => exact ih h.writeLine

theorem Kept.doneLost {s t : State} {n : Nat} (h : Kept s t) : Kept s (t.doneLost n) :=
  h.same

theorem Kept.complete {s t : State} {i release : Nat} {c : Completion} (h : Kept s t) : Kept s (t.complete i release c) :=
  .ite h.modRing h.modRing.doneLost

theorem Kept.modStats {s t : State} {f : Nat} {g : FlowStats → FlowStats} (h : Kept s t) : Kept s (t.modStats f g) :=
  h.modFlow

theorem Kept.countCapsule {s t : State} (h : Kept s t) : Kept s t.countCapsule := by
  unfold State.countCapsule
  exact h.same

theorem Kept.finish {s t : State} {q : Request} {st : Status} {results : List (Nat × Nat)} {payload : List Byte} (h :
    Kept s t) : Kept s (t.finish q st results payload) := by
  unfold State.finish
  extract_lets pl c _ _
  refine .ite h.same ?_
  split
  · exact h.complete
  · exact h.doneLost
  · exact h.same.logEntry

theorem Kept.deferRequest {s t : State} {q : Request} {test remainMs : Nat} (h : Kept s t) : Kept s (t.deferRequest q test remainMs) := by
  unfold State.deferRequest
  extract_lets c s1 _
  have hs1 : Kept s s1 := by
    unfold s1
    split
    · exact h.complete
    · exact h.doneLost
  exact hs1.same

theorem Kept.unrun {s t : State} {tag : BitVec 16} (h : Kept s t) : Kept s (t.unrun tag) :=
  h.same

theorem Kept.startRun {s t : State} {q : Request} (h : Kept s t) : Kept s (t.startRun q) :=
  h.same

theorem Kept.endRun {s t : State} {op : Nat} {p : Capsule → Bool} {st : Status} {results : List (Nat × Nat)} (h :
    Kept s t) : Kept s (t.endRun op p st results) := by
  unfold State.endRun
  split
  · exact h.unrun.finish
  · exact h

theorem Kept.modKwCnt {s t : State} {f : KwCounters → KwCounters} (h : Kept s t) : Kept s (t.modKwCnt f) :=
  h.same

theorem Kept.frameSeen {s t : State} (h : Kept s t) : Kept s t.frameSeen :=
  h.same

theorem Kept.modPwr {s t : State} {f : Power → Power} (h : Kept s t) : Kept s (t.modPwr f) :=
  h.same

/-! ### Operations of EngOps.lean -/

theorem Kept.gateEngines {s t : State} (h : Kept s t) : Kept s t.gateEngines := by
  have regated := h.withEng (g := { t.eng with eng := t.eng.eng.zipIdx.map (fun x =>
    if x.1.gateRefused && t.hasSlots x.2 then { x.1 with gateRefused := false } else x.1) }) id (by simp)
  exact regated.same

theorem Kept.openEngines {s t : State} (h : Kept s t) : Kept s t.openEngines :=
  h.same

theorem Kept.loadFirst {s t : State} (h : Kept s t) : Kept s t.loadFirst := by
  unfold State.loadFirst
  refine .ite h (Kept.gateEngines (h.withEng fun ⟨a, b⟩ => ?_))
  dsimp only [Engines.canonical]
  split
  · exact ⟨a, t.profileBank_wf .noLink⟩
  · exact ⟨t.profileBank_wf .noLink, b⟩

theorem Kept.finishRepair {s t : State} (h : Kept s t) : Kept s t.finishRepair := by
  unfold State.finishRepair
  split
  · refine .ite h ?_
    extract_lets s1 s2
    have hs1 : Kept s s1 := h.modEngine.modEngine
    have hs2 : Kept s s2 := hs1.same
    exact hs2.logEntry.raiseEvent
  · exact h

theorem Kept.retireIdle {s t : State} {e cause : Nat} (h : Kept s t) : Kept s (t.retireIdle e cause) :=
  h.modEngine.logEntry.raiseEvent

theorem Kept.retireFailing {s t : State} (h : Kept s t) : Kept s t.retireFailing :=
  .ite h (h.foldl (fun _ _ k => k.retireIdle))

theorem Kept.commitProfile {s t : State} {p : Profile} (h : Kept s t) : Kept s (t.commitProfile p) :=
  .ite h.same ((h.openStaging (host := false)).putInactive fun _ => State.profileBank_wf _ p).same

theorem Kept.stageMove {s t : State} {src dst : Nat} (h : Kept s t) : Kept s (t.stageMove src dst).1 := by
  have moved := (h.openStaging (host := false)).putInactive fun ok => moveSlots_wf src dst (Engines.active_wf ok)
  unfold State.stageMove
  dsimp only
  split
  · exact moved.same
  · exact moved.same

theorem Kept.stageRepair {s t : State} {r : Repair} (h : Kept s t) : Kept s (t.stageRepair r) := by
  have moved : Kept s (t.stageMove r.failed r.spare).1 := h.stageMove
  exact .ite moved.same (Kept.same moved.modEngine).logEntry

theorem Kept.openWaiting {s t : State} (h : Kept s t) : Kept s t.openWaiting := by
  unfold State.openWaiting
  refine .ite h ?_
  split
  · exact h.openStaging.unrun.finish
  · exact h

theorem Kept.afterSwitch {s t : State} (h : Kept s t) : Kept s t.afterSwitch := by
  unfold State.afterSwitch
  split
  · exact h.commitProfile
  · exact h.same.stageRepair
  · exact h.same.openWaiting
  · exact h.openWaiting

theorem Kept.bankSwitch {s t : State} (h : Kept s t) : Kept s t.bankSwitch := by
  unfold State.bankSwitch
  split
  · rename_i g _
    refine .ite h ?_
    extract_lets s1 s2
    have h1 : Kept s s1 := h.withEng id (by dsimp only; split <;> simp)
    have h2 : Kept s s2 := by
      unfold s2
      split
      · exact h1.endRun
      · exact h1
    exact h2.finishRepair.retireFailing.gateEngines.afterSwitch
  · exact h

theorem Kept.supersede {s t : State} (h : Kept s t) : Kept s t.supersede :=
  h.same

theorem Kept.abandonRepair {s t : State} (h : Kept s t) : Kept s t.abandonRepair := by
  unfold State.abandonRepair
  split
  · extract_lets s1
    have hs1 : Kept s s1 := h.modEngine.modEngine
    exact hs1.same
  · exact h

theorem Kept.repairCause {s t : State} {e cause : Nat} {auto : Bool} (h : Kept s t) : Kept s (t.repairCause e cause auto) :=
  .ite h (.ite h.modEngine.logEntry.raiseEvent (.ite h.retireIdle h.same))

theorem Kept.agingRepair {s t : State} {e : Nat} (h : Kept s t) : Kept s (t.agingRepair e) :=
  .ite h.repairCause h

theorem Kept.modRx {s t : State} {p : Pair} {f : RxPair → RxPair} (h : Kept s t) : Kept s (t.modRx p f) :=
  h.same

theorem Kept.lateBlock {s t : State} {task : Nat} {p : Pair} {a b : Nat} (h : Kept s t) : Kept s (t.lateBlock task p a b) := by
  unfold State.lateBlock
  extract_lets live n s1 _ _ _
  have hs1 : Kept s s1 := h.modRx
  split
  · exact h.modRx
  · exact h.modRx
  · exact h.modRx
  · exact hs1.foldl (fun _ _ k => k.modRx)
  · exact h.modRx
  · exact h.modRx
  · exact h.modRx
  · exact h.same
  · exact h.same
  · exact h.modRx
  · exact h.modRx
  · exact h.modRx
  · exact h.modRx
  · exact h.modRx
  · exact h

theorem Kept.lateSlot {s t : State} {e i doneSegs : Nat} (h : Kept s t) : Kept s (t.lateSlot e i doneSegs) := by
  unfold State.lateSlot
  exact .ite h h.lateBlock

theorem Kept.loadNew {s t : State} {es : List Nat} (h : Kept s t) : Kept s (t.loadNew es) := by
  unfold State.loadNew
  extract_lets s1 n _ _ s2
  have h1 : Kept s s1 := h.foldl fun _ _ k => k.modEngine
  have loaded := h1.withEng (g := { s1.eng with eng := s1.eng.eng.map (fun x => { x with newProg := false }) }) id (List.length_map _)
  have h2 : Kept s s2 := loaded.same
  exact .ite h1.same h2.logEntry.raiseEvent

theorem Kept.finishSwap {s t : State} (h : Kept s t) : Kept s t.finishSwap :=
  .ite h h.loadNew

/-! ### Operations of QuietOps.lean -/

theorem Kept.modQl {s t : State} {f : QlRun → QlRun} (h : Kept s t) : Kept s (t.modQl f) :=
  h.same

theorem Kept.modQlCnt {s t : State} {f : QlCounters → QlCounters} (h : Kept s t) : Kept s (t.modQlCnt f) :=
  h.same

theorem Kept.withdrawQuiet {s t : State} (h : Kept s t) : Kept s t.withdrawQuiet := by
  have silent := (h.setStatus (i := 1) (v := 0)).modQl (f := fun q => { q with txState := 0, idleSince := none })
  exact .ite silent.same h

theorem Kept.wakeCause {s t : State} {n : Nat} (h : Kept s t) : Kept s (t.wakeCause n) :=
  .ite h.withdrawQuiet (.ite h.same.modQl h)

theorem Kept.restoreReception {s t : State} (h : Kept s t) : Kept s t.restoreReception :=
  h.same

theorem Kept.askRetrain {s t : State} (h : Kept s t) : Kept s t.askRetrain :=
  .ite h h.same.setStatus.wakeCause

/-! ### Operations of CalOps.lean -/

theorem Kept.modCal {s t : State} {p : Pair} {f : CalPair → CalPair} (h : Kept s t) : Kept s (t.modCal p f) :=
  h.same

theorem Kept.lanePhases {s t : State} {frames : Nat} (h : Kept s t) : Kept s (t.lanePhases frames) :=
  h.withDl (List.length_map _) (List.length_map _)

theorem Kept.loadTrim {s t : State} (h : Kept s t) : Kept s t.loadTrim :=
  .ite h h.same

theorem Kept.revert {s t : State} (h : Kept s t) : Kept s t.revert := by
  have home := h.withDl (d := { t.dl with
    outb := { t.dl.outb with lanes := t.dl.outb.lanes.map (fun l => { l with phaseHeld := some 0 }) }
    inb := { t.dl.inb with lanes := t.dl.inb.lanes.map (fun l => { l with phaseHeld := some 0 }) } }) (List.length_map _) (List.length_map _)
  exact home.same.lanePhases

theorem Kept.restartEstimates {s t : State} (h : Kept s t) : Kept s t.restartEstimates :=
  h.same

/-! ### Operations of Operands.lean -/

theorem Kept.runRequest {s t : State} {tag : BitVec 16} {op : Nat} {body : Request → State → State} (h : Kept s t)
    (k : ∀ q u, Kept s u → Kept s (body q u)) : Kept s (t.runRequest tag op body) := by
  unfold State.runRequest
  split
  · exact h
  · exact k _ _ h.begin

theorem Kept.guarded {s t : State} {q : Request} {checks : List (Bool × Status)} {results : List (Nat × Nat)} {go : State → State} (h : Kept s t)
    (k : ∀ u, Kept s u → Kept s (go u)) : Kept s (t.guarded q checks results go) := by
  unfold State.guarded
  split
  · exact h.finish
  · exact k _ h

/-! ### Operations of Shaping.lean -/

theorem Kept.predictShape {s t : State} (h : Kept s t) : Kept s t.predictShape := by
  unfold State.predictShape
  exact .ite h.same.logEntry h.same

theorem Kept.shapeTraining {s t : State} {m : Rung} (h : Kept s t) : Kept s (t.shapeTraining m) := by
  unfold State.shapeTraining
  exact .ite h.same.predictShape h.same

theorem Kept.storeShape {s t : State} {f : Shape → Shape} (h : Kept s t) : Kept s (t.storeShape f) := by
  unfold State.storeShape
  exact .ite h.same h.same.predictShape

/-! ### Operations of LinkOps.lean -/

theorem Kept.modLink {s t : State} {f : Link → Link} (h : Kept s t) : Kept s (t.modLink f) :=
  h.same

theorem Kept.modLinkCnt {s t : State} {f : LinkCounters → LinkCounters} (h : Kept s t) : Kept s (t.modLinkCnt f) :=
  h.same

theorem Kept.modLc {s t : State} {f : LcCounters → LcCounters} (h : Kept s t) : Kept s (t.modLc f) :=
  h.same

theorem Kept.ladderReset {s t : State} (h : Kept s t) : Kept s t.ladderReset :=
  h.modLink

theorem Kept.askLadderReset {s t : State} (h : Kept s t) : Kept s t.askLadderReset :=
  .ite h.modLink h.ladderReset

theorem Kept.ladderStep {s t : State} {rung : Rung} (h : Kept s t) : Kept s (t.ladderStep rung) := by
  unfold State.ladderStep
  extract_lets n below s1
  have h1 : Kept s s1 := by
    unfold s1
    generalize below = b
    cases b with
    | none => exact h.modLink
    | some r => exact .ite h.modLink h.modLink
  exact .ite h.modLink h1.logEntry.raiseEvent

theorem Kept.dropTx {s t : State} (h : Kept s t) : Kept s t.dropTx := by
  unfold State.dropTx
  extract_lets counts more
  have h1 : Kept s counts := h.foldl fun _ _ k => k.modStats
  have h2 : Kept s more := h1.foldl fun _ _ k => k.modStats
  exact (h2.setRings fun _ => smap_wf _ _ _).same

theorem Kept.heldRevert {s t : State} (h : Kept s t) : Kept s t.heldRevert :=
  .ite h.same.revert h

theorem Kept.finishCal {s t : State} (h : Kept s t) : Kept s t.finishCal := by
  unfold State.finishCal
  split
  · exact h
  · exact (h.withCal fun _ _ => by simp).endRun.heldRevert

theorem List.length_foldl_setAt (l : List (Nat × Nat)) (code : Nat) (m : List Nat) : (l.foldl (fun l x => setAt l x.1 code) m).length = m.length := by
  induction l generalizing m with
  | nil => rfl
  | cons x l ih => exact (ih _).trans List.length_set

theorem Kept.endCalItems {s t : State} {code : Nat} {which : Nat → Bool} (h : Kept s t) : Kept s (t.endCalItems code which) := by
  unfold State.endCalItems
  split
  · exact h
  · rename_i r hr
    extract_lets gone rest res _ s1
    have length : res.length = r.results.length := List.length_foldl_setAt _ _ _
    have h1 : Kept s s1 := h.withCal fun ok => by simpa [Cal.fiveResults, hr, length] using ok
    exact .ite h1.finishCal h1

theorem Kept.calLinkChange {s t : State} (h : Kept s t) : Kept s t.calLinkChange := by
  unfold State.calLinkChange
  extract_lets left _ s1
  have h1 : Kept s s1 := h.same
  exact h1.endCalItems

theorem Kept.sendOam {s t : State} {typ : Nat} {body : List Byte} (h : Kept s t) : Kept s (t.sendOam typ body) :=
  .ite h h.same

theorem Kept.sendQuietReq {s t : State} {p : Pair} {action ms : Nat} (h : Kept s t) : Kept s (t.sendQuietReq p action ms) :=
  h.sendOam

theorem Kept.sendQuietAck {s t : State} {p : Pair} {action result : Nat} (h : Kept s t) : Kept s (t.sendQuietAck p action result) := by
  unfold State.sendQuietAck
  exact .ite h.sendOam (h.sendOam (typ := 3) (body := packBytes 3 [(8, ↑p), (8, action), (8, result)])).same

theorem Kept.finishDiag {s t : State} {st : Status} (h : Kept s t) : Kept s (t.finishDiag st) := by
  unfold State.finishDiag
  split
  · exact h
  · extract_lets t _ s0 s1 s2
    have ht : Kept s t := .ite h.sendQuietReq h
    have hs0 : Kept s s0 := ht.same
    have hs1 : Kept s s1 := .ite hs0 hs0.writeLines
    have hs2 : Kept s s2 := .ite hs1.modLink hs1
    exact hs2.endRun

theorem Kept.endDiagTests {s t : State} {code : Nat} {st : Status} (h : Kept s t) : Kept s (t.endDiagTests code st) := by
  unfold State.endDiagTests
  split
  · exact h
  · exact h.same.finishDiag

theorem Kept.interruptDiagRun {s t : State} (h : Kept s t) : Kept s t.interruptDiagRun :=
  h.endDiagTests

theorem Kept.interruptDiag {s t : State} {_q : Request} (h : Kept s t) : Kept s (t.interruptDiag _q) :=
  h.interruptDiagRun

theorem Kept.resumeCalibration {s t : State} (h : Kept s t) : Kept s t.resumeCalibration :=
  h.endCalItems

theorem Kept.endKnuckle {s t : State} {st : Status} (h : Kept s t) : Kept s (t.endKnuckle st) := by
  unfold State.endKnuckle
  split
  · exact h.same.endRun
  · exact h

theorem Kept.modKn {s t : State} {f : KnRun → KnRun} (h : Kept s t) : Kept s (t.modKn f) :=
  h.same

theorem Kept.formsChanged {s t : State} (h : Kept s t) : Kept s t.formsChanged := by
  unfold State.formsChanged
  exact .ite h.commitProfile (.ite h.same.endKnuckle h)

theorem Kept.knuckleSettled {s t : State} (h : Kept s t) : Kept s t.knuckleSettled := by
  unfold State.knuckleSettled
  exact .ite h.same.endKnuckle.gateEngines h

theorem Kept.dropItem {s t : State} (h : Kept s t) : Kept s t.dropItem := by
  unfold State.dropItem
  split
  · exact h
  · extract_lets s0 _ s1 _
    have hs0 : Kept s s0 := .ite h h.modLc
    have hs1 : Kept s s1 := hs0.same
    split
    · exact .ite hs1.same hs1
    · exact hs1

theorem Kept.lineDown {s t : State} {retrain : Status} (h : Kept s t) : Kept s (t.lineDown retrain) := by
  unfold State.lineDown
  extract_lets m s1 s2 lc rx ql kn pwr link diag s3 onShed
  have h1 : Kept s s1 := h.dropItem.calLinkChange.endKnuckle.endRun.dropTx
  have h2 : Kept s s2 := h1.abandonRepair.supersede.finishSwap.commitProfile
  have emptied := h2.withLc (l := { s2.lc with run := {}, item := none }) fun _ => rfl
  have h3 : Kept s s3 := emptied.same
  exact (Kept.ite h3.interruptDiagRun h3).openWaiting

theorem Kept.recordFailure {s t : State} {cause : Nat} {counted quiet : Bool} (h : Kept s t) : Kept s (t.recordFailure cause counted quiet) := by
  unfold State.recordFailure
  exact .ite h.same.raiseEvent h.same.raiseEvent.logEntry

theorem Kept.enter {s t : State} {n : Nat} (h : Kept s t) : Kept s (t.enter n) :=
  h.modLink

theorem Kept.linkFail {s t : State} {cause : Nat} {retrain : Status} {silent : Bool} (h : Kept s t) : Kept s (t.linkFail cause retrain silent) := by
  unfold State.linkFail
  extract_lets counted rung quiet s1 s2 s3
  have hs1 : Kept s s1 := h.recordFailure
  have hs2 : Kept s s2 := .ite hs1.ladderStep hs1
  have hs3 : Kept s s3 := .ite hs2.modLinkCnt hs2
  exact .ite h (.ite hs2 hs3.lineDown.enter)

theorem Kept.linkDown {s t : State} {cause : Nat} (h : Kept s t) : Kept s (t.linkDown cause) :=
  .ite h.linkFail h

theorem Kept.adminDown {s t : State} (h : Kept s t) : Kept s t.adminDown := by
  unfold State.adminDown
  refine .ite h ?_
  extract_lets s1 s2 s3
  have hs1 : Kept s s1 := h.interruptDiagRun
  have hs2 : Kept s s2 := .ite hs1.modLinkCnt hs1
  have hs3 : Kept s s3 := hs2.recordFailure
  exact (Kept.ite hs3.lineDown hs3).enter

theorem Kept.dielinkFall {s t : State} (h : Kept s t) : Kept s t.dielinkFall :=
  .ite h.same.linkFail h

theorem Kept.leaveDormant {s t : State} (h : Kept s t) : Kept s t.leaveDormant :=
  .ite h.same h

theorem Kept.dueReset {s t : State} (h : Kept s t) : Kept s t.dueReset :=
  .ite h.ladderReset.modLink h

theorem Kept.startNegotiation {s t : State} (h : Kept s t) : Kept s t.startNegotiation :=
  h.enter.modLink

theorem Kept.beginNegotiation {s t : State} (h : Kept s t) : Kept s t.beginNegotiation :=
  .ite h (h.dueReset.modLink.modLink.drawn.foldl (fun _ _ k => k.emit)).endRun

theorem Kept.enterData {s t : State} (h : Kept s t) : Kept s t.enterData := by
  unfold State.enterData
  extract_lets r s1 _ s2
  have hs1 : Kept s s1 := h.enter.modLink
  have hs2 : Kept s s2 := hs1.same
  exact hs2.raiseEvent

theorem Kept.restartCycle {s t : State} (h : Kept s t) : Kept s t.restartCycle :=
  h.same

theorem Kept.startTraining {s t : State} {m : Rung} {n : Nat} (h : Kept s t) : Kept s (t.startTraining m n) := by
  unfold State.startTraining
  extract_lets s1 s2
  have h1 : Kept s s1 := h.dropItem.calLinkChange.abandonRepair.supersede.finishSwap.commitProfile
  have h2 : Kept s s2 := h1.restartCycle.enter.modLink
  have emptied := h2.withLc (l := { s2.lc with run := {}, item := none, pre := Quad.all {} }) fun _ => rfl
  exact Kept.shapeTraining emptied.same

theorem Kept.requestRetrain {s t : State} (h : Kept s t) : Kept s t.requestRetrain :=
  .ite h.askRetrain (.ite h.logEntry.linkFail h)

theorem Kept.stopBackground {s t : State} {test target : Nat} (h : Kept s t) : Kept s (t.stopBackground test target) :=
  .ite h.same h

theorem Kept.retireElement {s t : State} {test target : Nat} (h : Kept s t) : Kept s (t.retireElement test target) :=
  .ite h.repairCause h

theorem Kept.laneToSpare {s t : State} {k : Nat} (h : Kept s t) : Kept s (t.laneToSpare k) := h.modDir fun _ => List.length_modify _ _ _

theorem Kept.sliceUnfit {s t : State} {p e : Nat} (h : Kept s t) : Kept s (t.sliceUnfit p e) :=
  h.same

theorem Kept.noteReduced {s t : State} {inb was : Bool} (h : Kept s t) : Kept s (t.noteReduced inb was) :=
  h.logEntry.raiseEvent

theorem Kept.reduceMap {s t : State} {inb : Bool} {bad : Nat} (h : Kept s t) : Kept s (t.reduceMap inb bad) := by
  unfold State.reduceMap
  extract_lets d healthy s1 s2
  have h1 : Kept s s1 := h.modDir fun _ => by simp [mapLanes]
  have h2 : Kept s s2 := h1.noteReduced
  exact .ite (h.modDir fun _ => List.length_modify _ _ _).dielinkFall (.ite h2.linkDown h2)

theorem Kept.substitute {s t : State} {inb : Bool} {lane cause : Nat} (h : Kept s t) : Kept s (t.substitute inb lane cause) := by
  unfold State.substitute
  extract_lets d
  refine .ite h ?_
  refine .ite h.modDir ?_
  split
  · exact h.modDir
  · exact h.reduceMap

theorem Kept.nextSubst {s : State} {inb : Bool} {n : Nat} {t : State} (h : Kept s t) : Kept s (t.nextSubst inb n) := by
  induction n generalizing t with
  | zero => exact h
  | succ n ih =>
    refine .ite h ?_
    split
    · exact ih h.modDir.substitute
    · exact h

theorem Kept.laneCause {s t : State} {inb : Bool} {lane cause : Nat} (h : Kept s t) : Kept s (t.laneCause inb lane cause) :=
  .ite h.substitute.nextSubst h

theorem Kept.startSearch {s t : State} (h : Kept s t) : Kept s t.startSearch := by
  unfold State.startSearch
  exact h.same.dielinkFall

theorem length_foldl_modAt {α : Type} (f : α → α) (ks : List Nat) (l : List α) : (ks.foldl (fun l k => modAt l k f) l).length = l.length := by
  induction ks generalizing l with
  | nil => rfl
  | cons k ks ih => exact (ih _).trans (List.length_modify _ _ _)

theorem Kept.retireFailed {s t : State} {e : StartUpEnd} (h : Kept s t) : Kept s (t.retireFailed e) := by
  unfold State.retireFailed
  extract_lets s1 lane s2 onPair s3
  have h1 : Kept s s1 := h.foldl fun _ _ k => k.modEngine
  have h2 : Kept s s2 := (h1.modDir fun _ => length_foldl_modAt _ _ _).modDir fun _ => length_foldl_modAt _ _ _
  have h3 : Kept s s3 := h2.foldl fun _ _ k => k.same
  exact h3.foldl fun _ _ k => k.same

/-! ### Operations of WardPath.lean -/

theorem Kept.putSlot {s t : State} {a k : Nat} {x : SaSlot} (h : Kept s t) : Kept s (t.putSlot a k x) :=
  h.withWard fun ⟨slots, rest⟩ => ⟨sset_wf _ _ _ slots, rest⟩

/-- A change of what Ward keeps of one association. -/
theorem Kept.modInfo {s t : State} {a : Nat} {f : SaInfo → SaInfo} (h : Kept s t) : Kept s (t.modWard (fun w => { w with info := smod {} w.info a f })) :=
  h.withWard fun ⟨slots, info, keks⟩ => ⟨slots, smod_wf _ _ _ info, keks⟩

theorem Kept.advance {s t : State} {a : Nat} (h : Kept s t) : Kept s (t.advance a).1 := by
  unfold State.advance
  split
  · exact h
  · rename_i k _
    extract_lets s1 _ s2 s3
    have h1 : Kept s s1 := by
      unfold s1
      split
      · exact h.putSlot
      · exact h
    have h2 : Kept s s2 := h1.putSlot
    have counted := h2.modInfo (a := a) (f := fun i => { i with advances := inc 32 i.advances, rotateDue := false })
    have h3 : Kept s s3 := counted.same
    exact h3.raiseEvent

theorem Kept.rotatePn {s t : State} {a rotate pn : Nat} (h : Kept s t) : Kept s (t.rotatePn a rotate pn) :=
  .ite (.ite h.advance h.modInfo.raiseEvent) h

theorem Kept.installSlot {s t : State} {a an : Nat} {sak salt ssci : List Byte} (h : Kept s t) : Kept s (t.installSlot a an sak salt ssci) := by
  unfold State.installSlot
  exact h.putSlot

theorem Kept.eraseSlots {s t : State} {a : Nat} (h : Kept s t) : Kept s (t.eraseSlots a) := by
  have slots := (h.putSlot (a := a) (k := 0) (x := {})).putSlot (a := a) (k := 1) (x := {})
  exact slots.modInfo (a := a) (f := fun i => { i with tenant := none, rotateDue := false })

theorem Kept.endSessions {s t : State} (h : Kept s t) : Kept s t.endSessions := by
  unfold State.endSessions
  exact .ite h.same.raiseEvent h.same

theorem Kept.protectWith {s t : State} {a : Nat} {txSci : List Byte} {sc conf : Bool} {rotate : Nat} {bs : List Byte} (h : Kept s t) :
    Kept s (t.protectWith a txSci sc conf rotate bs).1 := by
  unfold State.protectWith
  dsimp only
  split
  · exact h.same
  · split
    · exact h.same
    · exact h.putSlot.same.rotatePn

theorem Kept.wardTransmit {s t : State} {f : Nat} {assoc bs : List Byte} (h : Kept s t) : Kept s (t.wardTransmit f assoc bs).1 := by
  unfold State.wardTransmit
  split
  · exact h
  · split
    · exact h.protectWith
    · split
      · exact h.protectWith
      · exact h

theorem Kept.receiveWith {s t : State} {a validate : Nat} {conf : Bool} {replay : Nat} {bs : List Byte} (h : Kept s t) :
    Kept s (t.receiveWith a validate conf replay bs).1 := by
  unfold State.receiveWith
  extract_lets cnt tci hdr an hit
  have counted : ∀ f, Kept s (cnt f) := fun f => h.same
  split
  · exact counted fun c => { c with rxIcvFail := inc 32 c.rxIcvFail }
  · split
    · exact counted fun c => { c with rxNoSa := inc 32 c.rxNoSa }
    · rename_i k _
      extract_lets x lowest pn
      split
      · exact counted fun c => { c with rxReplay := inc 32 c.rxReplay }
      · split
        · exact counted fun c => { c with rxIcvFail := inc 32 c.rxIcvFail }
        · have seen := (h.putSlot (a := a) (k := k) (x := { x with highPn := max x.highPn pn })).modInfo (a := a) (f := fun i => { i with rxPn := max x.highPn pn })
          exact seen.same

theorem Kept.wardPass {s t : State} {x : RxFrame} (h : Kept s t) : Kept s (t.wardPass x) :=
  h.same

theorem Kept.wardDiscard {s t : State} {x : RxFrame} {text : Option (List Byte)} (h : Kept s t) : Kept s (t.wardDiscard x text) :=
  .ite h.wardPass h.same

/-! ### Operations of BenashOps.lean -/

theorem Kept.defer {s t : State} {q : Request} {test : Nat} (h : Kept s t) : Kept s (t.defer q test) :=
  .ite h.same h.deferRequest

theorem Kept.startTest {s t : State} {test target : Nat} (h : Kept s t) : Kept s (t.startTest test target) :=
  h.same.drawn

theorem Kept.recordTest {s t : State} {test target result ended done since : Nat} {sig : BitVec 64} (h :
    Kept s t) : Kept s (t.recordTest test target result ended done since sig) := by
  unfold State.recordTest
  exact .ite h.same h.same.raiseEvent

theorem Kept.releaseHeld {s t : State} (h : Kept s t) : Kept s t.releaseHeld :=
  h.same

theorem Kept.finishShutdown {s t : State} (h : Kept s t) : Kept s t.finishShutdown :=
  .ite h h.same.endRun

theorem Kept.abortTest {s t : State} {ended : Nat} (h : Kept s t) : Kept s (t.abortTest ended) := by
  unfold State.abortTest
  split
  · exact h
  · extract_lets done fail s0 s1 s2 s3
    have hs0 : Kept s s0 := h.recordTest
    have hs1 : Kept s s1 := .ite hs0.retireElement hs0
    have hs2 : Kept s s2 := hs1.endRun
    have hs3 : Kept s s3 := hs2.finishShutdown
    exact (Kept.ite hs3.startSearch hs3).releaseHeld

theorem Kept.startupExcursion {s t : State} (h : Kept s t) : Kept s t.startupExcursion :=
  .ite h (.ite h.same.logEntry h.same)

theorem Kept.excursion {s t : State} (h : Kept s t) : Kept s t.excursion :=
  h.startupExcursion.abortTest

theorem Kept.failTrial {s t : State} (h : Kept s t) : Kept s t.failTrial :=
  .ite h h.same.logEntry.raiseEvent

theorem Kept.startRestart {s t : State} (h : Kept s t) : Kept s t.startRestart := by
  unfold State.startRestart
  exact (h.abortTest (ended := 4)).endSessions.same

theorem Kept.boot {s t : State} (h : Kept s t) : Kept s t.boot := by
  unfold State.boot
  split
  · exact h.same
  · extract_lets slot trial change back
    refine Kept.same (h.withEng (g := if change then { t.eng with eng := t.eng.eng.map (fun x => { x with newProg := back && !x.newProg }) } else t.eng) ?_ ?_ ?_)
    all_goals split
    all_goals simp [Engines.canonical]

theorem Kept.flushQueue {s t : State} (h : Kept s t) : Kept s t.flushQueue := by
  unfold State.flushQueue
  extract_lets _ s1
  have h1 : Kept s s1 := Kept.foldl h.same fun _ _ k => k.admitLog
  exact .ite h1 (Kept.logEntry h1.same).raiseEvent

/-! ### Operations of Benash.lean -/

theorem Kept.putOther {s t : State} {x : FwSlot} (h : Kept s t) : Kept s (t.putOther x) := by
  unfold State.putOther
  split
  · exact h.same
  · exact h.same

theorem Kept.resumeRun {s t : State} {q : Request} (h : Kept s t) : Kept s (t.resumeRun q) := by
  unfold State.resumeRun
  extract_lets s1
  have hs1 : Kept s s1 := h.unrun
  split
  · exact h
  · exact hs1.interruptDiag
  · exact hs1.finish
  · exact h
  · exact hs1.finish

theorem Kept.limitLog {s t : State} {field sev value limit sensor : Nat} (h : Kept s t) : Kept s (t.limitLog field sev value limit sensor) :=
  h.logEntry

theorem Kept.supplyChange {s t : State} {i : Nat} {critical begins : Bool} {v : Nat} (h : Kept s t) : Kept s (t.supplyChange i critical begins v) := by
  unfold State.supplyChange
  exact .ite (.ite h.raiseNme.limitLog h.raiseEvent.limitLog) h.raiseEvent.limitLog

theorem Kept.judgeSupply {s t : State} {critical : Bool} {i v : Nat} (h : Kept s t) : Kept s (t.judgeSupply critical i v) := by
  unfold State.judgeSupply
  exact .ite h.same.supplyChange h.same

theorem Kept.judgeTemps {s t : State} (h : Kept s t) : Kept s t.judgeTemps := by
  unfold State.judgeTemps
  extract_lets j c hot cold crit _ s0 v s1 s2 s3
  have hs0 : Kept s s0 := h.same
  have hs1 : Kept s s1 := .ite hs0.raiseEvent.limitLog hs0
  have hs2 : Kept s s2 := .ite hs1.raiseEvent.limitLog hs1
  have hs3 : Kept s s3 := hs2.raiseNme.limitLog
  exact .ite hs2 (.ite (.ite hs3.adminDown hs3) hs2.raiseEvent.limitLog)

theorem Kept.agingAct {s t : State} {m e : Nat} (h : Kept s t) : Kept s (t.agingAct m e) :=
  .ite h.agingRepair (.ite h.laneCause (.ite h.laneCause (.ite h.sliceUnfit h)))

theorem Kept.measureAging {s t : State} {m reading element : Nat} (h : Kept s t) : Kept s (t.measureAging m reading element) := by
  unfold State.measureAging
  extract_lets a alarm past a1 _ s1
  have h1 : Kept s s1 := h.withBen List.length_set
  exact .ite h1.raiseEvent.logEntry.agingAct h1

theorem Kept.nvmError {s t : State} {a : NvmArea} (h : Kept s t) : Kept s (t.nvmError a) := by
  have lost : Kept s { t with nvm := t.nvm.lose a } := by
    cases a with
    | log seq => exact h.withNvm id ((List.length_filter_le _ _).trans ·)
    | keks => exact h.withNvm fun _ => rfl
    | _ => exact h.withNvm
  have counted : Kept s { t with
      nvm := t.nvm.lose a, ben := if (match a with | .log _ => true | _ => false) then { t.ben with lost := inc 16 t.ben.lost } else t.ben } := by
    split
    · exact lost.same
    · exact lost.same
  exact counted.raiseNme.logEntry

theorem Kept.storeMgmtCtl {s t : State} {v : Nat} (h : Kept s t) : Kept s (t.storeMgmtCtl v) :=
  h.same

/-! ### Operations of Chain.lean -/

theorem Kept.runGain {s t : State} {adc : Quad (List Int)} (h : Kept s t) : Kept s (t.runGain adc) :=
  h.same

theorem Kept.reestimate {s t : State} {p : Pair} (h : Kept s t) : Kept s (t.reestimate p) :=
  h.same

theorem Kept.snapshotPair {s t : State} {p : Pair} (h : Kept s t) : Kept s (t.snapshotPair p) :=
  h.modRx.reestimate

theorem Kept.takeSnapshot {s t : State} (h : Kept s t) : Kept s t.takeSnapshot :=
  h.foldl (fun _ _ k => k.snapshotPair)

/-! ### Operations of Engines.lean -/

theorem Kept.withdrawWaiting {s t : State} {who : Nat} (h : Kept s t) : Kept s (t.withdrawWaiting who) :=
  h.withEng id rfl (by dsimp only; split <;> simp)

theorem Kept.withdrawGrant {s t : State} {who : Nat} (h : Kept s t) : Kept s (t.withdrawGrant who) := h.withEng id rfl (by simp)

theorem Kept.stopSlot {s t : State} {e i doneSegs : Nat} (h : Kept s t) : Kept s (t.stopSlot e i doneSegs) :=
  h.withdrawWaiting.withdrawGrant.lateSlot

theorem Kept.bankViolation {s t : State} {e i doneSegs : Nat} (h : Kept s t) : Kept s (t.bankViolation e i doneSegs) := by
  unfold State.bankViolation
  exact .ite h.modEngine.stopSlot.repairCause h.modEngine.stopSlot

theorem Kept.enterRequest {s t : State} {a : StoreAsk} (h : Kept s t) : Kept s (t.enterRequest a) := by
  unfold State.enterRequest
  exact .ite h (.ite h (.ite h.bankViolation h.same))

theorem Kept.granted {s t : State} {q : StoreReq} (h : Kept s t) : Kept s (t.granted q) := by
  unfold State.granted
  exact .ite h.same.modEngine h.same

theorem Kept.round {s t : State} {free : Nat → Bool} {b : Nat} (h : Kept s t) : Kept s (t.round free b).1 := by
  unfold State.round
  extract_lets es k
  split
  · exact h
  · extract_lets s1 losers lost
    have h1 : Kept s s1 := h.modBank
    split
    · exact h1.modBank.granted
    · extract_lets both
      have hboth : ∀ u, Kept s u → Kept s (both u) := fun u k => k.modBank.modBank.granted
      split
      · exact hboth _ h1
      · split
        · exact hboth _ h1.modBank
        · exact h1.modBank

theorem Kept.rounds {s : State} {free : Nat → Bool} {l : List Nat} {t : State} (h : Kept s t) : Kept s (t.rounds free l).1 := by
  induction l generalizing t with
  | nil => exact h
  | cons b l ih =>
    unfold State.rounds
    split
    · exact ih h.round
    · exact ih h

theorem Kept.storeError {s t : State} {b line : Nat} {reader : Option (Nat × Nat × Nat)} (h : Kept s t) : Kept s (t.storeError b line reader) := by
  unfold State.storeError
  extract_lets s1 s2
  have counted := h.modBank (b := b) (f := fun k => { k with ue := inc 16 k.ue })
  have h1 : Kept s s1 := counted.same
  have h2 : Kept s s2 := by
    unfold s2
    split
    · exact .ite h1.stopSlot h1
    · exact h1
  exact h2.requestRetrain

theorem Kept.storeReads {s t : State} {es : List (Nat × Nat × Bool)} (h : Kept s t) : Kept s (t.storeReads es) := by
  refine h.foldl fun u x k => ?_
  split
  · exact .ite k.storeError k.modBank
  · exact k

theorem Kept.markedReads {s t : State} (h : Kept s t) : Kept s t.markedReads := by
  refine h.foldl fun u x k => ?_
  split
  · exact .ite k.stopSlot k
  · exact k

theorem Kept.recordLoad {s t : State} {ls : List EngineLoad} (h : Kept s t) : Kept s (t.recordLoad ls) := by
  unfold State.recordLoad
  extract_lets s1
  have h1 : Kept s s1 := h.foldl fun _ _ k => .ite k.modEngine.repairCause k.modEngine
  exact h1.withEng id rfl (by simp)

theorem Kept.runWhere {s t : State} {tag : BitVec 16} {op : Nat} {p : Capsule → Bool} {body : Request → State → State} (h : Kept s t)
    (k : ∀ q u, Kept s u → Kept s (body q u)) : Kept s (t.runWhere tag op p body) := by
  unfold State.runWhere
  split
  · exact .ite (h.runRequest k) h
  · exact h

theorem Kept.commitStaging {s t : State} {q : Request} (h : Kept s t) : Kept s (t.commitStaging q) := by
  unfold State.commitStaging
  split
  · exact h.same.finish
  · exact h.same.startRun

theorem Kept.clearSpare {s t : State} {k : Nat} (h : Kept s t) : Kept s (t.clearSpare k) :=
  .ite h.abortTest (.ite (Kept.ite h.same h).restartEstimates (.ite h.same h))

theorem Kept.storeEngCtl {s t : State} {v : Nat} (h : Kept s t) : Kept s (t.storeEngCtl v) :=
  h.same

theorem Kept.hostRepair {s t : State} {e : Nat} (h : Kept s t) : Kept s (t.hostRepair e).1 := by
  unfold State.hostRepair
  split
  · exact h
  · split
    · exact h.same
    · exact h.repairCause

/-! ### Operations of Cal.lean -/

theorem Kept.endCalItem {s t : State} {item pair code : Nat} {changed : Bool} (h : Kept s t) : Kept s (t.endCalItem item pair code changed) := by
  unfold State.endCalItem
  split
  · exact h
  · rename_i r hr
    refine .ite h ?_
    extract_lets old r1 _ s1
    have h1 : Kept s s1 := h.withCal fun ok => by simpa [Cal.fiveResults, hr, r1, setAt] using ok
    exact .ite h1.finishCal h1

theorem Kept.echoSettled {s t : State} {p : Pair} (h : Kept s t) : Kept s (t.echoSettled p) :=
  .ite (.ite h.same.modRx h.same.modRx.reestimate) h

theorem Kept.selectDone {s t : State} {p : Pair} (h : Kept s t) : Kept s (t.selectDone p) := by
  unfold State.selectDone
  extract_lets c
  refine .ite ?_ h
  split
  · exact .ite h.endCalItem h
  · exact h

theorem Kept.pairDetents {s t : State} {go quiet : Bool} {p : Pair} (h : Kept s t) : Kept s (t.pairDetents go quiet p) := by
  unfold State.pairDetents
  exact .ite h.modCal.selectDone.echoSettled h.same.selectDone.echoSettled

theorem Kept.detents {s t : State} (h : Kept s t) : Kept s t.detents :=
  h.foldl (fun _ _ k => k.pairDetents)

theorem Kept.sampleAdc {s t : State} {p : Pair} {age : Nat} {part : Bool} (h : Kept s t) : Kept s (t.sampleAdc p age part) :=
  .ite h.same h.same

theorem Kept.observeProbe {s t : State} {p : Pair} {age : Nat} {residual : Rat} (h : Kept s t) : Kept s (t.observeProbe p age residual) := by
  unfold State.observeProbe
  exact h.same

theorem Kept.probe {s t : State} {p : Pair} (h : Kept s t) : Kept s (t.probe p) := by
  unfold State.probe
  exact .ite h.same.modRx (.ite h.same.modRx h)

theorem Kept.probes {s t : State} {idle : Bool} (h : Kept s t) : Kept s (t.probes idle) :=
  h.foldl (fun _ _ k => .ite k.probe k)

theorem Kept.takeHeld {s t : State} {blob : CalPair → Pair → List Byte → CalPair} (h : Kept s t) : Kept s (t.takeHeld blob) := by
  unfold State.takeHeld
  split
  · exact h
  · exact .ite h h.same

theorem Kept.startCal {s t : State} {q : Request} (h : Kept s t) : Kept s (t.startCal q) := by
  unfold State.startCal
  extract_lets items ps named left results fresh _ s1
  have begun : Kept s { t with cal := { t.cal with est := fresh, run := some ⟨q.cap.tag, items, BitVec.ofNat 4 ps, left, results, 0⟩ } } :=
    h.withCal fun _ => by simp [Cal.fiveResults, results]
  have h1 : Kept s s1 := begun.startRun
  exact .ite h1.finishCal h1

theorem Kept.trimPair {s t : State} {p : Pair} {f : AdcFound} (h : Kept s t) : Kept s (t.trimPair p f) := by
  unfold State.trimPair
  exact .ite h.endCalItem h.modCal.endCalItem

/-- A change of the run that keeps the number of its results. -/
theorem Kept.mapCalRun {s t : State} {f : CalRun → CalRun} (h : Kept s t) (k : ∀ r, (f r).results.length = r.results.length) :
    Kept s { t with cal := { t.cal with run := t.cal.run.map f } } := by
  refine h.withCal fun ok => ?_
  unfold Cal.fiveResults at ok ⊢
  cases hr : t.cal.run with
  | none => simp
  | some r => simpa [hr, k] using ok

theorem Kept.selectPair {s t : State} {p : Pair} {f : AdcFound} (h : Kept s t) : Kept s (t.selectPair p f) := by
  unfold State.selectPair
  extract_lets c unfit r clamped s1 s2 _ s3
  have h1 : Kept s s1 := h.modCal
  have h2 : Kept s s2 := .ite h1.logEntry.raiseEvent h1
  have h3 : Kept s s3 := h2.mapCalRun fun _ => List.length_set
  exact .ite h.endCalItem (.ite h3.endCalItem h3)

theorem Kept.adcEstimate {s t : State} {p : Pair} (h : Kept s t) : Kept s (t.adcEstimate p) := by
  unfold State.adcEstimate
  exact .ite h (.ite (Kept.ite h.same.modCal.selectPair h.same.modCal).trimPair (.ite h.same.modCal.selectPair h.same.modCal))

theorem Kept.dacEstimate {s t : State} {p : Pair} (h : Kept s t) : Kept s (t.dacEstimate p) := by
  unfold State.dacEstimate
  refine .ite h ?_
  extract_lets errors _ c bad r s1 _ s2
  have hs1 : Kept s s1 := h.modCal
  have hs2 : Kept s s2 := .ite hs1 hs1.same
  exact hs2.endCalItem

theorem Kept.hybEstimate {s t : State} {p : Pair} (h : Kept s t) : Kept s (t.hybEstimate p) := by
  unfold State.hybEstimate
  exact .ite h (.ite h.same.modCal h.same.modCal.endCalItem)

theorem Kept.dielinkEstimate {s t : State} {lanes : List (Bool × Nat × Nat × Int)} (h : Kept s t) : Kept s (t.dielinkEstimate lanes) := by
  unfold State.dielinkEstimate
  extract_lets s1 moved
  have h1 : Kept s s1 := h.foldl fun _ _ k => .ite (k.modDir fun _ => by simp [modAt]).laneCause (k.modDir fun _ => by simp [modAt])
  exact .ite h h1.endCalItem

theorem Kept.applyBlob {s t : State} {b : List Byte} (h : Kept s t) : Kept s (t.applyBlob b) := by
  have lanes := h.withDl (d := { t.dl with
    outb := { t.dl.outb with lanes := importLanes t.dl.outb.lanes b 1984 }, inb := { t.dl.inb with lanes := importLanes t.dl.inb.lanes b 2088 } })
    (by simp [importLanes]) (by simp [importLanes])
  exact lanes.same.lanePhases

theorem Kept.calTick {s t : State} (h : Kept s t) : Kept s t.calTick := by
  unfold State.calTick
  exact .ite h.lanePhases.takeHeld h.lanePhases.takeHeld.detents

/-! ### Operations of Keyway.lean -/

theorem Kept.signalRing {s t : State} {i : Nat} (h : Kept s t) : Kept s (t.signalRing i) := by
  unfold State.signalRing
  exact .ite h.modRing h.modRing.signalVector

theorem Kept.freeStaging {s t : State} {i : Nat} (h : Kept s t) : Kept s (t.freeStaging i) := by
  unfold State.freeStaging
  exact h.same

theorem Kept.forgetWritten {s t : State} {i : Nat} (h : Kept s t) : Kept s (t.forgetWritten i) := by
  unfold State.forgetWritten
  exact h.same.modRing

theorem Kept.haltRing {s t : State} {i code : Nat} (h : Kept s t) : Kept s (t.haltRing i code) := by
  unfold State.haltRing
  extract_lets lost s0 s1 s2 s3 s4
  have hs0 : Kept s s0 := .ite h.freeStaging.modRing h
  have hs1 : Kept s s1 := hs0.modRing
  have hs2 : Kept s s2 := .ite hs1.doneLost hs1
  have hs3 : Kept s s3 := hs2.modKwCnt
  have hs4 : Kept s s4 := .ite hs3 hs3.modStats
  exact hs4.signalVector.raiseEvent

theorem Kept.refuseCapsule {s t : State} {i : Nat} {c : Capsule} {st : Status} (h : Kept s t) : Kept s (t.refuseCapsule i c st) := by
  unfold State.refuseCapsule
  exact (Kept.ite h.modKwCnt h.modKwCnt.modStats).complete

theorem Kept.takeRequest {s t : State} {c : Capsule} (h : Kept s t) : Kept s (t.takeRequest c) := by
  unfold State.takeRequest
  extract_lets q s1 op _
  have hs1 : Kept s s1 := h.modRing
  exact .ite hs1.finish (.ite hs1.finish (.ite hs1.finish hs1.same))

theorem Kept.takeTurn {s t : State} {i n : Nat} (h : Kept s t) : Kept s (t.takeTurn i n) := by
  unfold State.takeTurn
  extract_lets s1 _
  have hs1 : Kept s s1 := h.modRing
  exact hs1.same

theorem Kept.queueFrames {s : State} {i : Nat} {a : Accepted} {fs : List (List Byte)} {t : State} (h : Kept s t) : Kept s (t.queueFrames i a fs).1 := by
  induction fs generalizing t with
  | nil => exact h
  | cons f fs ih =>
    have sent : Kept s (t.wardTransmit i a.assoc f).1 := h.wardTransmit
    unfold State.queueFrames
    dsimp only
    split
    · exact ih sent
    · exact ih sent.same

theorem Kept.sendCapsule {s t : State} {i : Nat} {a : Accepted} (h : Kept s t) : Kept s (t.sendCapsule i a) := by
  unfold State.sendCapsule
  exact h.queueFrames.modRing.wakeCause

theorem Kept.writeEvent {s t : State} {v : BitVec 32} (h : Kept s t) : Kept s (t.writeEvent v) :=
  .ite h (.ite h.same.signalGeneral h.same)

theorem Kept.writeEventEn {s t : State} {v : BitVec 32} (h : Kept s t) : Kept s (t.writeEventEn v) :=
  .ite h (.ite h.same.signalGeneral h.same)

theorem Kept.writeNme {s t : State} {v : BitVec 32} (h : Kept s t) : Kept s (t.writeNme v) :=
  .ite h (.ite h.same.signalVector h.same)

theorem Kept.writeStateAddr {s t : State} {v : BitVec 64} (h : Kept s t) : Kept s (t.writeStateAddr v) :=
  h.same

theorem Kept.writeWindow {s t : State} {w off : Nat} {wide : Bool} {v : BitVec 64} (h : Kept s t) : Kept s (t.writeWindow w off wide v) :=
  h.withFp fun ⟨windows, rest⟩ => ⟨smod_wf _ w (fun e => e.write (off ≥ 8) (carried off wide v).1 (carried off wide v).2) windows, rest⟩

theorem Kept.enableRing {s t : State} {i v : Nat} (h : Kept s t) : Kept s (t.enableRing i v) := by
  unfold State.enableRing
  exact .ite h.modRing (.ite h.forgetWritten.modRing.modFlow h.modRing)

theorem Kept.stopRing {s t : State} {i : Nat} (h : Kept s t) : Kept s (t.stopRing i) := by
  unfold State.stopRing
  extract_lets n k s1 _ s2 s3
  have hs1 : Kept s s1 := h.freeStaging.doneLost
  have hs2 : Kept s s2 := hs1.same
  have hs3 : Kept s s3 := .ite hs2 hs2.modStats
  exact hs3.modRing

theorem Kept.disableRing {s t : State} {i v : Nat} (h : Kept s t) : Kept s (t.disableRing i v) := by
  unfold State.disableRing
  exact .ite h.stopRing.modRing h.modRing

theorem Kept.badDoorbell {s t : State} {i : Nat} (h : Kept s t) : Kept s (t.badDoorbell i) := by
  unfold State.badDoorbell
  exact (Kept.ite h.modKwCnt h.modKwCnt.modStats).raiseEvent

theorem Kept.writeSqTail {s t : State} {i : Nat} {v : BitVec 32} (h : Kept s t) : Kept s (t.writeSqTail i v) := by
  unfold State.writeSqTail
  exact .ite h (.ite h.modRing h.badDoorbell)

theorem Kept.writeCqHead {s t : State} {i : Nat} {v : BitVec 32} (h : Kept s t) : Kept s (t.writeCqHead i v) := by
  unfold State.writeCqHead
  exact .ite h (.ite h.modRing h.badDoorbell)

theorem Kept.resetRing {s t : State} {i : Nat} (h : Kept s t) : Kept s (t.resetRing i) :=
  .ite h h.stopRing.forgetWritten.modRing

theorem Kept.writeRingReg {s t : State} {i off : Nat} {wide : Bool} {v : BitVec 64} (h : Kept s t) : Kept s (t.writeRingReg i off wide v) :=
  .ite h.modRing (.ite h.modRing (.ite (.ite h.enableRing h.disableRing) (.ite h.modRing h)))

/-- A change of one MSI-X entry. -/
theorem Kept.modMsix {s t : State} {k : Nat} {f : MsixEntry → MsixEntry} (h :
    Kept s t) : Kept s (t.setFp (fun x => { x with msix := smod {} x.msix k f })) :=
  h.withFp fun ⟨windows, msix, counts⟩ => ⟨windows, smod_wf _ _ _ msix, counts⟩

theorem Kept.writeMsix {s t : State} {off : Nat} {wide : Bool} {v : BitVec 64} (h : Kept s t) : Kept s (t.writeMsix off wide v) := by
  unfold State.writeMsix
  split
  extract_lets k s1 e
  have h1 : Kept s s1 := h.modMsix
  have h2 : Kept s (s1.setFp (fun f => { f with msix := sset {} f.msix k { e with pending := false } })) :=
    h1.withFp fun ⟨windows, msix, counts⟩ => ⟨windows, sset_wf _ _ _ msix, counts⟩
  exact .ite h2.signalVector h1

theorem Kept.wakeAssert {s t : State} (h : Kept s t) : Kept s t.wakeAssert :=
  h.same

theorem Kept.keywayRise {s t : State} (h : Kept s t) : Kept s t.keywayRise :=
  .ite h.modPwr h

theorem Kept.writeCapsule {s t : State} {r : Ring} {pos : BitVec 32} {c : Completion} (h : Kept s t) : Kept s (t.writeCapsule r pos c) := by
  unfold State.writeCapsule
  exact (h.foldl (fun _ _ k => .ite k.writeLine k)).writeLine

theorem Kept.placeNotice {s t : State} {i : Nat} (h : Kept s t) : Kept s (t.placeNotice i) :=
  h.modRing

theorem Kept.dropRing {s t : State} {f : Nat} (h : Kept s t) : Kept s (t.dropRing f) :=
  h.modKwCnt.modStats

theorem Kept.holdFrame {s t : State} {f : Nat} {x : RxFrame} (h : Kept s t) : Kept s (t.holdFrame f x) := by
  unfold State.holdFrame
  exact .ite h.same h.modPwr.modStats

theorem Kept.overflow {s t : State} (h : Kept s t) : Kept s t.overflow :=
  h.modKwCnt.raiseEvent

theorem Kept.setStaged {s t : State} {n : Nat} (h : Kept s t) : Kept s { t with kw := { t.kw with stagingUsed := n } } := h.same

theorem Kept.deliver {s t : State} {c : Class} {x : RxFrame} {held : Bool} (h : Kept s t) : Kept s (t.deliver c x held).1 := by
  unfold State.deliver
  dsimp only
  split
  · exact h.modRing
  · refine Kept.ite_fst (Kept.ite_fst h.modRing h) (Kept.ite_fst h.overflow (Kept.ite_fst (Kept.ite_fst h.modRing ?_) (Kept.ite_fst h ?_)))
    · exact Kept.setStaged h.modRing
    · exact Kept.setStaged h.modRing

theorem Kept.noSpace {s t : State} {i : Nat} (h : Kept s t) : Kept s (t.noSpace i) :=
  h.modKwCnt.modStats

theorem Kept.dropFrame {s t : State} (h : Kept s t) : Kept s t.dropFrame := by
  unfold State.dropFrame
  split
  · exact h.same
  · exact h.same

theorem Kept.checkUnverified {s t : State} {f : Nat} {x : RxFrame} (h : Kept s t) : Kept s (t.checkUnverified f x).1 := by
  unfold State.checkUnverified
  dsimp only
  split
  · exact h
  · exact h.same

theorem Kept.classifyEarly {s t : State} (h : Kept s t) : Kept s t.classifyEarly := by
  unfold State.classifyEarly
  split
  · exact h
  · extract_lets sci later forced n _
    refine .ite ?_ h
    split
    · extract_lets fl r held room early refuse eh s1 cls _
      have hs1 : Kept s s1 := .ite h.same.modRing h
      exact hs1.same

/-! ### Operations of Timeline.lean -/

theorem Kept.beginMsg {s t : State} {kn : Bool} {seq : Nat} (h : Kept s t) : Kept s (t.beginMsg kn seq) := by
  unfold State.beginMsg
  extract_lets r
  split
  · exact h.same
  · exact .ite h.same h
  · exact h.same.drawn
  · exact h

theorem Kept.infoTx {s t : State} {kn : Bool} {seq room : Nat} (h : Kept s t) : Kept s (t.infoTx kn seq room).1 := by
  unfold State.infoTx
  extract_lets s0 w
  have hs0 : Kept s s0 := h.same
  split
  · exact hs0
  · extract_lets s1
    have hs1 : Kept s s1 := .ite (.ite hs0.beginMsg hs0) hs0
    split
    · exact hs1
    · exact .ite hs1 hs1.same

theorem Kept.pushItem {s t : State} {typ : Nat} {body : List Byte} (h : Kept s t) : Kept s (t.pushItem typ body) :=
  h.same

theorem Kept.pushFrame {s t : State} {f : TxFrame} {dt : Nat} (h : Kept s t) : Kept s (t.pushFrame f dt) := by
  unfold State.pushFrame
  exact (h.pushItem (typ := 0) (body := lineFrame f.bytes)).same.modRing

theorem Kept.pushOam {s t : State} {o : List Byte} (h : Kept s t) : Kept s (t.pushOam o) :=
  (h.pushItem (typ := 1) (body := o)).same

theorem Kept.pushIdle {s t : State} (h : Kept s t) : Kept s t.pushIdle :=
  h.pushItem.drawn

theorem Kept.pushLast {s t : State} {left : Nat} (h : Kept s t) : Kept s (t.pushLast left) := by
  unfold State.pushLast
  exact h.same

theorem Kept.fillStream {s : State} {need : Nat} {total : Option Nat} {idleOnly : Bool} {fuel : Nat} {t : State} (h : Kept s t) :
    Kept s (t.fillStream need total idleOnly fuel) := by
  induction fuel generalizing t with
  | zero => exact h
  | succ fuel ih =>
    unfold State.fillStream
    extract_lets len left go
    have hgo : ∀ u, Kept s u → Kept s (go u) := fun _ k => ih k
    refine .ite h (.ite h.same (.ite ?_ ?_))
    · split
      · exact hgo _ h.pushLast
      · exact hgo _ h.pushIdle
    · split
      · split
        · exact hgo _ h.pushOam
        · exact hgo _ h.pushLast
      · split
        · exact hgo _ h.pushFrame
        · exact hgo _ h.pushLast
      · apply hgo
        split
        · exact h.pushLast
        · exact h.pushIdle

theorem Kept.itemSent {s t : State} {x : Leaving} (h : Kept s t) : Kept s (t.itemSent x) := by
  unfold State.itemSent
  split
  · exact h
  · exact h.modRing.modStats.frameSeen

theorem Kept.takeStream {s t : State} {n : Nat} (h : Kept s t) : Kept s (t.takeStream n) := by
  unfold State.takeStream
  exact h.same.foldl (fun _ _ k => k.itemSent)

theorem Kept.recallStream {s t : State} (h : Kept s t) : Kept s t.recallStream := by
  unfold State.recallStream
  exact h.same

theorem Kept.drivePair {s t : State} {p : Pair} {sym : Option (List Int)} {precode : Bool} (h : Kept s t) : Kept s (t.drivePair p sym precode).1 := by
  unfold State.drivePair
  split
  · exact h.same
  · exact h.same

theorem Kept.drivePairs {s t : State} {precode : Bool} {sym : Pair → Option (List Int)} (h : Kept s t) : Kept s (t.drivePairs precode sym).1 := by
  unfold State.drivePairs
  extract_lets r0 r1 r2 r3 codes
  have h0 : Kept s r0.1 := h.drivePair
  have h1 : Kept s r1.1 := h0.drivePair
  have h2 : Kept s r2.1 := h1.drivePair
  have h3 : Kept s r3.1 := h2.drivePair
  exact h3.same

theorem Kept.drive {s t : State} {kind : Nat} {precode : Bool} {sym : Pair → Option (List Int)} (h : Kept s t) : Kept s (t.drive kind precode sym) := by
  unfold State.drive
  exact (h.drivePairs (precode := precode) (sym := sym)).same.emit

theorem Kept.driveBurst {s t : State} {kind lead : Nat} {sym : Pair → List Int} (h : Kept s t) : Kept s (t.driveBurst kind lead sym) := by
  have driven := h.drivePairs (precode := false) (sym := fun p => some (sym p))
  exact Kept.emit driven.same

theorem Kept.loopback {s t : State} (h : Kept s t) : Kept s t.loopback := by
  unfold State.loopback
  exact h.same

theorem Kept.silent {s t : State} (h : Kept s t) : Kept s t.silent :=
  h.same

theorem Kept.statusStep {s t : State} {seq : Nat} (h : Kept s t) : Kept s (t.statusStep seq) := by
  unfold State.statusStep
  extract_lets r rf _ next
  have h1 : Kept s (t.modRun (fun r => { r with stTx := next })) := h.withLc fun ok => by simpa [next, r, setAt] using ok
  exact h1.same

theorem Kept.sendData {s t : State} {idleOnly : Bool} {room : Nat} (h : Kept s t) : Kept s (t.sendData idleOnly room) := by
  unfold State.sendData
  extract_lets seq kn n before s0 s1 first s2 active
  have h0 : Kept s s0 := h.fillStream
  have h1 : Kept s s1 := h0.probes
  have h2 : Kept s s2 := h1.statusStep
  have h3 : Kept s (s2.infoTx kn seq room).1 := h2.infoTx
  clear_value s2
  split
  rename_i s3 info e
  rw [e] at h3
  extract_lets hdr payload s4 s5
  have h5 : Kept s s5 := h3.takeStream.drive
  clear_value s5
  exact h5.same

theorem Kept.sendTraining {s t : State} {phase : Nat} {frt : Bool} (h : Kept s t) : Kept s (t.sendTraining phase frt) := by
  unfold State.sendTraining
  extract_lets u o own go cd
  have sliced : Kept s (if phase = 1 then (t, 0) else t.infoTx false u.tseq 256).1 := by
    split
    · exact h
    · exact h.infoTx
  exact .ite sliced.same.drive sliced.same.silent

theorem Kept.sendRefresh {s t : State} (h : Kept s t) : Kept s t.sendRefresh := by
  unfold State.sendRefresh
  extract_lets seq word
  have driven : Kept s (t.drive 3 true (fun p => some (trainingSymbols p.val 4 word seq))) := h.drive
  generalize t.drive 3 true (fun p => some (trainingSymbols p.val 4 word seq)) = u at driven
  exact driven.same

theorem Kept.sendStandard {s t : State} (h : Kept s t) : Kept s t.sendStandard := by
  unfold State.sendStandard
  extract_lets m n push s1
  have hpush : ∀ u, Kept s u → Kept s (push u) := by
    intro u k
    unfold push
    split
    · rename_i f _ _
      exact .ite (Kept.same (k.pushFrame (f := f) (dt := u.lc.run.stream.length * periodNs t.link.mode / n))) k
    · exact k
  have h1 : Kept s s1 := h.foldl fun _ _ k => hpush _ k
  exact h1.takeStream

theorem Kept.sendQuiet {s t : State} (h : Kept s t) : Kept s t.sendQuiet := by
  unfold State.sendQuiet
  extract_lets q ri count ns silence exit u
  have hcount : ∀ u, Kept s u → Kept s (count u) := fun _ k => k.modQl
  have hsilence : ∀ u, Kept s u → Kept s (silence u) := fun _ k => Kept.modQlCnt (hcount _ (Kept.same k.silent))
  have hu : Kept s u := h.sendData
  clear_value u
  split
  · exact hsilence _ h.drive
  · extract_lets i s1 s2
    have h2 : Kept s s2 := hcount _ (.ite h.sendRefresh h.sendData)
    exact .ite h2.modQl.modQlCnt h2
  · exact .ite (Kept.modQl h.same) (.ite (Kept.modQl hu.same) h.sendData.modQl)
  · exact h.sendData

theorem Kept.leaveQuiet {s t : State} (h : Kept s t) : Kept s t.leaveQuiet :=
  .ite h h.same.modQl.gateEngines.openWaiting

theorem Kept.quietBank {s t : State} (h : Kept s t) : Kept s t.quietBank := by
  unfold State.quietBank
  extract_lets u
  have hu : Kept s u := h.modQl
  exact .ite (Kept.gateEngines hu.same) hu

theorem Kept.idleTick {s t : State} (h : Kept s t) : Kept s t.idleTick :=
  .ite (.ite h h.modQl) h.modQl

theorem Kept.txPeriod {s t : State} (h : Kept s t) : Kept s t.txPeriod :=
  .ite h.sendTraining (.ite h.sendTraining (.ite h.sendTraining (.ite h.sendTraining (.ite h.sendTraining (.ite h.sendQuiet.leaveQuiet.quietBank.idleTick (.ite h.sendStandard (.ite h.modQlCnt (.ite (h.loopback.foldl (fun _ _ k => k.probe)) h))))))))

theorem Kept.enterPeriod {s t : State} {adc : Quad (List Int)} (h : Kept s t) : Kept s (t.enterPeriod adc) := by
  unfold State.enterPeriod
  exact h.same

theorem Kept.acquireGain {s t : State} (h : Kept s t) : Kept s t.acquireGain := by
  unfold State.acquireGain
  extract_lets e run _ s1 s2 _
  have hs1 : Kept s s1 := .ite h.same h
  have hs2 : Kept s s2 := .ite hs1.runGain hs1
  exact hs2.same

theorem Kept.trainIn {s t : State} (h : Kept s t) : Kept s t.trainIn := by
  unfold State.trainIn
  exact .ite h.same h.same

theorem Kept.loopbackIn {s t : State} (h : Kept s t) : Kept s t.loopbackIn :=
  h.foldl (fun _ _ k => k.sampleAdc.observeProbe)

/-! ### Operations of InfoField.lean -/

theorem Kept.modTrain {s t : State} {f : Train → Train} (h : Kept s t) : Kept s (t.modTrain f) :=
  h.modLink

theorem Kept.messageIn {s t : State} {kn : Bool} {slices : List (Option Nat)} {seq : Nat} (h : Kept s t) : Kept s (t.messageIn kn slices seq) := by
  unfold State.messageIn
  split
  · exact .ite h.same h.modLc
  · exact h.modLc

theorem Kept.dropPartial {s t : State} (h : Kept s t) : Kept s t.dropPartial := by
  unfold State.dropPartial
  split
  · exact h.same.modLc
  · exact h

theorem Kept.sliceIn {s t : State} {kn : Bool} {seq : Nat} {info : Option Nat} (h : Kept s t) : Kept s (t.sliceIn kn seq info) := by
  unfold State.sliceIn
  split
  · exact h
  · extract_lets s0 sofar
    have h0 : Kept s s0 := .ite h.dropPartial h
    generalize sofar = l
    cases l with
    | none => exact h0
    | some l => exact .ite h0.same (Kept.messageIn h0.same)

theorem Kept.popMsg {s t : State} (h : Kept s t) : Kept s t.popMsg :=
  h.same

theorem Kept.ackMessage {s t : State} {m : Nat} {nak : Bool} (h : Kept s t) : Kept s (t.ackMessage m nak) :=
  h.same

theorem Kept.onMessage {s t : State} {typ : Nat} {apply : Nat → Nat → State → State × Bool} (h : Kept s t)
    (k : ∀ m seq u, Kept s u → Kept s (apply m seq u).1) : Kept s (t.onMessage typ apply) := by
  unfold State.onMessage
  split
  · exact h
  · split
    · exact h.popMsg.ackMessage
    · exact (k _ _ _ h.popMsg).ackMessage

theorem Kept.applySwitch {s t : State} {x : Switch} (h : Kept s t) : Kept s (t.applySwitch x) :=
  h.same

theorem Kept.storeShapeCtl {s t : State} {v : Nat} (h : Kept s t) : Kept s (t.storeShapeCtl v) :=
  h.storeShape

theorem Kept.storeFir {s t : State} {p : Pair} {bs : List Byte} (h : Kept s t) : Kept s (t.storeFir p bs) :=
  h.storeShape

theorem Kept.storeMask {s t : State} {bs : List Byte} (h : Kept s t) : Kept s (t.storeMask bs) :=
  h.storeShape

/-! ### Operations of Receive.lean -/

theorem Kept.headerIn {s t : State} {kn : Bool} {h0 : Nat} (h : Kept s t) : Kept s (t.headerIn kn h0) := by
  unfold State.headerIn
  extract_lets st vals ka quietTx s1 s2 seen _ _ s3
  have hs1 : Kept s s1 := h.same
  have hs2 : Kept s s2 := hs1.modQl
  have hs3 : Kept s s3 := hs2.same
  exact hs3.sliceIn

theorem Kept.discard {s t : State} {f : LcCounters → LcCounters} (h : Kept s t) : Kept s (t.discard f) :=
  h.modLc.dropItem

theorem Kept.finishItem {s t : State} (h : Kept s t) : Kept s t.finishItem := by
  unfold State.finishItem
  split
  · exact h
  · extract_lets _ s1 bs s2 body _ _
    have hs1 : Kept s s1 := h.same
    have hs2 : Kept s s2 := hs1.modLc
    exact .ite hs1 (.ite h.discard (.ite h.discard (.ite hs2.same.frameSeen hs2.same)))

theorem Kept.enterSearch {s t : State} (h : Kept s t) : Kept s t.enterSearch :=
  h.same

theorem Kept.beginItem {s t : State} {tag : List (Option Byte)} {stamp : Nat} (h : Kept s t) : Kept s (t.beginItem tag stamp) := by
  unfold State.beginItem
  refine .ite (Kept.ite h.modLc h).enterSearch ?_
  split
  · exact h.modLc.enterSearch
  · exact h.same

theorem Kept.deframe {s : State} {at' : Nat → Nat} {fuel : Nat} {off : Nat} {bs : List (Option Byte)} {t : State} (h : Kept s t) :
    Kept s (State.deframe at' fuel off bs t) := by
  induction fuel generalizing off bs t with
  | zero => exact h
  | succ fuel ih =>
    cases bs with
    | nil =>
      unfold State.deframe
      split
      · exact .ite h.finishItem h
      · exact h
    | cons b bs =>
      unfold State.deframe
      refine .ite h ?_
      split
      · exact .ite (ih h.same) (.ite (ih h.same) (ih h.finishItem))
      · exact .ite h.same (ih h.beginItem)

theorem Kept.overrule {s t : State} {bs : List (Option Byte)} (h : Kept s t) : Kept s (t.overrule bs) := by
  unfold State.overrule
  extract_lets s0 _ s1
  have hs0 : Kept s s0 := by
    unfold s0
    split
    · exact h
    · exact .ite h h.beginItem
  have hs1 : Kept s s1 := by
    unfold s1
    split
    · exact .ite hs0.same hs0.discard
    · exact hs0
  exact hs1.same

theorem Kept.resumeAt {s t : State} {at' : Nat → Nat} {first : Nat} {bs : List (Option Byte)} (h : Kept s t) : Kept s (t.resumeAt at' first bs) :=
  .ite h.enterSearch h.same.deframe

theorem Kept.payloadIn {s t : State} {at' : Nat → Nat} {bs : List (Option Byte)} {first : Option Nat} (h :
    Kept s t) : Kept s (t.payloadIn at' bs first) := by
  unfold State.payloadIn
  split
  · exact h.deframe
  · exact .ite (.ite (.ite h h.beginItem) (Kept.ite h h.beginItem).modLc.resumeAt) (.ite h.deframe h.overrule.resumeAt)

theorem Kept.takeRxForm {s t : State} {kn : Bool} (h : Kept s t) : Kept s (t.takeRxForm kn) :=
  h.same.dropPartial.formsChanged

theorem Kept.calPeriod {s t : State} {f : Front} {part : Pair → Bool} (h : Kept s t) : Kept s (t.calPeriod f part) :=
  h.foldl (fun _ _ k => k.sampleAdc.observeProbe)

theorem Kept.learnPeriod {s t : State} {f : Front} {ws : Quad WordOut} {adapt : Bool} {order : List Pair} (h :
    Kept s t) : Kept s (t.learnPeriod f ws adapt order) :=
  h.same

theorem Kept.dataIn {s t : State} {adapt : Bool} (h : Kept s t) : Kept s (t.dataIn adapt) := by
  unfold State.dataIn
  extract_lets f ws kn _ _ s0 s1 hdr valid hd wrong s2
  have h0 : Kept s s0 := .ite h (Kept.takeRxForm h.same)
  have h1 : Kept s s1 := h0.learnPeriod.calPeriod
  clear_value s1
  have h2 : Kept s s2 := .ite h1.headerIn (Kept.sliceIn h1.same)
  exact h2.payloadIn

theorem Kept.nextRx {s t : State} (h : Kept s t) : Kept s t.nextRx :=
  h.same.modQl

theorem Kept.judgeQuiet {s t : State} (h : Kept s t) : Kept s t.judgeQuiet := by
  unfold State.judgeQuiet
  exact .ite h.same h

theorem Kept.gapChain {s t : State} (h : Kept s t) : Kept s t.gapChain :=
  h.dropItem.dropPartial.same

theorem Kept.holdPhase {s t : State} (h : Kept s t) : Kept s t.holdPhase :=
  h.same

theorem Kept.farQuiet {s t : State} (h : Kept s t) : Kept s t.farQuiet :=
  h.holdPhase.gapChain.modQl.judgeQuiet

theorem Kept.restPeriod {s t : State} (h : Kept s t) : Kept s t.restPeriod :=
  h.same.foldl (fun _ _ k => k.sampleAdc)

theorem Kept.contentIn {s t : State} {content : Bool} (h : Kept s t) : Kept s (t.contentIn content) := by
  unfold State.contentIn
  exact h.same.calPeriod

theorem Kept.endFarWindow {s t : State} (h : Kept s t) : Kept s t.endFarWindow := by
  unfold State.endFarWindow
  exact h.holdPhase.gapChain.modQl.modQlCnt

theorem Kept.quietIn {s t : State} (h : Kept s t) : Kept s t.quietIn := by
  unfold State.quietIn
  extract_lets ri k i inWin s1 s2 _ s2' s3
  have hs1 : Kept s s1 := .ite h.modQl h
  have hs2 : Kept s s2 := hs1.contentIn
  have hs2' : Kept s s2' := hs1.dataIn
  have hs3 : Kept s s3 := hs2'.modQl
  exact .ite hs1.restPeriod (.ite hs2.same (.ite hs3.endFarWindow hs3))

theorem Kept.settleIn {s t : State} (h : Kept s t) : Kept s t.settleIn := by
  unfold State.settleIn
  split
  · exact h.restPeriod
  · exact .ite h.restPeriod.modQl h.dataIn.modQl

theorem Kept.rxAwake {s t : State} {cause : Nat} (h : Kept s t) : Kept s (t.rxAwake cause) :=
  h.modQl.wakeCause

theorem Kept.listenIn {s t : State} (h : Kept s t) : Kept s t.listenIn := by
  unfold State.listenIn
  extract_lets s1
  have hs1 : Kept s s1 := h.dataIn
  split
  · exact hs1
  · exact .ite hs1.modQlCnt.rxAwake hs1.modQl

theorem Kept.takePeriod {s t : State} (h : Kept s t) : Kept s t.takePeriod :=
  h.same

theorem Kept.countData {s t : State} (h : Kept s t) : Kept s t.countData :=
  h.same

theorem Kept.nativeIn {s t : State} (h : Kept s t) : Kept s t.nativeIn := by
  unfold State.nativeIn
  extract_lets s0 s1
  have hs0 : Kept s s0 := h.takePeriod
  have hs1 : Kept s s1 := by
    unfold s1
    split
    · exact .ite hs0.restPeriod.farQuiet hs0.countData.dataIn
    · exact hs0.quietIn
    · exact hs0.quietIn
    · exact hs0.settleIn
    · exact hs0.listenIn
    · exact hs0.restPeriod
  exact hs1.nextRx

theorem Kept.stdCodeword {s t : State} {w : StdCodeword} (h : Kept s t) : Kept s (t.stdCodeword w) := by
  unfold State.stdCodeword
  extract_lets o s1 _
  have hs1 : Kept s s1 := h.modRx
  exact hs1.same

theorem Kept.stdFrameIn {s t : State} {f : StdFrame} (h : Kept s t) : Kept s (t.stdFrameIn f) := by
  unfold State.stdFrameIn
  extract_lets bs lost good s1 _ s2
  have hs1 : Kept s s1 := h.modLc
  have hs2 : Kept s s2 := hs1.same
  exact .ite hs2.frameSeen hs2

theorem Kept.standardIn {s t : State} {d : DecodeIn} (h : Kept s t) : Kept s (t.standardIn d) := by
  unfold State.standardIn
  exact (h.takePeriod.foldl (fun _ _ k => k.stdCodeword)).same.foldl (fun _ _ k => k.stdFrameIn)

theorem Kept.trip {s t : State} {cause : Nat} {who : BitVec 4} (h : Kept s t) : Kept s (t.trip cause who) := by
  unfold State.trip
  extract_lets _ s1
  have h1 : Kept s s1 := h.same
  split
  extract_lets s2 s3
  have h2 : Kept s s2 := h1.logEntry.raiseEvent
  have h3 : Kept s s3 := h2.requestRetrain
  exact .ite h2 (.ite h3.same h3)

theorem Kept.recordDrift {s t : State} (h : Kept s t) : Kept s t.recordDrift := by
  unfold State.recordDrift
  exact h.same

theorem Kept.storeRxCtl {s t : State} {v : Nat} (h : Kept s t) : Kept s (t.storeRxCtl v) :=
  h.same

/-! ### Operations of Link.lean -/

theorem Kept.burstIn {s t : State} (h : Kept s t) : Kept s t.burstIn :=
  h.modLink

theorem Kept.recordPartner {s t : State} {r : Option Rung} (h : Kept s t) : Kept s (t.recordPartner r) := by
  unfold State.recordPartner
  exact h.modLink

theorem Kept.beginTraining {s t : State} {r : Rung} {slave : Bool} (h : Kept s t) : Kept s (t.beginTraining r slave) := by
  unfold State.beginTraining
  exact h.modLink.startTraining

theorem Kept.takeRole {s t : State} {r : Rung} {x : Bool ⊕ Bool} (h : Kept s t) : Kept s (t.takeRole r x) := by
  unfold State.takeRole
  split
  · exact h.beginTraining
  · exact h.linkFail

theorem Kept.freshRx {s t : State} (h : Kept s t) : Kept s t.freshRx :=
  h.dropPartial.dropItem.same

theorem Kept.wordIn {s t : State} {v : Nat} (h : Kept s t) : Kept s (t.wordIn v) := by
  unfold State.wordIn
  exact .ite (Kept.ite h.modTrain.sliceIn h.modTrain).freshRx (.ite h.modTrain.sliceIn h.modTrain)

theorem Kept.wordBad {s t : State} (h : Kept s t) : Kept s t.wordBad := by
  unfold State.wordBad
  extract_lets s1
  have hs1 : Kept s s1 := by
    unfold s1
    split
    · exact .ite h.sliceIn h
    · exact h.dropPartial
  exact hs1.modTrain

theorem Kept.pairWord {s t : State} {w : BitVec 64} (h : Kept s t) : Kept s (t.pairWord w) :=
  h.modKn

theorem Kept.nextPhase {s t : State} (h : Kept s t) : Kept s t.nextPhase := by
  unfold State.nextPhase
  exact h.enter.modTrain

theorem Kept.freshTx {s t : State} (h : Kept s t) : Kept s t.freshTx := h.withLc fun ok => by simpa using ok

theorem Kept.reachData {s t : State} {e : PhaseEnd} (h : Kept s t) : Kept s (t.reachData e) := by
  unfold State.reachData
  exact h.nextPhase.same.takeSnapshot.freshTx.modLink.enterData

theorem Kept.yieldFullTest {s t : State} {ok : Bool} (h : Kept s t) : Kept s (t.yieldFullTest ok) :=
  .ite h.abortTest h

theorem Kept.hostTrain {s t : State} (h : Kept s t) : Kept s t.hostTrain :=
  .ite h.recordFailure.enter h.linkFail

theorem Kept.storeLinkCtl {s t : State} {v : Nat} (h : Kept s t) : Kept s (t.storeLinkCtl v) := by
  unfold State.storeLinkCtl
  exact .ite h.modLink.askLadderReset.linkFail h.modLink.askLadderReset

/-! ### Operations of DieLink.lean -/

theorem Kept.eraseLane {s t : State} {frame logical lanes : Nat} (h : Kept s t) : Kept s (t.eraseLane frame logical lanes) := by
  unfold State.eraseLane
  split
  · exact h
  · exact h.modRx

theorem Kept.doubtLane {s t : State} {frame logical lanes : Nat} (h : Kept s t) : Kept s (t.doubtLane frame logical lanes) := by
  unfold State.doubtLane
  split
  · exact h
  · exact h.modRx

theorem Kept.replaceAtExit {s t : State} {inb : Bool} {lane : Nat} (h : Kept s t) : Kept s (t.replaceAtExit inb lane) := by
  unfold State.replaceAtExit
  refine .ite h ?_
  split
  · rename_i k _
    have moved := h.modDir (inb := inb) (f := fun d => d.move lane k) fun d => by simp [DlDir.move, DlDir.modLane, modAt]
    exact moved.same
  · exact h.reduceMap

theorem Kept.storeDormantCtl {s t : State} {v : Nat} (h : Kept s t) : Kept s (t.storeDormantCtl v) := by
  unfold State.storeDormantCtl
  exact .ite h.modPwr.leaveDormant h.modPwr

/-! ### Operations of Quiet.lean -/

theorem Kept.withPart {s t : State} {k : RxInstant} (h : Kept s t) : Kept s (t.withPart k) :=
  h.same

theorem Kept.modRec {s t : State} {f : Reception → Reception} (h : Kept s t) : Kept s (t.modRec f) :=
  h.modQl

theorem Kept.startGain {s t : State} {k : RxInstant} (h : Kept s t) : Kept s (t.startGain k) :=
  h.same

theorem Kept.freezeGain {s t : State} {k : RxInstant} {back : Nat} (h : Kept s t) : Kept s (t.freezeGain k back) := by
  unfold State.freezeGain
  exact (Kept.ite (h.runGain (adc := k.part.map fun x => List.take (k.pos + 1 - back) x)) h).same

theorem Kept.holdReception {s t : State} (h : Kept s t) : Kept s t.holdReception :=
  h.same

theorem Kept.endReception {s t : State} {r : Reception} {result : Nat} (h : Kept s t) : Kept s (t.endReception r result) :=
  h.same

theorem Kept.abandon {s t : State} {r : Reception} {result : Nat} (h : Kept s t) : Kept s (t.abandon r result) :=
  h.restoreReception.gapChain.modQl.endReception

theorem Kept.latchAt {s t : State} {k : RxInstant} {back : Nat} {who : BitVec 4} {rho : Nat} {r : Reception} (h :
    Kept s t) : Kept s (t.latchAt k back who rho r) := by
  unfold State.latchAt
  exact (h.freezeGain (k := k) (back := back)).same.modQl

theorem Kept.freezeAfc {s t : State} {f : Int} (h : Kept s t) : Kept s (t.freezeAfc f) := by
  unfold State.freezeAfc
  exact h.same

theorem Kept.acceptSync {s t : State} {k : RxInstant} {r : Reception} (h : Kept s t) : Kept s (t.acceptSync k r) := by
  unfold State.acceptSync
  extract_lets w s0 f s1 _ s2
  have hw : Kept s w := h.withPart
  have hs0 : Kept s s0 := .ite h.latchAt h
  have hs1 : Kept s s1 := hs0.freezeAfc
  have hs2 : Kept s s2 := hs1.same
  exact hs2.modQl

theorem Kept.falseWake {s t : State} {r : Reception} {result : Nat} (h : Kept s t) : Kept s (t.falseWake r result) :=
  h.modQlCnt.abandon

theorem Kept.captureAt {s t : State} {k : RxInstant} {r : Reception} (h : Kept s t) : Kept s (t.captureAt k r) := by
  unfold State.captureAt
  exact (Kept.ite h.gapChain h).same.startGain.modQl.modQlCnt.endReception

theorem Kept.awake {s t : State} (h : Kept s t) : Kept s t.awake :=
  h.same

theorem Kept.legacyWake {s t : State} (h : Kept s t) : Kept s t.legacyWake := by
  unfold State.legacyWake
  split
  · extract_lets s1 _
    have hs1 : Kept s s1 := h.freezeAfc
    exact hs1.same.endReception
  · exact h

theorem Kept.huntStep {s t : State} {dac : Nat} (h : Kept s t) : Kept s (t.huntStep dac) := by
  unfold State.huntStep
  split
  · exact h
  · split
    · refine .ite h ?_
      extract_lets r
      have hr : Kept s r.1 := h.drivePairs
      exact hr.emit.modQl
    · exact .ite h.modQl h

theorem Kept.storeQlCtl {s t : State} {v : Nat} (h : Kept s t) : Kept s (t.storeQlCtl v) := by
  unfold State.storeQlCtl
  exact .ite h.same.wakeCause h.same

theorem Kept.storeLegacyCtl {s t : State} {v : Nat} (h : Kept s t) : Kept s (t.storeLegacyCtl v) :=
  h.same

/-! ### Operations of Ward.lean -/

theorem Kept.signed {s t : State} {code : Nat} {body : List Byte} (h : Kept s t) : Kept s (t.signed code body) := by
  unfold State.signed
  exact h.emit.drawn

theorem Kept.answer {s t : State} {m : WardMsg} {code : Nat} {st : Status} (h : Kept s t) : Kept s (t.answer m code st) :=
  h.emit

theorem Kept.refuseKey {s t : State} {m : WardMsg} {st : Status} (h : Kept s t) : Kept s (t.refuseKey m st) :=
  (Kept.ite h.same h).answer

theorem Kept.message {s t : State} {m : WardMsg} {code : Nat} {key latchOk : Bool} {form : Checks} {body : Session → State → State} (h : Kept s t)
    (k : ∀ y u, Kept s u → Kept s (body y u)) : Kept s (t.message m code key latchOk form body) := by
  unfold State.message
  extract_lets x approved
  refine .ite h ?_
  split
  · exact .ite h.refuseKey h.answer
  · split
    · exact h.answer
    · exact h.answer
    · exact k _ _ h

theorem Kept.storeHaspCfg {s t : State} {cfg : BitVec 32} (h : Kept s t) : Kept s (t.storeHaspCfg cfg) :=
  h.same.raiseEvent

theorem Kept.reloadKeys {s t : State} (h : Kept s t) : Kept s t.reloadKeys := by
  refine h.trans ⟨rfl, rfl, fun ok => ?_, id⟩
  obtain ⟨rings, flows, fp, ⟨slots, info, _⟩, eng, keks⟩ := (tablesOk_iff t).mp ok
  have reloaded : Sparse.wf ({} : Kek) t.reloadKeys.ward.keks = true :=
    Sparse.wf_map_value (f := fun k : StoredKek => (⟨some k.key, k.installer, true⟩ : Kek)) (fun x e => Option.some_ne_none _ (congrArg Kek.key e)) keks
  exact (tablesOk_iff _).mpr ⟨rings, flows, fp, ⟨slots, info, reloaded⟩, eng, keks⟩

theorem Kept.eraseKeys {s t : State} (h : Kept s t) : Kept s { t with ward := t.ward.eraseKeys } :=
  h.withWard fun _ => ⟨rfl, smap_wf _ _ (fun _ (i : SaInfo) => { i with tenant := none, rotateDue := false }), rfl⟩

theorem Kept.zeroize {s t : State} (h : Kept s t) : Kept s t.zeroize := Kept.same h.endSessions.eraseKeys

theorem Kept.actOnTrip {s t : State} {i : Nat} (h : Kept s t) : Kept s (t.actOnTrip i) := by
  unfold State.actOnTrip
  extract_lets c s1 _ s2
  have hs1 : Kept s s1 := h.logEntry.raiseEvent
  have hs2 : Kept s s2 := hs1.same.raiseNme
  exact .ite h (.ite hs1 (.ite hs2 hs2.zeroize.raiseNme))

theorem Kept.tripSensor {s t : State} {i : Nat} (h : Kept s t) : Kept s (t.tripSensor i) :=
  .ite h h.same.actOnTrip

theorem Kept.storeWardCtl {s t : State} {v : Nat} (h : Kept s t) : Kept s (t.storeWardCtl v) := by
  unfold State.storeWardCtl
  exact .ite (.ite (h.same.eraseSlots (a := linkAssoc)).same.raiseEvent (h.same.eraseSlots (a := linkAssoc)).same) (.ite h.same h.same)

/-! ### Operations of Clock.lean -/

theorem Kept.modClk {s t : State} {f : Clock → Clock} (h : Kept s t) : Kept s (t.modClk f) :=
  h.same

theorem Kept.loseLock {s t : State} (h : Kept s t) : Kept s t.loseLock := by
  unfold State.loseLock
  exact .ite h.modClk.excursion h.modClk

theorem Kept.switchTo {s t : State} {i : Nat} (h : Kept s t) : Kept s (t.switchTo i) :=
  h.modClk.loseLock

theorem Kept.holdOver {s t : State} (h : Kept s t) : Kept s t.holdOver :=
  h.modClk.loseLock

theorem Kept.replaceRef {s t : State} (h : Kept s t) : Kept s t.replaceRef := by
  unfold State.replaceRef
  extract_lets cand
  split
  · exact h.switchTo
  · exact h.holdOver.modClk

theorem Kept.sourceFailed {s t : State} {i : Nat} (h : Kept s t) : Kept s (t.sourceFailed i) := by
  unfold State.sourceFailed
  exact .ite h.modClk.raiseNme.logEntry.replaceRef h.modClk.raiseNme.logEntry

theorem Kept.isoFails {s t : State} (h : Kept s t) : Kept s t.isoFails := by
  unfold State.isoFails
  exact h.modClk.raiseNme.logEntry.tripSensor

theorem Kept.takeWindow {s t : State} {w : ClockWindow} (h : Kept s t) : Kept s (t.takeWindow w) := by
  unfold State.takeWindow
  exact h.same

theorem Kept.sourceStable {s t : State} {i : Nat} (h : Kept s t) : Kept s (t.sourceStable i) := by
  unfold State.sourceStable
  exact .ite h.modClk.modClk.keywayRise (.ite h.modClk.switchTo.raiseEvent (.ite h.modClk.switchTo.raiseEvent h.modClk))

theorem Kept.trackMl1 {s t : State} (h : Kept s t) : Kept s t.trackMl1 :=
  .ite h h.modClk

theorem Kept.storeClkCtl {s t : State} {v : Nat} (h : Kept s t) : Kept s (t.storeClkCtl v) := by
  unfold State.storeClkCtl
  extract_lets r c c1 s1
  have hs1 : Kept s s1 := h.same
  split
  · exact .ite hs1.switchTo.raiseEvent hs1
  · exact hs1

/-! ### Operations of Knuckle.lean -/

theorem Kept.beginPairTraining {s t : State} {partner : Bool} (h : Kept s t) : Kept s (t.beginPairTraining partner) := by
  unfold State.beginPairTraining
  extract_lets s1 _ s2
  have hs1 : Kept s s1 := h.endCalItems.interruptDiagRun
  have hs2 : Kept s s2 := .ite hs1.same.sendQuietAck hs1
  exact hs2.commitProfile.modKn

theorem Kept.answerKnuckle {s t : State} {p : Pair} (h : Kept s t) : Kept s (t.answerKnuckle p) :=
  h.modKn.setStatus.setStatus

theorem Kept.dropRequest {s t : State} {st : Status} (h : Kept s t) : Kept s (t.dropRequest st) :=
  h.setStatus.modKn.endKnuckle

theorem Kept.refuseShed {s t : State} (h : Kept s t) : Kept s t.refuseShed :=
  h.same.dropRequest

theorem Kept.storeKnCtl {s t : State} {v : Nat} (h : Kept s t) : Kept s (t.storeKnCtl v) :=
  h.same

/-! ### Operations of Diag.lean -/

theorem Kept.modDiag {s t : State} {f : Diag → Diag} (h : Kept s t) : Kept s (t.modDiag f) :=
  h.same

theorem Kept.askQuiet {s t : State} {blocks : Nat} (h : Kept s t) : Kept s (t.askQuiet blocks) := by
  unfold State.askQuiet
  exact h.sendQuietReq.modDiag

theorem Kept.startDiag {s t : State} {q : Request} (h : Kept s t) : Kept s (t.startDiag q) := by
  unfold State.startDiag
  exact .ite (Kept.ite h.startRun.modDiag.modLink h.startRun.modDiag).askQuiet (.ite h.startRun.modDiag.modLink h.startRun.modDiag)

theorem Kept.endMeasurement {s t : State} {r : DiagRun} {k result : Nat} (h : Kept s t) : Kept s (t.endMeasurement r k result) := by
  unfold State.endMeasurement
  exact .ite h.modDiag (.ite h.modDiag.modDiag h.modDiag)

theorem Kept.settleDiag {s t : State} (h : Kept s t) : Kept s t.settleDiag := by
  unfold State.settleDiag
  split
  · exact .ite h.finishDiag h
  · exact h

theorem Kept.onOam {s t : State} {typ : Nat} {act : List Byte → State → State} (h : Kept s t) (k : ∀ x u, Kept s u → Kept s (act x u)) :
    Kept s (t.onOam typ act) := by
  unfold State.onOam
  split
  · exact h
  · exact .ite h.same (.ite (k _ _ h.same) h)

theorem Kept.storeDiagCtl {s t : State} {v : Nat} (h : Kept s t) : Kept s (t.storeDiagCtl v) :=
  h.modDiag

/-! ### Operations of FlowCmd.lean -/

theorem Kept.dropKeys {s t : State} {f : Nat} (h : Kept s t) : Kept s (t.dropKeys f) :=
  .ite h h.eraseSlots.raiseEvent

theorem Kept.dropHeld {s t : State} {f : Nat} (h : Kept s t) : Kept s (t.dropHeld f) := by
  unfold State.dropHeld
  exact h.same.modStats

/-! ### Operations of Gates.lean -/

theorem Kept.modGate {s t : State} {f : Gates → Gates} (h : Kept s t) : Kept s (t.modGate f) :=
  h.same

theorem Kept.hostGatesDone {s t : State} (h : Kept s t) : Kept s t.hostGatesDone :=
  .ite h.modGate.endRun h

theorem Kept.storeGateCtl {s t : State} {q : Request} {v : Nat} (h : Kept s t) : Kept s (t.storeGateCtl q v) := by
  unfold State.storeGateCtl
  exact .ite h.modGate.finish h.modGate.startRun

/-! ### Operations of Resets.lean -/

theorem Cal.fiveResults_default : ({} : Cal).fiveResults := fun _ m => by cases m

theorem Kept.clearUnits {s t : State} (h : Kept s t) : Kept s t.clearUnits := by
  refine h.trans ⟨rfl, rfl, fun ok => ?_, fun ok => ?_⟩
  · obtain ⟨rings, _, fp, _, _, keks⟩ := (tablesOk_iff t).mp ok
    exact (tablesOk_iff _).mpr ⟨rings, rfl, fp, ⟨rfl, rfl, rfl⟩, ⟨rfl, rfl⟩, keks⟩
  · obtain ⟨_, _, _, _, _, aging, _, log⟩ := (shapeOk_iff' t).mp ok
    exact (shapeOk_iff' _).mpr ⟨rfl, rfl, rfl, DlDir.length_keep _, DlDir.length_keep _, aging, Cal.fiveResults_default, log⟩

theorem Kept.powerOff {s t : State} (h : Kept s t) : Kept s t.powerOff := by
  refine h.trans ⟨rfl, rfl, fun ok => ?_, fun ok => ?_⟩
  · obtain ⟨_, _, _, _, _, keks⟩ := (tablesOk_iff t).mp ok
    exact (tablesOk_iff _).mpr ⟨rfl, rfl, ⟨rfl, rfl, rfl, rfl⟩, ⟨rfl, rfl, rfl⟩, ⟨rfl, rfl⟩, keks⟩
  · obtain ⟨_, _, _, _, _, _, _, log⟩ := (shapeOk_iff' t).mp ok
    exact (shapeOk_iff' _).mpr ⟨rfl, rfl, rfl, rfl, rfl, rfl, Cal.fiveResults_default, log⟩

theorem Kept.warmClear {s t : State} {cause : Nat} (h : Kept s t) : Kept s (t.warmClear cause) := by
  have noRings := h.clearUnits.setRings (r := []) fun _ => rfl
  exact (noRings.withFp (f := { resetCause := cause }) fun _ => ⟨rfl, rfl, rfl, rfl⟩).same

theorem Kept.coreClear {s t : State} {cause : Nat} (h : Kept s t) : Kept s (t.coreClear cause) := by
  have noRings := h.clearUnits.setRings (r := []) fun _ => rfl
  exact (noRings.withFp (f := { nme := t.fp.nme, nmeCnt := t.fp.nmeCnt, msix := t.fp.msix, resetRefused := t.fp.resetRefused, resetCause := cause })
    fun ⟨_, msix, _, nmes⟩ => ⟨rfl, msix, rfl, nmes⟩).withWard (w := { ideKeys := t.ward.ideKeys }) (fun _ => ⟨rfl, rfl, rfl⟩) |>.same

theorem Kept.trimStart {s t : State} (h : Kept s t) : Kept s t.trimStart :=
  .ite h.loadTrim h.logEntry

theorem Kept.startUp {s t : State} (h : Kept s t) : Kept s t.startUp := by
  unfold State.startUp
  exact h.same.trimStart

theorem Kept.warmStart {s t : State} {cause : Nat} (h : Kept s t) : Kept s (t.warmStart cause) :=
  h.warmClear

theorem Kept.warmEnd {s t : State} {bootSel : Bool} {smbAddr : BitVec 2} (h : Kept s t) : Kept s (t.warmEnd bootSel smbAddr) :=
  h.same.startUp

theorem Kept.warmReset {s t : State} {cause : Nat} (h : Kept s t) : Kept s (t.warmReset cause) :=
  h.warmStart.warmEnd

theorem Kept.coreReset {s t : State} {cause : Nat} (h : Kept s t) : Kept s (t.coreReset cause) :=
  .ite h h.coreClear.startUp

theorem Kept.writeFpReset {s t : State} {v : BitVec 32} (h : Kept s t) : Kept s (t.writeFpReset v) := by
  unfold State.writeFpReset
  exact .ite h (.ite h.same (.ite h.same (.ite h.same.coreReset (.ite h.same.warmReset (.ite h.same h.same.startRestart)))))

theorem Kept.dropStream {s t : State} (h : Kept s t) : Kept s t.dropStream := by
  unfold State.dropStream
  extract_lets s1
  have h1 : Kept s s1 := h.foldl fun u x k => by
    split
    · exact k.modRing
    · exact k
  exact h1.same

theorem Kept.perstRing {s t : State} {i : Nat} (h : Kept s t) : Kept s (t.perstRing i) := by
  unfold State.perstRing
  exact h.modRing.doneLost.foldl (fun _ _ k => k.holdFrame)

theorem Kept.perstControl {s t : State} (h : Kept s t) : Kept s t.perstControl := by
  unfold State.perstControl
  exact h.modRing.doneLost.foldl (fun _ _ k => k.same.logEntry)

theorem Kept.cxlReset {s t : State} {fetching : List Nat} (h : Kept s t) : Kept s (t.cxlReset fetching) := by
  unfold State.cxlReset
  extract_lets n _ s1 s2 s3
  have marked := h.setFlows (l := smap {} t.flows (fun _ f => if f.exist then { f with heldOver := true } else f)) fun _ => smap_wf _ _ _
  have h1 : Kept s s1 := marked.same
  have h2 : Kept s s2 := (Kept.foldl h1 fun _ _ k => k.perstRing).perstControl
  have h3 : Kept s s3 := h2.endSessions
  have cleared := h3.withFp (f := { nme := s3.fp.nme, nmeCnt := s3.fp.nmeCnt, resetRefused := s3.fp.resetRefused, resetCause := s3.fp.resetCause })
    fun ⟨_, _, _, nmes⟩ => ⟨rfl, rfl, rfl, nmes⟩
  exact cleared.same

theorem Kept.forgetXin {s t : State} (h : Kept s t) : Kept s t.forgetXin :=
  h.modClk

/-! ### Operations of Mmio.lean -/

theorem Kept.writeRegister {s t : State} {bar off : Nat} {wide : Bool} {v : BitVec 64} (h : Kept s t) : Kept s (t.writeRegister bar off wide v) := by
  unfold State.writeRegister
  refine .ite h.writeFpReset ?_
  refine .ite h ?_
  split
  · exact .ite h.writeEvent.writeEventEn (.ite h.writeEvent (.ite h.writeEventEn (.ite h.writeNme (.ite h.writeRingReg (.ite h.writeStateAddr (.ite h.same (.ite h.same (.ite h.writeWindow (.ite h.writeRingReg h)))))))))
  · refine .ite ?_ h
    split
    · exact .ite h.writeSqTail.writeCqHead h.writeSqTail
    · exact h.writeCqHead
    · exact .ite h.resetRing h
    · exact h
  · exact .ite h.writeMsix h
  · exact h

/-! ### Operations of Monitor.lean -/

theorem Kept.modMon {s t : State} {f : Monitor → Monitor} (h : Kept s t) : Kept s (t.modMon f) :=
  h.same

theorem Kept.storeAlarms {s t : State} {bs : List Byte} (h : Kept s t) : Kept s (t.storeAlarms bs) :=
  h.modMon

theorem Kept.alarmChange {s t : State} {i : Nat} {a : Alarm} {set : Bool} {p : Pair} (h : Kept s t) : Kept s (t.alarmChange i a set p) := by
  unfold State.alarmChange
  exact (Kept.ite (Kept.ite h.logEntry h.logEntry).modMon (.ite h.logEntry h.logEntry)).raiseEvent

theorem Kept.evalAlarm {s t : State} {i : Nat} (h : Kept s t) : Kept s (t.evalAlarm i) := by
  unfold State.evalAlarm
  extract_lets a put tell
  have hput : ∀ x, Kept s (put t x) := fun _ => h.modMon
  have htell : ∀ u x, Kept s u → Kept s (tell u x) := by
    intro u x k
    unfold tell
    split
    · exact k.alarmChange
    · exact k
  refine .ite h (.ite ?_ (.ite h ?_))
  · exact htell _ _ (hput _)
  · exact htell _ _ (hput _).modMon

theorem Kept.evaluate {s t : State} (h : Kept s t) : Kept s t.evaluate := by
  unfold State.evaluate
  exact (h.foldl (fun _ _ k => k.evalAlarm)).modMon

theorem Kept.storeMonCtl {s t : State} {v : Nat} (h : Kept s t) : Kept s (t.storeMonCtl v) :=
  h.modMon

/-! ### Operations of Objects.lean -/

theorem Kept.keepRead {s t : State} {r : ObjectRow} (h : Kept s t) : Kept s (t.keepRead r) :=
  .ite h.same h

theorem Kept.writeEngCtl {s t : State} {v : Nat} (h : Kept s t) : Kept s (t.writeEngCtl v).1 := by
  unfold State.writeEngCtl
  dsimp only
  split
  · split
    · exact h.storeEngCtl.hostRepair
    · exact h.hostRepair
  · exact h.storeEngCtl

theorem Kept.writeCalCtl {s t : State} {v : Nat} (h : Kept s t) : Kept s (t.writeCalCtl v) := by
  unfold State.writeCalCtl
  exact .ite h.same (.ite h.same h.same.revert)

theorem Kept.clearAlarms {s t : State} {v : Nat} (h : Kept s t) : Kept s (t.clearAlarms v) :=
  h.modMon

theorem Kept.storeObject {s t : State} {id v : Nat} {bs : List Byte} (h : Kept s t) : Kept s (t.storeObject id v bs).1 := by
  unfold State.storeObject
  split
  · exact h.storeLinkCtl
  · exact h.storeDormantCtl
  · exact h.storeShapeCtl
  · exact h.storeFir
  · exact h.storeFir
  · exact h.storeFir
  · exact h.storeFir
  · exact h.storeMask
  · exact h.storeRxCtl
  · exact h.storeMonCtl
  · exact h.storeAlarms
  · exact h.clearAlarms
  · exact h.writeEngCtl
  · exact h.writeCalCtl
  · exact h.storeDiagCtl
  · exact h.storeClkCtl
  · exact h.storeWardCtl
  · exact h.storeMgmtCtl
  · exact h.storeHaspCfg
  · exact h.storeQlCtl
  · exact h.storeLegacyCtl
  · exact h.storeKnCtl
  · exact h

theorem Kept.setParam {s t : State} {q : Request} (h : Kept s t) : Kept s (t.setParam q) := by
  unfold State.setParam
  exact h.guarded (fun _ k => .ite k.storeGateCtl k.storeObject.finish)

theorem Kept.setParamOf {s t : State} {tag : BitVec 16} {p : Nat → Nat → Bool} (h : Kept s t) : Kept s (t.setParamOf tag p) := by
  unfold State.setParamOf
  split
  · exact .ite h (.ite (h.runRequest (fun _ _ k => k.setParam)) h)
  · exact h

theorem Kept.timeOut {s t : State} {q : Request} (h : Kept s t) : Kept s (t.timeOut q) := by
  unfold State.timeOut
  split
  · exact h.endCalItems
  · exact h.endDiagTests
  · exact h.unrun.finish.abortTest
  · exact (h.unrun (tag := q.cap.tag)).same.finish.abortTest
  · exact h.endKnuckle
  · exact (h.unrun (tag := q.cap.tag)).same.finish
  · exact (h.unrun (tag := q.cap.tag)).same.finish
  · exact h.unrun.finish

/-! ### Operations of StatePage.lean -/

theorem Kept.skipEpoch {s t : State} (h : Kept s t) : Kept s t.skipEpoch :=
  h.same

theorem Kept.beginPage {s t : State} (h : Kept s t) : Kept s t.beginPage := by
  unfold State.beginPage
  extract_lets a kind q head s1
  have h1 : Kept s s1 := h.writeLine.writeLines
  clear_value s1
  have refused : Kept s (t.setFp (fun f => { f with pageFault := true })) := h.same
  exact .ite refused.windowFault.skipEpoch h1.same

/-! ### Operations of Pins.lean -/

theorem Kept.smbAnswer {s t : State} {a : Nat} {pec : Bool} {code : Nat} {bs : List Byte} (h : Kept s t) : Kept s (t.smbAnswer a pec code bs) :=
  .ite h.emit h

end Sys2Proof.Machine
end

section
/-! PROOFS. Each command keeps them, but for the two that burn fuses; what that says of every step. -/

namespace Sys2Proof.Machine

set_option Elab.async false

/-- A command's outcome is a next state that keeps what every operation keeps. -/
def Keeps (s : State) (o : Host.Outcome State Fault Refusal) : Prop := ∃ t, o = .next t ∧ Kept s t

theorem Keeps.next {s t : State} (h : Kept s t) : Keeps s (.next t) := ⟨t, rfl, h⟩

/-! ### Commands of WardPath.lean -/

theorem execWardRxFrame_keeps (s : State) : Keeps s (execWardRxFrame s) := by
  have received : ∀ a v c r bs, Kept s (s.receiveWith a v c r bs).1 := fun _ _ _ _ _ => (Kept.refl s).receiveWith
  refine .next ?_
  split
  · exact .refl s
  · extract_lets bs sci n strict
    refine .ite (.refl s) (.ite (Kept.refl s).wardPass (.ite (.refl s) ?_))
    split
    · rename_i f _
      extract_lets a
      have h := received f (assocValidate a) (assocConf a) (assocReplay a) bs
      split <;> rename_i e <;> rw [e] at h
      · exact h.wardDiscard
      · exact h.wardPass
      · exact h.wardPass
    · refine .ite ?_ (.ite (Kept.wardDiscard (Kept.refl s).same) (Kept.refl s).wardPass)
      have h := received linkAssoc s.ward.linkValidate s.ward.linkConf s.ward.linkReplay bs
      split <;> rename_i e <;> rw [e] at h
      · exact h.wardDiscard
      · exact h.wardPass
      · exact h.wardPass

theorem execMkpdu_keeps (s : State) {m : MkaIn} : Keeps s (execMkpdu m s) := by
  refine .next ?_
  split
  · exact .refl s
  · refine .ite (.refl s) ?_
    extract_lets _ s1 s2 s3 s4
    have hs1 : Kept s s1 := (Kept.refl s).same
    have hs2 : Kept s s2 := hs1.same
    have hs3 : Kept s s3 := hs2.same
    have hs4 : Kept s s4 := by
      unfold s4
      split
      · exact hs3.installSlot.raiseEvent
      · exact hs3
    exact .ite hs1.same (.ite hs2 (.ite hs4.advance hs4))

theorem execMkaLifeExpiry_keeps (s : State) : Keeps s (execMkaLifeExpiry s) :=
  .next ((Kept.refl s).same)

/-! ### Commands of Benash.lean -/

theorem execIdentify_keeps (s : State) {tag : BitVec 16} : Keeps s (execIdentify tag s) :=
  .next ((Kept.refl s).runRequest (fun _ _ k => k.guarded (fun _ k1 => k1.finish)))

theorem execGetCaps_keeps (s : State) {tag : BitVec 16} : Keeps s (execGetCaps tag s) :=
  .next ((Kept.refl s).runRequest (fun _ _ k => k.guarded (fun _ k1 => k1.finish)))

theorem execLogRead_keeps (s : State) {tag : BitVec 16} : Keeps s (execLogRead tag s) :=
  .next ((Kept.refl s).runRequest (fun _ _ k => k.guarded (fun _ k1 => k1.finish)))

theorem execLogSuppressedRecord_keeps (s : State) : Keeps s (execLogSuppressedRecord s) :=
  .next (.ite ((Kept.refl s).same.logEntry.raiseEvent) (.refl s))

theorem execFwStage_keeps (s : State) {tag : BitVec 16} {bytes : List Byte} : Keeps s (execFwStage tag bytes s) := by
  refine .next ?_
  exact (Kept.refl s).runRequest (fun _ _ k => by
    exact k.guarded (fun _ k1 => by
      split
      · exact k1.windowFault.finish
      · extract_lets x s1 _
        have hs1 : Kept s s1 := k1.putOther
        exact hs1.same.finish))

theorem execFwCommit_keeps (s : State) {tag : BitVec 16} : Keeps s (execFwCommit tag s) := by
  refine .next ?_
  exact (Kept.refl s).runRequest (fun _ _ k => by
    exact k.guarded (fun _ k1 => by
      extract_lets x _ f s1 _
      have hs1 : Kept s s1 := k1.putOther
      split
      · exact k1.same.raiseEvent.finish
      · exact hs1.same.raiseEvent.finish))

/-- Ward and the NVM lose their keys together (R389, R393, R402). -/
theorem Kept.loseKeys {s t : State} (h : Kept s t) : Kept s { t with nvm := t.nvm.eraseKeys, ward := t.ward.eraseKeys } :=
  Kept.withNvm h.eraseKeys (n := t.nvm.eraseKeys) (fun _ => rfl)

/-- The marker that names the slot to run, written with the keys lost or kept (R427). -/
theorem Kept.markSlot {s t : State} {swap : Prop} [Decidable swap] {b : Bool} (h : Kept s t) : Kept s { t with
    nvm := { (if swap then t.nvm.eraseKeys else t.nvm) with markB := b }
    ward := if swap then t.ward.eraseKeys else t.ward
    ben := { t.ben with activating := true } } := by
  split
  · exact h.loseKeys.same
  · exact h.same

theorem execFwActivate_keeps (s : State) {tag : BitVec 16} : Keeps s (execFwActivate tag s) := by
  refine .next ((Kept.refl s).runRequest fun q u k => ?_)
  refine k.guarded fun v k => ?_
  extract_lets swap _ _ s1
  have h1 : Kept s s1 := k.markSlot
  clear_value s1
  exact h1.startRun.raiseEvent.startRestart

theorem execBenashWatchdog_keeps (s : State) : Keeps s (execBenashWatchdog s) :=
  .next (.ite (.refl s) ((Kept.refl s).same.startRestart.failTrial))

theorem execBenashRestartEnd_keeps (s : State) {sramGood : Bool} : Keeps s (execBenashRestartEnd sramGood s) := by
  refine .next ?_
  refine .ite (.refl s) ?_
  refine .ite ((Kept.refl s).raiseNme) ?_
  extract_lets s1 _ s2 s3
  have hs1 : Kept s s1 := (Kept.refl s).boot.flushQueue.loadFirst
  have hs2 : Kept s s2 := hs1.same.foldl (fun _ _ k => k.finish)
  have hs3 : Kept s s3 := .ite (hs2.foldl (fun _ _ k => k.resumeRun)) hs2
  exact hs3.resumeCalibration

theorem execBistRun_keeps (s : State) {tag : BitVec 16} : Keeps s (execBistRun tag s) :=
  .next ((Kept.refl s).runRequest (fun _ _ k => k.guarded (fun _ k1 => (Kept.ite k1.leaveDormant k1).startTest.startRun.stopBackground)))

theorem execBistAbort_keeps (s : State) {tag : BitVec 16} : Keeps s (execBistAbort tag s) :=
  .next ((Kept.refl s).runRequest (fun _ _ k => k.guarded (fun _ k1 => k1.abortTest.finish)))

theorem execBistTestEnd_keeps (s : State) {e : TestEnd} : Keeps s (execBistTestEnd e s) := by
  refine .next ?_
  split
  · exact .ite ((Kept.refl s).recordTest.finishShutdown) (.refl s)
  · extract_lets full fail result s1 s2 s3 s4
    have hs1 : Kept s s1 := (Kept.refl s).recordTest
    have hs2 : Kept s s2 := .ite hs1.retireElement (.ite hs1.laneToSpare hs1)
    have hs3 : Kept s s3 := hs2.endRun
    have hs4 : Kept s s4 := hs3.finishShutdown
    exact (Kept.ite hs4.startSearch hs4).releaseHeld

theorem execShutdownPrep_keeps (s : State) {tag : BitVec 16} : Keeps s (execShutdownPrep tag s) := by
  refine .next ((Kept.refl s).runRequest fun _ _ k => k.guarded fun _ k => ?_)
  extract_lets s1 s2 s3
  have h2 : Kept s s2 := k.abortTest.adminDown.startRun
  have h3 : Kept s s3 := h2.same
  exact .ite h3.startTest h3

theorem execStartUpTestEnd_keeps (s : State) {e : StartUpEnd} : Keeps s (execStartUpTestEnd e s) :=
  .next (.ite (.refl s) (.ite ((Kept.refl s).startupExcursion) (((Kept.refl s).same.recordTest.retireFailed.foldl (fun _ _ k => k.logEntry)).loadFirst)))

theorem execSdRecordDisarm_keeps (s : State) : Keeps s (execSdRecordDisarm s) :=
  .next ((Kept.refl s).same)

theorem execSensorRead_keeps (s : State) {temps : List Int} {supplies : List Nat} : Keeps s (execSensorRead temps supplies s) := by
  refine .next ?_
  refine .ite (.refl s) ?_
  extract_lets _ s1 s2 s3
  have hs1 : Kept s s1 := (Kept.refl s).same
  have hs2 : Kept s s2 := hs1.judgeTemps
  have hs3 : Kept s s3 := hs2.foldl (fun _ _ k => k.judgeSupply.judgeSupply)
  exact .ite hs3.excursion (.ite hs3.startTest hs3)

theorem execAgingMeasure_keeps (s : State) {fs : List (List (Nat × Nat))} : Keeps s (execAgingMeasure fs s) := by
  refine .next ?_
  refine .ite (.refl s) ?_
  exact (Kept.refl s).foldl (fun _ _ k => by
    split
    · exact k.measureAging
    · exact k)

theorem execSramScrub_keeps (s : State) {corrected : Nat} {bad : Bool} : Keeps s (execSramScrub corrected bad s) :=
  .next (.ite (.refl s) (.ite ((Kept.refl s).same.raiseNme.logEntry.startRestart) ((Kept.refl s).same)))

theorem execNvmScrub_keeps (s : State) {corrected : Nat} {bad : List NvmArea} : Keeps s (execNvmScrub corrected bad s) :=
  .next (.ite (.refl s) (.ite ((Kept.refl s).same.foldl (fun _ _ k => k.nvmError)) (((Kept.refl s).same.foldl (fun _ _ k => k.nvmError)).raiseEvent)))

/-! ### Commands of Engines.lean -/

theorem execStoreGrant_keeps (s : State) {c : StoreCycle} : Keeps s (execStoreGrant c s) := by
  refine .next ?_
  extract_lets s0 s1 s2 ticked s3
  have h1 : Kept s s1 := Kept.foldl (Kept.refl s).same fun _ _ k => k.withdrawWaiting
  have h2 : Kept s s2 := h1.foldl fun _ _ k => k.enterRequest
  have h3 : Kept s s3 := h2.withEng id rfl (by simp [ticked])
  have h4 : Kept s (s3.rounds (fun b => (ticked.getD b ({}, false)).2) (List.range 8)).1 := h3.rounds
  clear_value s3
  split
  rename_i s4 lost e
  rw [e] at h4
  extract_lets s5 s6
  have h5 : Kept s s5 := h4.markedReads.storeReads
  have h6 : Kept s s6 := h5.withEng id rfl (by simp)
  exact h6.foldl fun _ _ k => k.withdrawGrant

theorem execOverholdCutoff_keeps (s : State) {b : Nat} : Keeps s (execOverholdCutoff b s) := by
  refine .next ?_
  split
  · refine .ite (.refl s) ?_
    extract_lets s1 s2 at' s3 s4
    have h1 : Kept s s1 := (Kept.refl s).withEng id rfl (by simp)
    have h2 : Kept s s2 := h1.logEntry.raiseEvent
    have h4 : Kept s s4 := h2.modEngine.stopSlot
    exact .ite (.ite h4.repairCause h4) h2
  · exact .refl s

theorem execStoreScrub_keeps (s : State) {es : List (Nat × Nat × Bool)} : Keeps s (execStoreScrub es s) :=
  .next (.ite (.refl s) ((Kept.refl s).foldl (fun _ _ k => .ite k (.ite k.storeError k.modBank))))

theorem execSlotDeadline_keeps (s : State) {e i doneSegs prevEnd : Nat} : Keeps s (execSlotDeadline e i doneSegs prevEnd s) :=
  .next (.ite (.refl s) ((Kept.ite ((Kept.refl s).modEngine) (.refl s)).modEngine.stopSlot))

theorem execSlotBankSwitch_keeps (s : State) : Keeps s (execSlotBankSwitch s) :=
  .next ((Kept.refl s).bankSwitch.knuckleSettled)

theorem execSlotStageOpen_keeps (s : State) {tag : BitVec 16} : Keeps s (execSlotStageOpen tag s) :=
  .next ((Kept.refl s).runWhere (fun _ _ k => k.guarded (fun _ k1 => .ite k1.startRun.wakeCause (.ite k1.startRun k1.openStaging.finish))))

theorem Engines.inactive_wf {g : Engines} (h : g.canonical) : Sparse.wf 0 g.inactive = true := by
  obtain ⟨a, b⟩ := h
  unfold Engines.inactive
  split
  · exact a
  · exact b

theorem execSlotStageWrite_keeps (s : State) {tag : BitVec 16} : Keeps s (execSlotStageWrite tag s) := by
  refine .next ((Kept.refl s).runWhere fun _ _ k => k.guarded fun _ k => ?_)
  exact (k.putInactive fun ok => foldl_wf (fun _ _ => sset_wf _ _ _) _ (Engines.inactive_wf ok)).finish

theorem execSlotStageClear_keeps (s : State) {tag : BitVec 16} : Keeps s (execSlotStageClear tag s) := by
  refine .next ((Kept.refl s).runWhere fun _ _ k => k.guarded fun _ k => ?_)
  exact (k.putInactive fun ok => foldl_wf (fun _ _ => sset_wf _ _ _) _ (Engines.inactive_wf ok)).finish

theorem execSlotCommit_keeps (s : State) {tag : BitVec 16} : Keeps s (execSlotCommit tag s) := by
  refine .next ?_
  exact (Kept.refl s).runRequest (fun _ _ k => by
    exact k.guarded (fun _ k1 => by
      split
      · exact .ite (k1.guarded (fun _ k2 => k2.abortTest.commitStaging)) (.ite k1.same k1.deferRequest)
      · exact k1.guarded (fun _ k2 => k2.commitStaging)))

theorem execRepairStart_keeps (s : State) : Keeps s (execRepairStart s) := by
  refine .next ?_
  split
  · exact .refl s
  · extract_lets s0
    have h0 : Kept s s0 := (Kept.refl s).same
    refine .ite (.refl s) (.ite h0.retireIdle (.ite (Kept.refl s).wakeCause ?_))
    split
    · exact h0.modEngine.logEntry
    · rename_i k _
      have loading := h0.clearSpare (k := k) |>.modEngine (e := k) (f := fun x => { x with loading := true })
      exact loading.same

theorem execRepairLoadDone_keeps (s : State) {good : Bool} : Keeps s (execRepairLoadDone good s) := by
  refine .next ?_
  split
  · exact .refl s
  · rename_i r _
    refine .ite (.refl s) ?_
    extract_lets s1
    have h1 : Kept s s1 := (Kept.refl s).modEngine
    have failed := h1.logEntry (unitId := unitEngines) (sev := 2) (kind := kindRepair) (detail := r.cause) (obj := 0x02) (a0 := r.spare) (a1 := 0)
      (a2 := r.cause) (a3 := 0)
    exact .ite failed.same (.ite h1.same h1.stageRepair)

theorem execProgramSwap_keeps (s : State) : Keeps s (execProgramSwap s) := by
  refine .next (.ite (.refl s) (.ite (.refl s) ?_))
  extract_lets idle
  split
  · exact (Kept.refl s).loadNew
  · exact (Kept.refl s).same
  · rename_i e _ k _ _
    refine .ite (Kept.refl s).wakeCause ?_
    have moved : Kept s (((s.clearSpare k).loadNew idle).stageMove e k).1 := (Kept.refl s).clearSpare.loadNew.stageMove
    split
    rename_i s1 ok eq
    rw [eq] at moved
    exact .ite moved.loadNew moved.same

/-! ### Commands of Cal.lean -/

theorem execCalRun_keeps (s : State) {tag : BitVec 16} : Keeps s (execCalRun tag s) :=
  .next (.ite (.refl s) ((Kept.refl s).runRequest (fun _ _ k => k.leaveDormant.guarded (fun _ k1 => .ite k1.defer (k1.guarded (fun _ k2 => (Kept.ite k2.abortTest k2).startCal))))))

theorem execCalEstimateDone_keeps (s : State) {e : CalEst} : Keeps s (execCalEstimateDone e s) := by
  refine .next ?_
  split
  · exact (Kept.refl s).adcEstimate
  · exact (Kept.refl s).dacEstimate
  · exact (Kept.refl s).hybEstimate
  · exact (Kept.refl s).dielinkEstimate

theorem execSliceShadowDone_keeps (s : State) {p : Pair} {o g k : Int} : Keeps s (execSliceShadowDone p o g k s) := by
  refine .next ?_
  split
  · exact .ite (.refl s) ((Kept.refl s).modCal)
  · exact .refl s

theorem execCalNoEngine_keeps (s : State) : Keeps s (execCalNoEngine s) := by
  refine .next ?_
  split
  · exact .refl s
  · rename_i r hr
    split
    · exact .refl s
    · refine .ite (.refl s) ?_
      extract_lets rest _ s1
      have h1 : Kept s s1 := (Kept.refl s).withCal fun ok => by simpa [Cal.fiveResults, hr, setAt] using ok
      exact .ite h1.finishCal h1

theorem execCalTimeout_keeps (s : State) : Keeps s (execCalTimeout s) :=
  .next ((Kept.refl s).endCalItems)

theorem execCalExport_keeps (s : State) {tag : BitVec 16} : Keeps s (execCalExport tag s) := by
  refine .next ((Kept.refl s).runRequest fun q u k => ?_)
  refine k.guarded fun v k => ?_
  split
  · exact k.windowFault.finish
  · extract_lets s1
    have h1 : Kept s s1 := k.writeLines
    clear_value s1
    exact Kept.finish h1.same

theorem execCalImport_keeps (s : State) {tag : BitVec 16} {bytes : List Byte} : Keeps s (execCalImport tag bytes s) := by
  refine .next ?_
  refine .ite (.refl s) ?_
  exact (Kept.refl s).runRequest (fun _ _ k => by
    exact k.guarded (fun _ k1 => by
      split
      · exact k1.windowFault.finish
      · extract_lets b _
        split
        · exact k1.same.finish
        · exact k1.applyBlob.finish))

/-! ### Commands of Keyway.lean -/

theorem execSubmissionFetch_keeps (s : State) {i : Nat} {c : Capsule} : Keeps s (execSubmissionFetch i c s) := by
  refine .next (.ite (.refl s) ?_)
  split
  · exact (Kept.refl s).windowFault.haltRing
  · refine .ite (Kept.refl s).haltRing (.ite (.refl s) (.ite (.refl s) (.ite (.refl s) ?_)))
    split
    · exact (Kept.refl s).windowFault.haltRing
    · extract_lets s1 s2 s3
      have h2 : Kept s s2 := (Kept.refl s).modRing.modKwCnt.countCapsule
      have h3 : Kept s s3 := h2.takeTurn.modStats
      split
      · split
        · exact h2.refuseCapsule
        · exact .ite h2.takeRequest h2.modRing
      · split
        · exact h3.refuseCapsule
        · exact h3.modRing

theorem execNop_keeps (s : State) {i : Nat} : Keeps s (execNop i s) := by
  refine .next ?_
  split
  · exact .refl s
  · exact (Kept.refl s).modRing

theorem execFence_keeps (s : State) {i : Nat} : Keeps s (execFence i s) := by
  refine .next ?_
  split
  · exact .refl s
  · exact (Kept.refl s).modRing

theorem execSend_keeps (s : State) {i : Nat} : Keeps s (execSend i s) := by
  refine .next ?_
  split
  · exact .refl s
  · exact (Kept.refl s).sendCapsule

theorem execSendMulti_keeps (s : State) {i : Nat} : Keeps s (execSendMulti i s) := by
  refine .next ?_
  split
  · exact .refl s
  · exact (Kept.refl s).sendCapsule

theorem execSendDone_keeps (s : State) {i : Nat} : Keeps s (execSendDone i s) := by
  refine .next ?_
  split
  · exact .refl s
  · exact .ite (.refl s) (.ite ((Kept.refl s).modRing.complete) ((Kept.refl s).modRing))

theorem execFpEventWrite_keeps (s : State) {v : BitVec 32} : Keeps s (execFpEventWrite v s) :=
  .next ((Kept.refl s).writeEvent)

theorem execFpEventEnWrite_keeps (s : State) {v : BitVec 32} : Keeps s (execFpEventEnWrite v s) :=
  .next ((Kept.refl s).writeEventEn)

theorem readCounters_wf {t : Sparse Nat} (k n : Nat) (h : Sparse.wf 0 t = true) : Sparse.wf 0 (readCounters t k n).2 = true :=
  foldl_wf (fun _ _ => sset_wf _ _ _) _ h

theorem execFpEventCntRead_keeps (s : State) {word : Nat} {wide : Bool} : Keeps s (execFpEventCntRead word wide s) := by
  refine .next (.ite (Kept.refl s).emit (Kept.emit ?_))
  exact (Kept.refl s).withFp fun ⟨windows, msix, events, nmes⟩ => ⟨windows, msix, readCounters_wf _ _ events, nmes⟩

theorem execFpNmeStatusWrite_keeps (s : State) {v : BitVec 32} : Keeps s (execFpNmeStatusWrite v s) :=
  .next ((Kept.refl s).writeNme)

theorem execFpNmeCntRead_keeps (s : State) {word : Nat} {wide : Bool} : Keeps s (execFpNmeCntRead word wide s) := by
  refine .next (.ite (Kept.refl s).emit (Kept.emit ?_))
  exact (Kept.refl s).withFp fun ⟨windows, msix, events, nmes⟩ => ⟨windows, msix, events, readCounters_wf _ _ nmes⟩

theorem execFpFaultInfoRead_keeps (s : State) : Keeps s (execFpFaultInfoRead s) :=
  .next (.ite ((Kept.refl s).emit) ((Kept.refl s).same.emit))

theorem execFpStateAddrWrite_keeps (s : State) {v : BitVec 64} : Keeps s (execFpStateAddrWrite v s) :=
  .next (.ite (.refl s) ((Kept.refl s).writeStateAddr))

theorem execWindowWrite_keeps (s : State) {w off : Nat} {wide : Bool} {v : BitVec 64} : Keeps s (execWindowWrite w off wide v s) :=
  .next (.ite (.refl s) ((Kept.refl s).writeWindow))

theorem execRingEnable_keeps (s : State) {i : Nat} {v : BitVec 32} : Keeps s (execRingEnable i v s) :=
  .next (.ite ((Kept.refl s).enableRing) (.refl s))

theorem execRingStop_keeps (s : State) {i : Nat} {v : BitVec 32} : Keeps s (execRingStop i v s) :=
  .next (.ite ((Kept.refl s).disableRing) (.refl s))

theorem execSqTailWrite_keeps (s : State) {i : Nat} {v : BitVec 32} : Keeps s (execSqTailWrite i v s) :=
  .next ((Kept.refl s).writeSqTail)

theorem execCqHeadWrite_keeps (s : State) {i : Nat} {v : BitVec 32} : Keeps s (execCqHeadWrite i v s) :=
  .next ((Kept.refl s).writeCqHead)

theorem execRingReset_keeps (s : State) {i : Nat} : Keeps s (execRingReset i s) :=
  .next ((Kept.refl s).resetRing)

theorem execH2dSnoop_keeps (s : State) : Keeps s (execH2dSnoop s) :=
  .next (.ite ((Kept.refl s).emit) (.refl s))

theorem execCxlLinkUp_keeps (s : State) {width gt : Nat} : Keeps s (execCxlLinkUp width gt s) :=
  .next (.ite (.refl s) ((Kept.refl s).same.keywayRise.wakeAssert))

theorem execConfigurationWrite_keeps (s : State) {w : ConfigWrite} : Keeps s (execConfigurationWrite w s) :=
  .next (.ite (.refl s) ((Kept.refl s).same.wakeAssert))

theorem execCompletionWrite_keeps (s : State) {i : Nat} : Keeps s (execCompletionWrite i s) := by
  unfold execCompletionWrite
  extract_lets s0 r pos
  have h0 : Kept s s0 := .ite (Kept.refl s).placeNotice (.refl s)
  refine .next ?_
  split
  · exact h0
  · refine .ite h0.wakeAssert (.ite h0 ?_)
    split
    · exact h0.windowFault.haltRing
    · exact Kept.countCapsule (.ite h0.writeCapsule.modRing.modKwCnt h0.writeCapsule.modRing.modKwCnt.modStats)

theorem execCompletionObserved_keeps (s : State) {i : Nat} : Keeps s (execCompletionObserved i s) := by
  refine .next ?_
  split
  · exact .refl s
  · extract_lets s1 _
    have hs1 : Kept s s1 := (Kept.refl s).modRing
    exact hs1.same.signalRing

theorem execIrqHoldoffExpiry_keeps (s : State) {i : Nat} : Keeps s (execIrqHoldoffExpiry i s) :=
  .next (.ite ((Kept.refl s).modRing.signalVector) (.refl s))

theorem execEventSignalMerge_keeps (s : State) : Keeps s (execEventSignalMerge s) :=
  .next (.ite ((Kept.refl s).same.signalVector) (.refl s))

theorem execFrameClassify_keeps (s : State) : Keeps s (execFrameClassify s) := by
  refine .next ?_
  split
  · exact (Kept.refl s).classifyEarly
  · rename_i x _
    extract_lets c f
    have checked : Kept s (if x.good then s.checkUnverified f x else (s, true)).1 := .ite_fst (Kept.refl s).checkUnverified (.refl s)
    split
    rename_i s1 ok e
    rw [e] at checked
    have delivered : Kept s (s1.deliver c x false).1 := checked.deliver
    refine .ite (.ite checked.deliver.dropFrame checked.dropFrame) (.ite (.ite checked.dropFrame.holdFrame checked.dropFrame) (.ite (.refl s) ?_))
    refine .ite (.ite checked.dropFrame.dropRing checked.dropFrame) (.ite (.ite checked.dropFrame.noSpace checked.dropFrame)
      (.ite (.ite checked.dropFrame.overflow checked.dropFrame) ?_))
    split
    rename_i s2 fit e
    rw [e] at delivered
    exact .ite delivered.dropFrame (.ite delivered.dropFrame delivered.dropFrame.noSpace)

theorem execHeldFrameDelivery_keeps (s : State) {f : Nat} : Keeps s (execHeldFrameDelivery f s) := by
  refine .next ?_
  split
  · exact .refl s
  · rename_i x _
    refine .ite (.refl s) ?_
    have delivered : Kept s (s.deliver { s.classOf x.frame with early := none } x.frame true).1 := (Kept.refl s).deliver
    split
    rename_i s1 fit e
    rw [e] at delivered
    exact .ite delivered.same (.refl s)

theorem execRxMultiClose_keeps (s : State) {i : Nat} : Keeps s (execRxMultiClose i s) :=
  .next (.ite ((Kept.refl s).modRing) (.refl s))

/-! ### Commands of Timeline.lean -/

theorem execTimelineBoundary_keeps (s : State) {ls : List EngineLoad} {adc : Quad (List Int)} : Keeps s (execTimelineBoundary ls adc s) := by
  refine .next ?_
  refine .ite (.refl s) ?_
  extract_lets s1 s2 _ s3 s4 s5
  have hs1 : Kept s s1 := (Kept.refl s).recordLoad.enterPeriod.acquireGain
  have hs2 : Kept s s2 := hs1.same
  have hs3 : Kept s s3 := hs2.same
  have hs4 : Kept s s4 := .ite hs3.trainIn hs3
  have hs5 : Kept s s5 := .ite hs4.loopbackIn hs4
  exact hs5.openEngines.calTick.txPeriod

/-! ### Commands of InfoField.lean -/

theorem execThpCoef_keeps (s : State) : Keeps s (execThpCoef s) :=
  .next ((Kept.refl s).onMessage (fun _ _ _ k => k.same))

theorem execThpSwitch_keeps (s : State) : Keeps s (execThpSwitch s) := by
  refine .next ((Kept.refl s).onMessage fun m seq u k => ?_)
  extract_lets at' ps d ok
  have taken : Kept s { u with lc := { u.lc with lastAt := at', run := { u.lc.run with pendSwitch := u.lc.run.pendSwitch ++ [u.switchOf ps at'] } } } := k.same
  split
  · exact taken.modTrain (f := fun t => { t with farSwitch := true })
  · exact k

theorem execAck_keeps (s : State) : Keeps s (execAck s) := by
  refine .next ?_
  split
  · exact .refl s
  · extract_lets s1 nak
    have hs1 : Kept s s1 := (Kept.refl s).popMsg
    split
    · exact hs1
    · exact .ite hs1.same.modTrain hs1

theorem execPeerId_keeps (s : State) : Keeps s (execPeerId s) := by
  refine .next ((Kept.refl s).onMessage fun m seq u k => ?_)
  dsimp only
  exact k.modLink

theorem execInfofieldRetry_keeps (s : State) : Keeps s (execInfofieldRetry s) := by
  refine .next ?_
  extract_lets kn
  split
  · exact .refl s
  · exact .ite (.refl s) (.ite ((Kept.refl s).same.modLc.drawn.drawn.logEntry.raiseEvent) ((Kept.refl s).same.modLc))

theorem execThpSetActivate_keeps (s : State) : Keeps s (execThpSetActivate s) :=
  .next ((Kept.refl s).same.foldl (fun _ _ k => k.applySwitch))

/-! ### Commands of Receive.lean -/

theorem execDecodeRelease_keeps (s : State) {d : DecodeIn} : Keeps s (execDecodeRelease d s) :=
  .next (.ite ((Kept.refl s).nativeIn) (.ite ((Kept.refl s).standardIn) (.refl s)))

theorem execDriftGuardEval_keeps (s : State) : Keeps s (execDriftGuardEval s) :=
  .next (.ite (.refl s) (.ite ((Kept.refl s).recordDrift) ((Kept.refl s).recordDrift.trip)))

/-! ### Commands of Link.lean -/

theorem execNegotiationStart_keeps (s : State) : Keeps s (execNegotiationStart s) :=
  .next (.ite ((Kept.refl s).beginNegotiation) (.refl s))

theorem execFastLinkPulseBurst_keeps (s : State) {p : LinkPage} : Keeps s (execFastLinkPulseBurst p s) :=
  .next (.ite (.refl s) ((Kept.refl s).burstIn.modLink))

theorem execNativeAbilityMessage_keeps (s : State) {oui u1 u2 u3 : Nat} : Keeps s (execNativeAbilityMessage oui u1 u2 u3 s) :=
  .next (.ite (.refl s) (.ite ((Kept.refl s).burstIn) (.ite ((Kept.refl s).burstIn.modLink) (.ite ((Kept.refl s).burstIn.modLink) ((Kept.refl s).burstIn.modLink)))))

theorem execNegotiationResolve_keeps (s : State) {farMs : Nat} {autoRole : Option Bool} : Keeps s (execNegotiationResolve farMs autoRole s) := by
  refine .next ?_
  extract_lets n common s1
  have h1 : Kept s s1 := (Kept.refl s).recordPartner.modLink
  refine .ite (.refl s) (.ite (Kept.refl s).modLink.ladderReset.startNegotiation.beginNegotiation ?_)
  generalize common = r
  cases r with
  | none => exact h1.linkFail
  | some r => exact h1.takeRole

theorem execNoPartnerTimer_keeps (s : State) : Keeps s (execNoPartnerTimer s) :=
  .next (.ite ((Kept.refl s).modLink) (.refl s))

theorem execLadderResetTimer_keeps (s : State) : Keeps s (execLadderResetTimer s) :=
  .next (.ite ((Kept.refl s).ladderReset) (.refl s))

theorem execEnergyDetect_keeps (s : State) {p : Pair} : Keeps s (execEnergyDetect p s) :=
  .next (.ite ((Kept.refl s).modLink) ((Kept.refl s).modLink.leaveDormant))

theorem execEnergyLoss_keeps (s : State) {p : Pair} : Keeps s (execEnergyLoss p s) :=
  .next (.ite ((Kept.refl s).modLink.linkDown) ((Kept.refl s).modLink))

theorem execTrainingWord_keeps (s : State) {w : BitVec 64} {m : TrainMeas} : Keeps s (execTrainingWord w m s) := by
  refine .next ?_
  extract_lets v fits good
  exact .ite ((Kept.refl s).dropPartial.dropItem.same.wordIn) (.ite ((Kept.refl s).pairWord) (.ite (.refl s) (.ite ((Kept.refl s).modTrain.wordIn) ((Kept.refl s).modTrain.wordBad))))

theorem execPhaseChange_keeps (s : State) {e : PhaseEnd} : Keeps s (execPhaseChange e s) := by
  refine .next ?_
  extract_lets t s1 _ go s1' _ s2
  have next : Kept s s.nextPhase := (Kept.refl s).nextPhase
  have h1 : Kept s s1 := next.modTrain
  have h2 : Kept s s2 := next.same
  split
  · exact .ite (Kept.refl s).modTrain (.ite (.refl s) h1.same)
  · exact .ite (.refl s) next.same
  · exact .ite (.refl s) (Kept.drawn h2.same)
  · exact .ite next (.refl s)
  · exact .ite (Kept.refl s).reachData (.refl s)
  · exact .refl s

theorem execPhaseTimer_keeps (s : State) {seen : BitVec 4} : Keeps s (execPhaseTimer seen s) := by
  refine .next ?_
  split
  · exact (Kept.refl s).linkFail
  · exact (Kept.refl s).linkFail
  · exact (Kept.refl s).linkFail
  · exact (Kept.refl s).linkFail
  · exact (Kept.refl s).linkFail
  · exact .refl s

theorem execBreakEnd_keeps (s : State) : Keeps s (execBreakEnd s) :=
  .next (.ite ((Kept.refl s).startNegotiation.beginNegotiation) (.refl s))

theorem execHdrLoss_keeps (s : State) : Keeps s (execHdrLoss s) :=
  .next (.ite ((Kept.refl s).linkDown) (.refl s))

theorem execStdTrainingDone_keeps (s : State) {e : PhaseEnd} : Keeps s (execStdTrainingDone e s) :=
  .next (.ite (.refl s) ((Kept.refl s).same.modQl.enterData))

theorem execStdLinkFail_keeps (s : State) {seen : BitVec 4} : Keeps s (execStdLinkFail seen s) :=
  .next (.ite ((Kept.refl s).linkFail) (.ite ((Kept.refl s).linkFail) (.refl s)))

theorem execStdRateConfirm_keeps (s : State) : Keeps s (execStdRateConfirm s) :=
  .next (.ite ((Kept.refl s).modLink) (.refl s))

theorem execRaSet_keeps (s : State) : Keeps s (execRaSet s) :=
  .next (.ite ((Kept.refl s).modLink.setStatus) (.refl s))

theorem execRateConfirmed_keeps (s : State) : Keeps s (execRateConfirmed s) :=
  .next (.ite ((Kept.refl s).modLink) (.refl s))

theorem execRemoteFault_keeps (s : State) : Keeps s (execRemoteFault s) :=
  .next (.ite (.ite ((Kept.refl s).askRetrain) ((Kept.refl s).linkDown)) (.refl s))

theorem execFastRetrainRequest_keeps (s : State) : Keeps s (execFastRetrainRequest s) :=
  .next (.ite ((Kept.refl s).askRetrain) (.refl s))

theorem execFastRetrainStart_keeps (s : State) : Keeps s (execFastRetrainStart s) := by
  refine .next ?_
  refine .ite ?_ (.refl s)
  extract_lets s1
  have hs1 : Kept s s1 := (Kept.refl s).enter.modLink
  exact hs1.recallStream.same

theorem execFastRetrainEnd_keeps (s : State) : Keeps s (execFastRetrainEnd s) := by
  refine .next ?_
  refine .ite (.refl s) ?_
  extract_lets dur s1 s2 _
  have hs1 : Kept s s1 := (Kept.refl s).modLink
  have hs2 : Kept s s2 := .ite hs1.takeSnapshot.freshTx.same hs1
  exact hs2.same.endRun

theorem execFastRetrainTimeout_keeps (s : State) : Keeps s (execFastRetrainTimeout s) :=
  .next (.ite ((Kept.refl s).modLinkCnt.linkFail) (.refl s))

theorem execLinkUp_keeps (s : State) {tag : BitVec 16} : Keeps s (execLinkUp tag s) := by
  refine .next ((Kept.refl s).runRequest fun _ _ k => k.yieldFullTest.guarded fun _ k => ?_)
  exact .ite k.interruptDiagRun.leaveDormant.finish k.startRun.interruptDiagRun.ladderReset.startNegotiation.leaveDormant.beginNegotiation

theorem execLinkDown_keeps (s : State) {tag : BitVec 16} : Keeps s (execLinkDown tag s) :=
  .next ((Kept.refl s).runRequest (fun _ _ k => k.guarded (fun _ k1 => k1.adminDown.finish)))

theorem execTrainFull_keeps (s : State) {tag : BitVec 16} : Keeps s (execTrainFull tag s) :=
  .next ((Kept.refl s).runWhere (fun _ _ k => k.yieldFullTest.guarded (fun _ k1 => .ite k1.finish k1.interruptDiagRun.leaveDormant.hostTrain.finish)))

theorem execTrainFast_keeps (s : State) {tag : BitVec 16} : Keeps s (execTrainFast tag s) :=
  .next ((Kept.refl s).runWhere (fun _ _ k => k.yieldFullTest.guarded (fun _ k1 => k1.interruptDiagRun.startRun.askRetrain)))

/-! ### Commands of DieLink.lean -/

theorem execAlignmentSearch_keeps (s : State) : Keeps s (execAlignmentSearch s) :=
  .next (.ite (.refl s) ((Kept.refl s).startSearch))

theorem DlDir.length_search (d : DlDir) (ts : List LaneTest) : (d.search ts).lanes.length = d.lanes.length := by simp [DlDir.search, mapLanes]

theorem execAlignmentSearchEnd_keeps (s : State) {outb inb : List LaneTest} : Keeps s (execAlignmentSearchEnd outb inb s) := by
  refine .next (.ite (.refl s) ?_)
  extract_lets o i _ s1 say
  have h1 : Kept s s1 := (Kept.refl s).withDl (DlDir.length_search _ _) (DlDir.length_search _ _)
  have hsay : ∀ u d inb was, Kept s u → Kept s (say u d inb was) := fun _ _ _ _ k => .ite k.logEntry (.ite k.noteReduced k)
  exact hsay _ _ _ _ (hsay _ _ _ _ h1)

theorem execAlignmentRetry_keeps (s : State) : Keeps s (execAlignmentRetry s) :=
  .next (.ite (.refl s) ((Kept.refl s).startSearch))

theorem execLaneSubstitution_keeps (s : State) {inb : Bool} {lane cause : Nat} : Keeps s (execLaneSubstitution inb lane cause s) :=
  .next ((Kept.refl s).laneCause)

theorem execSpareCleanCount_keeps (s : State) {inb : Bool} : Keeps s (execSpareCleanCount inb s) := by
  refine .next ?_
  split
  · exact .ite (.refl s) ((Kept.refl s).modDir.drawn)
  · exact .refl s

theorem DlDir.length_move (d : DlDir) (old spare : Nat) : (d.move old spare).lanes.length = d.lanes.length := by simp [DlDir.move, DlDir.modLane, modAt]

theorem execSubstitutionSwitch_keeps (s : State) {inb : Bool} : Keeps s (execSubstitutionSwitch inb s) := by
  refine .next ?_
  split
  · exact .refl s
  · split
    · exact .refl s
    · refine .ite (.refl s) ?_
      extract_lets s1 _ s2
      have h1 : Kept s s1 := (Kept.refl s).modDir fun d => d.length_move _ _
      have h2 : Kept s s2 := h1.same
      exact h2.logEntry.raiseEvent.nextSubst

theorem DlDir.length_discard (d : DlDir) (frame lane room : Nat) : (d.discard frame lane room).lanes.length = d.lanes.length := by
  unfold DlDir.discard
  dsimp only
  split
  · rfl
  · rfl

theorem DlDir.length_modLane (d : DlDir) (k : Nat) (f : Lane → Lane) : (d.modLane k f).lanes.length = d.lanes.length := List.length_modify _ _ _

theorem execLaneFrameCheck_keeps (s : State) {inb : Bool} {lane frame : Nat} {ws : List (BitVec 32)} :
    Keeps s (execLaneFrameCheck inb lane frame ws s) := by
  refine .next ?_
  extract_lets d l dup lanes n c fails s1 x s2 s3
  have h1 : Kept s s1 := (Kept.refl s).modDir fun d => d.length_modLane _ _
  have h2 : Kept s s2 := h1.modDir fun d => d.length_discard _ _ _
  have h3 : Kept s s3 := .ite h2.eraseLane h2.doubtLane
  refine .ite (.refl s) (.ite (.ite (.refl s) ((Kept.refl s).modDir)) (.ite (Kept.laneCause ?_) (.ite h3.laneCause h3)))
  exact h1.modDir fun d => d.length_modLane _ _

theorem execDormantEntry_keeps (s : State) : Keeps s (execDormantEntry s) := by
  refine .next (.ite (.refl s) (Kept.gateEngines ?_))
  have dropped : ∀ d : DlDir, (match d.subst with
      | some x => { d with subst := none, waiting := (x.old, x.cause) :: d.waiting }
      | none => d : DlDir).lanes.length = d.lanes.length := by
    intro d
    split
    · rfl
    · rfl
  have asleep := (Kept.refl s).withDl (d := { s.dl with deep := true, outb := _, inb := _ }) (dropped s.dl.outb) (dropped s.dl.inb)
  exact asleep.same

theorem execDormantExit_keeps (s : State) : Keeps s (execDormantExit s) :=
  .next (.ite ((Kept.refl s).leaveDormant) (.refl s))

theorem execDeepLowPowerExit_keeps (s : State) {outb inb : List Nat} : Keeps s (execDeepLowPowerExit outb inb s) := by
  refine .next ?_
  refine .ite (.refl s) ?_
  extract_lets _ _ s1 s2
  have hs1 : Kept s s1 := (Kept.refl s).same
  have hs2 : Kept s s2 := (hs1.foldl (fun _ _ k => k.replaceAtExit)).foldl (fun _ _ k => k.replaceAtExit)
  exact (Kept.ite hs2.startNegotiation hs2).nextSubst.nextSubst.gateEngines

theorem execCableDischarge_keeps (s : State) {p : Pair} : Keeps s (execCableDischarge p s) :=
  .next (.ite (.refl s) ((Kept.refl s).modPwr.logEntry))

/-! ### Commands of Quiet.lean -/

theorem execQlIdleTimer_keeps (s : State) : Keeps s (execQlIdleTimer s) := by
  refine .next (.ite (.refl s) ?_)
  extract_lets s1 bank
  have h1 : Kept s s1 := (Kept.refl s).openStaging
  clear_value s1
  split
  · exact Kept.modQl (Kept.logEntry h1.same)
  · have staged : Kept s (s1.modEng (·.putInactive bank)) := h1.putInactive fun _ => s1.profileBank_wf _
    exact (Kept.setStatus staged.same).modQl

theorem execQuietWithdraw_keeps (s : State) : Keeps s (execQuietWithdraw s) :=
  .next (.ite (.refl s) ((Kept.refl s).withdrawQuiet))

theorem execQuietStart_keeps (s : State) : Keeps s (execQuietStart s) := by
  refine .next ?_
  extract_lets x s1 s2 s3
  have h1 : Kept s s1 := .ite (.refl s) (Kept.refl s).openStaging
  clear_value s1
  have staged : Kept s (s1.modEng (·.putInactive (s1.profileBank s1.quietProfile))) := h1.putInactive fun _ => s1.profileBank_wf _
  have h2 : Kept s s2 := staged.same
  exact .ite (.refl s) h2.modQl.modQlCnt.judgeQuiet

theorem execEntryAbort_keeps (s : State) : Keeps s (execEntryAbort s) :=
  .next (.ite ((Kept.refl s).modQlCnt.wakeCause) (.refl s))

theorem execRefreshWindow_keeps (s : State) {far : Option Bool} : Keeps s (execRefreshWindow far s) := by
  refine .next ?_
  extract_lets ri
  split
  · exact .ite (.refl s) (.ite ((Kept.refl s).modQlCnt) ((Kept.refl s).modQlCnt))
  · refine .ite (.ite ((Kept.refl s).modQlCnt) (.refl s)) ?_
    split
    · exact .ite ((Kept.refl s).modQl) (.refl s)
    · exact .refl s

theorem execWakeBurstStart_keeps (s : State) : Keeps s (execWakeBurstStart s) := by
  refine .next ?_
  split
  · exact .refl s
  · exact .ite (.refl s) ((Kept.refl s).same.modQl.setStatus.modQlCnt.driveBurst)

theorem execOnset_keeps (s : State) {k : RxInstant} : Keeps s (execOnset k s) :=
  .next (.ite (.refl s) ((Kept.refl s).holdReception.startGain.modQl))

theorem execAcquisitionTimeout_keeps (s : State) {k : RxInstant} : Keeps s (execAcquisitionTimeout k s) := by
  refine .next ?_
  split
  · exact .refl s
  · exact .ite (.refl s) (.ite ((Kept.refl s).abandon.modQl) ((Kept.refl s).abandon.modQlCnt))

theorem execLatchPoint_keeps (s : State) {k : RxInstant} : Keeps s (execLatchPoint k s) := by
  refine .next ?_
  split
  · exact .refl s
  · extract_lets w
    have hw : Kept s w := (Kept.refl s).withPart
    refine .ite (.refl s) ?_
    split
    · exact .ite ((Kept.refl s).latchAt) (.refl s)
    · exact .ite ((Kept.refl s).latchAt) (.ite ((Kept.refl s).latchAt) (.refl s))

theorem execSyncWord_keeps (s : State) {k : RxInstant} : Keeps s (execSyncWord k s) := by
  refine .next ?_
  split
  · exact .refl s
  · refine .ite (.refl s) ?_
    split
    · exact .ite ((Kept.refl s).acceptSync) ((Kept.refl s).modQlCnt)
    · exact (Kept.refl s).modQlCnt

theorem execSyncSearchTimeout_keeps (s : State) : Keeps s (execSyncSearchTimeout s) := by
  refine .next ?_
  split
  · exact .ite ((Kept.refl s).falseWake) (.refl s)
  · exact .refl s

theorem execSettleHeaderTimeout_keeps (s : State) : Keeps s (execSettleHeaderTimeout s) := by
  refine .next ?_
  split
  · exact .ite ((Kept.refl s).falseWake) (.refl s)
  · exact .refl s

theorem execReceptionConfirmed_keeps (s : State) : Keeps s (execReceptionConfirmed s) := by
  refine .next ?_
  split
  · exact .ite ((Kept.refl s).modQlCnt.endReception.rxAwake) (.refl s)
  · exact .refl s

theorem execListenTimeout_keeps (s : State) : Keeps s (execListenTimeout s) :=
  .next (.ite ((Kept.refl s).same.gapChain.modQl.modQlCnt) (.refl s))

theorem execCapture_keeps (s : State) {k : RxInstant} : Keeps s (execCapture k s) := by
  refine .next ?_
  split
  · exact .refl s
  · exact .ite (.refl s) (.ite (.ite ((Kept.refl s).latchAt) ((Kept.refl s).modRec)) (.ite ((Kept.refl s).captureAt) ((Kept.refl s).modQlCnt)))

theorem execQlHdrLoss_keeps (s : State) : Keeps s (execQlHdrLoss s) :=
  .next (.ite ((Kept.refl s).linkDown) (.refl s))

theorem execLpiSleep_keeps (s : State) {own : Bool} : Keeps s (execLpiSleep own s) :=
  .next (.ite (.refl s) ((Kept.ite ((Kept.refl s).modQl) ((Kept.refl s).holdPhase.modQl)).modQlCnt.judgeQuiet))

theorem execLpiWake_keeps (s : State) {own : Bool} : Keeps s (execLpiWake own s) :=
  .next (.ite (.refl s) (.ite ((Kept.ite ((Kept.refl s).modQlCnt.modQl) ((Kept.refl s).modQlCnt.modQl)).awake) ((Kept.refl s).legacyWake.modQl.modQlCnt.awake)))

theorem execLegacyBurstDetect_keeps (s : State) {rate : Nat} {k : RxInstant} : Keeps s (execLegacyBurstDetect rate k s) :=
  .next (.ite (.refl s) (.ite (.refl s) ((Kept.ite (.refl s) ((Kept.refl s).holdReception)).latchAt.modQlCnt)))

theorem execLegacyWakeTimeout_keeps (s : State) : Keeps s (execLegacyWakeTimeout s) := by
  refine .next ?_
  split
  · exact .ite ((Kept.refl s).modQlCnt.abandon) (.refl s)
  · exact .refl s

/-! ### Commands of Ward.lean -/

theorem execWardKat_keeps (s : State) {tag : BitVec 16} : Keeps s (execWardKat tag s) :=
  .next ((Kept.refl s).runRequest (fun _ _ k => k.guarded (fun _ k1 => k1.startRun)))

theorem execSaAdvance_keeps (s : State) {tag : BitVec 16} : Keeps s (execSaAdvance tag s) := by
  refine .next ((Kept.refl s).runRequest fun q u k => ?_)
  refine k.guarded fun v k => ?_
  have moved : Kept s (v.advance (q.cap.arg 28 2)).1 := k.advance
  split <;> rename_i e <;> rw [e] at moved
  · exact k.finish
  · exact moved.finish

theorem execKeyErase_keeps (s : State) {tag : BitVec 16} : Keeps s (execKeyErase tag s) :=
  .next ((Kept.refl s).runRequest (fun _ _ k => k.guarded (fun _ k1 => k1.eraseSlots.raiseEvent.finish)))

theorem execGetVersion_keeps (s : State) : Keeps s (execGetVersion s) :=
  .next (.ite ((Kept.refl s).same.emit) (.refl s))

theorem execGetCapabilities_keeps (s : State) : Keeps s (execGetCapabilities s) :=
  .next (.ite (.refl s) (.ite ((Kept.refl s).emit) ((Kept.refl s).same.emit)))

theorem execNegotiateAlgorithms_keeps (s : State) {p384 sha384 ecdhe aead : Bool} : Keeps s (execNegotiateAlgorithms p384 sha384 ecdhe aead s) :=
  .next (.ite (.refl s) (.ite ((Kept.refl s).emit) ((Kept.refl s).same.emit)))

theorem execGetDigests_keeps (s : State) : Keeps s (execGetDigests s) :=
  .next (.ite (.refl s) (.ite ((Kept.refl s).emit) ((Kept.refl s).emit)))

theorem execGetCertificate_keeps (s : State) {slot off len : Nat} : Keeps s (execGetCertificate slot off len s) :=
  .next (.ite (.refl s) (.ite ((Kept.refl s).emit) (.ite ((Kept.refl s).emit) ((Kept.refl s).emit))))

theorem execSetCertificate_keeps (s : State) {sid : Option Nat} {chain : List Byte} : Keeps s (execSetCertificate sid chain s) :=
  .next (.ite (.refl s) (.ite ((Kept.refl s).same.emit) ((Kept.refl s).emit)))

theorem execChallenge_keeps (s : State) {slot : Nat} {nonce : BitVec 256} : Keeps s (execChallenge slot nonce s) :=
  .next (.ite (.refl s) (.ite ((Kept.refl s).emit) ((Kept.refl s).signed)))

theorem execGetMeasurements_keeps (s : State) {index : Nat} {sign : Bool} : Keeps s (execGetMeasurements index sign s) := by
  refine .next (.ite (.refl s) (.ite (Kept.refl s).emit ?_))
  extract_lets body
  generalize body = b
  cases b with
  | none => exact (Kept.refl s).emit
  | some b => exact .ite (Kept.refl s).signed (Kept.refl s).emit

theorem execKeyExchange_keeps (s : State) : Keeps s (execKeyExchange s) := by
  refine .next ?_
  refine .ite (.refl s) ?_
  refine .ite ((Kept.refl s).emit) ?_
  refine .ite ((Kept.refl s).emit) ?_
  split
  · exact (Kept.refl s).emit
  · exact (Kept.refl s).same.signed

theorem execFinish_keeps (s : State) {sid : Nat} {good : Bool} {auth : Option (BitVec 384 × BitVec 384)} : Keeps s (execFinish sid good auth s) :=
  .next (.ite (.refl s) (.ite ((Kept.refl s).same.emit) ((Kept.refl s).same.raiseEvent.emit)))

theorem execKeyUpdate_keeps (s : State) {sid : Nat} : Keeps s (execKeyUpdate sid s) :=
  .next (.ite (.refl s) ((Kept.refl s).same.emit))

theorem execHeartbeat_keeps (s : State) {sid : Nat} : Keeps s (execHeartbeat sid s) :=
  .next (.ite (.refl s) ((Kept.refl s).emit))

theorem execEndSession_keeps (s : State) {sid : Nat} : Keeps s (execEndSession sid s) :=
  .next (.ite (.refl s) ((Kept.refl s).same.raiseEvent.emit))

theorem execIdeKm_keeps (s : State) {sid : Nat} {cache go : Bool} : Keeps s (execIdeKm sid cache go s) :=
  .next (.ite (.refl s) ((Kept.refl s).same.emit))

/-- A KEK and its stored image change together (R387). -/
theorem Kept.setKek {s t : State} {k : Nat} {x : Kek} {y : StoredKek} (h : Kept s t) :
    Kept s { t with ward := { t.ward with keks := sset {} t.ward.keks k x }, nvm := { t.nvm with keks := sset {} t.nvm.keks k y } } := by
  have installed := h.withWard (w := { t.ward with keks := sset {} t.ward.keks k x }) fun ⟨slots, info, keks⟩ => ⟨slots, info, sset_wf _ _ _ keks⟩
  exact installed.withNvm (n := { t.nvm with keks := sset {} t.nvm.keks k y }) (sset_wf _ _ _)

theorem Kept.setKekIf {s t : State} {p : Prop} [Decidable p] {k : Nat} {x : Kek} {y z : StoredKek} (h : Kept s t) :
    Kept s { t with
      ward := { t.ward with keks := sset {} t.ward.keks k x }
      nvm := if p then { t.nvm with keks := sset {} t.nvm.keks k y } else { t.nvm with keks := sset {} t.nvm.keks k z } } := by
  split
  · exact h.setKek
  · exact h.setKek

theorem execKekInstall_keeps (s : State) {m : WardMsg} : Keeps s (execKekInstall m s) := by
  refine .next ((Kept.refl s).message fun x u k => ?_)
  dsimp only
  split
  · exact k.answer
  · exact Kept.answer (Kept.raiseEvent k.setKekIf)

theorem execKekErase_keeps (s : State) {m : WardMsg} : Keeps s (execKekErase m s) := by
  refine .next ((Kept.refl s).message fun x u k => ?_)
  dsimp only
  split
  · exact k.answer
  · exact (Kept.raiseEvent k.setKek).answer

/-- A key installed in a flow's slots, bound to its tenant and counted (R382, R389). -/
theorem Kept.bindKey {s t : State} {a an i : Nat} {sak salt ssci : List Byte} (h : Kept s t) :
    Kept s ((t.installSlot a an sak salt ssci).modWard (fun w => { w with
      info := smod {} w.info a (fun x => { x with tenant := some i })
      cnt := { w.cnt with keyInstalls := inc 32 w.cnt.keyInstalls } })) := by
  have installed : Kept s (t.installSlot a an sak salt ssci) := h.installSlot
  have bound := installed.modInfo (a := a) (f := fun x => { x with tenant := some i })
  exact bound.same

theorem execKeyInstall_keeps (s : State) {m : WardMsg} : Keeps s (execKeyInstall m s) := by
  refine .next ((Kept.refl s).message fun x u k => ?_)
  dsimp only
  split
  · exact k.refuseKey
  · exact (Kept.raiseEvent k.bindKey).answer

theorem execKeyEraseMsg_keeps (s : State) {m : WardMsg} : Keeps s (execKeyEraseMsg m s) := by
  refine .next ?_
  exact (Kept.refl s).message (fun _ _ k => by
    extract_lets f mine
    split
    · exact k.answer
    · exact k.eraseSlots.raiseEvent.answer)

theorem execCakInstall_keeps (s : State) {m : WardMsg} : Keeps s (execCakInstall m s) := by
  refine .next ((Kept.refl s).message fun x u k => ?_)
  extract_lets n cak key ckn persist _ _ s1
  have h1 : Kept s s1 := k.same
  split
  · exact k.answer
  · exact h1.raiseEvent.answer

theorem execHaspSet_keeps (s : State) {m : WardMsg} : Keeps s (execHaspSet m s) := by
  refine .next ?_
  exact (Kept.refl s).message (fun _ _ k => by
    extract_lets bs cfg
    split
    · exact k.answer
    · exact k.storeHaspCfg.answer)

theorem execTamperClear_keeps (s : State) {m : WardMsg} : Keeps s (execTamperClear m s) := by
  refine .next ?_
  exact (Kept.refl s).message (fun _ _ k => by
    split
    · exact k.answer
    · split
      · exact k.same.answer
      · exact k.same.answer)

theorem execModeSet_keeps (s : State) {m : WardMsg} : Keeps s (execModeSet m s) := by
  refine .next ((Kept.refl s).message fun x u k => ?_)
  dsimp only
  split
  · exact k.answer
  · exact .ite k.answer (Kept.answer (Kept.raiseEvent k.loseKeys.same))

theorem Kept.eraseStored {s t : State} (h : Kept s t) : Kept s { t with nvm := t.nvm.eraseKeys } := h.withNvm fun _ => rfl

theorem execWardSelfTestDone_keeps (s : State) : Keeps s (execWardSelfTestDone s) := by
  refine .next (.ite (.refl s) ?_)
  split
  · exact (Kept.raiseEvent (Kept.refl s).same).unrun.finish
  · refine .ite (.refl s) ?_
    extract_lets s1
    have h1 : Kept s s1 := .ite (Kept.refl s).eraseStored (.refl s)
    exact Kept.reloadKeys h1.same

theorem execWardSelfTestFail_keeps (s : State) : Keeps s (execWardSelfTestFail s) := by
  refine .next (.ite (.refl s) ?_)
  extract_lets kat s1 s2
  have erased : Kept s { s with ward := s.ward.eraseKeys } := (Kept.refl s).eraseKeys
  have h1 : Kept s s1 := Kept.endSessions erased.same
  have h2 : Kept s s2 := h1.logEntry.raiseEvent
  generalize kat = o
  cases o with
  | none => exact h2
  | some q => exact h2.unrun.finish

theorem execMeshCheck_keeps (s : State) {intact : Bool} : Keeps s (execMeshCheck intact s) :=
  .next (.ite (.refl s) ((Kept.refl s).same.tripSensor))

theorem execHaspTrip_keeps (s : State) {i : Nat} {present : Bool} {temp : Int} : Keeps s (execHaspTrip i present temp s) :=
  .next (.ite (.refl s) (.ite ((Kept.ite ((Kept.refl s).same) ((Kept.refl s).same)).tripSensor) (.ite ((Kept.refl s).same) ((Kept.refl s).same))))

theorem execZeroizeNvmErase_keeps (s : State) : Keeps s (execZeroizeNvmErase s) := .next (.ite (Kept.refl s).eraseStored (.refl s))

theorem execMkaHello_keeps (s : State) : Keeps s (execMkaHello s) :=
  .next (.ite (.refl s) (((Kept.refl s).emit (o := Out.mkpdu s.ward.mka.mn)).same.wakeCause))

/-! ### Commands of Clock.lean -/

theorem execClockMonitorWindow_keeps (s : State) {w : ClockWindow} : Keeps s (execClockMonitorWindow w s) := by
  refine .next ?_
  refine .ite (.refl s) ?_
  extract_lets dead w1 ran s1 iso s2 bad s3 s4 s5 s6
  have hs1 : Kept s s1 := (Kept.refl s).takeWindow
  have hs2 : Kept s s2 := .ite (.ite hs1 hs1.isoFails) hs1.modClk
  have hs3 : Kept s s3 := hs2.foldl (fun _ _ k => .ite k k.sourceFailed)
  have hs4 : Kept s s4 := hs3.foldl (fun _ _ k => k.sourceStable)
  have hs5 : Kept s s5 := .ite hs4.modClk hs4
  have hs6 : Kept s s6 := by
    unfold s6
    split
    · exact .ite hs5.switchTo.raiseEvent hs5
    · exact hs5
  exact hs6.trackMl1

theorem execReferenceEdgeLoss_keeps (s : State) : Keeps s (execReferenceEdgeLoss s) :=
  .next (.ite ((Kept.refl s).holdOver) (.refl s))

theorem execHoldoverExpiry_keeps (s : State) : Keeps s (execHoldoverExpiry s) :=
  .next (.ite ((Kept.refl s).linkFail) (.refl s))

theorem execMl0Relock_keeps (s : State) : Keeps s (execMl0Relock s) :=
  .next (.ite ((Kept.refl s).modClk.raiseEvent.keywayRise) (.refl s))

theorem execLclkDivisionChange_keeps (s : State) {dac adc : Nat} : Keeps s (execLclkDivisionChange dac adc s) :=
  .next (.ite ((Kept.refl s).modClk.restartCycle.huntStep) (.refl s))

/-! ### Commands of Knuckle.lean -/

theorem execKnuckleShed_keeps (s : State) {tag : BitVec 16} : Keeps s (execKnuckleShed tag s) :=
  .next (.ite (.refl s) ((Kept.refl s).runWhere (fun _ _ k => k.guarded (fun _ k1 => k1.startRun.modKn.setStatus.setStatus.wakeCause))))

theorem execKnuckleReinstate_keeps (s : State) {tag : BitVec 16} : Keeps s (execKnuckleReinstate tag s) :=
  .next (.ite (.refl s) ((Kept.refl s).runWhere (fun _ _ k => k.guarded (fun _ k1 => .ite k1.defer (k1.guarded (fun _ k2 => (Kept.ite k2.abortTest k2).startRun.modKn.beginPairTraining))))))

theorem execKnuckleRequestReceived_keeps (s : State) : Keeps s (execKnuckleRequestReceived s) := by
  refine .next ?_
  refine .ite (.refl s) ?_
  split
  · exact .refl s
  · extract_lets kr s1
    have hs1 : Kept s s1 := (Kept.refl s).dropRequest
    split
    · exact .ite ((Kept.refl s).answerKnuckle) (.refl s)
    · exact .ite (.refl s) (.ite ((Kept.refl s).setStatus) (.ite (.refl s) (.ite hs1.answerKnuckle hs1)))
    · exact (Kept.refl s).beginPairTraining
    · exact .ite ((Kept.refl s).modKn) (.refl s)
    · exact .ite ((Kept.refl s).setStatus.setStatus) (.refl s)
    · exact .refl s

theorem execKnuckleAckReceived_keeps (s : State) : Keeps s (execKnuckleAckReceived s) :=
  .next (.ite (.ite ((Kept.refl s).setStatus) ((Kept.refl s).refuseShed)) (.ite ((Kept.refl s).setStatus) (.refl s)))

theorem execKnuckleAckTimeout_keeps (s : State) : Keeps s (execKnuckleAckTimeout s) :=
  .next (.ite ((Kept.refl s).refuseShed) (.refl s))

theorem LcRun.cutMessage_stTx (r : LcRun) : r.cutMessage.stTx = r.stTx := by
  unfold LcRun.cutMessage
  split
  · rfl
  · split
    · split
      · rfl
      · rfl
    · rfl

theorem execKnuckleFormChange_keeps (s : State) : Keeps s (execKnuckleFormChange s) := by
  have cut : Kept s (s.modRun LcRun.cutMessage) := (Kept.refl s).withLc fun ok => by simpa [LcRun.cutMessage_stTx] using ok
  exact .next (.ite (Kept.formsChanged cut.same) (.refl s))

theorem execRxFormChange_keeps (s : State) : Keeps s (execRxFormChange s) :=
  .next (.ite ((Kept.refl s).takeRxForm) (.refl s))

theorem execPairTrainingDone_keeps (s : State) : Keeps s (execPairTrainingDone s) :=
  .next (.ite (.ite ((Kept.refl s).modKn) ((Kept.refl s).modKn.setStatus)) (.refl s))

theorem execPairTrainingTimeout_keeps (s : State) : Keeps s (execPairTrainingTimeout s) :=
  .next (.ite ((Kept.refl s).same.commitProfile.endKnuckle) (.refl s))

/-! ### Commands of Diag.lean -/

theorem execDiagTdr_keeps (s : State) {tag : BitVec 16} : Keeps s (execDiagTdr tag s) := by
  refine .next ?_
  refine .ite (.refl s) ?_
  exact (Kept.refl s).runRequest (fun _ _ k => by
    exact k.guarded (fun _ k1 => by
      extract_lets tested
      refine .ite k1.defer ?_
      exact k1.guarded (fun _ k2 => by
        split
        · exact k2.windowFault.finish
        · exact (Kept.ite k2.abortTest k2).leaveDormant.startDiag)))

theorem execTdrBlockDone_keeps (s : State) {b : DiagBlock} : Keeps s (execTdrBlockDone b s) := by
  refine .next ?_
  split
  · exact .refl s
  · split
    · exact .refl s
    · refine .ite (.refl s) ?_
      extract_lets good r1 s0 s1
      have hs0 : Kept s s0 := .ite ((Kept.refl s).drawn) (.refl s)
      have hs1 : Kept s s1 := hs0.modDiag
      exact .ite hs1.endMeasurement.settleDiag (.ite hs1.endMeasurement.settleDiag (.ite hs1.askQuiet hs1))

theorem execDiagTimeout_keeps (s : State) : Keeps s (execDiagTimeout s) :=
  .next ((Kept.refl s).endDiagTests)

theorem execDiagNoEngine_keeps (s : State) : Keeps s (execDiagNoEngine s) := by
  refine .next ?_
  split
  · exact .refl s
  · split
    · exact .refl s
    · exact .ite (.refl s) (.ite ((Kept.refl s).modDiag.settleDiag) ((Kept.refl s).modDiag.settleDiag))

theorem execQuietReq_keeps (s : State) : Keeps s (execQuietReq s) := by
  refine .next ?_
  exact (Kept.refl s).onOam (fun _ _ k => by
    extract_lets action
    split
    · exact k
    · exact k.modDiag.sendQuietAck)

theorem execQuietAck_keeps (s : State) : Keeps s (execQuietAck s) := by
  refine .next ?_
  exact (Kept.refl s).onOam (fun _ _ k => by
    extract_lets result _ s1
    have hs1 : Kept s s1 := .ite k k.same
    split
    · exact hs1
    · exact .ite hs1 (.ite hs1.endDiagTests (.ite hs1.endDiagTests hs1.modDiag)))

theorem execQuietAckTimeout_keeps (s : State) : Keeps s (execQuietAckTimeout s) := by
  refine .next ?_
  split
  · exact .ite ((Kept.refl s).endDiagTests) (.refl s)
  · exact .refl s

theorem execQuietDurationExpiry_keeps (s : State) : Keeps s (execQuietDurationExpiry s) :=
  .next ((Kept.refl s).modDiag)

/-! ### Commands of FlowCmd.lean -/

theorem execFlowCreate_keeps (s : State) {tag : BitVec 16} : Keeps s (execFlowCreate tag s) :=
  .next ((Kept.refl s).runRequest (fun _ _ k => k.guarded (fun _ k1 => k1.modFlow.finish)))

theorem execFlowModify_keeps (s : State) {tag : BitVec 16} : Keeps s (execFlowModify tag s) :=
  .next ((Kept.refl s).runRequest (fun _ _ k => k.guarded (fun _ k1 => (Kept.ite k1 k1.dropKeys).modFlow.finish)))

theorem execFlowDestroy_keeps (s : State) {tag : BitVec 16} : Keeps s (execFlowDestroy tag s) :=
  .next ((Kept.refl s).runRequest (fun _ _ k => k.guarded (fun _ k1 => k1.dropKeys.dropHeld.modFlow.finish)))

/-! ### Commands of Gates.lean -/

theorem execGateCloseRequest_keeps (s : State) {g : Nat} : Keeps s (execGateCloseRequest g s) :=
  .next (.ite (.refl s) ((Kept.refl s).modEngine.modGate))

theorem execGateIdleAck_keeps (s : State) {g : Nat} : Keeps s (execGateIdleAck g s) :=
  .next (.ite (.refl s) ((Kept.refl s).modGate.hostGatesDone))

theorem execGateCloseRefused_keeps (s : State) {g : Nat} : Keeps s (execGateCloseRefused g s) :=
  .next (.ite (.refl s) (.ite ((Kept.refl s).modGate) ((Kept.refl s).modGate.modEngine.logEntry.hostGatesDone)))

theorem execGateReopen_keeps (s : State) {g : Nat} {access : Bool} : Keeps s (execGateReopen g access s) :=
  .next (.ite (.refl s) ((Kept.refl s).modGate))

/-! ### Commands of Resets.lean -/

theorem execPowerOnResetAssert_keeps (s : State) : Keeps s (execPowerOnResetAssert s) :=
  .next ((Kept.refl s).powerOff)

theorem execPowerOnReset_keeps (s : State) {bootSel : Bool} {smbAddr : BitVec 2} {lcHold : Bool} : Keeps s (execPowerOnReset bootSel smbAddr lcHold s) :=
  .next (.ite (.refl s) (.ite ((Kept.refl s).same.drawn.startUp.tripSensor) ((Kept.refl s).same.drawn.startUp)))

theorem execResetPin_keeps (s : State) {e : ResetLevel} : Keeps s (execResetPin e s) := by
  refine .next ?_
  refine .ite (.refl s) ?_
  split
  · exact .ite (.refl s) (.ite ((Kept.refl s).warmStart) (.ite ((Kept.refl s).drawn.warmStart) ((Kept.refl s).drawn)))
  · exact .ite ((Kept.refl s).warmEnd) (.refl s)

theorem execCoreResetRelease_keeps (s : State) : Keeps s (execCoreResetRelease s) :=
  .next (.ite ((Kept.refl s).modPwr.keywayRise) (.refl s))

theorem execEscalation_keeps (s : State) : Keeps s (execEscalation s) :=
  .next (.ite (.refl s) ((Kept.refl s).raiseNme.coreClear.failTrial.startUp))

theorem execFpResetCore_keeps (s : State) {v : BitVec 32} : Keeps s (execFpResetCore v s) :=
  .next (.ite ((Kept.refl s).writeFpReset) (.refl s))

theorem execFpResetWarm_keeps (s : State) {v : BitVec 32} : Keeps s (execFpResetWarm v s) :=
  .next (.ite ((Kept.refl s).writeFpReset) (.refl s))

theorem execFpResetBenash_keeps (s : State) {v : BitVec 32} : Keeps s (execFpResetBenash v s) :=
  .next (.ite ((Kept.refl s).writeFpReset) (.refl s))

theorem execUnitReset_keeps (s : State) {u : Nat} {acked : Bool} : Keeps s (execUnitReset u acked s) := by
  refine .next ?_
  refine .ite (.refl s) ?_
  extract_lets absent s1
  have hs1 : Kept s s1 := .ite (.refl s) ((Kept.refl s).logEntry)
  exact .ite hs1.dropItem.dropStream.same (.ite hs1.interruptDiagRun hs1)

theorem execPerstAssert_keeps (s : State) {fetching : List Nat} : Keeps s (execPerstAssert fetching s) :=
  .next (.ite (.refl s) (.ite ((Kept.refl s).modPwr) ((Kept.refl s).modPwr.cxlReset)))

theorem execPerstRelease_keeps (s : State) : Keeps s (execPerstRelease s) := by
  refine .next ?_
  refine .ite (.refl s) ?_
  extract_lets s1 _ _
  have hs1 : Kept s s1 := (Kept.refl s).modPwr
  exact hs1.same

theorem execRailUndervoltage_keeps (s : State) {rail : Nat} : Keeps s (execRailUndervoltage rail s) := by
  refine .next ?_
  refine .ite (.refl s) ?_
  extract_lets s1 _ _ _ s2
  have hs1 : Kept s s1 := (Kept.refl s).modPwr
  have hs2 : Kept s s2 := hs1.tripSensor.tripSensor
  exact .ite hs1 (.ite hs1.same.dielinkFall (.ite hs1.modPwr.cxlReset (.ite hs2.warmEnd (.ite hs2.holdOver hs2))))

theorem execRailRecovery_keeps (s : State) {rail : Nat} : Keeps s (execRailRecovery rail s) :=
  .next (.ite (.refl s) (.ite ((Kept.refl s).modPwr) (.ite (.ite ((Kept.refl s).modPwr.startSearch) ((Kept.refl s).modPwr)) (.ite ((Kept.refl s).modPwr.forgetXin) ((Kept.refl s).modPwr)))))

theorem execSupplyLoss_keeps (s : State) : Keeps s (execSupplyLoss s) := by
  have erased := (Kept.refl s).endSessions.eraseKeys
  exact .next (.ite (.refl s) erased.same)

/-! ### Commands of Mmio.lean -/

theorem execRegisterWrite_keeps (s : State) {bar off : Nat} {wide : Bool} {v : BitVec 64} : Keeps s (execRegisterWrite bar off wide v s) :=
  .next ((Kept.refl s).writeRegister)

/-! ### Commands of Monitor.lean -/

theorem execFarReportTimer_keeps (s : State) : Keeps s (execFarReportTimer s) :=
  .next (.ite ((Kept.refl s).sendOam) (.refl s))

theorem execFarReport_keeps (s : State) : Keeps s (execFarReport s) :=
  .next ((Kept.refl s).onOam (fun _ _ k => k.modMon))

theorem execTrendInterval_keeps (s : State) : Keeps s (execTrendInterval s) :=
  .next (.ite (.refl s) ((Kept.refl s).modMon))

/-! ### Commands of Objects.lean -/

theorem execGetParam_keeps (s : State) {tag : BitVec 16} : Keeps s (execGetParam tag s) := by
  refine .next ?_
  exact (Kept.refl s).runRequest (fun _ _ k => by
    exact k.guarded (fun _ k1 => by
      split
      · exact k1.keepRead.finish
      · exact k1))

theorem execSetParam_keeps (s : State) {tag : BitVec 16} : Keeps s (execSetParam tag s) :=
  .next ((Kept.refl s).setParamOf)

theorem execRepairGo_keeps (s : State) {tag : BitVec 16} : Keeps s (execRepairGo tag s) :=
  .next ((Kept.refl s).setParamOf)

theorem execRevert_keeps (s : State) {tag : BitVec 16} : Keeps s (execRevert tag s) :=
  .next ((Kept.refl s).setParamOf)

theorem execRefSel_keeps (s : State) {tag : BitVec 16} : Keeps s (execRefSel tag s) :=
  .next ((Kept.refl s).setParamOf)

theorem execGateCtl_keeps (s : State) {tag : BitVec 16} : Keeps s (execGateCtl tag s) :=
  .next ((Kept.refl s).setParamOf)

theorem execAlarmStatusClear_keeps (s : State) {tag : BitVec 16} : Keeps s (execAlarmStatusClear tag s) :=
  .next ((Kept.refl s).setParamOf)

theorem execCommandTimeout_keeps (s : State) {tag : BitVec 16} : Keeps s (execCommandTimeout tag s) := by
  refine .next ?_
  refine .ite (.refl s) ?_
  split
  · exact (Kept.refl s).timeOut
  · exact .refl s

/-! ### Commands of StatePage.lean -/

theorem execStatePageEpoch_keeps (s : State) : Keeps s (execStatePageEpoch s) :=
  .next (.ite (.refl s) (.ite ((Kept.refl s).skipEpoch) (.ite ((Kept.refl s).same.evaluate.skipEpoch) ((Kept.refl s).same.evaluate.beginPage))))

theorem execStatePagePublished_keeps (s : State) : Keeps s (execStatePagePublished s) := by
  refine .next ?_
  refine .ite (.refl s) ?_
  extract_lets kind _ s0 q s1 _ _ s2 s3 _
  have hs0 : Kept s s0 := (Kept.refl s).same
  have hs1 : Kept s s1 := hs0.writeLine
  have hs2 : Kept s s2 := hs1.same
  have hs3 : Kept s s3 := hs2.signalVector
  exact .ite hs0.same.windowFault (.ite hs3.same.raiseEvent hs3)

/-! ### Commands of Pins.lean -/

theorem execLed1Timer_keeps (s : State) : Keeps s (execLed1Timer s) :=
  .next (.ite (.refl s) ((Kept.refl s).modPwr))

theorem execSmbReadFpId_keeps (s : State) {a : Nat} {pec : Bool} : Keeps s (execSmbReadFpId a pec s) :=
  .next ((Kept.refl s).smbAnswer)

theorem execSmbReadFpCaps_keeps (s : State) {a : Nat} {pec : Bool} : Keeps s (execSmbReadFpCaps a pec s) :=
  .next ((Kept.refl s).smbAnswer)

theorem execSmbReadFpReady_keeps (s : State) {a : Nat} {pec : Bool} : Keeps s (execSmbReadFpReady a pec s) :=
  .next ((Kept.refl s).smbAnswer)

theorem execSmbReadFpNmeStatus_keeps (s : State) {a : Nat} {pec : Bool} : Keeps s (execSmbReadFpNmeStatus a pec s) :=
  .next ((Kept.refl s).smbAnswer)

theorem execSmbReadLinkStatus_keeps (s : State) {a : Nat} {pec : Bool} : Keeps s (execSmbReadLinkStatus a pec s) :=
  .next ((Kept.refl s).smbAnswer)

theorem execSmbReadPowerState_keeps (s : State) {a : Nat} {pec : Bool} : Keeps s (execSmbReadPowerState a pec s) :=
  .next ((Kept.refl s).smbAnswer)

theorem execSmbReadTemp_keeps (s : State) {a : Nat} {pec : Bool} : Keeps s (execSmbReadTemp a pec s) :=
  .next ((Kept.refl s).smbAnswer)

theorem execSmbReadSupply_keeps (s : State) {a : Nat} {pec : Bool} : Keeps s (execSmbReadSupply a pec s) :=
  .next ((Kept.refl s).smbAnswer)

theorem execSmbReadAging_keeps (s : State) {a : Nat} {pec : Bool} : Keeps s (execSmbReadAging a pec s) :=
  .next ((Kept.refl s).smbAnswer)

/-- Every command but the two that burn fuses answers a next state and keeps what every operation keeps. -/
theorem exec_keeps (c : Instr) (s : State) (hl : ∀ m, c ≠ .lifecycle m) (ht : c ≠ .fwTrialConfirm) : Keeps s (exec c s) := by
  cases c with
  | identify => exact execIdentify_keeps s
  | getCaps => exact execGetCaps_keeps s
  | getParam => exact execGetParam_keeps s
  | setParam => exact execSetParam_keeps s
  | repairGo => exact execRepairGo_keeps s
  | revert => exact execRevert_keeps s
  | refSel => exact execRefSel_keeps s
  | gateCtl => exact execGateCtl_keeps s
  | alarmStatusClear => exact execAlarmStatusClear_keeps s
  | linkUp => exact execLinkUp_keeps s
  | linkDown => exact execLinkDown_keeps s
  | trainFull => exact execTrainFull_keeps s
  | trainFast => exact execTrainFast_keeps s
  | knuckleShed => exact execKnuckleShed_keeps s
  | knuckleReinstate => exact execKnuckleReinstate_keeps s
  | calRun => exact execCalRun_keeps s
  | calExport => exact execCalExport_keeps s
  | calImport => exact execCalImport_keeps s
  | diagTdr => exact execDiagTdr_keeps s
  | bistRun => exact execBistRun_keeps s
  | bistAbort => exact execBistAbort_keeps s
  | logRead => exact execLogRead_keeps s
  | fwStage => exact execFwStage_keeps s
  | fwCommit => exact execFwCommit_keeps s
  | fwActivate => exact execFwActivate_keeps s
  | shutdownPrep => exact execShutdownPrep_keeps s
  | flowCreate => exact execFlowCreate_keeps s
  | flowModify => exact execFlowModify_keeps s
  | flowDestroy => exact execFlowDestroy_keeps s
  | slotStageOpen => exact execSlotStageOpen_keeps s
  | slotStageWrite => exact execSlotStageWrite_keeps s
  | slotStageClear => exact execSlotStageClear_keeps s
  | slotCommit => exact execSlotCommit_keeps s
  | wardKat => exact execWardKat_keeps s
  | saAdvance => exact execSaAdvance_keeps s
  | keyErase => exact execKeyErase_keeps s
  | kekInstall => exact execKekInstall_keeps s
  | kekErase => exact execKekErase_keeps s
  | keyInstall => exact execKeyInstall_keeps s
  | keyEraseMsg => exact execKeyEraseMsg_keeps s
  | cakInstall => exact execCakInstall_keeps s
  | haspSet => exact execHaspSet_keeps s
  | tamperClear => exact execTamperClear_keeps s
  | modeSet => exact execModeSet_keeps s
  | lifecycle m => exact absurd rfl (hl m)
  | getVersion => exact execGetVersion_keeps s
  | getCapabilities => exact execGetCapabilities_keeps s
  | negotiateAlgorithms => exact execNegotiateAlgorithms_keeps s
  | getDigests => exact execGetDigests_keeps s
  | getCertificate => exact execGetCertificate_keeps s
  | setCertificate => exact execSetCertificate_keeps s
  | challenge => exact execChallenge_keeps s
  | getMeasurements => exact execGetMeasurements_keeps s
  | keyExchange => exact execKeyExchange_keeps s
  | finish => exact execFinish_keeps s
  | keyUpdate => exact execKeyUpdate_keeps s
  | heartbeat => exact execHeartbeat_keeps s
  | endSession => exact execEndSession_keeps s
  | ideKm => exact execIdeKm_keeps s
  | submissionFetch => exact execSubmissionFetch_keeps s
  | nop => exact execNop_keeps s
  | send => exact execSend_keeps s
  | sendMulti => exact execSendMulti_keeps s
  | fence => exact execFence_keeps s
  | sendDone => exact execSendDone_keeps s
  | fpResetCore => exact execFpResetCore_keeps s
  | fpResetWarm => exact execFpResetWarm_keeps s
  | fpResetBenash => exact execFpResetBenash_keeps s
  | fpEventWrite => exact execFpEventWrite_keeps s
  | fpEventEnWrite => exact execFpEventEnWrite_keeps s
  | fpEventCntRead => exact execFpEventCntRead_keeps s
  | fpNmeStatusWrite => exact execFpNmeStatusWrite_keeps s
  | fpNmeCntRead => exact execFpNmeCntRead_keeps s
  | fpFaultInfoRead => exact execFpFaultInfoRead_keeps s
  | fpStateAddrWrite => exact execFpStateAddrWrite_keeps s
  | windowWrite => exact execWindowWrite_keeps s
  | ringEnable => exact execRingEnable_keeps s
  | ringStop => exact execRingStop_keeps s
  | sqTailWrite => exact execSqTailWrite_keeps s
  | cqHeadWrite => exact execCqHeadWrite_keeps s
  | ringReset => exact execRingReset_keeps s
  | registerWrite => exact execRegisterWrite_keeps s
  | h2dSnoop => exact execH2dSnoop_keeps s
  | cxlLinkUp => exact execCxlLinkUp_keeps s
  | frameClassify => exact execFrameClassify_keeps s
  | wardRxFrame => exact execWardRxFrame_keeps s
  | mkpdu => exact execMkpdu_keeps s
  | completionWrite => exact execCompletionWrite_keeps s
  | completionObserved => exact execCompletionObserved_keeps s
  | rxMultiClose => exact execRxMultiClose_keeps s
  | irqHoldoffExpiry => exact execIrqHoldoffExpiry_keeps s
  | eventSignalMerge => exact execEventSignalMerge_keeps s
  | heldFrameDelivery => exact execHeldFrameDelivery_keeps s
  | timelineBoundary => exact execTimelineBoundary_keeps s
  | slotBankSwitch => exact execSlotBankSwitch_keeps s
  | slotDeadline => exact execSlotDeadline_keeps s
  | storeGrant => exact execStoreGrant_keeps s
  | overholdCutoff => exact execOverholdCutoff_keeps s
  | storeScrub => exact execStoreScrub_keeps s
  | driftGuardEval => exact execDriftGuardEval_keeps s
  | decodeRelease => exact execDecodeRelease_keeps s
  | thpCoef => exact execThpCoef_keeps s
  | thpSwitch => exact execThpSwitch_keeps s
  | ack => exact execAck_keeps s
  | peerId => exact execPeerId_keeps s
  | infofieldRetry => exact execInfofieldRetry_keeps s
  | thpSetActivate => exact execThpSetActivate_keeps s
  | remoteFault => exact execRemoteFault_keeps s
  | raSet => exact execRaSet_keeps s
  | rateConfirmed => exact execRateConfirmed_keeps s
  | stdRateConfirm => exact execStdRateConfirm_keeps s
  | alignmentSearch => exact execAlignmentSearch_keeps s
  | alignmentSearchEnd => exact execAlignmentSearchEnd_keeps s
  | alignmentRetry => exact execAlignmentRetry_keeps s
  | laneFrameCheck => exact execLaneFrameCheck_keeps s
  | laneSubstitution => exact execLaneSubstitution_keeps s
  | spareCleanCount => exact execSpareCleanCount_keeps s
  | substitutionSwitch => exact execSubstitutionSwitch_keeps s
  | deepLowPowerExit => exact execDeepLowPowerExit_keeps s
  | energyDetect => exact execEnergyDetect_keeps s
  | energyLoss => exact execEnergyLoss_keeps s
  | dormantEntry => exact execDormantEntry_keeps s
  | dormantExit => exact execDormantExit_keeps s
  | negotiationStart => exact execNegotiationStart_keeps s
  | nativeAbilityMessage => exact execNativeAbilityMessage_keeps s
  | negotiationResolve => exact execNegotiationResolve_keeps s
  | noPartnerTimer => exact execNoPartnerTimer_keeps s
  | ladderResetTimer => exact execLadderResetTimer_keeps s
  | trainingWord => exact execTrainingWord_keeps s
  | phaseChange => exact execPhaseChange_keeps s
  | phaseTimer => exact execPhaseTimer_keeps s
  | breakEnd => exact execBreakEnd_keeps s
  | hdrLoss => exact execHdrLoss_keeps s
  | stdTrainingDone => exact execStdTrainingDone_keeps s
  | stdLinkFail => exact execStdLinkFail_keeps s
  | fastRetrainRequest => exact execFastRetrainRequest_keeps s
  | fastRetrainStart => exact execFastRetrainStart_keeps s
  | fastRetrainEnd => exact execFastRetrainEnd_keeps s
  | fastRetrainTimeout => exact execFastRetrainTimeout_keeps s
  | lclkDivisionChange => exact execLclkDivisionChange_keeps s
  | qlIdleTimer => exact execQlIdleTimer_keeps s
  | quietWithdraw => exact execQuietWithdraw_keeps s
  | quietStart => exact execQuietStart_keeps s
  | entryAbort => exact execEntryAbort_keeps s
  | refreshWindow => exact execRefreshWindow_keeps s
  | wakeBurstStart => exact execWakeBurstStart_keeps s
  | onset => exact execOnset_keeps s
  | acquisitionTimeout => exact execAcquisitionTimeout_keeps s
  | latchPoint => exact execLatchPoint_keeps s
  | syncWord => exact execSyncWord_keeps s
  | syncSearchTimeout => exact execSyncSearchTimeout_keeps s
  | settleHeaderTimeout => exact execSettleHeaderTimeout_keeps s
  | receptionConfirmed => exact execReceptionConfirmed_keeps s
  | listenTimeout => exact execListenTimeout_keeps s
  | capture => exact execCapture_keeps s
  | qlHdrLoss => exact execQlHdrLoss_keeps s
  | legacyBurstDetect => exact execLegacyBurstDetect_keeps s
  | legacyWakeTimeout => exact execLegacyWakeTimeout_keeps s
  | knuckleRequestReceived => exact execKnuckleRequestReceived_keeps s
  | knuckleAckReceived => exact execKnuckleAckReceived_keeps s
  | knuckleFormChange => exact execKnuckleFormChange_keeps s
  | rxFormChange => exact execRxFormChange_keeps s
  | knuckleAckTimeout => exact execKnuckleAckTimeout_keeps s
  | pairTrainingDone => exact execPairTrainingDone_keeps s
  | pairTrainingTimeout => exact execPairTrainingTimeout_keeps s
  | calEstimateDone => exact execCalEstimateDone_keeps s
  | sliceShadowDone => exact execSliceShadowDone_keeps s
  | calNoEngine => exact execCalNoEngine_keeps s
  | calTimeout => exact execCalTimeout_keeps s
  | tdrBlockDone => exact execTdrBlockDone_keeps s
  | diagTimeout => exact execDiagTimeout_keeps s
  | diagNoEngine => exact execDiagNoEngine_keeps s
  | quietReq => exact execQuietReq_keeps s
  | quietAck => exact execQuietAck_keeps s
  | quietAckTimeout => exact execQuietAckTimeout_keeps s
  | quietDurationExpiry => exact execQuietDurationExpiry_keeps s
  | farReportTimer => exact execFarReportTimer_keeps s
  | farReport => exact execFarReport_keeps s
  | statePageEpoch => exact execStatePageEpoch_keeps s
  | statePagePublished => exact execStatePagePublished_keeps s
  | trendInterval => exact execTrendInterval_keeps s
  | gateCloseRequest => exact execGateCloseRequest_keeps s
  | gateIdleAck => exact execGateIdleAck_keeps s
  | gateCloseRefused => exact execGateCloseRefused_keeps s
  | gateReopen => exact execGateReopen_keeps s
  | unitReset => exact execUnitReset_keeps s
  | repairStart => exact execRepairStart_keeps s
  | repairLoadDone => exact execRepairLoadDone_keeps s
  | programSwap => exact execProgramSwap_keeps s
  | clockMonitorWindow => exact execClockMonitorWindow_keeps s
  | referenceEdgeLoss => exact execReferenceEdgeLoss_keeps s
  | holdoverExpiry => exact execHoldoverExpiry_keeps s
  | ml0Relock => exact execMl0Relock_keeps s
  | powerOnReset => exact execPowerOnReset_keeps s
  | startUpTestEnd => exact execStartUpTestEnd_keeps s
  | powerOnResetAssert => exact execPowerOnResetAssert_keeps s
  | resetPin => exact execResetPin_keeps s
  | coreResetRelease => exact execCoreResetRelease_keeps s
  | perstAssert => exact execPerstAssert_keeps s
  | perstRelease => exact execPerstRelease_keeps s
  | benashWatchdog => exact execBenashWatchdog_keeps s
  | benashRestartEnd => exact execBenashRestartEnd_keeps s
  | escalation => exact execEscalation_keeps s
  | railUndervoltage => exact execRailUndervoltage_keeps s
  | railRecovery => exact execRailRecovery_keeps s
  | supplyLoss => exact execSupplyLoss_keeps s
  | meshCheck => exact execMeshCheck_keeps s
  | haspTrip => exact execHaspTrip_keeps s
  | zeroizeNvmErase => exact execZeroizeNvmErase_keeps s
  | wardSelfTestDone => exact execWardSelfTestDone_keeps s
  | wardSelfTestFail => exact execWardSelfTestFail_keeps s
  | mkaHello => exact execMkaHello_keeps s
  | mkaLifeExpiry => exact execMkaLifeExpiry_keeps s
  | sensorRead => exact execSensorRead_keeps s
  | agingMeasure => exact execAgingMeasure_keeps s
  | sramScrub => exact execSramScrub_keeps s
  | nvmScrub => exact execNvmScrub_keeps s
  | logSuppressedRecord => exact execLogSuppressedRecord_keeps s
  | fwTrialConfirm => exact absurd rfl ht
  | sdRecordDisarm => exact execSdRecordDisarm_keeps s
  | bistTestEnd => exact execBistTestEnd_keeps s
  | led1Timer => exact execLed1Timer_keeps s
  | smbReadFpId => exact execSmbReadFpId_keeps s
  | smbReadFpCaps => exact execSmbReadFpCaps_keeps s
  | smbReadFpReady => exact execSmbReadFpReady_keeps s
  | smbReadFpNmeStatus => exact execSmbReadFpNmeStatus_keeps s
  | smbReadLinkStatus => exact execSmbReadLinkStatus_keeps s
  | smbReadPowerState => exact execSmbReadPowerState_keeps s
  | smbReadTemp => exact execSmbReadTemp_keeps s
  | smbReadSupply => exact execSmbReadSupply_keeps s
  | smbReadAging => exact execSmbReadAging_keeps s
  | fastLinkPulseBurst => exact execFastLinkPulseBurst_keeps s
  | cableDischarge => exact execCableDischarge_keeps s
  | configurationWrite => exact execConfigurationWrite_keeps s
  | lpiSleep => exact execLpiSleep_keeps s
  | lpiWake => exact execLpiWake_keeps s
  | commandTimeout => exact execCommandTimeout_keeps s

/-! ### The two commands that burn fuses, and the step -/

/-- From s to t the queue stays, the fuses go only forward, and the tables and lists keep their form. -/
structure Sound (s t : State) : Prop where
  pending : t.pending = s.pending
  fuse : FusesForward s t
  tables : s.tablesOk = true → t.tablesOk = true
  shape : s.shapeOk = true → t.shapeOk = true

theorem Kept.sound {s t : State} (h : Kept s t) : Sound s t := by
  refine ⟨h.pending, ?_, h.tables, h.shape⟩
  unfold FusesForward
  rw [h.fuse]
  exact ⟨rfl, rfl, le_refl _, le_refl _⟩

theorem Sound.kept {s t u : State} (h : Sound s t) (k : Kept t u) : Sound s u := by
  obtain ⟨part, serial, rollback, lifecycle⟩ := h.fuse
  refine ⟨k.pending.trans h.pending, ?_, k.tables ∘ h.tables, k.shape ∘ h.shape⟩
  unfold FusesForward
  rw [k.fuse]
  exact ⟨part, serial, rollback, lifecycle⟩

/-- A trial is confirmed: the anti-rollback counter goes up to the image's SVN (R427). -/
theorem execFwTrialConfirm_sound (s : State) : ∃ t, execFwTrialConfirm s = .next t ∧ Sound s t := by
  refine ⟨_, rfl, ?_⟩
  split
  · exact (Kept.refl s).sound
  · extract_lets _ _ s1
    have h1 : Sound s s1 := ⟨rfl, ⟨rfl, rfl, le_max_left _ _, le_refl _⟩, id, id⟩
    exact h1.kept (Kept.refl s1).logEntry.raiseEvent

/-- A lifecycle transition to a later state keeps the tables and lists (R393). -/
theorem State.transition_sound (s : State) {lc : Lifecycle} {owner : Option (BitVec 384)} (h : s.fuse.lifecycle.rank ≤ lc.rank) : Sound s (s.transition lc owner) := by
  refine ⟨rfl, ⟨rfl, rfl, le_refl _, h⟩, fun ok => ?_, fun ok => ?_⟩
  · obtain ⟨rings, flows, fp, ward, eng, keks⟩ := (tablesOk_iff s).mp ok
    have erased : (s.transition lc owner).ward.canonical :=
      ⟨rfl, smap_wf _ _ (fun _ (i : SaInfo) => { i with tenant := none, rotateDue := false }), rfl⟩
    refine (tablesOk_iff _).mpr ⟨rings, flows, fp, erased, eng, ?_⟩
    unfold State.transition
    split
    · rfl
    · rfl
  · obtain ⟨stTx, engines, store, outb, inb, aging, cal, log⟩ := (shapeOk_iff' s).mp ok
    refine (shapeOk_iff' _).mpr ⟨stTx, engines, store, outb, inb, aging, cal, ?_⟩
    unfold State.transition
    split
    · exact log
    · exact log

/-- A message is answered, or its body runs over its session. -/
theorem State.message_sound {s : State} {m : WardMsg} {code : Nat} {key latchOk : Bool} {form : Checks} {body : Session → State → State}
    (h : ∀ y, Sound s (body y s)) : Sound s (s.message m code key latchOk form body) := by
  unfold State.message
  extract_lets x approved
  split
  · exact (Kept.refl s).sound
  · split
    · exact (Kept.ite (Kept.refl s).refuseKey (Kept.refl s).answer).sound
    · split
      · exact (Kept.refl s).answer.sound
      · exact (Kept.refl s).answer.sound
      · exact h _

theorem execLifecycle_sound (m : WardMsg) (s : State) : ∃ t, execLifecycle m s = .next t ∧ Sound s t := by
  have answered : ∀ {u : State} {st : Status}, Sound s u → Sound s (u.answer m 0x13 st) := fun h => h.kept (Kept.refl _).answer
  have same : Sound s s := (Kept.refl s).sound
  refine ⟨_, rfl, State.message_sound fun y => ?_⟩
  dsimp only
  split
  · exact answered same
  · split
    · rename_i fresh _
      split
      · exact answered same
      · exact answered (s.transition_sound (by rw [fresh]; decide))
    · rename_i deployed _
      split
      · exact answered (s.transition_sound (by rw [deployed]; decide))
      · exact answered same
    · exact answered same

/-- Every command answers a next state, with the queue in place, the fuses no further back, and the tables and lists in form. -/
theorem exec_sound (c : Instr) (s : State) : ∃ t, exec c s = .next t ∧ Sound s t := by
  by_cases hl : ∃ m, c = .lifecycle m
  · obtain ⟨m, rfl⟩ := hl
    exact execLifecycle_sound m s
  · by_cases ht : c = .fwTrialConfirm
    · subst ht
      exact execFwTrialConfirm_sound s
    · obtain ⟨t, e, k⟩ := exec_keeps c s (fun m e => hl ⟨m, e⟩) ht
      exact ⟨t, e, k.sound⟩

theorem State.tick_kept (s : State) : Kept s s.tick := .ite (.refl s) (.ite (Kept.refl s).same (Kept.refl s).same)

/-- A step keeps the form of the tables and lists, and takes no fuse back. -/
theorem step_sound {s t : State} (h : step s = .next t) :
    FusesForward s t ∧ (s.tablesOk = true → t.tablesOk = true) ∧ (s.shapeOk = true → t.shapeOk = true) := by
  unfold step at h
  split at h
  · obtain rfl : s.tick = t := by injection h
    have k := s.tick_kept.sound
    exact ⟨k.fuse, k.tables, k.shape⟩
  · rename_i c rest _
    obtain ⟨u, e, k⟩ := exec_sound c { s with pending := rest }
    rw [e] at h
    obtain rfl : u = t := by injection h
    exact ⟨k.fuse, k.tables, k.shape⟩

/-- Settles O3: every command is one of the cases of `exec_sound`. -/
theorem noCommandTouchesTheQueue : Obligations.NoCommandTouchesTheQueue := by
  intro c s
  obtain ⟨t, e, k⟩ := exec_sound c s
  exact ⟨t, e, k.pending⟩

/-- Settles O4. -/
theorem fusesOnlyGoForward : Obligations.FusesOnlyGoForward := by
  intro s t h
  obtain ⟨fuse, _, _⟩ := step_sound h
  exact fuse

/-- Settles O5: every other command is one of the cases of `exec_keeps`. -/
theorem onlyTwoCommandsBurnFuses : Obligations.OnlyTwoCommandsBurnFuses := by
  intro c s t hl ht h
  obtain ⟨u, e, k⟩ := exec_keeps c s hl ht
  obtain rfl : u = t := by
    rw [e] at h
    injection h
  exact k.fuse

/-- Settles O8. -/
theorem tablesStayCanonical : Obligations.TablesStayCanonical := by
  intro s t ok h
  obtain ⟨_, tables, _⟩ := step_sound h
  exact tables ok

/-- Settles O9. -/
theorem listsKeepTheirLengths : Obligations.ListsKeepTheirLengths := by
  intro s t ok h
  obtain ⟨_, _, shape⟩ := step_sound h
  exact shape ok

end Sys2Proof.Machine
end

section
/-! PROOFS. The queue, reset, completions, the log, identity and the timeout of a command. -/

namespace Sys2Proof.Machine

set_option Elab.async false

/-! ### A command whose meaning is a request -/

/-- A request that Benash takes up and that passes its checks is executed on the state in which it no longer waits. -/
theorem guarded_begin {s : State} {tag : BitVec 16} {op : Nat} {q : Request} {checks : Checks} {results : List (Nat × Nat)} {go : State → State}
    (takes : Takes s tag op q) (pass : firstFail checks = none) : (s.begin q).guarded q checks results go = go (s.begin q) :=
  guarded_pass ((failing_begin takes).trans pass)

/-- A request that Benash takes up ends with the status of the first check that fails (R10). -/
theorem guarded_begin_fail {s : State} {tag : BitVec 16} {op : Nat} {q : Request} {checks : Checks} {results : List (Nat × Nat)} {go : State → State}
    {st : Status} (takes : Takes s tag op q) (fail : firstFail checks = some st) :
    (s.begin q).guarded q checks results go = (s.begin q).finish q st results [] :=
  guarded_fail ((failing_begin takes).trans fail)

/-- The effect of a command that runs a request which Benash takes up. -/
theorem next_runRequest {s t : State} {tag : BitVec 16} {op : Nat} {q : Request} {body : Request → State → State} (takes : Takes s tag op q)
    (e : body q (s.begin q) = t) : (Host.Outcome.next (s.runRequest tag op body) : Host.Outcome State Fault Refusal) = .next t := by
  rw [runRequest_takes body takes, e]

/-! ### What events and log entries change -/

/-- A general event changes the front panel and what is sent alone. -/
theorem State.raiseEvent_eq (s : State) (i : Nat) : s.raiseEvent i = { s with fp := (s.raiseEvent i).fp, out := (s.raiseEvent i).out } := by
  have signalled : ∀ u : State, u.signalGeneral = { u with fp := u.signalGeneral.fp, out := u.signalGeneral.out } := by
    intro u
    unfold State.signalGeneral
    dsimp only
    split
    · split <;> rfl
    · rfl
  unfold State.raiseEvent
  dsimp only
  split
  · split
    · rw [signalled]
    · rfl
  · rfl

/-- Its flag is set, where its unit is present. -/
theorem raiseEvent_flag {s : State} {i : Nat} (present : s.eventPresent i = true) (small : i < 13) : (s.raiseEvent i).fp.event.getLsbD i = true := by
  rw [raiseEvent_event present]
  simp [small]

/-- A non-maskable event sets its bit. -/
theorem raiseNme_bit (s : State) {i : Nat} (small : i < 7) : (s.raiseNme i).fp.nme.getLsbD i = true := by
  rw [raiseNme_nme]
  simp [small]

/-- The first entry for a state whose Benash runs: one of severity 3 or 4 is written whatever the tokens (R422). -/
theorem State.admitLog_severe {s : State} {e : LogEntry} (up : s.ben.up = true) (severe : 3 ≤ e.sev) :
    s.admitLog e = { s with
      nvm := s.nvm.writeLog e
      ben := { s.ben with critical := if e.sev = 4 then inc 32 s.ben.critical else s.ben.critical } } := by
  have notLow : ¬ e.sev < 3 := by omega
  simp [State.admitLog, up, severe, notLow]

/-- One below severity 3 that finds a token takes it and is written. -/
theorem State.admitLog_token {s : State} {e : LogEntry} (up : s.ben.up = true) (low : e.sev < 3) (shown : s.ben.logSev ≤ e.sev) (token : 1000 ≤ s.tokensNow) :
    s.admitLog e = { s with nvm := s.nvm.writeLog e, ben := { s.ben with tokens := s.tokensNow - 1000, tokenTime := s.time / 1000000 } } := by
  have notHigh : ¬ 3 ≤ e.sev := by omega
  have notHidden : ¬ e.sev < s.ben.logSev := by omega
  simp [State.admitLog, up, notHigh, notHidden, token]

/-- One that finds none is counted. -/
theorem State.admitLog_noToken {s : State} {e : LogEntry} (up : s.ben.up = true) (low : e.sev < 3) (shown : s.ben.logSev ≤ e.sev) (none : s.tokensNow < 1000) :
    s.admitLog e = { s with ben := { s.ben with
      tokens := s.tokensNow, tokenTime := s.time / 1000000
      suppressed := inc 16 s.ben.suppressed, suppressedNew := s.ben.suppressedNew + 1 } } := by
  have notHigh : ¬ 3 ≤ e.sev := by omega
  have notHidden : ¬ e.sev < s.ben.logSev := by omega
  have noToken : ¬ 1000 ≤ s.tokensNow := by omega
  simp [State.admitLog, up, notHigh, notHidden, noToken]

theorem nextLogSeq_ne (n : Nat) : nextLogSeq n ≠ 0xFFFFFFFF := by
  unfold nextLogSeq
  split <;> omega

/-! ### The queue, reset, completions and the log -/

/-- Settles O1: the step's own equation for a queue with a command at its front. -/
theorem stepRunsTheFrontCommand : Obligations.StepRunsTheFrontCommand := fun _ _ _ => rfl

/-- Out of reset only flow 0 reads other than an absent one. -/
theorem reset_flow (f : Nat) : (State.reset.flow f).exist = decide (f = 0) := by
  by_cases h : f = 0
  · subst h
    rfl
  · have beyond : State.reset.flow f = {} := by
      show sget {} [(0, ({ exist := true, gen := 1 } : Flow))] f = {}
      simp [sget, Ne.symm h]
    simp [beyond, h]

/-- Settles O2. -/
theorem resetLeavesPowerOnReset : Obligations.ResetLeavesPowerOnReset := by
  unfold Obligations.ResetLeavesPowerOnReset
  have tables : State.reset.tablesOk = true := by decide
  have shape : State.reset.shapeOk = true := by decide
  exact ⟨rfl, rfl, rfl, by decide, rfl, rfl, rfl, reset_flow, rfl, rfl, tables, rfl, shape, by decide, by decide, by decide, by decide⟩

/-- Settles O6: the completion is placed at the end of the control ring, and another ring reads as before. -/
theorem aFinalCompletionIsPlacedOnce : Obligations.AFinalCompletionIsPlacedOnce := by
  intro s q st results payload up ring running
  dsimp only
  rw [finish_ring up ring running, ring_modRing_self (place_ne _ _ _)]
  have len : (if st = .ok then payload else []).length = if st = .ok then payload.length else 0 := by split <;> rfl
  exact ⟨_, rfl, rfl, rfl, rfl, by rw [← len], rfl, rfl, by rw [← len]; rfl, rfl, fun i other => ring_modRing_ne other, rfl⟩

/-- Settles O7, by the three ways that an entry is admitted. -/
theorem theLogTakesItsEntries : Obligations.TheLogTakesItsEntries := by
  refine ⟨fun s e up severe _ => ?_, fun s e up low shown => ⟨fun token => ?_, fun none => ?_⟩⟩
  · rw [State.admitLog_severe up severe]
    exact ⟨rfl, length_writeLog _ _, nextLogSeq_ne _, rfl⟩
  · rw [State.admitLog_token up low shown token]
    exact ⟨rfl, rfl⟩
  · rw [State.admitLog_noToken up low shown none]
    exact ⟨rfl, rfl⟩

/-! ### IDENTIFY, GET_CAPS and LOG_READ -/

/-- Settles O11. -/
theorem identityIsAnswered : Obligations.IdentityIsAnswered := by
  refine ⟨fun s tag q takes plain room => ?_, fun s tag q takes plain room => ?_⟩
  · obtain ⟨len, fields⟩ := plain
    exact next_runRequest takes (guarded_begin takes (by simp [firstFail, len, fields]; omega))
  · obtain ⟨len, fields⟩ := plain
    exact next_runRequest takes (guarded_begin takes (by simp [firstFail, len, fields]; omega))

/-- Entries in ascending order from `start` on. -/
def Nvm.logFrom (n : Nvm) (start : Nat) : List LogEntry := n.log.reverse.filter (fun e => e.seq = start || newer e.seq start)

/-- Where a LOG_READ from `first` has a gap: the log begins after it (R423). -/
def Nvm.logGap (n : Nvm) (first : Nat) : Bool := first ≠ 0xFFFFFFFF && newer n.oldest first && n.log ≠ []

/-- Where it starts. -/
def Nvm.logStart (n : Nvm) (first : Nat) : Nat := if first = 0xFFFFFFFF || n.logGap first then n.oldest else first

theorem begin_nvm_of_keeps {s : State} {q : Request} (keeps : keepsRecord q.cap = true) : (s.begin q).nvm = s.nvm := if_pos keeps

theorem exec_logRead {s : State} {tag : BitVec 16} {q : Request} (takes : Takes s tag 0x58 q) (plain : Plain q [(28, 4), (32, 2)])
    (some' : 1 ≤ q.cap.arg 32 2) (most : q.cap.arg 32 2 ≤ 512) (room : 1 + (q.cap.arg 32 2 + 1) / 2 ≤ q.cap.rspan) :
    exec (.logRead tag) s = .next ((s.begin q).finish q .ok
      [(32, s.nvm.oldest), (32, s.nvm.newest), (16, ((s.nvm.logFrom (s.nvm.logStart (q.cap.arg 28 4))).take (q.cap.arg 32 2)).length),
        (8, b2n (s.nvm.logGap (q.cap.arg 28 4)))]
      (((s.nvm.logFrom (s.nvm.logStart (q.cap.arg 28 4))).take (q.cap.arg 32 2)).flatMap LogEntry.bytes)) := by
  obtain ⟨len, fields⟩ := plain
  obtain ⟨-, op, -, -⟩ := takes_facts takes
  rw [← begin_nvm_of_keeps (q := q) (by simp [keepsRecord, op])]
  have pass : firstFail [(decide (q.cap.len ≠ 0), Status.lenRange), (!q.cap.fieldsOk [(28, 4), (32, 2)] || decide (q.cap.arg 32 2 = 0) ||
      decide (512 < q.cap.arg 32 2) || decide (q.cap.rspan < 1 + (q.cap.arg 32 2 + 1) / 2), .range)] = none := by
    simp [firstFail, len, fields]
    omega
  exact next_runRequest takes (guarded_begin takes pass)

theorem Nvm.logGap_eq_true {n : Nvm} {first : Nat} : n.logGap first = true ↔ first ≠ 0xFFFFFFFF ∧ newer n.oldest first = true ∧ n.log ≠ [] := by
  simp [Nvm.logGap, and_assoc]

/-- The suppressed entries' record, in full. -/
theorem exec_logSuppressedRecord {s : State} (up : s.ben.up = true) (waiting : 0 < s.ben.suppressedNew) (token : 1000 ≤ s.tokensNow) :
    exec .logSuppressedRecord s =
      .next ((State.logEntry { s with ben := { s.ben with suppressedNew := 0 } } unitBenash 2 kindLog 0 0x20 s.ben.suppressedNew).raiseEvent evBenash) := by
  have due : (s.ben.up && decide (0 < s.ben.suppressedNew) && decide (1000 ≤ s.tokensNow)) = true := by simp [up, waiting, token]
  exact congrArg Host.Outcome.next (if_pos due)

/-- Settles O12: the entries read are the first COUNT of those from the start on. -/
theorem theLogIsReadInOrder : Obligations.TheLogIsReadInOrder := by
  refine ⟨fun s tag q takes plain least most room => ?_, fun s up waiting token shown => ?_⟩
  · dsimp only
    rw [exec_logRead takes plain least most room, ← Nvm.logGap_eq_true]
    refine ⟨_, (s.nvm.logFrom (s.nvm.logStart (q.cap.arg 28 4))).drop (q.cap.arg 32 2), s.nvm.logStart (q.cap.arg 28 4), _, ?_, ?_, ?_, ?_,
      (List.take_append_drop _ _).symm, by simp, ?_, rfl⟩
    · rintro (h | h) <;> simp [Nvm.logStart, h]
    · intro h
      simp only [not_or, Bool.not_eq_true] at h
      simp [Nvm.logStart, h]
    · intro h
      simp [h, b2n]
    · intro h
      simp [h, b2n]
    · intro more
      have longer : q.cap.arg 32 2 < (s.nvm.logFrom (s.nvm.logStart (q.cap.arg 28 4))).length := by simpa using more
      exact (List.length_take ..).trans (Nat.min_eq_left longer.le)
  · have written : State.logEntry { s with ben := { s.ben with suppressedNew := 0 } } unitBenash 2 kindLog 0 0x20 s.ben.suppressedNew = _ :=
      State.admitLog_token (s := { s with ben := { s.ben with suppressedNew := 0 } }) up (show 2 < 3 by decide) shown token
    rw [exec_logSuppressedRecord up waiting token, written, State.raiseEvent_eq]
    exact ⟨_, _, rfl, rfl, rfl, rfl, rfl, rfl, rfl, rfl, rfl, raiseEvent_flag rfl (by decide), rfl⟩

/-! ### COMMAND_TIMEOUT -/

theorem exec_commandTimeout {s : State} {tag : BitVec 16} {q : Request} (up : s.ben.up = true)
    (found : s.cyo.running.find? (fun r => r.cap.tag = tag) = some q) : exec (.commandTimeout tag) s = .next (s.timeOut q) := by
  show Host.Outcome.next (if (!s.ben.up) = true then s else
    match s.cyo.running.find? (fun r => r.cap.tag = tag) with | some q => s.timeOut q | none => s) = _
  rw [found, up]
  rfl

theorem tag_ne_of_mem_unrun {s : State} {t : BitVec 16} {r : Request} (h : r ∈ (s.unrun t).cyo.running) : r.cap.tag ≠ t := by
  simpa using List.of_mem_filter h

/-- Without a rule of its own for its maximum, a command leaves the commands in progress and completes with TIMEOUT. -/
theorem timeOut_of_no_rule {s : State} {q : Request} (h : [0x50, 0x53, 0x54, 0x5C, 0x4B, 0x65, 0x43].contains q.cap.op = false) :
    s.timeOut q = (s.unrun q.cap.tag).finish q .timeout [] [] := by
  unfold State.timeOut
  split <;> simp_all

/-- The state of a SLOT_COMMIT with this TAG that ran out of time: its staging open, no longer armed. -/
def State.unarm (s : State) (t : BitVec 16) : State :=
  (s.unrun t).modEng (fun g => { g with staging := g.staging.map (fun x => if x.tag = some t then { x with state := 1, tag := none } else x) })

theorem timeOut_slotCommit {s : State} {q : Request} (h : q.cap.op = 0x65) :
    s.timeOut q = (s.unarm q.cap.tag).finish q .timeout s.commitResults [] := by
  simp only [State.timeOut, h, State.unarm]

/-- Settles O14. -/
theorem aCommandTimesOut : Obligations.ACommandTimesOut := by
  intro s tag q up found
  have named : q.cap.tag = tag := by simpa using List.find?_some found
  rw [exec_commandTimeout up found]
  refine ⟨fun r left => named ▸ tag_ne_of_mem_unrun left, fun h => by rw [timeOut_of_no_rule h], fun h => ?_⟩
  refine ⟨s.unarm q.cap.tag, by rw [timeOut_slotCommit h]; rfl, fun g staged its => ?_, rfl, rfl⟩
  show s.eng.staging.map _ = _
  simp [staged, its]

end Sys2Proof.Machine
end

section
/-! PROOFS. The side-band, resets by register, Benash restarts and clock gates. -/

namespace Sys2Proof.Machine

set_option Elab.async false

/-! ### Frames: a projection that both branches, or every step of a fold, keep -/

theorem State.ite_keeps {α : Type} {π : State → α} {c : Prop} [Decidable c] {a b : State} {x : α} (ha : π a = x) (hb : π b = x) :
    π (if c then a else b) = x := by
  split
  · exact ha
  · exact hb

theorem State.foldl_keeps {α β : Type} (π : State → β) {f : State → α → State} (same : ∀ u x, π (f u x) = π u) (l : List α) (s : State) :
    π (l.foldl f s) = π s := by
  induction l generalizing s with
  | nil => rfl
  | cons x l ih => rw [List.foldl_cons, ih, same]

/-! ### The SMBus target -/

/-- A Block Read that is answered changes the output alone. -/
theorem next_smbAnswer {s : State} {a : Nat} (alive : s.smbAlive a = true) (pec : Bool) (code : Nat) (bs : List Byte) :
    (Host.Outcome.next (s.smbAnswer a pec code bs) : Host.Outcome State Fault Refusal) =
      .next (s.emit (.smb (if pec then bs ++ [smbPec a code bs] else bs))) := by
  rw [State.smbAnswer, if_pos alive]

/-- The target answers at its own address alone (R451). -/
theorem smbAlive_of_ne {s : State} {a : Nat} (other : a ≠ 0x68 + s.pwr.smbAddr) : s.smbAlive a = false := by
  simp [State.smbAlive, State.smbAddress, other]

/-- Settles O26. -/
theorem theSideBandOnlyReads : Obligations.TheSideBandOnlyReads := by
  refine ⟨fun s a pec alive => ?_, fun s a pec other => ?_, fun s running on => ?_⟩
  · have answer := next_smbAnswer alive pec
    exact ⟨answer _ _, answer _ _, answer _ _, answer _ _, answer _ _, answer _ _, answer _ _, answer _ _, answer _ _⟩
  · exact congrArg Host.Outcome.next (if_neg (by simp [smbAlive_of_ne other]))
  · refine ⟨s.modPwr (fun p => { p with led1 := false, led1Off := true, traffic := false }), ?_, ?_, rfl, rfl⟩
    · show Host.Outcome.next (if s.heldReset = true then s else _) = _
      simp [running, State.modPwr, on]
    · simp [State.pinLed1, State.openDrain, State.modPwr]

/-! ### Core and warm reset -/

/-- A log entry changes the non-volatile memory and Benash alone. -/
theorem State.admitLog_eq (s : State) (e : LogEntry) : s.admitLog e = { s with nvm := (s.admitLog e).nvm, ben := (s.admitLog e).ben } := by
  unfold State.admitLog
  dsimp only
  repeat' split
  all_goals rfl

@[simp] theorem admitLog_boots (s : State) (e : LogEntry) : (s.admitLog e).nvm.boots = s.nvm.boots := by
  unfold State.admitLog
  dsimp only
  repeat' split
  all_goals rfl

@[simp] theorem logEntry_boots (s : State) (unitId sev kind detail obj a0 a1 a2 a3 : Nat) :
    (s.logEntry unitId sev kind detail obj a0 a1 a2 a3).nvm.boots = s.nvm.boots := by
  unfold State.logEntry
  split
  · rfl
  · exact admitLog_boots _ _

@[simp] theorem loadTrim_pwr (s : State) : s.loadTrim.pwr = s.pwr := by simp [State.loadTrim]
@[simp] theorem loadTrim_fp (s : State) : s.loadTrim.fp = s.fp := by simp [State.loadTrim]
@[simp] theorem loadTrim_nvm (s : State) : s.loadTrim.nvm = s.nvm := by simp [State.loadTrim]
@[simp] theorem loadTrim_time (s : State) : s.loadTrim.time = s.time := by simp [State.loadTrim]

@[simp] theorem startUp_pwr (s : State) : s.startUp.pwr = s.pwr := by simp [State.startUp, State.trimStart]
@[simp] theorem startUp_fp (s : State) : s.startUp.fp = s.fp := by simp [State.startUp, State.trimStart]
@[simp] theorem startUp_time (s : State) : s.startUp.time = s.time := by simp [State.startUp, State.trimStart]

/-- Every start-up counts a boot. -/
@[simp] theorem startUp_boots (s : State) : s.startUp.nvm.boots = (s.nvm.boots + 1) % 2 ^ 32 := by
  unfold State.startUp State.trimStart
  dsimp only
  split
  · simp
  · simp

/-- A write of FP_RESET with bit 16 clears REFUSED. -/
def State.clearRefused (s : State) (v : BitVec 32) : State := s.setFp (fun f => { f with resetRefused := f.resetRefused && !v.getLsbD 16 })

@[simp] theorem heldReset_clearRefused (s : State) (v : BitVec 32) : (s.clearRefused v).heldReset = s.heldReset := rfl
@[simp] theorem clearRefused_ben (s : State) (v : BitVec 32) : (s.clearRefused v).ben = s.ben := rfl

/-- What a write of FP_RESET with its key and one reset bit does (R299). -/
theorem writeFpReset_live {s : State} {v : BitVec 32} (live : s.fpResetLive = true) (key : bitsAt v.toNat 8 8 = 0xC5)
    (one : b2n (v.getLsbD 0) + b2n (v.getLsbD 1) + b2n (v.getLsbD 2) = 1) :
    s.writeFpReset v =
      if v.getLsbD 0 = true then (s.clearRefused v).coreReset 3 else if v.getLsbD 1 = true then (s.clearRefused v).warmReset 2
      else if (s.heldReset || s.ben.restartSince.isSome || !s.ben.up) = true then s.clearRefused v else (s.clearRefused v).startRestart := by
  have some' : (!v.getLsbD 0 && !v.getLsbD 1 && !v.getLsbD 2) = false := by
    revert one
    cases v.getLsbD 0 <;> cases v.getLsbD 1 <;> cases v.getLsbD 2 <;> decide
  unfold State.writeFpReset
  dsimp only
  rw [if_neg (by simp [live]), if_neg (by simp only [some', Bool.false_eq_true, not_false_eq_true]), if_neg (by simp only [key, one]; decide)]
  rfl

/-- Without its key, or with several reset bits, only REFUSED sets. -/
theorem writeFpReset_refused {s : State} {v : BitVec 32} (live : s.fpResetLive = true) (core : v.getLsbD 0 = true)
    (bad : bitsAt v.toNat 8 8 ≠ 0xC5 ∨ v.getLsbD 1 = true ∨ v.getLsbD 2 = true) :
    s.writeFpReset v = s.setFp (fun f => { f with resetRefused := true }) := by
  have refused : (decide (bitsAt v.toNat 8 8 ≠ 0xC5) || decide (b2n (v.getLsbD 0) + b2n (v.getLsbD 1) + b2n (v.getLsbD 2) ≠ 1)) = true := by
    rcases bad with key | warm | ben
    · simp [key]
    · simp only [core, warm, b2n, if_true, Bool.or_eq_true, decide_eq_true_eq]
      omega
    · simp only [core, ben, b2n, if_true, Bool.or_eq_true, decide_eq_true_eq]
      omega
  unfold State.writeFpReset
  dsimp only
  rw [if_neg (by simp [live]), if_neg (by simp only [core]; simp), if_pos refused]

/-- Outside power-on and warm reset, a core reset that none holds up starts at once. -/
theorem coreReset_of_free {s : State} (free : s.heldReset = false) (cause : Nat) : s.coreReset cause = (s.coreClear cause).startUp := by
  simp [State.coreReset, free]

theorem heldReset_of_fpResetLive {s : State} (live : s.fpResetLive = true) (core : s.pwr.coreSince = none) : s.heldReset = false := by
  simp only [State.fpResetLive, Bool.and_eq_true, Bool.not_eq_true'] at live
  obtain ⟨⟨⟨por, warm⟩, -⟩, -⟩ := live
  simp [State.heldReset, por, warm, core]

/-! ### A Benash restart -/

theorem State.foldl_ben_restarts {α : Type} {f : State → α → State} (same : ∀ u x, (f u x).ben.restarts = u.ben.restarts) (l : List α) (s : State) :
    (l.foldl f s).ben.restarts = s.ben.restarts := State.foldl_keeps (fun t => t.ben.restarts) same l s
@[simp] theorem State.signalVector_ben_restarts (s : State) (v : Nat) : (State.signalVector s v).ben.restarts = s.ben.restarts := rfl
@[simp] theorem State.signalGeneral_ben_restarts (s : State) : (State.signalGeneral s).ben.restarts = s.ben.restarts := by simp [State.signalGeneral]
@[simp] theorem State.raiseEvent_ben_restarts (s : State) (i : Nat) : (State.raiseEvent s i).ben.restarts = s.ben.restarts :=
  by simp [State.raiseEvent]
@[simp] theorem State.endSessions_ben_restarts (s : State) : (State.endSessions s).ben.restarts = s.ben.restarts := by simp [State.endSessions]
@[simp] theorem State.recordTest_ben_restarts (s : State) (test target : Nat) (result ended : Nat) (done since : Nat) (sig : BitVec 64) :
    (State.recordTest s test target result ended done since sig).ben.restarts = s.ben.restarts := by simp [State.recordTest]
@[simp] theorem State.admitLog_ben_restarts (s : State) (e : LogEntry) : (State.admitLog s e).ben.restarts = s.ben.restarts :=
  by unfold State.admitLog; dsimp only; (repeat' split) <;> rfl
@[simp] theorem State.logEntry_ben_restarts (s : State) (unitId sev : Nat) (kind detail : Nat) (obj a0 : Nat) (a1 a2 a3 : Nat) :
    (State.logEntry s unitId sev kind detail obj a0 a1 a2 a3).ben.restarts = s.ben.restarts := by unfold State.logEntry; split <;> simp
@[simp] theorem State.modEngine_ben_restarts (s : State) (e : Nat) (f : Engine → Engine) : (State.modEngine s e f).ben.restarts = s.ben.restarts :=
  rfl
@[simp] theorem State.retireIdle_ben_restarts (s : State) (e cause : Nat) : (State.retireIdle s e cause).ben.restarts = s.ben.restarts :=
  by simp [State.retireIdle]
@[simp] theorem State.modEng_ben_restarts (s : State) (f : Engines → Engines) : (State.modEng s f).ben.restarts = s.ben.restarts := rfl
@[simp] theorem State.repairCause_ben_restarts (s : State) (e cause : Nat) (auto : Bool) :
    (State.repairCause s e cause auto).ben.restarts = s.ben.restarts := by simp [State.repairCause, apply_ite State.ben, apply_ite Benash.restarts]
@[simp] theorem State.retireElement_ben_restarts (s : State) (test target : Nat) :
    (State.retireElement s test target).ben.restarts = s.ben.restarts := by unfold State.retireElement; split <;> simp
@[simp] theorem State.modRing_ben_restarts (s : State) (i : Nat) (f : Ring → Ring) : (State.modRing s i f).ben.restarts = s.ben.restarts := rfl
@[simp] theorem State.doneLost_ben_restarts (s : State) (n : Nat) : (State.doneLost s n).ben.restarts = s.ben.restarts := rfl
@[simp] theorem State.complete_ben_restarts (s : State) (i release : Nat) (c : Completion) :
    (State.complete s i release c).ben.restarts = s.ben.restarts := by simp [State.complete]
@[simp] theorem State.finish_ben_restarts (s : State) (q : Request) (st : Status) (results : List (Nat × Nat)) (payload : List Byte) :
    (State.finish s q st results payload).ben.restarts = s.ben.restarts := by
  unfold State.finish
  dsimp only
  split
  · rfl
  · split <;> simp
@[simp] theorem State.unrun_ben_restarts (s : State) (tag : BitVec 16) : (State.unrun s tag).ben.restarts = s.ben.restarts := rfl
@[simp] theorem State.endRun_ben_restarts (s : State) (op : Nat) (p : Capsule → Bool) (st : Status) (results : List (Nat × Nat)) :
    (State.endRun s op p st results).ben.restarts = s.ben.restarts := by unfold State.endRun; split <;> simp
@[simp] theorem State.finishShutdown_ben_restarts (s : State) : (State.finishShutdown s).ben.restarts = s.ben.restarts :=
  by unfold State.finishShutdown; split <;> simp
@[simp] theorem State.releaseHeld_ben_restarts (s : State) : (State.releaseHeld s).ben.restarts = s.ben.restarts := rfl
@[simp] theorem State.recordFailure_ben_restarts (s : State) (cause : Nat) (counted quiet : Bool) :
    (State.recordFailure s cause counted quiet).ben.restarts = s.ben.restarts := by unfold State.recordFailure; simp only []; split <;> simp
@[simp] theorem State.modLink_ben_restarts (s : State) (f : Link → Link) : (State.modLink s f).ben.restarts = s.ben.restarts := rfl
@[simp] theorem State.ladderStep_ben_restarts (s : State) (rung : Rung) : (State.ladderStep s rung).ben.restarts = s.ben.restarts := by
  refine State.ite_keeps (π := fun t => t.ben.restarts) rfl ?_
  simp only [State.raiseEvent_ben_restarts, State.logEntry_ben_restarts]
  split
  · exact State.ite_keeps (π := fun t => t.ben.restarts) rfl rfl
  · rfl
@[simp] theorem State.modLinkCnt_ben_restarts (s : State) (f : LinkCounters → LinkCounters) : (State.modLinkCnt s f).ben.restarts = s.ben.restarts :=
  rfl
@[simp] theorem State.enter_ben_restarts (s : State) (n : Nat) : (State.enter s n).ben.restarts = s.ben.restarts := rfl
@[simp] theorem State.modFlow_ben_restarts (s : State) (f : Nat) (g : Flow → Flow) : (State.modFlow s f g).ben.restarts = s.ben.restarts := rfl
@[simp] theorem State.modStats_ben_restarts (s : State) (f : Nat) (g : FlowStats → FlowStats) :
    (State.modStats s f g).ben.restarts = s.ben.restarts := rfl
@[simp] theorem State.dropTx_ben_restarts (s : State) : (State.dropTx s).ben.restarts = s.ben.restarts := by
  unfold State.dropTx
  dsimp only
  rw [State.foldl_ben_restarts (by simp), State.foldl_ben_restarts (by simp)]
@[simp] theorem State.endKnuckle_ben_restarts (s : State) (st : Status) : (State.endKnuckle s st).ben.restarts = s.ben.restarts :=
  by unfold State.endKnuckle; split <;> simp
@[simp] theorem State.lanePhases_ben_restarts (s : State) (frames : Nat) : (State.lanePhases s frames).ben.restarts = s.ben.restarts := rfl
@[simp] theorem State.revert_ben_restarts (s : State) : (State.revert s).ben.restarts = s.ben.restarts := rfl
@[simp] theorem State.heldRevert_ben_restarts (s : State) : (State.heldRevert s).ben.restarts = s.ben.restarts :=
  by unfold State.heldRevert; split <;> rfl
@[simp] theorem State.finishCal_ben_restarts (s : State) : (State.finishCal s).ben.restarts = s.ben.restarts :=
  by unfold State.finishCal; split <;> simp
@[simp] theorem State.endCalItems_ben_restarts (s : State) (code : Nat) (which : Nat → Bool) :
    (State.endCalItems s code which).ben.restarts = s.ben.restarts := by
  unfold State.endCalItems
  dsimp only
  split
  · rfl
  · split <;> simp
@[simp] theorem State.calLinkChange_ben_restarts (s : State) : (State.calLinkChange s).ben.restarts = s.ben.restarts := by simp [State.calLinkChange]
@[simp] theorem State.modLc_ben_restarts (s : State) (f : LcCounters → LcCounters) : (State.modLc s f).ben.restarts = s.ben.restarts := rfl
@[simp] theorem State.dropItem_ben_restarts (s : State) : (State.dropItem s).ben.restarts = s.ben.restarts :=
  by unfold State.dropItem; dsimp only; (repeat' split) <;> rfl
@[simp] theorem State.openStaging_ben_restarts (s : State) (host : Bool) : (State.openStaging s host).ben.restarts = s.ben.restarts := rfl
@[simp] theorem State.commitProfile_ben_restarts (s : State) (p : Profile) : (State.commitProfile s p).ben.restarts = s.ben.restarts :=
  by unfold State.commitProfile; split <;> rfl
@[simp] theorem State.loadNew_ben_restarts (s : State) (es : List Nat) : (State.loadNew s es).ben.restarts = s.ben.restarts := by
  refine State.ite_keeps (π := fun t => t.ben.restarts) ?_ ?_
  · exact State.foldl_ben_restarts (by simp) _ _
  · simp only [State.raiseEvent_ben_restarts, State.logEntry_ben_restarts]
    exact State.foldl_ben_restarts (by simp) _ _
@[simp] theorem State.finishSwap_ben_restarts (s : State) : (State.finishSwap s).ben.restarts = s.ben.restarts :=
  by unfold State.finishSwap; split <;> simp
@[simp] theorem State.supersede_ben_restarts (s : State) : (State.supersede s).ben.restarts = s.ben.restarts := rfl
@[simp] theorem State.abandonRepair_ben_restarts (s : State) : (State.abandonRepair s).ben.restarts = s.ben.restarts :=
  by unfold State.abandonRepair; split <;> rfl
@[simp] theorem State.openWaiting_ben_restarts (s : State) : (State.openWaiting s).ben.restarts = s.ben.restarts := by
  unfold State.openWaiting
  dsimp only
  split
  · rfl
  · split <;> simp
@[simp] theorem State.sendOam_ben_restarts (s : State) (typ : Nat) (body : List Byte) : (State.sendOam s typ body).ben.restarts = s.ben.restarts :=
  by simp [State.sendOam]
@[simp] theorem State.sendQuietReq_ben_restarts (s : State) (p : Pair) (action ms : Nat) :
    (State.sendQuietReq s p action ms).ben.restarts = s.ben.restarts := by simp [State.sendQuietReq]
@[simp] theorem State.emit_ben_restarts (s : State) (o : Out) : (State.emit s o).ben.restarts = s.ben.restarts := rfl
@[simp] theorem State.writeLine_ben_restarts (s : State) (a : Nat) (line : List Byte) : (State.writeLine s a line).ben.restarts = s.ben.restarts :=
  rfl
@[simp] theorem State.writeLines_ben_restarts (s : State) (a x2 : Nat) (x3 : List Byte) :
    (State.writeLines s a x2 x3).ben.restarts = s.ben.restarts := by
  induction x2 generalizing s a x3 with
  | zero => rfl
  | succ n ih => rw [State.writeLines, ih]; simp
@[simp] theorem State.finishDiag_ben_restarts (s : State) (st : Status) : (State.finishDiag s st).ben.restarts = s.ben.restarts := by
  unfold State.finishDiag
  dsimp only
  split
  · rfl
  · simp [apply_ite State.ben, apply_ite Benash.restarts]
@[simp] theorem State.endDiagTests_ben_restarts (s : State) (code : Nat) (st : Status) :
    (State.endDiagTests s code st).ben.restarts = s.ben.restarts := by unfold State.endDiagTests; split <;> simp
@[simp] theorem State.interruptDiagRun_ben_restarts (s : State) : (State.interruptDiagRun s).ben.restarts = s.ben.restarts :=
  by simp [State.interruptDiagRun]
@[simp] theorem State.lineDown_ben_restarts (s : State) (retrain : Status) : (State.lineDown s retrain).ben.restarts = s.ben.restarts :=
  by unfold State.lineDown; dsimp only; split <;> simp
@[simp] theorem State.linkFail_ben_restarts (s : State) (cause : Nat) (retrain : optParam Status Status.notReady) (silent : optParam Bool false) :
    (State.linkFail s cause retrain silent).ben.restarts = s.ben.restarts := by
  unfold State.linkFail
  dsimp only
  split
  · rfl
  · simp [apply_ite State.ben, apply_ite Benash.restarts]
@[simp] theorem State.dielinkFall_ben_restarts (s : State) : (State.dielinkFall s).ben.restarts = s.ben.restarts :=
  by unfold State.dielinkFall; split <;> simp
@[simp] theorem State.startSearch_ben_restarts (s : State) : (State.startSearch s).ben.restarts = s.ben.restarts := by simp [State.startSearch]
@[simp] theorem State.abortTest_ben_restarts (s : State) (ended : Nat) : (State.abortTest s ended).ben.restarts = s.ben.restarts := by
  unfold State.abortTest
  dsimp only
  split
  · rfl
  · simp [apply_ite State.ben, apply_ite Benash.restarts]


/-- A Benash restart is counted, whatever it cuts short. -/
theorem startRestart_restarts (s : State) : s.startRestart.ben.restarts = inc 16 s.ben.restarts := by
  simp [State.startRestart]

/-- Settles O23. -/
theorem fpResetNeedsItsKey : Obligations.FpResetNeedsItsKey := by
  refine ⟨fun s v live key => ⟨fun core warm ben free => ?_, fun core warm ben => ?_, fun core warm ben up idle free => ?_⟩, fun s v live core bad => ?_⟩
  · have free : (s.clearRefused v).heldReset = false := heldReset_of_fpResetLive live free
    have does : s.writeFpReset v = ((s.clearRefused v).coreClear 3).startUp := by
      rw [writeFpReset_live live key (by simp only [core, warm, ben]; rfl), if_pos core, coreReset_of_free free]
    refine ⟨_, congrArg Host.Outcome.next ((if_pos core).trans does), ?_⟩
    simp [State.coreClear, State.clearUnits, State.clearRefused, State.setFp]
  · have does : s.writeFpReset v = (s.clearRefused v).warmReset 2 := by
      rw [writeFpReset_live live key (by simp only [core, warm, ben]; rfl), if_neg (ne_true_of_eq_false core), if_pos warm]
    refine ⟨_, congrArg Host.Outcome.next ((if_pos warm).trans does), ?_⟩
    simp [State.warmReset, State.warmEnd, State.warmStart, State.warmClear, State.clearUnits, State.clearRefused]
  · have free := heldReset_of_fpResetLive live free
    have does : s.writeFpReset v = (s.clearRefused v).startRestart := by
      rw [writeFpReset_live live key (by simp only [core, warm, ben]; rfl), if_neg (ne_true_of_eq_false core), if_neg (ne_true_of_eq_false warm),
        if_neg (by simp [free, idle, up])]
    exact ⟨_, congrArg Host.Outcome.next ((if_pos ben).trans does), rfl, rfl, startRestart_restarts _⟩
  · exact congrArg Host.Outcome.next ((if_pos core).trans (writeFpReset_refused live core bad))

/-! ### Clock gates -/

theorem getLsbD_and_not_twoPow {w : Nat} (b : BitVec w) (g : Nat) : (b &&& ~~~(BitVec.twoPow w g)).getLsbD g = false := by
  by_cases h : g < w
  · simp [h]
  · simp [BitVec.getLsbD_of_ge _ _ (Nat.le_of_not_lt h)]

/-- Without a GATE_CTL write in progress nothing is left to complete. -/
theorem hostGatesDone_of_none {s : State} (none : s.gate.hostAsked = 0) : s.hostGatesDone = s := by
  unfold State.hostGatesDone
  simp [none]

/-- An engine's state after a change to one engine. -/
theorem engine_modEngine (s : State) (g e : Nat) (f : Engine → Engine) :
    (s.modEngine g f).engine e = if e = g ∧ g < s.eng.eng.length then f (s.engine e) else s.engine e := by
  simp only [State.modEngine, State.engine, modAt, List.getD_eq_getElem?_getD, List.getElem?_modify]
  by_cases same : g = e
  · subst same
    by_cases inside : g < s.eng.eng.length
    · simp [inside]
    · simp [inside]
  · simp [same, Ne.symm same]

/-- A refusal withdraws the request, is counted, and takes the host's bit back. -/
def State.gateRefused (s : State) (g : Nat) : State :=
  let host := 102 ≤ g && s.gate.hostAsked.getLsbD (g - 102)
  s.modGate (fun t => { t with
    asked := t.asked &&& ~~~(BitVec.twoPow 106 g), refusals := inc 16 t.refusals, lastRefused := g
    ctl := if host then t.ctl &&& ~~~(BitVec.twoPow 3 (g - 102)) else t.ctl, hostRefused := t.hostRefused || host })

@[simp] theorem gateRefused_gate (s : State) (g : Nat) : (s.gateRefused g).gate = { s.gate with
    asked := s.gate.asked &&& ~~~(BitVec.twoPow 106 g), refusals := inc 16 s.gate.refusals, lastRefused := g
    ctl := if 102 ≤ g && s.gate.hostAsked.getLsbD (g - 102) then s.gate.ctl &&& ~~~(BitVec.twoPow 3 (g - 102)) else s.gate.ctl
    hostRefused := s.gate.hostRefused || (102 ≤ g && s.gate.hostAsked.getLsbD (g - 102)) } := rfl
@[simp] theorem gateRefused_link (s : State) (g : Nat) : (s.gateRefused g).link = s.link := rfl
@[simp] theorem modEngine_gate (s : State) (e : Nat) (f : Engine → Engine) : (s.modEngine e f).gate = s.gate := rfl
@[simp] theorem modEngine_link (s : State) (e : Nat) (f : Engine → Engine) : (s.modEngine e f).link = s.link := rfl

theorem exec_gateCloseRefused {s : State} {g : Nat} (small : g < 106) (asked : s.gate.asked.getLsbD g = true) :
    exec (.gateCloseRefused g) s = .next (if (decide (g < 96) && s.hasSlots g) = true then s.gateRefused g
      else ((((s.gateRefused g).modEngine g (fun e => { e with gateRefused := true })).logEntry unitClock 3 kindFault 0 0x04 g
        Status.gateRefused.code)).hostGatesDone) :=
  congrArg Host.Outcome.next (if_neg (by simp [asked]; omega))

/-- Settles O25. -/
theorem gatesCloseByHandshake : Obligations.GatesCloseByHandshake := by
  refine ⟨fun s g small free present opened => ?_, fun s g small asked idle none => ?_, fun s g small asked none => ?_, fun s g access small host closed => ?_⟩
  · refine ⟨_, congrArg Host.Outcome.next (if_neg (by simp [free, present])), ?_, fun e => ?_, rfl⟩
    · simp [State.modGate, State.modEngine, Gates.ask, opened]
    · refine (engine_modEngine s g e (fun e => { e with gateRefused := false })).trans ?_
      by_cases same : e = g
      · subst same
        by_cases inside : e < s.eng.eng.length
        · simp [inside]
        · have absent : s.engine e = {} := by simp [State.engine, inside]
          simp [absent]
      · simp [same]
  · refine ⟨_, congrArg Host.Outcome.next ((if_neg (by simp [asked, idle]; omega)).trans (hostGatesDone_of_none none)), rfl,
      getLsbD_and_not_twoPow _ _, rfl, rfl⟩
  · rw [exec_gateCloseRefused small asked]
    refine ⟨_, rfl, ?_⟩
    by_cases slots : (decide (g < 96) && s.hasSlots g) = true
    · rw [if_pos slots]
      exact ⟨getLsbD_and_not_twoPow _ _, rfl, rfl, rfl, fun _ _ => rfl, rfl⟩
    · rw [if_neg slots, hostGatesDone_of_none (by simp [none])]
      refine ⟨?_, by simp, by simp, by simp, fun engine has => absurd (by simp [engine, has]) slots, by simp⟩
      simp
  · have acts : (decide (106 ≤ g) || !s.gate.closed.getLsbD g || decide (102 ≤ g) && s.gate.hostClosed (g - 102)) = false := by
      by_cases h : 102 ≤ g
      · simp [closed, host h]; omega
      · simp [closed]; omega
    exact ⟨_, congrArg Host.Outcome.next (if_neg (by simp [acts])), getLsbD_and_not_twoPow _ _, rfl, rfl⟩

end Sys2Proof.Machine
end

section
/-! PROOFS. The Front Panel's registers and the rings' registers and doorbells. -/

namespace Sys2Proof.Machine

set_option Elab.async false

/-! ### Canonical tables: what is read back -/

theorem rings_wf {s : State} (ok : s.tablesOk = true) : Sparse.wf {} s.kw.rings = true := ((tablesOk_iff s).mp ok).1

theorem ring_modRing {s : State} (ok : s.tablesOk = true) (i : Nat) (f : Ring → Ring) : (s.modRing i f).ring i = f (s.ring i) :=
  sget_sset_wf ({} : Ring) i _ (rings_wf ok)

/-- Clearing a run of counters: those read 0, the others as before. -/
theorem sget_clear {t : Sparse Nat} (ok : Sparse.wf 0 t = true) (k n j : Nat) :
    sget 0 ((List.range n).foldl (fun acc i => sset 0 acc (k + i) 0) t) j = if k ≤ j ∧ j < k + n then 0 else sget 0 t j := by
  induction n with
  | zero =>
    rw [if_neg (by omega)]
    rfl
  | succ n ih =>
    have canonical : Sparse.wf 0 ((List.range n).foldl (fun acc i => sset 0 acc (k + i) 0) t) = true :=
      foldl_wf (fun _ _ h => sset_wf _ _ _ h) _ ok
    rw [List.range_succ, List.foldl_append, List.foldl_cons, List.foldl_nil]
    by_cases last : j = k + n
    · rw [last, sget_sset_wf _ _ _ canonical, if_pos (by omega)]
    · rw [sget_sset_ne _ _ _ last, ih]
      by_cases inside : k ≤ j ∧ j < k + n
      · rw [if_pos inside, if_pos (by omega)]
      · rw [if_neg inside, if_neg (by omega)]

/-! ### Front Panel registers -/

theorem writeEvent_live {s : State} (live : s.fpLive = true) (v : BitVec 32) :
    s.writeEvent v = if s.fp.event &&& ~~~(v.truncate 13) &&& s.fp.eventEn ≠ 0 then
      (s.setFp (fun f => { f with event := s.fp.event &&& ~~~(v.truncate 13) })).signalGeneral
      else s.setFp (fun f => { f with event := s.fp.event &&& ~~~(v.truncate 13) }) := by
  simp [State.writeEvent, live]

theorem writeEventEn_live {s : State} (live : s.fpLive = true) (v : BitVec 32) :
    s.writeEventEn v = if v.truncate 13 &&& ~~~s.fp.eventEn &&& s.fp.event ≠ 0 then
      (s.setFp (fun f => { f with eventEn := v.truncate 13 })).signalGeneral else s.setFp (fun f => { f with eventEn := v.truncate 13 }) := by
  simp [State.writeEventEn, live]

theorem writeNme_live {s : State} (live : s.fpLive = true) (v : BitVec 32) :
    s.writeNme v = if s.fp.nme &&& ~~~(v.truncate 7) ≠ 0 then
      (s.setFp (fun f => { f with nme := s.fp.nme &&& ~~~(v.truncate 7) })).signalVector 1001
      else s.setFp (fun f => { f with nme := s.fp.nme &&& ~~~(v.truncate 7) }) := by
  simp [State.writeNme, live]

/-- Signalling an event writes the MSI-X table, the times of the signals and the output alone. -/
theorem signalGeneral_eq (s : State) : s.signalGeneral = { s with fp := s.signalGeneral.fp, out := s.signalGeneral.out } := by
  unfold State.signalGeneral
  dsimp only
  split
  · split <;> rfl
  · rfl

@[simp] theorem signalGeneral_eventEn (s : State) : s.signalGeneral.fp.eventEn = s.fp.eventEn := by
  unfold State.signalGeneral
  dsimp only
  split
  · split <;> rfl
  · rfl

@[simp] theorem signalGeneral_eventCnt (s : State) : s.signalGeneral.fp.eventCnt = s.fp.eventCnt := by
  unfold State.signalGeneral
  dsimp only
  split
  · split <;> rfl
  · rfl

theorem fpEventWrite_answers {s : State} (live : s.fpLive = true) (v : BitVec 32) :
    let e := s.fp.event &&& ~~~(v.truncate 13)
    ∃ t : State, exec (.fpEventWrite v) s = .next t ∧ t.fp.event = e ∧ t.fp.eventEn = s.fp.eventEn ∧ t.fp.eventCnt = s.fp.eventCnt ∧
      (e &&& s.fp.eventEn = 0 → t = { s with fp := { s.fp with event := e } }) ∧
      (e &&& s.fp.eventEn ≠ 0 → t = (s.setFp (fun f => { f with event := e })).signalGeneral) := by
  refine ⟨_, congrArg Host.Outcome.next (writeEvent_live live v), ?_⟩
  split
  · next due => exact ⟨by simp [State.setFp], by simp [State.setFp], by simp [State.setFp], fun none => absurd none due, fun _ => rfl⟩
  · next none => exact ⟨rfl, rfl, rfl, fun _ => rfl, fun due => absurd due none⟩

theorem fpEventEnWrite_answers {s : State} (live : s.fpLive = true) (v : BitVec 32) :
    ∃ t : State, exec (.fpEventEnWrite v) s = .next t ∧ t.fp.eventEn = v.truncate 13 ∧ t.fp.event = s.fp.event ∧
      t = { s with fp := t.fp, out := t.out } := by
  refine ⟨_, congrArg Host.Outcome.next (writeEventEn_live live v), ?_⟩
  split
  · rw [signalGeneral_eq]
    exact ⟨by simp [State.setFp], by simp [State.setFp], rfl⟩
  · exact ⟨rfl, rfl, rfl⟩

theorem fpNmeStatusWrite_answers {s : State} (live : s.fpLive = true) (v : BitVec 32) :
    let n := s.fp.nme &&& ~~~(v.truncate 7)
    ∃ t : State, exec (.fpNmeStatusWrite v) s = .next t ∧ t.fp.nme = n ∧ t.fp.nmeCnt = s.fp.nmeCnt ∧
      (n = 0 → t = { s with fp := { s.fp with nme := n } }) ∧ (n ≠ 0 → t = (s.setFp (fun f => { f with nme := n })).signalVector 1001) := by
  refine ⟨_, congrArg Host.Outcome.next (writeNme_live live v), ?_⟩
  split
  · next due => exact ⟨rfl, rfl, fun none => absurd none due, fun _ => rfl⟩
  · next none => exact ⟨rfl, rfl, fun _ => rfl, fun due => absurd due none⟩

/-- A write of register 0x40 writes FP_NME_STATUS. -/
theorem registerWrite_nmeStatus (s : State) (v : BitVec 32) :
    exec (.registerWrite 0 0x40 false (v.zeroExtend 64)) s = exec (.fpNmeStatusWrite v) s := by
  have same : (v.zeroExtend 64).truncate 32 = v := by
    apply BitVec.eq_of_toNat_eq
    simp
  show Host.Outcome.next (s.writeRegister 0 0x40 false (v.zeroExtend 64)) = .next (s.writeNme v)
  unfold State.writeRegister
  by_cases live : s.fpLive = true
  · simp [live, aligned, same]
  · simp [live, State.writeNme]

theorem fpEventCntRead_answers {s : State} {w : Nat} {wide : Bool} (live : s.fpLive = true) (ok : s.tablesOk = true) (even : wide = true → w % 2 = 0)
    (small : w < 8) :
    let n := if wide then 4 else 2
    ∃ t : State, exec (.fpEventCntRead w wide) s = .next t ∧
      t.out = .regRead (packNat ((List.range n).map (fun j => (16, sget 0 s.fp.eventCnt (2 * w + j))))) :: s.out ∧
      (∀ k, sget 0 t.fp.eventCnt k = if 2 * w ≤ k ∧ k < 2 * w + n then 0 else sget 0 s.fp.eventCnt k) ∧
      t = { s with fp := { s.fp with eventCnt := t.fp.eventCnt }, out := t.out } := by
  have canonical : Sparse.wf 0 s.fp.eventCnt = true := by
    obtain ⟨-, -, fp, -⟩ := (tablesOk_iff s).mp ok
    obtain ⟨-, -, counts, -⟩ := fp
    exact counts
  have reads : ¬ (!s.fpLive || decide (w ≥ 8) || wide && decide (w % 2 = 1)) = true := by
    cases wide <;> simp_all
  exact ⟨_, congrArg Host.Outcome.next (if_neg reads), rfl, sget_clear canonical _ _, rfl⟩

theorem fpNmeCntRead_answers {s : State} {w : Nat} {wide : Bool} (live : s.fpLive = true) (ok : s.tablesOk = true) (even : wide = true → w % 2 = 0)
    (small : w < 4) :
    let n := if wide then 4 else 2
    ∃ t : State, exec (.fpNmeCntRead w wide) s = .next t ∧
      t.out = .regRead (packNat ((List.range n).map (fun j => (16, sget 0 s.fp.nmeCnt (2 * w + j))))) :: s.out ∧
      (∀ k, sget 0 t.fp.nmeCnt k = if 2 * w ≤ k ∧ k < 2 * w + n then 0 else sget 0 s.fp.nmeCnt k) ∧
      t = { s with fp := { s.fp with nmeCnt := t.fp.nmeCnt }, out := t.out } := by
  have canonical : Sparse.wf 0 s.fp.nmeCnt = true := by
    obtain ⟨-, -, fp, -⟩ := (tablesOk_iff s).mp ok
    obtain ⟨-, -, -, counts⟩ := fp
    exact counts
  have reads : ¬ (!s.fpLive || decide (w ≥ 4) || wide && decide (w % 2 = 1)) = true := by
    cases wide <;> simp_all
  exact ⟨_, congrArg Host.Outcome.next (if_neg reads), rfl, sget_clear canonical _ _, rfl⟩

/-! ### The Host Window Table -/

/-- An enabled window takes only the write that clears EN (R323). -/
theorem write_of_en {w : Window} {high : Bool} {carry v : BitVec 64} (en : w.en = true) :
    w.write high carry v = if (!high && carry.getLsbD 0 && !v.getLsbD 0) = true then { w with lo := w.lo &&& ~~~1 } else w := if_pos en

/-- A write of a disabled window's whole high word. -/
theorem write_high {w : Window} (en : w.en = false) (v : BitVec 64) : w.write true (BitVec.allOnes 64) v = { w with hi := v &&& 0xFFFFFF } := by
  simp only [Window.write, en, BitVec.not_allOnes, BitVec.and_zero, BitVec.zero_or, BitVec.and_allOnes, Bool.false_eq_true, if_false, if_true]

theorem getLsbD_not_one {i : Nat} (small : i < 64) (other : i ≠ 0) : (~~~(1 : BitVec 64)).getLsbD i = true := by
  have zero : (1 : BitVec 64).getLsbD i = false := (by simp [other] : (1#64).getLsbD i = false)
  rw [BitVec.getLsbD_not, zero]
  simp [small]

/-- A word whose only bit is bit 0. -/
theorem eq_one_of_and_not_one {v : BitVec 64} (set : v.getLsbD 0 = true) (none : v &&& ~~~1 = 0) : v = 1 := by
  apply BitVec.eq_of_getLsbD_eq
  intro i small
  by_cases first : i = 0
  · subst first
    exact set
  · have zero : (1 : BitVec 64).getLsbD i = false := (by simp [first] : (1#64).getLsbD i = false)
    have bit := congrArg (BitVec.getLsbD · i) none
    rw [BitVec.getLsbD_and, getLsbD_not_one small first, Bool.and_true] at bit
    rw [zero]
    exact bit.trans (BitVec.getLsbD_zero ..)

theorem windowMask_and_not_one {v : BitVec 64} (clear : v.getLsbD 0 = false) : v &&& windowMask &&& ~~~1 = v &&& windowMask := by
  apply BitVec.eq_of_getLsbD_eq
  intro i small
  by_cases first : i = 0
  · subst first
    simp only [BitVec.getLsbD_and, clear, Bool.false_and]
  · rw [BitVec.getLsbD_and, getLsbD_not_one small first, Bool.and_true]

/-- A write of its whole low word that leaves EN 0. -/
theorem write_low {w : Window} (en : w.en = false) {v : BitVec 64} (clear : v.getLsbD 0 = false) :
    w.write false (BitVec.allOnes 64) v = { w with lo := v &&& windowMask } := by
  have off : (v &&& windowMask).getLsbD 0 = false := by simp only [BitVec.getLsbD_and, clear, Bool.false_and]
  have kept := windowMask_and_not_one clear
  simp only [Window.write, en, BitVec.not_allOnes, BitVec.and_zero, BitVec.zero_or, BitVec.and_allOnes, off, kept, Bool.false_and, Bool.false_eq_true,
    if_false]

/-- What a write at an offset carries of bit 0. -/
theorem carried_bit (off : Nat) (wide : Bool) (v : BitVec 64) :
    (off = 0 → (carried off wide v).1.getLsbD 0 = true ∧ (carried off wide v).2.getLsbD 0 = v.getLsbD 0) ∧
      (off = 4 → wide = false → (carried off wide v).1.getLsbD 0 = false) := by
  refine ⟨fun h => ?_, fun h n => ?_⟩
  · subst h
    cases wide
    · simp [carried]
    · simp [carried]
  · subst h n
    simp [carried]


theorem writeWindow_ne {s : State} {w off j : Nat} {wide : Bool} {v : BitVec 64} (other : j ≠ w) :
    sget {} (s.writeWindow w off wide v).fp.windows j = sget {} s.fp.windows j := sget_sset_ne _ _ _ other

theorem writeWindow_eq (s : State) (w off : Nat) (wide : Bool) (v : BitVec 64) :
    s.writeWindow w off wide v = s.setFp (fun f => { f with
      windows := smod {} f.windows w (fun e => e.write (off ≥ 8) (carried off wide v).1 (carried off wide v).2) }) := rfl

/-- An entry that differs from an absent one reads back. -/
theorem writeWindow_self {s : State} {w off : Nat} {wide : Bool} {v : BitVec 64} {x : Window}
    (e : (sget {} s.fp.windows w).write (off ≥ 8) (carried off wide v).1 (carried off wide v).2 = x) (ne : x ≠ {}) :
    sget {} (s.writeWindow w off wide v).fp.windows w = x := by
  rw [writeWindow_eq]
  show sget {} (sset {} s.fp.windows w ((sget {} s.fp.windows w).write _ _ _)) w = x
  rw [e]
  exact sget_sset_self _ _ _ ne

theorem writeWindow_wf {s : State} {w off : Nat} {wide : Bool} {v : BitVec 64} (ok : s.tablesOk = true) :
    sget {} (s.writeWindow w off wide v).fp.windows w =
      (sget {} s.fp.windows w).write (off ≥ 8) (carried off wide v).1 (carried off wide v).2 := by
  obtain ⟨-, -, fp, -⟩ := (tablesOk_iff s).mp ok
  obtain ⟨windows, -⟩ := fp
  exact sget_sset_wf _ _ _ windows

/-- An aligned write with EN at 1, or of the upper half, does not ask for EN to be cleared. -/
theorem clears_not {off : Nat} {wide : Bool} {v : BitVec 64} (al : aligned off wide = true) (set : v.getLsbD 0 = true) :
    ¬ (!decide (off ≥ 8) && (carried off wide v).1.getLsbD 0 && !(carried off wide v).2.getLsbD 0) = true := by
  by_cases first : off = 0
  · obtain ⟨-, value⟩ := (carried_bit off wide v).1 first
    rw [value, set]
    simp
  · by_cases high : 8 ≤ off
    · simp [high]
    · cases wide
      · have four : off = 4 := by simp [aligned] at al; omega
        rw [(carried_bit off false v).2 four rfl]
        simp
      · simp [aligned] at al
        omega

theorem windowWrite_answers {s : State} {w off : Nat} {wide : Bool} {v : BitVec 64} (live : s.fpLive = true) (small : w < 64) (inside : off < 16)
    (al : aligned off wide = true) :
    ∃ t : State, exec (.windowWrite w off wide v) s = .next t ∧
      (s.tablesOk = true → (sget {} s.fp.windows w).en = false → wide = true → (off = 0 → v.getLsbD 0 = false →
        sget {} t.fp.windows w = { sget {} s.fp.windows w with lo := v &&& windowMask }) ∧
        (off = 8 → sget {} t.fp.windows w = { sget {} s.fp.windows w with hi := v &&& 0xFFFFFF })) ∧
      ((sget {} s.fp.windows w).en = true → off = 0 → v.getLsbD 0 = false → (sget {} s.fp.windows w).lo ≠ 1 ∨ (sget {} s.fp.windows w).hi ≠ 0 →
        sget {} t.fp.windows w = { sget {} s.fp.windows w with lo := (sget {} s.fp.windows w).lo &&& ~~~1 }) ∧
      ((sget {} s.fp.windows w).en = true → 8 ≤ off ∨ v.getLsbD 0 = true → sget {} t.fp.windows w = sget {} s.fp.windows w) ∧
      (∀ j, j ≠ w → sget {} t.fp.windows j = sget {} s.fp.windows j) ∧ t = { s with fp := { s.fp with windows := t.fp.windows } } := by
  have writes : ¬ (!s.fpLive || decide (w ≥ 64) || decide (off ≥ 16) || !aligned off wide) = true := by
    simp [live, al]
    omega
  refine ⟨s.writeWindow w off wide v, congrArg Host.Outcome.next (if_neg writes), fun ok en whole => ⟨fun low clear => ?_, fun high => ?_⟩,
    fun en low clear differs => ?_, fun en kept => ?_, fun j other => writeWindow_ne other, rfl⟩
  · subst low whole
    exact (writeWindow_wf ok).trans (write_low en clear)
  · subst high whole
    exact (writeWindow_wf ok).trans (write_high en v)
  · subst low
    obtain ⟨carry, value⟩ := (carried_bit 0 wide v).1 rfl
    refine writeWindow_self (by rw [write_of_en en, if_pos (by simp only [carry, value, clear]; rfl)]) fun absent => ?_
    rw [Window.mk.injEq] at absent
    obtain ⟨lo, hi⟩ := absent
    exact differs.elim (absurd (eq_one_of_and_not_one en lo)) (absurd hi)
  · refine writeWindow_self ((write_of_en en).trans (if_neg ?_)) fun absent => ?_
    · rcases kept with high | set
      · simp [high]
      · exact clears_not al set
    · rw [absent] at en
      exact absurd en (by decide)

theorem registerWrite_sqAddr {s : State} {i : Nat} {v : BitVec 64} (live : s.fpLive = true) (ok : s.tablesOk = true) (small : i < 1000)
    (off : (s.ring i).en = false) :
    ∃ t : State, exec (.registerWrite 0 (0x8000 + 32 * i) true v) s = .next t ∧ t.ring i = { s.ring i with sqAddr := v &&& ringAddrMask } ∧
      (∀ j, j ≠ i → t.ring j = s.ring j) ∧ t = { s with kw := { s.kw with rings := t.kw.rings } } := by
  have writes : s.writeRegister 0 (0x8000 + 32 * i) true v = s.writeRingReg i 0 true v := by
    have number : (0x8000 + 32 * i - 0x8000) / 32 = i := by omega
    have first : (0x8000 + 32 * i) % 32 = 0 := by omega
    have al : aligned (0x8000 + 32 * i) true = true := by simp [aligned]; omega
    unfold State.writeRegister
    rw [if_neg (by simp; omega), if_neg (by simp [live, al])]
    rw [if_neg (by simp; omega), if_neg (by omega), if_neg (by omega), if_neg (by omega), if_neg (by simp; omega), if_neg (by simp; omega),
      if_neg (by omega), if_neg (by omega), if_neg (by simp; omega), if_pos (by simp; omega), number, first]
    rfl
  refine ⟨_, congrArg Host.Outcome.next writes, ?_, fun j other => ring_modRing_ne other, rfl⟩
  refine (ring_modRing ok i _).trans ((if_neg (by simp [off])).trans ?_)
  simp only [BitVec.not_allOnes, BitVec.and_zero, BitVec.zero_or, BitVec.and_allOnes]

/-- Settles O32. -/
theorem frontPanelRegistersAnswer : Obligations.FrontPanelRegistersAnswer :=
  ⟨fun s v live => ⟨fpEventWrite_answers live v, fpEventEnWrite_answers live v, fpNmeStatusWrite_answers live v, registerWrite_nmeStatus s v⟩,
    fun _ _ _ live ok even => ⟨fpEventCntRead_answers live ok even, fpNmeCntRead_answers live ok even⟩,
    fun _ live => congrArg Host.Outcome.next (if_neg (by simp [live])), fun _ _ live => congrArg Host.Outcome.next (if_neg (by simp [live])),
    fun _ _ _ _ _ live small inside al => windowWrite_answers live small inside al,
    fun _ _ _ live ok small off => registerWrite_sqAddr live ok small off, fun _ up => congrArg Host.Outcome.next (if_pos up)⟩

/-! ### Rings -/

theorem ring_modRing_of_wf {s : State} (ok : Sparse.wf {} s.kw.rings = true) (i : Nat) (f : Ring → Ring) : (s.modRing i f).ring i = f (s.ring i) :=
  sget_sset_wf ({} : Ring) i _ ok

theorem modRing_wf {s : State} (ok : Sparse.wf {} s.kw.rings = true) (i : Nat) (f : Ring → Ring) : Sparse.wf {} (s.modRing i f).kw.rings = true :=
  smod_wf _ _ _ ok

@[simp] theorem ring_modFlow (s : State) (f i : Nat) (g : Flow → Flow) : (s.modFlow f g).ring i = s.ring i := rfl

theorem flow_modFlow_ne {s : State} {i j : Nat} {f : Flow → Flow} (other : j ≠ i) : (s.modFlow i f).flow j = s.flow j := sget_sset_ne _ _ _ other

theorem flow_modFlow {s : State} (ok : Sparse.wf {} s.flows = true) (i : Nat) (f : Flow → Flow) : (s.modFlow i f).flow i = f (s.flow i) :=
  sget_sset_wf ({} : Flow) i _ ok

theorem flows_wf {s : State} (ok : s.tablesOk = true) : Sparse.wf {} s.flows = true := ((tablesOk_iff s).mp ok).2.1

/-- Completions written and not observed are forgotten. -/
theorem ring_forgetWritten {s : State} (ok : Sparse.wf {} s.kw.rings = true) (i : Nat) : (s.forgetWritten i).ring i = { s.ring i with written := [] } :=
  ring_modRing_of_wf (s := { s with kw := { s.kw with stagingUsed := _ } }) ok i _

theorem ring_forgetWritten_ne {s : State} {i j : Nat} (other : j ≠ i) : (s.forgetWritten i).ring j = s.ring j :=
  ring_modRing_ne (s := { s with kw := { s.kw with stagingUsed := _ } }) other

theorem forgetWritten_wf {s : State} (ok : Sparse.wf {} s.kw.rings = true) (i : Nat) : Sparse.wf {} (s.forgetWritten i).kw.rings = true :=
  modRing_wf (s := { s with kw := { s.kw with stagingUsed := _ } }) ok i _

/-- What of a ring is left when it stops (R329). -/
def Ring.stopped (r : Ring) (k : Nat) : Ring :=
  { r with accepted := [], inflight := atFramer r.inflight k, placed := [], multi := none, reserved := 0, noticeDue := false, signalDue := false, deficit := 0 }

/-- The state in which a ring's own entry is still to be emptied. -/
def State.giveUp (s : State) (i : Nat) : State :=
  let s1 := (s.freeStaging i).doneLost (s.ring i).owed
  let s2 : State := { s1 with
    kw := { s1.kw with txBuf := if i = controlRing then s1.kw.txBuf else s1.kw.txBuf.filter (fun f => f.ring ≠ i) }
    cyo := if i = controlRing then
        { inbox := s1.cyo.inbox.map (fun q => { q with fate := .stopped })
          running := s1.cyo.running.map (fun q => { q with fate := .stopped })
          held := s1.cyo.held.map (fun q => { q with fate := .stopped })
          ended := s1.cyo.ended.map (fun e => ({ e.1 with fate := .stopped }, e.2)) }
      else s1.cyo }
  if i = controlRing then s2 else s2.modStats i (fun t => { t with txDiscard := satAdd 16 t.txDiscard (s.framesWaiting i) })

theorem stopRing_eq (s : State) (i : Nat) : s.stopRing i = (s.giveUp i).modRing i (fun r => r.stopped (s.lc.run.framesOf i)) := rfl

theorem giveUp_eq (s : State) (i : Nat) : s.giveUp i = { s with kw := (s.giveUp i).kw, cyo := (s.giveUp i).cyo, flows := (s.giveUp i).flows } := by
  unfold State.giveUp
  dsimp only
  split <;> rfl

@[simp] theorem giveUp_rings (s : State) (i : Nat) : (s.giveUp i).kw.rings = s.kw.rings := by
  unfold State.giveUp
  dsimp only
  split <;> rfl

@[simp] theorem giveUp_doneLost (s : State) (i : Nat) : (s.giveUp i).kw.cnt.doneLost = satAdd 32 s.kw.cnt.doneLost (s.ring i).owed := by
  unfold State.giveUp
  dsimp only
  split <;> rfl

theorem giveUp_cyo_ne {s : State} {i : Nat} (other : i ≠ controlRing) : (s.giveUp i).cyo = s.cyo := by
  unfold State.giveUp
  dsimp only
  rw [if_neg other]
  exact if_neg other

@[simp] theorem ring_giveUp (s : State) (i j : Nat) : (s.giveUp i).ring j = s.ring j := by
  rw [State.ring, giveUp_rings, State.ring]

theorem ring_stopRing {s : State} (ok : Sparse.wf {} s.kw.rings = true) (i : Nat) :
    (s.stopRing i).ring i = (s.ring i).stopped (s.lc.run.framesOf i) := by
  rw [stopRing_eq, ring_modRing_of_wf (by rw [giveUp_rings]; exact ok), ring_giveUp]

theorem ring_stopRing_ne {s : State} {i j : Nat} (other : j ≠ i) : (s.stopRing i).ring j = s.ring j := by
  rw [stopRing_eq, ring_modRing_ne other, ring_giveUp]

theorem stopRing_wf {s : State} (ok : Sparse.wf {} s.kw.rings = true) (i : Nat) : Sparse.wf {} (s.stopRing i).kw.rings = true := by
  rw [stopRing_eq]
  exact modRing_wf (by rw [giveUp_rings]; exact ok) _ _

theorem stopRing_eq_frame (s : State) (i : Nat) :
    s.stopRing i = { s with kw := (s.stopRing i).kw, cyo := (s.stopRing i).cyo, flows := (s.stopRing i).flows } := by
  rw [stopRing_eq, giveUp_eq]
  rfl

/-- A ring with the settings of a write of the word at 0x10. -/
def Ring.withWord (r : Ring) (i v : Nat) : Ring := { r.writeLive i v with sqLog2 := bitsAt v 0 5, cqLog2 := bitsAt v 8 5 }

theorem enableRing_ok {s : State} {i v : Nat} (off : (s.ring i).en = false) (may : s.mayEnable ((s.ring i).withWord i v) = true) :
    s.enableRing i v = ((s.forgetWritten i).modRing i (fun _ => ((s.ring i).withWord i v).start)).modFlow i
      (fun f => if i = controlRing then f else { f with heldOver := false }) := by
  unfold State.enableRing
  dsimp only
  rw [if_neg (by simp [off])]
  exact if_pos may

theorem ringEnable_starts {s : State} {i : Nat} {v : BitVec 32} (live : s.fpLive = true) (is : ringExists i = true) (ok : s.tablesOk = true)
    (set : v.getLsbD 16 = true) (off : (s.ring i).en = false)
    (may : s.mayEnable { s.ring i with sqLog2 := v.toNat % 2 ^ 5, cqLog2 := v.toNat / 2 ^ 8 % 2 ^ 5 } = true) :
    ∃ t : State, exec (.ringEnable i v) s = .next t ∧ (t.ring i).running = !(s.ring i).resetting ∧ (t.ring i).sqTail = 0 ∧ (t.ring i).sqHead = 0 ∧
      (t.ring i).cqTail = 0 ∧ (t.ring i).cqHead = 0 ∧ (t.ring i).cqSeq = (s.ring i).seqBase ∧ (t.ring i).irqHoldoff = v.toNat / 2 ^ 24 % 2 ^ 8 ∧
      (i ≠ controlRing → (t.flow i).heldOver = false) ∧ (∀ j, j ≠ i → t.ring j = s.ring j ∧ t.flow j = s.flow j) ∧
      t = { s with kw := { s.kw with rings := t.kw.rings, stagingUsed := t.kw.stagingUsed }, flows := t.flows } := by
  have word : s.mayEnable ((s.ring i).withWord i v.toNat) = true := by
    rw [← may]
    simp [State.mayEnable, Ring.withWord, Ring.writeLive, bitsAt]
  have writes : (if (s.fpLive && ringExists i && v.getLsbD 16) = true then s.enableRing i v.toNat else s) = s.enableRing i v.toNat :=
    if_pos (by simp only [live, is, set]; rfl)
  have entry : ((s.forgetWritten i).modRing i (fun _ => ((s.ring i).withWord i v.toNat).start)).ring i = ((s.ring i).withWord i v.toNat).start :=
    ring_modRing_of_wf (forgetWritten_wf (rings_wf ok) i) i _
  refine ⟨_, congrArg Host.Outcome.next (writes.trans (enableRing_ok off word)), ?_⟩
  rw [ring_modFlow, entry]
  refine ⟨rfl, rfl, rfl, rfl, rfl, rfl, rfl, fun flow => ?_, fun j other => ⟨?_, flow_modFlow_ne other⟩, rfl⟩
  · have canonical : Sparse.wf {} ((s.forgetWritten i).modRing i (fun _ => ((s.ring i).withWord i v.toNat).start)).flows = true :=
      (flows_wf ok : Sparse.wf {} s.flows = true)
    rw [flow_modFlow canonical, if_neg flow]
  · rw [ring_modFlow, ring_modRing_ne other, ring_forgetWritten_ne other]

theorem ringStop_stops {s : State} {i : Nat} {v : BitVec 32} (live : s.fpLive = true) (is : ringExists i = true) (ok : s.tablesOk = true)
    (clear : v.getLsbD 16 = false) (on : (s.ring i).en = true) :
    ∃ t : State, exec (.ringStop i v) s = .next t ∧ (t.ring i).en = false ∧ (t.ring i).placed = [] ∧ (t.ring i).accepted = [] ∧ (t.ring i).reserved = 0 ∧
      (t.ring i).cqSeq = (s.ring i).cqSeq ∧ (t.ring i).written = (s.ring i).written ∧ t.kw.cnt.doneLost = satAdd 32 s.kw.cnt.doneLost (s.ring i).owed ∧
      (∀ j, j ≠ i → t.ring j = s.ring j) ∧ (i ≠ controlRing → t.cyo = s.cyo) ∧ t = { s with kw := t.kw, cyo := t.cyo, flows := t.flows } := by
  have writes : (if (s.fpLive && ringExists i && !v.getLsbD 16) = true then s.disableRing i v.toNat else s) = s.disableRing i v.toNat :=
    if_pos (by simp only [live, is, clear]; rfl)
  have wf := rings_wf ok
  refine ⟨_, congrArg Host.Outcome.next (writes.trans (if_pos on)), ?_⟩
  rw [ring_modRing_of_wf (stopRing_wf wf i), ring_stopRing wf]
  refine ⟨rfl, rfl, rfl, rfl, rfl, rfl, giveUp_doneLost s i, fun j other => ?_, fun flow => giveUp_cyo_ne flow, ?_⟩
  · rw [ring_modRing_ne other, ring_stopRing_ne other]
  · rw [stopRing_eq_frame]
    rfl

/-! ### Doorbells -/

theorem doorbellLive_of {s : State} {i : Nat} (live : s.fpLive = true) (is : ringExists i = true) (on : (s.ring i).en = true)
    (steady : (s.ring i).resetting = false) : s.doorbellLive i = true := by
  simp [State.doorbellLive, live, is, on, steady]

theorem writeSqTail_live {s : State} {i : Nat} (live : s.doorbellLive i = true) (v : BitVec 32) :
    s.writeSqTail i v = if v.toNat % 64 = 0 ∧ ((s.ring i).sqTail - (s.ring i).sqHead).toNat ≤ (v - (s.ring i).sqHead).toNat ∧
        (v - (s.ring i).sqHead).toNat ≤ 2 ^ (s.ring i).sqLog2 then
      s.modRing i (fun r => { r with sqTail := v }) else s.badDoorbell i := by
  simp [State.writeSqTail, live, and_assoc]

theorem writeCqHead_live {s : State} {i : Nat} (live : s.doorbellLive i = true) (v : BitVec 32) :
    s.writeCqHead i v = if v.toNat % 64 = 0 ∧ ((s.ring i).cqTail - v).toNat ≤ ((s.ring i).cqTail - (s.ring i).cqHead).toNat then
      s.modRing i (fun r => { r with cqHead := v }) else s.badDoorbell i := by
  simp [State.writeCqHead, live]

/-- A doorbell that fails changes no ring, is counted and raises the event. -/
theorem badDoorbell_counts (s : State) (i : Nat) :
    (s.badDoorbell i).kw.rings = s.kw.rings ∧ (s.badDoorbell i).kw.cnt.dbBad = inc 32 s.kw.cnt.dbBad ∧
      (s.badDoorbell i).fp.event.getLsbD evKeyway = true := by
  unfold State.badDoorbell
  dsimp only
  refine ⟨?_, ?_, raiseEvent_flag rfl (by decide)⟩
  · rw [State.raiseEvent_eq]
    split <;> rfl
  · rw [State.raiseEvent_eq]
    split <;> rfl

theorem ringReset_clears {s : State} {i : Nat} (live : s.doorbellLive i = true) (ok : s.tablesOk = true) :
    ∃ t : State, exec (.ringReset i) s = .next t ∧ (t.ring i).sqTail = 0 ∧ (t.ring i).sqHead = 0 ∧ (t.ring i).cqTail = 0 ∧ (t.ring i).cqHead = 0 ∧
      (t.ring i).cqSeq = (s.ring i).cqSeq ∧ (t.ring i).running = true ∧ (t.ring i).fault = 0 ∧ (t.ring i).placed = [] ∧ (t.ring i).written = [] ∧
      (∀ j, j ≠ i → t.ring j = s.ring j) := by
  have wf := rings_wf ok
  have stopped := stopRing_wf wf i
  refine ⟨_, congrArg Host.Outcome.next (if_neg (by simp [live])), ?_⟩
  rw [ring_modRing_of_wf (forgetWritten_wf stopped i), ring_forgetWritten stopped, ring_stopRing wf]
  refine ⟨rfl, rfl, rfl, rfl, rfl, ?_, rfl, rfl, rfl, fun j other => ?_⟩
  · simp only [State.doorbellLive, Bool.and_eq_true, Bool.not_eq_true'] at live
    obtain ⟨⟨-, on⟩, steady⟩ := live
    simp [Ring.running, Ring.stopped, on, steady]
  · rw [ring_modRing_ne other, ring_forgetWritten_ne other, ring_stopRing_ne other]

/-- Settles O33. -/
theorem ringsStartStopAndRing : Obligations.RingsStartStopAndRing := by
  refine fun s i live is ok => ⟨fun v set off may => ringEnable_starts live is ok set off may, fun v clear on => ringStop_stops live is ok clear on,
    fun on steady v => ?_⟩
  have rung := doorbellLive_of live is on steady
  refine ⟨fun al low high => ?_, fun al range => ?_, fun bad => ?_, ringReset_clears rung ok⟩
  · exact ⟨_, congrArg Host.Outcome.next ((writeSqTail_live rung v).trans (if_pos ⟨al, low, high⟩)), ring_modRing ok i _,
      fun j other => ring_modRing_ne other, rfl⟩
  · exact ⟨_, congrArg Host.Outcome.next ((writeCqHead_live rung v).trans (if_pos ⟨al, range⟩)), ring_modRing ok i _,
      fun j other => ring_modRing_ne other, rfl⟩
  · obtain ⟨rings, counted, flag⟩ := badDoorbell_counts s i
    exact ⟨_, congrArg Host.Outcome.next ((writeSqTail_live rung v).trans (if_neg fun h => bad h.1)), rings, counted, flag,
      congrArg Host.Outcome.next ((writeCqHead_live rung v).trans (if_neg fun h => bad h.1))⟩

end Sys2Proof.Machine
end

section
/-! PROOFS. The flow commands, and what a request leaves as it was when Benash starts it. -/

namespace Sys2Proof.Machine

set_option Elab.async false

/-! ### What a request leaves as it was when Benash starts it -/

@[simp] theorem begin_approved (s : State) (q : Request) : (s.begin q).nvm.approved = s.nvm.approved := by
  unfold State.begin
  dsimp only
  split <;> rfl

@[simp] theorem begin_wardApproved (s : State) (q : Request) : (s.begin q).wardApproved = s.wardApproved := by
  unfold State.wardApproved
  rw [begin_approved]
  rfl

@[simp] theorem begin_trim (s : State) (q : Request) : (s.begin q).nvm.trim = s.nvm.trim := by
  unfold State.begin
  dsimp only
  split <;> rfl

theorem begin_trims (s : State) (q : Request) : (s.begin q).nvm.trim1Good = s.nvm.trim1Good ∧ (s.begin q).nvm.trim2Good = s.nvm.trim2Good := by
  unfold State.begin
  dsimp only
  split <;> exact ⟨rfl, rfl⟩

@[simp] theorem begin_lineReady (s : State) (q : Request) : (s.begin q).lineReady = s.lineReady := by
  obtain ⟨one, two⟩ := begin_trims s q
  unfold State.lineReady
  rw [one, two]
  rfl

/-- Readiness does not depend on what waits or on the shut-down record. -/
@[simp] theorem begin_ready (s : State) (q : Request) (u : Rdy) : (s.begin q).ready u = s.ready u := by
  cases u with
  | line => exact begin_lineReady s q
  | knuckle => exact congrArg (s.fuse.part.knuckle && ·) (begin_lineReady s q)
  | n100 =>
    unfold State.ready
    dsimp only
    rw [begin_trim, begin_lineReady]
    rfl
  | n50 =>
    unfold State.ready
    dsimp only
    rw [begin_trim, begin_lineReady]
    rfl
  | _ => rfl

/-! ### Flow contexts -/

@[simp] theorem begin_assocOk (s : State) (q : Request) (f : Nat) (r : FlowRule) (a : List Byte) : (s.begin q).assocOk f r a = s.assocOk f r a := rfl
@[simp] theorem begin_flow (s : State) (q : Request) (f : Nat) : (s.begin q).flow f = s.flow f := rfl

/-- The number of an existing flow's kind passes. -/
theorem firstFail_flowNumber {f : Nat} (small : f < 1000) (more : Checks) : firstFail (flowNumberChecks f ++ more) = firstFail more := by
  have below : (decide (1000 ≤ f) && decide (f < 1024)) = false := by simp; omega
  have inside : decide (f ≥ 1024) = false := by simp; omega
  simp only [flowNumberChecks, List.cons_append, List.nil_append, firstFail, below, inside, Bool.false_eq_true, if_false]

/-- The association of a context meets Ward (R350, R375). -/
def State.wardMay (s : State) (a : List Byte) : Prop :=
  assocNone a = true ∨ (s.fuse.part.ward = true ∧ (s.wardApproved = true → assocValidate a = 2))

theorem firstFail_assoc {s : State} {a : List Byte} (keyway : s.ready .keyway = true) (may : s.wardMay a) (more : Checks) :
    firstFail (s.assocChecks a ++ more) = firstFail more := by
  have present : (!assocNone a && !s.fuse.part.ward) = false := by
    rcases may with none | ⟨ward, -⟩
    · simp [none]
    · simp [ward]
  have strict : (s.wardApproved && !assocNone a && decide (assocValidate a ≠ 2)) = false := by
    rcases may with none | ⟨-, strict⟩
    · simp [none]
    · by_cases approved : s.wardApproved = true
      · simp [strict approved]
      · simp [approved]
  simp only [State.assocChecks, List.cons_append, List.nil_append, firstFail, present, strict, keyway, Bool.not_true, Bool.false_eq_true, if_false]


theorem firstFail_skip {b : Bool} {st : Status} (pass : b = false) (more : Checks) : firstFail ((b, st) :: more) = firstFail more := by
  rw [pass]
  rfl

/-- Checks of a flow command with a context, up to those of the context itself. -/
theorem firstFail_context {s : State} {q : Request} {a : List Byte} {f : Nat} (keyway : s.ready .keyway = true) (small : f < 1000) (len : q.cap.len = 64)
    (may : s.wardMay a) (more : Checks) :
    firstFail (([(q.cap.len ≠ 64, .lenRange)] : Checks) ++ flowNumberChecks f ++ (s.begin q).assocChecks a ++ more) = firstFail more := by
  have may' : (s.begin q).wardMay a := by rwa [State.wardMay, begin_wardApproved]
  rw [List.append_assoc, List.append_assoc]
  exact (firstFail_skip (by simp [len]) _).trans ((firstFail_flowNumber small _).trans (firstFail_assoc ((begin_ready s q _).trans keyway) may' more))

/-- The same with the check that the flow exists. -/
theorem firstFail_modify {s : State} {q : Request} {a : List Byte} {f : Nat} (keyway : s.ready .keyway = true) (small : f < 1000) (len : q.cap.len = 64)
    (may : s.wardMay a) (is : (s.flow f).exist = true) (more : Checks) :
    firstFail (([(q.cap.len ≠ 64, .lenRange)] : Checks) ++ flowNumberChecks f ++ [(!((s.begin q).flow f).exist, .flowInvalid)] ++
      (s.begin q).assocChecks a ++ more) = firstFail more := by
  have may' : (s.begin q).wardMay a := by rwa [State.wardMay, begin_wardApproved]
  rw [List.append_assoc, List.append_assoc, List.append_assoc]
  exact (firstFail_skip (by simp [len]) _).trans ((firstFail_flowNumber small _).trans ((firstFail_skip (by simp [is]) _).trans
    (firstFail_assoc ((begin_ready s q _).trans keyway) may' more)))

/-- Those of FLOW_DESTROY, up to its fields. -/
theorem firstFail_destroy {s : State} {q : Request} {f : Nat} (keyway : s.ready .keyway = true) (small : f < 1000) (len : q.cap.len = 0)
    (is : f ≠ 0 → (s.flow f).exist = true) (more : Checks) :
    firstFail (([(q.cap.len ≠ 0, .lenRange)] : Checks) ++ flowNumberChecks f ++
      ((f ≠ 0 && !((s.begin q).flow f).exist, .flowInvalid) :: (!(s.begin q).ready .keyway, .notReady) :: more)) = firstFail more := by
  have known : (decide (f ≠ 0) && !((s.begin q).flow f).exist) = false := by
    by_cases zero : f = 0
    · simp [zero]
    · simp [is zero]
  rw [List.append_assoc]
  exact (firstFail_skip (by simp [len]) _).trans ((firstFail_flowNumber small _).trans ((firstFail_skip known _).trans
    (firstFail_skip (by simp [keyway]) _)))

/-- The erasure of a flow's keys changes Ward, the front panel and the output alone. -/
theorem dropKeys_eq (s : State) (f : Nat) : s.dropKeys f = { s with ward := (s.dropKeys f).ward, fp := (s.dropKeys f).fp, out := (s.dropKeys f).out } := by
  unfold State.dropKeys
  split
  · rfl
  · rw [State.raiseEvent_eq]
    rfl

/-- The state in which a FLOW_DESTROY completes. -/
def State.destroyFlow (s : State) (f : Nat) : State := ((s.dropKeys f).dropHeld f).modFlow f (fun fl => { fl with exist := false })

theorem destroyFlow_eq (s : State) (f : Nat) : s.destroyFlow f = { s with
    kw := (s.destroyFlow f).kw, flows := (s.destroyFlow f).flows
    pwr := { s.pwr with rxDropFrames := satAdd 32 s.pwr.rxDropFrames (s.kw.hold.filter (fun h => h.flow = f)).length }
    ward := (s.destroyFlow f).ward, fp := (s.destroyFlow f).fp, out := (s.destroyFlow f).out } := by
  unfold State.destroyFlow
  rw [dropKeys_eq]
  rfl

theorem destroyFlow_kw (s : State) (f : Nat) : (s.destroyFlow f).kw = { s.kw with hold := s.kw.hold.filter (fun h => h.flow ≠ f) } := by
  unfold State.destroyFlow
  rw [dropKeys_eq]
  rfl

theorem modFlow_wf {s : State} (ok : Sparse.wf {} s.flows = true) (f : Nat) (g : Flow → Flow) : Sparse.wf {} (s.modFlow f g).flows = true :=
  smod_wf _ _ _ ok

theorem dropHeld_wf {s : State} (ok : Sparse.wf {} s.flows = true) (f : Nat) : Sparse.wf {} (s.dropHeld f).flows = true := by
  unfold State.dropHeld State.modStats
  exact modFlow_wf (by exact ok) f _

theorem flow_dropHeld {s : State} (ok : Sparse.wf {} s.flows = true) (f : Nat) : (s.dropHeld f).flow f = { s.flow f with
    stats := { (s.flow f).stats with rxDropRing := satAdd 32 (s.flow f).stats.rxDropRing (s.kw.hold.filter (fun h => h.flow = f)).length } } := by
  unfold State.dropHeld State.modStats
  exact flow_modFlow (by exact ok) f _

theorem flow_destroyFlow {s : State} (ok : Sparse.wf {} s.flows = true) (f : Nat) : (s.destroyFlow f).flow f = { s.flow f with
    exist := false
    stats := { (s.flow f).stats with rxDropRing := satAdd 32 (s.flow f).stats.rxDropRing (s.kw.hold.filter (fun h => h.flow = f)).length } } := by
  unfold State.destroyFlow
  rw [dropKeys_eq, flow_modFlow (dropHeld_wf (by exact ok) f), flow_dropHeld (by exact ok)]
  rfl

theorem flow_destroyFlow_ne {s : State} {f j : Nat} (other : j ≠ f) : (s.destroyFlow f).flow j = s.flow j := by
  unfold State.destroyFlow
  rw [dropKeys_eq, flow_modFlow_ne other]
  exact flow_modFlow_ne other

/-- Settles O36: each command's checks in their order, then its effect. -/
theorem flowsAreManaged : Obligations.FlowsAreManaged := by
  intro s tag q keyway small
  refine ⟨fun takes len may => ⟨fun nonzero fields absent good some' assoc => ?_, fun zero => ?_⟩,
    fun takes len may fields is good rule assoc => ⟨fun gen keeps => ?_, fun gen drops => ?_, fun gen => ?_⟩,
    fun takes len => ⟨fun nonzero fields is gen ok => ?_, fun nonzero fields is gen => ?_, fun zero => ?_⟩⟩
  · refine next_runRequest takes (guarded_begin takes ((firstFail_context keyway small len may _).trans (firstFail_skip ?_ [])))
    simpa [fields, nonzero, absent, good, assoc] using some'
  · refine next_runRequest takes (guarded_begin_fail takes ((firstFail_context keyway small len may _).trans ?_))
    simp [firstFail, zero]
  · refine next_runRequest takes ((guarded_begin takes ((firstFail_modify keyway small len may is _).trans ?_)).trans ?_)
    · simpa [firstFail, fields, good, assoc, gen] using rule
    · simp [keeps]
  · refine next_runRequest takes ((guarded_begin takes ((firstFail_modify keyway small len may is _).trans ?_)).trans ?_)
    · simpa [firstFail, fields, good, assoc, gen] using rule
    · simp [drops]
  · refine next_runRequest takes (guarded_begin_fail takes ((firstFail_modify keyway small len may is _).trans ?_))
    simpa [firstFail, fields, good, assoc, gen] using rule
  · refine ⟨(s.begin q).destroyFlow _, next_runRequest takes (guarded_begin takes ((firstFail_destroy keyway small len (fun _ => is) _).trans ?_)), ?_⟩
    · simp [firstFail, fields, nonzero, gen]
    · refine ⟨flow_destroyFlow (s := s.begin q) (flows_wf ok : Sparse.wf {} s.flows = true) _, fun j other => flow_destroyFlow_ne other, ?_, ?_⟩
      · exact destroyFlow_kw (s.begin q) _
      · exact destroyFlow_eq (s.begin q) _
  · refine next_runRequest takes (guarded_begin_fail takes ((firstFail_destroy keyway small len (fun _ => is) _).trans ?_))
    simp [firstFail, fields, nonzero, gen]
  · refine next_runRequest takes (guarded_begin_fail takes ((firstFail_destroy keyway small len (fun h => absurd zero h) _).trans ?_))
    simp [firstFail, zero]

end Sys2Proof.Machine
end

section
/-! PROOFS. Submission: a ring takes a capsule, accepts or refuses it. -/

namespace Sys2Proof.Machine

set_option Elab.async false

/-! ### Submission -/

/-- A ring whose EN is 1 reads back. -/
theorem ring_modRing_en {s : State} {i : Nat} {f : Ring → Ring} (en : (f (s.ring i)).en = true) : (s.modRing i f).ring i = f (s.ring i) := by
  refine ring_modRing_self fun absent => ?_
  rw [absent] at en
  exact absurd en (by decide)

theorem en_of_mayServe {s : State} {i : Nat} (may : s.mayServe i = true) : (s.ring i).running = true ∧ (s.ring i).en = true := by
  simp only [State.mayServe, Bool.and_eq_true] at may
  obtain ⟨⟨⟨⟨⟨⟨-, running⟩, -⟩, -⟩, -⟩, -⟩, -⟩ := may
  simp only [Ring.running, Bool.and_eq_true] at running
  obtain ⟨⟨en, halted⟩, resetting⟩ := running
  exact ⟨by simp [Ring.running, en, halted, resetting], en⟩

/-- Where every line of a window is usable, a ring finds no fault. -/
theorem ringFault_none {s : State} {base : BitVec 64} {log2 n : Nat} {c : BitVec 32} {wr : Bool}
    (usable : ∀ k < n, s.windowKind (ringLine base log2 c k) 64 wr = 0) : s.ringFault base log2 c n wr = none := by
  simp only [State.ringFault, List.findSome?_eq_none_iff, List.mem_range]
  intro k small
  simp [usable k small]

/-- A capsule is taken from a submission ring. -/
def State.takeCapsule (s : State) (i : Nat) (c : Capsule) : State :=
  ((s.modRing i (fun r => { r with sqHead := r.sqHead + BitVec.ofNat 32 (64 * c.span) })).modKwCnt
    (fun k => { k with capsIn := inc 32 k.capsIn })).countCapsule

theorem takeCapsule_eq (s : State) (i : Nat) (c : Capsule) : s.takeCapsule i c = { s with kw := (s.takeCapsule i c).kw } := rfl

/-- Of the rings only the one's SQ_HEAD moves. -/
theorem ring_takeCapsule_moves (s : State) (i j : Nat) (c : Capsule) :
    (s.takeCapsule i c).ring j = (s.modRing i (fun r => { r with sqHead := r.sqHead + BitVec.ofNat 32 (64 * c.span) })).ring j := rfl

theorem ring_takeCapsule {s : State} {i : Nat} {c : Capsule} (en : (s.ring i).en = true) :
    (s.takeCapsule i c).ring i = { s.ring i with sqHead := (s.ring i).sqHead + BitVec.ofNat 32 (64 * c.span) } := by
  rw [ring_takeCapsule_moves, ring_modRing_en (by exact en)]

theorem ring_takeCapsule_ne {s : State} {i j : Nat} {c : Capsule} (other : j ≠ i) : (s.takeCapsule i c).ring j = s.ring j := by
  rw [ring_takeCapsule_moves, ring_modRing_ne other]

/-- A flow's capsule takes its ring's turn in the round and is counted. -/
def State.takeFlowCapsule (s : State) (i : Nat) (c : Capsule) : State :=
  ((s.takeCapsule i c).takeTurn i (s.deficitAfter i (roundLen c) ((s.takeCapsule i c).ring i).sqHead)).modStats i
    (fun t => { t with txCapsules := inc 32 t.txCapsules })

/-- What a ring that may be served does with the capsule at its SQ_HEAD (R328, R340, R341). -/
theorem exec_submissionFetch {s : State} {i : Nat} {c : Capsule} (may : s.mayServe i = true) (round : s.inRound i (roundLen c) = true)
    (span : c.span = spanOf c.len) (len : c.len ≤ 16384)
    (usable : ∀ k < c.span, s.windowKind (ringLine (s.ring i).sqAddr (s.ring i).sqLog2 (s.ring i).sqHead k) 64 false = 0)
    (there : 64 * c.span ≤ ((s.ring i).sqTail - (s.ring i).sqHead).toNat) (room : 64 * roomOwed i c ≤ (s.ring i).free)
    (buffer : i = controlRing ∨ s.txUsed + c.len ≤ 524288) :
    exec (.submissionFetch i c) s = .next (
      if i = controlRing then
        match checkControlCapsule c with
        | some st => (s.takeCapsule i c).refuseCapsule i c st
        | none =>
          if c.opcode.toNat ≥ 0x40 then (s.takeCapsule i c).takeRequest c
          else (s.takeCapsule i c).modRing i (fun r => { r with accepted := r.accepted ++ [⟨c, 0, []⟩], reserved := r.reserved + 1 })
      else
        match s.checkFlowCapsule i c with
        | some st => (s.takeFlowCapsule i c).refuseCapsule i c st
        | none => (s.takeFlowCapsule i c).modRing i (fun r => { r with
            accepted := r.accepted ++ [⟨c, (s.flow i).gen, (s.flow i).assoc⟩]
            reserved := r.reserved + (if c.doneReq || c.opcode = 3 then 1 else 0) })) := by
  have bounds : 1 ≤ c.span ∧ c.span ≤ 257 := by
    rw [span, spanOf]
    omega
  have fits : ¬ (decide (i ≠ controlRing) && decide (s.txUsed + c.len > 524288) && decide (c.len ≤ 16384)) = true := by
    rcases buffer with control | fits
    · simp [control]
    · simp; omega
  refine congrArg Host.Outcome.next ?_
  dsimp only
  rw [if_neg (by simp [may, round]), ringFault_none (fun k small => usable k (by omega))]
  dsimp only
  rw [if_neg (by simp; omega), if_neg (by omega), if_neg (by omega), if_neg fits, ringFault_none usable]
  rfl

theorem ring_takeTurn (s : State) (i j n : Nat) : (s.takeTurn i n).ring j = (s.modRing i (fun r => { r with deficit := n })).ring j := rfl

@[simp] theorem ring_modStats (s : State) (f j : Nat) (g : FlowStats → FlowStats) : (s.modStats f g).ring j = s.ring j := rfl

theorem ring_takeFlowCapsule {s : State} {i : Nat} {c : Capsule} (en : (s.ring i).en = true) :
    (s.takeFlowCapsule i c).ring i = { s.ring i with
      sqHead := (s.ring i).sqHead + BitVec.ofNat 32 (64 * c.span)
      deficit := s.deficitAfter i (roundLen c) ((s.ring i).sqHead + BitVec.ofNat 32 (64 * c.span)) } := by
  rw [State.takeFlowCapsule, ring_modStats, ring_takeTurn, ring_modRing_en (by rw [ring_takeCapsule en]; exact en), ring_takeCapsule en]

theorem takeTurn_modStats_eq (s : State) (i n : Nat) (g : FlowStats → FlowStats) :
    (s.takeTurn i n).modStats i g = { s with kw := ((s.takeTurn i n).modStats i g).kw, flows := ((s.takeTurn i n).modStats i g).flows } := rfl

theorem takeFlowCapsule_eq (s : State) (i : Nat) (c : Capsule) :
    s.takeFlowCapsule i c = { s with kw := (s.takeFlowCapsule i c).kw, flows := (s.takeFlowCapsule i c).flows } :=
  (takeTurn_modStats_eq _ _ _ _).trans (by rw [takeCapsule_eq]; rfl)

theorem takeFlowCapsule_capsIn (s : State) (i : Nat) (c : Capsule) : (s.takeFlowCapsule i c).kw.cnt.capsIn = inc 32 s.kw.cnt.capsIn := rfl

theorem ring_takeFlowCapsule_ne {s : State} {i j : Nat} {c : Capsule} (other : j ≠ i) : (s.takeFlowCapsule i c).ring j = s.ring j := by
  rw [State.takeFlowCapsule, ring_modStats, ring_takeTurn, ring_modRing_ne other, ring_takeCapsule_ne other]

theorem complete_eq (s : State) (i n : Nat) (c : Completion) : s.complete i n c = { s with kw := (s.complete i n c).kw } := by
  unfold State.complete
  split <;> rfl

/-- A refusal counts, which leaves the rings, and places its completion. -/
theorem refuseCapsule_complete (s : State) (i : Nat) (c : Capsule) (st : Status) : ∃ u : State, (∀ j, u.ring j = s.ring j) ∧
    u = { s with kw := u.kw, flows := u.flows } ∧
    s.refuseCapsule i c st =
      u.complete i 0 (sendDone c.opcode.toNat (if i = controlRing then 0 else i) c.tag.toNat st 0 (s.flow i).gen none) := by
  refine ⟨_, fun j => ?_, ?_, rfl⟩
  · split
    · rfl
    · rfl
  · split
    · rfl
    · rfl

/-- It touches Keyway and the flows alone. -/
theorem refuseCapsule_eq (s : State) (i : Nat) (c : Capsule) (st : Status) :
    s.refuseCapsule i c st = { s with kw := (s.refuseCapsule i c st).kw, flows := (s.refuseCapsule i c st).flows } := by
  obtain ⟨u, -, frame, e⟩ := refuseCapsule_complete s i c st
  rw [e, complete_eq, frame]

/-- A ring that runs takes the refusal at its end. -/
theorem ring_refuseCapsule {s : State} {i : Nat} {c : Capsule} {st : Status} (runs : (s.ring i).running = true) :
    (s.refuseCapsule i c st).ring i =
      (s.ring i).place 0 (sendDone c.opcode.toNat (if i = controlRing then 0 else i) c.tag.toNat st 0 (s.flow i).gen none) := by
  obtain ⟨u, rings, -, e⟩ := refuseCapsule_complete s i c st
  rw [e, State.complete, if_pos (by rw [rings]; exact runs), ring_modRing_self (place_ne _ _ _), rings]

theorem ring_refuseCapsule_ne {s : State} {i j : Nat} {c : Capsule} {st : Status} (runs : (s.ring i).running = true) (other : j ≠ i) :
    (s.refuseCapsule i c st).ring j = s.ring j := by
  obtain ⟨u, rings, -, e⟩ := refuseCapsule_complete s i c st
  rw [e, State.complete, if_pos (by rw [rings]; exact runs), ring_modRing_ne other, rings]

/-- An accepted control command with a known opcode and a free TAG goes to the inbox. -/
theorem takeRequest_accepts {s : State} {c : Capsule} (known : c.opcode.toNat ∈ cyonerOpcodes) (ward : 0x70 ≤ c.opcode.toNat → s.fuse.part.ward = true)
    (free : ∀ o ∈ s.cyo.outstanding, o.cap.tag ≠ c.tag) :
    s.takeRequest c =
      { s.modRing controlRing (fun r => { r with reserved := r.reserved + roomOwed controlRing c }) with
        cyo := { s.cyo with inbox := s.cyo.inbox ++ [{ cap := c, room := roomOwed controlRing c }] } } := by
  have present : (decide (c.opcode.toNat ≥ 0x70) && !s.fuse.part.ward) = false := by
    by_cases h : 0x70 ≤ c.opcode.toNat
    · simp [ward h]
    · simp; omega
  have unused : s.cyo.outstanding.any (fun o => o.cap.tag = c.tag) = false := by simpa using free
  unfold State.takeRequest
  dsimp only
  rw [if_neg (by simp [present]), if_neg (by simpa using known), if_neg (by simp [unused])]
  rfl

theorem le_of_mem_cyonerOpcodes {n : Nat} (known : n ∈ cyonerOpcodes) : 0x40 ≤ n := by
  have all : ∀ m ∈ cyonerOpcodes, 0x40 ≤ m := by decide
  exact all n known

/-- Settles O30. -/
theorem submissionsAreTakenInOrder : Obligations.SubmissionsAreTakenInOrder := by
  intro s i c may round span len usable there room buffer
  obtain ⟨runs, en⟩ := en_of_mayServe may
  have fetch := exec_submissionFetch may round span len usable there room buffer
  have mine := ring_takeFlowCapsule (c := c) en
  refine ⟨fun flow passes => ?_, fun st flow fails => ?_, fun control passes known ward free => ?_⟩
  · rw [if_neg flow, passes] at fetch
    refine ⟨_, fetch, ?_⟩
    rw [ring_modRing_en (by rw [mine]; exact en), mine]
    refine ⟨rfl, rfl, rfl, fun j other => by rw [ring_modRing_ne other, ring_takeFlowCapsule_ne other], takeFlowCapsule_capsIn s i c, ?_⟩
    rw [takeFlowCapsule_eq]
    rfl
  · rw [if_neg flow, fails] at fetch
    replace fetch : exec (.submissionFetch i c) s = .next ((s.takeFlowCapsule i c).refuseCapsule i c st) := fetch
    have runs' : ((s.takeFlowCapsule i c).ring i).running = true := by rw [mine]; exact runs
    refine ⟨_, { sendDone c.opcode.toNat (if i = controlRing then 0 else i) c.tag.toNat st 0 ((s.takeFlowCapsule i c).flow i).gen none with
      seq := (s.ring i).cqSeq }, fetch, ?_⟩
    rw [ring_refuseCapsule runs', mine]
    refine ⟨rfl, rfl, rfl, rfl, rfl, rfl, fun j other => by rw [ring_refuseCapsule_ne runs' other, ring_takeFlowCapsule_ne other], ?_⟩
    rw [refuseCapsule_eq, takeFlowCapsule_eq]
  · subst control
    rw [if_pos rfl, passes] at fetch
    dsimp only at fetch
    rw [if_pos (le_of_mem_cyonerOpcodes known), takeRequest_accepts (s := s.takeCapsule _ c) known ward free] at fetch
    refine ⟨_, fetch, rfl, ?_, fun j other => ?_, rfl⟩
    · refine (ring_modRing_en (s := s.takeCapsule _ c) (by rw [ring_takeCapsule en]; exact en)).trans ?_
      rw [ring_takeCapsule en]
    · exact (ring_modRing_ne (s := s.takeCapsule _ c) other).trans (ring_takeCapsule_ne other)

end Sys2Proof.Machine
end

section
/-! PROOFS. Received frames: classification, delivery, and what Ward does with them. -/

namespace Sys2Proof.Machine

set_option Elab.async false

/-! ### Received frames -/

/-- A frame that nothing has claimed takes the flow of its rule. -/
theorem classOf_fresh {s : State} {x : RxFrame} (cls : x.cls = none) (forced : x.forced = none) :
    s.classOf x = { flow := (s.classifyBytes (presentBytes x.bytes)).1, gen := (s.flow (s.classifyBytes (presentBytes x.bytes)).1).gen
                    byDefault := (s.classifyBytes (presentBytes x.bytes)).2, early := none } := by
  simp [State.classOf, cls, forced]

theorem checkUnverified_of_none {s : State} {f : Nat} {x : RxFrame} (none : assocNone (s.flow f).assoc = true) : s.checkUnverified f x = (s, true) := by
  simp [State.checkUnverified, none]

/-- The completion of a whole frame that is received by itself (R343). -/
def State.recvOf (s : State) (c : Class) (x : RxFrame) (held : Bool) : Completion :=
  { opcode := 0x81, flags := b2n (s.ehActive c.flow), flow := c.flow, fcount := 0, tag := 0, status := .ok, seq := 0
    stamp := some x.stamp, args := recvArgs c.gen (rxInfo x c.byDefault held) x.sci, payload := x.bytes, span := spanOf x.bytes.length, frames := 1
    frameBytes := x.bytes.length, staged := x.bytes.length }

/-- A frame is placed and held in the receive staging buffer. -/
def State.stageRecv (s : State) (i n : Nat) (c : Completion) : State :=
  let s1 := s.modRing i (fun r => r.place 0 c)
  { s1 with kw := { s1.kw with stagingUsed := s1.kw.stagingUsed + n } }

/-- A good frame that is not collected into a RECV_MULTI is placed where there is room. -/
theorem deliver_single {s : State} {c : Class} {x : RxFrame} {held : Bool} (early : c.early = none) (good : x.good = true)
    (multi : (s.ring c.flow).rxMulti = false) (staging : s.kw.stagingUsed + x.bytes.length ≤ 524288)
    (room : 64 * spanOf x.bytes.length ≤ (s.ring c.flow).free) :
    s.deliver c x held = (s.stageRecv c.flow x.bytes.length (s.recvOf c x held), true) := by
  unfold State.deliver
  simp only [early, good, multi, List.length_map, Bool.not_true, Bool.false_eq_true, if_false, Bool.false_and]
  rw [if_neg (by omega), if_neg (by omega)]
  rfl

theorem ring_stageRecv_places (s : State) (i j n : Nat) (c : Completion) : (s.stageRecv i n c).ring j = (s.modRing i (fun r => r.place 0 c)).ring j := rfl

theorem ring_stageRecv (s : State) (i n : Nat) (c : Completion) : (s.stageRecv i n c).ring i = (s.ring i).place 0 c := by
  rw [ring_stageRecv_places, ring_modRing_self (place_ne _ _ _)]

theorem ring_stageRecv_ne {s : State} {i j n : Nat} {c : Completion} (other : j ≠ i) : (s.stageRecv i n c).ring j = s.ring j := by
  rw [ring_stageRecv_places, ring_modRing_ne other]

theorem stageRecv_eq (s : State) (i n : Nat) (c : Completion) : s.stageRecv i n c = { s with kw := (s.stageRecv i n c).kw } := rfl

@[simp] theorem ring_dropFrame (s : State) (j : Nat) : s.dropFrame.ring j = s.ring j := by
  unfold State.dropFrame State.ring
  split <;> rfl

@[simp] theorem dropFrame_rings (s : State) : s.dropFrame.kw.rings = s.kw.rings := by
  unfold State.dropFrame
  split <;> rfl

@[simp] theorem dropFrame_stagingUsed (s : State) : s.dropFrame.kw.stagingUsed = s.kw.stagingUsed := by
  unfold State.dropFrame
  split <;> rfl

@[simp] theorem dropFrame_cnt (s : State) : s.dropFrame.kw.cnt = s.kw.cnt := by
  unfold State.dropFrame
  split <;> rfl

theorem dropFrame_eq (s : State) : s.dropFrame = { s with kw := s.dropFrame.kw } := rfl

section
variable {s : State} {x : RxFrame} (next : s.nextFrame = some x) (cls : x.cls = none) (forced : x.forced = none) (good : x.good = true)
  (plain : assocNone (s.flow (s.classifyBytes (presentBytes x.bytes)).1).assoc = true)
  (set : (s.flow (s.classifyBytes (presentBytes x.bytes)).1).heldOver = false)
  (free : ∀ h ∈ s.kw.hold, h.flow ≠ (s.classifyBytes (presentBytes x.bytes)).1)
include next cls forced good plain set free

theorem frameClassify_places (runs : (s.ring (s.classifyBytes (presentBytes x.bytes)).1).running = true)
    (multi : (s.ring (s.classifyBytes (presentBytes x.bytes)).1).rxMulti = false) (staging : s.kw.stagingUsed + x.bytes.length ≤ 524288)
    (room : 64 * spanOf x.bytes.length ≤ (s.ring (s.classifyBytes (presentBytes x.bytes)).1).free) :
    exec .frameClassify s = .next (s.stageRecv (s.classifyBytes (presentBytes x.bytes)).1 x.bytes.length (s.recvOf (s.classOf x) x false)).dropFrame := by
  have cl := classOf_fresh (s := s) cls forced
  have none : s.kw.hold.any (fun h => h.flow = (s.classifyBytes (presentBytes x.bytes)).1) = false := by simpa using free
  refine congrArg Host.Outcome.next ?_
  rw [next]
  simp only [cl, good, if_true, checkUnverified_of_none plain, set, none, runs, Bool.not_true, Bool.false_eq_true, if_false, Bool.false_or,
    deliver_single (c := { flow := (s.classifyBytes (presentBytes x.bytes)).1, gen := _, byDefault := _, early := Option.none }) rfl good multi staging room]
  simp

theorem frameClassify_drops (stops : (s.ring (s.classifyBytes (presentBytes x.bytes)).1).running = false) :
    exec .frameClassify s = .next (s.dropFrame.dropRing (s.classifyBytes (presentBytes x.bytes)).1) := by
  have cl := classOf_fresh (s := s) cls forced
  have none : s.kw.hold.any (fun h => h.flow = (s.classifyBytes (presentBytes x.bytes)).1) = false := by simpa using free
  refine congrArg Host.Outcome.next ?_
  rw [next]
  simp only [cl, good, if_true, checkUnverified_of_none plain, set, none, stops, Bool.not_true, Bool.not_false, Bool.false_eq_true, if_false, Bool.true_or]

end

/-- A held frame of a flow that is set up again is delivered (R301). -/
theorem heldFrameDelivery_delivers {s : State} {f : Nat} {h : HeldFrame} {c : Class} (found : s.kw.hold.find? (fun h => h.flow = f) = some h)
    (cls : h.frame.cls = some c) (its : c.flow = f) (good : h.frame.good = true) (perst : s.pwr.perst = false) (set : (s.flow f).heldOver = false)
    (runs : (s.ring f).running = true) (multi : (s.ring f).rxMulti = false) (staging : s.kw.stagingUsed + h.frame.bytes.length ≤ 524288)
    (room : 64 * spanOf h.frame.bytes.length ≤ (s.ring f).free) :
    let u := s.stageRecv f h.frame.bytes.length (s.recvOf { c with early := none } h.frame true)
    exec (.heldFrameDelivery f) s = .next { u with
      kw := { u.kw with hold := u.kw.hold.erase h }, pwr := { u.pwr with rxHeldFrames := inc 32 u.pwr.rxHeldFrames } } := by
  subst its
  refine congrArg Host.Outcome.next ?_
  have cl : s.classOf h.frame = c := by simp [State.classOf, cls]
  rw [found]
  simp only [cl, perst, set, runs, Bool.not_true, Bool.or_self, Bool.false_eq_true, if_false,
    deliver_single (s := s) (c := { c with early := none }) (held := true) rfl good multi staging room, if_true]

/-! ### Frames at Ward -/

theorem associationOf_untagged {s : State} {bs : List Byte} (untagged : (frameFields bs).sci = none) : s.associationOf bs = none := by
  simp [State.associationOf, untagged]

section
variable {s : State} {x : RxFrame} {l : List RxFrame} (arrived : s.kw.arrived = x :: l) (ward : s.fuse.part.ward = true) (good : x.good = true)
include arrived ward good

theorem wardRxFrame_passes (data : isMkpdu (x.bytes.map (·.getD 0)) = false) (untagged : (frameFields (x.bytes.map (·.getD 0))).sci = none)
    (link : s.ward.linkEn = false) :
    exec .wardRxFrame s = .next { s with kw := { s.kw with arrived := l, ready := s.kw.ready ++ [{ x with warded := true }] } } := by
  refine congrArg Host.Outcome.next ?_
  rw [arrived]
  dsimp only
  generalize x.bytes.map (·.getD 0) = bs at data untagged ⊢
  simp [ward, good, data, associationOf_untagged untagged, untagged, link, State.wardPass, arrived]

theorem wardRxFrame_discards (data : isMkpdu (x.bytes.map (·.getD 0)) = false) (untagged : (frameFields (x.bytes.map (·.getD 0))).sci = none)
    (link : s.ward.linkEn = true) (strict : s.ward.linkValidate = 2) (fresh : x.cls = none) :
    exec .wardRxFrame s = .next { s with
      kw := { s.kw with arrived := l }
      ward := { s.ward with cnt := { s.ward.cnt with rxUntaggedDrop := inc 32 s.ward.cnt.rxUntaggedDrop } } } := by
  refine congrArg Host.Outcome.next ?_
  rw [arrived]
  dsimp only
  generalize x.bytes.map (·.getD 0) = bs at data untagged ⊢
  simp [ward, good, data, associationOf_untagged untagged, untagged, link, strict, fresh, State.wardDiscard, State.modWard, arrived]

/-- An MKPDU taken from the stream whose ICV is good (R383). -/
def State.takeMkpdu (s : State) (l : List RxFrame) : State := { s with
  kw := { s.kw with arrived := l }, ward := { s.ward with cnt := { s.ward.cnt with mkpduRx := inc 32 s.ward.cnt.mkpduRx } } }

theorem mkpdu_bad (mka : isMkpdu (x.bytes.map (·.getD 0)) = true) {m : MkaIn} (bad : m.icvGood = false) :
    exec (.mkpdu m) s = .next { s with
      kw := { s.kw with arrived := l }, ward := { s.ward with cnt := { s.ward.cnt with mkpduBad := inc 32 s.ward.cnt.mkpduBad } } } := by
  refine congrArg Host.Outcome.next ?_
  rw [arrived]
  dsimp only
  generalize x.bytes.map (·.getD 0) = bs at mka ⊢
  simp [ward, good, mka, bad, State.modWard]

theorem mkpdu_good (mka : isMkpdu (x.bytes.map (·.getD 0)) = true) {m : MkaIn} (icv : m.icvGood = true) (runs : s.mkaRuns = true)
    (stays : m.advance = false) :
    exec (.mkpdu m) s =
      let s3 := (s.takeMkpdu l).modWard (fun w => { w with mka := { w.mka with peer := if m.live then some m.peerSci else w.mka.peer } })
      .next (match m.sak with
        | some k => (s3.installSlot linkAssoc k.an k.sak k.salt k.ssci).raiseEvent evWard
        | none => s3) := by
  refine congrArg Host.Outcome.next ?_
  rw [arrived]
  simp only [ward, good, mka, icv, stays, Bool.not_true, Bool.or_self, Bool.false_eq_true, if_false]
  refine (if_neg ?_).trans ?_
  · rw [Bool.not_eq_true', Bool.not_eq_false]
    exact runs
  · rfl

end

/-! ### Key slots -/

/-- The slot that a new key takes: the one that is not CURRENT. -/
def State.freeSlot (s : State) (a : Nat) : Nat := if s.slotIn a 2 = some 0 then 1 else 0

/-- The state it takes there: NEXT beside a CURRENT one, else CURRENT. -/
def State.newState (s : State) (a : Nat) : Nat := if (s.slotIn a 2).isSome then 1 else 2

theorem freeSlot_lt (s : State) (a : Nat) : s.freeSlot a < 2 := by
  unfold State.freeSlot
  split <;> decide

theorem newState_ne (s : State) (a : Nat) : s.newState a ≠ 0 := by
  unfold State.newState
  split <;> decide

theorem slot_putSlot {s : State} {a k : Nat} {x : SaSlot} (ne : x ≠ {}) : (s.putSlot a k x).slot a k = x := sget_sset_self _ _ _ ne

theorem slot_installSlot (s : State) (a an : Nat) (sak salt ssci : List Byte) :
    (s.installSlot a an sak salt ssci).slot a (s.freeSlot a) = { state := s.newState a, an := an, sak := sak, salt := salt, ssci := ssci } := by
  refine slot_putSlot fun absent => newState_ne s a ?_
  exact congrArg SaSlot.state absent

theorem slot_raiseEvent (s : State) (e a k : Nat) : (s.raiseEvent e).slot a k = s.slot a k := by
  rw [State.slot, State.raiseEvent_ward, State.slot]

/-- Settles O35. -/
theorem receivedFramesFindTheirFlow : Obligations.ReceivedFramesFindTheirFlow := by
  refine ⟨fun s x next cls forced good plain set free => ⟨fun runs multi staging room => ?_, fun stops => ?_⟩,
    fun s f h c found cls its good perst set runs multi staging room => ?_, fun s x l arrived ward good => ⟨fun data untagged => ⟨?_, ?_⟩, fun mka m => ?_⟩⟩
  · have cl := classOf_fresh (s := s) cls forced
    refine ⟨_, { s.recvOf (s.classOf x) x false with seq := (s.ring (s.classifyBytes (presentBytes x.bytes)).1).cqSeq },
      frameClassify_places next cls forced good plain set free runs multi staging room, ?_⟩
    rw [ring_dropFrame, ring_stageRecv]
    refine ⟨rfl, rfl, by rw [cl]; rfl, rfl, rfl, rfl, rfl, rfl, fun j other => ?_, dropFrame_stagingUsed _, ?_⟩
    · rw [ring_dropFrame, ring_stageRecv_ne other]
    · rw [dropFrame_eq, stageRecv_eq]
  · refine ⟨_, frameClassify_drops next cls forced good plain set free stops, dropFrame_rings s, ?_, ?_⟩
    · show inc 32 s.dropFrame.kw.cnt.rxDropRing = _
      rw [dropFrame_cnt]
    · rw [dropFrame_eq]
      rfl
  · refine ⟨_, { s.recvOf { c with early := none } h.frame true with seq := (s.ring f).cqSeq },
      heldFrameDelivery_delivers found cls its good perst set runs multi staging room, ?_, rfl, rfl, rfl, rfl⟩
    exact congrArg Ring.placed (ring_stageRecv s f h.frame.bytes.length _)
  · exact wardRxFrame_passes arrived ward good data untagged
  · exact wardRxFrame_discards arrived ward good data untagged
  · refine ⟨fun bad => mkpdu_bad arrived ward good mka bad, fun icv runs live none stays => ?_, fun k icv runs sak stays => ?_⟩
    · rw [mkpdu_good arrived ward good mka icv runs stays, none, live]
      rfl
    · rw [mkpdu_good arrived ward good mka icv runs stays, sak]
      refine ⟨_, s.freeSlot linkAssoc, rfl, freeSlot_lt _ _, ?_⟩
      rw [slot_raiseEvent, State.raiseEvent_kw]
      have slot := slot_installSlot ((s.takeMkpdu l).modWard (fun w => { w with
        mka := { w.mka with peer := if m.live then some m.peerSci else w.mka.peer } })) linkAssoc k.an k.sak k.salt k.ssci
      exact ⟨congrArg SaSlot.sak slot, congrArg SaSlot.an slot, congrArg SaSlot.state slot, rfl⟩

end Sys2Proof.Machine
end

section
/-! PROOFS. The InfoField's messages, and the entries of the pairs. -/

namespace Sys2Proof.Machine

set_option Elab.async false

/-! ### One entry for each pair -/

@[simp] theorem Quad.at_mapIdx {α β : Type} (q : Quad α) (f : Pair → α → β) (p : Pair) : (q.mapIdx f).at p = f p (q.at p) := by
  fin_cases p <;> rfl

@[simp] theorem Quad.at_all {α : Type} (a : α) (p : Pair) : (Quad.all a).at p = a := by fin_cases p <;> rfl

@[simp] theorem Quad.at_map {α β : Type} (q : Quad α) (f : α → β) (p : Pair) : (q.map f).at p = f (q.at p) := by fin_cases p <;> rfl

theorem Quad.at_put {α : Type} (q : Quad α) (p r : Pair) (a : α) : (q.put p a).at r = if r = p then a else q.at r := by
  fin_cases p <;> fin_cases r <;> rfl

theorem Quad.at_upd {α : Type} (q : Quad α) (p r : Pair) (f : α → α) : (q.upd p f).at r = if r = p then f (q.at p) else q.at r :=
  Quad.at_put q p r _

@[simp] theorem Quad.at_upd_self {α : Type} (q : Quad α) (p : Pair) (f : α → α) : (q.upd p f).at p = f (q.at p) := by simp [Quad.at_upd]

theorem Quad.at_upd_ne {α : Type} {q : Quad α} {p r : Pair} {f : α → α} (other : r ≠ p) : (q.upd p f).at r = q.at r := by
  simp [Quad.at_upd, other]

/-! ### InfoField messages -/

section
variable {s : State} {m seq : Nat} {rest : List (Nat × Nat)}

theorem frontMsg_cons (front : s.lc.run.ifMsgs = (m, seq) :: rest) : s.frontMsg (msgType m) = some (m, seq) := by
  simp [State.frontMsg, front]

theorem popMsg_of_cons (front : s.lc.run.ifMsgs = (m, seq) :: rest) : s.popMsg = s.modRun (fun r => { r with ifMsgs := rest }) := by
  simp [State.popMsg, State.modRun, front]

/-- A new message is taken from the queue, acted on and acknowledged (R78). -/
theorem onMessage_new {apply : Nat → Nat → State → State × Bool} (front : s.lc.run.ifMsgs = (m, seq) :: rest) (new : s.repeated m = none) :
    s.onMessage (msgType m) apply = (apply m seq (s.modRun (fun r => { r with ifMsgs := rest }))).1.ackMessage m
      (apply m seq (s.modRun (fun r => { r with ifMsgs := rest }))).2 := by
  simp only [State.onMessage, frontMsg_cons front, new, popMsg_of_cons front]

/-- A repeated one is acknowledged again as before and is not acted on (R78). -/
theorem onMessage_repeated {apply : Nat → Nat → State → State × Bool} {nak : Bool} (front : s.lc.run.ifMsgs = (m, seq) :: rest)
    (again : s.repeated m = some nak) :
    s.onMessage (msgType m) apply = (s.modRun (fun r => { r with ifMsgs := rest })).ackMessage m nak := by
  simp only [State.onMessage, frontMsg_cons front, again, popMsg_of_cons front]

theorem exec_thpCoef_new (front : s.lc.run.ifMsgs = (m, seq) :: rest) (new : s.repeated m = none) (typ : msgType m = 1) :
    ∃ t : State, exec .thpCoef s = .next t ∧ (t.lc.run.ifMsgs = rest ∧ t.lc.run.ifAcks = s.lc.run.ifAcks ++ [ackMsg (msgType m) (msgSeq m) false] ∧
      t.lc.run.ifLast = some (msgType m, msgSeq m, false)) ∧
      (∀ p : Pair, t.lc.pre.at p = if p.val = bitsAt m 6 2 then (s.lc.pre.at p).stage m else s.lc.pre.at p) ∧ t = { s with lc := t.lc } := by
  refine ⟨_, congrArg Host.Outcome.next (typ ▸ onMessage_new front new), ⟨rfl, rfl, rfl⟩, fun p => ?_, rfl⟩
  have staged : p = ⟨bitsAt m 6 2, by unfold bitsAt; omega⟩ ↔ p.val = bitsAt m 6 2 := Fin.ext_iff
  refine (Quad.at_upd s.lc.pre _ p _).trans ?_
  by_cases same : p.val = bitsAt m 6 2
  · rw [if_pos (staged.mpr same), if_pos same, ← staged.mpr same]
  · rw [if_neg (mt staged.mp same), if_neg same]

/-- What a THP_SWITCH must meet (R79). -/
def State.switchOk (s : State) (m seq : Nat) : Bool :=
  4 ≤ (bitsAt m 12 8 + 256 - seq % 256) % 256 && (bitsAt m 12 8 + 256 - seq % 256) % 256 ≤ 128 &&
    pairs.all (fun p => !(BitVec.ofNat 4 (bitsAt m 6 4)).getLsbD p || (s.lc.pre.at p).fullWith (bitsAt m 10 2))

theorem bitAt_eq_getLsbD (v : Nat) (p : Pair) : (BitVec.ofNat 4 v).getLsbD p = bitAt v p.val := by
  rw [BitVec.getLsbD_ofNat]
  simp [bitAt, Nat.testBit_eq_decide_div_mod_eq, p.isLt]

theorem switchOk_iff : s.switchOk m seq = true ↔ 4 ≤ (bitsAt m 12 8 + 256 - seq % 256) % 256 ∧ (bitsAt m 12 8 + 256 - seq % 256) % 256 ≤ 128 ∧
    ∀ p : Pair, bitAt (bitsAt m 6 4) p.val = true → (s.lc.pre.at p).fullWith (bitsAt m 10 2) = true := by
  have every : ∀ p : Pair, p ∈ pairs := by decide
  simp only [State.switchOk, Bool.and_eq_true, decide_eq_true_eq, List.all_eq_true, and_assoc, bitAt_eq_getLsbD, Bool.or_eq_true,
    Bool.not_eq_true', ← Bool.not_eq_true, every, forall_const, ← imp_iff_not_or]

theorem exec_thpSwitch_met (front : s.lc.run.ifMsgs = (m, seq) :: rest) (new : s.repeated m = none) (typ : msgType m = 2)
    (ok : s.switchOk m seq = true) :
    exec .thpSwitch s = .next ((State.modTrain { s with lc := { s.lc with
      lastAt := bitsAt m 12 8
      run := { s.lc.run with ifMsgs := rest, pendSwitch := s.lc.run.pendSwitch ++ [s.switchOf (BitVec.ofNat 4 (bitsAt m 6 4)) (bitsAt m 12 8)] } } }
        (fun t => { t with farSwitch := true })).ackMessage m false) := by
  refine congrArg Host.Outcome.next ((typ ▸ onMessage_new front new).trans ?_)
  dsimp only
  rw [if_pos (by exact ok)]
  rfl

theorem exec_thpSwitch_unmet (front : s.lc.run.ifMsgs = (m, seq) :: rest) (new : s.repeated m = none) (typ : msgType m = 2)
    (bad : ¬ s.switchOk m seq = true) : exec .thpSwitch s = .next ((s.modRun (fun r => { r with ifMsgs := rest })).ackMessage m true) := by
  refine congrArg Host.Outcome.next ((typ ▸ onMessage_new front new).trans ?_)
  dsimp only
  rw [if_neg (by exact bad)]

theorem exec_thpSwitch_keeps_pre (front : s.lc.run.ifMsgs = (m, seq) :: rest) (new : s.repeated m = none) (typ : msgType m = 2) :
    ∃ t : State, exec .thpSwitch s = .next t ∧ t.lc.pre = s.lc.pre ∧
      (s.switchOk m seq = true → (t.lc.run.ifMsgs = rest ∧ t.lc.run.ifAcks = s.lc.run.ifAcks ++ [ackMsg (msgType m) (msgSeq m) false] ∧
        t.lc.run.ifLast = some (msgType m, msgSeq m, false)) ∧ t.lc.lastAt = bitsAt m 12 8 ∧ t.link.train.farSwitch = true ∧
        t.lc.run.pendSwitch = s.lc.run.pendSwitch ++ [s.switchOf (BitVec.ofNat 4 (bitsAt m 6 4)) (bitsAt m 12 8)]) ∧
      (¬ s.switchOk m seq = true → (t.lc.run.ifMsgs = rest ∧ t.lc.run.ifAcks = s.lc.run.ifAcks ++ [ackMsg (msgType m) (msgSeq m) true] ∧
        t.lc.run.ifLast = some (msgType m, msgSeq m, true)) ∧ t.lc.run.pendSwitch = s.lc.run.pendSwitch ∧ t.link = s.link) := by
  by_cases ok : s.switchOk m seq = true
  · exact ⟨_, exec_thpSwitch_met front new typ ok, rfl, fun _ => ⟨⟨rfl, rfl, rfl⟩, rfl, rfl, rfl⟩, fun bad => absurd ok bad⟩
  · exact ⟨_, exec_thpSwitch_unmet front new typ ok, rfl, fun met => absurd met ok, fun _ => ⟨⟨rfl, rfl, rfl⟩, rfl, rfl⟩⟩

theorem exec_peerId_new (front : s.lc.run.ifMsgs = (m, seq) :: rest) (new : s.repeated m = none) (typ : msgType m = 4) :
    ∃ t : State, exec .peerId s = .next t ∧ (t.lc.run.ifMsgs = rest ∧ t.lc.run.ifAcks = s.lc.run.ifAcks ++ [ackMsg (msgType m) (msgSeq m) false] ∧
      t.lc.run.ifLast = some (msgType m, msgSeq m, false)) ∧ t.link.partner = { s.link.partner with peerId := m } ∧
      t.link.lastPeerId = some (m % 2 ^ 59) ∧ t.link.resetDue = (s.link.resetDue || s.link.lastPeerId.any (· ≠ m % 2 ^ 59)) ∧
      t = { s with link := t.link, lc := t.lc } := by
  refine ⟨_, congrArg Host.Outcome.next (typ ▸ onMessage_new front new), ⟨rfl, rfl, rfl⟩, rfl, rfl, ?_, rfl⟩
  refine congrArg (s.link.resetDue || ·) ?_
  show (match s.link.lastPeerId with | some x => decide (x ≠ m % 2 ^ 59) | none => false) = _
  cases s.link.lastPeerId <;> rfl

/-- An ACK of the message outstanding ends it; a NAK of a switch sends the switch again (R78, R171). -/
theorem exec_ack_answers {o : IfOut} (front : s.lc.run.ifMsgs = (m, seq) :: rest) (typ : msgType m = 3) (out : s.lc.run.ifOut = some o)
    (same : msgType o.msg = bitsAt m 8 6) (number : msgSeq o.msg = bitsAt m 14 4) :
    ∃ t : State, exec .ack s = .next t ∧ t.lc.run.ifOut = none ∧ t.lc.run.ifMsgs = rest ∧ t = { s with link := t.link, lc := t.lc } ∧
      t.lc.run.ifQueue = (if bitAt m 18 = true ∧ msgType o.msg = 2 then switchMsg (bitsAt o.msg 6 4) (bitsAt o.msg 10 2) 0 0 :: s.lc.run.ifQueue
        else s.lc.run.ifQueue) ∧
      t.link.train.switchAcked = (s.link.train.switchAcked || (msgType o.msg = 2 && !bitAt m 18)) := by
  have front' := typ ▸ frontMsg_cons front
  have popped := popMsg_of_cons front
  have still : (s.modRun (fun r => { r with ifMsgs := rest })).lc.run.ifOut = some o := out
  refine ⟨_, by simp only [exec, execAck, front', popped, still, same, number, decide_true, Bool.and_self, if_true]; rfl, rfl, rfl, rfl, ?_, ?_⟩
  · simp [State.modTrain, State.modRun, State.modLink, same]
  · simp [State.modTrain, State.modRun, State.modLink, same]

/-- An ACK of anything else is dropped. -/
theorem exec_ack_other (front : s.lc.run.ifMsgs = (m, seq) :: rest) (typ : msgType m = 3)
    (other : ∀ o, s.lc.run.ifOut = some o → msgType o.msg ≠ bitsAt m 8 6 ∨ msgSeq o.msg ≠ bitsAt m 14 4) :
    exec .ack s = .next { s with lc := { s.lc with run := { s.lc.run with ifMsgs := rest } } } := by
  have front' := typ ▸ frontMsg_cons front
  have popped := popMsg_of_cons front
  rcases out : s.lc.run.ifOut with _ | o
  · have still : (s.modRun (fun r => { r with ifMsgs := rest })).lc.run.ifOut = none := out
    simp only [exec, execAck, front', popped, still]; rfl
  · have still : (s.modRun (fun r => { r with ifMsgs := rest })).lc.run.ifOut = some o := out
    have unlike : ¬ ((decide (msgType o.msg = bitsAt m 8 6) && decide (msgSeq o.msg = bitsAt m 14 4)) = true) := by
      simp only [Bool.and_eq_true, decide_eq_true_eq]
      exact fun h => (other o out).elim (· h.1) (· h.2)
    simp only [exec, execAck, front', popped, still, if_neg unlike]; rfl

end

/-- A message without an ACK in time that may be sent again (R78). -/
theorem exec_infofieldRetry_again {s : State} {o : IfOut} (out : s.lc.run.ifOut = some o) (idle : o.due = false) (gone : s.lc.run.ifNow ≠ some o.msg)
    (late : retryPeriods s.kn.run.txForm ≤ o.waited) (sent : 0 < o.sends) (few : o.sends < 8) :
    exec .infofieldRetry s = .next ((s.modRun (fun r => { r with ifOut := some { o with due := true } })).modLc
      (fun c => { c with ifRetry := inc 32 c.ifRetry })) := by
  simp only [exec, execInfofieldRetry, out, idle, gone, Nat.not_lt.mpr late, Nat.pos_iff_ne_zero.mp sent, Nat.not_le.mpr few, decide_false,
    Bool.or_self, Bool.false_eq_true, if_false]

/-- What the eighth send without an ACK leaves (R78, R171). -/
def State.abandoned (s : State) (o : IfOut) : State :=
  ((((s.modRun (fun r => { r with
    ifOut := none
    ifQueue := (if s.link.state = 6 || s.link.state = 9 then s.resend o.msg else []) ++
      s.lc.run.ifQueue.filter (fun m => !(msgType o.msg = 1 && msgType m = 1 && bitsAt m 6 2 = bitsAt o.msg 6 2)) })).modLc
        (fun c => { c with ifFail := inc 32 c.ifFail })).drawn.drawn).logEntry unitLine 3 kindFault 5 0x2B (msgType o.msg)).raiseEvent evLink

theorem exec_infofieldRetry_abandons {s : State} {o : IfOut} (out : s.lc.run.ifOut = some o) (idle : o.due = false)
    (gone : s.lc.run.ifNow ≠ some o.msg) (late : retryPeriods s.kn.run.txForm ≤ o.waited) (many : 8 ≤ o.sends) :
    exec .infofieldRetry s = .next (s.abandoned o) := by
  have sent : o.sends ≠ 0 := by omega
  simp only [exec, execInfofieldRetry, out, idle, gone, Nat.not_lt.mpr late, sent, many, decide_false,
    Bool.or_self, Bool.false_eq_true, if_false, if_true]
  rfl

theorem abandoned_lc (s : State) (o : IfOut) : (s.abandoned o).lc.run.ifOut = none ∧ (s.abandoned o).lc.cnt.ifFail = inc 32 s.lc.cnt.ifFail ∧
    (s.link.state = 6 ∨ s.link.state = 9 → (s.resend o.msg).isPrefixOf (s.abandoned o).lc.run.ifQueue = true) := by
  simp only [State.abandoned, State.raiseEvent_lc, State.logEntry_lc, State.drawn_lc]
  refine ⟨rfl, rfl, fun busy => ?_⟩
  have listed : (decide (s.link.state = 6) || decide (s.link.state = 9)) = true := by simpa using busy
  simp [State.modRun, State.modLc, listed, List.isPrefixOf_iff_prefix]

/-- A switch takes its pairs' sets into force, but for the shed pair's (R56). -/
theorem applySwitch_at (s : State) (x : Switch) (p : Pair) : (s.applySwitch x).lc.pre.at p = match x.sets.at p with
    | some set => if s.kn.run.txForm = true ∧ s.kn.shed = p then s.lc.pre.at p else { s.lc.pre.at p with activeOn := true, actSet := set.1, taps := set.2 }
    | none => s.lc.pre.at p := by
  simp only [State.applySwitch, Quad.at_mapIdx, Bool.and_eq_true, decide_eq_true_eq]
  rfl

/-- Settles O50: each accepted message through `onMessage_new` or `onMessage_repeated`, the retry by the number of sends, the activation by the
one switch that is due. -/
theorem infoFieldMessagesAct : Obligations.InfoFieldMessagesAct := by
  refine ⟨fun s m seq rest front => ?_, fun s o out idle gone late => ?_, fun s x due => ?_⟩
  · refine ⟨fun new => ⟨exec_thpCoef_new front new, fun typ => ?_, exec_peerId_new front new⟩, fun nak again => ⟨fun typ => ?_, fun typ => ?_, fun typ => ?_⟩,
      fun typ => ⟨fun o => exec_ack_answers front typ, exec_ack_other front typ⟩⟩
    · obtain ⟨t, run, pre, met, unmet⟩ := exec_thpSwitch_keeps_pre front new typ
      refine ⟨t, run, pre, fun low high full => met (switchOk_iff.mpr ⟨low, high, full⟩), fun bad => unmet fun ok => ?_⟩
      obtain ⟨low, high, full⟩ := switchOk_iff.mp ok
      rcases bad with bad | bad | bad
      · omega
      · omega
      · exact bad full
    all_goals exact congrArg Host.Outcome.next (typ ▸ onMessage_repeated front again)
  · refine ⟨fun sent few => ⟨_, exec_infofieldRetry_again out idle gone late sent few, rfl, rfl, rfl⟩,
      fun many => ⟨_, exec_infofieldRetry_abandons out idle gone late many, ?_⟩⟩
    obtain ⟨none, fail, queue⟩ := abandoned_lc s o
    refine ⟨none, fail, queue, raiseEvent_flag rfl (by decide), ?_⟩
    simp only [State.abandoned, State.raiseEvent_link, State.logEntry_link, State.drawn_link]
    rfl
  · have run : exec .thpSetActivate s = .next ((s.modRun (fun r => { r with pendSwitch := r.pendSwitch.filter (fun x => x.at' ≠ s.switchSeq) })).applySwitch x) := by
      show Host.Outcome.next ((s.lc.run.pendSwitch.filter (fun y => y.at' = s.switchSeq)).foldl State.applySwitch _) = _
      rw [show s.lc.run.pendSwitch.filter (fun y => y.at' = s.switchSeq) = [x] from due]
      rfl
    exact ⟨_, run, applySwitch_at _ x, rfl, rfl⟩

end Sys2Proof.Machine
end

section
/-! PROOFS. The state page, and what monitoring keeps. -/

namespace Sys2Proof.Machine

set_option Elab.async false

/-! ### Alarms and what else a snapshot evaluates -/

section
variable {α : Type} (g : State → α) (log : ∀ (s : State) (u sev kind detail obj a0 a1 a2 a3 : Nat), g (s.logEntry u sev kind detail obj a0 a1 a2 a3) = g s)
  (event : ∀ (s : State) (i : Nat), g (s.raiseEvent i) = g s)
  (mon : ∀ (s : State) (f : Monitor → Monitor), (∀ m, (f m).evals = m.evals) → g (s.modMon f) = g s)
include log event mon

theorem alarmChange_keeps (s : State) (i : Nat) (a : Alarm) (set : Bool) (p : Pair) : g (s.alarmChange i a set p) = g s := by
  unfold State.alarmChange
  rw [event]
  cases set
  · simp only [Bool.false_eq_true, if_false, log]
  · simp only [if_true]
    exact (mon _ _ (by exact fun _ => rfl)).trans (log _ _ _ _ _ _ _ _ _ _)

theorem evalAlarm_keeps (s : State) (i : Nat) : g (s.evalAlarm i) = g s := by
  have put : ∀ a : Alarm, g (s.modMon (fun m => { m with alarms := setAt m.alarms i a })) = g s := fun _ => mon _ _ fun _ => rfl
  have change := alarmChange_keeps g log event mon
  unfold State.evalAlarm
  dsimp only
  split
  · rfl
  · split
    · split
      · rw [change, put]
      · exact put _
    · split
      · rfl
      · split
        · exact (change _ _ _ _ _).trans ((mon _ _ (by exact fun _ => rfl)).trans (put _))
        · exact (mon _ _ (by exact fun _ => rfl)).trans (put _)

theorem evalAlarms_keep (s : State) (l : List Nat) : g (l.foldl (fun st i => st.evalAlarm i) s) = g s := by
  induction l generalizing s with
  | nil => rfl
  | cons i l ih => exact (ih _).trans (evalAlarm_keeps g log event mon s i)

end

theorem evaluate_evals (s : State) : s.evaluate.mon.evals = s.mon.evals + 1 :=
  congrArg (· + 1) (evalAlarms_keep (·.mon.evals) (fun _ _ _ _ _ _ _ _ _ _ => by simp) (fun _ _ => by simp) (fun _ _ kept => kept _) s _)

/-- What an evaluation leaves, of what the alarms do not name. -/
theorem evaluate_keeps {α : Type} (g : State → α)
    (log : ∀ (s : State) (u sev kind detail obj a0 a1 a2 a3 : Nat), g (s.logEntry u sev kind detail obj a0 a1 a2 a3) = g s)
    (event : ∀ (s : State) (i : Nat), g (s.raiseEvent i) = g s) (mon : ∀ (s : State) (f : Monitor → Monitor), g (s.modMon f) = g s) (s : State) :
    g s.evaluate = g s := by
  unfold State.evaluate
  exact (mon _ _).trans (evalAlarms_keep g log event (fun s f _ => mon s f) s _)

section
variable (s : State)

@[simp] theorem evaluate_page : s.evaluate.page = s.page := evaluate_keeps (·.page) (by simp) (by simp) (fun _ _ => rfl) s
@[simp] theorem evaluate_kw : s.evaluate.kw = s.kw := evaluate_keeps (·.kw) (by simp) (by simp) (fun _ _ => rfl) s
@[simp] theorem evaluate_link : s.evaluate.link = s.link := evaluate_keeps (·.link) (by simp) (by simp) (fun _ _ => rfl) s
@[simp] theorem evaluate_eng : s.evaluate.eng = s.eng := evaluate_keeps (·.eng) (by simp) (by simp) (fun _ _ => rfl) s
@[simp] theorem evaluate_cyo : s.evaluate.cyo = s.cyo := evaluate_keeps (·.cyo) (by simp) (by simp) (fun _ _ => rfl) s

end

/-- Signalling leaves what it does not write of the Front Panel. -/
theorem signalGeneral_fp {α : Type} {g : FrontPanel → α} (s : State)
    (kept : ∀ (f : FrontPanel) (e : BitVec 13) c m l d, g { f with event := e, eventCnt := c, msix := m, lastGeneral := l, mergeDue := d } = g f) :
    g s.signalGeneral.fp = g s.fp := by
  unfold State.signalGeneral
  dsimp only
  exact State.ite_keeps (π := fun t => g t.fp) (kept s.fp s.fp.event s.fp.eventCnt s.fp.msix s.fp.lastGeneral true)
    (kept s.fp s.fp.event s.fp.eventCnt (s.signalVector 1002).fp.msix (some s.time) s.fp.mergeDue)

/-- An event leaves what it does not write of the Front Panel. -/
theorem raiseEvent_fp {α : Type} {g : FrontPanel → α} (s : State) (i : Nat)
    (kept : ∀ (f : FrontPanel) (e : BitVec 13) c m l d, g { f with event := e, eventCnt := c, msix := m, lastGeneral := l, mergeDue := d } = g f) :
    g (s.raiseEvent i).fp = g s.fp := by
  unfold State.raiseEvent
  dsimp only
  exact State.ite_keeps (π := fun t => g t.fp)
    (State.ite_keeps (π := fun t => g t.fp) ((signalGeneral_fp _ kept).trans (kept _ _ _ _ _ _)) (kept _ _ _ _ _ _)) rfl

theorem raiseEvent_windows (s : State) (i : Nat) : (s.raiseEvent i).fp.windows = s.fp.windows := raiseEvent_fp s i fun _ _ _ _ _ _ => rfl

theorem raiseEvent_pageAddr (s : State) (i : Nat) : (s.raiseEvent i).fp.pageAddr = s.fp.pageAddr := raiseEvent_fp s i fun _ _ _ _ _ _ => rfl

theorem evaluate_windows (s : State) : s.evaluate.fp.windows = s.fp.windows :=
  evaluate_keeps (·.fp.windows) (by simp) raiseEvent_windows (fun _ _ => rfl) s

theorem evaluate_pageAddr (s : State) : s.evaluate.fp.pageAddr = s.fp.pageAddr :=
  evaluate_keeps (·.fp.pageAddr) (by simp) raiseEvent_pageAddr (fun _ _ => rfl) s

/-! ### The state page -/

theorem bit_zero (q : BitVec 32) : q.getLsbD 0 = decide (q.toNat % 2 = 1) := Nat.testBit_zero _

theorem oddSeq_odd (q : BitVec 32) : (oddSeq q).getLsbD 0 = true := by
  unfold oddSeq
  split
  · next odd =>
    rw [bit_zero, decide_eq_true_eq] at odd ⊢
    bv_omega
  · next even =>
    rw [bit_zero, decide_eq_true_eq] at even ⊢
    bv_omega

theorem succ_even {q : BitVec 32} (odd : q.getLsbD 0 = true) : (q + 1).getLsbD 0 = false := by
  rw [bit_zero, decide_eq_true_eq] at odd
  rw [bit_zero, decide_eq_false_iff_not]
  bv_omega

theorem windowKind_congr {s t : State} (windows : t.fp.windows = s.fp.windows) (kw : t.kw = s.kw) (a n : Nat) (wr : Bool) :
    t.windowKind a n wr = s.windowKind a n wr := by
  simp only [State.windowKind, windows, kw]

theorem writeLines_keeps {α : Type} (g : State → α) (line : ∀ (s : State) (a : Nat) (l : List Byte), g (s.writeLine a l) = g s) (s : State)
    (a n : Nat) (bs : List Byte) : g (s.writeLines a n bs) = g s := by
  induction n generalizing s a bs with
  | zero => rfl
  | succ n ih => exact (ih _ _ _).trans (line _ _ _)

/-- A usable page is begun with an odd SEQ (R367, R368). -/
theorem beginPage_usable {s : State} (usable : s.windowKind (4096 * s.fp.pageAddr) 4096 true = 0) :
    s.beginPage.page = { s.page with seq := oddSeq s.page.seq, busy := true, addr := 4096 * s.fp.pageAddr, head := s.page.snapshot.take 56 } ∧
      s.beginPage.kw = s.kw ∧ s.beginPage.link = s.link ∧ s.beginPage.eng = s.eng ∧ s.beginPage.cyo = s.cyo := by
  unfold State.beginPage
  simp only [usable, ne_eq, not_true_eq_false, if_false]
  refine ⟨?_, ?_, ?_, ?_, ?_⟩
  · exact congrArg (fun x : StatePage => { x with seq := oddSeq s.page.seq, busy := true, addr := 4096 * s.fp.pageAddr, head := s.page.snapshot.take 56 })
      (writeLines_keeps (·.page) (fun _ _ _ => rfl) _ _ _ _)
  · exact writeLines_keeps (·.kw) (fun _ _ _ => rfl) _ _ _ _
  · exact writeLines_keeps (·.link) (fun _ _ _ => rfl) _ _ _ _
  · exact writeLines_keeps (·.eng) (fun _ _ _ => rfl) _ _ _ _
  · exact writeLines_keeps (·.cyo) (fun _ _ _ => rfl) _ _ _ _

/-- The state with the snapshot of its page taken and evaluated. -/
def State.snapped (s : State) : State := State.evaluate { s with page := { s.page with snapshot := s.snapshotBytes } }

theorem exec_statePageEpoch {s : State} (held : s.heldReset = false) (up : s.ben.up = true) :
    exec .statePageEpoch s = .next (if (s.page.busy || !s.fp.pageEn) = true then s.snapped.skipEpoch else s.snapped.beginPage) := by
  simp only [exec, execStatePageEpoch, held, up, Bool.false_eq_true, if_false, Bool.not_true]
  rfl

theorem exec_statePagePublished {s : State} (busy : s.page.busy = true) (usable : s.windowKind s.page.addr 64 true = 0)
    (noNote : s.pwr.perstNote = false) :
    exec .statePagePublished s = .next (State.signalVector { s.writeLine s.page.addr (pageLine (s.page.seq + 1) s.page.head) with
      page := { s.page with busy := false, seq := s.page.seq + 1 }, fp := { s.fp with pageFault := false } } 1003) := by
  simp only [exec, execStatePagePublished, busy, usable, noNote, Bool.not_true, Bool.false_eq_true, if_false, ne_eq, not_true_eq_false]
  rfl

/-- Settles O28: the snapshot leaves the page's window and address as they were, so `beginPage` writes line 0; the other clauses go by the branch. -/
theorem theStatePageIsPublishedInTwoSteps : Obligations.TheStatePageIsPublishedInTwoSteps := by
  refine ⟨fun s held up idle en usable => ?_, fun s held up skipped => ?_, fun s busy usable noNote => ?_⟩
  · have run := exec_statePageEpoch held up
    rw [if_neg (by simp [idle, en])] at run
    have addr : s.snapped.fp.pageAddr = s.fp.pageAddr := evaluate_pageAddr _
    have usable' : s.snapped.windowKind (4096 * s.snapped.fp.pageAddr) 4096 true = 0 := by
      rw [addr]
      exact (windowKind_congr (evaluate_windows _) (evaluate_kw _) _ _ _).trans usable
    obtain ⟨page, kw, link, eng, cyo⟩ := beginPage_usable usable'
    have snapshot : s.snapped.page = { s.page with snapshot := s.snapshotBytes } := evaluate_page _
    refine ⟨_, run, ?_⟩
    rw [page, snapshot, addr, kw, link, eng, cyo]
    dsimp only
    exact ⟨rfl, oddSeq_odd _, rfl, rfl, rfl, rfl, evaluate_kw _, evaluate_link _, evaluate_eng _, evaluate_cyo _⟩
  · have run := exec_statePageEpoch held up
    rw [if_pos (by simpa using skipped)] at run
    refine ⟨_, run, ?_, evaluate_evals _, evaluate_kw _, evaluate_link _⟩
    have snapshot : s.snapped.page = { s.page with snapshot := s.snapshotBytes } := evaluate_page _
    simp only [State.skipEpoch, snapshot]
  · exact ⟨_, exec_statePagePublished busy usable noNote, rfl, rfl, succ_even (q := s.page.seq), rfl⟩

/-! ### Trend, reports and the merged signal -/

theorem leAt_packBytes_first {v : Nat} (small : v < 2 ^ 16) (fs : List (Nat × Nat)) (n : Nat) (bs : List Byte) :
    leAt (packBytes (n + 2) ((16, v) :: fs) ++ bs) 0 2 = v := by
  simp only [leAt, packBytes, packNat, leBytes, List.drop_zero, List.cons_append, List.take_succ_cons, List.take_zero, leNat, BitVec.toNat_ofNat]
  omega

@[simp] theorem length_leBytes (n v : Nat) : (leBytes n v).length = n := by
  induction n generalizing v with
  | zero => rfl
  | succ n ih => simp [leBytes, ih]

@[simp] theorem length_packBytes (n : Nat) (fs : List (Nat × Nat)) : (packBytes n fs).length = n := length_leBytes n _

@[simp] theorem length_fitBytes (n : Nat) (bs : List Byte) : (fitBytes n bs).length = n := by
  simp [fitBytes]; omega

/-- The item of link OAM that a report is. -/
def State.oamItem (s : State) (typ : Nat) (body : List Byte) : List Byte :=
  (packBytes 8 [(16, typ), (8, 1), (8, 0), (32, s.lc.run.oamSeq)] ++ fitBytes 52 body) ++
    leBytes 4 (crc32 (packBytes 8 [(16, typ), (8, 1), (8, 0), (32, s.lc.run.oamSeq)] ++ fitBytes 52 body))

theorem length_oamItem (s : State) (typ : Nat) (body : List Byte) : (s.oamItem typ body).length = 64 := by simp [State.oamItem]

theorem oamItem_type (s : State) {typ : Nat} (small : typ < 2 ^ 16) (body : List Byte) : leAt (s.oamItem typ body) 0 2 = typ := by
  unfold State.oamItem
  rw [List.append_assoc]
  exact leAt_packBytes_first small _ 6 _

/-- In native data an item is queued and counted (R276, R277). -/
theorem sendOam_native {s : State} (native : s.nativeData = true) (typ : Nat) (body : List Byte) :
    s.sendOam typ body = { s with
      lc := { s.lc with run := { s.lc.run with oam := s.lc.run.oam ++ [s.oamItem typ body], oamSeq := (s.lc.run.oamSeq + 1) % 2 ^ 32 } }
      mon := { s.mon with oamTx := inc 32 s.mon.oamTx } } := by
  simp only [State.sendOam, native, Bool.not_true, Bool.false_eq_true, if_false]
  rfl

/-- The oldest item delivered, a good one of its row's type, is acted on (R276). -/
theorem onOam_good {s : State} {x : List Byte} {l : List (List Byte)} {typ : Nat} {act : List Byte → State → State} (front : s.lc.oamIn = x :: l)
    (ok : oamOk x = true) (same : leAt x 0 2 = typ) :
    s.onOam typ act = act x { s with lc := { s.lc with oamIn := l }, mon := { s.mon with oamRx := inc 32 s.mon.oamRx } } := by
  simp only [State.onOam, front, ok, same, Bool.not_true, Bool.false_eq_true, if_false, if_true]

theorem exec_trendInterval {s : State} (up : s.ben.up = true) :
    ∃ t : State, exec .trendInterval s = .next t ∧ (∀ p, t.mon.trend.at p = (trendOf (s.mon.samples.at p) :: s.mon.trend.at p).take 64 ∧
      t.mon.samples.at p = []) ∧ t.mon.count = min 64 (s.mon.count + 1) ∧
      t = { s with mon := { s.mon with trend := t.mon.trend, samples := t.mon.samples, head := t.mon.head, count := t.mon.count } } :=
  ⟨_, congrArg Host.Outcome.next (if_neg (by simp [up])), fun p => ⟨Quad.at_mapIdx _ _ p, Quad.at_all _ p⟩, rfl, rfl⟩

theorem exec_farReport {s : State} {x : List Byte} {l : List (List Byte)} (front : s.lc.oamIn = x :: l) (ok : oamOk x = true) (typ : leAt x 0 2 = 1) :
    ∃ t : State, exec .farReport s = .next t ∧ t.lc.oamIn = l ∧ t.mon.oamRx = inc 32 s.mon.oamRx ∧ t.mon.farAt = some s.time ∧
      (∀ q, (t.mon.far.at q).uncorr = leAt x (24 + 4 * (s.link.map.far.at q).val) 4) ∧
      t = { s with mon := { s.mon with oamRx := t.mon.oamRx, farAt := t.mon.farAt, far := t.mon.far }, lc := { s.lc with oamIn := l } } := by
  refine ⟨_, congrArg Host.Outcome.next (onOam_good front ok typ), rfl, rfl, rfl, fun q => ?_, rfl⟩
  exact congrArg FarQuality.uncorr (Quad.at_mapIdx s.mon.far _ q)

theorem exec_cableDischarge {s : State} (por : s.pwr.porHeld = false) (warm : s.pwr.warmHeld = false) (rail : s.pwr.railLow &&& 3 = 0) (p : Pair) :
    exec (.cableDischarge p) s =
      .next ((s.modPwr (fun w => { w with discharge := w.discharge.upd p (inc 16) })).logEntry unitLine 3 kindFault 0 0x50 p.val) :=
  congrArg Host.Outcome.next (if_neg (by simp only [por, warm, rail, Bool.or_self, ne_eq, not_true_eq_false, decide_false, Bool.false_eq_true, not_false_eq_true]))

/-- A vector that may be signalled and is not masked goes out (R318). -/
theorem signalVector_sent {s : State} {v : Nat} (can : s.canSignal v = true) (clear : (sget {} s.fp.msix v).masked = false) :
    (s.signalVector v).out = Out.msix v (sget {} s.fp.msix v).addr (sget {} s.fp.msix v).data :: s.out := by
  have open' : (s.canSignal v && !(sget {} s.fp.msix v).masked) = true := by rw [can, clear]; rfl
  exact if_pos open'

/-- Settles O29: each row from its guard, the report by `sendOam_native`, the received one by `onOam_good`. -/
theorem monitoringKeepsItsRecords : Obligations.MonitoringKeepsItsRecords := by
  refine ⟨fun s => exec_trendInterval, fun s up native every quiet calm snapshot => ?_, fun s x l => exec_farReport, fun s p por warm rail => ?_,
    fun s due => ?_⟩
  · have run : exec .farReportTimer s = .next (s.sendOam 1 s.farBody) :=
      congrArg Host.Outcome.next (if_pos (by simp [up, native, every, quiet, calm, snapshot]))
    rw [sendOam_native native] at run
    exact ⟨_, _, run, rfl, length_oamItem _ _ _, oamItem_type s (by decide) _, rfl, rfl⟩
  · refine ⟨_, exec_cableDischarge por warm rail p, ?_, fun q other => ?_, ?_, ?_⟩
    · simp only [State.logEntry_pwr]
      exact Quad.at_upd_self _ _ _
    · simp only [State.logEntry_pwr]
      exact Quad.at_upd_ne other
    · simp only [State.logEntry_link]
      rfl
    · simp only [State.logEntry_kw]
      rfl
  · refine ⟨_, congrArg Host.Outcome.next (if_pos due), rfl, rfl, rfl, fun up here clear => ?_, rfl⟩
    refine signalVector_sent ?_ clear
    simp [State.canSignal, State.setFp, up, here]

end Sys2Proof.Machine
end

section
/-! PROOFS. The two banks of the engines' slots: staged, committed, switched. -/

namespace Sys2Proof.Machine

set_option Elab.async false

/-! ### Requests of a command with two forms -/

/-- A request that Benash takes up is the one with its TAG in the inbox. -/
theorem takes_find {s : State} {tag : BitVec 16} {op : Nat} {q : Request} (takes : Takes s tag op q) :
    s.cyo.inbox.find? (fun r => r.cap.tag = tag) = some q := by
  have started := takes.1
  unfold State.startable at started
  split at started
  · next p found =>
    rw [found]
    split at started
    · exact started
    · cases started
  · cases started

/-- The effect of a command that runs a request of its form which Benash takes up. -/
theorem next_runWhere {s t : State} {tag : BitVec 16} {op : Nat} {q : Request} {form : Capsule → Bool} {body : Request → State → State}
    (takes : Takes s tag op q) (mine : form q.cap = true) (e : body q (s.begin q) = t) :
    (Host.Outcome.next (s.runWhere tag op form body) : Host.Outcome State Fault Refusal) = .next t := by
  simp only [State.runWhere, takes_find takes, mine, if_true]
  exact next_runRequest takes e

/-! ### The two banks -/

section
variable (g : Engines) (t : Sparse (BitVec 64))

@[simp] theorem inactive_putInactive : (g.putInactive t).inactive = t := by
  unfold Engines.putInactive Engines.inactive
  split <;> simp_all

@[simp] theorem active_putInactive : (g.putInactive t).active = g.active := by
  unfold Engines.putInactive Engines.active
  split <;> simp_all

theorem putInactive_eq : g.putInactive t = { g with bankA := (g.putInactive t).bankA, bankB := (g.putInactive t).bankB } := by
  unfold Engines.putInactive
  split <;> rfl

end

theorem inactive_wf {s : State} (ok : s.tablesOk = true) : Sparse.wf 0 s.eng.inactive = true := by
  simp only [State.tablesOk, Bool.and_eq_true, and_assoc] at ok
  obtain ⟨-, -, -, -, -, -, -, -, a, b, -⟩ := ok
  unfold Engines.inactive
  split
  · exact a
  · exact b

section
variable {α : Type} [DecidableEq α] {d : α}

/-- Entries written one after the other are read back, and no other key changes. -/
theorem sget_writeFrom (l : List α) (k n : Nat) {t : Sparse α} (wf : Sparse.wf d t = true) (j : Nat) :
    sget d ((l.zipIdx n).foldl (fun t e => sset d t (k + e.2) e.1) t) j = if k + n ≤ j ∧ j < k + n + l.length then l.getD (j - (k + n)) d else sget d t j := by
  induction l generalizing n t with
  | nil => simp
  | cons x l ih =>
    rw [List.zipIdx_cons, List.foldl_cons, ih (n + 1) (sset_wf d _ _ wf)]
    by_cases here : j = k + n
    · subst here
      rw [if_neg (by omega), if_pos (by simp), sget_sset_wf d _ _ wf]
      simp
    · rw [sget_sset_ne _ _ _ here]
      by_cases later : k + (n + 1) ≤ j ∧ j < k + (n + 1) + l.length
      · rw [if_pos later, if_pos (by simp; omega), show j - (k + n) = (j - (k + (n + 1))) + 1 by omega]
        rfl
      · rw [if_neg later, if_neg (by simp at later ⊢; omega)]

/-- Keys that are emptied read as the default, and no other key changes. -/
theorem sget_emptied (l : List Nat) (k : Nat) {t : Sparse α} (wf : Sparse.wf d t = true) (j : Nat) :
    sget d (l.foldl (fun t i => sset d t (k + i) d) t) j = if ∃ i ∈ l, j = k + i then d else sget d t j := by
  induction l generalizing t with
  | nil => simp
  | cons x l ih =>
    rw [List.foldl_cons, ih (sset_wf d _ _ wf)]
    by_cases later : ∃ i ∈ l, j = k + i
    · rw [if_pos later, if_pos (by simpa using Or.inr later)]
    · rw [if_neg later]
      by_cases here : j = k + x
      · subst here
        rw [if_pos ⟨x, by simp, rfl⟩, sget_sset_wf d _ _ wf]
      · rw [sget_sset_ne _ _ _ here, if_neg (by simp at later ⊢; exact ⟨here, later⟩)]

end

theorem slotsOf_of_empty {t : Sparse (BitVec 64)} {e : Nat} (empty : ∀ i < 16, sget 0 t (16 * e + i) = 0) : slotsOf t e = [] := by
  simp only [slotsOf, List.filter_eq_nil_iff, List.mem_map, List.mem_range]
  rintro _ ⟨i, small, rfl⟩
  have none : slotTask (sget 0 t (16 * e + i)) = 0 := by rw [empty i small]; rfl
  exact not_not.mpr none ∘ of_decide_eq_true

/-! ### SLOT_STAGE -/

section
variable {s : State} {tag : BitVec 16} {q : Request} (takes : Takes s tag 0x64 q) (engines : s.ready .engines = true)
include takes engines

theorem exec_slotStageOpen (form : q.cap.arg 28 1 = 0) (plain : Plain q [(28, 1)]) (inQ : s.inQuiet = false) (txQ : s.txQuiet = false)
    (unarmed : s.armed = false) :
    exec (.slotStageOpen tag) s = .next (((s.begin q).openStaging true).finish q .ok [(32, s.eng.lastGen + 1)] []) := by
  obtain ⟨len, fields⟩ := plain
  have pass : firstFail [(decide (q.cap.len ≠ 0), .lenRange), (!(s.begin q).ready .engines, .notReady),
      (!q.cap.fieldsOk [(28, 1)] || decide (q.cap.arg 28 1 ≠ 0), .range)] = none := by
    simp [firstFail, len, fields, form, engines]
  refine next_runWhere takes (by simp [form]) ((guarded_begin takes pass).trans ?_)
  have loud : ((s.begin q).txQuiet || (s.begin q).inQuiet) = false := by
    show (s.txQuiet || s.inQuiet) = false
    simp [inQ, txQ]
  have unarmed' : (s.begin q).armed = false := unarmed
  simp only [loud, unarmed', Bool.false_eq_true, if_false]
  rfl

theorem exec_slotStageWrite (form : q.cap.arg 28 1 = 1) (len : q.cap.len = 8 * q.cap.arg 32 1)
    (entries : ∀ e ∈ stageEntries q.cap, taskAbsent s.fuse.part (slotTask e) = false ∧ entryBad e = false) (fresh : s.stageStale q.cap = false)
    (fields : q.cap.fieldsOk [(28, 5), (36, 4)] = true) (bank : q.cap.arg 29 1 ≤ 1) (engine : q.cap.arg 30 1 < s.fuse.part.engines)
    (some' : q.cap.arg 32 1 ≠ 0) (fits : q.cap.arg 31 1 + q.cap.arg 32 1 ≤ 16) :
    exec (.slotStageWrite tag) s = .next (((s.begin q).modEng (·.putInactive ((stageEntries q.cap).zipIdx.foldl
      (fun t e => sset 0 t (16 * q.cap.arg 30 1 + q.cap.arg 31 1 + e.2) e.1) s.eng.inactive))).finish q .ok [(32, s.eng.stagedGen)] []) := by
  have present : (stageEntries q.cap).any (fun e => taskAbsent (s.begin q).fuse.part (slotTask e)) = false :=
    List.any_eq_false.mpr fun e mem => by simpa using (entries e mem).1
  have good : (stageEntries q.cap).any entryBad = false := List.any_eq_false.mpr fun e mem => by simpa using (entries e mem).2
  have fresh' : (s.begin q).stageStale q.cap = false := fresh
  have small : decide ((s.begin q).fuse.part.engines ≤ q.cap.arg 30 1) = false := decide_eq_false (Nat.not_le.mpr engine)
  refine next_runWhere takes (by simp [form]) (guarded_begin takes ?_)
  simp only [firstFail, len, ne_eq, not_true_eq_false, decide_false, present, begin_ready, engines, Bool.not_true, fresh', fields,
    Nat.not_lt.mpr bank, small, some', Nat.not_lt.mpr fits, good, Bool.or_self, Bool.false_eq_true, if_false]

theorem exec_slotStageClear (form : q.cap.arg 28 1 = 2) (len : q.cap.len = 0) (fresh : s.stageStale q.cap = false)
    (fields : q.cap.fieldsOk [(28, 3), (36, 4)] = true) (bank : q.cap.arg 29 1 ≤ 1) (engine : q.cap.arg 30 1 < s.fuse.part.engines) :
    exec (.slotStageClear tag) s = .next (((s.begin q).modEng (·.putInactive ((List.range 16).foldl
      (fun t i => sset 0 t (16 * q.cap.arg 30 1 + i) 0) s.eng.inactive))).finish q .ok [(32, s.eng.stagedGen)] []) := by
  have fresh' : (s.begin q).stageStale q.cap = false := fresh
  have small : decide ((s.begin q).fuse.part.engines ≤ q.cap.arg 30 1) = false := decide_eq_false (Nat.not_le.mpr engine)
  refine next_runWhere takes (by simp [form]) (guarded_begin takes ?_)
  simp only [firstFail, len, ne_eq, not_true_eq_false, decide_false, begin_ready, engines, Bool.not_true, fresh', fields,
    Nat.not_lt.mpr bank, small, Bool.or_self, Bool.false_eq_true, if_false]

end

theorem length_stageEntries (c : Capsule) : (stageEntries c).length = c.arg 32 1 := by simp [stageEntries]

theorem stageEntries_getD {c : Capsule} {i : Nat} (small : i < c.arg 32 1) : (stageEntries c).getD i 0 = BitVec.ofNat 64 (leAt c.payload (8 * i) 8) := by
  simp [stageEntries, List.getD_eq_getElem?_getD, List.getElem?_range small]

/-! ### SLOT_COMMIT -/

section
variable {s : State} {tag : BitVec 16} {q : Request} (takes : Takes s tag 0x65 q) (engines : s.ready .engines = true) (plain : Plain q [(36, 4)])
  (own : s.eng.stageOpen (q.cap.arg 36 4) = true) (untested : s.testedTarget = none)
include takes engines plain own untested

theorem exec_slotCommit : exec (.slotCommit tag) s = .next ((s.begin q).commitStaging q) := by
  obtain ⟨len, fields⟩ := plain
  have own' : (s.begin q).eng.stageOpen (q.cap.arg 36 4) = true := own
  have untested' : (s.begin q).testedTarget = none := untested
  have pass : firstFail [(decide (q.cap.len ≠ 0), .lenRange), (!(s.begin q).ready .engines, .notReady)] = none := by
    simp [firstFail, len, engines]
  refine next_runRequest takes ((guarded_begin takes pass).trans ?_)
  simp only [own', if_true, untested']
  exact guarded_begin takes (by simp [firstFail, fields])

theorem exec_slotCommit_arms (valid : (s.begin q).validate s.eng.inactive s.eng.profile = none) :
    exec (.slotCommit tag) s = .next (((s.begin q).modEng (fun g => { g with
      staging := g.staging.map (fun x => { x with state := 3, tag := some q.cap.tag }) })).startRun q) := by
  rw [exec_slotCommit takes engines plain own untested]
  have valid' : (s.begin q).validate (s.begin q).eng.inactive (s.begin q).eng.profile = none := valid
  simp only [State.commitStaging, valid']

theorem exec_slotCommit_refuses {code e : Nat} (bad : (s.begin q).validate s.eng.inactive s.eng.profile = some (code, e)) :
    exec (.slotCommit tag) s = .next (((s.begin q).modEng (fun g => { g with lastReject := code, lastRejectEng := e })).finish q .range
      [(32, s.eng.activeGen), (8, code), (8, e)] []) := by
  rw [exec_slotCommit takes engines plain own untested]
  have bad' : (s.begin q).validate (s.begin q).eng.inactive (s.begin q).eng.profile = some (code, e) := bad
  simp only [State.commitStaging, bad']
  rfl

end

theorem stageOpen_staging {g : Engines} {gen : Nat} (own : g.stageOpen gen = true) : ∃ x, g.staging = some x ∧ x.gen = gen := by
  unfold Engines.stageOpen at own
  split at own
  · next x staged =>
    simp only [Bool.and_eq_true, decide_eq_true_eq] at own
    exact ⟨x, staged, own.1.2⟩
  · cases own

/-! ### The switch -/

/-- What of the engines' unit a repair or a gate does not write. -/
def Engines.tables (g : Engines) : Engines := { g with eng := [], repair := none, repFailed := 0, repSpare := 0, repCause := 0, repGen := 0 }

section
variable (s : State)

theorem finish_eng (q : Request) (st : Status) (r : List (Nat × Nat)) (p : List Byte) : (s.finish q st r p).eng = s.eng := by simp

theorem finishRepair_tables : s.finishRepair.eng.tables = s.eng.tables ∧ s.finishRepair.cyo = s.cyo := by
  unfold State.finishRepair
  split
  · split
    · exact ⟨rfl, rfl⟩
    · simp only [State.raiseEvent_eng, State.logEntry_eng, State.raiseEvent_cyo, State.logEntry_cyo]
      exact ⟨rfl, rfl⟩
  · exact ⟨rfl, rfl⟩

theorem retireIdle_tables (e c : Nat) : (s.retireIdle e c).eng.tables = s.eng.tables ∧ (s.retireIdle e c).cyo = s.cyo := by
  unfold State.retireIdle
  simp only [State.raiseEvent_eng, State.logEntry_eng, State.raiseEvent_cyo, State.logEntry_cyo]
  exact ⟨rfl, rfl⟩

theorem retireFailing_tables : s.retireFailing.eng.tables = s.eng.tables ∧ s.retireFailing.cyo = s.cyo := by
  unfold State.retireFailing
  split
  · exact ⟨rfl, rfl⟩
  · exact ⟨State.foldl_keeps (·.eng.tables) (fun u e => (retireIdle_tables u e _).1) _ s,
      State.foldl_keeps (·.cyo) (fun u e => (retireIdle_tables u e _).2) _ s⟩

theorem gateEngines_tables : s.gateEngines.eng.tables = s.eng.tables ∧ s.gateEngines.cyo = s.cyo := ⟨rfl, rfl⟩

theorem endRun_eng (op : Nat) (p : Capsule → Bool) (st : Status) (r : List (Nat × Nat)) : (s.endRun op p st r).eng = s.eng := by simp

theorem finish_running (q : Request) (st : Status) (r : List (Nat × Nat)) (p : List Byte) : (s.finish q st r p).cyo.running = s.cyo.running := by
  unfold State.finish
  dsimp only
  split
  · rfl
  · split <;> simp

end

/-- A command that does not run does not run once another has ended. -/
theorem findRun_endRun {s : State} {op op' : Nat} {p p' : Capsule → Bool} (none : s.findRun op' p' = none) (st : Status) (r : List (Nat × Nat)) :
    (s.endRun op p st r).findRun op' p' = .none := by
  unfold State.endRun
  split
  · next q _ =>
    unfold State.findRun at none ⊢
    rw [finish_running]
    simp only [State.unrun]
    rw [List.find?_eq_none] at none ⊢
    exact fun x mem => none x (List.mem_of_mem_filter mem)
  · exact none

/-- Nothing waits for the switch of a bank: neither a profile, nor a move, nor an OPEN. -/
def State.nothingWaits (s : State) : Prop := s.eng.laterProfile = none ∧ s.eng.laterMove = none ∧ s.findRun 0x64 (fun _ => true) = none

theorem afterSwitch_of_nothing {s : State} (idle : s.nothingWaits) : s.afterSwitch = s := by
  obtain ⟨profile, move, run⟩ := idle
  simp only [State.afterSwitch, profile, move, State.openWaiting, run]
  split <;> rfl

theorem nothingWaits_of_same {s t : State} (eng : t.eng.tables = s.eng.tables) (cyo : t.cyo = s.cyo) (idle : s.nothingWaits) : t.nothingWaits := by
  obtain ⟨profile, move, run⟩ := idle
  refine ⟨(congrArg Engines.laterProfile eng :).trans profile, (congrArg Engines.laterMove eng :).trans move, ?_⟩
  simpa only [State.findRun, cyo] using run

/-- What a switch does to the unit's tables. -/
def Engines.switched (x : Engines) (g : Staging) : Engines :=
  { x with
    useB := !x.useB, activeGen := g.gen, switchPeriod := x.period % 2 ^ 32, staging := none
    profile := g.profile.getD x.profile
    eng := if g.profile.isSome then x.eng.map (fun e => { e with dropped := false }) else x.eng }

theorem knuckleSettled_tables (s : State) : s.knuckleSettled.eng.tables = s.eng.tables := by
  unfold State.knuckleSettled
  dsimp only
  split
  · refine (gateEngines_tables _).1.trans ?_
    unfold State.endKnuckle
    split
    · rw [endRun_eng]
    · rfl
  · rfl

/-- An armed staging with nothing behind it comes into force (R137). -/
theorem slotBankSwitch_tables {s : State} {g : Staging} (staged : s.eng.staging = some g) (armed : g.state = 3) (idle : s.nothingWaits) :
    s.bankSwitch.knuckleSettled.eng.tables = (s.eng.switched g).tables := by
  refine (knuckleSettled_tables _).trans ?_
  simp only [State.bankSwitch, staged, armed, ne_eq, not_true_eq_false, if_false]
  change (State.afterSwitch (State.gateEngines (State.retireFailing (State.finishRepair (match g.tag with
    | some t => (s.modEng (·.switched g)).endRun 0x65 (fun c => c.tag = t) .ok (s.modEng (·.switched g)).commitResults
    | none => s.modEng (·.switched g)))))).eng.tables = _
  have ended : ∀ u : State, u = (match g.tag with
      | some t => (s.modEng (·.switched g)).endRun 0x65 (fun c => c.tag = t) .ok (s.modEng (·.switched g)).commitResults
      | none => s.modEng (·.switched g)) → u.eng = s.eng.switched g ∧ u.nothingWaits := by
    intro u is
    obtain ⟨profile, move, run⟩ := idle
    have eng : u.eng = s.eng.switched g := by
      rw [is]
      split
      · exact endRun_eng _ _ _ _ _
      · rfl
    refine ⟨eng, by rw [eng]; exact profile, by rw [eng]; exact move, ?_⟩
    rw [is]
    split
    · exact findRun_endRun (by exact run) _ _
    · exact run
  generalize (match g.tag with
    | some t => (s.modEng (·.switched g)).endRun 0x65 (fun c => c.tag = t) .ok (s.modEng (·.switched g)).commitResults
    | none => s.modEng (·.switched g)) = u at ended
  obtain ⟨eng, idle⟩ := ended u rfl
  have repaired := nothingWaits_of_same (finishRepair_tables u).1 (finishRepair_tables u).2 idle
  have retired := nothingWaits_of_same (retireFailing_tables _).1 (retireFailing_tables _).2 repaired
  have gated := nothingWaits_of_same (gateEngines_tables _).1 (gateEngines_tables _).2 retired
  rw [afterSwitch_of_nothing gated, (gateEngines_tables _).1, (retireFailing_tables _).1, (finishRepair_tables u).1, eng]

theorem armed_of_staging {s : State} (open' : ∀ g, s.eng.staging = some g → g.state ≠ 3) : s.armed = false := by
  unfold State.armed
  split
  · next g staged => simpa using open' g staged
  · rfl

/-- Settles O37: staging writes the inactive bank key by key, a commit arms or refuses it, and the switch leaves only what it names in the tables. -/
theorem stagedSlotsComeIntoForce : Obligations.StagedSlotsComeIntoForce := by
  refine ⟨fun s tag q takes engines => ⟨fun form plain inQ txQ unarmed => ?_, fun form len entries fresh fields bank engine some' fits ok => ?_,
    fun form len fresh fields bank engine ok => ?_⟩, fun s tag q takes engines plain own untested => ⟨fun valid => ?_, fun code e bad => ?_⟩,
    fun s g staged armed profile move run => ?_⟩
  · exact ⟨_, exec_slotStageOpen takes engines form plain inQ txQ (armed_of_staging unarmed), rfl, rfl, inactive_putInactive _ _,
      active_putInactive _ _, rfl⟩
  · refine ⟨_, exec_slotStageWrite takes engines form len entries fresh fields bank engine some' fits, fun i small => ?_, fun j out => ?_,
      active_putInactive _ _, rfl⟩
    · refine (congrArg (sget 0 · _) (inactive_putInactive _ _)).trans ?_
      rw [sget_writeFrom _ _ _ (inactive_wf ok), if_pos (by rw [length_stageEntries]; omega), ← stageEntries_getD small]
      congr 1
      omega
    · refine (congrArg (sget 0 · _) (inactive_putInactive _ _)).trans ?_
      rw [sget_writeFrom _ _ _ (inactive_wf ok), if_neg (by rw [length_stageEntries]; omega)]
  · refine ⟨_, exec_slotStageClear takes engines form len fresh fields bank engine, ?_, fun j other => ?_, active_putInactive _ _, rfl⟩
    · refine (congrArg (slotsOf · _) (inactive_putInactive _ _)).trans (slotsOf_of_empty fun i small => ?_)
      rw [sget_emptied _ _ (inactive_wf ok), if_pos ⟨i, by simpa using small, rfl⟩]
    · refine (congrArg (sget 0 · _) (inactive_putInactive _ _)).trans ?_
      rw [sget_emptied _ _ (inactive_wf ok), if_neg]
      rintro ⟨i, mem, rfl⟩
      have := List.mem_range.mp mem
      omega
  · obtain ⟨x, staged, gen⟩ := stageOpen_staging own
    exact ⟨_, _, exec_slotCommit_arms takes engines plain own untested valid, congrArg (Option.map _) staged, rfl, gen, rfl, rfl, rfl, rfl⟩
  · exact exec_slotCommit_refuses takes engines plain own untested bad
  · have tables := slotBankSwitch_tables staged armed ⟨profile, move, run⟩
    refine ⟨_, rfl, (congrArg Engines.useB tables :), (congrArg Engines.activeGen tables :), (congrArg Engines.switchPeriod tables :),
      (congrArg Engines.staging tables :), ?_, (congrArg Engines.profile tables :)⟩
    refine (congrArg Engines.active tables :).trans ?_
    show (if (!s.eng.useB) = true then s.eng.bankB else s.eng.bankA) = if s.eng.useB = true then s.eng.bankA else s.eng.bankB
    cases s.eng.useB <;> rfl

end Sys2Proof.Machine
end

section
/-! PROOFS. What the end of a link leaves, in every unit. -/

namespace Sys2Proof.Machine

set_option Elab.async false

/-! ### What the end of a link leaves

A link that goes down ends commands, runs, transfers and stagings in nearly every unit. `State.lineRest` is a state with all those places blanked: one lemma
says that a fall of the line keeps it, and what else a proof needs kept follows from that lemma by projection. -/

def Benash.lineRest (b : Benash) : Benash :=
  { b with
    tokens := 0, tokenTime := 0, suppressed := 0, suppressedNew := 0, queue := [], lost := 0, lostNew := 0, critical := 0
    swapLeft := 0, swapDeferred := false, progverOld := 0, progLayout := 0 }

def Nvm.lineRest (n : Nvm) : Nvm := { n with log := [], nextSeq := 0 }

def FrontPanel.lineRest (f : FrontPanel) : FrontPanel := { f with event := 0, eventCnt := [], msix := [], lastGeneral := none, mergeDue := false }

def Keyway.lineRest (k : Keyway) : Keyway := { k with rings := [], cnt := {}, txBuf := [], arrived := [] }

def Link.lineRest (l : Link) : Link := { l with mode := none, confirmed := false, ra := false, frt := {}, train := {}, neg := {} }

def Engines.lineRest (g : Engines) : Engines :=
  { g with
    eng := [], bankA := [], bankB := [], staging := none, laterProfile := none, laterMove := none, lastGen := 0
    repair := none, repairQueue := [], repFailed := 0, repSpare := 0, repCause := 0, repGen := 0 }

def DieLink.lineRest (d : DieLink) : DieLink := { d with outb := { d.outb with lanes := [] }, inb := { d.inb with lanes := [] }, frameNo := 0 }

/-- What of a state no fall of the line writes. -/
def State.lineRest (s : State) : State :=
  { s with
    nvm := s.nvm.lineRest, ben := s.ben.lineRest, fp := s.fp.lineRest, kw := s.kw.lineRest, link := s.link.lineRest, eng := s.eng.lineRest
    dl := s.dl.lineRest, flows := [], cal := {}, diag := {}, out := []
    cyo := { s.cyo with running := [], ended := [] }
    pwr := { s.pwr with state := .active, ctrlLost := 0 }
    lc := { s.lc with run := {}, item := none, cnt := {} }
    rx := { s.rx with pending := false, gainRun := false, afcRun := false, pair := Quad.all {} }
    ql := { s.ql with run := {}, wakeCause := 0 }
    kn := { s.kn with run := {} }
    mon := { s.mon with oamTx := 0 } }

/-- A step that writes no more than a fall of the line does, and clears no event. -/
structure LineStep (s t : State) : Prop where
  rest : t.lineRest = s.lineRest
  event : ∀ i, s.fp.event.getLsbD i = true → t.fp.event.getLsbD i = true

namespace LineStep

theorem refl (s : State) : LineStep s s := ⟨rfl, fun _ h => h⟩

theorem trans {s t u : State} (a : LineStep s t) (b : LineStep t u) : LineStep s u := ⟨b.rest.trans a.rest, fun i h => b.event i (a.event i h)⟩

theorem ite {s a b : State} {c : Prop} [Decidable c] (ha : LineStep s a) (hb : LineStep s b) : LineStep s (if c then a else b) := by
  split
  · exact ha
  · exact hb

theorem foldl {α : Type} {f : State → α → State} (each : ∀ u x, LineStep u (f u x)) (l : List α) (s : State) : LineStep s (l.foldl f s) := by
  induction l generalizing s with
  | nil => exact refl s
  | cons x l ih => exact (each s x).trans (ih _)

/-- A step that leaves the Front Panel as it is. -/
theorem of_rest {s t : State} (rest : t.lineRest = s.lineRest) (fp : t.fp = s.fp) : LineStep s t := ⟨rest, fun i h => by rw [fp]; exact h⟩

variable (s : State)

theorem admitLog (e : LogEntry) : LineStep s (s.admitLog e) := by
  have nvm : (s.admitLog e).nvm.lineRest = s.nvm.lineRest := by
    unfold State.admitLog
    dsimp only
    repeat' split
    all_goals rfl
  have ben : (s.admitLog e).ben.lineRest = s.ben.lineRest := by
    unfold State.admitLog
    dsimp only
    repeat' split
    all_goals simp only [Benash.lineRest]
  refine of_rest ?_ (by rw [State.admitLog_eq])
  rw [State.admitLog_eq]
  unfold State.lineRest
  dsimp only
  rw [nvm, ben]

theorem logEntry (u sev kind detail obj a0 a1 a2 a3 : Nat) : LineStep s (s.logEntry u sev kind detail obj a0 a1 a2 a3) := by
  unfold State.logEntry
  exact ite (refl s) (admitLog s _)

theorem raiseEvent (i : Nat) : LineStep s (s.raiseEvent i) := by
  constructor
  · have fp : (s.raiseEvent i).fp.lineRest = s.fp.lineRest := raiseEvent_fp s i fun _ _ _ _ _ _ => rfl
    rw [State.raiseEvent_eq]
    unfold State.lineRest
    dsimp only
    rw [fp]
  · intro j set
    by_cases present : s.eventPresent i = true
    · rw [raiseEvent_event present, BitVec.getLsbD_or, set, Bool.true_or]
    · unfold State.raiseEvent
      rw [if_neg present]
      exact set

theorem modRing (i : Nat) (f : Ring → Ring) : LineStep s (s.modRing i f) := of_rest rfl rfl

theorem doneLost (n : Nat) : LineStep s (s.doneLost n) := of_rest rfl rfl

theorem complete (i n : Nat) (c : Completion) : LineStep s (s.complete i n c) := by
  unfold State.complete
  exact ite (modRing s _ _) ((modRing s _ _).trans (doneLost _ _))

theorem finish (q : Request) (st : Status) (r : List (Nat × Nat)) (p : List Byte) : LineStep s (s.finish q st r p) := by
  unfold State.finish
  dsimp only
  refine ite (of_rest rfl rfl) ?_
  split
  · exact complete s _ _ _
  · exact doneLost s _
  · exact (of_rest rfl rfl : LineStep s { s with pwr := { s.pwr with ctrlLost := inc 16 s.pwr.ctrlLost } }).trans (logEntry _ _ _ _ _ _ _ _ _ _)

theorem unrun (tag : BitVec 16) : LineStep s (s.unrun tag) := of_rest rfl rfl

theorem endRun (op : Nat) (p : Capsule → Bool) (st : Status) (r : List (Nat × Nat)) : LineStep s (s.endRun op p st r) := by
  unfold State.endRun
  split
  · exact (unrun s _).trans (finish _ _ _ _ _)
  · exact refl s

theorem modEng (f : Engines → Engines) (kept : (f s.eng).lineRest = s.eng.lineRest) : LineStep s (s.modEng f) := by
  refine of_rest ?_ rfl
  unfold State.modEng State.lineRest
  dsimp only
  rw [kept]

theorem modEngine (e : Nat) (f : Engine → Engine) : LineStep s (s.modEngine e f) := of_rest rfl rfl

/-! The runs of a calibration and of a diagnostic -/

theorem cal (c : Cal) : LineStep s { s with cal := c } := of_rest rfl rfl

theorem diag (d : Diag) : LineStep s { s with diag := d } := of_rest rfl rfl

theorem heldRevert : LineStep s s.heldRevert := by
  unfold State.heldRevert
  exact ite (of_rest rfl rfl) (refl s)

theorem finishCal : LineStep s s.finishCal := by
  unfold State.finishCal
  split
  · exact refl s
  · exact ((cal s _).trans (endRun _ _ _ _ _)).trans (heldRevert _)

theorem endCalItems (code : Nat) (which : Nat → Bool) : LineStep s (s.endCalItems code which) := by
  unfold State.endCalItems
  split
  · exact refl s
  · exact ite ((cal s _).trans (finishCal _)) (cal s _)

theorem calLinkChange : LineStep s s.calLinkChange := by
  unfold State.calLinkChange
  exact (cal s _).trans (endCalItems _ _ _)

theorem endKnuckle (st : Status) : LineStep s (s.endKnuckle st) := by
  unfold State.endKnuckle
  split
  · exact (of_rest rfl rfl : LineStep s { s with kn := { s.kn with run := { s.kn.run with request := none } } }).trans (endRun _ _ _ _ _)
  · exact refl s

theorem sendOam (typ : Nat) (body : List Byte) : LineStep s (s.sendOam typ body) := by
  unfold State.sendOam
  exact ite (refl s) (of_rest rfl rfl)

theorem writeLines (n : Nat) : ∀ (s : State) (a : Nat) (bs : List Byte), LineStep s (s.writeLines a n bs) := by
  induction n with
  | zero => exact fun s _ _ => refl s
  | succ n ih => exact fun s a bs => (of_rest rfl rfl : LineStep s (s.writeLine a _)).trans (ih _ _ _)

theorem finishDiag (st : Status) : LineStep s (s.finishDiag st) := by
  unfold State.finishDiag
  split
  · exact refl s
  · dsimp only
    refine LineStep.trans ?_ (endRun _ _ _ _ _)
    refine LineStep.trans ?_ (ite (by exact of_rest rfl rfl) (refl _))
    refine LineStep.trans ?_ (ite (refl _) (writeLines _ _ _ _))
    exact (ite (sendOam s _ _) (refl s) : LineStep s _).trans (diag _ _)

theorem endDiagTests (code : Nat) (st : Status) : LineStep s (s.endDiagTests code st) := by
  unfold State.endDiagTests
  split
  · exact refl s
  · exact (diag s _).trans (finishDiag _ _)

theorem interruptDiagRun : LineStep s s.interruptDiagRun := endDiagTests s 4 .ok

/-! What a fall of the line ends -/

theorem dropItem : LineStep s s.dropItem := by
  unfold State.dropItem
  split
  · exact refl s
  · next it _ =>
    have counted : LineStep s (if it.isIdle then s else s.modLc (fun c => { c with framesErrored := inc 32 c.framesErrored })) :=
      ite (refl s) (of_rest rfl rfl)
    refine counted.trans ?_
    generalize (if it.isIdle then s else s.modLc (fun c => { c with framesErrored := inc 32 c.framesErrored })) = u
    dsimp only
    split
    · exact ite (of_rest rfl rfl) (of_rest rfl rfl)
    · exact of_rest rfl rfl

theorem modStats (f : Nat) (g : FlowStats → FlowStats) : LineStep s (s.modStats f g) := of_rest rfl rfl

theorem kwLeft (k : Keyway) (kept : k.lineRest = s.kw.lineRest) : LineStep s { s with kw := k } := by
  refine of_rest ?_ rfl
  unfold State.lineRest
  dsimp only
  rw [kept]

theorem dropTx : LineStep s s.dropTx := by
  unfold State.dropTx
  dsimp only
  refine LineStep.trans ?_ (kwLeft _ _ rfl)
  refine LineStep.trans ?_ (foldl (fun u e => modStats u _ _) _ _)
  exact foldl (fun u f => modStats u _ _) _ _

theorem abandonRepair : LineStep s s.abandonRepair := by
  unfold State.abandonRepair
  split
  · exact of_rest rfl rfl
  · exact refl s

theorem supersede : LineStep s s.supersede := modEng s _ rfl

theorem loadNew (es : List Nat) : LineStep s (s.loadNew es) := by
  have marked : LineStep s (es.foldl (fun st e => st.modEngine e (fun x => { x with newProg := true })) s) := foldl (fun u e => modEngine u e _) es s
  unfold State.loadNew
  dsimp only
  refine marked.trans (ite (of_rest rfl rfl) ?_)
  refine LineStep.trans ?_ (raiseEvent _ _)
  refine LineStep.trans ?_ (logEntry _ _ _ _ _ _ _ _ _ _)
  exact of_rest rfl rfl

theorem finishSwap : LineStep s s.finishSwap := ite (refl s) (loadNew s _)

theorem putInactive_rest (g : Engines) (t : Sparse (BitVec 64)) : (g.putInactive t).lineRest = g.lineRest := by
  rw [putInactive_eq]
  rfl

theorem openStaging (host : Bool) : LineStep s (s.openStaging host) := by
  refine modEng s _ ?_
  exact putInactive_rest s.eng s.eng.active

theorem commitProfile (p : Profile) : LineStep s (s.commitProfile p) := by
  unfold State.commitProfile
  refine ite (modEng s _ rfl) ((openStaging s false).trans ?_)
  exact modEng _ _ (putInactive_rest _ _)

theorem openWaiting : LineStep s s.openWaiting := by
  unfold State.openWaiting
  refine ite (refl s) ?_
  split
  · exact ((openStaging s true).trans (unrun _ _)).trans (finish _ _ _ _ _)
  · exact refl s

end LineStep

/-- The line units with what a link has in them blanked (R136, R149, R114, R256). -/
def State.lineBlank (s : State) (m : Rung) : State :=
  { s with
    lc := { s.lc with run := {}, item := none }
    rx := { s.rx with pending := false, gainRun := false, afcRun := false, pair := s.rx.pair.map (fun x => { x with stale := true, heldMode := m, lagRun := 0 }) }
    ql := { s.ql with run := {} }
    kn := { s.kn with run := {} }
    pwr := { s.pwr with state := if s.pwr.state = .quietLatch then .active else s.pwr.state }
    link := { s.link with mode := none, confirmed := false, ra := false, frt := {}, train := {} }
    diag := { s.diag with quietUntil := none } }

/-- What a fall of the line ends before the line units are blanked. -/
def State.lineEnds (s : State) (retrain : Status) : State :=
  ((((s.dropItem.calLinkChange.endKnuckle .notReady).endRun 0x4A (fun _ => true) retrain []).dropTx).abandonRepair.supersede).finishSwap.commitProfile .noLink

/-- A DIAG_TDR on the shed pair ends with the link. -/
def State.endShedDiag (s : State) : State := if (match s.diag.run with | some r => r.onShed | none => false) then s.interruptDiagRun else s

theorem lineDown_eq (s : State) (retrain : Status) :
    s.lineDown retrain = ((s.lineEnds retrain).lineBlank (s.link.mode.getD 0)).endShedDiag.openWaiting := by
  delta State.lineDown State.endShedDiag State.lineBlank State.lineEnds
  rfl

namespace LineStep

variable (s : State)

theorem lineBlank (m : Rung) : LineStep s (s.lineBlank m) := of_rest rfl rfl

theorem lineEnds (retrain : Status) : LineStep s (s.lineEnds retrain) := by
  have ended := (((dropItem s).trans (calLinkChange _)).trans (endKnuckle _ .notReady)).trans (endRun _ 0x4A (fun _ => true) retrain [])
  exact ((((ended.trans (dropTx _)).trans (abandonRepair _)).trans (supersede _)).trans (finishSwap _)).trans (commitProfile _ .noLink)

theorem endShedDiag : LineStep s s.endShedDiag := by
  unfold State.endShedDiag
  exact ite (interruptDiagRun s) (refl s)

theorem lineDown (retrain : Status) : LineStep s (s.lineDown retrain) := by
  rw [lineDown_eq]
  exact (((lineEnds s retrain).trans (lineBlank _ _)).trans (endShedDiag _)).trans (openWaiting _)

/-! Requests and causes that reach the line from elsewhere -/

theorem setStatus (i v : Nat) : LineStep s (s.setStatus i v) := of_rest rfl rfl

theorem withdrawQuiet : LineStep s s.withdrawQuiet := by
  unfold State.withdrawQuiet
  exact ite (of_rest rfl rfl) (refl s)

theorem wakeCause (n : Nat) : LineStep s (s.wakeCause n) := by
  unfold State.wakeCause
  exact ite (withdrawQuiet s) (ite (of_rest rfl rfl) (refl s))

theorem askRetrain : LineStep s s.askRetrain := by
  have wanted : LineStep s { s with link := { s.link with frt := { s.link.frt with want := true, since := s.time } } } := of_rest rfl rfl
  unfold State.askRetrain
  exact ite (refl s) ((wanted.trans (setStatus _ 5 1)).trans (wakeCause _ 3))

theorem retireIdle (e cause : Nat) : LineStep s (s.retireIdle e cause) := by
  unfold State.retireIdle
  exact ((modEngine s e _).trans (logEntry _ _ _ _ _ _ _ _ _ _)).trans (raiseEvent _ _)

theorem repairCause (e cause : Nat) (auto : Bool) : LineStep s (s.repairCause e cause auto) := by
  unfold State.repairCause
  refine ite (refl s) (ite ?_ (ite (retireIdle s e cause) (modEng s _ rfl)))
  exact ((modEngine s e _).trans (logEntry _ _ _ _ _ _ _ _ _ _)).trans (raiseEvent _ _)

end LineStep

end Sys2Proof.Machine
end

section
/-! PROOFS. A link that fails: what it leaves, and what its record holds. -/

namespace Sys2Proof.Machine

set_option Elab.async false

/-! ### A link that fails -/

/-- A step of a failing link: besides what a fall of the line writes it changes the link's own record, and clears no event. -/
structure LineFall (s t : State) : Prop where
  rest : t.lineRest = { s.lineRest with link := t.link.lineRest }
  event : ∀ i, s.fp.event.getLsbD i = true → t.fp.event.getLsbD i = true

theorem LineStep.fall {s t : State} (h : LineStep s t) : LineFall s t := by
  have link : t.link.lineRest = s.link.lineRest := congrArg State.link h.rest
  exact ⟨by rw [h.rest, link]; rfl, h.event⟩

/-- The link with a failure on record (R173). -/
def State.failedLink (s : State) (cause : Nat) (counted : Bool) : Link :=
  { s.link with
    trainLast := s.trainLast cause counted
    lastNegCause := if cause = 4 || cause = 5 then cause else 0
    cnt := { s.link.cnt with
      trainFails := if counted then inc 32 s.link.cnt.trainFails else s.link.cnt.trainFails
      trainAborts := if counted then s.link.cnt.trainAborts else inc 32 s.link.cnt.trainAborts } }

theorem LineStep.time {s t : State} (h : LineStep s t) : t.time = s.time := (congrArg State.time h.rest :)

namespace LineFall

theorem time {s t : State} (h : LineFall s t) : t.time = s.time := (congrArg State.time h.rest :)

theorem refl (s : State) : LineFall s s := ⟨rfl, fun _ h => h⟩

theorem trans {s t u : State} (a : LineFall s t) (b : LineFall t u) : LineFall s u :=
  ⟨by rw [b.rest, a.rest], fun i h => b.event i (a.event i h)⟩

theorem ite {s a b : State} {c : Prop} [Decidable c] (ha : LineFall s a) (hb : LineFall s b) : LineFall s (if c then a else b) := by
  split
  · exact ha
  · exact hb

variable (s : State)

theorem modLink (f : Link → Link) : LineFall s (s.modLink f) := ⟨rfl, fun _ h => h⟩

theorem modLinkCnt (f : LinkCounters → LinkCounters) : LineFall s (s.modLinkCnt f) := ⟨rfl, fun _ h => h⟩

theorem link (l : Link) : LineFall s { s with link := l } := ⟨rfl, fun _ h => h⟩

theorem recordFailure (cause : Nat) (counted quiet : Bool) : LineFall s (s.recordFailure cause counted quiet) := by
  have raised := (link s (s.failedLink cause counted)).trans (LineStep.raiseEvent _ evLink).fall
  exact ite raised (raised.trans (LineStep.logEntry _ _ _ _ _ _ _ _ _ _).fall)

theorem ladderStep (r : Rung) : LineFall s (s.ladderStep r) := by
  unfold State.ladderStep
  dsimp only
  refine ite (modLink s _) ?_
  refine LineFall.trans ?_ ((LineStep.logEntry _ _ _ _ _ _ _ _ _ _).trans (LineStep.raiseEvent _ _)).fall
  split
  · exact ite (modLink s _) (modLink s _)
  · exact modLink s _

theorem enter (n : Nat) : LineFall s (s.enter n) := modLink s _

theorem linkFail (cause : Nat) (retrain : Status) (silent : Bool) : LineFall s (s.linkFail cause retrain silent) := by
  have recorded := recordFailure s cause (s.causeCounts cause) (silent || ((cause = 4 || cause = 5) && s.link.lastNegCause = cause))
  have stepped := recorded.trans (ite (c := s.causeCounts cause = true) (ladderStep _ (s.link.mode.getD s.link.ladderPos)) (refl _))
  unfold State.linkFail
  dsimp only
  refine ite (refl s) (ite stepped (LineFall.trans ?_ (enter _ 2)))
  refine LineFall.trans ?_ (LineStep.lineDown _ _).fall
  exact ite (stepped.trans (modLinkCnt _ _)) stepped

theorem linkDown (cause : Nat) : LineFall s (s.linkDown cause) := by
  unfold State.linkDown
  exact ite (linkFail s _ _ _) (refl s)

theorem adminDown : LineFall s s.adminDown := by
  unfold State.adminDown
  dsimp only
  refine ite (refl s) ?_
  have ended := (LineStep.interruptDiagRun s).fall
  refine LineFall.trans ?_ (enter _ 0)
  have recorded := LineFall.trans (ite (c := s.interruptDiagRun.linkInData = true) (ended.trans (modLinkCnt _ (fun c => { c with
    linkDowns := inc 32 c.linkDowns }))) ended) (recordFailure _ 9 false false)
  exact ite (recorded.trans (LineStep.lineDown _ _).fall) recorded

theorem requestRetrain : LineFall s s.requestRetrain := by
  unfold State.requestRetrain
  refine ite (LineStep.askRetrain s).fall (ite ?_ (refl s))
  exact (LineStep.logEntry s _ _ _ _ _ _ _ _ _).fall.trans (linkFail _ _ _ _)

end LineFall

/-! ### The record of a failure -/

section
variable (s : State)

theorem recordFailure_link (cause : Nat) (counted quiet : Bool) : (s.recordFailure cause counted quiet).link = s.failedLink cause counted := by
  unfold State.recordFailure
  dsimp only
  split
  · rw [State.raiseEvent_link]
    rfl
  · simp only [State.logEntry_link, State.raiseEvent_link]
    rfl

/-- A step of the ladder writes the count and the position alone (R173, R179). -/
theorem ladderStep_link (r : Rung) : ∃ f c p d n, (s.ladderStep r).link = { s.link with
    failCount := f, countRung := c, ladderPos := p, lastStep := d, cnt := { s.link.cnt with stepDowns := n } } := by
  unfold State.ladderStep
  dsimp only
  by_cases few : (if s.link.countRung = r then s.link.failCount else 0) + 1 < 3
  · rw [if_pos few]
    exact ⟨_, _, _, _, _, rfl⟩
  · rw [if_neg few]
    simp only [State.raiseEvent_link, State.logEntry_link]
    split
    · split
      · exact ⟨_, _, _, _, _, rfl⟩
      · exact ⟨_, _, _, _, _, rfl⟩
    · exact ⟨_, _, _, _, _, rfl⟩

/-- A fall of the line leaves the link's record and its counters. -/
theorem lineDown_lineRest (retrain : Status) : (s.lineDown retrain).link.lineRest = s.link.lineRest := congrArg State.link (LineStep.lineDown s retrain).rest

theorem sendOam_link (typ : Nat) (body : List Byte) : (s.sendOam typ body).link = s.link := by
  unfold State.sendOam
  split <;> rfl

theorem finishDiag_link (st : Status) : ∃ n, (s.finishDiag st).link = { s.link with neg := n } := by
  unfold State.finishDiag
  split
  · exact ⟨s.link.neg, rfl⟩
  · next r _ =>
    have told : (if r.onShed then s.sendQuietReq s.kn.shed 0 1 else s).link = s.link := State.ite_keeps (π := State.link) (sendOam_link s _ _) rfl
    generalize (if r.onShed then s.sendQuietReq s.kn.shed 0 1 else s) = u at told
    dsimp only
    rw [State.endRun_link]
    have written : ∀ v : State, v.link = s.link → (if r.outAddr = 0 then v else v.writeLines r.outAddr 129 (v.traceBytes r)).link = s.link := fun v same =>
      State.ite_keeps (π := State.link) same ((writeLines_keeps State.link (fun _ _ _ => rfl) _ _ _ _).trans same)
    have w := written { u with diag := { u.diag with run := none, elapsed := min 65535 ((u.time - r.since) / 1000000) } } told
    generalize (if r.outAddr = 0 then _ else _ : State) = v at w
    split
    · exact ⟨{}, congrArg (fun l : Link => { l with neg := {} }) w⟩
    · exact ⟨s.link.neg, w⟩

theorem interruptDiagRun_link : ∃ n, s.interruptDiagRun.link = { s.link with neg := n } := by
  unfold State.interruptDiagRun State.endDiagTests
  split
  · exact ⟨s.link.neg, rfl⟩
  · exact finishDiag_link _ _

theorem openWaiting_link : s.openWaiting.link = s.link := by
  unfold State.openWaiting
  refine State.ite_keeps (π := State.link) rfl ?_
  split
  · exact State.finish_link _ _ _ _ _
  · rfl

theorem endShedDiag_link : ∃ n, s.endShedDiag.link = { s.link with neg := n } := by
  unfold State.endShedDiag
  rcases s.diag.run with _ | r
  · exact ⟨s.link.neg, rfl⟩
  · by_cases shed : r.onShed = true
    · rw [if_pos (by exact shed)]
      exact interruptDiagRun_link s
    · rw [if_neg (by exact shed)]
      exact ⟨s.link.neg, rfl⟩

/-- A fall of the line blanks the link's mode and what hangs on it, and keeps the rest. -/
theorem lineDown_link (retrain : Status) : ∃ n, (s.lineDown retrain).link = { s.link.lineRest with neg := n } := by
  rw [lineDown_eq, openWaiting_link]
  have kept : (s.lineEnds retrain).link.lineRest = s.link.lineRest := (congrArg State.link (LineStep.lineEnds s retrain).rest :)
  generalize s.lineEnds retrain = u at kept
  obtain ⟨n, ended⟩ := endShedDiag_link (u.lineBlank (s.link.mode.getD 0))
  refine ⟨n, ended.trans ?_⟩
  show ({ u.link.lineRest with neg := n } : Link) = { s.link.lineRest with neg := n }
  rw [kept]

/-- The link after a failure that finds it training or in data, or in a negotiation that does not come to a mode (R173, R174). -/
theorem linkFail_link {cause : Nat} {retrain : Status} {silent : Bool} (up : 3 ≤ s.link.state ∨ s.link.state = 1 ∧ (cause = 4 ∨ cause = 5)) :
    ∃ f c p d k n, (s.linkFail cause retrain silent).link = { (s.failedLink cause (s.causeCounts cause)).lineRest with
      state := 2, since := s.time, neg := n, failCount := f, countRung := c, ladderPos := p, lastStep := d
      cnt := { (s.failedLink cause (s.causeCounts cause)).cnt with
        stepDowns := k, linkDowns := if s.linkInData then inc 32 s.link.cnt.linkDowns else s.link.cnt.linkDowns } } ∧
      (s.causeCounts cause = false → f = s.link.failCount ∧ p = s.link.ladderPos) := by
  have recorded := recordFailure_link s cause (s.causeCounts cause) (silent || ((cause = 4 || cause = 5) && s.link.lastNegCause = cause))
  have fallen := LineFall.recordFailure s cause (s.causeCounts cause) (silent || ((cause = 4 || cause = 5) && s.link.lastNegCause = cause))
  unfold State.linkFail
  dsimp only
  rw [if_neg (by omega), if_neg (by simp; omega)]
  generalize s.recordFailure cause (s.causeCounts cause) (silent || ((cause = 4 || cause = 5) && s.link.lastNegCause = cause)) = u at recorded fallen
  obtain ⟨f, c, p, d, k, stepped, uncounted⟩ : ∃ f c p d k, (if s.causeCounts cause = true then u.ladderStep (s.link.mode.getD s.link.ladderPos) else u).link =
      { s.failedLink cause (s.causeCounts cause) with failCount := f, countRung := c, ladderPos := p, lastStep := d
                                                      cnt := { (s.failedLink cause (s.causeCounts cause)).cnt with stepDowns := k } } ∧
      (s.causeCounts cause = false → f = s.link.failCount ∧ p = s.link.ladderPos) := by
    split
    · next counts =>
      obtain ⟨f, c, p, d, k, stepped⟩ := ladderStep_link u (s.link.mode.getD s.link.ladderPos)
      rw [recorded] at stepped
      exact ⟨f, c, p, d, k, stepped, fun no => absurd counts (by simp [no])⟩
    · exact ⟨_, _, _, _, _, recorded, fun _ => ⟨rfl, rfl⟩⟩
  have kept := LineFall.ite (c := s.causeCounts cause = true) (fallen.trans (LineFall.ladderStep u (s.link.mode.getD s.link.ladderPos))) fallen
  generalize (if s.causeCounts cause = true then u.ladderStep (s.link.mode.getD s.link.ladderPos) else u) = v at stepped kept
  have time : v.time = s.time := kept.time
  split
  · next data =>
    obtain ⟨n, down⟩ := lineDown_link (v.modLinkCnt (fun c => { c with linkDowns := inc 32 c.linkDowns })) retrain
    refine ⟨f, c, p, d, k, n, ?_, uncounted⟩
    have now : ((v.modLinkCnt (fun c => { c with linkDowns := inc 32 c.linkDowns })).lineDown retrain).time = s.time := (LineStep.lineDown _ retrain).time.trans time
    unfold State.enter State.modLink
    dsimp only
    rw [down, now]
    unfold State.modLinkCnt
    dsimp only
    rw [stepped]
    simp [Link.lineRest, State.failedLink]
  · next data =>
    obtain ⟨n, down⟩ := lineDown_link v retrain
    refine ⟨f, c, p, d, k, n, ?_, uncounted⟩
    have now : (v.lineDown retrain).time = s.time := (LineStep.lineDown _ retrain).time.trans time
    unfold State.enter State.modLink
    dsimp only
    rw [down, now, stepped]
    simp [Link.lineRest, State.failedLink]

end

section
variable {s : State} {cause : Nat} {retrain : Status} {silent : Bool} (up : 3 ≤ s.link.state)
include up

/-- A link that fails is in the break, with its mode gone and the failure on record (R173). -/
theorem linkFail_down : (s.linkFail cause retrain silent).link.state = 2 ∧ (s.linkFail cause retrain silent).link.mode = none ∧
    (s.linkFail cause retrain silent).link.trainLast = s.trainLast cause (s.causeCounts cause) := by
  obtain ⟨f, c, p, d, k, n, link, -⟩ := linkFail_link s (cause := cause) (retrain := retrain) (silent := silent) (.inl up)
  rw [link]
  exact ⟨rfl, rfl, rfl⟩

theorem linkFail_counts : (s.linkFail cause retrain silent).link.cnt.linkDowns = (if s.linkInData then inc 32 s.link.cnt.linkDowns else s.link.cnt.linkDowns) ∧
    (s.linkFail cause retrain silent).link.cnt.frFails = s.link.cnt.frFails := by
  obtain ⟨f, c, p, d, k, n, link, -⟩ := linkFail_link s (cause := cause) (retrain := retrain) (silent := silent) (.inl up)
  rw [link]
  exact ⟨rfl, rfl⟩

end

end Sys2Proof.Machine
end

section
/-! PROOFS. The arbiters of the coefficient store. -/

namespace Sys2Proof.Machine

set_option Elab.async false

/-! ### A slot that is stopped -/

section
variable (s : State)

/-- A late block marks segments of its pair, or counts a drop of the shaper (R101). -/
theorem lateBlock_eq (task : Nat) (p : Pair) (a b : Nat) : s.lateBlock task p a b = { s with
    rx := (s.lateBlock task p a b).rx, lc := (s.lateBlock task p a b).lc
    eng := { s.eng with txThp := (s.lateBlock task p a b).eng.txThp, txFir := (s.lateBlock task p a b).eng.txFir } } := by
  have aside : ∀ (l : List Pair) (f : RxPair → RxPair) (u : State),
      l.foldl (fun st q => st.modRx q f) u = { u with rx := (l.foldl (fun st q => st.modRx q f) u).rx } := by
    intro l f
    induction l with
    | nil => exact fun _ => rfl
    | cons q l ih => exact fun u => ih _
  unfold State.lateBlock
  dsimp only
  split
  case h_4 =>
    rw [aside]
    rfl
  all_goals rfl

theorem lateSlot_eq (e i n : Nat) : s.lateSlot e i n = { s with
    rx := (s.lateSlot e i n).rx, lc := (s.lateSlot e i n).lc
    eng := { s.eng with txThp := (s.lateSlot e i n).eng.txThp, txFir := (s.lateSlot e i n).eng.txFir } } := by
  unfold State.lateSlot
  dsimp only
  split
  · rfl
  · exact lateBlock_eq _ _ _ _ _

theorem stopSlot_eq (e i n : Nat) : s.stopSlot e i n = { s with
    rx := (s.stopSlot e i n).rx, lc := (s.stopSlot e i n).lc
    eng := { s.eng with
      txThp := (s.stopSlot e i n).eng.txThp, txFir := (s.stopSlot e i n).eng.txFir
      waiting := (s.stopSlot e i n).eng.waiting, store := (s.stopSlot e i n).eng.store } } := by
  unfold State.stopSlot
  rw [lateSlot_eq]
  rfl

end

/-! ### The bank arbiters -/

section
variable (s : State)

theorem storeBank_of_store {α : Type} {l : List α} {f : α → StoreBank} {d : α} {b : Nat} (inside : b < l.length) :
    (l.map f).getD b {} = f (l.getD b d) := by
  simp [List.getD_eq_getElem?_getD, inside]

/-- The end of a cycle at a bank: a reservation is counted or ends, and a grant whose last line has moved is over (R140). -/
def StoreBank.closed (k : StoreBank) (lost : Bool) : StoreBank :=
  let k0 := if k.reserved.isSome then { k with reservedCyc := satAdd 32 k.reservedCyc 1 } else k
  let k1 := if lost then { k0 with reserved := none } else k0
  match k1.grant with
  | some y => if y.lines = 0 then { k1 with grant := none } else k1
  | none => k1

theorem closed_grant_of_lines {k : StoreBank} {g : Grant} (granted : k.grant = some g) (more : g.lines ≠ 0) : (k.closed false).grant = some g := by
  simp only [StoreBank.closed, Bool.false_eq_true, if_false]
  split
  · next h =>
    split at h <;> simp_all
  · next h => split at h <;> simp_all

theorem closed_grant_none {k : StoreBank} (idle : k.grant = none) : (k.closed false).grant = none := by
  simp only [StoreBank.closed, Bool.false_eq_true, if_false]
  split
  · next h => split at h <;> simp_all
  · next h => exact h

theorem closed_eq (k : StoreBank) : k.closed false = { k with grant := (k.closed false).grant, reservedCyc := (k.closed false).reservedCyc } := by
  simp only [StoreBank.closed, Bool.false_eq_true, if_false]
  split
  · split
    · split <;> rfl
    · split <;> rfl
  · split <;> rfl

/-- A bank with no request to judge grants nothing. -/
theorem round_idle {s : State} {free : Nat → Bool} {b : Nat} (none' : s.eligible b = []) : s.round free b = (s, []) := by
  unfold State.round
  rw [none']
  rfl

theorem rounds_idle {s : State} {free : Nat → Bool} (nobody : s.eng.waiting = []) (l : List Nat) : s.rounds free l = (s, []) := by
  induction l with
  | nil => rfl
  | cons b l ih =>
    have none' : s.eligible b = [] := by simp [State.eligible, nobody]
    unfold State.rounds
    split
    · simp only [round_idle none', ih, List.append_nil]
    · exact ih

/-- The cycle with its lines moved, its rounds held and its errors read, before the banks close. -/
theorem exec_storeGrant {s u : State} {c : StoreCycle} {free : Nat → Bool} (still : c.withdrawn = []) (clean : c.errors = [])
    (entered : c.asks.foldl (fun st a => st.enterRequest a) (s.modEng (fun g => { g with cycle := c.cycle })) = u)
    (frees : (fun b => ((u.eng.store.map (·.tick)).getD b ({}, false)).2) = free) {v : State}
    (rounds : (u.modEng (fun g => { g with store := (u.eng.store.map (·.tick)).map (·.1) })).rounds free (List.range 8) = (v, []))
    (unmarked : v.markedReads = v) :
    exec (.storeGrant c) s = .next (v.modEng (fun g => { g with
      cycle := c.cycle + 1, store := g.store.map (·.closed false), waiting := g.waiting.map (fun q => { q with wait := q.wait + 1 }) })) := by
  have lists : ∀ (l : List StoreBank) n, (l.zipIdx n).map (fun x => x.1.closed false) = l.map (·.closed false) := by
    intro l
    induction l with
    | nil => exact fun _ => rfl
    | cons k l ih => exact fun n => congrArg (k.closed false :: ·) (ih (n + 1))
  simp only [exec, execStoreGrant, still, clean, List.foldl_nil, entered, frees, rounds, unmarked, State.storeReads, List.contains_nil, Bool.false_eq_true, if_false]
  refine congrArg (fun l => Host.Outcome.next (v.modEng (fun g => { g with
    cycle := c.cycle + 1, store := l, waiting := g.waiting.map (fun q => { q with wait := q.wait + 1 }) }))) (lists v.eng.store 0)

theorem markedReads_of_unread {s : State} (unread : ∀ b x, (s.storeBank b).grant = some x → (x.who < 96 && !x.write && s.eng.marked.contains (b, x.line)) = false) :
    s.markedReads = s := by
  refine List.foldl_fixed' (fun b => ?_) _
  rcases held : (s.storeBank b).grant with _ | x
  · rfl
  · exact if_neg (by rw [unread b x held]; simp)

end

/-- A bank at the start of a cycle (R140, R141). -/
theorem tick_dead {k : StoreBank} (dead : k.dead = true) : k.tick = ({ k with dead := false, deadCyc := satAdd 32 k.deadCyc 1 }, false) := by
  simp only [StoreBank.tick, dead, if_true]

theorem tick_moves {k : StoreBank} {x : Grant} (alive : k.dead = false) (granted : k.grant = some x) (young : x.held < 64) :
    k.tick = ({ k with grant := some { x with lines := x.lines - 1, line := x.line + 1, held := x.held + 1 }, granted := k.granted + 1 }, false) := by
  simp only [StoreBank.tick, alive, granted, Bool.false_eq_true, if_false, Nat.not_le.mpr young]

theorem tick_idle {k : StoreBank} (alive : k.dead = false) (idle : k.grant = none) : k.tick = (k, k.reserved.isNone) := by
  simp only [StoreBank.tick, alive, idle, Bool.false_eq_true, if_false]

theorem tick_eq (k : StoreBank) : k.tick.1 = { k with dead := k.tick.1.dead, deadCyc := k.tick.1.deadCyc, grant := k.tick.1.grant, granted := k.tick.1.granted } := by
  unfold StoreBank.tick
  split
  · rfl
  · split
    · split <;> rfl
    · rfl

/-- A cycle in which nobody asks (R140, R141). -/
theorem storeGrant_quiet {s : State} {c : StoreCycle} (asks : c.asks = []) (still : c.withdrawn = []) (clean : c.errors = []) (nobody : s.eng.waiting = [])
    (unmarked : s.eng.marked = []) :
    exec (.storeGrant c) s = .next { s with eng := { s.eng with
      cycle := c.cycle + 1, store := ((s.eng.store.map (·.tick)).map (·.1)).map (·.closed false), waiting := [] } } := by
  refine (exec_storeGrant still clean (by rw [asks]) rfl (rounds_idle (by exact nobody) _) ?_).trans ?_
  · exact markedReads_of_unread fun b x _ => by
      show (x.who < 96 && !x.write && s.eng.marked.contains (b, x.line)) = false
      simp [unmarked]
  · exact congrArg (fun l : List StoreReq => Host.Outcome.next { s with eng := { s.eng with
      cycle := c.cycle + 1, store := ((s.eng.store.map StoreBank.tick).map Prod.fst).map (fun k : StoreBank => k.closed false), waiting := l.map (fun q : StoreReq => { q with wait := q.wait + 1 }) } }) nobody

/-! ### A lone request -/

section
variable {s : State} {b : Nat} {a : StoreAsk}

/-- The request that an ask for one bank enters. -/
def State.requestOf (s : State) (a : StoreAsk) : StoreReq :=
  { who := a.who, slot := a.slot, banks := a.banks, lines := a.lines, line := a.line, write := a.write, done := a.done, base := s.storeBase a.who a.slot }

theorem popCount_bank : ∀ b < 8, popCount 8 (BitVec.twoPow 8 b).toNat = 1 := by decide

theorem or_bank {b v : Nat} (small : b < 8) (has : v.testBit b = true) : (BitVec.twoPow 8 b).toNat ||| v = v := by
  have value : (BitVec.twoPow 8 b).toNat = 2 ^ b := by
    rw [BitVec.toNat_twoPow, Nat.mod_eq_of_lt (Nat.pow_lt_pow_right (by decide) small)]
  rw [value]
  refine Nat.eq_of_testBit_eq fun i => ?_
  by_cases here : i = b
  · subst here
    simp [has]
  · simp [Nat.testBit_or, Ne.symm here]

/-- A requester that may ask for a free bank waits for it (R131, R143). -/
theorem enterRequest_lone (small : b < 8) (store : ∀ k ∈ s.eng.store, k.grant = none) (nobody : s.eng.waiting = []) (bank : a.banks = BitVec.twoPow 8 b)
    (lines : a.lines ≠ 0) (may : a.who = 96 ∨ a.who = 98 ∨ (a.who = 97 ∧ s.fuse.part.diag = true) ∨
      (a.who < 96 ∧ a.who < s.fuse.part.engines ∧ (s.engine a.who).retired = false ∧ a.slot < 16 ∧
        slotTask (sget 0 s.eng.active (16 * a.who + a.slot)) ≠ 0 ∧ (slotBanks (sget 0 s.eng.active (16 * a.who + a.slot))).testBit b = true)) :
    s.enterRequest a = s.modEng (fun g => { g with waiting := [s.requestOf a] }) := by
  have one : popCount 8 a.banks.toNat = 1 := by rw [bank]; exact popCount_bank b small
  have entered : s.modEng (fun g => { g with waiting := g.waiting ++ [s.requestOf a] }) = s.modEng (fun g => { g with waiting := [s.requestOf a] }) :=
    congrArg (fun l => s.modEng (fun g => { g with waiting := l ++ [s.requestOf a] })) nobody
  unfold State.enterRequest
  dsimp only
  rw [one, nobody, List.any_nil, Bool.false_or]
  refine (if_neg fun refused => ?_).trans ((if_neg ?_).trans ((if_neg ?_).trans entered))
  · simp only [Bool.or_eq_true, decide_eq_true_eq, Bool.and_eq_true, Bool.not_eq_true'] at refused
    rcases refused with ((((none' | many) | empty) | large) | absent) | busy
    · omega
    · omega
    · exact lines empty
    · omega
    · obtain ⟨diag, missing⟩ := absent
      rcases may with h | h | ⟨-, present⟩ | ⟨h, -⟩
      · omega
      · omega
      · exact Bool.false_ne_true (missing.symm.trans present)
      · omega
    · obtain ⟨k, mem, held⟩ := List.any_eq_true.mp busy
      rw [store k mem] at held
      exact Bool.false_ne_true held
  · rcases may with h | h | ⟨h, diag⟩ | ⟨h, part, kept, slot, task, -⟩
    · simp [h]
    · simp [h]
    · simp [h]
    · have present : ¬ s.fuse.part.engines ≤ a.who := by omega
      have within : ¬ 16 ≤ a.slot := by omega
      simp [h, present, within, kept]
      exact task
  · rw [Bool.not_eq_true', decide_eq_false_iff_not, not_not]
    intro engine
    rcases may with h | h | ⟨h, -⟩ | ⟨-, -, -, -, -, has⟩
    · omega
    · omega
    · omega
    · exact ⟨by rw [bank]; exact or_bank small has, fun two => absurd two (by decide)⟩

theorem names_bank {j : Nat} (small : b < 8) (bank : a.banks = BitVec.twoPow 8 b) : (s.requestOf a).names j = decide (j = b) := by
  show a.banks.getLsbD j = _
  rw [bank, BitVec.getLsbD_twoPow]
  by_cases here : b = j
  · subst here
    simp [small]
  · simp [here, Ne.symm here]

theorem other_bank (small : b < 8) (bank : a.banks = BitVec.twoPow 8 b) : (s.requestOf a).other b = none := by
  unfold StoreReq.other StoreReq.list
  rw [List.find?_eq_none]
  intro j mem
  have named := (List.mem_filter.mp mem).2
  rw [names_bank small bank, decide_eq_true_eq] at named
  simp [named]

end

section
variable {s : State} {q : StoreReq} {b : Nat} {free : Nat → Bool} (waits : s.eng.waiting = [q]) (names : ∀ j, q.names j = decide (j = b))
  (other : q.other b = none)
include waits names

/-- A bank that nobody asks for judges nobody. -/
theorem eligible_elsewhere {j : Nat} (elsewhere : j ≠ b) : s.eligible j = [] := by simp [State.eligible, waits, names, elsewhere]

include other

theorem eligible_there : s.eligible b = [q] := by
  have named : q.names b = true := by simp [names]
  unfold State.eligible
  rw [waits, List.filter_cons, named, other]
  rfl

/-- The state in which a lone request has its bank (R140). -/
def State.grantedAt (s : State) (b : Nat) (q : StoreReq) : State :=
  ((s.modBank b (fun k => { k with pointer := (q.who + 1) % 99 })).modBank b (·.give q false s.eng.period)).granted q

/-- A lone request wins its bank's round. -/
theorem round_lone : s.round free b = (s.grantedAt b q, []) := by
  unfold State.round
  rw [eligible_there waits names other]
  have winner : (s.storeBank b).winner [q] = some q := rfl
  have unaged : ∀ k : StoreBank, k.age [q] q.who = k := fun k => if_pos (by simp)
  simp only [winner, other, unaged, List.flatMap_cons, List.flatMap_nil, List.append_nil]
  rfl

omit names other in
theorem waiting_grantedAt : (s.grantedAt b q).eng.waiting = [] := by
  have gone : ∀ u : State, u.eng.waiting = [q] → (u.granted q).eng.waiting = [] := by
    intro u same
    have left : (u.modEng (fun g => { g with waiting := g.waiting.filter (fun r => r.who ≠ q.who) })).eng.waiting = [] := by
      show u.eng.waiting.filter (fun r => r.who ≠ q.who) = []
      simp [same]
    exact State.ite_keeps (π := fun t => t.eng.waiting) left left
  exact gone _ waits

/-- A lone request is granted in the rounds of a cycle that come to its bank, and nobody else is (R140). -/
theorem rounds_lone (open' : free b = true) (idle : (s.storeBank b).grant = none) (unreserved : (s.storeBank b).reserved = none) (l : List Nat) (mem : b ∈ l) :
    s.rounds free l = (s.grantedAt b q, []) := by
  induction l with
  | nil => cases mem
  | cons j l ih =>
    by_cases here : j = b
    · subst here
      unfold State.rounds
      rw [if_pos (by simp [open', idle, unreserved])]
      simp only [round_lone waits names other, rounds_idle (waiting_grantedAt waits), List.append_nil]
    · have later := ih (List.mem_of_ne_of_mem (Ne.symm here) mem)
      unfold State.rounds
      split
      · simp only [round_idle (eligible_elsewhere waits names here), later, List.append_nil]
      · exact later

end

/-- The banks after a lone request has its own. -/
theorem store_grantedAt (s : State) (b : Nat) (q : StoreReq) :
    (s.grantedAt b q).eng.store = modAt (modAt s.eng.store b (fun k => { k with pointer := (q.who + 1) % 99 })) b (·.give q false s.eng.period) := by
  have kept : ∀ u : State, (u.granted q).eng.store = u.eng.store := fun u => State.ite_keeps (π := fun t => t.eng.store) rfl rfl
  exact kept _

theorem marked_grantedAt (s : State) (b : Nat) (q : StoreReq) : (s.grantedAt b q).eng.marked = s.eng.marked := by
  have kept : ∀ u : State, (u.granted q).eng.marked = u.eng.marked := fun u => State.ite_keeps (π := fun t => t.eng.marked) rfl rfl
  exact kept _

theorem grantedAt_eq (s : State) (b : Nat) (q : StoreReq) : s.grantedAt b q = { s with eng := (s.grantedAt b q).eng } := by
  have kept : ∀ u : State, u.granted q = { u with eng := (u.granted q).eng } := by
    intro u
    unfold State.granted
    dsimp only
    split <;> rfl
  unfold State.grantedAt
  rw [kept]
  rfl

theorem modAt_getD {α : Type} (l : List α) (i j : Nat) (f : α → α) (d : α) (inside : i < l.length) :
    (modAt l i f).getD j d = if j = i then f (l.getD i d) else l.getD j d := by
  simp only [modAt, List.getD_eq_getElem?_getD, List.getElem?_modify]
  by_cases same : i = j
  · subst same
    simp [inside]
  · simp [same, Ne.symm same]

/-- The engines' unit of a cycle in which one request waits and every bank is free. -/
def State.asked (s : State) (cycle : Nat) (q : StoreReq) : State :=
  s.modEng (fun g => { g with cycle := cycle, store := List.replicate 8 {}, waiting := [q] })

theorem bank_asked_granted (s : State) (cycle b : Nat) (q : StoreReq) (small : b < 8) (j : Nat) :
    ((s.asked cycle q).grantedAt b q).storeBank j = if j = b then ({ ({} : StoreBank) with pointer := (q.who + 1) % 99 }).give q false s.eng.period else {} := by
  have free : ∀ k, (List.replicate 8 ({} : StoreBank)).getD k {} = {} := fun k => by
    rw [List.getD_eq_getElem?_getD, List.getElem?_replicate]
    split <;> rfl
  unfold State.storeBank
  rw [store_grantedAt]
  show (modAt (modAt (List.replicate 8 ({} : StoreBank)) b _) b (·.give q false s.eng.period)).getD j {} = _
  rw [modAt_getD _ _ _ _ _ (by simpa [modAt] using small)]
  split
  · rw [modAt_getD _ _ _ _ _ (by simpa using small), if_pos rfl, free]
  · next other => rw [modAt_getD _ _ _ _ _ (by simpa using small), if_neg other, free]

/-- The end of a cycle in which nobody is left waiting: every bank closes it. -/
def State.endCycle (s : State) (cycle : Nat) : State :=
  s.modEng (fun g => { g with cycle := cycle + 1, store := g.store.map (fun k : StoreBank => k.closed false), waiting := [] })

theorem bank_endCycle {s : State} {b : Nat} (inside : b < s.eng.store.length) (n : Nat) : (s.endCycle n).storeBank b = (s.storeBank b).closed false :=
  storeBank_of_store inside

/-- The cycle of a lone request that its requester may make for a free bank (R140, R143). -/
theorem storeGrant_lone {s : State} {c : StoreCycle} {b : Nat} {a : StoreAsk} (small : b < 8) (store : s.eng.store = List.replicate 8 {})
    (nobody : s.eng.waiting = []) (still : c.withdrawn = []) (clean : c.errors = []) (asks : c.asks = [a]) (bank : a.banks = BitVec.twoPow 8 b)
    (lines : a.lines ≠ 0)
    (may : a.who = 96 ∨ a.who = 98 ∨ (a.who = 97 ∧ s.fuse.part.diag = true) ∨
      (a.who < 96 ∧ a.who < s.fuse.part.engines ∧ (s.engine a.who).retired = false ∧ a.slot < 16 ∧
        slotTask (sget 0 s.eng.active (16 * a.who + a.slot)) ≠ 0 ∧ (slotBanks (sget 0 s.eng.active (16 * a.who + a.slot))).testBit b = true))
    (unmarked : a.who < 96 → a.write = true ∨ s.eng.marked.contains (b, a.line) = false) :
    exec (.storeGrant c) s = .next (((s.asked c.cycle (s.requestOf a)).grantedAt b (s.requestOf a)).endCycle c.cycle) := by
  have entered : c.asks.foldl (fun st a => st.enterRequest a) (s.modEng (fun g => { g with cycle := c.cycle })) =
      (s.modEng (fun g => { g with cycle := c.cycle })).modEng (fun g => { g with waiting := [s.requestOf a] }) := by
    rw [asks]
    refine enterRequest_lone (s := s.modEng (fun g => { g with cycle := c.cycle })) small (fun k mem => ?_) nobody bank lines may
    have mem' : k ∈ s.eng.store := mem
    rw [store] at mem'
    rw [List.eq_of_mem_replicate mem']
  have ticked : s.eng.store.map (·.tick) = List.replicate 8 (({}, true) : StoreBank × Bool) := by
    rw [store, List.map_replicate]
    rfl
  have kept : (s.eng.store.map (·.tick)).map (·.1) = List.replicate 8 ({} : StoreBank) := by rw [ticked, List.map_replicate]
  have open' : ((s.eng.store.map (·.tick)).getD b ({}, false)).2 = true := by
    rw [ticked, List.getD_eq_getElem?_getD, List.getElem?_replicate, if_pos small]
    rfl
  have begun : ((s.modEng (fun g => { g with cycle := c.cycle })).modEng (fun g => { g with waiting := [s.requestOf a] })).modEng
      (fun g => { g with store := (s.eng.store.map (·.tick)).map (·.1) }) = s.asked c.cycle (s.requestOf a) := by
    rw [kept]
    rfl
  have fresh : (s.asked c.cycle (s.requestOf a)).storeBank b = {} := by
    show (List.replicate 8 ({} : StoreBank)).getD b {} = {}
    rw [List.getD_eq_getElem?_getD, List.getElem?_replicate, if_pos small]
    rfl
  have rounds := rounds_lone (s := s.asked c.cycle (s.requestOf a)) (free := fun j => ((s.eng.store.map (·.tick)).getD j ({}, false)).2) rfl
    (fun j => names_bank small bank) (other_bank small bank) open' (by rw [fresh]) (by rw [fresh]) (List.range 8) (List.mem_range.mpr small)
  rw [← begun] at rounds
  refine (exec_storeGrant still clean entered rfl rounds ?_).trans ?_
  · rw [begun]
    refine markedReads_of_unread fun j x held => ?_
    rw [bank_asked_granted s c.cycle b _ small] at held
    rw [marked_grantedAt]
    split at held
    · next here =>
      subst here
      obtain rfl := Option.some.inj held
      show (decide (a.who < 96) && !a.write && s.eng.marked.contains (j, a.line)) = false
      by_cases engine : a.who < 96
      · rcases unmarked engine with wr | clear
        · simp [wr]
        · rw [clear]
          simp
      · simp [engine]
    · cases held
  · rw [begun]
    refine congrArg (fun l : List StoreReq => Host.Outcome.next (((s.asked c.cycle (s.requestOf a)).grantedAt b (s.requestOf a)).modEng (fun g => { g with
      cycle := c.cycle + 1, store := g.store.map (fun k : StoreBank => k.closed false)
      waiting := l.map (fun q : StoreReq => { q with wait := q.wait + 1 }) }))) (waiting_grantedAt rfl)

/-! ### Cut-off and scrub -/

section
variable {b : Nat}

/-- A bank without a grant, after a change of every bank that gives none and counts no overhold. -/
theorem bank_mapped {l : List StoreBank} {f : StoreBank → StoreBank} (kept : ∀ k, k.grant = none → (f k).grant = none ∧ (f k).overholds = k.overholds)
    (idle : (l.getD b {}).grant = none) : ((l.map f).getD b {}).grant = none ∧ ((l.map f).getD b {}).overholds = (l.getD b {}).overholds := by
  by_cases inside : b < l.length
  · rw [storeBank_of_store inside]
    exact kept _ idle
  · have out : ∀ m : List StoreBank, m.length = l.length → m.getD b {} = {} := fun m same => by
      simp [List.getD_eq_getElem?_getD, same, Nat.not_lt.mp inside]
    rw [out _ (List.length_map f), out l rfl]
    exact ⟨rfl, rfl⟩

theorem stopSlot_bank {s : State} (idle : (s.storeBank b).grant = none) (e i n : Nat) :
    ((s.stopSlot e i n).storeBank b).grant = none ∧ ((s.stopSlot e i n).storeBank b).overholds = (s.storeBank b).overholds := by
  have late : ∀ u : State, (u.lateSlot e i n).storeBank b = u.storeBank b := fun u =>
    (congrArg (fun t : State => t.eng.store.getD b {}) (lateSlot_eq u e i n) :)
  unfold State.stopSlot
  rw [late]
  have waiting : ((s.withdrawWaiting e).storeBank b).grant = none ∧ ((s.withdrawWaiting e).storeBank b).overholds = (s.storeBank b).overholds := by
    unfold State.withdrawWaiting State.storeBank State.modEng
    dsimp only
    split
    · exact bank_mapped (fun k none => ⟨none, rfl⟩) idle
    · exact ⟨idle, rfl⟩
  obtain ⟨none', count⟩ := bank_mapped (l := (s.withdrawWaiting e).eng.store) (b := b) (f := fun k => match k.grant with
    | some x => if x.who = e then { k with grant := none, dead := true } else k
    | none => k) (fun k none => by rw [none]; exact ⟨none, rfl⟩) waiting.1
  exact ⟨none', count.trans waiting.2⟩

/-- The state with every bank that a requester holds cut off, and the cut-off on record (R142). -/
def State.cutOff (s : State) (b who : Nat) : State :=
  ((s.modEng (fun g => { g with
    store := g.store.map (fun k => match k.grant with
      | some y => if y.who = who then { k with grant := none, overholds := inc 16 k.overholds } else k
      | none => k)
    ovhReq := who, ovhBank := b, ovhCycle := g.cycle % 65536, ovhPeriod := g.period % 2 ^ 32 })).logEntry unitEngines 3 kindFault 1 0x05 who 0 b).raiseEvent evEngines

theorem cutOff_eng (s : State) (b who : Nat) : (s.cutOff b who).eng = { s.eng with
    store := s.eng.store.map (fun k => match k.grant with
      | some y => if y.who = who then { k with grant := none, overholds := inc 16 k.overholds } else k
      | none => k)
    ovhReq := who, ovhBank := b, ovhCycle := s.eng.cycle % 65536, ovhPeriod := s.eng.period % 2 ^ 32 } := by
  unfold State.cutOff
  simp only [State.raiseEvent_eng, State.logEntry_eng]
  rfl

theorem cutOff_link (s : State) (b who : Nat) : (s.cutOff b who).link = s.link := by
  unfold State.cutOff
  simp only [State.raiseEvent_link, State.logEntry_link]
  rfl

theorem grant_inside {s : State} {x : Grant} (held : (s.storeBank b).grant = some x) : b < s.eng.store.length := by
  by_contra out
  have absent : s.storeBank b = {} := by simp [State.storeBank, List.getD_eq_getElem?_getD, Nat.not_lt.mp out]
  rw [absent] at held
  cases held

theorem cutOff_bank {s : State} {x : Grant} (held : (s.storeBank b).grant = some x) :
    ((s.cutOff b x.who).storeBank b).grant = none ∧ ((s.cutOff b x.who).storeBank b).overholds = inc 16 (s.storeBank b).overholds := by
  unfold State.storeBank at held ⊢
  rw [cutOff_eng]
  dsimp only
  rw [storeBank_of_store (grant_inside (s := s) held), held]
  simp

theorem repairCause_link (s : State) (e cause : Nat) (auto : Bool) : (s.repairCause e cause auto).link = s.link := by
  have told : ∀ (u : State) (a b c d f g : Nat), ((u.logEntry a b c d f g).raiseEvent evEngines).link = u.link := fun u a b c d f g => by
    simp only [State.raiseEvent_link, State.logEntry_link]
  unfold State.repairCause
  exact State.ite_keeps (π := State.link) rfl (State.ite_keeps (π := State.link) (told _ _ _ _ _ _ _)
    (State.ite_keeps (π := State.link) (told _ _ _ _ _ _ _) rfl))

/-- What a cut-off of a bank leaves on record (R142). -/
def State.CutFrom (s : State) (b who : Nat) (t : State) : Prop :=
  (t.storeBank b).grant = none ∧ (t.storeBank b).overholds = inc 16 (s.storeBank b).overholds ∧
    t.eng.ovhReq = who ∧ t.eng.ovhBank = b ∧ t.eng.ovhPeriod = s.eng.period % 2 ^ 32 ∧ t.fp.event.getLsbD evEngines = true ∧ t.link = s.link

/-- A grant that has held its bank for 64 cycles is cut off and recorded (R142). -/
theorem exec_overholdCutoff {s : State} {x : Grant} (held : (s.storeBank b).grant = some x) (old : 64 ≤ x.held) (lines : x.lines ≠ 0) :
    ∃ t : State, exec (.overholdCutoff b) s = .next t ∧ s.CutFrom b x.who t := by
  obtain ⟨none', count⟩ := cutOff_bank held
  have eng := cutOff_eng s b x.who
  have cut : s.CutFrom b x.who (s.cutOff b x.who) := ⟨none', count, by rw [eng], by rw [eng], by rw [eng], raiseEvent_flag rfl (by decide), cutOff_link s b x.who⟩
  have stopped : ∀ (f : Engine → Engine), s.CutFrom b x.who (((s.cutOff b x.who).modEngine x.who f).stopSlot x.who x.slot x.done) := by
    intro f
    obtain ⟨-, -, req, bank, period, event, link⟩ := cut
    obtain ⟨none'', count'⟩ := stopSlot_bank (s := (s.cutOff b x.who).modEngine x.who f) none' x.who x.slot x.done
    refine ⟨none'', count'.trans count, ?_⟩
    rw [stopSlot_eq]
    exact ⟨req, bank, period, event, link⟩
  have repaired : ∀ u : State, s.CutFrom b x.who u → s.CutFrom b x.who (u.repairCause x.who 1 true) := by
    rintro u ⟨none'', count', req, bank, period, event, link⟩
    have step := LineStep.repairCause u x.who 1 true
    have store : (u.repairCause x.who 1 true).eng.store = u.eng.store := (congrArg (fun t : State => t.eng.store) step.rest :)
    refine ⟨?_, ?_, (congrArg (fun t : State => t.eng.ovhReq) step.rest :).trans req, (congrArg (fun t : State => t.eng.ovhBank) step.rest :).trans bank,
      (congrArg (fun t : State => t.eng.ovhPeriod) step.rest :).trans period, step.event _ event, (repairCause_link _ _ _ _).trans link⟩
    · unfold State.storeBank at none'' ⊢
      rw [store]
      exact none''
    · unfold State.storeBank at count' ⊢
      rw [store]
      exact count'
  have refused : (decide (x.held < 64) || decide (x.lines = 0)) = false := by simp [lines, old]
  simp only [exec, execOverholdCutoff, held, refused, Bool.false_eq_true, if_false]
  refine ⟨_, rfl, ?_⟩
  change s.CutFrom b x.who (if x.who < 96 then _ else s.cutOff b x.who)
  split
  · split
    · exact repaired _ (stopped _)
    · exact stopped _
  · exact cut

end

theorem storeBank_modBank {s : State} {b : Nat} {f : StoreBank → StoreBank} (inside : b < s.eng.store.length) (j : Nat) :
    (s.modBank b f).storeBank j = if j = b then f (s.storeBank b) else s.storeBank j := modAt_getD _ _ _ _ _ inside

/-- An uncorrectable error marks its line (R145), whatever the retrain that it asks for ends in. -/
theorem storeError_marks {s : State} {b line : Nat} (inside : b < s.eng.store.length) :
    ((s.storeError b line none).storeBank b).ue = inc 16 (s.storeBank b).ue ∧ (b, line) ∈ (s.storeError b line none).eng.marked := by
  let u := (s.modBank b (fun k => { k with ue := inc 16 k.ue })).modEng (fun g => { g with
    marked := if g.marked.contains (b, line) then g.marked else (b, line) :: g.marked })
  have step := LineFall.requestRetrain u
  have store : (s.storeError b line none).eng.store = u.eng.store := (congrArg (fun t : State => t.eng.store) step.rest :)
  have marked : (s.storeError b line none).eng.marked = u.eng.marked := (congrArg (fun t : State => t.eng.marked) step.rest :)
  constructor
  · unfold State.storeBank
    rw [store]
    have bank := storeBank_modBank (f := fun k => { k with ue := inc 16 k.ue }) inside b
    rw [if_pos rfl] at bank
    exact congrArg StoreBank.ue bank
  · rw [marked]
    show (b, line) ∈ if s.eng.marked.contains (b, line) then s.eng.marked else (b, line) :: s.eng.marked
    split
    · next listed => exact List.contains_iff_mem.mp listed
    · exact List.mem_cons_self

theorem getD_quiet {l : List StoreBank} {b : Nat} (inside : b < l.length) :
    (((l.map (·.tick)).map (·.1)).map (fun k : StoreBank => k.closed false)).getD b {} = (l.getD b {}).tick.1.closed false := by
  rw [List.map_map, List.map_map]
  exact storeBank_of_store inside

/-- A bank over a cycle in which nobody asks (R140, R141). -/
theorem quietBank (k : StoreBank) :
    (k.dead = true → (k.tick.1.closed false).dead = false ∧ (k.tick.1.closed false).deadCyc = satAdd 32 k.deadCyc 1) ∧
    (∀ x, k.dead = false → k.grant = some x → x.held < 64 → 1 < x.lines →
      (k.tick.1.closed false).grant = some { x with lines := x.lines - 1, line := x.line + 1, held := x.held + 1 }) ∧
    (k.dead = false → k.grant = none → (k.tick.1.closed false).grant = none) ∧
    (k.tick.1.closed false).grants = k.grants ∧ (k.tick.1.closed false).pointer = k.pointer := by
  refine ⟨fun dead => ?_, fun x alive granted young lines => ?_, fun alive idle => ?_, ?_, ?_⟩
  · rw [tick_dead dead, closed_eq]
    exact ⟨rfl, rfl⟩
  · rw [tick_moves alive granted young]
    exact closed_grant_of_lines rfl (by show x.lines - 1 ≠ 0; omega)
  · rw [tick_idle alive idle]
    exact closed_grant_none idle
  · rw [closed_eq, tick_eq]
  · rw [closed_eq, tick_eq]

/-- Settles O39: a quiet cycle and a lone request by the rounds' lemmas, the cut-off by what each of its steps leaves of the record, the scrub by its bank. -/
theorem storeArbitrationHolds : Obligations.StoreArbitrationHolds := by
  refine ⟨fun s c asks still clean nobody unmarked => ?_, fun s c b a small store nobody still clean asks bank lines may => ?_,
    fun s b x => exec_overholdCutoff, fun s b line up small inside => ⟨?_, ?_⟩⟩
  · refine ⟨_, storeGrant_quiet asks still clean nobody unmarked, rfl, rfl, fun b inside => ?_, rfl⟩
    simp only [State.storeBank, getD_quiet inside]
    exact quietBank _
  · have granted := storeGrant_lone small store nobody still clean asks bank (by omega)
      (may.imp_right (Or.imp_right (Or.imp_right fun ⟨e, part, kept, slot, task, has, _⟩ => ⟨e, part, kept, slot, task, has⟩)))
      (fun engine => by
        rcases may with h | h | ⟨h, -⟩ | ⟨-, -, -, -, -, -, clear⟩
        · omega
        · omega
        · omega
        · exact clear)
    have banks := bank_asked_granted s c.cycle b (s.requestOf a) small
    have length : ((s.asked c.cycle (s.requestOf a)).grantedAt b (s.requestOf a)).eng.store.length = 8 := by
      rw [store_grantedAt]
      simp [modAt, State.asked, State.modEng]
    have inside : b < ((s.asked c.cycle (s.requestOf a)).grantedAt b (s.requestOf a)).eng.store.length := by rw [length]; exact small
    have there := banks b
    rw [if_pos rfl] at there
    refine ⟨_, granted, ?_, ?_, ?_, rfl, fun j other => ?_, ?_⟩
    · rw [bank_endCycle inside]
      refine closed_grant_of_lines (congrArg StoreBank.grant there) ?_
      show a.lines - 1 ≠ 0
      omega
    · rw [bank_endCycle inside, closed_eq]
      exact congrArg StoreBank.pointer there
    · rw [bank_endCycle inside, closed_eq]
      exact congrArg StoreBank.grants there
    · have away := banks j
      rw [if_neg other] at away
      exact (bank_mapped (f := fun k : StoreBank => k.closed false) (fun k none => ⟨closed_grant_none none, by rw [closed_eq]⟩)
        (congrArg StoreBank.grant away)).1
    · rw [grantedAt_eq]
      rfl
  · have run : exec (.storeScrub [(b, line, false)]) s = .next (s.modBank b (fun k => { k with ce := inc 16 k.ce })) := by
      have here : ¬ 8 ≤ b := by omega
      simp only [exec, execStoreScrub, up, Bool.not_true, Bool.false_eq_true, if_false, List.foldl_cons, List.foldl_nil, here]
    have banks := storeBank_modBank (f := fun k => { k with ce := inc 16 k.ce }) inside
    refine ⟨_, run, ?_, fun j other => (banks j).trans (if_neg other), rfl⟩
    rw [banks b, if_pos rfl]
  · have run : exec (.storeScrub [(b, line, true)]) s = .next (s.storeError b line none) := by
      have here : ¬ 8 ≤ b := by omega
      simp only [exec, execStoreScrub, up, Bool.not_true, Bool.false_eq_true, if_false, if_true, List.foldl_cons, List.foldl_nil, here]
    exact ⟨_, run, storeError_marks inside⟩

end Sys2Proof.Machine
end

section
/-! PROOFS. Repairs and the program swap. -/

namespace Sys2Proof.Machine

set_option Elab.async false

/-! ### Repair -/

section
variable {s : State}

/-- An engine that is idle and healthy runs nothing. -/
theorem runsTask_of_idle {k : Nat} (idle : s.engineState k = 2) (task : Nat) : s.runsTask k task = false := by
  have none' : s.hasSlots k = false := by
    unfold State.engineState at idle
    dsimp only at idle
    by_contra has
    rw [Bool.not_eq_false] at has
    repeat' split at idle
    all_goals simp_all
  unfold State.runsTask
  unfold State.hasSlots at none'
  rw [of_decide_eq_false none' |> not_not.mp]
  rfl

theorem clearSpare_of_idle {k : Nat} (idle : s.engineState k = 2) : s.clearSpare k = s := by
  unfold State.clearSpare
  rw [runsTask_of_idle idle, runsTask_of_idle idle, idle]
  rfl

/-- The oldest cause is taken up with an idle spare, which is loaded (R147). -/
theorem exec_repairStart {e cause k : Nat} {rest : List (Nat × Nat)} (queue : s.eng.repairQueue = (e, cause) :: rest) (up : s.ben.up = true)
    (free : s.eng.repair = none) (has : s.hasSlots e = true) (inQ : s.inQuiet = false) (txQ : s.txQuiet = false) (spare : s.spareFor e = some k)
    (idle : s.engineState k = 2) :
    exec .repairStart s = .next (((s.modEng (fun g => { g with repairQueue := rest })).modEngine k (fun x => { x with loading := true })).modEng
      (fun g => { g with repair := some { failed := e, spare := k, cause := cause } })) := by
  have idle' : (s.modEng (fun g => { g with repairQueue := rest })).engineState k = 2 := idle
  simp only [exec, execRepairStart, queue, up, free, has, inQ, txQ, spare, Option.isSome_none, Bool.not_true, Bool.or_self, Bool.false_eq_true, if_false,
    clearSpare_of_idle idle']

section
variable {r : Repair} (running : s.eng.repair = some r) (uncommitted : r.committed = false)
include running uncommitted

/-- A spare whose read-back is bad is retired, and its cause goes back in front (R148). -/
theorem exec_repairLoadDone_bad : exec (.repairLoadDone false) s = .next
    (((s.modEngine r.spare (fun x => { x with loading := false, retired := x.retired || true })).logEntry unitEngines 2 kindRepair r.cause 0x02 r.spare 0 r.cause).modEng
      (fun g => { g with repair := none, repairQueue := (r.failed, r.cause) :: g.repairQueue })) := by
  simp only [exec, execRepairLoadDone, running, uncommitted, Bool.false_eq_true, if_false, Bool.not_false, if_true]

/-- A good read-back behind an armed commit waits for its switch (R147). -/
theorem exec_repairLoadDone_waits (armed : s.armed = true) : exec (.repairLoadDone true) s = .next
    ((s.modEngine r.spare (fun x => { x with loading := false, retired := x.retired || false })).modEng (fun g => { g with laterMove := some (r.failed, r.spare) })) := by
  have armed' : (s.modEngine r.spare (fun x => { x with loading := false, retired := x.retired || false })).armed = true := armed
  simp only [exec, execRepairLoadDone, running, uncommitted, Bool.false_eq_true, if_false, Bool.not_true, armed', if_true]

/-- Otherwise the slots are moved to it in a staging (R147). -/
theorem exec_repairLoadDone_moves (unarmed : s.armed = false) : exec (.repairLoadDone true) s = .next
    ((s.modEngine r.spare (fun x => { x with loading := false, retired := x.retired || false })).stageRepair r) := by
  have unarmed' : (s.modEngine r.spare (fun x => { x with loading := false, retired := x.retired || false })).armed = false := unarmed
  simp only [exec, execRepairLoadDone, running, uncommitted, Bool.false_eq_true, if_false, Bool.not_true, unarmed']

end

/-- A staging of moved slots that validates is armed, of the next generation (R147 step 4). -/
theorem stageMove_ok {src dst : Nat} (ok : (s.stageMove src dst).2 = true) :
    (s.stageMove src dst).1.eng.staging = some { gen := s.eng.lastGen + 1, host := false, state := 3 } ∧
      (s.stageMove src dst).1.eng.lastGen = s.eng.lastGen + 1 := by
  unfold State.stageMove at ok ⊢
  dsimp only at ok ⊢
  split
  · simp only [State.openStaging, State.modEng]
    rw [putInactive_eq]
    exact ⟨rfl, rfl⟩
  · next bad =>
    rw [bad] at ok
    cases ok

/-- Its repair is committed with that generation. -/
theorem stageRepair_ok {r : Repair} (ok : (s.stageMove r.failed r.spare).2 = true) :
    s.stageRepair r = (s.stageMove r.failed r.spare).1.modEng (fun g => { g with repair := some { r with committed := true, gen := g.lastGen } }) := by
  unfold State.stageRepair
  exact if_pos ok

end

/-! ### The program swap -/

section
variable {s : State}

theorem engine_modNew (es : List Nat) : ∀ (s : State) (e : Nat), (∀ k ∈ es, k < s.eng.eng.length) →
    (es.foldl (fun st e => st.modEngine e (fun x => { x with newProg := true })) s).engine e =
      if e ∈ es then { s.engine e with newProg := true } else s.engine e := by
  induction es with
  | nil => exact fun s e _ => by simp
  | cons k es ih =>
    intro s e inside
    rw [List.foldl_cons, ih]
    · rw [engine_modEngine]
      have here : k < s.eng.eng.length := inside k List.mem_cons_self
      by_cases same : e = k
      · subst same
        simp [here]
      · simp [same]
    · intro j mem
      simpa [State.modEngine, modAt] using inside j (List.mem_cons_of_mem _ mem)

theorem modNew_eq (es : List Nat) : ∀ s : State, es.foldl (fun st e => st.modEngine e (fun x => { x with newProg := true })) s =
    { s with eng := (es.foldl (fun st e => st.modEngine e (fun x => { x with newProg := true })) s).eng } := by
  induction es with
  | nil => exact fun _ => rfl
  | cons e es ih => exact fun s => ih _

/-- A log entry leaves what it does not write of Benash. -/
theorem logEntry_ben {α : Type} {g : Benash → α} (s : State) (u sev kind detail obj a0 a1 a2 a3 : Nat)
    (kept : ∀ (b : Benash) t tt su sn q l ln c, g { b with
      tokens := t, tokenTime := tt, suppressed := su, suppressedNew := sn, queue := q, lost := l, lostNew := ln, critical := c } = g b) :
    g (s.logEntry u sev kind detail obj a0 a1 a2 a3).ben = g s.ben := by
  have admitted : ∀ e, ∃ t tt su sn q l ln c, (s.admitLog e).ben = { s.ben with
      tokens := t, tokenTime := tt, suppressed := su, suppressedNew := sn, queue := q, lost := l, lostNew := ln, critical := c } := by
    intro e
    unfold State.admitLog
    dsimp only
    repeat' split
    all_goals exact ⟨_, _, _, _, _, _, _, _, rfl⟩
  unfold State.logEntry
  refine State.ite_keeps (π := fun t => g t.ben) rfl ?_
  obtain ⟨t, tt, su, sn, q, l, ln, c, ben⟩ := admitted _
  exact (congrArg g ben).trans (kept _ _ _ _ _ _ _ _ _)

theorem oldEngines_marked (inside : s.fuse.part.engines ≤ s.eng.eng.length) :
    (s.oldEngines.foldl (fun st e => st.modEngine e (fun x => { x with newProg := true })) s).oldEngines = [] := by
  have fuse : (s.oldEngines.foldl (fun st e => st.modEngine e (fun x => { x with newProg := true })) s).fuse = s.fuse :=
    (congrArg State.fuse (modNew_eq s.oldEngines s) :)
  have within : ∀ k ∈ s.oldEngines, k < s.eng.eng.length := fun k mem =>
    Nat.lt_of_lt_of_le (List.mem_range.mp (List.mem_of_mem_filter mem)) inside
  unfold State.oldEngines at *
  rw [fuse, List.filter_eq_nil_iff]
  intro e mem
  rw [engine_modNew _ _ _ within]
  split
  · simp
  · next out =>
    simp only [List.mem_filter, mem, true_and] at out
    exact out

/-- Loading every engine that has not the new programs ends the swap (R430). -/
theorem loadNew_all (inside : s.fuse.part.engines ≤ s.eng.eng.length) :
    (s.loadNew s.oldEngines).ben.swapLeft = 0 ∧ (s.loadNew s.oldEngines).ben.progverOld = s.ben.progver ∧
      (s.loadNew s.oldEngines).ben.progLayout = s.runSlot.layout ∧ (∀ e, ((s.loadNew s.oldEngines).engine e).newProg = false) ∧
      (s.loadNew s.oldEngines).fp.event.getLsbD evBenash = true ∧ (s.loadNew s.oldEngines).link = s.link := by
  have none' := oldEngines_marked inside
  have link : (s.oldEngines.foldl (fun st e => st.modEngine e (fun x => { x with newProg := true })) s).link = s.link :=
    (congrArg State.link (modNew_eq s.oldEngines s) :)
  have ben : (s.oldEngines.foldl (fun st e => st.modEngine e (fun x => { x with newProg := true })) s).ben = s.ben :=
    (congrArg State.ben (modNew_eq s.oldEngines s) :)
  have slot : (s.oldEngines.foldl (fun st e => st.modEngine e (fun x => { x with newProg := true })) s).runSlot = s.runSlot :=
    (congrArg State.runSlot (modNew_eq s.oldEngines s) :)
  unfold State.loadNew
  generalize s.oldEngines.foldl (fun st e => st.modEngine e (fun x => { x with newProg := true })) s = u at *
  dsimp only
  rw [none', List.length_nil, if_neg (Nat.lt_irrefl 0)]
  refine ⟨?_, ?_, ?_, fun e => ?_, raiseEvent_flag rfl (by decide), ?_⟩
  · rw [State.raiseEvent_ben]
    exact logEntry_ben (g := Benash.swapLeft) _ _ _ _ _ _ _ _ _ _ fun _ _ _ _ _ _ _ _ _ => rfl
  · rw [State.raiseEvent_ben, ← ben]
    exact logEntry_ben (g := Benash.progverOld) _ _ _ _ _ _ _ _ _ _ fun _ _ _ _ _ _ _ _ _ => rfl
  · rw [State.raiseEvent_ben, ← slot]
    exact logEntry_ben (g := Benash.progLayout) _ _ _ _ _ _ _ _ _ _ fun _ _ _ _ _ _ _ _ _ => rfl
  · have eng : ∀ (v : State) (a b c d f g h : Nat), (((v.logEntry a b c d f g h).raiseEvent evBenash).engine e) = v.engine e := fun v a b c d f g h => by
      simp only [State.engine, State.raiseEvent_eng, State.logEntry_eng]
    rw [eng]
    simp only [State.engine, List.getD_eq_getElem?_getD, List.getElem?_map]
    rcases u.eng.eng[e]? with _ | x
    · rfl
    · rfl
  · simp only [State.raiseEvent_link, State.logEntry_link]
    exact link

theorem exec_programSwap (left : s.ben.swapLeft ≠ 0) (deferred : s.ben.swapDeferred = false) (up : s.ben.up = true) (free : s.eng.repair = none)
    (queue : s.eng.repairQueue = []) (unarmed : ∀ g, s.eng.staging = some g → g.state ≠ 3) (slots : ∀ e, s.hasSlots e = false) :
    exec .programSwap s = .next (s.loadNew s.oldEngines) := by
  have open' : s.eng.staging.any (fun x => x.state = 3) = false := by
    rcases staged : s.eng.staging with _ | g
    · rfl
    · simpa using unarmed g staged
  have idle : s.oldEngines.filter (fun e => !s.hasSlots e || s.backgroundOnly e) = s.oldEngines := List.filter_eq_self.mpr fun e _ => by simp [slots e]
  have none' : s.oldEngines.filter (fun e => !s.oldEngines.contains e) = [] := List.filter_eq_nil_iff.mpr fun e mem => by simpa using mem
  simp only [exec, execProgramSwap, left, deferred, up, free, queue, open', idle, none', decide_false, Option.isSome_none, Bool.not_true, Bool.or_self, ne_eq,
    not_true_eq_false, Bool.false_eq_true, if_false]

end

/-- Settles O40: each row by its branch; the moved staging by `stageMove_ok`, the end of the swap by `loadNew_all`. -/
theorem repairsAndSwapsProceed : Obligations.RepairsAndSwapsProceed := by
  refine ⟨fun s e cause k rest queue up free has inQ txQ spare idle inside => ?_, fun s r running uncommitted inside => ⟨?_, fun armed => ?_, fun unarmed ok => ?_⟩,
    fun s left deferred up free queue unarmed slots inside => ?_⟩
  · have engines := engine_modEngine s k
    refine ⟨_, exec_repairStart queue up free has inQ txQ spare idle, rfl, rfl, ?_, fun j other => ?_, rfl⟩
    · refine (congrArg Engine.loading (engines k (fun x => { x with loading := true }))).trans ?_
      rw [if_pos ⟨rfl, inside⟩]
    · refine (engines j (fun x => { x with loading := true })).trans (if_neg fun h => other h.1)
  · have eng : ∀ (u : State) (f : Engines → Engines) (a b c d g h i j : Nat), ((u.logEntry a b c d g h i j).modEng f).eng = f u.eng := fun u f a b c d g h i j =>
      congrArg f (State.logEntry_eng u a b c d g h i j)
    have there := engine_modEngine s r.spare r.spare (fun x => { x with loading := false, retired := x.retired || true })
    rw [if_pos ⟨rfl, inside⟩] at there
    refine ⟨_, exec_repairLoadDone_bad running uncommitted, by rw [eng], by rw [eng]; rfl, ?_, ?_, ?_⟩
    · unfold State.engine at there ⊢
      rw [eng]
      exact (congrArg Engine.retired there).trans (Bool.or_true _)
    · unfold State.engine at there ⊢
      rw [eng]
      exact congrArg Engine.loading there
    · refine (State.logEntry_link _ _ _ _ _ _ _ _ _ _).trans ?_
      rfl
  · exact ⟨_, exec_repairLoadDone_waits running uncommitted armed, rfl, rfl, rfl⟩
  · have moved := exec_repairLoadDone_moves running uncommitted unarmed
    rw [stageRepair_ok ok] at moved
    obtain ⟨staged, last⟩ := stageMove_ok ok
    exact ⟨_, _, moved, staged, rfl, rfl, last.symm, last, congrArg (fun n : Nat => some ({ r with committed := true, gen := n } : Repair)) last⟩
  · exact ⟨_, exec_programSwap left deferred up free queue unarmed slots, loadNew_all inside⟩

end Sys2Proof.Machine
end

section
/-! PROOFS. O42: key messages over a secured session. -/

namespace Sys2Proof.Machine

set_option Elab.async false

/-- A message over a secured session, past the checks of its form and of its unit, is executed by its body (R386, R387). -/
theorem message_secured {s : State} {m : WardMsg} {x : Session} {code : Nat} {key latchOk : Bool} {form : Checks} {body : Session → State → State}
    (secured : Secured s m x) (formed : firstFail form = none) (unit : key = true → s.fuse.part.ward = true ∧ s.ready .ward = true)
    (latch : s.hasp.latched = true → latchOk = true) (approved : key = true → s.wardApproved = true → x.requester.isSome = true) :
    s.message m code key latchOk form body = body x s := by
  obtain ⟨up, session, idle⟩ := secured
  have present : (key && !s.fuse.part.ward) = false := by
    cases hk : key with
    | false => rfl
    | true => rw [(unit hk).1]; rfl
  have ready : ((s.hasp.latched && !latchOk) || (key && !s.ready .ward)) = false := by
    have first : (s.hasp.latched && !latchOk) = false := by
      cases hl : s.hasp.latched with
      | false => rfl
      | true => rw [latch hl]; rfl
    rw [first]
    cases hk : key with
    | false => rfl
    | true => rw [(unit hk).2]; rfl
  have authed : (key && code ≠ 3 && s.wardApproved && x.requester.isNone) = false := by
    cases hk : key with
    | false => rfl
    | true =>
      cases ha : s.wardApproved with
      | false => simp
      | true => simp [approved hk ha]
  unfold State.message
  simp only [up, session, idle, formed, present, ready, authed, firstFail, Bool.not_true, Bool.false_eq_true, if_false, Option.isSome_none]

/-- What Ward's readiness says of the unit (R301, R406). -/
theorem ready_ward {s : State} (ready : s.ready .ward = true) : s.fuse.part.ward = true ∧ s.hasp.latched = false := by
  simp only [State.ready, Bool.and_eq_true, Bool.not_eq_true'] at ready
  exact ⟨ready.1.1.1.1.1, ready.1.1.2⟩

/-- A key message that Ward takes up is executed by its body. -/
theorem message_key {s : State} {m : WardMsg} {x : Session} {code : Nat} {form : Checks} {body : Session → State → State} (takes : KeyMessage s m x)
    (formed : firstFail form = none) : s.message m code true false form body = body x s := by
  obtain ⟨secured, ready, approved⟩ := takes
  obtain ⟨part, unlatched⟩ := ready_ward ready
  exact message_secured secured formed (fun _ => ⟨part, ready⟩) (fun latched => absurd latched (by simp [unlatched])) (fun _ => approved)

theorem messageFlow_passes {s : State} {m : WardMsg} (small : m.arg 8 2 < 1000) (exist : (s.flow (m.arg 8 2)).exist = true) :
    firstFail (s.messageFlow m) = none := by
  have low : ¬ 1000 ≤ m.arg 8 2 := by omega
  have below : ¬ 1024 ≤ m.arg 8 2 := by omega
  simp [State.messageFlow, firstFail, exist, low, below]

/-- The answer OK is sent and the event WARD stands (R318, R387). -/
theorem wardAnswered {s : State} {m : WardMsg} {code : Nat} (part : s.fuse.part.ward = true) :
    ((s.raiseEvent evWard).answer m code .ok).out.head? = some (.ward (code + 0x8000) .ok m.mtag) ∧
      ((s.raiseEvent evWard).answer m code .ok).fp.event.getLsbD evWard = true :=
  ⟨rfl, raiseEvent_flag (s := s) part (by decide)⟩

/-- A KEK is stored for its installer, and kept where it is persistent (R388). -/
def State.storeKek (s : State) (t : Nat) (key : List Byte) (who : Option (BitVec 384)) (persist : Bool) : State := { s with
  ward := { s.ward with keks := sset {} s.ward.keks t ⟨some key, who, persist⟩ }
  nvm := if persist then { s.nvm with keks := sset {} s.nvm.keks t ⟨who, key⟩ } else { s.nvm with keks := sset {} s.nvm.keks t {} } }

theorem storeKek_eq (s : State) (t : Nat) (key : List Byte) (who : Option (BitVec 384)) (persist : Bool) :
    s.storeKek t key who persist = { s with
      ward := { s.ward with keks := (s.storeKek t key who persist).ward.keks }
      nvm := { s.nvm with keks := (s.storeKek t key who persist).nvm.keks } } := by
  cases persist <;> rfl

theorem storeKek_others (s : State) (t : Nat) (key : List Byte) (who : Option (BitVec 384)) (persist : Bool) {j : Nat} (other : j ≠ t) :
    sget {} (s.storeKek t key who persist).ward.keks j = sget {} s.ward.keks j ∧
      sget {} (s.storeKek t key who persist).nvm.keks j = sget {} s.nvm.keks j := by
  refine ⟨sget_sset_ne _ _ _ other, ?_⟩
  cases persist
  · exact sget_sset_ne _ _ _ other
  · exact sget_sset_ne _ _ _ other

section
variable {s : State} {m : WardMsg} {x : Session} (takes : KeyMessage s m x)
include takes

theorem exec_kekInstall (len : m.body.length = 40) (slot : m.arg 8 1 ≤ 63) (bit : m.arg 9 1 ≤ 1) (rest : m.arg 10 6 = 0)
    (own : m.arg 8 1 = 0 → s.isOwner x = true)
    (mine : m.arg 8 1 ≠ 0 → (sget {} s.ward.keks (m.arg 8 1)).key = none ∨ s.isInstaller x (m.arg 8 1) = true) :
    exec (.kekInstall m) s =
      .next (((s.storeKek (m.arg 8 1) (m.bytes 16 32) x.identity (m.arg 9 1 = 1)).raiseEvent evWard).answer m 1 .ok) := by
  refine congrArg Host.Outcome.next ((message_key takes (by simp [firstFail, len])).trans ?_)
  have right : (!(if m.arg 8 1 = 0 then s.isOwner x else (sget {} s.ward.keks (m.arg 8 1)).key.isNone || s.isInstaller x (m.arg 8 1))) = false := by
    split
    next first => simp [own first]
    next other =>
      rcases mine other with empty | installed
      · simp [empty]
      · simp [installed]
  have fields : (m.arg 8 1 > 63 || m.arg 9 1 > 1 || m.arg 10 6 ≠ 0 : Bool) = false := by
    simp [Nat.not_lt.mpr slot, Nat.not_lt.mpr bit, rest]
  simp only [firstFail, fields, right, Bool.false_eq_true, if_false]
  by_cases one : m.arg 9 1 = 1
  · simp only [State.storeKek, one, decide_true, if_true]
  · simp only [State.storeKek, one, decide_false, if_false, Bool.false_eq_true]

/-- A KEK slot is emptied, its persistent copy too. -/
def State.dropKek (s : State) (t : Nat) : State := { s with
  ward := { s.ward with keks := sset {} s.ward.keks t {} }, nvm := { s.nvm with keks := sset {} s.nvm.keks t {} } }

theorem exec_kekErase (slot : m.arg 8 1 ≤ 63) (right : s.isInstaller x (m.arg 8 1) = true ∨ s.isOwner x = true) :
    exec (.kekErase m) s = .next (((s.dropKek (m.arg 8 1)).raiseEvent evWard).answer m 2 .ok) := by
  refine congrArg Host.Outcome.next ((message_key takes rfl).trans ?_)
  have may : (!(s.isInstaller x (m.arg 8 1) || s.isOwner x)) = false := by
    rcases right with h | h
    · simp [h]
    · simp [h]
  have fields : decide (m.arg 8 1 > 63) = false := decide_eq_false (Nat.not_lt.mpr slot)
  simp only [firstFail, fields, may, Bool.false_eq_true, if_false]
  rfl

/-- An unwrapped SAK is installed, and its flow bound to the KEK (R383, R388). -/
def State.installKey (s : State) (f an t : Nat) (key : List Byte) : State :=
  (s.installSlot f an (key.take 32) ((key.drop 32).take 12) ((key.drop 44).take 4)).modWard (fun w => { w with
    info := smod {} w.info f (fun i => { i with tenant := some t })
    cnt := { w.cnt with keyInstalls := inc 32 w.cnt.keyInstalls } })

section
variable (small : m.arg 8 2 < 1000) (exist : (s.flow (m.arg 8 2)).exist = true) (gen : m.arg 12 4 = (s.flow (m.arg 8 2)).gen)
  (assoc : assocNone (s.flow (m.arg 8 2)).assoc = false)
include small exist gen assoc

theorem exec_keyInstall (an : m.arg 10 1 ≤ 3) (fresh : ∀ c, s.slotIn (m.arg 8 2) 2 = some c → (s.slot (m.arg 8 2) c).an ≠ m.arg 10 1)
    {kek key : List Byte} (installer : s.isInstaller x (m.arg 11 1) = true) (found : (sget {} s.ward.keks (m.arg 11 1)).key = some kek)
    (unwraps : aesUnwrap kek (m.bytes 16 56) = some key)
    (bound : (s.slot (m.arg 8 2) 0).state = 0 ∧ (s.slot (m.arg 8 2) 1).state = 0 ∨ (sget {} s.ward.info (m.arg 8 2)).tenant = some (m.arg 11 1)) :
    exec (.keyInstall m) s =
      .next (((s.installKey (m.arg 8 2) (m.arg 10 1) (m.arg 11 1) key).raiseEvent evWard).answer m 3 .ok) := by
  refine congrArg Host.Outcome.next ((message_key takes (messageFlow_passes small exist)).trans ?_)
  have authed : (s.wardApproved && x.requester.isNone) = false := by
    cases ha : s.wardApproved with
    | false => rfl
    | true => simp [takes.2.2 ha]
  have free : (((s.slot (m.arg 8 2) 0).state ≠ 0 || (s.slot (m.arg 8 2) 1).state ≠ 0) && (sget {} s.ward.info (m.arg 8 2)).tenant ≠ some (m.arg 11 1) : Bool)
      = false := by
    rcases bound with ⟨h0, h1⟩ | tenant
    · simp [h0, h1]
    · simp [tenant]
  have fields : (assocNone (s.flow (m.arg 8 2)).assoc || m.arg 10 1 > 3 : Bool) = false := by simp [assoc, an]
  have same : decide (m.arg 12 4 ≠ (s.flow (m.arg 8 2)).gen) = false := decide_eq_false (not_not.mpr gen)
  dsimp only
  rw [found]
  dsimp only
  rw [unwraps]
  have authentic : (!s.isInstaller x (m.arg 11 1) || ((s.slot (m.arg 8 2) 0).state ≠ 0 || (s.slot (m.arg 8 2) 1).state ≠ 0)
      && (sget {} s.ward.info (m.arg 8 2)).tenant ≠ some (m.arg 11 1) || (some key).isNone : Bool) = false := by
    rw [free, installer]; rfl
  simp only [firstFail, authed, same, fields, authentic, Bool.false_eq_true, if_false]
  cases current : s.slotIn (m.arg 8 2) 2 with
  | none => rfl
  | some c =>
    simp only [decide_eq_false (fresh c current), Bool.false_eq_true, if_false]
    rfl

theorem exec_keyInstall_refused (an : m.arg 10 1 ≤ 3) {kek : List Byte} (found : (sget {} s.ward.keks (m.arg 11 1)).key = some kek)
    (fails : aesUnwrap kek (m.bytes 16 56) = none) : exec (.keyInstall m) s = .next (s.refuseKey m .authFail) := by
  refine congrArg Host.Outcome.next ((message_key takes (messageFlow_passes small exist)).trans ?_)
  have authed : (s.wardApproved && x.requester.isNone) = false := by
    cases ha : s.wardApproved with
    | false => rfl
    | true => simp [takes.2.2 ha]
  have fields : (assocNone (s.flow (m.arg 8 2)).assoc || m.arg 10 1 > 3 : Bool) = false := by simp [assoc, an]
  have same : decide (m.arg 12 4 ≠ (s.flow (m.arg 8 2)).gen) = false := decide_eq_false (not_not.mpr gen)
  dsimp only
  rw [found]
  dsimp only
  rw [fails]
  simp only [firstFail, authed, same, fields, Option.isNone_none, Bool.or_true, Bool.false_eq_true, if_false, if_true]

theorem exec_keyEraseMsg (owner : s.isOwner x = true) :
    exec (.keyEraseMsg m) s = .next (((s.eraseSlots (m.arg 8 2)).raiseEvent evWard).answer m 4 .ok) := by
  refine congrArg Host.Outcome.next ((message_key takes (messageFlow_passes small exist)).trans ?_)
  have same : decide (m.arg 12 4 ≠ (s.flow (m.arg 8 2)).gen) = false := decide_eq_false (not_not.mpr gen)
  simp only [firstFail, same, assoc, owner, Bool.or_true, Bool.not_true, Bool.false_eq_true, if_false]

end

/-- The CAK and its name are stored and the participant starts afresh (R382). -/
def State.storeCak (s : State) (cak ckn : List Byte) (persist : Prop) [Decidable persist] : State := { s with
  ward := { s.ward with cak := some (cak, ckn, decide persist), mka := {} }
  nvm := { s.nvm with cak := if persist then some (cak, ckn) else none } }

theorem exec_cakInstall {kek cak : List Byte} (bit : m.arg 8 1 ≤ 1) (least : 1 ≤ m.arg 9 1) (most : m.arg 9 1 ≤ 32) (owner : s.isOwner x = true)
    (found : (sget {} s.ward.keks 0).key = some kek) (unwraps : aesUnwrap kek (m.bytes 48 40) = some cak) :
    exec (.cakInstall m) s = .next (((s.storeCak cak (m.bytes 16 (m.arg 9 1)) (m.arg 8 1 = 1)).raiseEvent evWard).answer m 5 .ok) := by
  refine congrArg Host.Outcome.next ((message_key takes rfl).trans ?_)
  have fields : (m.arg 8 1 > 1 || m.arg 9 1 = 0 || m.arg 9 1 > 32 : Bool) = false := by
    simp [Nat.not_lt.mpr bit, Nat.not_lt.mpr most, Nat.ne_of_gt least]
  dsimp only
  rw [found]
  dsimp only
  rw [unwraps]
  simp only [firstFail, fields, owner, Option.isNone_some, Bool.not_true, Bool.or_false, Bool.false_eq_true, if_false]
  rfl

end

theorem slot_eraseSlots_self {s : State} {f k : Nat} (ok : s.tablesOk = true) (small : k < 2) : (s.eraseSlots f).slot f k = {} := by
  simp only [State.tablesOk, Bool.and_eq_true] at ok
  have slots : Sparse.wf {} s.ward.slots = true := ok.1.1.1.1.1.2
  have second := sget_sset_wf (d := ({} : SaSlot)) (2 * f + 1) {} (sset_wf ({} : SaSlot) (2 * f) {} slots)
  have first := sget_sset_wf (d := ({} : SaSlot)) (2 * f) {} slots
  match k, small with
  | 0, _ => exact (sget_sset_ne _ _ _ (by omega)).trans first
  | 1, _ => exact second

theorem slot_eraseSlots_ne {s : State} {f a k : Nat} (other : a ≠ f) (small : k < 2) : (s.eraseSlots f).slot a k = s.slot a k :=
  (sget_sset_ne _ _ _ (by omega)).trans (sget_sset_ne _ _ _ (by omega))

theorem slot_installSlot_ne {s : State} {a an c : Nat} {sak salt ssci : List Byte} (other : c ≠ s.freeSlot a) :
    (s.installSlot a an sak salt ssci).slot a c = s.slot a c := by
  refine sget_sset_ne _ _ _ fun same => other ?_
  unfold State.freeSlot
  omega

theorem slot_installKey (s : State) (f an t a k : Nat) (key : List Byte) : (s.installKey f an t key).slot a k =
    (s.installSlot f an (key.take 32) ((key.drop 32).take 12) ((key.drop 44).take 4)).slot a k := rfl

/-- The slot that is CURRENT is not the one to be written. -/
theorem slotIn_ne_freeSlot {s : State} {a c : Nat} (current : s.slotIn a 2 = some c) : c ≠ s.freeSlot a := by
  unfold State.freeSlot
  unfold State.slotIn at current ⊢
  grind

/-- Settles O42. -/
theorem keyMessagesNeedTheirRights : Obligations.KeyMessagesNeedTheirRights := by
  intro s m x takes
  obtain ⟨part, unlatched⟩ := ready_ward takes.2.1
  refine ⟨fun len slot bit rest own mine => ?_, fun slot right tables => ?_,
    fun small exist gen assoc an fresh => ⟨fun kek key installer found unwraps bound => ?_, fun kek found fails => ?_⟩,
    fun small exist gen assoc owner tables => ?_, fun kek cak bit least most owner found unwraps => ?_⟩
  · refine ⟨_, exec_kekInstall takes len slot bit rest own mine, wardAnswered part, ?_, fun j other => ?_, ?_⟩
    · rw [State.raiseEvent_eq]
      exact sget_sset_self _ _ _ (by simp)
    · rw [State.raiseEvent_eq]
      exact storeKek_others s _ _ _ _ other
    · generalize made : s.storeKek _ _ _ _ = u
      have shape : u = { s with ward := { s.ward with keks := u.ward.keks }, nvm := { s.nvm with keks := u.nvm.keks } } := made ▸ storeKek_eq s _ _ _ _
      rw [State.raiseEvent_eq]
      generalize (u.raiseEvent evWard).fp = fp
      generalize (u.raiseEvent evWard).out = out
      rw [shape]
      rfl
  · have keks : Sparse.wf {} s.ward.keks = true ∧ Sparse.wf {} s.nvm.keks = true := by
      simp only [State.tablesOk, Bool.and_eq_true] at tables
      exact ⟨tables.1.2, tables.2⟩
    refine ⟨_, exec_kekErase takes slot right, wardAnswered part, ?_, ?_, ?_, fun j other => ?_⟩
    · rw [State.raiseEvent_eq]
      exact sget_sset_wf _ _ _ keks.1
    · rw [State.raiseEvent_eq]
      exact sget_sset_wf _ _ _ keks.2
    · rw [State.raiseEvent_eq]
      rfl
    · rw [State.raiseEvent_eq]
      exact sget_sset_ne _ _ _ other
  · have put := slot_installSlot s (m.arg 8 2) (m.arg 10 1) (key.take 32) ((key.drop 32).take 12) ((key.drop 44).take 4)
    refine ⟨_, s.freeSlot (m.arg 8 2), exec_keyInstall takes small exist gen assoc an fresh installer found unwraps bound, wardAnswered part,
      freeSlot_lt s _, ?_⟩
    have kept : ∀ k, State.slot (((s.installKey (m.arg 8 2) (m.arg 10 1) (m.arg 11 1) key).raiseEvent evWard).answer m 3 .ok) (m.arg 8 2) k
        = (s.installSlot (m.arg 8 2) (m.arg 10 1) (key.take 32) ((key.drop 32).take 12) ((key.drop 44).take 4)).slot (m.arg 8 2) k :=
      fun k => slot_raiseEvent _ _ _ _
    simp only [kept, put]
    refine ⟨trivial, trivial, trivial, trivial, rfl, trivial, trivial, fun c current => ⟨slotIn_ne_freeSlot current, slot_installSlot_ne (slotIn_ne_freeSlot current)⟩, ?_, ?_⟩
    · rw [State.raiseEvent_eq]
      rfl
    · rw [State.raiseEvent_eq]
      rfl
  · refine ⟨_, exec_keyInstall_refused takes small exist gen assoc an found fails, ?_⟩
    simp only [State.refuseKey, part, if_true]
    exact ⟨rfl, rfl, rfl⟩
  · refine ⟨_, exec_keyEraseMsg takes small exist gen assoc owner, wardAnswered part, ?_, ?_, fun a k other low => ?_, ?_⟩
    · exact (slot_raiseEvent _ _ _ _).trans (slot_eraseSlots_self tables (by decide))
    · exact (slot_raiseEvent _ _ _ _).trans (slot_eraseSlots_self tables (by decide))
    · exact (slot_raiseEvent _ _ _ _).trans (slot_eraseSlots_ne other low)
    · rw [State.raiseEvent_eq]
      rfl
  · refine ⟨_, exec_cakInstall takes bit least most owner found unwraps, wardAnswered part, ?_⟩
    rw [State.raiseEvent_eq]
    exact ⟨rfl, rfl, rfl, rfl⟩

end Sys2Proof.Machine
end

section
/-! PROOFS. O45: the SPDM responder. -/

namespace Sys2Proof.Machine

set_option Elab.async false

/-- A session number that none of fewer than four sessions has (R385). -/
theorem freeSid_exists {l : List Session} (few : l.length < 4) :
    ∃ k, (List.range 4).find? (fun k => l.all (fun x => x.sid ≠ k)) = some k ∧ k < 4 ∧ ∀ x ∈ l, x.sid ≠ k := by
  cases found : (List.range 4).find? (fun k => l.all (fun x => x.sid ≠ k)) with
  | some k =>
    refine ⟨k, rfl, List.mem_range.mp (List.mem_of_find?_eq_some found), fun x mem => ?_⟩
    have free := List.find?_some found
    simp only [List.all_eq_true, decide_eq_true_eq] at free
    exact free x mem
  | none =>
    have used : List.range 4 ⊆ l.map (·.sid) := fun k mem => by
      have taken := List.find?_eq_none.mp found k mem
      simpa using taken
    have long := (List.nodup_range (n := 4)).length_le_of_subset used
    simp only [List.length_range, List.length_map] at long
    omega

section
variable {s : State} (up : s.spdmUp = true)
include up

theorem exec_getVersion : exec .getVersion s = .next (State.emit { s with spdm := { s.spdm with phase := 1 } } (.spdm 0x04 [0x00, 0x12])) :=
  congrArg Host.Outcome.next (if_pos up)

theorem exec_getCapabilities (version : 1 ≤ s.spdm.phase) : exec .getCapabilities s =
    .next (State.emit { s with spdm := { s.spdm with phase := max 2 s.spdm.phase } } (.spdm 0x61 (packBytes 4 [(32, 0x000063F6)]))) := by
  refine congrArg Host.Outcome.next ?_
  rw [up, if_neg (by decide), if_neg (by omega)]

theorem exec_negotiateAlgorithms (caps : 2 ≤ s.spdm.phase) : exec (.negotiateAlgorithms true true true true) s =
    .next (State.emit { s with spdm := { s.spdm with phase := 3 } } (.spdm 0x63 (packBytes 4 [(8, 0x80), (8, 0x02), (8, 0x10), (8, 0x02)]))) := by
  refine congrArg Host.Outcome.next ?_
  rw [up, if_neg (by decide), if_neg (by simp [Nat.not_lt.mpr caps])]

theorem exec_setCertificate (sid : Option Nat) (chain : List Byte) (provisioned : s.fuse.lifecycle = .provisioned) : exec (.setCertificate sid chain) s =
    .next (State.emit { s with nvm := { s.nvm with cert1 := chain } } (.spdm 0x6E [0x01])) := by
  refine congrArg Host.Outcome.next ?_
  rw [up, if_neg (by decide), provisioned]
  rfl

section
variable (agreed : 3 ≤ s.spdm.phase)
include agreed

theorem exec_getDigests : exec .getDigests s = .next (s.emit (.spdm 0x01 (s.certSlots.flatMap (fun c => beBytes 48 (sha384 c).toNat)))) := by
  refine congrArg Host.Outcome.next ?_
  rw [up, if_neg (by decide), if_neg (by omega)]

theorem exec_getCertificate {off : Nat} (len : Nat) (inside : off < s.nvm.cert1.length) : exec (.getCertificate 1 off len) s =
    .next (s.emit (.spdm 0x02 (packBytes 4 [(16, min len (s.nvm.cert1.length - off)),
      (16, s.nvm.cert1.length - off - min len (s.nvm.cert1.length - off))] ++ (s.nvm.cert1.drop off).take len))) := by
  refine congrArg Host.Outcome.next ?_
  have held : s.nvm.cert1 ≠ [] := fun empty => by simp [empty] at inside
  rw [up, if_neg (by decide), if_neg (by omega)]
  dsimp only
  have second : (if (1 : Nat) = 0 then s.nvm.cert0 else if (1 : Nat) = 1 then s.nvm.cert1 else []) = s.nvm.cert1 := rfl
  rw [second, if_neg (by simp [held, inside]), List.length_take, List.length_drop]

theorem exec_challenge {slot : Nat} (nonce : BitVec 256) (present : slot ≤ 1) (key : s.fuse.identityKey = true) : exec (.challenge slot nonce) s =
    .next (s.signed 0x03 (beBytes 48 (sha384 (if slot = 0 then s.nvm.cert0 else s.nvm.cert1)).toNat ++ leBytes 32 nonce.toNat)) := by
  refine congrArg Host.Outcome.next ?_
  rw [up, if_neg (by decide), if_neg (by simp [Nat.not_lt.mpr agreed, Nat.not_lt.mpr present, key])]

theorem exec_getMeasurements {i : Nat} {b : List Byte} (found : s.measurement i = some b) (one : i ≠ 0xFF) :
    exec (.getMeasurements i false) s = .next (s.emit (.spdm 0x60 b)) := by
  refine congrArg Host.Outcome.next ?_
  rw [up, if_neg (by decide), if_neg (by omega)]
  dsimp only
  rw [if_neg one, found]
  rfl

theorem exec_keyExchange_busy (key : s.fuse.identityKey = true) (full : 4 ≤ s.spdm.sessions.length) :
    exec .keyExchange s = .next (s.emit (.spdm spdmError [0x03])) := by
  refine congrArg Host.Outcome.next ?_
  rw [up, if_neg (by decide), if_neg (by simp [Nat.not_lt.mpr agreed, key]), if_pos full]

theorem exec_keyExchange {sid : Nat} (key : s.fuse.identityKey = true) (few : s.spdm.sessions.length < 4)
    (free : (List.range 4).find? (fun k => s.spdm.sessions.all (fun x => x.sid ≠ k)) = some sid) : exec .keyExchange s =
    .next (State.signed { s with spdm := { s.spdm with sessions := s.spdm.sessions ++ [{ sid := sid }] } } 0x64 [BitVec.ofNat 8 sid]) := by
  refine congrArg Host.Outcome.next ?_
  rw [up, if_neg (by decide), if_neg (by simp [Nat.not_lt.mpr agreed, key]), if_neg (by omega), free]

end

section
variable {x : Session} (mem : x ∈ s.spdm.sessions)
include mem

/-- A session that is not established awaits its FINISH (R385). -/
theorem awaitsFinish (new : x.established = false) :
    (!s.spdmUp || s.spdm.sessions.all (fun y => y.sid ≠ x.sid || y.established) : Bool) = false := by
  simp only [up, Bool.not_true, Bool.false_or, List.all_eq_false]
  exact ⟨x, mem, by simp [new]⟩

theorem exec_finish_fails (auth : Option (BitVec 384 × BitVec 384)) (new : x.established = false) : exec (.finish x.sid false auth) s =
    .next (State.emit { s with spdm := { s.spdm with sessions := s.spdm.sessions.filter (fun y => y.sid ≠ x.sid) } } (.spdm spdmError [0x06])) := by
  refine congrArg Host.Outcome.next ?_
  rw [if_neg (ne_true_of_eq_false (awaitsFinish up mem new)), if_pos (by decide)]

/-- The sessions after a FINISH (R385, R388). -/
def Session.finished (sid : Nat) (auth : Option (BitVec 384 × BitVec 384)) (x : Session) : Session :=
  if x.sid = sid then { x with established := true, requester := auth } else x

/-- What a FINISH that passes stores. -/
def State.sessionFinished (s : State) (sid : Nat) (auth : Option (BitVec 384 × BitVec 384)) : State := { s with
  spdm := { s.spdm with sessions := s.spdm.sessions.map (Session.finished sid auth) }
  ward := { s.ward with cnt := { s.ward.cnt with sessionsOpened := inc 32 s.ward.cnt.sessionsOpened } } }

theorem exec_finish (auth : Option (BitVec 384 × BitVec 384)) (new : x.established = false) : exec (.finish x.sid true auth) s =
    .next (((s.sessionFinished x.sid auth).raiseEvent evWard).emit (.spdm 0x65 [])) := by
  refine congrArg Host.Outcome.next ?_
  rw [if_neg (ne_true_of_eq_false (awaitsFinish up mem new)), if_neg (by decide)]
  rfl

variable (established : x.established = true)
include established

/-- An established session is found by its number. -/
theorem session_found : (!s.spdmUp || (s.session x.sid).isNone) = false := by
  have found : (s.session x.sid).isSome = true := by
    rw [State.session, List.find?_isSome]
    exact ⟨x, mem, by simp [established]⟩
  rw [up, Option.isNone_eq_false_iff.mpr found]
  rfl

theorem exec_keyUpdate : exec (.keyUpdate x.sid) s = .next (State.emit { s with
    spdm := { s.spdm with sessions := s.spdm.sessions.map (fun y => if y.sid = x.sid then { y with updates := y.updates + 1 } else y) } } (.spdm 0x69 [])) :=
  congrArg Host.Outcome.next (if_neg (ne_true_of_eq_false (session_found up mem established)))

theorem exec_heartbeat : exec (.heartbeat x.sid) s = .next (s.emit (.spdm 0x68 [])) :=
  congrArg Host.Outcome.next (if_neg (ne_true_of_eq_false (session_found up mem established)))

theorem exec_endSession : exec (.endSession x.sid) s = .next
    ((State.raiseEvent { s with spdm := { s.spdm with sessions := s.spdm.sessions.filter (fun y => y.sid ≠ x.sid) } } evWard).emit (.spdm 0x6C [])) :=
  congrArg Host.Outcome.next (if_neg (ne_true_of_eq_false (session_found up mem established)))

/-- Keyway's status with an IDE stream set into use or stopped (R312). -/
def KwStatus.ide (k : KwStatus) (cache go : Bool) : KwStatus := if cache then { k with ideCache := go } else { k with ideIo := go }

theorem exec_ideKm (cache go : Bool) : exec (.ideKm x.sid cache go) s = .next (State.emit { s with
    kw := { s.kw with status := s.kw.status.ide cache go }
    ward := { s.ward with ideKeys := (s.kw.status.ide cache go).ideIo || (s.kw.status.ide cache go).ideCache } } (.spdm 0x7E [b2n go])) :=
  congrArg Host.Outcome.next (if_neg (ne_true_of_eq_false (session_found up mem established)))

end
end

theorem mem_filter_sid {l : List Session} {sid : Nat} {y : Session} : y ∈ l.filter (fun y => y.sid ≠ sid) ↔ y.sid ≠ sid ∧ y ∈ l := by
  rw [List.mem_filter, decide_eq_true_eq, and_comm]

/-- Settles O45. -/
theorem spdmAnswersItsRequests : Obligations.SpdmAnswersItsRequests := by
  refine ⟨fun s up => ⟨?_, fun version => ?_, fun caps => ?_, fun sid chain provisioned => exec_setCertificate up sid chain provisioned⟩,
    fun s up agreed => ⟨exec_getDigests up agreed, fun off len inside => exec_getCertificate up agreed len inside, fun slot nonce present key => ?_,
      fun i b found one => exec_getMeasurements up agreed found one, fun key few => ?_, fun key full => exec_keyExchange_busy up agreed key full⟩,
    fun s x up mem => ⟨fun auth new => ?_, fun auth new => ?_, fun established => ⟨?_, exec_heartbeat up mem established, ?_, fun cache go => ?_⟩⟩⟩
  · exact ⟨_, exec_getVersion up, rfl, rfl, rfl⟩
  · exact ⟨_, _, exec_getCapabilities up version, Nat.le_max_left _ _, rfl, rfl, rfl⟩
  · exact ⟨_, _, exec_negotiateAlgorithms up caps, rfl, rfl, rfl⟩
  · exact ⟨_, _, exec_challenge up agreed nonce present key, rfl, rfl, rfl⟩
  · obtain ⟨sid, found, small, free⟩ := freeSid_exists few
    exact ⟨_, _, sid, exec_keyExchange up agreed key few found, small, free, rfl, rfl, rfl⟩
  · refine ⟨_, exec_finish up mem auth new, ?_⟩
    rw [State.raiseEvent_eq]
    exact ⟨List.mem_map.mpr ⟨x, mem, if_pos rfl⟩, List.length_map _, rfl, rfl⟩
  · exact ⟨_, exec_finish_fails up mem auth new, fun y => mem_filter_sid.mp, rfl⟩
  · exact ⟨_, exec_keyUpdate up mem established, List.mem_map.mpr ⟨x, mem, if_pos rfl⟩, rfl⟩
  · refine ⟨_, exec_endSession up mem established, ?_⟩
    rw [State.raiseEvent_eq]
    exact ⟨fun y => mem_filter_sid.mp, fun y held other => mem_filter_sid.mpr ⟨other, held⟩, rfl⟩
  · refine ⟨_, exec_ideKm up mem established cache go, ?_⟩
    cases cache
    · exact ⟨rfl, rfl, rfl, rfl⟩
    · exact ⟨rfl, rfl, rfl, rfl⟩

end Sys2Proof.Machine
end

section
/-! PROOFS. O43 and O44: the owner's messages, and Hasp's responses. -/

namespace Sys2Proof.Machine

set_option Elab.async false

section
variable {s : State} {m : WardMsg} {x : Session} (secured : Secured s m x)
include secured

/-- A message that no latch holds back is executed by its body (R386, R402). -/
theorem message_owner {code : Nat} {latchOk : Bool} {body : Session → State → State} (latch : s.hasp.latched = true → latchOk = true) :
    s.message m code false latchOk [] body = body x s :=
  message_secured secured rfl (by simp) latch (by simp)

theorem exec_haspSet (owner : s.isOwner x = true)
    (approved : s.wardApproved = true → classesApproved (BitVec.ofNat 32 (leAt (fitBytes 16 (m.bytes 8 16)) 0 4)) = true)
    (stores : haspCfgOk (fitBytes 16 (m.bytes 8 16)) = true) :
    exec (.haspSet m) s = .next ((s.storeHaspCfg (BitVec.ofNat 32 (leAt (fitBytes 16 (m.bytes 8 16)) 0 4))).answer m 0x10 .ok) := by
  refine congrArg Host.Outcome.next ((message_owner secured fun _ => rfl).trans ?_)
  have kept : (s.wardApproved && !classesApproved (BitVec.ofNat 32 (leAt (fitBytes 16 (m.bytes 8 16)) 0 4))) = false := by
    cases mode : s.wardApproved with
    | false => rfl
    | true => rw [approved mode]; rfl
  simp only [firstFail, kept, owner, stores, Bool.not_true, Bool.false_eq_true, if_false]

theorem exec_tamperClear (owner : s.isOwner x = true) (clear : s.zeroizeTripped = false) : exec (.tamperClear m) s =
    .next (State.answer { s with
      hasp := { s.hasp with latched := false }
      ward := if s.hasp.latched then { s.ward with tested := false } else s.ward } m 0x11 .ok) := by
  refine congrArg Host.Outcome.next ((message_owner secured fun _ => rfl).trans ?_)
  simp only [firstFail, clear, owner, Bool.not_true, Bool.false_eq_true, if_false]

/-- Every key goes and the approved mode turns (R376). -/
def State.turnMode (s : State) : State := { s with ward := s.ward.eraseKeys, nvm := { s.nvm.eraseKeys with approved := !s.nvm.approved } }

theorem exec_modeSet (owner : s.isOwner x = true) (unlatched : s.hasp.latched = false) (bit : m.arg 8 1 ≤ 1)
    (strict : m.arg 8 1 = 1 → s.allStrict = true ∧ classesApproved s.hasp.cfg = true) (turns : s.nvm.approved ≠ decide (m.arg 8 1 = 1)) :
    exec (.modeSet m) s = .next ((s.turnMode.raiseEvent evWard).answer m 0x12 .ok) := by
  refine congrArg Host.Outcome.next ((message_owner secured fun latched => absurd latched (by simp [unlatched])).trans ?_)
  have may : (decide (m.arg 8 1 = 1) && !(s.allStrict && classesApproved s.hasp.cfg)) = false := by
    by_cases one : m.arg 8 1 = 1
    · simp [strict one]
    · simp [one]
  have field : decide (m.arg 8 1 > 1) = false := decide_eq_false (Nat.not_lt.mpr bit)
  have mode : decide (m.arg 8 1 = 1) = !s.nvm.approved := (Bool.eq_not_of_ne (Ne.symm turns))
  simp only [firstFail, may, owner, field, Bool.not_true, Bool.false_eq_true, if_false]
  rw [if_neg fun same => turns (Bool.eq_iff_iff.mpr (by rw [decide_eq_true_eq]; exact iff_of_eq same)), mode]
  rfl

theorem exec_lifecycle_retires (owner : s.isOwner x = true) (hold : s.lcHoldHigh = false) (deployed : s.fuse.lifecycle = .deployed) (asks : m.arg 8 1 = 3) :
    exec (.lifecycle m) s = .next ((s.transition .retired s.fuse.ownerHash).answer m 0x13 .ok) := by
  refine congrArg Host.Outcome.next ((message_owner secured fun _ => rfl).trans ?_)
  simp only [hold, deployed, asks, owner, Bool.false_eq_true, if_false, if_true]

theorem exec_lifecycle_deploys {i root : BitVec 384} (hold : s.lcHoldHigh = false) (provisioned : s.fuse.lifecycle = .provisioned) (asks : m.arg 8 1 = 2)
    (requester : x.requester = some (i, root)) :
    exec (.lifecycle m) s = .next ((s.transition .deployed (some root)).answer m 0x13 .ok) := by
  refine congrArg Host.Outcome.next ((message_owner secured fun _ => rfl).trans ?_)
  simp only [hold, provisioned, asks, requester, Bool.false_eq_true, if_false]

end

/-- Settles O43. -/
theorem theOwnerControlsTheDevice : Obligations.TheOwnerControlsTheDevice := by
  refine fun s m x secured => ⟨fun owner => ⟨fun approved stores => ?_, fun clear => ?_, fun unlatched bit strict turns => ?_,
    fun hold deployed asks => ?_⟩, fun i root hold provisioned asks requester => ?_⟩
  · refine ⟨_, exec_haspSet secured owner approved stores, rfl, ?_⟩
    unfold State.storeHaspCfg
    refine ⟨?_, ?_, raiseEvent_flag rfl (by decide), ?_⟩
    · rw [State.raiseEvent_eq]; rfl
    · rw [State.raiseEvent_eq]; rfl
    · rw [State.raiseEvent_eq]; rfl
  · refine ⟨_, exec_tamperClear secured owner clear, rfl, rfl, ?_, rfl⟩
    cases latched : s.hasp.latched with
    | false => simp [State.answer, State.emit]
    | true => simp [State.answer, State.emit]
  · refine ⟨_, exec_modeSet secured owner unlatched bit strict turns, rfl, ?_, ?_, fun part => raiseEvent_flag (s := s.turnMode) part (by decide)⟩
    · rw [State.raiseEvent_eq]; rfl
    · rw [State.raiseEvent_eq]
      exact ⟨rfl, rfl, rfl, rfl, rfl⟩
  · refine ⟨_, exec_lifecycle_retires secured owner hold deployed asks, rfl, rfl, ?_, ⟨rfl, rfl, rfl, rfl, rfl⟩, rfl, ?_⟩
    · simp [State.transition, State.answer, State.emit]
    · simp [State.ready, State.transition, State.answer, State.emit]
  · refine ⟨_, exec_lifecycle_deploys secured hold provisioned asks requester, rfl, ?_, ⟨rfl, rfl, rfl, rfl, rfl⟩, rfl⟩
    simp [State.transition, State.answer, State.emit]

theorem State.logEntry_eq (s : State) (u sev kind detail obj a0 a1 a2 a3 : Nat) : s.logEntry u sev kind detail obj a0 a1 a2 a3 = { s with
    nvm := (s.logEntry u sev kind detail obj a0 a1 a2 a3).nvm, ben := (s.logEntry u sev kind detail obj a0 a1 a2 a3).ben } := by
  unfold State.logEntry
  split
  · rfl
  · exact State.admitLog_eq _ _

/-- A log entry leaves what it does not write of the NVM. -/
theorem logEntry_nvm {α : Type} {g : Nvm → α} (s : State) (u sev kind detail obj a0 a1 a2 a3 : Nat)
    (kept : ∀ (n : Nvm) l q, g { n with log := l, nextSeq := q } = g n) :
    g (s.logEntry u sev kind detail obj a0 a1 a2 a3).nvm = g s.nvm := by
  have written : ∀ e, g (s.nvm.writeLog e) = g s.nvm := fun e => kept s.nvm _ _
  unfold State.logEntry State.admitLog
  refine State.ite_keeps (π := fun t => g t.nvm) rfl ?_
  refine State.ite_keeps (π := fun t => g t.nvm) rfl (State.ite_keeps (π := fun t => g t.nvm) rfl (State.ite_keeps (π := fun t => g t.nvm) (written _) ?_))
  dsimp only
  split
  · exact written _
  · rfl

/-- A non-maskable event leaves the NVM but for the shut-down record, which it disarms (R433). -/
theorem raiseNme_nvm (s : State) (i : Nat) : (s.raiseNme i).nvm = s.nvm.disarm 4 := by
  unfold State.raiseNme
  dsimp only
  split
  · rw [State.signalVector_nvm]
  · rfl

theorem endSessions_eq (s : State) : s.endSessions = { s with spdm := { s.spdm with sessions := [], phase := 0 }, fp := s.endSessions.fp, out := s.endSessions.out } := by
  unfold State.endSessions
  dsimp only
  split
  · rw [State.raiseEvent_eq]
  · rfl

@[simp] theorem endSessions_nme (s : State) : s.endSessions.fp.nme = s.fp.nme := by
  unfold State.endSessions
  dsimp only
  split
  · rw [raiseEvent_nme]
  · rfl

/-- What every class above 0 records first: the log entry and the event HASP (R399). -/
def State.reportTrip (s : State) (i : Nat) : State :=
  (s.logEntry unitHasp (if haspClass s.hasp.cfg i = 1 then 3 else 4) kindFault i 0x81 i).raiseEvent evHasp

/-- The tamper record of a trip, and TAMPER (R399, R405). -/
def State.recordTamper (s : State) (i : Nat) (zeroizes : Bool) : State :=
  State.raiseNme { s with nvm := ({ s.nvm with
    tamperCount := inc 16 s.nvm.tamperCount, tamperLast := i, tamperZeroized := zeroizes
    tamperLc := s.fuse.lifecycle.code, tamperUptime := s.porNs / 1000000000 }).disarm 3 } nmeTamper

theorem actOnTrip_eq (s : State) (i : Nat) : s.actOnTrip i =
    if haspClass s.hasp.cfg i = 0 then s
    else if haspClass s.hasp.cfg i = 1 then s.reportTrip i
    else if haspClass s.hasp.cfg i = 2 then (s.reportTrip i).recordTamper i (haspClass s.hasp.cfg i = 3)
    else ((s.reportTrip i).recordTamper i (haspClass s.hasp.cfg i = 3)).zeroize.raiseNme nmeZeroized := rfl

/-- The report writes the log and the event alone. -/
theorem reportTrip_eq (s : State) (i : Nat) : s.reportTrip i = { s with
    nvm := (s.reportTrip i).nvm, ben := (s.reportTrip i).ben, fp := (s.reportTrip i).fp, out := (s.reportTrip i).out } := by
  unfold State.reportTrip
  rw [State.raiseEvent_eq, State.logEntry_eq]

theorem reportTrip_nme (s : State) (i : Nat) : (s.reportTrip i).fp.nme = s.fp.nme := by
  simp only [State.reportTrip, raiseEvent_nme, State.logEntry_fp]

theorem reportTrip_nvm {α : Type} {g : Nvm → α} (s : State) (i : Nat) (kept : ∀ (n : Nvm) l q, g { n with log := l, nextSeq := q } = g n) :
    g (s.reportTrip i).nvm = g s.nvm := by
  unfold State.reportTrip
  rw [State.raiseEvent_nvm]
  exact logEntry_nvm _ _ _ _ _ _ _ _ _ _ kept

/-- The record writes the NVM and the Front Panel alone. -/
theorem recordTamper_eq (s : State) (i : Nat) (z : Bool) : s.recordTamper i z = { s with
    nvm := (s.recordTamper i z).nvm, fp := (s.recordTamper i z).fp, out := (s.recordTamper i z).out } := by
  unfold State.recordTamper State.raiseNme
  dsimp only
  split
  · rfl
  · rfl

theorem recordTamper_nme (s : State) (i : Nat) (z : Bool) : (s.recordTamper i z).fp.nme = s.fp.nme ||| BitVec.twoPow 7 nmeTamper := raiseNme_nme _ _

theorem recordTamper_nvm (s : State) (i : Nat) (z : Bool) : (s.recordTamper i z).nvm.tamperCount = inc 16 s.nvm.tamperCount ∧
    (s.recordTamper i z).nvm.tamperLast = i ∧ (s.recordTamper i z).nvm.tamperZeroized = z := by
  unfold State.recordTamper
  rw [raiseNme_nvm]
  exact ⟨rfl, rfl, rfl⟩

theorem actOnTrip_class0 {s : State} {i : Nat} (cls : haspClass s.hasp.cfg i = 0) : s.actOnTrip i = s := by
  rw [actOnTrip_eq, if_pos cls]

theorem actOnTrip_class1 {s : State} {i : Nat} (cls : haspClass s.hasp.cfg i = 1) : s.actOnTrip i = s.reportTrip i := by
  rw [actOnTrip_eq, if_neg (by omega), if_pos cls]

theorem actOnTrip_class2 {s : State} {i : Nat} (cls : haspClass s.hasp.cfg i = 2) : s.actOnTrip i = (s.reportTrip i).recordTamper i false := by
  rw [actOnTrip_eq, if_neg (by omega), if_neg (by omega), if_pos cls, decide_eq_false (by omega)]

theorem actOnTrip_class3 {s : State} {i : Nat} (cls : haspClass s.hasp.cfg i = 3) :
    s.actOnTrip i = ((s.reportTrip i).recordTamper i true).zeroize.raiseNme nmeZeroized := by
  rw [actOnTrip_eq, if_neg (by omega), if_neg (by omega), if_neg (by omega), decide_eq_true cls]

/-- What zeroization leaves: no key, no session, the latch set (R401, R402). -/
theorem zeroize_clears (s : State) : s.zeroize.hasp = { s.hasp with latched := true } ∧ s.zeroize.ward.slots = [] ∧ s.zeroize.ward.keks = [] ∧
    s.zeroize.ward.cak = none ∧ s.zeroize.ward.drbg = false ∧ s.zeroize.spdm.sessions = [] ∧ s.zeroize.nvm = { s.nvm with erasePending := true } := by
  unfold State.zeroize
  rw [endSessions_eq]
  exact ⟨rfl, rfl, rfl, rfl, rfl, rfl, rfl⟩

/-- No response to a trip touches the link or the flows, and none takes a reading back. -/
theorem actOnTrip_keeps (s : State) (i : Nat) : (s.actOnTrip i).link = s.link ∧ (s.actOnTrip i).flows = s.flows ∧ (s.actOnTrip i).pwr = s.pwr ∧
    (s.actOnTrip i).hasp = { s.hasp with latched := (s.actOnTrip i).hasp.latched } := by
  rw [actOnTrip_eq]
  have reported : (s.reportTrip i).link = s.link ∧ (s.reportTrip i).flows = s.flows ∧ (s.reportTrip i).pwr = s.pwr ∧ (s.reportTrip i).hasp = s.hasp := by
    rw [reportTrip_eq]
    exact ⟨rfl, rfl, rfl, rfl⟩
  obtain ⟨link, flows, pwr, hasp⟩ := reported
  split
  · exact ⟨rfl, rfl, rfl, rfl⟩
  · split
    · exact ⟨link, flows, pwr, by rw [hasp]⟩
    · generalize decide (haspClass s.hasp.cfg i = 3) = z
      split
      · rw [recordTamper_eq]
        exact ⟨link, flows, pwr, by simp only [hasp]⟩
      · simp only [State.raiseNme_link, State.raiseNme_flows, State.raiseNme_pwr, State.raiseNme_hasp]
        rw [recordTamper_eq]
        unfold State.zeroize
        rw [endSessions_eq]
        exact ⟨link, flows, pwr, by simp only [hasp]⟩

/-- The state in which a sensor's condition has begun (R398, R399). -/
def State.sensed (s : State) (i : Nat) (temp : Int) : State := { s with hasp := { s.hasp with
  temp := temp, meshBroken := decide (i = 0) || s.hasp.meshBroken, tripped := s.hasp.tripped ||| BitVec.twoPow 7 i } }

theorem exec_haspTrip_begins {s : State} {i : Nat} (temp : Int) (por : s.pwr.porHeld = false) (small : i < 7) (new : s.hasp.tripped.getLsbD i = false) :
    exec (.haspTrip i true temp) s = .next ((s.sensed i temp).actOnTrip i) := by
  refine congrArg Host.Outcome.next ?_
  rw [por, if_neg (by simp [small])]
  dsimp only
  rw [if_pos rfl]
  by_cases mesh : i = 0
  · subst mesh
    rw [if_pos rfl, State.tripSensor, if_neg (ne_true_of_eq_false new)]
    rfl
  · rw [if_neg mesh, State.tripSensor, if_neg (ne_true_of_eq_false new)]
    simp only [State.sensed, mesh, decide_false, Bool.false_or]

theorem exec_meshCheck_broken {s : State} (por : s.pwr.porHeld = false) (new : s.hasp.tripped.getLsbD 0 = false) :
    exec (.meshCheck false) s = .next ((s.sensed 0 s.hasp.temp).actOnTrip 0) := by
  refine congrArg Host.Outcome.next ?_
  rw [por, if_neg (by decide), State.tripSensor, if_neg (ne_true_of_eq_false new)]
  rfl

/-- A broken mesh never reads intact again (R402). -/
theorem exec_haspTrip_broken {s : State} (temp : Int) (broken : s.hasp.meshBroken = true) (tripped : s.hasp.tripped.getLsbD 0 = true) :
    ∃ u : State, exec (.haspTrip 0 false temp) s = .next u ∧ u.hasp.tripped.getLsbD 0 = true := by
  refine ⟨_, rfl, ?_⟩
  split
  · exact tripped
  · simp only [Bool.false_eq_true, if_false, decide_true, broken, Bool.and_self, if_true]
    exact tripped

/-- Settles O44. -/
theorem haspRespondsByClass : Obligations.HaspRespondsByClass := by
  refine ⟨fun s i temp por small new => ?_, fun s i temp por small mesh => ?_, fun s por new cls => ?_⟩
  · obtain ⟨link, flows, -, hasp⟩ := actOnTrip_keeps (s.sensed i temp) i
    refine ⟨_, exec_haspTrip_begins temp por small new, by rw [hasp]; rfl, by rw [hasp]; rfl, fun cls => ?_, fun cls => ?_, fun cls => ?_, fun cls => ?_, link, flows⟩
    · rw [actOnTrip_class0 (s := s.sensed i temp) cls]
      exact ⟨rfl, rfl, rfl⟩
    · rw [actOnTrip_class1 (s := s.sensed i temp) cls]
      refine ⟨reportTrip_nme _ _, ?_, raiseEvent_flag rfl (by decide)⟩
      rw [reportTrip_eq]
      rfl
    · rw [actOnTrip_class2 (s := s.sensed i temp) cls]
      obtain ⟨count, last, -⟩ := recordTamper_nvm ((s.sensed i temp).reportTrip i) i false
      refine ⟨by rw [recordTamper_nme, reportTrip_nme]; rfl, ?_, ?_, last, ?_⟩
      · rw [recordTamper_eq, reportTrip_eq]
        rfl
      · rw [count, reportTrip_nvm (g := Nvm.tamperCount) _ _ fun _ _ _ => rfl]
        rfl
      · rw [recordTamper_eq, reportTrip_eq]
        rfl
    · rw [actOnTrip_class3 (s := s.sensed i temp) cls]
      obtain ⟨count, last, zeroized⟩ := recordTamper_nvm ((s.sensed i temp).reportTrip i) i true
      obtain ⟨latched, slots, keks, cak, drbg, sessions, nvm⟩ := zeroize_clears (((s.sensed i temp).reportTrip i).recordTamper i true)
      simp only [State.raiseNme_hasp, State.raiseNme_ward, State.raiseNme_spdm, raiseNme_nvm]
      refine ⟨?_, by rw [latched], slots, keks, cak, drbg, sessions, by rw [nvm]; rfl, by rw [nvm]; exact zeroized, ?_⟩
      · rw [raiseNme_nme]
        have kept : (((s.sensed i temp).reportTrip i).recordTamper i true).zeroize.fp.nme = (((s.sensed i temp).reportTrip i).recordTamper i true).fp.nme :=
          endSessions_nme _
        rw [kept, recordTamper_nme, reportTrip_nme]
        rfl
      · rw [nvm]
        refine Eq.trans ?_ (count.trans ?_)
        · rfl
        · rw [reportTrip_nvm (g := Nvm.tamperCount) _ _ fun _ _ _ => rfl]
          rfl
  · refine congrArg Host.Outcome.next ?_
    rw [por, if_neg (by simp [small])]
    dsimp only
    rw [if_neg (by decide)]
    by_cases first : i = 0
    · rw [mesh first, Bool.and_false, if_neg (by decide)]
    · rw [if_neg (by simp [first])]
  · obtain ⟨-, -, -, hasp⟩ := actOnTrip_keeps (s.sensed 0 s.hasp.temp) 0
    obtain ⟨latched, slots, -⟩ := zeroize_clears (((s.sensed 0 s.hasp.temp).reportTrip 0).recordTamper 0 true)
    have broken : ((s.sensed 0 s.hasp.temp).actOnTrip 0).hasp.meshBroken = true := by rw [hasp]; rfl
    have tripped : ((s.sensed 0 s.hasp.temp).actOnTrip 0).hasp.tripped.getLsbD 0 = true := by
      rw [hasp]
      simp [State.sensed]
    refine ⟨_, exec_meshCheck_broken por new, broken, tripped, ?_, ?_, fun temp => exec_haspTrip_broken temp broken tripped⟩
    · rw [actOnTrip_class3 (s := s.sensed 0 s.hasp.temp) cls, State.raiseNme_hasp, latched]
    · rw [actOnTrip_class3 (s := s.sensed 0 s.hasp.temp) cls, State.raiseNme_ward]
      exact slots

end Sys2Proof.Machine
end

section
/-! PROOFS. O59: the calibration blob. -/

namespace Sys2Proof.Machine

set_option Elab.async false

/-- The targets of an accepted blob (R246, R247). -/
theorem applyBlob_cal (s : State) (b : List Byte) :
    (s.applyBlob b).cal.reject = 0 ∧ (s.applyBlob b).cal.gen = leAt b 40 4 ∧ (s.applyBlob b).cal.dirty = false ∧
      s.applyBlob b = { s with cal := (s.applyBlob b).cal, dl := (s.applyBlob b).dl } := ⟨rfl, rfl, rfl, rfl⟩

/-- In link states 0 to 2 they are in force at once. -/
theorem applyBlob_down {s : State} (b : List Byte) (down : s.link.state ≤ 2) : (s.applyBlob b).cal.heldTargets = none ∧
    ∀ p : Pair, (s.applyBlob b).cal.pair.at p = ((s.cal.pair.at p).import (blobPair b p.val)).settle := by
  have free : (decide (s.link.state ≤ 2) || s.nativeData) = true := by simp [down]
  refine ⟨if_pos free, fun p => ?_⟩
  have pair : (s.applyBlob b).cal.pair = s.cal.pair.mapIdx (fun p c => s.release (c.import (blobPair b p.val))) := if_pos free
  rw [pair, Quad.at_mapIdx]
  exact if_pos down

/-- In native data they are approached by detents. -/
theorem applyBlob_data {s : State} (b : List Byte) (data : s.nativeData = true) : (s.applyBlob b).cal.heldTargets = none ∧
    ∀ p : Pair, (s.applyBlob b).cal.pair.at p = (s.cal.pair.at p).import (blobPair b p.val) := by
  have free : (decide (s.link.state ≤ 2) || s.nativeData) = true := by simp [data]
  have up : ¬ s.link.state ≤ 2 := by
    simp only [State.nativeData, Bool.and_eq_true, decide_eq_true_eq] at data
    omega
  refine ⟨if_pos free, fun p => ?_⟩
  have pair : (s.applyBlob b).cal.pair = s.cal.pair.mapIdx (fun p c => s.release (c.import (blobPair b p.val))) := if_pos free
  rw [pair, Quad.at_mapIdx]
  exact if_neg up

/-- In every other state they are held. -/
theorem applyBlob_held {s : State} (b : List Byte) (up : 2 < s.link.state) (other : s.nativeData = false) :
    (s.applyBlob b).cal.heldTargets = some (some b) ∧ (s.applyBlob b).cal.pair = s.cal.pair := by
  have held : ¬ (decide (s.link.state ≤ 2) || s.nativeData) = true := by simp [up, other]
  exact ⟨if_neg held, if_neg held⟩

@[simp] theorem begin_runSlot (s : State) (q : Request) : (s.begin q).runSlot = s.runSlot := by
  have nvm : (s.begin q).nvm.slotA = s.nvm.slotA ∧ (s.begin q).nvm.slotB = s.nvm.slotB := by
    unfold State.begin
    dsimp only
    split
    · exact ⟨rfl, rfl⟩
    · exact ⟨rfl, rfl⟩
  unfold State.runSlot
  rw [nvm.1, nvm.2, State.begin_ben]

/-- A request that is taken up changes nothing that the blob holds. -/
theorem begin_calBlob (s : State) (q : Request) (gen : Nat) : (s.begin q).calBlob gen = s.calBlob gen := by
  simp only [State.calBlob, begin_runSlot, State.settling, State.inKnuckle, State.lineTemp, State.begin_fuse, State.begin_link, State.begin_kn,
    State.begin_cal, State.begin_dl, State.begin_ben]
  rfl

theorem exec_calExport {s : State} {tag : BitVec 16} {q : Request} (takes : Takes s tag 0x51 q) (len : q.cap.len = 0) (ready : s.ready .line = true)
    (formed : calBufferOk q.cap [(32, 16)] = true) (buffer : s.bufferFault (q.cap.arg 32 8) 2240 true = none) :
    exec (.calExport tag) s =
      let s1 := (s.begin q).writeLines (q.cap.arg 32 8) 35 (s.calBlob (q.cap.arg 44 4) ++ List.replicate 44 0)
      .next (State.finish { s1 with cal := { s1.cal with dirty := false, gen := q.cap.arg 44 4 } } q .ok [(32, q.cap.arg 44 4)] []) := by
  refine next_runRequest takes ((guarded_begin takes (by simp [firstFail, len, ready, formed])).trans ?_)
  have found : (s.begin q).bufferFault (q.cap.arg 32 8) 2240 true = none := buffer
  rw [found]
  dsimp only
  rw [begin_calBlob]

section
variable {s : State} {tag : BitVec 16} {bytes : List Byte} {q : Request} (takes : Takes s tag 0x52 q) (len : q.cap.len = 0) (cal : s.cal.run = none)
  (diag : s.diag.run = none) (ready : s.ready .line = true) (formed : calBufferOk q.cap [(32, 12)] = true)
  (buffer : s.bufferFault (q.cap.arg 32 8) 2240 false = none)
include takes len cal diag ready formed buffer

theorem exec_calImport_refused {n : Nat} (rejects : s.blobReject (fitBytes 2196 bytes) = some n) : exec (.calImport tag bytes) s =
    .next (State.finish { s.begin q with cal := { s.cal with reject := n } } q .range [(32, 0), (8, n)] []) := by
  refine (congrArg Host.Outcome.next (if_neg (by simp [cal, diag]))).trans ?_
  refine next_runRequest takes ((guarded_begin takes (by simp [firstFail, len, ready, formed])).trans ?_)
  have found : (s.begin q).bufferFault (q.cap.arg 32 8) 2240 false = none := buffer
  have refuses : (s.begin q).blobReject (fitBytes 2196 bytes) = some n := rejects
  rw [found]
  dsimp only
  rw [refuses]
  rfl

theorem exec_calImport (accepts : s.blobReject (fitBytes 2196 bytes) = none) : exec (.calImport tag bytes) s =
    .next (((s.begin q).applyBlob (fitBytes 2196 bytes)).finish q .ok [(32, leAt (fitBytes 2196 bytes) 40 4)] []) := by
  refine (congrArg Host.Outcome.next (if_neg (by simp [cal, diag]))).trans ?_
  refine next_runRequest takes ((guarded_begin takes (by simp [firstFail, len, ready, formed])).trans ?_)
  have found : (s.begin q).bufferFault (q.cap.arg 32 8) 2240 false = none := buffer
  have takes' : (s.begin q).blobReject (fitBytes 2196 bytes) = none := accepts
  rw [found]
  dsimp only
  rw [takes']

end

/-- Settles O59. -/
theorem calibrationIsExportedAndImported : Obligations.CalibrationIsExportedAndImported := by
  refine ⟨fun s tag q takes len ready formed buffer => ?_, fun s tag bytes q takes len cal diag ready formed buffer =>
    ⟨fun n rejects => ⟨_, exec_calImport_refused takes len cal diag ready formed buffer rejects, rfl⟩, fun accepts => ?_⟩⟩
  · refine ⟨_, exec_calExport takes len ready formed buffer, ?_, rfl⟩
    dsimp only
    rw [writeLines_keeps State.cal (fun _ _ _ => rfl)]
    rfl
  · obtain ⟨reject, gen, dirty, shape⟩ := applyBlob_cal (s.begin q) (fitBytes 2196 bytes)
    refine ⟨_, exec_calImport takes len cal diag ready formed buffer accepts, reject, gen, dirty, fun down => ?_, fun data => ?_,
      fun up other => applyBlob_held (s := s.begin q) _ up other, shape⟩
    · obtain ⟨held, pair⟩ := applyBlob_down (s := s.begin q) (fitBytes 2196 bytes) down
      refine ⟨held, fun p => ?_⟩
      rw [pair p]
      exact ⟨rfl, rfl, rfl⟩
    · obtain ⟨held, pair⟩ := applyBlob_data (s := s.begin q) (fitBytes 2196 bytes) data
      refine ⟨held, fun p => ?_⟩
      rw [pair p]
      exact ⟨rfl, rfl, rfl, rfl⟩

end Sys2Proof.Machine
end

section
/-! PROOFS. O18 and O19: what the end of a self-test leaves alone, the self-tests and the shut-down record. -/

namespace Sys2Proof.Machine

set_option Elab.async false

/-! ### What follows the end of a self-test -/

/-- What of a state neither a falling line nor the end of a test writes, once the test is recorded. -/
def State.testRest (s : State) : State :=
  let u := s.lineRest
  { u with
    link := {}, dl := {}, nvm := { u.nvm with sd := none }, ben := { u.ben with sdPrep := false }, cyo := { u.cyo with inbox := [], held := [] } }

/-- A step of what follows the end of a test: besides what a fall of the line writes it changes the link, the die link, the shut-down record and the
requests that wait, and clears no event. -/
structure TestStep (s t : State) : Prop where
  rest : t.testRest = s.testRest
  event : ∀ i, s.fp.event.getLsbD i = true → t.fp.event.getLsbD i = true

theorem LineFall.test {s t : State} (h : LineFall s t) : TestStep s t := by
  refine ⟨?_, h.event⟩
  unfold State.testRest
  rw [h.rest]

theorem LineStep.test {s t : State} (h : LineStep s t) : TestStep s t := h.fall.test

namespace TestStep

theorem refl (s : State) : TestStep s s := ⟨rfl, fun _ h => h⟩

theorem trans {s t u : State} (a : TestStep s t) (b : TestStep t u) : TestStep s u :=
  ⟨b.rest.trans a.rest, fun i h => b.event i (a.event i h)⟩

theorem ite {s a b : State} {c : Prop} [Decidable c] (ha : TestStep s a) (hb : TestStep s b) : TestStep s (if c then a else b) := by
  split
  · exact ha
  · exact hb

variable (s : State)

theorem dl (d : DieLink) : TestStep s { s with dl := d } := ⟨rfl, fun _ h => h⟩

theorem retireElement (test target : Nat) : TestStep s (s.retireElement test target) :=
  ite (LineStep.repairCause s target 5 true).test (refl s)

theorem laneToSpare (t : Nat) : TestStep s (s.laneToSpare t) := dl s _

theorem dielinkFall : TestStep s s.dielinkFall :=
  ite ((dl s _).trans (LineFall.linkFail _ _ _ _).test) (refl s)

theorem startSearch : TestStep s s.startSearch := (dl s _).trans (dielinkFall _)

theorem releaseHeld : TestStep s s.releaseHeld := ⟨rfl, fun _ h => h⟩

theorem finishShutdown : TestStep s s.finishShutdown := by
  unfold State.finishShutdown
  refine ite (refl s) (TestStep.trans ?_ (LineStep.endRun _ _ _ _ _).test)
  exact ⟨rfl, fun _ h => h⟩

/-- What follows the recording of a test's end. -/
theorem afterTest (r : BistRun) (p : Capsule → Bool) (results : List (Nat × Nat)) :
    let u := (s.endRun 0x54 p .ok results).finishShutdown
    TestStep s (if r.test ≥ 0x10 then u.startSearch else u).releaseHeld := by
  have ended := (LineStep.endRun s 0x54 p .ok results).test.trans (finishShutdown _)
  exact (ite (ended.trans (startSearch _)) ended).trans (releaseHeld _)

variable {s} {t : State} (h : TestStep s t)
include h

theorem bist : t.bist = s.bist := (congrArg State.bist h.rest :)

theorem nme : t.fp.nme = s.fp.nme := (congrArg (fun u : State => u.fp.nme) h.rest :)

theorem time : t.time = s.time := (congrArg State.time h.rest :)

/-- What of Benash neither the log nor the programs nor SHUTDOWN_PREP hold. -/
theorem ben : { t.ben.lineRest with sdPrep := false } = { s.ben.lineRest with sdPrep := false } := (congrArg State.ben h.rest :)

theorem nvm : { t.nvm.lineRest with sd := none } = { s.nvm.lineRest with sd := none } := (congrArg State.nvm h.rest :)

end TestStep

/-- BIST_LAST once a test's end is recorded (R437, R443). -/
theorem recordTest_bist (s : State) (test target result ended done since : Nat) (sig : BitVec 64) :
    (s.recordTest test target result ended done since sig).bist = { s.bist with
      run := none
      runs := inc 16 s.bist.runs
      fails := if result = 1 then inc 16 s.bist.fails else s.bist.fails
      lastTest := test, lastTarget := target, lastResult := result, lastEnd := ended, lastDone := done, lastPlanned := bistSteps test
      lastCoverage := bistCoverage test, lastDuration := (s.time - since) / 1000, lastSignature := sig } := by
  unfold State.recordTest
  dsimp only
  split
  · rfl
  · rw [State.raiseEvent_bist]

/-- Recording a test's end writes BIST_LAST and the event alone. -/
theorem recordTest_test (s : State) (test target result ended done since : Nat) (sig : BitVec 64) :
    ∃ b : Bist, TestStep { s with bist := b } (s.recordTest test target result ended done since sig) := by
  unfold State.recordTest
  dsimp only
  split
  · exact ⟨_, TestStep.refl _⟩
  · exact ⟨_, (LineStep.raiseEvent _ evBenash).test⟩

/-- The result of a test that is cut short: FAIL when a completed step had failed, else INCOMPLETE (R437). -/
def State.abortResult (s : State) (r : BistRun) : Nat :=
  if decide (0 < s.stepsDone r) && freeTestFailed r.draw s.time then 1 else 2

theorem abortTest_idle {s : State} {ended : Nat} (idle : s.bist.run = none) : s.abortTest ended = s := by
  unfold State.abortTest
  rw [idle]

theorem abortTest_running {s : State} {ended : Nat} {r : BistRun} (running : s.bist.run = some r) : TestStep
    (s.recordTest r.test r.target (s.abortResult r) ended (s.stepsDone r) r.since (freeTestSignature r.draw s.time)) (s.abortTest ended) := by
  unfold State.abortTest
  rw [running]
  refine TestStep.trans ?_ (TestStep.afterTest _ r _ _)
  exact TestStep.ite (TestStep.retireElement _ _ _) (TestStep.refl _)

/-- A test that is cut short changes the self-test unit, and for the rest what its end changes. -/
theorem abortTest_test (s : State) (ended : Nat) : ∃ b : Bist, TestStep { s with bist := b } (s.abortTest ended) := by
  cases running : s.bist.run with
  | none => exact ⟨s.bist, (abortTest_idle running).symm ▸ TestStep.refl s⟩
  | some r =>
    obtain ⟨b, recorded⟩ := recordTest_test s r.test r.target (s.abortResult r) ended (s.stepsDone r) r.since (freeTestSignature r.draw s.time)
    exact ⟨b, recorded.trans (abortTest_running running)⟩

/-! ### The self-test commands -/

@[simp] theorem begin_bistMayStart (s : State) (q : Request) : (s.begin q).bistMayStart = s.bistMayStart := rfl

theorem exec_bistRun {s : State} {tag : BitVec 16} {q : Request} (takes : Takes s tag 0x54 q) (plain : Plain q [(28, 4)]) (ready : s.ready .bist = true)
    (idle : s.bist.run = none) (target : s.bistTargetOk (q.cap.arg 28 2) (q.cap.arg 30 2) = true)
    (free : (s.begin q).bistTargetFree (q.cap.arg 28 2) (q.cap.arg 30 2) = true) (start : s.bistMayStart = true)
    (line : q.cap.arg 28 2 = 2 ∨ q.cap.arg 28 2 = 3 → s.ready .line = true) : exec (.bistRun tag) s =
      let u := if 2 ≤ q.cap.arg 28 2 && q.cap.arg 28 2 ≠ 4 then (s.begin q).leaveDormant else s.begin q
      .next (((u.startTest (q.cap.arg 28 2) (q.cap.arg 30 2)).startRun q).stopBackground (q.cap.arg 28 2) (q.cap.arg 30 2)) := by
  obtain ⟨len, fields⟩ := plain
  refine next_runRequest takes ((guarded_begin takes ?_).trans rfl)
  have none : (s.begin q).bist.run = none := idle
  have targetOk : (s.begin q).bistTargetOk (q.cap.arg 28 2) (q.cap.arg 30 2) = true := target
  have bist : (s.begin q).ready .bist = true := (begin_ready s q .bist).trans ready
  have lineOk : ((decide (q.cap.arg 28 2 = 2) || decide (q.cap.arg 28 2 = 3)) && !(s.begin q).ready .line) = false := by
    rw [begin_ready]
    by_cases needs : q.cap.arg 28 2 = 2 ∨ q.cap.arg 28 2 = 3
    · rw [line needs, Bool.not_true, Bool.and_false]
    · simp [not_or.mp needs]
  rw [none]
  simp only [firstFail, len, fields, targetOk, bist, lineOk, free, begin_bistMayStart, start, ne_eq, not_true, decide_false, Bool.not_true, Bool.not_false,
    Bool.or_false, Bool.and_false, Bool.false_eq_true, if_false]

theorem stopBackground_eq (s : State) (test target : Nat) : s.stopBackground test target = { s with diag := (s.stopBackground test target).diag } := by
  unfold State.stopBackground
  split
  · rfl
  · rfl

theorem leaveDormant_eq (s : State) : s.leaveDormant = { s with pwr := s.leaveDormant.pwr } := by
  unfold State.leaveDormant
  split
  · rfl
  · rfl

theorem exec_bistAbort {s : State} {tag : BitVec 16} {q : Request} {r : BistRun} (takes : Takes s tag 0x55 q) (plain : Plain q [(28, 4)])
    (ready : s.ready .bist = true) (running : s.bist.run = some r) (test : r.test = q.cap.arg 28 2) (target : r.target = q.cap.arg 30 2)
    (prep : s.ben.sdPrep = false) : exec (.bistAbort tag) s = .next (((s.begin q).abortTest 1).finish q .ok [] []) := by
  obtain ⟨len, fields⟩ := plain
  refine next_runRequest takes ((guarded_begin takes ?_).trans rfl)
  have run : (s.begin q).bist.run = some r := running
  rw [run]
  simp [firstFail, len, fields, ready, test, target, prep]

/-- The result that a test's end records (R437). -/
def testResult (e : TestEnd) (r : BistRun) : Nat :=
  if e.failed || !e.restored || (decide (e.done ≥ r.planned) && e.signature ≠ expectedSignature r.test r.target) then 1
  else if e.done ≥ r.planned then 0 else 2

theorem bistTestEnd_test {s : State} (e : TestEnd) {r : BistRun} (running : s.bist.run = some r) : ∃ t : State, exec (.bistTestEnd e) s = .next t ∧
    TestStep (s.recordTest r.test r.target (testResult e r) 0 (min e.done r.planned) r.since e.signature) t := by
  refine ⟨_, congrArg Host.Outcome.next (by rw [running]), ?_⟩
  dsimp only
  unfold testResult
  refine TestStep.trans ?_ (TestStep.afterTest _ r _ _)
  exact TestStep.ite (TestStep.retireElement _ _ _) (TestStep.ite (TestStep.laneToSpare _ _) (TestStep.refl _))

/-- Settles O18. -/
theorem selfTestsRunAndEnd : Obligations.SelfTestsRunAndEnd := by
  refine ⟨fun s tag q takes plain ready idle target free start line => ?_, fun s tag q r takes plain ready running test target prep => ?_,
    fun s e r running => ?_⟩
  · refine ⟨_, exec_bistRun takes plain ready idle target free start line, ?_⟩
    rw [stopBackground_eq]
    split
    · rw [leaveDormant_eq]
      exact ⟨rfl, rfl, rfl, rfl⟩
    · exact ⟨rfl, rfl, rfl, rfl⟩
  · have bist := (abortTest_running (s := s.begin q) (ended := 1) running).bist
    rw [recordTest_bist] at bist
    refine ⟨_, exec_bistAbort takes plain ready running test target prep, ?_⟩
    rw [bist]
    refine ⟨rfl, rfl, ?_, rfl, rfl, rfl⟩
    dsimp only [State.abortResult]
    split
    · decide
    · decide
  · obtain ⟨t, ends, step⟩ := bistTestEnd_test e running
    have bist := step.bist
    rw [recordTest_bist] at bist
    refine ⟨t, ends, ?_⟩
    rw [bist]
    refine ⟨rfl, rfl, rfl, rfl, fun good restored full signed => ?_, fun failed => ?_, fun good restored part => ?_⟩
    · have result : testResult e r = 0 := by simp [testResult, good, restored, full, signed]
      rw [result]
      exact ⟨rfl, rfl⟩
    · have result : testResult e r = 1 := by simp [testResult, failed]
      rw [result]
      exact ⟨rfl, rfl⟩
    · have result : testResult e r = 2 := by simp [testResult, good, restored, Nat.not_le.mpr part]
      exact result

/-! ### The start-up test and the shut-down record -/

theorem loadFirst_keeps (s : State) : s.loadFirst.bist = s.bist ∧ s.loadFirst.fp = s.fp := by
  unfold State.loadFirst
  split
  · exact ⟨rfl, rfl⟩
  · exact ⟨rfl, rfl⟩

/-- With nothing failed the start-up test's end retires nothing. -/
theorem retireFailed_none {e : StartUpEnd} (s : State) (engines : e.engines = []) (lanesOut : e.lanesOut = []) (lanesIn : e.lanesIn = [])
    (slices : e.slices = []) (cells : e.cells = []) : s.retireFailed e = s := by
  unfold State.retireFailed
  rw [engines, lanesOut, lanesIn, slices, cells]
  rfl

/-- A start-up test in which nothing failed reports nothing. -/
theorem startUp_none (excursion : Bool) (sig : BitVec 64) : StartUpEnd.failed
    { excursion := excursion, engines := [], lanesOut := [], lanesIn := [], slices := [], cells := [], ldpc := false, pairs := 0, signature := sig } = [] := by
  simp [StartUpEnd.failed]

theorem exec_startUpTestEnd {s : State} {e : StartUpEnd} (startup : s.bist.startup = true) (good : e.excursion = false) (engines : e.engines = [])
    (lanesOut : e.lanesOut = []) (lanesIn : e.lanesIn = []) (slices : e.slices = []) (cells : e.cells = []) (ldpc : e.ldpc = false) (pairs : e.pairs = 0)
    (signature : e.signature = expectedSignature (if s.ben.startFull then 0x10 else 0x11) 0) : exec (.startUpTestEnd e) s =
      let t := if s.ben.startFull then 0x10 else 0x11
      .next ((State.recordTest { s with bist := { s.bist with startup := false, passed := true, ldpcFail := e.ldpc, lineFail := e.pairs } }
        t 0 0 0 (bistSteps t) s.bist.startupSince e.signature).loadFirst) := by
  obtain ⟨excursion, es, outs, ins, sls, cs, ld, ps, sig⟩ := e
  dsimp only at good engines lanesOut lanesIn slices cells ldpc pairs signature
  subst good engines lanesOut lanesIn slices cells ldpc pairs
  refine congrArg Host.Outcome.next ?_
  rw [startup, if_neg (by decide), if_neg Bool.false_ne_true]
  simp only [List.filter_nil, startUp_none, List.length_nil, List.foldl_nil, signature, decide_true, Bool.and_self, if_true]
  rw [retireFailed_none _ rfl rfl rfl rfl rfl]

theorem bistMayStart_adminDown (s : State) : s.adminDown.bistMayStart = s.bistMayStart := by
  have rest := (LineFall.adminDown s).test.rest
  have cond : s.adminDown.ben.cond = s.ben.cond := (congrArg (fun u : State => u.ben.cond) rest :)
  have supplies : s.adminDown.ben.supplies = s.ben.supplies := (congrArg (fun u : State => u.ben.supplies) rest :)
  have clk : s.adminDown.clk = s.clk := (congrArg State.clk rest :)
  simp only [State.bistMayStart, cond, supplies, clk]

theorem exec_shutdownPrep {s : State} {tag : BitVec 16} {q : Request} (takes : Takes s tag 0x5C q) (plain : Plain q []) (idle : s.bist.run = none)
    (start : s.bistMayStart = true) : exec (.shutdownPrep tag) s =
      .next (((((s.begin q).adminDown).startRun q).modBen (fun b => { b with sdPrep := true })).startTest 0x10 0) := by
  obtain ⟨len, fields⟩ := plain
  refine next_runRequest takes ((guarded_begin takes (by simp [firstFail, len, fields])).trans ?_)
  have begun : (s.begin q).abortTest 5 = s.begin q := abortTest_idle (s := s.begin q) idle
  rw [begun]
  exact if_pos ((bistMayStart_adminDown (s.begin q)).trans start)

/-- Settles O19. -/
theorem theShutDownRecordIsKept : Obligations.TheShutDownRecordIsKept := by
  refine ⟨fun s e startup good engines lanesOut lanesIn slices cells ldpc pairs signature => ?_, fun s tag q takes plain idle start =>
    exec_shutdownPrep takes plain idle start, fun s r held armed => ?_⟩
  · refine ⟨_, exec_startUpTestEnd startup good engines lanesOut lanesIn slices cells ldpc pairs signature, ?_⟩
    rw [(loadFirst_keeps _).1, (loadFirst_keeps _).2, recordTest_bist]
    exact ⟨rfl, rfl, rfl, rfl, pairs, ldpc, rfl⟩
  · refine ⟨_, rfl, ?_, rfl⟩
    simp [Nvm.disarm, held, armed]

end Sys2Proof.Machine
end

section
/-! PROOFS. O20: sensors and memory. -/

namespace Sys2Proof.Machine

set_option Elab.async false

/-! ### The start of a Benash restart -/

/-- A test that is cut short leaves what it does not write of Benash. -/
theorem abortTest_ben {α : Type} (g : Benash → α) (kept : ∀ b : Benash, g { b.lineRest with sdPrep := false } = g b) (s : State) (ended : Nat) :
    g (s.abortTest ended).ben = g s.ben := by
  obtain ⟨b, step⟩ := abortTest_test s ended
  exact (kept _).symm.trans ((congrArg g step.ben).trans (kept _))

/-- And what it does not write of the NVM. -/
theorem abortTest_nvm {α : Type} (g : Nvm → α) (kept : ∀ n : Nvm, g { n.lineRest with sd := none } = g n) (s : State) (ended : Nat) :
    g (s.abortTest ended).nvm = g s.nvm := by
  obtain ⟨b, step⟩ := abortTest_test s ended
  exact (kept _).symm.trans ((congrArg g step.nvm).trans (kept _))

theorem endSessions_event {s : State} {i : Nat} (set : s.fp.event.getLsbD i = true) : s.endSessions.fp.event.getLsbD i = true := by
  unfold State.endSessions
  dsimp only
  split
  · exact (LineStep.raiseEvent _ evWard).event i set
  · exact set

/-- Benash as a restart begins (R303, R366). -/
theorem startRestart_ben (s : State) : s.startRestart.ben = { (s.abortTest 4).ben with
    up := false, restartSince := some s.time, fallback := false, restarts := inc 16 (s.abortTest 4).ben.restarts
    restartTimes := s.time :: (s.abortTest 4).ben.restartTimes.filter (fun t => decide (s.time < t + 600000000000)) } := by
  unfold State.startRestart
  dsimp only
  rw [endSessions_eq]

theorem startRestart_nvm (s : State) : s.startRestart.nvm = (s.abortTest 4).nvm := by
  unfold State.startRestart
  rw [endSessions_eq]

theorem startRestart_nme (s : State) : s.startRestart.fp.nme = s.fp.nme := by
  obtain ⟨b, step⟩ := abortTest_test s 4
  exact (endSessions_nme _).trans step.nme

theorem startRestart_event {s : State} {i : Nat} (set : s.fp.event.getLsbD i = true) : s.startRestart.fp.event.getLsbD i = true := by
  obtain ⟨b, step⟩ := abortTest_test s 4
  exact endSessions_event (step.event i set)

/-- Without a test in progress a restart leaves the rings and the link. -/
theorem startRestart_idle {s : State} (idle : s.bist.run = none) : s.startRestart.kw = s.kw ∧ s.startRestart.link = s.link := by
  unfold State.startRestart
  rw [abortTest_idle idle, endSessions_eq]
  exact ⟨rfl, rfl⟩

/-! ### Sensors and memory -/

/-- A step that leaves the readings and the critical condition, and clears no non-maskable event. -/
structure Watched (s t : State) : Prop where
  temps : t.ben.temps = s.ben.temps
  supplies : t.ben.supplies = s.ben.supplies
  critical : t.ben.cond.critical = s.ben.cond.critical
  nme : ∀ i, s.fp.nme.getLsbD i = true → t.fp.nme.getLsbD i = true

namespace Watched

theorem refl (s : State) : Watched s s := ⟨rfl, rfl, rfl, fun _ h => h⟩

theorem trans {s t u : State} (a : Watched s t) (b : Watched t u) : Watched s u :=
  ⟨b.temps.trans a.temps, b.supplies.trans a.supplies, b.critical.trans a.critical, fun i h => b.nme i (a.nme i h)⟩

theorem ite {s a b : State} {c : Prop} [Decidable c] (ha : Watched s a) (hb : Watched s b) : Watched s (if c then a else b) := by
  split
  · exact ha
  · exact hb

theorem foldl {α : Type} {f : State → α → State} (each : ∀ u x, Watched u (f u x)) (l : List α) (s : State) : Watched s (l.foldl f s) := by
  induction l generalizing s with
  | nil => exact refl s
  | cons x l ih => exact (each s x).trans (ih _)

theorem of_test {s t : State} (h : TestStep s t) : Watched s t :=
  ⟨(congrArg Benash.temps h.ben :), (congrArg Benash.supplies h.ben :), (congrArg (fun b : Benash => b.cond.critical) h.ben :),
    fun i set => by rw [h.nme]; exact set⟩

variable (s : State)

theorem raiseEvent (i : Nat) : Watched s (s.raiseEvent i) := of_test (LineStep.raiseEvent s i).test

theorem raiseNme (i : Nat) : Watched s (s.raiseNme i) := by
  refine ⟨by rw [State.raiseNme_ben], by rw [State.raiseNme_ben], by rw [State.raiseNme_ben], fun k set => ?_⟩
  rw [raiseNme_nme, BitVec.getLsbD_or, set, Bool.true_or]

theorem limitLog (f sev v l n : Nat) : Watched s (s.limitLog f sev v l n) := of_test (LineStep.logEntry _ _ _ _ _ _ _ _ _ _).test

theorem supplyChange (i : Nat) (critical begins : Bool) (v : Nat) : Watched s (s.supplyChange i critical begins v) := by
  unfold State.supplyChange
  exact ite (ite ((raiseNme _ _).trans (limitLog _ _ _ _ _ _)) ((raiseEvent _ _).trans (limitLog _ _ _ _ _ _)))
    ((raiseEvent _ _).trans (limitLog _ _ _ _ _ _))

theorem judgeSupply (critical : Bool) (i v : Nat) : Watched s (s.judgeSupply critical i v) := by
  unfold State.judgeSupply
  have judged : ∀ u v : Conditions, u.critical = s.ben.cond.critical → v.critical = s.ben.cond.critical →
      Watched s { s with ben := { s.ben with cond := if critical then u else v } } := fun u v hu hv => by
    refine ⟨rfl, rfl, ?_, fun _ h => h⟩
    cases critical
    · exact hv
    · exact hu
  refine ite (Watched.trans ?_ (supplyChange _ _ _ _ _)) ?_
  · exact judged _ _ rfl rfl
  · exact judged _ _ rfl rfl

theorem abortTest (ended : Nat) : Watched s (s.abortTest ended) := by
  obtain ⟨b, step⟩ := abortTest_test s ended
  exact ⟨(of_test step).temps, (of_test step).supplies, (of_test step).critical, (of_test step).nme⟩

theorem bist (b : Bist) : Watched s { s with bist := b } := ⟨rfl, rfl, rfl, fun _ h => h⟩

theorem excursion : Watched s s.excursion := by
  refine Watched.trans ?_ (abortTest _ 3)
  unfold State.startupExcursion
  exact ite (refl s) (ite ((bist s _).trans (of_test (LineStep.logEntry _ _ _ _ _ _ _ _ _ _).test)) (bist s _))

theorem startTest (test target : Nat) : Watched s (s.startTest test target) := ⟨rfl, rfl, rfl, fun _ h => h⟩

end Watched

/-- The junction condition that judging leaves: critical at 115 °C or more, and THERMAL as it begins (Table 13-3). -/
theorem judgeTemps_critical (s : State) : s.judgeTemps.ben.temps = s.ben.temps ∧ s.judgeTemps.ben.supplies = s.ben.supplies ∧
    s.judgeTemps.ben.cond.critical = decide (1150 ≤ s.junction) ∧
    (s.ben.cond.critical = false → 1150 ≤ s.junction → s.judgeTemps.fp.nme.getLsbD nmeThermal = true) := by
  unfold State.judgeTemps
  dsimp only
  generalize judged : ({ s with ben := { s.ben with cond := _, tempMax := _ } } : State) = s0
  have temps : s0.ben.temps = s.ben.temps := by rw [← judged]
  have supplies : s0.ben.supplies = s.ben.supplies := by rw [← judged]
  have critical : s0.ben.cond.critical = decide (1150 ≤ s.junction) := by rw [← judged]
  have warmed : ∀ {c : Prop} [Decidable c] (u : State) (sev v l : Nat), Watched u (if c then (u.raiseEvent evBenash).limitLog tempWarnRow sev v l 0 else u) :=
    fun u _ _ _ => .ite ((Watched.raiseEvent _ _).trans (.limitLog _ _ _ _ _ _)) (.refl u)
  generalize first : (if _ ≠ s.ben.cond.hot then (s0.raiseEvent evBenash).limitLog tempWarnRow _ _ _ _ else s0) = s1
  have step1 : Watched s0 s1 := first ▸ warmed s0 _ _ _
  generalize second : (if _ ≠ s.ben.cond.cold then (s1.raiseEvent evBenash).limitLog tempWarnRow _ _ _ _ else s1) = s2
  have step2 : Watched s0 s2 := step1.trans (second ▸ warmed s1 _ _ _)
  have whole : ∀ {t : State}, Watched s2 t → t.ben.temps = s.ben.temps ∧ t.ben.supplies = s.ben.supplies ∧ t.ben.cond.critical = decide (1150 ≤ s.junction) :=
    fun step => ⟨(step2.trans step).temps.trans temps, (step2.trans step).supplies.trans supplies, (step2.trans step).critical.trans critical⟩
  split
  next same =>
    obtain ⟨t, v, c⟩ := whole (Watched.refl s2)
    exact ⟨t, v, c, fun low high => absurd (same.symm.trans (decide_eq_true high)) (by simp [low])⟩
  next =>
    split
    next hot =>
      have down : ∀ u : State, Watched u (if s.ben.thermalAct = true then u.adminDown else u) :=
        fun u => .ite (.of_test (LineFall.adminDown u).test) (.refl u)
      have ends := (Watched.limitLog (s2.raiseNme nmeThermal) tempWarnRow 4 (ofInt 32 s.junction) 1150 0).trans (down _)
      obtain ⟨t, v, c⟩ := whole ((Watched.raiseNme s2 nmeThermal).trans ends)
      exact ⟨t, v, c, fun _ _ => ends.nme _ (raiseNme_bit s2 (by decide))⟩
    next cool =>
      obtain ⟨t, v, c⟩ := whole ((Watched.raiseEvent s2 evBenash).trans (.limitLog _ _ _ _ _ _))
      exact ⟨t, v, c, fun _ high => absurd (decide_eq_true high) cool⟩

theorem foldl_max_lt {l : List Int} {a b : Int} : l.foldl max a < b ↔ a < b ∧ ∀ x ∈ l, x < b := by
  induction l generalizing a with
  | nil => simp
  | cons x l ih => simp [ih, and_assoc]

/-- The junction lies below a bound when every reading does (R416). -/
theorem junction_lt {s : State} (six : s.ben.temps.length = 6) {b : Int} : s.junction < b ↔ ∀ x ∈ s.ben.temps, x < b := by
  cases held : s.ben.temps with
  | nil => simp [held] at six
  | cons x l => simp [State.junction, held, foldl_max_lt]

theorem exec_sensorRead {s : State} {temps : List Int} {supplies : List Nat} (por : s.pwr.porHeld = false) (warm : s.pwr.warmHeld = false)
    (six : temps.length = 6) (ten : supplies.length = 10) : ∃ t : State, exec (.sensorRead temps supplies) s = .next t ∧
      Watched (State.judgeTemps { s with ben := { s.ben with temps := temps, supplies := supplies } }) t := by
  refine ⟨_, congrArg Host.Outcome.next (if_neg (by simp [por, warm, six, ten])), ?_⟩
  have judged : ∀ u : State, Watched u (supplies.zipIdx.foldl (fun st e => (st.judgeSupply false e.2 e.1).judgeSupply true e.2 e.1) u) :=
    Watched.foldl (fun u e => (Watched.judgeSupply u _ _ _).trans (Watched.judgeSupply _ _ _ _)) _
  exact Watched.ite ((judged _).trans (Watched.excursion _)) (Watched.ite ((judged _).trans (Watched.startTest _ _ _)) (judged _))

/-- A reading below the threshold of a monitor that has raised no alarm is recorded and nothing else happens (R418). -/
theorem measureAging_quiet {s : State} {m r e : Nat} (quiet : (s.ben.aging.getD m {}).alarm = false) (low : r < s.ben.agingThr * 10) :
    ∃ a : Aging, (a.reading, a.element) = (r, e) ∧ a.alarm = false ∧
      s.measureAging m r e = { s with ben := { s.ben with aging := setAt s.ben.aging m a } } := by
  have none : ((s.ben.aging.getD m {}).alarm || decide (s.ben.agingThr * 10 ≤ r)) = false := by
    rw [quiet, decide_eq_false (Nat.not_le.mpr low)]
    rfl
  unfold State.measureAging
  dsimp only
  rw [none]
  exact ⟨_, rfl, rfl, if_neg (by simp)⟩

/-- The records of the monitors from the k-th on, once each has found its reading. -/
theorem agingMeasure_records {s : State} {rs : List (Nat × Nat)} {thr : Nat} {f : State → List (Nat × Nat) × Nat → State}
    (measures : ∀ st x r, s.agingReading x.2 x.1 = some r → f st x = st.measureAging x.2 r.1 r.2) (l : List (List (Nat × Nat))) (k : Nat) (u : State) (all : k + l.length = 12)
    (finds : ∀ j, j < l.length → s.agingReading (k + j) (l.getD j []) = some (rs.getD (k + j) (0, 0))) (low : ∀ m < 12, (rs.getD m (0, 0)).1 < thr * 10)
    (limit : u.ben.agingThr = thr) (twelve : u.ben.aging.length = 12) (quiet : ∀ a ∈ u.ben.aging, a.alarm = false) :
    let t := (l.zipIdx k).foldl f u
    t = { u with ben := { u.ben with aging := t.ben.aging } } ∧ t.ben.aging.length = 12 ∧ (∀ a ∈ t.ben.aging, a.alarm = false) ∧
      ∀ m < 12, ((t.ben.aging.getD m {}).reading, (t.ben.aging.getD m {}).element) =
        if m < k then ((u.ben.aging.getD m {}).reading, (u.ben.aging.getD m {}).element) else rs.getD m (0, 0) := by
  induction l generalizing k u with
  | nil =>
    have last : k = 12 := by simpa using all
    refine ⟨rfl, twelve, quiet, fun m small => ?_⟩
    rw [if_pos (by omega)]
    rfl
  | cons x l ih =>
    have inside : k < 12 := by simp at all; omega
    have found : s.agingReading k x = some (rs.getD k (0, 0)) := finds 0 (by simp)
    have silent : (u.ben.aging.getD k {}).alarm = false := by
      rw [List.getD_eq_getElem _ _ (by omega)]
      exact quiet _ (List.getElem_mem _)
    obtain ⟨a, reading, alarm, step⟩ := measureAging_quiet (s := u) (m := k) (e := (rs.getD k (0, 0)).2) silent (limit ▸ low k inside)
    have rest := ih (k + 1) (u.measureAging k (rs.getD k (0, 0)).1 (rs.getD k (0, 0)).2) (by simp at all; omega)
      (fun j small => by
        have next := finds (j + 1) (by simpa using small)
        rw [List.getD_cons_succ] at next
        rw [show k + 1 + j = k + (j + 1) by omega]
        exact next)
      (by rw [step]; exact limit) (by rw [step]; exact (List.length_set ..).trans twelve)
      (by
        rw [step]
        intro b mem
        rcases List.mem_or_eq_of_mem_set mem with old | rfl
        · exact quiet b old
        · exact alarm)
    rw [List.zipIdx_cons, List.foldl_cons]
    dsimp only at rest ⊢
    rw [measures u (x, k) _ found]
    obtain ⟨shape, length, clear, records⟩ := rest
    refine ⟨?_, length, clear, fun m small => ?_⟩
    · rw [step] at shape ⊢
      exact shape
    · rw [records m small, step]
      rcases Nat.lt_trichotomy m k with before | rfl | after
      · rw [if_pos (by omega), if_pos before]
        simp [setAt, List.getD_eq_getElem?_getD, List.getElem?_set_ne (Nat.ne_of_gt before)]
      · rw [if_pos (by omega), if_neg (by omega)]
        simp only [setAt, List.getD_eq_getElem?_getD, List.getElem?_set_self (show m < u.ben.aging.length by omega), Option.getD_some]
        exact reading
      · rw [if_neg (by omega), if_neg (by omega)]

/-- What every monitor finds is recorded, without an alarm. -/
theorem agingMeasure_quiet {s : State} {fs : List (List (Nat × Nat))} {rs : List (Nat × Nat)} (up : s.ben.up = true) (length : fs.length = 12)
    (monitors : s.ben.aging.length = 12) (finds : ∀ m < 12, s.agingReading m (fs.getD m []) = some (rs.getD m (0, 0)))
    (low : ∀ m < 12, (rs.getD m (0, 0)).1 < s.ben.agingThr * 10) (quiet : ∀ a ∈ s.ben.aging, a.alarm = false) :
    ∃ t : State, exec (.agingMeasure fs) s = .next t ∧ t = { s with ben := { s.ben with aging := t.ben.aging } } ∧ t.ben.aging.length = 12 ∧
      (∀ a ∈ t.ben.aging, a.alarm = false) ∧
      ∀ m < 12, ((t.ben.aging.getD m {}).reading, (t.ben.aging.getD m {}).element) =
        if m < 0 then ((s.ben.aging.getD m {}).reading, (s.ben.aging.getD m {}).element) else rs.getD m (0, 0) := by
  refine ⟨_, congrArg Host.Outcome.next (if_neg (by simp [up, length])), ?_⟩
  exact agingMeasure_records (fun st x r found => by rw [found]) fs 0 s (by omega) (fun j small => by rw [Nat.zero_add]; exact finds j (by omega)) low rfl
    monitors quiet

theorem exec_nvmScrub {s : State} {n : Nat} (up : s.ben.up = true) : exec (.nvmScrub n []) s =
    let s1 : State := { s with ben := { s.ben with nvmCe := satAdd 16 s.ben.nvmCe n }, nvm := { s.nvm with scrubAt := s.porNs } }
    .next (if n = 0 then s1 else s1.raiseEvent evBenash) := by
  refine congrArg Host.Outcome.next ?_
  rw [up, if_neg (by decide)]
  rfl

/-- Settles O20. -/
theorem sensorsAndMemoryAreWatched : Obligations.SensorsAndMemoryAreWatched := by
  refine ⟨fun s temps supplies por warm six ten => ?_, fun s fs rs up length twelve monitors finds low quiet => ?_, fun s n up => ⟨?_, ?_⟩, fun s n up => ?_⟩
  · obtain ⟨t, reads, step⟩ := exec_sensorRead (s := s) por warm six ten
    obtain ⟨kept, volts, critical, thermal⟩ := judgeTemps_critical { s with ben := { s.ben with temps := temps, supplies := supplies } }
    have junction := junction_lt (s := { s with ben := { s.ben with temps := temps, supplies := supplies } }) six (b := 1150)
    refine ⟨t, reads, step.temps.trans kept, step.supplies.trans volts, fun _ cool => ?_, fun was ⟨x, mem, hot⟩ => ?_⟩
    · exact (step.critical.trans critical).trans (decide_eq_false (Int.not_le.mpr (junction.mpr cool)))
    · have high : 1150 ≤ State.junction { s with ben := { s.ben with temps := temps, supplies := supplies } } := by
        by_contra below
        exact absurd (junction.mp (Int.not_le.mp below) x mem) (Int.not_lt.mpr hot)
      exact ⟨(step.critical.trans critical).trans (decide_eq_true high), step.nme _ (thermal was high)⟩
  · have bound : ∀ m < 12, (rs.getD m (0, 0)).1 < s.ben.agingThr * 10 := fun m small => by
      rw [List.getD_eq_getElem _ _ (by omega)]
      exact low _ (List.getElem_mem _)
    obtain ⟨t, measures, shape, size, clear, records⟩ := agingMeasure_quiet up length monitors finds bound quiet
    refine ⟨t, measures, ?_, clear, shape⟩
    refine List.ext_getElem (by rw [List.length_map, size, twelve]) fun m inside there => ?_
    rw [List.length_map, size] at inside
    have record := records m inside
    rw [if_neg (Nat.not_lt_zero m), List.getD_eq_getElem _ _ (by omega), List.getD_eq_getElem _ _ there] at record
    rw [List.getElem_map]
    exact record
  · refine congrArg Host.Outcome.next ?_
    rw [up, if_neg (by decide), if_neg (by decide)]
  · refine ⟨_, congrArg Host.Outcome.next (if_neg (by simp [up])), ?_⟩
    dsimp only
    rw [if_pos rfl, startRestart_ben]
    generalize struck : State.raiseNme _ _ = u
    have ben : u.ben = { s.ben with sramCe := satAdd 16 s.ben.sramCe n } := by rw [← struck, State.raiseNme_ben]
    refine ⟨rfl, ?_, ?_, congrArg (inc 16) ?_⟩
    · rw [startRestart_nme, State.logEntry_fp, ← struck]
      exact raiseNme_bit _ (by decide)
    · refine (abortTest_ben Benash.sramCe (fun _ => rfl) _ _).trans ((logEntry_ben (g := Benash.sramCe) _ _ _ _ _ _ _ _ _ _ fun _ _ _ _ _ _ _ _ _ => rfl).trans ?_)
      rw [ben]
    · refine (abortTest_ben Benash.restarts (fun _ => rfl) _ _).trans ((logEntry_ben (g := Benash.restarts) _ _ _ _ _ _ _ _ _ _ fun _ _ _ _ _ _ _ _ _ => rfl).trans ?_)
      rw [ben]
  · refine ⟨_, exec_nvmScrub up, ?_⟩
    dsimp only
    split
    next zero => exact ⟨rfl, rfl, fun some => absurd zero (by omega), fun _ => rfl⟩
    next some => exact ⟨by rw [State.raiseEvent_ben], by rw [State.raiseEvent_nvm], fun _ => raiseEvent_flag rfl (by decide), fun zero => absurd zero some⟩

end Sys2Proof.Machine
end

section
/-! PROOFS. O21 and O17: Benash's restarts, and firmware. -/

namespace Sys2Proof.Machine

set_option Elab.async false

/-! ### Restarts -/

theorem exec_benashWatchdog {s : State} (up : s.ben.up = true) : exec .benashWatchdog s =
    .next (State.failTrial (State.startRestart { s with ben := { s.ben with watchdogs := inc 16 s.ben.watchdogs } })) := by
  refine congrArg Host.Outcome.next ?_
  rw [up, if_neg (by decide)]

theorem failTrial_none {s : State} (none : s.ben.trial = false) : s.failTrial = s := by
  unfold State.failTrial
  rw [none]
  rfl

/-- A trial that fails: the other slot is named, FALLBACK set (R427). -/
theorem failTrial_fails {s : State} (trial : s.ben.trial = true) : s.failTrial.nvm.markB = (!s.ben.runB) ∧
    s.failTrial.kw = s.kw ∧ s.failTrial.link = s.link ∧
    ∀ {α : Type} (g : Benash → α) (_ : ∀ (b : Benash) t tt su sn q l ln c, g { b with
      tokens := t, tokenTime := tt, suppressed := su, suppressedNew := sn, queue := q, lost := l, lostNew := ln, critical := c } = g b),
      g s.failTrial.ben = g { s.ben with trial := false, fallback := true } := by
  unfold State.failTrial
  rw [trial, if_neg (by decide)]
  refine ⟨?_, ?_, ?_, fun g kept => ?_⟩
  · rw [State.raiseEvent_nvm]
    exact logEntry_nvm (g := Nvm.markB) _ _ _ _ _ _ _ _ _ _ fun _ _ _ => rfl
  · rw [State.raiseEvent_kw, State.logEntry_kw]
  · rw [State.raiseEvent_link, State.logEntry_link]
  · rw [State.raiseEvent_ben]
    exact logEntry_ben (g := g) _ _ _ _ _ _ _ _ _ _ kept

/-- The boot leaves what Benash does not hold, and the counts that wait (R415). -/
theorem boot_slot {s : State} {b : Bool} (slot : s.bootSlot = some b) : s.boot = { s with eng := s.boot.eng, ben := s.boot.ben } ∧ s.boot.ben.up = true ∧
    s.boot.ben.restartSince = none ∧ s.boot.ben.recovery = false ∧ s.boot.ben.runB = b ∧ s.boot.ben.queue = s.ben.queue ∧
    s.boot.ben.lostNew = s.ben.lostNew := by
  unfold State.boot
  rw [slot]
  exact ⟨rfl, rfl, rfl, rfl, rfl, rfl, rfl⟩

theorem flushQueue_empty {s : State} (queue : s.ben.queue = []) (lost : s.ben.lostNew = 0) : s.flushQueue = { s with ben := { s.ben with queue := [] } } := by
  unfold State.flushQueue
  rw [queue, lost]
  rfl

theorem loadFirst_eq (s : State) : s.loadFirst = { s with eng := s.loadFirst.eng, gate := s.loadFirst.gate } := by
  unfold State.loadFirst
  split
  · rfl
  · rfl

/-- The waiting completions are written; the commands in progress and the calibration stay. -/
theorem foldl_finish_keeps (l : List (Request × Status × List (Nat × Nat))) (s : State) :
    (l.foldl (fun u e => u.finish e.1 e.2.1 e.2.2 []) s).cyo.running = s.cyo.running ∧ (l.foldl (fun u e => u.finish e.1 e.2.1 e.2.2 []) s).cal = s.cal := by
  induction l generalizing s with
  | nil => exact ⟨rfl, rfl⟩
  | cons e l ih =>
    obtain ⟨running, cal⟩ := ih (s.finish e.1 e.2.1 e.2.2 [])
    exact ⟨running.trans (finish_running _ _ _ _ _), cal.trans (by rw [State.finish_cal])⟩

theorem exec_benashRestartEnd {s : State} (down : s.ben.up = false) (por : s.pwr.porHeld = false) (warm : s.pwr.warmHeld = false)
    (core : s.pwr.coreSince = none) (running : s.boot.flushQueue.loadFirst.cyo.running = []) (cal : s.boot.flushQueue.loadFirst.cal.run = none) :
    exec (.benashRestartEnd true) s =
      let t : State := { s.boot.flushQueue.loadFirst with cyo := { s.boot.flushQueue.loadFirst.cyo with ended := [] } }
      .next (s.boot.flushQueue.loadFirst.cyo.ended.foldl (fun u e => u.finish e.1 e.2.1 e.2.2 []) t) := by
  refine congrArg Host.Outcome.next ?_
  rw [if_neg (by simp [down, por, warm, core]), if_neg (by simp)]
  dsimp only
  generalize s.boot.flushQueue.loadFirst.cyo.ended = l
  generalize made : ({ s.boot.flushQueue.loadFirst with cyo := _ } : State) = t
  obtain ⟨rested, calm⟩ := foldl_finish_keeps l t
  have idle : t.cyo.running = [] := by rw [← made]; exact running
  have still : t.cal.run = none := by rw [← made]; exact cal
  rw [rested, idle, List.foldl_nil, ite_self]
  unfold State.resumeCalibration State.endCalItems
  rw [calm, still]

theorem trimStart_keeps (s : State) : s.trimStart.fp = s.fp ∧ s.trimStart.pwr = s.pwr ∧ s.trimStart.nvm.boots = s.nvm.boots := by
  unfold State.trimStart
  split
  · exact ⟨loadTrim_fp s, loadTrim_pwr s, by rw [loadTrim_nvm]⟩
  · exact ⟨State.logEntry_fp .., State.logEntry_pwr .., logEntry_boots ..⟩

/-- The start of a boot counts it (R415). -/
theorem startUp_keeps (s : State) : s.startUp.fp = s.fp ∧ s.startUp.pwr = s.pwr ∧ s.startUp.nvm.boots = (s.nvm.boots + 1) % 2 ^ 32 := by
  obtain ⟨fp, pwr, boots⟩ := trimStart_keeps _
  exact ⟨fp, pwr, boots⟩

theorem coreClear_keeps (s : State) (cause : Nat) : (s.coreClear cause).fp.nme = s.fp.nme ∧ (s.coreClear cause).pwr.coreSince = some s.time ∧
    (s.coreClear cause).pwr.cause = cause ∧ (s.coreClear cause).nvm = s.nvm := ⟨rfl, rfl, rfl, rfl⟩

theorem exec_escalation {s : State} (held : s.heldReset = false) (restart : s.ben.restartSince.isSome = true) (trial : s.ben.trial = false) :
    exec .escalation s = .next ((s.raiseNme nmeEscalation).coreClear 4).startUp := by
  have still : ((s.raiseNme nmeEscalation).coreClear 4).ben.trial = false :=
    (congrArg Benash.trial (State.raiseNme_ben s nmeEscalation) :).trans trial
  refine congrArg Host.Outcome.next ?_
  rw [held, Option.isNone_eq_false_iff.mpr restart, if_neg (by decide), failTrial_none still]

/-- Settles O21. -/
theorem benashRestarts : Obligations.BenashRestarts := by
  refine ⟨fun s up idle => ?_, fun s down => ?_, fun s down por warm core slot running queue lost cal => ?_, fun s down first por warm core => ?_,
    fun s held restart trial => ?_⟩
  · refine ⟨_, exec_benashWatchdog up, ?_⟩
    generalize counted : ({ s with ben := { s.ben with watchdogs := inc 16 s.ben.watchdogs } } : State) = u
    have ben : u.ben = { s.ben with watchdogs := inc 16 s.ben.watchdogs } := by rw [← counted]
    have quiet : u.bist.run = none := by rw [← counted]; exact idle
    have started := startRestart_ben u
    rw [abortTest_idle quiet, ben] at started
    obtain ⟨kw, link⟩ := startRestart_idle quiet
    have kwU : u.kw = s.kw := by rw [← counted]
    have linkU : u.link = s.link := by rw [← counted]
    have timeU : u.time = s.time := by rw [← counted]
    cases trial : s.ben.trial with
    | false =>
      have none : u.startRestart.ben.trial = false := by rw [started]; exact trial
      rw [failTrial_none none, started, kw, link, kwU, linkU, timeU]
      exact ⟨rfl, rfl, rfl, rfl, trial, rfl, rfl, rfl, fun absent => absurd absent (by decide)⟩
    | true =>
      have some : u.startRestart.ben.trial = true := by rw [started]; exact trial
      obtain ⟨mark, kwF, linkF, benF⟩ := failTrial_fails some
      refine ⟨?_, ?_, ?_, ?_, ?_, ?_, by rw [kwF, kw, kwU], by rw [linkF, link, linkU], fun _ => ?_⟩
      · rw [benF Benash.up fun _ _ _ _ _ _ _ _ _ => rfl, started]
      · rw [benF Benash.restartSince fun _ _ _ _ _ _ _ _ _ => rfl, started, timeU]
      · rw [benF Benash.watchdogs fun _ _ _ _ _ _ _ _ _ => rfl, started]
      · rw [benF Benash.restarts fun _ _ _ _ _ _ _ _ _ => rfl, started]
      · rw [benF Benash.trial fun _ _ _ _ _ _ _ _ _ => rfl]
      · rw [benF Benash.fallback fun _ _ _ _ _ _ _ _ _ => rfl]
      · rw [mark, started]
  · refine congrArg Host.Outcome.next ?_
    rw [down, if_pos (by decide)]
  · obtain ⟨b, slot⟩ := Option.isSome_iff_exists.mp slot
    obtain ⟨shape, up, since, recovery, run, queued, losses⟩ := boot_slot slot
    have flushed := flushQueue_empty (queued.trans queue) (losses.trans lost)
    have loaded : s.boot.flushQueue.loadFirst = { s.boot with
        ben := { s.boot.ben with queue := [] }, eng := s.boot.flushQueue.loadFirst.eng, gate := s.boot.flushQueue.loadFirst.gate } := by
      rw [loadFirst_eq]
      generalize s.boot.flushQueue.loadFirst.eng = eng
      generalize s.boot.flushQueue.loadFirst.gate = gate
      rw [flushed]
    have cyo : s.boot.flushQueue.loadFirst.cyo = s.cyo := by rw [loaded, shape]
    have calm : s.boot.flushQueue.loadFirst.cal = s.cal := by rw [loaded, shape]
    have ben : s.boot.flushQueue.loadFirst.ben = { s.boot.ben with queue := [] } := by rw [loaded]
    have kw : s.boot.flushQueue.loadFirst.kw = s.kw := by rw [loaded, shape]
    refine ⟨{ s.boot.flushQueue.loadFirst with cyo := { s.boot.flushQueue.loadFirst.cyo with ended := [] } }, ?_, ?_⟩
    · rw [exec_benashRestartEnd down por warm core (by rw [cyo]; exact running) (by rw [calm]; exact cal)]
      dsimp only
      rw [cyo]
    · dsimp only
      rw [cyo, ben, kw, slot]
      exact ⟨rfl, up, since, recovery, congrArg some run, rfl⟩
  · refine congrArg Host.Outcome.next ?_
    rw [if_neg (by simp [down, por, warm, core]), if_pos (by simp [first])]
  · refine ⟨_, exec_escalation held restart trial, ?_⟩
    obtain ⟨fp, pwr, boots⟩ := startUp_keeps ((s.raiseNme nmeEscalation).coreClear 4)
    obtain ⟨nme, since, cause, nvm⟩ := coreClear_keeps (s.raiseNme nmeEscalation) 4
    rw [fp, pwr, boots, nme, since, cause, nvm, State.raiseNme_time, raiseNme_nvm]
    exact ⟨raiseNme_bit s (by decide), rfl, rfl, rfl⟩

/-! ### Firmware -/

theorem putOther_runSlot (s : State) (x : FwSlot) : (s.putOther x).runSlot = s.runSlot ∧ (s.putOther x).otherSlot = x ∧ (s.putOther x).ben = s.ben := by
  unfold State.putOther State.runSlot State.otherSlot
  cases b : s.ben.runB with
  | false => simp
  | true => simp

section
variable {s : State} {tag : BitVec 16} {q : Request}

@[simp] theorem begin_otherSlot (s : State) (q : Request) : (s.begin q).otherSlot = s.otherSlot := by
  have nvm : (s.begin q).nvm.slotA = s.nvm.slotA ∧ (s.begin q).nvm.slotB = s.nvm.slotB := by
    unfold State.begin
    dsimp only
    split
    · exact ⟨rfl, rfl⟩
    · exact ⟨rfl, rfl⟩
  unfold State.otherSlot
  rw [nvm.1, nvm.2, State.begin_ben]

/-- A chunk at the end of what is staged (R425). -/
def State.stageChunk (s : State) (first : Bool) (chunk : List Byte) (staged : Nat) : State :=
  let t := s.putOther { s.otherSlot with image := (if first then [] else s.otherSlot.image) ++ chunk, valid := s.otherSlot.valid && !first }
  { t with ben := { t.ben with staged := staged } }

theorem stageChunk_slots (s : State) (first : Bool) (chunk : List Byte) (staged : Nat) :
    (s.stageChunk first chunk staged).runSlot = s.runSlot ∧ (s.stageChunk first chunk staged).otherSlot =
      { s.otherSlot with image := (if first then [] else s.otherSlot.image) ++ chunk, valid := s.otherSlot.valid && !first } := by
  obtain ⟨run, other, -⟩ := putOther_runSlot s
    { s.otherSlot with image := (if first then [] else s.otherSlot.image) ++ chunk, valid := s.otherSlot.valid && !first }
  exact ⟨run, other⟩

theorem exec_fwStage {bytes : List Byte} (takes : Takes s tag 0x59 q) (plain : Plain q [(28, 1), (32, 16)]) (flags : q.cap.arg 28 1 ≤ 1)
    (address : q.cap.arg 32 8 < 2 ^ 41) (least : 4096 ≤ q.cap.arg 40 4) (most : q.cap.arg 40 4 ≤ 1048576) (pages : q.cap.arg 40 4 % 4096 = 0)
    (offset : q.cap.arg 44 4 = (if bitAt (q.cap.arg 28 1) 0 then 0 else s.ben.staged)) (inside : q.cap.arg 44 4 + q.cap.arg 40 4 ≤ 4194304)
    (buffer : s.bufferFault (q.cap.arg 32 8) (q.cap.arg 40 4) false = none) : exec (.fwStage tag bytes) s =
      .next (((s.begin q).stageChunk (bitAt (q.cap.arg 28 1) 0) (fitBytes (q.cap.arg 40 4) bytes) (q.cap.arg 44 4 + q.cap.arg 40 4)).finish q .ok
        [(32, q.cap.arg 44 4 + q.cap.arg 40 4)] []) := by
  obtain ⟨len, fields⟩ := plain
  refine next_runRequest takes ((guarded_begin takes ?_).trans ?_)
  · have staged : decide (q.cap.arg 44 4 ≠ if bitAt (q.cap.arg 28 1) 0 then 0 else (s.begin q).ben.staged) = false := decide_eq_false (not_not.mpr offset)
    simp only [firstFail, len, fields, staged, pages, decide_eq_false (Nat.not_lt.mpr flags), decide_eq_false (Nat.not_le.mpr address),
      decide_eq_false (Nat.not_lt.mpr least), decide_eq_false (Nat.not_lt.mpr most), decide_eq_false (Nat.not_lt.mpr inside), gt_iff_lt, ge_iff_le,
      ne_eq, not_true, decide_false, Bool.not_true, Bool.or_false, Bool.false_eq_true, if_false]
  · have found : (s.begin q).bufferFault (q.cap.arg 32 8) (q.cap.arg 40 4) false = none := buffer
    dsimp only
    rw [found]
    rfl

/-- The version and the programs of an image that passes every check (R426). -/
def FwSlot.committed (x : FwSlot) : FwSlot :=
  { x with
    valid := true, fwver := imageField x.image 12 4, svn := imageField x.image 16 4, progver := imageField x.image 20 4, layout := imageField x.image 56 4
    secpHash := BitVec.ofNat 384 (beNat ((x.image.drop 64).take 48)) }

/-- The inactive slot is valid (R426). -/
def State.commitSlot (s : State) : State :=
  let t := s.putOther s.otherSlot.committed
  { t with ben := { t.ben with commitReject := 0 } }

theorem commitSlot_slots (s : State) : s.commitSlot.runSlot = s.runSlot ∧ s.commitSlot.otherSlot = s.otherSlot.committed := by
  obtain ⟨run, other, -⟩ := putOther_runSlot s s.otherSlot.committed
  exact ⟨run, other⟩

theorem exec_fwCommit (takes : Takes s tag 0x5A q) (plain : Plain q [(28, 4)]) (passes : s.commitCheck s.otherSlot.image (q.cap.arg 28 4) = none) :
    exec (.fwCommit tag) s =
      .next (((s.begin q).commitSlot.raiseEvent evBenash).finish q .ok [(32, imageField s.otherSlot.image 12 4)] []) := by
  obtain ⟨len, fields⟩ := plain
  refine next_runRequest takes ((guarded_begin takes (by simp [firstFail, len, fields])).trans ?_)
  have checked : (s.begin q).commitCheck (s.begin q).otherSlot.image (q.cap.arg 28 4) = none := by
    rw [begin_otherSlot]
    exact passes
  dsimp only
  rw [checked]
  simp only [State.commitSlot, FwSlot.committed, begin_otherSlot]

/-- The marker names the other slot and the activation is on its way; a changed security partition has taken the keys (R392, R427). -/
def State.nameOther (s : State) (keys : Bool) : State := { s with
  nvm := { (if keys then s.nvm.eraseKeys else s.nvm) with markB := !s.ben.runB }
  ward := if keys then s.ward.eraseKeys else s.ward
  ben := { s.ben with activating := true } }

theorem exec_fwActivate (takes : Takes s tag 0x5B q) (plain : Plain q []) (normal : s.ben.recovery = false) (valid : s.otherSlot.valid = true) :
    ∃ keys : Bool, exec (.fwActivate tag) s = .next ((((s.begin q).nameOther keys).startRun q).raiseEvent evBenash).startRestart := by
  obtain ⟨len, fields⟩ := plain
  have other : (if (!(s.begin q).ben.runB) = true then (s.begin q).nvm.slotB else (s.begin q).nvm.slotA) = (s.begin q).otherSlot := by
    unfold State.otherSlot
    cases (s.begin q).ben.runB with
    | false => rfl
    | true => rfl
  have recovery : (s.begin q).ben.recovery = false := normal
  refine ⟨decide ((s.begin q).otherSlot.secpHash ≠ (s.begin q).runSlot.secpHash), next_runRequest takes ?_⟩
  dsimp only
  rw [recovery]
  simp only [Bool.false_eq_true, if_false, other]
  refine (guarded_begin takes (by simp [firstFail, len, fields, valid])).trans ?_
  simp only [State.nameOther, decide_eq_true_eq]

end

/-- Settles O17. -/
theorem firmwareIsUpdated : Obligations.FirmwareIsUpdated := by
  refine ⟨fun s tag bytes q takes plain flags address least most pages offset inside buffer => ?_, fun s tag q takes plain passes => ?_,
    fun s tag q takes plain normal valid => ?_, fun s trial up elapsed => ?_⟩
  · obtain ⟨run, other⟩ := stageChunk_slots (s.begin q) (bitAt (q.cap.arg 28 1) 0) (fitBytes (q.cap.arg 40 4) bytes) (q.cap.arg 44 4 + q.cap.arg 40 4)
    refine ⟨_, exec_fwStage takes plain flags address least most pages offset inside buffer, rfl, run.trans (begin_runSlot s q), ?_, fun first => ?_⟩
    · rw [other, begin_otherSlot]
    · rw [other, first]
      exact Bool.and_false _
  · obtain ⟨run, other⟩ := commitSlot_slots (s.begin q)
    refine ⟨_, exec_fwCommit takes plain passes, ?_⟩
    have kept : ((s.begin q).commitSlot.raiseEvent evBenash).otherSlot = s.otherSlot.committed := by
      rw [← begin_otherSlot s q, ← other]
      simp only [State.otherSlot, State.raiseEvent_ben, State.raiseEvent_nvm]
    have same : ((s.begin q).commitSlot.raiseEvent evBenash).runSlot = s.runSlot := by
      rw [← begin_runSlot s q, ← run]
      simp only [State.runSlot, State.raiseEvent_ben, State.raiseEvent_nvm]
    rw [kept]
    exact ⟨rfl, rfl, rfl, rfl, by rw [State.raiseEvent_ben]; rfl, same, raiseEvent_flag rfl (by decide)⟩
  · obtain ⟨keys, activates⟩ := exec_fwActivate takes plain normal valid
    refine ⟨_, activates, ?_⟩
    rw [startRestart_nvm, startRestart_ben, abortTest_nvm Nvm.markB (fun _ => rfl), State.raiseEvent_nvm, State.raiseEvent_time]
    refine ⟨rfl, rfl, ?_, rfl, startRestart_event (raiseEvent_flag rfl (by decide))⟩
    refine (abortTest_ben Benash.activating (fun _ => rfl) _ _).trans ?_
    rw [State.raiseEvent_ben]
    rfl
  · refine ⟨_, congrArg Host.Outcome.next (if_neg (by simp [trial, up, Nat.not_lt.mpr elapsed])), ?_, ?_, raiseEvent_flag rfl (by decide)⟩
    · rw [State.raiseEvent_ben]
      exact logEntry_ben (g := Benash.trial) _ _ _ _ _ _ _ _ _ _ fun _ _ _ _ _ _ _ _ _ => rfl
    · simp only [State.raiseEvent_fuse, State.logEntry_fuse]

end Sys2Proof.Machine
end

section
/-! PROOFS. O57: what the ends of commands, calibration runs and measurements leave alone, and Knuckle. -/

namespace Sys2Proof.Machine

set_option Elab.async false

/-! ### The ends of commands, calibration runs and measurements -/

/-- What of a state the end of a command, of a CAL_RUN or of a DIAG_TDR does not write. -/
def State.sideRest (s : State) : State := { s with
  kw := s.kw.lineRest, nvm := s.nvm.lineRest, ben := s.ben.lineRest, cal := {}, diag := {}, mon := {}, out := []
  pwr := { s.pwr with ctrlLost := 0 }
  cyo := { s.cyo with running := [], ended := [] }
  link := { s.link with neg := {} }
  lc := { s.lc with run := { s.lc.run with oam := [], oamSeq := 0 } }
  dl := { s.dl with outb := { s.dl.outb with lanes := [] }, inb := { s.dl.inb with lanes := [] } } }

/-- A step that writes no more than the ends of commands, of a CAL_RUN and of a DIAG_TDR do. -/
def SideStep (s t : State) : Prop := t.sideRest = s.sideRest

namespace SideStep

theorem refl (s : State) : SideStep s s := Eq.refl _

theorem trans {s t u : State} (a : SideStep s t) (b : SideStep t u) : SideStep s u := Eq.trans b a

theorem ite {s a b : State} {c : Prop} [Decidable c] (ha : SideStep s a) (hb : SideStep s b) : SideStep s (if c then a else b) := by
  split
  · exact ha
  · exact hb

variable (s : State)

theorem logEntry (u sev kind detail obj a0 a1 a2 a3 : Nat) : SideStep s (s.logEntry u sev kind detail obj a0 a1 a2 a3) := by
  have ben := logEntry_ben (g := Benash.lineRest) s u sev kind detail obj a0 a1 a2 a3 fun _ _ _ _ _ _ _ _ _ => rfl
  have nvm := logEntry_nvm (g := Nvm.lineRest) s u sev kind detail obj a0 a1 a2 a3 fun _ _ _ => rfl
  unfold SideStep
  rw [State.logEntry_eq]
  unfold State.sideRest
  dsimp only
  rw [ben, nvm]

theorem finish (q : Request) (st : Status) (r : List (Nat × Nat)) (p : List Byte) : SideStep s (s.finish q st r p) := by
  unfold State.finish State.complete
  dsimp only
  refine ite (Eq.refl _) ?_
  split
  · exact ite (Eq.refl _) (Eq.refl _)
  · exact Eq.refl _
  · exact trans (Eq.refl _) (logEntry _ _ _ _ _ _ _ _ _ _)

theorem endRun (op : Nat) (p : Capsule → Bool) (st : Status) (r : List (Nat × Nat)) : SideStep s (s.endRun op p st r) := by
  unfold State.endRun
  split
  · exact trans (Eq.refl _) (finish _ _ _ _ _)
  · exact refl s

theorem cal (c : Cal) : SideStep s { s with cal := c } := Eq.refl _

theorem diag (d : Diag) : SideStep s { s with diag := d } := Eq.refl _

theorem heldRevert : SideStep s s.heldRevert := by
  unfold State.heldRevert
  exact ite (Eq.refl _) (refl s)

theorem finishCal : SideStep s s.finishCal := by
  unfold State.finishCal
  split
  · exact refl s
  · exact ((cal s _).trans (endRun _ _ _ _ _)).trans (heldRevert _)

theorem endCalItems (code : Nat) (which : Nat → Bool) : SideStep s (s.endCalItems code which) := by
  unfold State.endCalItems
  split
  · exact refl s
  · exact ite ((cal s _).trans (finishCal _)) (cal s _)

theorem sendOam (typ : Nat) (body : List Byte) : SideStep s (s.sendOam typ body) := by
  unfold State.sendOam
  exact ite (refl s) (Eq.refl _)

theorem sendQuietAck (p : Pair) (action result : Nat) : SideStep s (s.sendQuietAck p action result) := by
  unfold State.sendQuietAck
  exact ite (sendOam s _ _) ((sendOam s _ _).trans (Eq.refl _))

theorem writeLines (n : Nat) : ∀ (s : State) (a : Nat) (bs : List Byte), SideStep s (s.writeLines a n bs) := by
  induction n with
  | zero => exact fun s _ _ => refl s
  | succ n ih => exact fun s a bs => SideStep.trans (t := s.writeLine a (bs.take 64)) (Eq.refl _) (ih _ _ _)

theorem finishDiag (st : Status) : SideStep s (s.finishDiag st) := by
  unfold State.finishDiag
  split
  · exact refl s
  · dsimp only
    refine SideStep.trans ?_ (endRun _ _ _ _ _)
    refine SideStep.trans ?_ (ite (by exact Eq.refl _) (refl _))
    refine SideStep.trans ?_ (ite (refl _) (writeLines _ _ _ _))
    exact (ite (sendOam s _ _) (refl s) : SideStep s _).trans (diag _ _)

theorem endDiagTests (code : Nat) (st : Status) : SideStep s (s.endDiagTests code st) := by
  unfold State.endDiagTests
  split
  · exact refl s
  · exact (diag s _).trans (finishDiag _ _)

theorem interruptDiagRun : SideStep s s.interruptDiagRun := endDiagTests s 4 .ok

variable {s} {t : State} (h : SideStep s t)
include h

theorem eng : t.eng = s.eng := (congrArg State.eng h :)
theorem kn : t.kn = s.kn := (congrArg State.kn h :)
theorem rx : t.rx = s.rx := (congrArg State.rx h :)
theorem mode : t.link.mode = s.link.mode := (congrArg (fun u : State => u.link.mode) h :)
theorem state : t.link.state = s.link.state := (congrArg (fun u : State => u.link.state) h :)
theorem armed : t.armed = s.armed := by simp only [State.armed, h.eng]

end SideStep

/-! ### The STATUS fields sent, and the knuckle's record -/

/-- A STATUS field that is set reads so; the others stay (R40). -/
theorem statusTx_setStatus {s : State} (seven : s.lc.run.stTx.length = 7) (i v k : Nat) (inside : i < 7) :
    (s.setStatus i v).statusTx k = if k = i then { s.statusTx i with want := v } else s.statusTx k := by
  simp only [State.setStatus, State.modRun, State.statusTx, modAt, List.getD_eq_getElem?_getD, List.getElem?_modify]
  by_cases same : k = i
  · subst same
    simp [List.getElem?_eq_getElem (show k < s.lc.run.stTx.length by omega)]
  · simp [same, Ne.symm same]

theorem statusTx_setStatus_self {s : State} (seven : s.lc.run.stTx.length = 7) {i : Nat} (v : Nat) (inside : i < 7) :
    ((s.setStatus i v).statusTx i).want = v := by
  rw [statusTx_setStatus seven i v i inside, if_pos rfl]

theorem statusTx_setStatus_ne {s : State} {i k : Nat} (v : Nat) (other : k ≠ i) : (s.setStatus i v).statusTx k = s.statusTx k := by
  simp [State.setStatus, State.modRun, State.statusTx, modAt, List.getD_eq_getElem?_getD, Ne.symm other]

@[simp] theorem length_setStatus (s : State) (i v : Nat) : (s.setStatus i v).lc.run.stTx.length = s.lc.run.stTx.length := List.length_modify _ _ _

theorem shape_status {s : State} (shape : s.shapeOk = true) : s.lc.run.stTx.length = 7 := by
  simp only [State.shapeOk, Bool.and_eq_true, decide_eq_true_eq] at shape
  exact shape.1.1.1.1.1.1.1

/-- A request of Knuckle that ends touches nothing else of the knuckle, nor the STATUS fields (R251). -/
theorem endKnuckle_kn (s : State) (st : Status) : (s.endKnuckle st).kn = { s.kn with run := { s.kn.run with request := none } } ∧
    SideStep { s with kn := { s.kn with run := { s.kn.run with request := none } } } (s.endKnuckle st) := by
  unfold State.endKnuckle
  cases asked : s.kn.run.request with
  | none =>
    have same : ({ s.kn with run := { s.kn.run with request := none } } : Knuckle) = s.kn := by rw [← asked]
    exact ⟨same.symm, by rw [same]; exact Eq.refl _⟩
  | some r => exact ⟨(SideStep.endRun _ _ _ _ _).kn, SideStep.endRun _ _ _ _ _⟩

theorem SideStep.statusTx {s t : State} (h : SideStep s t) (k : Nat) : t.statusTx k = s.statusTx k := by
  have same : t.lc.run.stTx = s.lc.run.stTx := (congrArg (fun u : State => u.lc.run.stTx) h :)
  rw [State.statusTx, same, State.statusTx]

/-- A request that is given up: back in four-pair form, KR off (R251). -/
theorem dropRequest_clears {s : State} (seven : s.lc.run.stTx.length = 7) (st : Status) :
    (s.dropRequest st).kn = { s.kn with run := { s.kn.run with state := 0, request := none } } ∧ ((s.dropRequest st).statusTx 2).want = 0 ∧
      (s.dropRequest st).lc.run.stTx.length = 7 := by
  obtain ⟨kn, step⟩ := endKnuckle_kn ((s.setStatus 2 0).modKn (fun k => { k with state := 0 })) st
  refine ⟨kn, ?_, ?_⟩
  · exact (congrArg FieldTx.want (step.statusTx 2)).trans (statusTx_setStatus_self seven 0 (by decide))
  · have same : (s.dropRequest st).lc.run.stTx = (s.setStatus 2 0).lc.run.stTx := (congrArg (fun u : State => u.lc.run.stTx) step :)
    rw [same, length_setStatus, seven]

/-- The answer to the partner's request: state 1 with its pair, KA and KPAIR set (R249). -/
theorem answerKnuckle_sets {s : State} (seven : s.lc.run.stTx.length = 7) (p : Pair) :
    (s.answerKnuckle p).kn = { s.kn with run := { s.kn.run with state := 1, shed := p, partnerAsked := true } } ∧
      ((s.answerKnuckle p).statusTx 3).want = 1 ∧ ((s.answerKnuckle p).statusTx 6).want = p.val ∧ (s.answerKnuckle p).statusTx 2 = s.statusTx 2 ∧
      s.answerKnuckle p = { s with kn := (s.answerKnuckle p).kn, lc := (s.answerKnuckle p).lc } := by
  refine ⟨rfl, ?_, statusTx_setStatus_self (by rw [length_setStatus]; exact seven) _ (by decide), ?_, rfl⟩
  · rw [State.answerKnuckle, statusTx_setStatus_ne _ (by decide)]
    exact statusTx_setStatus_self seven _ (by decide)
  · rw [State.answerKnuckle, statusTx_setStatus_ne _ (by decide), statusTx_setStatus_ne _ (by decide)]
    rfl

/-- A committed profile leaves all but the engines. -/
theorem commitProfile_eq (s : State) (p : Profile) : s.commitProfile p = { s with eng := (s.commitProfile p).eng } := by
  unfold State.commitProfile
  split
  · rfl
  · rfl

/-- Where nothing is armed, a committed profile is an armed staging of its own (R137). -/
theorem commitProfile_staging {s : State} (p : Profile) (free : s.armed = false) :
    ∃ g : Staging, (s.commitProfile p).eng.staging = some g ∧ g.state = 3 ∧ g.profile = some p := by
  unfold State.commitProfile
  rw [free, if_neg (by decide)]
  exact ⟨_, rfl, rfl, rfl⟩

/-- Behind an armed one it waits. -/
theorem commitProfile_later {s : State} (p : Profile) (armed : s.armed = true) : (s.commitProfile p).eng.laterProfile = some p := by
  unfold State.commitProfile
  rw [if_pos armed]
  rfl

/-- A silence granted to the partner ends (R270). -/
def State.endSilence (s : State) : State :=
  if s.diag.quietUntil.isSome then State.sendQuietAck { s with diag := { s.diag with quietUntil := none } } s.kn.shed 1 3 else s

/-- What pair training ends before it begins (R238, R252, R270). -/
def State.beforeTraining (s : State) : State := (s.endCalItems 4 (· = s.kn.shed.val)).interruptDiagRun.endSilence

theorem SideStep.beforeTraining (s : State) : SideStep s s.beforeTraining := by
  have ended := (SideStep.endCalItems s 4 (· = s.kn.shed.val)).trans (SideStep.interruptDiagRun _)
  exact SideStep.ite (ended.trans ((SideStep.diag _ _).trans (SideStep.sendQuietAck _ _ _ _))) ended

theorem beginPairTraining_eq (s : State) (partner : Bool) : s.beginPairTraining partner =
    (s.beforeTraining.commitProfile (Profile.ofRung (s.beforeTraining.link.mode.getD 0) false)).modKn (fun k =>
      { k with state := 3, partnerAsked := partner, good := 0, ready := false, farReady := false, trainSince := s.time }) := rfl

/-- Pair training begins (R252). -/
theorem beginPairTraining_sets (s : State) (partner : Bool) :
    (s.beginPairTraining partner).kn = { s.kn with run := { s.kn.run with
      state := 3, partnerAsked := partner, good := 0, ready := false, farReady := false, trainSince := s.time } } ∧
    (s.armed = false → ∃ g : Staging, (s.beginPairTraining partner).eng.staging = some g ∧ g.state = 3 ∧
      g.profile = some (Profile.ofRung (s.link.mode.getD 0) false)) := by
  have step := SideStep.beforeTraining s
  rw [beginPairTraining_eq, step.mode]
  refine ⟨?_, fun free => commitProfile_staging _ (step.armed.trans free)⟩
  rw [commitProfile_eq]
  simp only [State.modKn, step.kn]

/-- The knuckle after a change of form (R250, R254). -/
theorem formsChanged_kn (s : State) : (s.formsChanged).kn =
    if s.kn.state = 4 ∧ s.kn.run.txForm = false ∧ s.kn.run.rxForm = false then
      { s.kn with reinstates := inc 8 s.kn.reinstates, run := { s.kn.run with state := 0, request := none } }
    else s.kn := by
  unfold State.formsChanged
  dsimp only
  have state : s.kn.state = s.kn.run.state := rfl
  rw [state]
  split
  next shed =>
    have one : s.kn.run.state = 1 := by simpa using (Bool.and_eq_true_iff.mp (Bool.and_eq_true_iff.mp shed).1).1
    rw [if_neg (by omega), commitProfile_eq]
  next =>
    split
    next back =>
      rw [if_pos (by simpa [and_assoc] using back), (endKnuckle_kn _ _).1]
    next other => rw [if_neg (by simpa [and_assoc] using other)]

theorem dropPartial_kn (s : State) : s.dropPartial.kn = s.kn := by
  unfold State.dropPartial
  split
  · rfl
  · rfl

/-- Quiet-Latch gives way to the request without touching its STATUS fields. -/
theorem wakeCause_keeps (s : State) (n : Nat) : (s.wakeCause n).kn = s.kn ∧ (s.wakeCause n).cyo = s.cyo ∧ (s.wakeCause n).link = s.link ∧
    (s.wakeCause n).rx = s.rx ∧ ∀ k, k ≠ 1 → (s.wakeCause n).statusTx k = s.statusTx k := by
  unfold State.wakeCause State.withdrawQuiet
  split
  · exact ⟨rfl, rfl, rfl, rfl, fun k other => statusTx_setStatus_ne 0 other⟩
  · split
    · exact ⟨rfl, rfl, rfl, rfl, fun _ _ => rfl⟩
    · exact ⟨rfl, rfl, rfl, rfl, fun _ _ => rfl⟩

section
variable {s : State} {tag : BitVec 16} {q : Request} (takes : Takes s tag 0x4B q) (part : s.fuse.part.knuckle = true) (ready : s.ready .knuckle = true)
  (data : s.nativeData = true) (kn : s.link.knOk = true) (frt : s.link.frt.want = false)
include takes part ready data kn frt

theorem exec_knuckleShed (shed : q.cap.arg 28 1 = 0) (plain : Plain q [(28, 2)]) (pair : q.cap.arg 29 1 < 4) (four : s.kn.state = 0) :
    exec (.knuckleShed tag) s =
      let p : Pair := ⟨q.cap.arg 29 1 % 4, Nat.mod_lt _ (by decide)⟩
      .next ((((((s.begin q).startRun q).modKn (fun k => { k with state := 1, shed := p, partnerAsked := false, request := some (true, q.cap.tag), krSince := none })).setStatus
        2 1).setStatus 6 p.val).wakeCause 4) := by
  obtain ⟨len, fields⟩ := plain
  refine (congrArg Host.Outcome.next (if_neg (by simp [State.retrainFirst, frt]))).trans ?_
  refine next_runWhere takes (by simp [shed]) ((guarded_begin takes ?_).trans rfl)
  have data' : (s.begin q).nativeData = true := data
  simp [firstFail, len, fields, part, ready, data', kn, shed, Nat.not_le.mpr pair, four]

theorem exec_knuckleReinstate (back : q.cap.arg 28 1 = 1) (plain : Plain q [(28, 1)]) (three : s.kn.state = 2)
    (untested : s.testOn 2 s.kn.shed.val = false) : exec (.knuckleReinstate tag) s =
      .next ((((s.begin q).startRun q).modKn (fun k => { k with request := some (false, q.cap.tag) })).beginPairTraining false) := by
  obtain ⟨len, fields⟩ := plain
  refine (congrArg Host.Outcome.next (if_neg (by simp [State.retrainFirst, frt]))).trans ?_
  refine next_runWhere takes (by simp [back]) ((guarded_begin takes ?_).trans ?_)
  · have data' : (s.begin q).nativeData = true := data
    simp [firstFail, len, part, ready, data', kn]
  · have none : (s.begin q).testOn 2 (s.begin q).kn.shed.val = false := untested
    dsimp only
    rw [none]
    refine (if_neg (by simp)).trans ((guarded_begin takes ?_).trans rfl)
    have shed : decide ((s.begin q).kn.state ≠ 2) = false := decide_eq_false (not_not.mpr three)
    rw [shed, fields]
    rfl

end

section
variable {s : State} {p : Pair} (data : s.nativeData = true) (kn : s.link.knOk = true) (named : s.namedPair = some p)
include data kn named

/-! The partner's KR while the link runs in native data with Knuckle resolved, by the state of the knuckle (R249, R251). -/

theorem exec_knuckleRequestReceived_four (state : s.kn.state = 0) : exec .knuckleRequestReceived s = .next (if decide (s.statusRx 2 = 1) && s.kn.accept then s.answerKnuckle p else s) := by
  refine congrArg Host.Outcome.next ?_
  rw [data, kn, if_neg (by decide), named]
  dsimp only
  rw [state]
  rfl

theorem exec_knuckleRequestReceived_asking (state : s.kn.state = 1) : exec .knuckleRequestReceived s = .next (
      if !decide (s.statusRx 2 = 1) || s.kn.run.partnerAsked || (s.statusTx 3).want = 1 then s
      else if p = s.kn.shed then s.setStatus 3 1
      else if !s.link.role then s
      else if (s.dropRequest .stale).kn.accept then (s.dropRequest .stale).answerKnuckle p else s.dropRequest .stale) := by
  refine congrArg Host.Outcome.next ?_
  rw [data, kn, if_neg (by decide), named]
  dsimp only
  rw [state]
  rfl

theorem exec_knuckleRequestReceived_shed (state : s.kn.state = 2) : exec .knuckleRequestReceived s = .next (s.beginPairTraining true) := by
  refine congrArg Host.Outcome.next ?_
  rw [data, kn, if_neg (by decide), named]
  dsimp only
  rw [state]
  rfl

theorem exec_knuckleRequestReceived_back (state : s.kn.state = 4) : exec .knuckleRequestReceived s = .next (if s.kn.run.partnerAsked && !decide (s.statusRx 2 = 1) then (s.setStatus 2 0).setStatus 3 0 else s) := by
  refine congrArg Host.Outcome.next ?_
  rw [data, kn, if_neg (by decide), named]
  dsimp only
  rw [state]
  rfl

end

theorem refuseShed_clears {s : State} (seven : s.lc.run.stTx.length = 7) :
    s.refuseShed.kn.state = 0 ∧ s.refuseShed.kn.refused = inc 8 s.kn.refused ∧ s.refuseShed.kn.run.request = none ∧ (s.refuseShed.statusTx 2).want = 0 := by
  obtain ⟨kn, want, -⟩ := dropRequest_clears (s := { s with kn := { s.kn with refused := inc 8 s.kn.refused } }) seven .timeout
  unfold State.refuseShed
  rw [kn]
  exact ⟨rfl, rfl, rfl, want⟩

/-- Settles O57. -/
theorem knuckleShedsAndReinstates : Obligations.KnuckleShedsAndReinstates := by
  refine ⟨fun s tag q takes shape part ready data kn frt => ⟨fun shed plain pair four => ?_, fun back plain three untested free => ?_⟩,
    fun s p shape data kn named => ⟨fun four asked accept => ?_, fun four refuse => ?_, fun one asked own early => ⟨fun same => ?_, fun other master => ?_,
      fun other slave => ?_⟩, fun shed => ?_, fun four partner cleared => ?_, fun tag one request acked unset => ⟨fun same => ?_, fun other => ?_⟩,
      fun four own cleared => ?_⟩,
    fun s tag shape one request sent unset => ?_, fun s data => ⟨fun due => ?_, fun due => ?_, fun three own far shape => ?_, fun three => ?_⟩⟩
  · have seven := shape_status shape
    refine ⟨_, exec_knuckleShed takes part ready data kn frt shed plain pair four, ?_⟩
    dsimp only
    generalize made : (((s.begin q).startRun q).modKn _) = u
    have length : u.lc.run.stTx.length = 7 := by rw [← made]; exact seven
    obtain ⟨knW, cyoW, linkW, rxW, status⟩ := wakeCause_keeps ((u.setStatus 2 1).setStatus 6 (q.cap.arg 29 1 % 4)) 4
    rw [knW, cyoW, linkW, rxW, status 2 (by decide), status 6 (by decide), statusTx_setStatus_ne _ (by decide), statusTx_setStatus_self length _ (by decide),
      statusTx_setStatus_self (by rw [length_setStatus]; exact length) _ (by decide), ← made]
    exact ⟨rfl, Nat.mod_eq_of_lt pair, rfl, rfl, rfl, Nat.mod_eq_of_lt pair, rfl, rfl, rfl⟩
  · obtain ⟨knT, staged⟩ := beginPairTraining_sets (((s.begin q).startRun q).modKn (fun k => { k with request := some (false, q.cap.tag) })) false
    obtain ⟨g, held, state, profile⟩ := staged free
    refine ⟨_, g, exec_knuckleReinstate takes part ready data kn frt back plain three untested, ?_⟩
    rw [knT]
    exact ⟨rfl, rfl, rfl, rfl, rfl, held, state, profile⟩
  · obtain ⟨knT, ka, kpair, -, eq⟩ := answerKnuckle_sets (shape_status shape) p
    refine ⟨s.answerKnuckle p, (exec_knuckleRequestReceived_four data kn named four).trans (congrArg Host.Outcome.next (if_pos (by simp [asked, accept]))), ?_⟩
    rw [knT]
    exact ⟨rfl, rfl, rfl, ka, kpair, eq⟩
  · exact (exec_knuckleRequestReceived_four data kn named four).trans (congrArg Host.Outcome.next (if_neg (by simp [refuse])))
  · refine ⟨_, (exec_knuckleRequestReceived_asking data kn named one).trans (congrArg Host.Outcome.next ((if_neg (by simp [asked, own, early])).trans (if_pos same))), ?_, rfl⟩
    exact statusTx_setStatus_self (shape_status shape) _ (by decide)
  · exact (exec_knuckleRequestReceived_asking data kn named one).trans
      (congrArg Host.Outcome.next ((if_neg (by simp [asked, own, early])).trans ((if_neg other).trans (if_pos (by simp [master])))))
  · obtain ⟨knD, kr, length⟩ := dropRequest_clears (shape_status shape) .stale
    obtain ⟨knA, ka, -, keeps, -⟩ := answerKnuckle_sets length p
    have accepts : (s.dropRequest .stale).kn.accept = s.kn.accept := by rw [knD]
    refine ⟨_, (exec_knuckleRequestReceived_asking data kn named one).trans
      (congrArg Host.Outcome.next ((if_neg (by simp [asked, own, early])).trans ((if_neg other).trans (if_neg (by simp [slave]))))), ?_⟩
    rw [accepts]
    cases accept : s.kn.accept with
    | true =>
      rw [if_pos rfl, keeps, knA, knD]
      exact ⟨rfl, kr, fun _ => ⟨rfl, rfl, rfl, ka⟩, fun absent => absurd absent (by decide)⟩
    | false =>
      rw [if_neg (by decide), knD]
      exact ⟨rfl, kr, fun absent => absurd absent (by decide), fun _ => rfl⟩
  · obtain ⟨knT, -⟩ := beginPairTraining_sets s true
    refine ⟨_, exec_knuckleRequestReceived_shed data kn named shed, ?_⟩
    rw [knT]
    exact ⟨rfl, rfl, rfl⟩
  · have seven := shape_status shape
    refine ⟨_, (exec_knuckleRequestReceived_back data kn named four).trans (congrArg Host.Outcome.next (if_pos (by simp [partner, cleared]))), ?_, ?_, rfl⟩
    · rw [statusTx_setStatus_ne _ (by decide)]
      exact statusTx_setStatus_self seven _ (by decide)
    · exact statusTx_setStatus_self (by rw [length_setStatus]; exact seven) _ (by decide)
  · refine ⟨_, congrArg Host.Outcome.next ((if_pos (by simp [one, request, acked, unset])).trans (if_pos (by rw [named, same]))), ?_, rfl⟩
    exact statusTx_setStatus_self (shape_status shape) _ (by decide)
  · have mismatch : s.namedPair ≠ some s.kn.shed := by
      rw [named]
      exact fun same => other (Option.some.inj same)
    exact ⟨_, congrArg Host.Outcome.next ((if_pos (by simp [one, request, acked, unset])).trans (if_neg mismatch)), refuseShed_clears (shape_status shape)⟩
  · refine ⟨_, congrArg Host.Outcome.next ((if_neg (by simp [four])).trans (if_pos (by simp [four, own, cleared]))), ?_, rfl⟩
    exact statusTx_setStatus_self (shape_status shape) _ (by decide)
  · exact ⟨_, congrArg Host.Outcome.next (if_pos (by simp [one, request, sent, unset])), refuseShed_clears (shape_status shape)⟩
  · refine ⟨_, congrArg Host.Outcome.next (if_pos (by simp [data, due])), ?_⟩
    rw [formsChanged_kn]
    dsimp only
    split
    next back => exact ⟨rfl, rfl, rfl, fun _ _ _ => ⟨rfl, rfl⟩⟩
    next other =>
      refine ⟨rfl, rfl, rfl, fun four unset rx => ?_⟩
      exact absurd ⟨four, decide_eq_false unset, rx⟩ other
  · refine ⟨_, congrArg Host.Outcome.next (if_pos (by simp [data, due])), ?_⟩
    unfold State.takeRxForm
    rw [formsChanged_kn, dropPartial_kn]
    split
    next back => exact ⟨rfl, rfl, rfl⟩
    next other => exact ⟨rfl, rfl, rfl⟩
  · refine ⟨_, congrArg Host.Outcome.next (if_pos (by simp [data, three, own, far])), ?_⟩
    dsimp only
    by_cases asked : s.kn.run.partnerAsked = true
    · rw [if_pos asked]
      exact ⟨rfl, fun absent => absurd (asked.symm.trans absent) (by decide), fun _ => rfl, rfl⟩
    · rw [if_neg asked]
      exact ⟨rfl, fun _ => statusTx_setStatus_self (shape_status shape) _ (by decide), fun present => absurd present asked, rfl⟩
  · refine ⟨_, congrArg Host.Outcome.next (if_pos (by simp [data, three])), ?_⟩
    dsimp only
    generalize made : ({ s with kn := _ } : State) = u
    have mode : u.link.mode = s.link.mode := by rw [← made]
    have free : u.armed = s.armed := by rw [← made]; rfl
    obtain ⟨knE, step⟩ := endKnuckle_kn (u.commitProfile (Profile.ofRung (u.link.mode.getD 0) true)) .timeout
    have eng : ((u.commitProfile (Profile.ofRung (u.link.mode.getD 0) true)).endKnuckle .timeout).eng =
      (u.commitProfile (Profile.ofRung (u.link.mode.getD 0) true)).eng := step.eng
    rw [mode] at knE eng
    rw [knE, eng]
    refine ⟨?_, ?_, ?_, rfl, fun none => commitProfile_staging _ (free.trans none), fun some => commitProfile_later _ (free.trans some)⟩
    · rw [commitProfile_eq, ← made]
      rfl
    · rw [commitProfile_eq, ← made]
      rfl
    · rw [commitProfile_eq, ← made]

end Sys2Proof.Machine
end

section
/-! PROOFS. O60: cable diagnostics. -/

namespace Sys2Proof.Machine

set_option Elab.async false

/-! ### Items of link OAM -/

/-- A field of an item's body (R276). -/
theorem oamItem_body (s : State) (typ : Nat) {body : List Byte} (short : body.length ≤ 52) (k n : Nat) : ∃ tail : List Byte,
    leAt (s.oamItem typ body) (8 + k) n = leAt (body ++ tail) k n := by
  refine ⟨List.replicate (52 - body.length) 0 ++ leBytes 4 (crc32 (packBytes 8 [(16, typ), (8, 1), (8, 0), (32, s.lc.run.oamSeq)] ++ fitBytes 52 body)), ?_⟩
  unfold leAt State.oamItem
  have eight : (packBytes 8 [(16, typ), (8, 1), (8, 0), (32, s.lc.run.oamSeq)]).length = 8 := length_packBytes _ _
  rw [List.append_assoc, ← List.drop_drop, List.drop_left' eight, fitBytes, List.take_of_length_le short, List.append_assoc]

/-- The fields of a QUIET_REQ: pair, ACTION and DURATION (R270). -/
theorem quietReq_fields {p a ms : Nat} (pair : p < 256) (action : a < 256) (time : ms < 65536) (tail : List Byte) :
    leAt (packBytes 4 [(8, p), (8, a), (16, ms)] ++ tail) 0 1 = p ∧ leAt (packBytes 4 [(8, p), (8, a), (16, ms)] ++ tail) 1 1 = a ∧
      leAt (packBytes 4 [(8, p), (8, a), (16, ms)] ++ tail) 2 2 = ms := by
  simp only [leAt, packBytes, packNat, leBytes, List.cons_append, List.drop_succ_cons, List.drop_zero, List.take_succ_cons, List.take_zero, leNat,
    BitVec.toNat_ofNat]
  omega

/-- The fields of a QUIET_ACK: pair, ACTION and RESULT (R270). -/
theorem quietAck_fields {p a r : Nat} (pair : p < 256) (action : a < 256) (result : r < 256) (tail : List Byte) :
    leAt (packBytes 3 [(8, p), (8, a), (8, r)] ++ tail) 0 1 = p ∧ leAt (packBytes 3 [(8, p), (8, a), (8, r)] ++ tail) 1 1 = a ∧
      leAt (packBytes 3 [(8, p), (8, a), (8, r)] ++ tail) 2 1 = r := by
  simp only [leAt, packBytes, packNat, leBytes, List.cons_append, List.drop_succ_cons, List.drop_zero, List.take_succ_cons, List.take_zero, leNat,
    BitVec.toNat_ofNat]
  omega

theorem quietMs_le (blocks : Nat) : quietMs blocks ≤ 100 := Nat.min_le_left _ _

/-! ### The end of a DIAG_TDR -/

/-- The end of a run keeps its findings and its results (R263). -/
theorem finishDiag_diag {s : State} {r : DiagRun} (running : s.diag.run = some r) (st : Status) :
    (s.finishDiag st).diag = { s.diag with run := none, elapsed := (s.finishDiag st).diag.elapsed } := by
  unfold State.finishDiag
  rw [running]
  have asked : ∀ v : State, (v.sendQuietReq s.kn.shed 0 1).diag = v.diag := fun v => by
    unfold State.sendQuietReq State.sendOam
    split
    · rfl
    · rfl
  have ended : ∀ (v : State) (p : Capsule → Bool) (l : List (Nat × Nat)), (v.endRun 0x53 p st l).diag = v.diag := fun v p l => by
    rw [State.endRun_diag]
  have written : ∀ (v : State) (a n : Nat) (l : List Byte), (v.writeLines a n l).diag = v.diag := fun v a n l =>
    writeLines_keeps State.diag (fun _ _ _ => rfl) _ _ _ _
  dsimp only
  rw [ended]
  generalize requested : (if r.onShed = true then s.sendQuietReq s.kn.shed 0 1 else s) = t
  have same : t.diag = s.diag := by
    rw [← requested]
    split
    · exact asked s
    · rfl
  by_cases out : r.outAddr = 0
  · rw [if_pos out]
    split
    · simp only [State.modLink, same]
    · simp only [same]
  · rw [if_neg out]
    split
    · simp only [State.modLink, written, same]
    · simp only [written, same]

theorem setAt_foldl_getD {l : List Nat} (res : List Nat) (code : Nat) (k : Nat) :
    (l.foldl (fun x j => if j < 4 then setAt x j code else x) res).length = res.length ∧
    (k ∈ l → k < res.length → k < 4 → (l.foldl (fun x j => if j < 4 then setAt x j code else x) res).getD k 0 = code) ∧
    (k ∉ l → (l.foldl (fun x j => if j < 4 then setAt x j code else x) res).getD k 0 = res.getD k 0) := by
  induction l generalizing res with
  | nil => simp
  | cons j l ih =>
    rw [List.foldl_cons]
    obtain ⟨length, set, kept⟩ := ih (if j < 4 then setAt res j code else res)
    have size : (if j < 4 then setAt res j code else res).length = res.length := by
      split
      · exact List.length_set ..
      · rfl
    refine ⟨length.trans size, fun mem inside small => ?_, fun out => ?_⟩
    · by_cases later : k ∈ l
      · exact set later (by omega) small
      · rw [kept later]
        obtain rfl : k = j := (List.mem_cons.mp mem).resolve_right later
        rw [if_pos small]
        simp [setAt, List.getD_eq_getElem?_getD, List.getElem?_set_self inside]
    · rw [kept (fun later => out (List.mem_cons_of_mem _ later))]
      split
      · have other : j ≠ k := fun same => out (same ▸ List.mem_cons_self)
        simp [setAt, List.getD_eq_getElem?_getD, List.getElem?_set_ne other]
      · rfl

/-- What every measurement that is left records when a run is ended (R263). -/
theorem endDiagTests_all {s : State} {r : DiagRun} (running : s.diag.run = some r) (code : Nat) (st : Status) :
    (s.endDiagTests code st).diag.run = none ∧ (s.endDiagTests code st).diag.find = s.diag.find ∧
      (∀ k ∈ r.left, k < s.diag.tdrResult.length → k < 4 → (s.endDiagTests code st).diag.tdrResult.getD k 0 = code) ∧
      (∀ k, k ∉ r.left → (s.endDiagTests code st).diag.tdrResult.getD k 0 = s.diag.tdrResult.getD k 0) := by
  unfold State.endDiagTests
  rw [running]
  dsimp only
  rw [finishDiag_diag (r := { r with left := [] }) rfl]
  exact ⟨rfl, rfl, fun k mem inside small => (setAt_foldl_getD s.diag.tdrResult code k).2.1 mem inside small,
    fun k out => (setAt_foldl_getD s.diag.tdrResult code k).2.2 out⟩

/-! ### Measurements -/

section
variable {s : State} {r : DiagRun} {b : DiagBlock} {k : Nat} {rest : List Nat} (running : s.diag.run = some r) (left : r.left = k :: rest)
  (granted : r.asking = false) (own : r.onShed = false)

/-- A run that has measurements left goes on. -/
theorem settleDiag_left {s : State} {r : DiagRun} (running : s.diag.run = some r) (left : r.left ≠ []) : s.settleDiag = s := by
  unfold State.settleDiag
  rw [running]
  exact if_neg left

/-- One that has none left ends with OK. -/
theorem settleDiag_done {s : State} {r : DiagRun} (running : s.diag.run = some r) (done : r.left = []) : s.settleDiag = s.finishDiag .ok := by
  unfold State.settleDiag
  rw [running]
  exact if_pos done

/-- Settling changes the run and its time alone in the unit's record. -/
theorem settleDiag_diag {s : State} {r : DiagRun} (running : s.diag.run = some r) :
    s.settleDiag.diag = { s.diag with run := s.settleDiag.diag.run, elapsed := s.settleDiag.diag.elapsed } ∧ (r.left = [] → s.settleDiag.diag.run = none) := by
  by_cases done : r.left = []
  · rw [settleDiag_done running done, finishDiag_diag running]
    exact ⟨rfl, fun _ => rfl⟩
  · rw [settleDiag_left running done]
    exact ⟨rfl, fun absent => absurd absent done⟩

/-- What the unit holds once a block is taken. -/
def State.blockTaken (s : State) (r1 : DiagRun) (good : Bool) : State :=
  s.modDiag (fun d => { d with run := some r1, discarded := if good then d.discarded else inc 16 d.discarded })

include running left granted own

theorem exec_tdrBlockDone (engine : s.backgroundEngine = true) : exec (.tdrBlockDone b) s =
    let r1 := if blockGood b k then s.accumulate r k b else { r with discardedHere := r.discardedHere + 1 }
    let s1 := s.blockTaken r1 (blockGood b k)
    .next (if r1.accepted = r.blocks then (s1.endMeasurement r1 k 1).settleDiag
      else if 4 * r.blocks ≤ r1.discardedHere then (s1.endMeasurement r1 k 2).settleDiag else s1) := by
  refine congrArg Host.Outcome.next ?_
  rw [running]
  dsimp only
  rw [left]
  dsimp only
  rw [granted, engine, own, if_neg (by decide)]
  simp only [Bool.and_false, Bool.false_and, Bool.false_eq_true, if_false]
  rfl

theorem tdrBlockDone_good (engine : s.backgroundEngine = true) (good : blockGood b k = true) (more : r.accepted + 1 < r.blocks)
    (few : r.discardedHere < 4 * r.blocks) :
    exec (.tdrBlockDone b) s = .next { s with diag := { s.diag with run := some (s.accumulate r k b) } } := by
  rw [exec_tdrBlockDone running left granted own engine]
  dsimp only
  rw [good, if_pos rfl, if_neg (show ¬ (s.accumulate r k b).accepted = r.blocks from Nat.ne_of_lt more), if_neg (show ¬ 4 * r.blocks ≤ (s.accumulate r k b).discardedHere from Nat.not_le.mpr few)]
  rfl

theorem tdrBlockDone_bad (engine : s.backgroundEngine = true) (bad : blockGood b k = false) (few : r.discardedHere + 1 < 4 * r.blocks)
    (more : r.accepted < r.blocks) : exec (.tdrBlockDone b) s =
      .next { s with diag := { s.diag with run := some { r with discardedHere := r.discardedHere + 1 }, discarded := inc 16 s.diag.discarded } } := by
  rw [exec_tdrBlockDone running left granted own engine]
  dsimp only
  rw [bad, if_neg Bool.false_ne_true, if_neg (Nat.ne_of_lt more), if_neg (Nat.not_le.mpr few)]
  rfl

/-- The last block that a measurement needs ends it (R264). -/
theorem tdrBlockDone_complete (engine : s.backgroundEngine = true) (good : blockGood b k = true) (last : r.accepted + 1 = r.blocks) :
    exec (.tdrBlockDone b) s =
      .next (((s.blockTaken (s.accumulate r k b) true).endMeasurement (s.accumulate r k b) k 1).settleDiag) := by
  rw [exec_tdrBlockDone running left granted own engine]
  dsimp only
  rw [good, if_pos rfl, if_pos (show (s.accumulate r k b).accepted = r.blocks from last)]

/-- Too many discarded blocks end it DISTURBED (R269). -/
theorem tdrBlockDone_disturbed (engine : s.backgroundEngine = true) (bad : blockGood b k = false) (last : 4 * r.blocks = r.discardedHere + 1)
    (more : r.accepted < r.blocks) : exec (.tdrBlockDone b) s =
      let r1 := { r with discardedHere := r.discardedHere + 1 }
      .next (((s.blockTaken r1 false).endMeasurement r1 k 2).settleDiag) := by
  rw [exec_tdrBlockDone running left granted own engine]
  dsimp only
  rw [bad, if_neg Bool.false_ne_true, if_neg (Nat.ne_of_lt more), if_pos (Nat.le_of_eq last)]

omit granted own in
theorem tdrBlockDone_waits (busy : s.backgroundEngine = false) : exec (.tdrBlockDone b) s = .next s := by
  refine congrArg Host.Outcome.next ?_
  rw [running]
  dsimp only
  rw [left]
  dsimp only
  rw [busy, if_pos (by simp)]

omit granted own in
theorem exec_diagNoEngine (busy : s.backgroundEngine = false) : exec .diagNoEngine s = .next (if k < 4 then
    (s.modDiag (fun d => { d with tdrResult := setAt d.tdrResult k 5, run := some { r with left := rest, accepted := 0, discardedHere := 0, acc := Quad.all [] } })).settleDiag
    else (s.modDiag (fun d => { d with nextResult := 5, run := some { r with left := [] } })).settleDiag) := by
  refine congrArg Host.Outcome.next ?_
  rw [running]
  dsimp only
  rw [left]
  dsimp only
  rw [busy, if_neg (by decide)]

end

/-! The end of a measurement, of a pair and of an aggressor -/

section
variable {s : State} {r a : DiagRun} {k : Nat} {rest : List Nat} (left : a.left = k :: rest)
include left

theorem endMeasurement_pair (pair : k < 4) (good : Bool) (result : Nat) :
    let t := (s.blockTaken a good).endMeasurement a k result
    let p : Pair := ⟨k % 4, Nat.mod_lt _ (by decide)⟩
    t = { s with diag := t.diag } ∧ t.diag.tdrResult = setAt s.diag.tdrResult k result ∧
      t.diag.discarded = (if good then s.diag.discarded else inc 16 s.diag.discarded) ∧
      (∃ r' : DiagRun, t.diag.run = some r' ∧ r'.left = rest ∧ r'.accepted = 0 ∧ r'.discardedHere = 0) ∧
      (0 < a.accepted → t.diag.find.at p = tdrRecord a.stepThr a.endThr (s.diagBins a.range ((a.acc.at p).map (gammaOf a.accepted)))
        (if bitAt a.tests 1 then s.returnLoss a (a.acc.at p) else List.replicate 8 0)) := by
  dsimp only
  unfold State.endMeasurement
  dsimp only
  rw [if_pos pair]
  refine ⟨rfl, rfl, rfl, ⟨_, rfl, ?_, rfl, rfl⟩, fun some => ?_⟩
  · rw [left]
    rfl
  · simp only [State.modDiag, decide_eq_true some, if_true, Quad.at_put]
    rfl

theorem endMeasurement_aggressor (next : 4 ≤ k) (some : 0 < a.accepted) :
    let t := (s.blockTaken a true).endMeasurement a k 1
    let l := a.next ++ (measuredPairs k).map (fun p => (k - 4, p.val, nextLoss a (a.acc.at p)))
    t = { s with diag := t.diag } ∧ t.diag.tdrResult = s.diag.tdrResult ∧ (∃ r' : DiagRun, t.diag.run = .some r' ∧ r'.left = rest ∧ r'.next = l) ∧
      (rest = [] → t.diag.nextMap = combinations.map (nextMean l) ∧ (s.diag.nextResult ≠ 2 → t.diag.nextResult = 1)) := by
  dsimp only
  unfold State.endMeasurement
  dsimp only
  rw [if_neg (Nat.not_lt.mpr next), left, decide_eq_true some]
  simp only [List.drop_succ_cons, List.drop_zero, if_true]
  split
  next done =>
    refine ⟨rfl, rfl, ⟨_, rfl, rfl, rfl⟩, fun _ => ⟨rfl, fun fresh => ?_⟩⟩
    have undisturbed : (decide (1 = 1) && decide (rest = []) && decide (s.diag.nextResult ≠ 2)) = true := by simp [done, fresh]
    exact if_pos undisturbed
  next more => exact ⟨rfl, rfl, ⟨_, rfl, rfl, rfl⟩, fun done => absurd done more⟩

end

/-! ### The start of a run -/

section
variable {s : State} {tag : BitVec 16} {q : Request} (takes : Takes s tag 0x53 q) (len : q.cap.len = 0) (part : s.fuse.part.diag = true)
  (ready : s.ready .diag = true) (line : s.ready .line = true) (cal : s.cal.run = none) (diag : s.diag.run = none) (bist : s.bist.run = none)
  (form : diagBad q.cap = false) (buffer : q.cap.arg 32 8 = 0 ∨ s.bufferFault (q.cap.arg 32 8) 8256 true = none)
  (allowed : s.diagAllowed (q.cap.arg 28 1) (q.cap.arg 29 1) = true)
include takes len part ready line cal diag bist form buffer allowed

theorem exec_diagTdr : exec (.diagTdr tag) s = .next ((s.begin q).leaveDormant.startDiag q) := by
  refine (congrArg Host.Outcome.next (if_neg (by simp [cal, diag]))).trans ?_
  refine next_runRequest takes ((guarded_begin takes ?_).trans ?_)
  · have may : (s.begin q).diagAllowed (q.cap.arg 28 1) (q.cap.arg 29 1) = true := allowed
    simp [firstFail, len, part, ready, line, may]
  · have untested : (s.begin q).diagTested (q.cap.arg 28 1) (q.cap.arg 29 1) = false := by
      have idle : (s.begin q).bist.run = none := bist
      unfold State.diagTested
      rw [idle]
    dsimp only
    rw [untested]
    refine (if_neg (by simp)).trans ((guarded_begin takes (by simp [firstFail, form])).trans ?_)
    have open' : (if q.cap.arg 32 8 = 0 then none else (s.begin q).bufferFault (q.cap.arg 32 8) 8256 true) = none := by
      rcases buffer with zero | free
      · exact if_pos zero
      · have found : (s.begin q).bufferFault (q.cap.arg 32 8) 8256 true = none := free
        rw [found, ite_self]
    rw [open']
    rfl

end

/-- The pairs and the aggressors that a run has left at its start (R262). -/
def diagLeft (c : Capsule) : List Nat :=
  (List.range 4).filter (bitAt (if c.arg 28 1 % 4 = 0 then 0 else c.arg 29 1)) ++ (if bitAt (c.arg 28 1) 2 then [4, 5, 6, 7] else [])

theorem bitAt_zero (i : Nat) : bitAt 0 i = false := by simp [bitAt]

theorem mem_diagLeft_pair (c : Capsule) {p : Nat} (pair : p < 4) : p ∈ diagLeft c ↔ c.arg 28 1 % 4 ≠ 0 ∧ bitAt (c.arg 29 1) p = true := by
  have aggressors : p ∉ (if bitAt (c.arg 28 1) 2 then [4, 5, 6, 7] else []) := by
    split
    · simp
      omega
    · exact List.not_mem_nil
  rw [diagLeft, List.mem_append, or_iff_left aggressors, List.mem_filter, List.mem_range]
  by_cases tdr : c.arg 28 1 % 4 = 0
  · simp [tdr, bitAt_zero]
  · simp [tdr, pair]

theorem mem_diagLeft_four (c : Capsule) : 4 ∈ diagLeft c ↔ bitAt (c.arg 28 1) 2 = true := by
  rw [diagLeft, List.mem_append]
  split
  · simp
  · simp

/-- Suspending negotiation touches neither the unit nor the commands. -/
theorem suspended_keeps (c : Prop) [Decidable c] (s : State) (f : Link → Link) :
    (if c then s.modLink f else s).diag = s.diag ∧ (if c then s.modLink f else s).cyo = s.cyo := by
  split
  · exact ⟨rfl, rfl⟩
  · exact ⟨rfl, rfl⟩

@[simp] theorem leaveDormant_link (s : State) : s.leaveDormant.link = s.link := by rw [leaveDormant_eq]
@[simp] theorem leaveDormant_diag (s : State) : s.leaveDormant.diag = s.diag := by rw [leaveDormant_eq]
@[simp] theorem leaveDormant_cyo (s : State) : s.leaveDormant.cyo = s.cyo := by rw [leaveDormant_eq]
@[simp] theorem leaveDormant_lc (s : State) : s.leaveDormant.lc = s.lc := by rw [leaveDormant_eq]
@[simp] theorem leaveDormant_kn (s : State) : s.leaveDormant.kn = s.kn := by rw [leaveDormant_eq]
@[simp] theorem leaveDormant_time (s : State) : s.leaveDormant.time = s.time := by rw [leaveDormant_eq]

/-- A run with the link down starts with the measurements named (R262). -/
theorem startDiag_down {s : State} {q : Request} (down : s.link.state ≤ 2) : ∃ r : DiagRun, (s.startDiag q).diag.run = some r ∧ r.tag = q.cap.tag ∧
    r.blocks = s.diag.blocks ∧ r.onShed = false ∧ r.asking = false ∧ r.left = diagLeft q.cap ∧ r.suspended = decide (s.link.state ≠ 0) ∧
    (∀ p < 4, (s.startDiag q).diag.tdrResult.getD p 9 = if p ∈ r.left then 0 else 7) ∧
    (s.startDiag q).diag.nextResult = (if bitAt (q.cap.arg 28 1) 2 then 0 else 7) ∧
    (s.startDiag q).cyo.running = s.cyo.running ++ [{ q with since := s.time }] := by
  have under : decide (3 ≤ s.link.state) = false := decide_eq_false (by omega)
  have results : ∀ p < 4, ((List.range 4).map (fun p =>
      if ((List.range 4).filter (bitAt (if q.cap.arg 28 1 % 4 = 0 then 0 else q.cap.arg 29 1))).contains p then 0 else 7)).getD p 9 =
      if p ∈ diagLeft q.cap then 0 else 7 := fun p pair => by
    rw [List.getD_eq_getElem _ _ (by simpa using pair), List.getElem_map, List.getElem_range]
    refine if_congr ?_ rfl rfl
    rw [mem_diagLeft_pair q.cap pair, List.contains_iff_mem, List.mem_filter, List.mem_range]
    by_cases tdr : q.cap.arg 28 1 % 4 = 0
    · simp [tdr, bitAt_zero]
    · simp [tdr, pair]
  unfold State.startDiag
  dsimp only
  rw [under]
  rw [if_neg Bool.false_ne_true, (suspended_keeps _ _ _).1, (suspended_keeps _ _ _).2]
  exact ⟨_, rfl, rfl, rfl, rfl, rfl, rfl, Bool.true_and _, results, rfl, rfl⟩

/-- The one pair of a mask (R262). -/
theorem filter_bitAt_two_pow (p : Pair) : (List.range 4).filter (bitAt (2 ^ p.val)) = [p.val] := by
  fin_cases p <;> rfl

/-- On the shed pair it first asks for silence (R270). -/
theorem startDiag_shed {s : State} {q : Request} (data : s.nativeData = true) (tdr : q.cap.arg 28 1 % 4 ≠ 0) (only : bitAt (q.cap.arg 28 1) 2 = false)
    (pair : q.cap.arg 29 1 = 2 ^ s.kn.shed.val) : ∃ r : DiagRun, (s.startDiag q).diag.run = some r ∧ r.onShed = true ∧ r.asking = true ∧
    r.left = [s.kn.shed.val] ∧ (s.startDiag q).link = s.link ∧
    (s.startDiag q).lc.run.oam = s.lc.run.oam ++ [s.oamItem 2 (packBytes 4 [(8, s.kn.shed.val), (8, 1), (16, quietMs s.diag.blocks)])] := by
  have up : decide (3 ≤ s.link.state) = true := by
    simp only [State.nativeData, Bool.and_eq_true, decide_eq_true_eq] at data
    exact decide_eq_true (by omega)
  unfold State.startDiag
  dsimp only
  rw [up, if_neg tdr, pair, filter_bitAt_two_pow, only]
  simp only [Bool.not_true, Bool.false_and, Bool.false_eq_true, if_false, if_true]
  unfold State.askQuiet State.sendQuietReq
  dsimp only
  rw [sendOam_native (by exact data)]
  exact ⟨_, rfl, rfl, rfl, rfl, rfl, rfl⟩

/-! ### The messages of a silence -/

section
variable {s : State} {x : List Byte} {more : List (List Byte)} (front : s.lc.oamIn = x :: more)
include front

/-- The state in which the item in front is taken and counted. -/
theorem onOam_bad {typ : Nat} {act : List Byte → State → State} (bad : oamOk x = false) : s.onOam typ act =
    { s with lc := { s.lc with oamIn := more }, mon := { s.mon with oamDrop := inc 32 s.mon.oamDrop } } := by
  simp only [State.onOam, front, bad, Bool.not_false, if_true]

variable (ok : oamOk x = true)
include ok

/-- The partner's answer about the pair of a run (R270). -/
theorem exec_quietAck {r : DiagRun} (typ : leAt x 0 2 = 3) (action : leAt x 9 1 = 1) (running : s.diag.run = some r) (shed : r.onShed = true) :
    ∃ mon : Monitor, mon.oamRx = inc 32 s.mon.oamRx ∧
      let u : State := { s with lc := { s.lc with oamIn := more }, mon := mon }
      exec .quietAck s = .next (if leAt x 10 1 = 3 then u.endDiagTests 4 .ok
        else if leAt x 10 1 ≠ 0 || (s.link.map.far.at s.kn.shed).val ≠ leAt x 8 1 then u.endDiagTests 3 .ok
        else u.modDiag (fun d => { d with run := some { r with asking := false } })) := by
  refine ⟨if leAt x 10 1 = 0 then { s.mon with oamRx := inc 32 s.mon.oamRx }
    else { s.mon with oamRx := inc 32 s.mon.oamRx, quietRefused := inc 32 s.mon.quietRefused }, ?_, congrArg Host.Outcome.next ?_⟩
  · split
    · rfl
    · rfl
  · rw [onOam_good front ok typ]
    dsimp only
    by_cases zero : leAt x 10 1 = 0
    · rw [if_pos zero, if_pos zero]
      dsimp only
      rw [running]
      simp only [shed, action, Bool.not_true, ne_eq, not_true, decide_false, Bool.or_self, Bool.false_eq_true, if_false]
    · rw [if_neg zero, if_neg zero]
      dsimp only
      rw [running]
      simp only [shed, action, Bool.not_true, ne_eq, not_true, decide_false, Bool.or_self, Bool.false_eq_true, if_false]

end

/-- The one local pair whose far pair is named is found. -/
theorem farPair_found {far : Quad Pair} {p : Pair} {n : Nat} (named : (far.at p).val = n) (unique : ∀ p' : Pair, p' ≠ p → far.at p' ≠ far.at p) :
    pairs.find? (fun (p : Pair) => (far.at p).val = n) = some p := by
  have only : ∀ p' : Pair, (far.at p').val = n → p' = p := fun p' same => by
    by_contra other
    exact unique p' other (Fin.ext (same.trans named.symm))
  cases found : pairs.find? (fun (p : Pair) => (far.at p).val = n) with
  | none =>
    have all := List.find?_eq_none.mp found p (by fin_cases p <;> decide)
    exact absurd (decide_eq_true named) all
  | some p' => rw [only p' (by simpa using List.find?_some found)]

/-- An answer to the partner is queued and counted (R270). -/
theorem sendQuietAck_native {s : State} (data : s.nativeData = true) (p : Pair) {action result : Nat} (a : action < 256) (r : result < 256) :
    ∃ item : List Byte, (s.sendQuietAck p action result).lc = { s.lc with run := { s.lc.run with
        oam := s.lc.run.oam ++ [item], oamSeq := (s.lc.run.oamSeq + 1) % 2 ^ 32 } } ∧
      leAt item 0 2 = 3 ∧ leAt item 8 1 = p.val ∧ leAt item 9 1 = action ∧ leAt item 10 1 = result ∧
      (s.sendQuietAck p action result).mon.oamRx = s.mon.oamRx ∧ (s.sendQuietAck p action result).mon.oamTx = inc 32 s.mon.oamTx ∧
      (s.sendQuietAck p action result).mon.quietRefused = (if result = 0 then s.mon.quietRefused else inc 32 s.mon.quietRefused) ∧
      (s.sendQuietAck p action result).diag = s.diag ∧
      s.sendQuietAck p action result = { s with lc := (s.sendQuietAck p action result).lc, mon := (s.sendQuietAck p action result).mon } := by
  have short : (packBytes 3 [(8, p.val), (8, action), (8, result)]).length ≤ 52 := by rw [length_packBytes]; decide
  have pair : p.val < 256 := Nat.lt_trans p.isLt (by decide)
  have field : ∀ k n : Nat, ∃ tail : List Byte, leAt (s.oamItem 3 (packBytes 3 [(8, p.val), (8, action), (8, result)])) (8 + k) n =
      leAt (packBytes 3 [(8, p.val), (8, action), (8, result)] ++ tail) k n := oamItem_body s 3 short
  refine ⟨s.oamItem 3 (packBytes 3 [(8, p.val), (8, action), (8, result)]), ?_, oamItem_type s (by decide) _, ?_, ?_, ?_, ?_⟩
  · unfold State.sendQuietAck
    rw [sendOam_native data]
    dsimp only
    split
    · rfl
    · rfl
  · obtain ⟨tail, same⟩ := field 0 1
    exact same.trans (quietAck_fields pair a r tail).1
  · obtain ⟨tail, same⟩ := field 1 1
    exact same.trans (quietAck_fields pair a r tail).2.1
  · obtain ⟨tail, same⟩ := field 2 1
    exact same.trans (quietAck_fields pair a r tail).2.2
  · unfold State.sendQuietAck
    rw [sendOam_native data]
    dsimp only
    split
    · exact ⟨rfl, rfl, rfl, rfl, rfl⟩
    · exact ⟨rfl, rfl, rfl, rfl, rfl⟩

/-- The partner asks for silence on a pair, or ends it (R270). -/
theorem exec_quietReq {s : State} {x : List Byte} {more : List (List Byte)} {p : Pair} {result : Nat} (front : s.lc.oamIn = x :: more) (ok : oamOk x = true)
    (typ : leAt x 0 2 = 2) (named : (s.link.map.far.at p).val = leAt x 8 1) (unique : ∀ p' : Pair, p' ≠ p → s.link.map.far.at p' ≠ s.link.map.far.at p)
    (answer : (if s.kn.state = 2 && p = s.kn.shed then 0 else if s.kn.state = 0 || s.kn.state = 2 then 1 else 2) = result) :
    exec .quietReq s = .next (State.sendQuietAck { s with
      lc := { s.lc with oamIn := more }, mon := { s.mon with oamRx := inc 32 s.mon.oamRx }
      diag := { s.diag with quietUntil :=
        if result ≠ 0 then s.diag.quietUntil else if leAt x 9 1 = 1 then some (s.time + 1000000 * leAt x 10 2) else none } } p (leAt x 9 1) result) := by
  refine congrArg Host.Outcome.next ?_
  rw [onOam_good front ok typ]
  dsimp only
  rw [farPair_found named unique]
  dsimp only
  rw [show (if s.kn.state = 2 && p = s.kn.shed then 0 else if s.kn.state = 0 || s.kn.state = 2 then 1 else 2) = result from answer]
  rfl

/-- ACTION of a good QUIET_REQ is one bit (R277). -/
theorem quietReq_action {x : List Byte} (ok : oamOk x = true) (typ : leAt x 0 2 = 2) : leAt x 9 1 < 256 := by
  simp only [oamOk, typ, Bool.and_eq_true, decide_eq_true_eq] at ok
  obtain ⟨-, fields⟩ := ok
  rw [if_neg (by decide), if_pos trivial] at fields
  simp only [Bool.and_eq_true, decide_eq_true_eq] at fields
  omega

/-- Settles O60. -/
theorem cableDiagnosticsMeasure : Obligations.CableDiagnosticsMeasure := by
  refine ⟨fun s tag q takes len part ready line cal diag bist form buffer => ⟨fun down => ?_, fun data shed only pair => ?_⟩,
    fun s r b k rest running left granted own => ⟨fun engine => ⟨fun good more few => tdrBlockDone_good running left granted own engine good more few,
      fun bad few more => tdrBlockDone_bad running left granted own engine bad few more, fun good last pair => ?_, fun good last next => ?_,
      fun bad last more pair goes => ?_⟩, fun busy => ⟨tdrBlockDone_waits running left busy, fun pair goes => ?_, fun next => ?_⟩⟩,
    fun s r running => ⟨?_, fun asking => ?_, fun x more front ok typ action shed => ?_⟩,
    fun s x more front => ⟨fun bad c mem => ?_, fun p ok typ data named unique => ⟨fun three same => ?_, fun four => ?_⟩⟩, fun s => rfl⟩
  · have allowed : s.diagAllowed (q.cap.arg 28 1) (q.cap.arg 29 1) = true := if_pos down
    obtain ⟨r, run, rtag, blocks, onShed, asking, left, suspended, results, next, running⟩ := startDiag_down (s := (s.begin q).leaveDormant) (q := q)
      (by rw [leaveDormant_eq]; exact down)
    rw [leaveDormant_diag] at blocks
    rw [leaveDormant_link] at suspended
    rw [leaveDormant_cyo, leaveDormant_time] at running
    refine ⟨_, r, exec_diagTdr takes len part ready line cal diag bist form buffer allowed, run, rtag, blocks, onShed, asking, fun p small => ⟨?_, results p small⟩,
      ?_, ?_, suspended, running⟩
    · rw [left]
      exact mem_diagLeft_pair q.cap small
    · rw [left]
      exact mem_diagLeft_four q.cap
    · rw [next, left]
      exact if_congr (mem_diagLeft_four q.cap).symm rfl rfl
  · have up : ¬ s.link.state ≤ 2 := by
      have eight := data
      simp only [State.nativeData, Bool.and_eq_true, decide_eq_true_eq] at eight
      omega
    have allowed : s.diagAllowed (q.cap.arg 28 1) (q.cap.arg 29 1) = true := by
      unfold State.diagAllowed
      rw [if_neg up]
      simp [data, shed, only, pair]
    have tdr : q.cap.arg 28 1 % 4 ≠ 0 := by
      simp only [diagBad, Bool.or_eq_false_iff, decide_eq_false_iff_not] at form
      simp only [bitAt, decide_eq_false_iff_not] at only
      omega
    obtain ⟨r, run, onShed, asking, left, link, oam⟩ := startDiag_shed (s := (s.begin q).leaveDormant) (q := q) (by rw [leaveDormant_eq]; exact data) tdr only
      (by rw [leaveDormant_eq]; exact pair)
    rw [leaveDormant_kn] at left
    rw [leaveDormant_link] at link
    rw [leaveDormant_lc, leaveDormant_kn, leaveDormant_diag] at oam
    have short : (packBytes 4 [(8, s.kn.shed.val), (8, 1), (16, quietMs s.diag.blocks)]).length ≤ 52 := by rw [length_packBytes]; decide
    have fields := quietReq_fields (Nat.lt_trans s.kn.shed.isLt (by decide : 4 < 256)) (by decide : 1 < 256)
      (Nat.lt_of_le_of_lt (quietMs_le s.diag.blocks) (by decide))
    obtain ⟨tail0, first⟩ := oamItem_body (s.begin q).leaveDormant 2 short 0 1
    obtain ⟨tail1, second⟩ := oamItem_body (s.begin q).leaveDormant 2 short 1 1
    obtain ⟨tail2, third⟩ := oamItem_body (s.begin q).leaveDormant 2 short 2 2
    exact ⟨_, r, _, exec_diagTdr takes len part ready line cal diag bist form buffer allowed, run, onShed, asking, left, oam, oamItem_type _ (by decide) _,
      first.trans (fields tail0).1, second.trans (fields tail1).2.1, third.trans (fields tail2).2.2, link⟩
  · obtain ⟨shape, result, -, ⟨r', run, leftR, accepted, discarded⟩, find⟩ := endMeasurement_pair (s := s) (a := s.accumulate r k b) left pair true 1
    obtain ⟨settled, done⟩ := settleDiag_diag run
    refine ⟨_, tdrBlockDone_complete running left granted own engine good last, ?_, ?_, fun goes => ?_, fun ends => done (leftR.trans ends)⟩
    · rw [settled]
      exact result
    · rw [settled]
      refine (find (by rw [show (s.accumulate r k b).accepted = r.blocks from last]; omega)).trans ?_
      rw [show (s.accumulate r k b).accepted = r.blocks from last]
      rfl
    · rw [settleDiag_left run (by rw [leftR]; exact goes)]
      exact ⟨shape, r', run, leftR, accepted, discarded⟩
  · obtain ⟨shape, result, ⟨r', run, leftR, nexts⟩, map⟩ := endMeasurement_aggressor (s := s) (a := s.accumulate r k b) left next
      (by rw [show (s.accumulate r k b).accepted = r.blocks from last]; omega)
    obtain ⟨settled, done⟩ := settleDiag_diag run
    refine ⟨_, tdrBlockDone_complete running left granted own engine good last, ?_, fun goes => ?_, fun ends => ⟨done (leftR.trans ends), ?_, fun fresh => ?_⟩⟩
    · rw [settled]
      exact result
    · rw [settleDiag_left run (by rw [leftR]; exact goes)]
      exact ⟨shape, r', run, leftR, nexts⟩
    · rw [settled]
      exact (map ends).1
    · rw [settled]
      exact (map ends).2 fresh
  · obtain ⟨shape, result, counted, ⟨r', run, leftR, -, -⟩, -⟩ := endMeasurement_pair (s := s) (a := { r with discardedHere := r.discardedHere + 1 }) left pair false 2
    refine ⟨_, r', tdrBlockDone_disturbed running left granted own engine bad last more, ?_⟩
    rw [settleDiag_left run (by rw [leftR]; exact goes)]
    exact ⟨result, run, leftR, counted, shape⟩
  · refine ⟨_, { r with left := rest, accepted := 0, discardedHere := 0, acc := Quad.all [] },
      (exec_diagNoEngine running left busy).trans (congrArg Host.Outcome.next (if_pos pair)), ?_⟩
    rw [settleDiag_left (r := { r with left := rest, accepted := 0, discardedHere := 0, acc := Quad.all [] }) rfl goes]
    exact ⟨rfl, rfl, rfl, rfl⟩
  · refine ⟨_, (exec_diagNoEngine running left busy).trans (congrArg Host.Outcome.next (if_neg (Nat.not_lt.mpr next))), ?_⟩
    obtain ⟨settled, done⟩ := settleDiag_diag (s := s.modDiag (fun d => { d with nextResult := 5, run := some { r with left := [] } })) rfl
    refine ⟨?_, done rfl⟩
    rw [settled]
    rfl
  · exact ⟨_, rfl, endDiagTests_all running 6 .timeout⟩
  · refine ⟨_, congrArg Host.Outcome.next ?_, endDiagTests_all running 3 .ok⟩
    rw [running]
    exact if_pos asking
  · obtain ⟨mon, counted, answers⟩ := exec_quietAck front ok typ action running shed
    refine ⟨fun granted own => ?_, fun refused => ?_, fun released => ?_⟩
    · refine ⟨_, answers.trans (congrArg Host.Outcome.next ((if_neg (by omega)).trans (if_neg (by simp [granted, own])))), rfl, counted, rfl, rfl⟩
    · refine ⟨_, answers.trans (congrArg Host.Outcome.next ((if_neg (by omega)).trans (if_pos (by simp; omega)))), ?_⟩
      exact endDiagTests_all (s := { s with lc := { s.lc with oamIn := more }, mon := mon }) running 3 .ok
    · refine ⟨_, answers.trans (congrArg Host.Outcome.next (if_pos released)), ?_⟩
      exact endDiagTests_all (s := { s with lc := { s.lc with oamIn := more }, mon := mon }) running 4 .ok
  · rcases List.mem_cons.mp mem with rfl | mem
    · exact congrArg Host.Outcome.next (onOam_bad front bad)
    · obtain rfl := List.mem_singleton.mp mem
      exact congrArg Host.Outcome.next (onOam_bad front bad)
  · have sent := exec_quietReq (result := 0) front ok typ named unique (if_pos (by simp [three, same]))
    obtain ⟨item, lc, kind, pair, action, result, rx, tx, refused, diag, shape⟩ := sendQuietAck_native (s := { s with
      lc := { s.lc with oamIn := more }, mon := { s.mon with oamRx := inc 32 s.mon.oamRx }
      diag := { s.diag with quietUntil :=
        if (0 : Nat) ≠ 0 then s.diag.quietUntil else if leAt x 9 1 = 1 then some (s.time + 1000000 * leAt x 10 2) else none } }) data p
      (quietReq_action ok typ) (by decide : 0 < 256)
    refine ⟨_, sent, ?_, refused, item, by rw [lc], kind, pair, action, result, rx, tx, ?_⟩
    · rw [diag]
      rfl
    · rw [diag]
      exact shape
  · have sent := exec_quietReq (result := 1) front ok typ named unique (by simp [four])
    obtain ⟨item, lc, kind, pair, action, result, rx, tx, refused, diag, shape⟩ := sendQuietAck_native (s := { s with
      lc := { s.lc with oamIn := more }, mon := { s.mon with oamRx := inc 32 s.mon.oamRx }
      diag := { s.diag with quietUntil :=
        if (1 : Nat) ≠ 0 then s.diag.quietUntil else if leAt x 9 1 = 1 then some (s.time + 1000000 * leAt x 10 2) else none } }) data p
      (quietReq_action ok typ) (by decide : 1 < 256)
    refine ⟨_, sent, ?_, refused, item, by rw [lc], kind, pair, action, result, rx, tx, ?_⟩
    · rw [diag]
      rfl
    · rw [diag]
      exact shape

end Sys2Proof.Machine
end

section
/-! PROOFS. O58: CAL_RUN and the estimates of its items. -/

namespace Sys2Proof.Machine

set_option Elab.async false

/-! ### The end of a CAL_RUN and of its items -/

/-- The end of a run keeps its results; a reversion that waits for it is made then (R240, R257). -/
theorem finishCal_ends {s : State} {r : CalRun} (running : s.cal.run = some r) :
    s.finishCal.cal.run = none ∧ s.finishCal.cal.results = r.results ∧ s.finishCal.cal.revertDue = false ∧
      (s.cal.revertDue = false → s.finishCal.cal = { s.cal with run := none, results := r.results } ∧ s.finishCal.dl = s.dl) := by
  unfold State.finishCal
  rw [running]
  dsimp only
  generalize ended : State.endRun _ 0x50 _ _ _ = u
  have cal : u.cal = { s.cal with run := none, results := r.results } := by rw [← ended, State.endRun_cal]
  have dl : u.dl = s.dl := by rw [← ended, State.endRun_dl]
  unfold State.heldRevert
  split
  next due =>
    have reverted : ∀ v : State, v.revert.cal.run = v.cal.run ∧ v.revert.cal.results = v.cal.results ∧ v.revert.cal.revertDue = v.cal.revertDue :=
      fun _ => ⟨rfl, rfl, rfl⟩
    obtain ⟨run, results, cleared⟩ := reverted { u with cal := { u.cal with revertDue := false } }
    refine ⟨by rw [run, cal], by rw [results, cal], cleared, fun none => ?_⟩
    rw [cal] at due
    exact absurd (due.symm.trans none) (by decide)
  next none =>
    refine ⟨by rw [cal], by rw [cal], by simpa using none, fun _ => ⟨cal, dl⟩⟩

/-- What an item that ends for a pair with a code leaves: the run without it, or, where it was the last, no run (R240). -/
def Ended (r : CalRun) (i k code : Nat) (t : State) : Prop :=
  (r.left = [(i, k)] → t.cal.run = none ∧ t.cal.results.getD i 0 = code) ∧
    ∀ r', t.cal.run = some r' → r'.left = r.left.erase (i, k) ∧ r'.results.getD i 0 = code

theorem endCalItem_ends {s : State} {r : CalRun} {i k code : Nat} {changed : Bool} (running : s.cal.run = some r) (mem : (i, k) ∈ r.left)
    (fresh : r.results.getD i 0 = 0) (inside : i < r.results.length) (settled : s.cal.revertDue = false) :
    Ended r i k code (s.endCalItem i k code changed) ∧ (s.endCalItem i k code changed).cal.pair = s.cal.pair ∧
      (s.endCalItem i k code changed).dl = s.dl := by
  have rank : resultRank 0 = 0 := rfl
  have set : (setAt r.results i code).getD i 0 = code := by
    simp [setAt, List.getD_eq_getElem?_getD, List.getElem?_set_self inside]
  unfold State.endCalItem Ended
  rw [running]
  dsimp only
  rw [if_neg (by simp [mem]), fresh, rank, if_neg (Nat.not_lt_zero _)]
  split
  next done =>
    obtain ⟨-, -, -, ends⟩ := finishCal_ends (s := { s with cal := { s.cal with
      run := some { r with left := r.left.erase (i, k), results := setAt r.results i code }, dirty := s.cal.dirty || changed } }) rfl
    obtain ⟨cal, dl⟩ := ends settled
    rw [cal, dl]
    exact ⟨⟨fun _ => ⟨rfl, set⟩, fun r' absent => absurd absent (by simp)⟩, rfl, rfl⟩
  next more =>
    refine ⟨⟨fun last => absurd ?_ more, fun r' some => ?_⟩, rfl, rfl⟩
    · rw [last]
      simp
    · obtain rfl := Option.some.inj some
      exact ⟨rfl, set⟩

/-- An item that can be estimated is one that the run has left. -/
theorem calTask_mem {s : State} {r : CalRun} {i k : Nat} (running : s.cal.run = some r) (task : s.calTask i k = true) : (i, k) ∈ r.left := by
  simp only [State.calTask, State.calRunning, running, Bool.and_eq_true, List.contains_iff_mem] at task
  exact task.1.1.1

theorem zero_results {r : CalRun} (zero : r.results = [0, 0, 0, 0, 0]) {i : Nat} (five : i < 5) : r.results.getD i 0 = 0 ∧ i < r.results.length := by
  rw [zero]
  refine ⟨?_, five⟩
  interval_cases i <;> rfl

theorem modCal_self (s : State) (p : Pair) (f : CalPair → CalPair) : (s.modCal p f).cal.pair.at p = f (s.cal.pair.at p) := Quad.at_upd_self _ _ _

/-! ### The ADC's estimate -/

@[simp] theorem wantTrim_map (c : CalPair) (k : Nat) (n : Int × Int × Int) : (c.wantTrim k n).map = c.map := rfl

/-- The targets of a slice, as clamped trims. -/
def Slice.targets (x : Slice) : Int × Int × Int := (x.offsetTo, x.gainTo, x.skewTo)

theorem wantTrim_self {c : CalPair} {k : Nat} (n : Int × Int × Int) (inside : c.map.getD k 0 < c.slices.length) :
    ((c.wantTrim k n).slice (c.map.getD k 0)).targets = trimClamp n := by
  unfold CalPair.wantTrim CalPair.slice
  generalize c.map.getD k 0 = m at inside
  simp [modAt, List.getElem?_eq_getElem inside, Slice.targets]

theorem wantTrim_ne {c : CalPair} {k m : Nat} (n : Int × Int × Int) (other : c.map.getD k 0 ≠ m) : (c.wantTrim k n).slice m = c.slice m := by
  unfold CalPair.wantTrim CalPair.slice
  generalize c.map.getD k 0 = j at other
  simp [modAt, other]

theorem length_wantTrim (c : CalPair) (k : Nat) (n : Int × Int × Int) : (c.wantTrim k n).slices.length = c.slices.length := List.length_modify _ _ _

/-- A slice at no position of a list keeps its targets. -/
theorem wantTrims_ne (n : Nat → Int × Int × Int) (l : List Nat) (m : Nat) (c : CalPair) (out : ∀ k ∈ l, c.map.getD k 0 ≠ m) :
    (l.foldl (fun x k => x.wantTrim k (n k)) c).slice m = c.slice m := by
  induction l generalizing c with
  | nil => rfl
  | cons k l ih =>
    rw [List.foldl_cons, ih (c.wantTrim k (n k)) (fun j mem => out j (List.mem_cons_of_mem _ mem)), wantTrim_ne _ (out k List.mem_cons_self)]

/-- Each position of a list takes its own trims where the map repeats no slice over it (R228, R232). -/
theorem wantTrims_self (n : Nat → Int × Int × Int) (l : List Nat) (c : CalPair) (nodup : (l.map (fun k => c.map.getD k 0)).Nodup) {k : Nat} (mem : k ∈ l)
    (inside : c.map.getD k 0 < c.slices.length) : ((l.foldl (fun x j => x.wantTrim j (n j)) c).slice (c.map.getD k 0)).targets = trimClamp (n k) := by
  induction l generalizing c with
  | nil => exact absurd mem List.not_mem_nil
  | cons j l ih =>
    rw [List.map_cons, List.nodup_cons] at nodup
    rw [List.foldl_cons]
    by_cases later : k ∈ l
    · exact ih (c.wantTrim j (n j)) nodup.2 later (by rw [length_wantTrim]; exact inside)
    · obtain rfl := (List.mem_cons.mp mem).resolve_right later
      rw [wantTrims_ne n l _ (c.wantTrim k (n k)) fun i held same => nodup.1 (List.mem_map.mpr ⟨i, held, same⟩)]
      exact wantTrim_self _ inside

theorem map_positions_nodup {c : CalPair} (nodup : c.map.Nodup) (length : c.map.length = 32) : ((List.range 32).map (fun k => c.map.getD k 0)).Nodup := by
  have same : (List.range 32).map (fun k => c.map.getD k 0) = c.map := by
    refine List.ext_getElem (by simp [length]) fun k inside there => ?_
    rw [List.getElem_map, List.getElem_range, List.getD_eq_getElem _ _ there]
  rw [same]
  exact nodup

/-- The state in which an ADC estimate has recorded its MISMATCH. -/
def State.adcRecorded (s : State) (p : Pair) : State :=
  State.modCal { s with cal := { s.cal with est := s.cal.est.upd p (fun e => { e with sums := List.replicate 32 {}, tail := none }) } } p
    (fun x => { x with mismatch := some ((s.cal.pair.at p).mismatchOf (adcFound (s.cal.est.at p).sums s.symbolTime)) })

section
variable {s : State} {p : Pair}

theorem adcEstimate_waits (few : (s.cal.est.at p).sums.any (fun x => x.n < 1048576) = true) : s.adcEstimate p = s := by
  unfold State.adcEstimate
  exact if_pos (by rw [few, Bool.or_true])

theorem adcEstimate_trims (trim : s.calTask 0 p.val = true) (unselected : s.calTask 1 p.val = false)
    (many : (s.cal.est.at p).sums.any (fun x => x.n < 1048576) = false) :
    s.adcEstimate p = (s.adcRecorded p).trimPair p (adcFound (s.cal.est.at p).sums s.symbolTime) := by
  unfold State.adcEstimate
  dsimp only
  rw [trim, unselected, many, if_neg (by simp), Bool.false_and, if_pos rfl, if_neg Bool.false_ne_true]
  rfl

theorem adcRecorded_pair : (s.adcRecorded p).cal.pair.at p =
    { s.cal.pair.at p with mismatch := some ((s.cal.pair.at p).mismatchOf (adcFound (s.cal.est.at p).sums s.symbolTime)) } := modCal_self _ _ _

theorem trimPair_same {f : AdcFound} (same : ∀ k < 32, (s.cal.pair.at p).trimSame k ((s.cal.pair.at p).needed f k) = true) :
    s.trimPair p f = s.endCalItem 0 p.val 2 false := by
  unfold State.trimPair
  exact if_pos (List.all_eq_true.mpr fun k mem => same k (List.mem_range.mp mem))

theorem trimPair_moves {f : AdcFound} (moves : ∃ k < 32, (s.cal.pair.at p).trimSame k ((s.cal.pair.at p).needed f k) = false) :
    s.trimPair p f = (s.modCal p (fun c0 => (List.range 32).foldl (fun x k => x.wantTrim k ((s.cal.pair.at p).needed f k)) c0)).endCalItem 0 p.val 1 true := by
  obtain ⟨k, small, moved⟩ := moves
  unfold State.trimPair
  refine if_neg fun all => ?_
  have same := List.all_eq_true.mp all k (List.mem_range.mpr small)
  exact absurd (moved.symm.trans same) (by decide)

end

/-! ### The DAC's estimate -/

/-- One unfit cell's replacement: by a spare, or none is found (R233). -/
def replaceCell (x : CalPair × Bool) (k : Nat) : CalPair × Bool :=
  match x.1.spareCell x.1.cellsTo with
  | some j => ({ x.1 with cellsTo := setAt x.1.cellsTo k j, cellRetired := x.1.cellsTo.getD k 0 :: x.1.cellRetired }, x.2)
  | none => (x.1, true)

theorem replaceCell_some {c : CalPair} {b : Bool} {k j : Nat} (spare : c.spareCell c.cellsTo = some j) :
    replaceCell (c, b) k = ({ c with cellsTo := setAt c.cellsTo k j, cellRetired := c.cellsTo.getD k 0 :: c.cellRetired }, b) := by
  simp only [replaceCell, spare]

theorem replaceCell_none {c : CalPair} {b : Bool} {k : Nat} (spare : c.spareCell c.cellsTo = none) : replaceCell (c, b) k = (c, true) := by
  simp only [replaceCell, spare]

/-- Replacements touch neither the errors found nor the cells in force. -/
theorem replaceCells_keep (l : List Nat) (x : CalPair × Bool) : (l.foldl replaceCell x).1.cellErr = x.1.cellErr ∧ (l.foldl replaceCell x).1.cells = x.1.cells := by
  induction l generalizing x with
  | nil => exact ⟨rfl, rfl⟩
  | cons k l ih =>
    obtain ⟨err, cells⟩ := ih (replaceCell x k)
    have one : (replaceCell x k).1.cellErr = x.1.cellErr ∧ (replaceCell x k).1.cells = x.1.cells := by
      unfold replaceCell
      split
      · exact ⟨rfl, rfl⟩
      · exact ⟨rfl, rfl⟩
    exact ⟨err.trans one.1, cells.trans one.2⟩

/-- The errors that a DAC estimate finds (R233). -/
def State.dacErrors (s : State) (p : Pair) : List Int := (List.range 71).map (fun j => clampInt (-128) 127 ((freeCellErrors (s.cal.est.at p).seen).getD j 0))

/-- The cells in use that are unfit. -/
def State.dacBad (s : State) (p : Pair) : List Nat :=
  (List.range 63).filter (fun k => 16 < ((s.dacErrors p).getD ((s.cal.pair.at p).cellsTo.getD k 0) 0).natAbs)

/-- The pair with its unfit cells replaced. -/
def State.dacReplaced (s : State) (p : Pair) : CalPair × Bool := (s.dacBad p).foldl replaceCell ({ s.cal.pair.at p with cellErr := s.dacErrors p }, false)

/-- The end of a DAC estimate on its pair (R230, R233, R240). -/
theorem dacEstimate_ends {s : State} {r : CalRun} {p : Pair} (running : s.cal.run = some r) (zero : r.results = [0, 0, 0, 0, 0])
    (settled : s.cal.revertDue = false) (task : s.calTask 2 p.val = true) (many : 4096 ≤ (s.cal.est.at p).dacN) :
    (s.dacEstimate p).cal.pair.at p = (s.dacReplaced p).1 ∧
      Ended r 2 p.val (if (s.dacReplaced p).2 then 6 else if s.dacBad p = [] then 2 else 1) (s.dacEstimate p) := by
  have shape : s.dacEstimate p = (let s1 := s.modCal p (fun _ => (s.dacReplaced p).1)
      let s2 : State := if (s.dacReplaced p).1.cells = (s.dacReplaced p).1.cellsTo then s1
        else { s1 with cal := { s1.cal with echoMoving := s1.cal.echoMoving ||| BitVec.twoPow 4 p.val } }
      s2.endCalItem 2 p.val (if (s.dacReplaced p).2 then 6 else if s.dacBad p = [] then 2 else 1) ((s.dacReplaced p).1.cellsTo ≠ (s.cal.pair.at p).cellsTo)) := by
    unfold State.dacEstimate
    exact if_neg (by simp [task, many])
  rw [shape]
  dsimp only
  generalize made : (if (s.dacReplaced p).1.cells = (s.dacReplaced p).1.cellsTo then s.modCal p (fun _ => (s.dacReplaced p).1) else _) = u
  have cal : u.cal.run = s.cal.run ∧ u.cal.revertDue = s.cal.revertDue ∧ u.cal.pair.at p = (s.dacReplaced p).1 := by
    rw [← made]
    split
    · exact ⟨rfl, rfl, modCal_self _ _ _⟩
    · exact ⟨rfl, rfl, modCal_self _ _ _⟩
  obtain ⟨run, due, pair⟩ := cal
  obtain ⟨fresh, inside⟩ := zero_results zero (by decide : 2 < 5)
  obtain ⟨ends, kept, -⟩ := endCalItem_ends (s := u) (code := if (s.dacReplaced p).2 then 6 else if s.dacBad p = [] then 2 else 1)
    (changed := (s.dacReplaced p).1.cellsTo ≠ (s.cal.pair.at p).cellsTo) (run.trans running) (calTask_mem running task) fresh inside (due.trans settled)
  exact ⟨by rw [kept, pair], ends⟩

theorem dacEstimate_waits {s : State} {p : Pair} (few : (s.cal.est.at p).dacN < 4096) : s.dacEstimate p = s := by
  unfold State.dacEstimate
  exact if_pos (by simp [Nat.not_le.mpr few])

/-! ### The hybrid's estimate -/

/-- Where the code under search goes (R230). -/
def State.hybStep (s : State) (p : Pair) : Int :=
  if (s.cal.est.at p).axis = 0 then (s.cal.est.at p).direction (s.cal.pair.at p).hybR 255 else (s.cal.est.at p).direction (s.cal.pair.at p).hybC 63

/-- The pair with the code moved. -/
def CalPair.hybMoved (c : CalPair) (axis : Nat) (d : Int) : CalPair :=
  if axis = 0 then { c with hybRTo := (c.hybRTo + d).toNat } else { c with hybCTo := (c.hybCTo + d).toNat }

/-- The axis that the search takes up next (R230). -/
def State.hybAxis (s : State) (p : Pair) : Nat := if s.hybStep p = 0 then (s.cal.est.at p).axis + 1 else (s.cal.est.at p).axis

/-- The state in which the step of a search is made. -/
def State.hybStepped (s : State) (p : Pair) : State :=
  State.modCal { s with cal := { s.cal with
    est := s.cal.est.put p { s.cal.est.at p with hybN := 0, up := 0, down := 0, dither := [], last := s.hybStep p, axis := s.hybAxis p }
    echoMoving := if s.hybStep p = 0 then s.cal.echoMoving else s.cal.echoMoving ||| BitVec.twoPow 4 p.val } } p
    (fun x => x.hybMoved (s.cal.est.at p).axis (s.hybStep p))

/-- The code with which the hybrid's item of a pair ends (R240). -/
def State.hybCode (s : State) (p : Pair) : Nat := if ((s.cal.pair.at p).hybR, (s.cal.pair.at p).hybC) = (s.cal.est.at p).start then 2 else 1

theorem hybEstimate_eq {s : State} {p : Pair} (task : s.calTask 3 p.val = true) (many : 1024 ≤ (s.cal.est.at p).hybN) :
    s.hybEstimate p = if s.hybAxis p < 2 then s.hybStepped p
      else (s.hybStepped p).endCalItem 3 p.val (s.hybCode p) (((s.cal.pair.at p).hybR, (s.cal.pair.at p).hybC) ≠ (s.cal.est.at p).start) := by
  unfold State.hybEstimate State.hybCode
  dsimp only
  rw [if_neg (by simp [task, many]), ite_not]
  rfl

/-- The step decided on a pair: the search goes on, or the item ends (R230, R240). -/
theorem hybEstimate_steps {s : State} {r : CalRun} {p : Pair} (running : s.cal.run = some r) (zero : r.results = [0, 0, 0, 0, 0])
    (settled : s.cal.revertDue = false) (task : s.calTask 3 p.val = true) (many : 1024 ≤ (s.cal.est.at p).hybN) (axis : (s.cal.est.at p).axis < 2) :
    (s.hybEstimate p).cal.pair.at p = (s.cal.pair.at p).hybMoved (s.cal.est.at p).axis (s.hybStep p) ∧
      (s.hybStep p ≠ 0 ∨ (s.cal.est.at p).axis = 0 → (s.hybEstimate p).cal.run = s.cal.run) ∧
      (s.hybStep p = 0 → (s.cal.est.at p).axis = 1 → Ended r 3 p.val (s.hybCode p) (s.hybEstimate p)) := by
  obtain ⟨fresh, inside⟩ := zero_results zero (by decide : 3 < 5)
  have pair : (s.hybStepped p).cal.pair.at p = (s.cal.pair.at p).hybMoved (s.cal.est.at p).axis (s.hybStep p) := modCal_self _ _ _
  obtain ⟨ends, kept, -⟩ := endCalItem_ends (s := s.hybStepped p) (code := s.hybCode p)
    (changed := ((s.cal.pair.at p).hybR, (s.cal.pair.at p).hybC) ≠ (s.cal.est.at p).start) running (calTask_mem running task) fresh inside settled
  rw [hybEstimate_eq task many]
  by_cases more : s.hybAxis p < 2
  · rw [if_pos more]
    refine ⟨pair, fun _ => rfl, fun still second => ?_⟩
    rw [State.hybAxis, if_pos still, second] at more
    exact absurd more (by decide)
  · rw [if_neg more]
    refine ⟨by rw [kept, pair], fun moves => absurd ?_ more, fun _ _ => ends⟩
    unfold State.hybAxis
    by_cases still : s.hybStep p = 0
    · rw [if_pos still, moves.resolve_left (not_not.mpr still)]
      decide
    · rw [if_neg still]
      exact axis

theorem hybEstimate_waits {s : State} {p : Pair} (few : (s.cal.est.at p).hybN < 1024) : s.hybEstimate p = s := by
  unfold State.hybEstimate
  exact if_pos (by simp [Nat.not_le.mpr few])

/-! ### The die link's estimate -/

theorem dir_modDir_self (s : State) (inb : Bool) (f : DlDir → DlDir) : (s.modDir inb f).dir inb = f (s.dir inb) := by cases inb <;> rfl
theorem dir_modDir_other (s : State) (inb : Bool) (f : DlDir → DlDir) : (s.modDir inb f).dir (!inb) = s.dir (!inb) := by cases inb <;> rfl

theorem dielinkEstimate_lane {s : State} {r : CalRun} {inb : Bool} {k eye : Nat} {ph : Int} (running : s.cal.run = some r) (zero : r.results = [0, 0, 0, 0, 0])
    (settled : s.cal.revertDue = false) (task : s.calTask 4 4 = true) (mapped : ((s.dir inb).lane k).logical < 24) (wide : 25 ≤ eye) :
    let t := s.dielinkEstimate [(inb, k, eye, ph)]
    (t.dir inb).lane k = { (s.dir inb).lane k with eye := min 255 eye, phaseTo := clampInt (-32) 32 ph, phaseHeld := none } ∧
      t.dir (!inb) = s.dir (!inb) ∧ (∀ r', t.cal.run = some r' → r'.left = r.left.erase (4, 4)) := by
  obtain ⟨fresh, inside⟩ := zero_results zero (by decide : 4 < 5)
  have inRange : k < (s.dir inb).lanes.length := by
    by_contra out
    rw [DlDir.lane, List.getD_eq_default _ _ (Nat.not_lt.mp out)] at mapped
    exact absurd mapped (by decide)
  have shape : ∃ (code : Nat) (moved : Bool), s.dielinkEstimate [(inb, k, eye, ph)] =
      (s.modDir inb (fun d => { d with lanes := modAt d.lanes k (fun l => { l with
        eye := min 255 eye, phaseTo := clampInt (-32) 32 ph, phaseHeld := none }) })).endCalItem 4 4 code moved := by
    have known : decide (((s.dir inb).lanes.getD k {}).logical < 24) = true := decide_eq_true mapped
    unfold State.dielinkEstimate
    rw [task, if_neg (by decide), List.foldl_cons, List.foldl_nil]
    dsimp only
    rw [known, decide_eq_false (Nat.not_lt.mpr wide), Bool.and_false, if_neg Bool.false_ne_true]
    simp only [if_pos (show ((s.dir inb).lanes.getD k {}).logical < 24 from mapped)]
    exact ⟨_, _, rfl⟩
  obtain ⟨code, moved, shape⟩ := shape
  rw [shape]
  generalize made : s.modDir inb _ = u
  have run : u.cal.run = some r := by rw [← made]; exact running
  have due : u.cal.revertDue = false := by rw [← made]; exact settled
  obtain ⟨ends, -, dl⟩ := endCalItem_ends (s := u) (code := code) (changed := moved) run (calTask_mem running task) fresh inside due
  have dir : ∀ b, (u.endCalItem 4 4 code moved).dir b = u.dir b := fun b => by simp only [State.dir, dl]
  refine ⟨?_, ?_, fun r' some => (ends.2 r' some).1⟩
  · rw [dir, ← made, dir_modDir_self]
    simp [DlDir.lane, modAt, List.getD_eq_getElem?_getD, List.getElem?_eq_getElem inRange]
  · rw [dir, ← made, dir_modDir_other]

/-! ### The start of a CAL_RUN -/

/-- What a run has left at its start (R238). -/
def State.calLeft (s : State) (items ps : Nat) : List (Nat × Nat) :=
  (((List.range 5).filter (bitAt items)).filter s.calItemAllowed).flatMap
    (fun i => if i = 4 then [(4, 4)] else ((List.range 4).filter (bitAt ps)).map (fun p => (i, p)))

/-- The results that it starts with. -/
def State.calResults (s : State) (items : Nat) : List Nat :=
  (List.range 5).map (fun i => if ((List.range 5).filter (bitAt items)).contains i && !s.calItemAllowed i then 3 else 0)

theorem calItemAllowed_iff (s : State) (i : Nat) : s.calItemAllowed i = true ↔ i = 4 ∨ s.nativeData = true ∨ (s.link.state = 0 ∧ i ≠ 3) := by
  simp [State.calItemAllowed, or_assoc]

theorem mem_calLeft (s : State) (items ps i p : Nat) : (i, p) ∈ s.calLeft items ps ↔
    (i < 4 ∧ bitAt items i = true ∧ (i = 4 ∨ s.nativeData = true ∨ (s.link.state = 0 ∧ i ≠ 3)) ∧ p < 4 ∧ bitAt ps p = true) ∨
      (i = 4 ∧ p = 4 ∧ bitAt items 4 = true) := by
  simp only [State.calLeft, List.mem_flatMap, List.mem_filter, List.mem_range, calItemAllowed_iff]
  constructor
  · rintro ⟨j, ⟨⟨five, named⟩, allowed⟩, mem⟩
    by_cases four : j = 4
    · subst four
      rw [if_pos rfl, List.mem_singleton] at mem
      obtain ⟨rfl, rfl⟩ := Prod.mk.inj mem
      exact .inr ⟨rfl, rfl, named⟩
    · rw [if_neg four] at mem
      obtain ⟨k, held, same⟩ := List.mem_map.mp mem
      obtain ⟨rfl, rfl⟩ := Prod.mk.inj same
      obtain ⟨small, bit⟩ := List.mem_filter.mp held
      exact .inl ⟨by omega, named, allowed, List.mem_range.mp small, bit⟩
  · rintro (⟨four, named, allowed, small, bit⟩ | ⟨rfl, rfl, named⟩)
    · refine ⟨i, ⟨⟨by omega, named⟩, allowed⟩, ?_⟩
      rw [if_neg (by omega)]
      exact List.mem_map.mpr ⟨p, List.mem_filter.mpr ⟨List.mem_range.mpr small, bit⟩, rfl⟩
    · exact ⟨4, ⟨⟨by decide, named⟩, .inl rfl⟩, by simp⟩

theorem getD_calResults (s : State) (items : Nat) {i : Nat} (five : i < 5) : (s.calResults items).getD i 9 =
    if bitAt items i = true ∧ ¬ (i = 4 ∨ s.nativeData = true ∨ (s.link.state = 0 ∧ i ≠ 3)) then 3 else 0 := by
  rw [State.calResults, List.getD_eq_getElem _ _ (by simpa using five), List.getElem_map, List.getElem_range]
  refine if_congr ?_ rfl rfl
  rw [Bool.and_eq_true, List.contains_iff_mem, List.mem_filter, List.mem_range, ← calItemAllowed_iff]
  simp [five]

/-- A pair that a mask of at most four bits names. -/
theorem bitAt_exists {m : Nat} (small : m < 16) (some : m ≠ 0) : ∃ p < 4, bitAt m p = true := by
  have found : ∀ m < 16, m ≠ 0 → ∃ p < 4, bitAt m p = true := by decide
  exact found m small some

/-- The state in which a run stands with what it has left. -/
def State.calStarted (s : State) (q : Request) : State :=
  State.startRun { s with cal := { s.cal with
    est := s.cal.pair.map (fun c => { start := (c.hybR, c.hybC) })
    run := some { tag := q.cap.tag, items := q.cap.arg 28 1, pairs := BitVec.ofNat 4 (q.cap.arg 29 1), left := s.calLeft (q.cap.arg 28 1) (q.cap.arg 29 1)
                  results := s.calResults (q.cap.arg 28 1) } } } q

theorem startCal_eq (s : State) (q : Request) : s.startCal q =
    if s.calLeft (q.cap.arg 28 1) (q.cap.arg 29 1) = [] then (s.calStarted q).finishCal else s.calStarted q := rfl

theorem leaveDormant_ready (s : State) : s.leaveDormant.ready .line = s.ready .line := by
  unfold State.leaveDormant
  split
  · rfl
  · rfl

theorem exec_calRun {s : State} {tag : BitVec 16} {q : Request} (takes : Takes s tag 0x50 q) (plain : Plain q [(28, 2), (32, 4)]) (idle : s.cal.run = none)
    (unused : s.diagUses (bitsAt (q.cap.arg 29 1) 0 4) = false) (ready : s.ready .line = true)
    (untested : s.calTested (q.cap.arg 28 1) (q.cap.arg 29 1) = false) (some : 1 ≤ q.cap.arg 28 1) (items : q.cap.arg 28 1 < 32)
    (pairless : q.cap.arg 29 1 = 0 → q.cap.arg 28 1 = 16) (pairs : q.cap.arg 29 1 < 16) (least : 100 ≤ q.cap.arg 32 4) (most : q.cap.arg 32 4 ≤ 60000) :
    exec (.calRun tag) s = .next ((s.begin q).leaveDormant.startCal q) := by
  obtain ⟨len, fields⟩ := plain
  refine (congrArg Host.Outcome.next (if_neg ?_)).trans (next_runRequest takes ?_)
  · rw [takes.1, idle]
    simpa using unused
  · have recovery : ((s.begin q).leaveDormant.ben.recovery && recoveryRefuses q.cap) = false := by rw [leaveDormant_eq]; exact takes.2
    have bist : (s.begin q).leaveDormant.calTested (q.cap.arg 28 1) (q.cap.arg 29 1) = false := by rw [leaveDormant_eq]; exact untested
    have line : (s.begin q).leaveDormant.ready .line = true := (leaveDormant_ready _).trans ((begin_ready s q .line).trans ready)
    have mask : (decide (q.cap.arg 29 1 = 0) && decide (q.cap.arg 28 1 % 16 ≠ 0)) = false := by
      by_cases zero : q.cap.arg 29 1 = 0
      · simp [zero, pairless zero]
      · simp [zero]
    refine (guarded_pass ((failing_eq recovery).trans (by simp [firstFail, len, line]))).trans ?_
    dsimp only
    rw [bist, Bool.false_and, if_neg (by decide)]
    refine (guarded_pass ((failing_eq recovery).trans ?_)).trans (by rw [if_neg (by decide)])
    simp only [firstFail, fields, mask, decide_eq_false (Nat.ne_of_gt some), decide_eq_false (Nat.not_le.mpr items), decide_eq_false (Nat.not_le.mpr pairs),
      decide_eq_false (Nat.not_lt.mpr least), decide_eq_false (Nat.not_lt.mpr most), Bool.not_true, Bool.or_self, Bool.false_eq_true, if_false]

/-! ### Results of a run that is ended -/

theorem setAt_results {l : List (Nat × Nat)} (res : List Nat) (code i : Nat) :
    ((∀ x ∈ l, x.1 ≠ i) → (l.foldl (fun l x => setAt l x.1 code) res).getD i 0 = res.getD i 0) ∧
      ((∃ x ∈ l, x.1 = i) → i < res.length → (l.foldl (fun l x => setAt l x.1 code) res).getD i 0 = code) := by
  induction l generalizing res with
  | nil => simp
  | cons y l ih =>
    obtain ⟨kept, set⟩ := ih (setAt res y.1 code)
    rw [List.foldl_cons]
    have other : y.1 ≠ i → (setAt res y.1 code).getD i 0 = res.getD i 0 := fun ne => by
      simp [setAt, List.getD_eq_getElem?_getD, List.getElem?_set_ne ne]
    refine ⟨fun out => (kept fun x mem => out x (List.mem_cons_of_mem _ mem)).trans (other (out y List.mem_cons_self)), fun ⟨x, mem, same⟩ inside => ?_⟩
    by_cases later : ∃ x ∈ l, x.1 = i
    · exact set later (by rw [setAt, List.length_set]; exact inside)
    · have out : ∀ x ∈ l, x.1 ≠ i := fun x held eq => later ⟨x, held, eq⟩
      rw [kept out]
      obtain rfl : x = y := (List.mem_cons.mp mem).resolve_right fun held => out x held same
      simp [setAt, List.getD_eq_getElem?_getD, same, List.getElem?_set_self inside]

theorem endCalItems_all {s : State} {r : CalRun} (running : s.cal.run = some r) (code : Nat) : (s.endCalItems code (fun _ => true)).cal.run = none ∧
    (s.endCalItems code (fun _ => true)).cal.results = r.left.foldl (fun l x => setAt l x.1 code) r.results ∧
    (s.endCalItems code (fun _ => true)).cal.revertDue = false := by
  unfold State.endCalItems
  rw [running]
  have gone : r.left.filter (fun _ => true) = r.left := List.filter_true _
  have none : r.left.filter (fun _ => !true) = [] := by simp
  dsimp only
  rw [gone, none, if_pos rfl]
  obtain ⟨run, results, due, -⟩ := finishCal_ends (s := { s with cal := { s.cal with
    run := some { r with left := [], results := r.left.foldl (fun l x => setAt l x.1 code) r.results } } }) rfl
  exact ⟨run, results, due⟩

theorem exec_calNoEngine {s : State} {r : CalRun} {i p : Nat} {rest : List (Nat × Nat)} (running : s.cal.run = some r) (left : r.left = (i, p) :: rest)
    (busy : s.backgroundEngine = false) : exec .calNoEngine s =
      let s1 : State := { s with cal := { s.cal with run := some { r with left := r.left.filter (fun x => x.1 ≠ i), results := setAt r.results i 5 } } }
      .next (if r.left.filter (fun x => x.1 ≠ i) = [] then s1.finishCal else s1) := by
  refine congrArg Host.Outcome.next ?_
  rw [running]
  dsimp only
  rw [left]
  dsimp only
  rw [busy, if_neg (by decide)]

/-- Settles O58. -/
theorem calibrationEstimatesItsItems : Obligations.CalibrationEstimatesItsItems := by
  refine ⟨fun s tag q takes plain idle unused ready untested one items pairless pairs least most => ⟨fun ⟨i, five, named, allowed⟩ => ?_, fun none => ?_⟩,
    fun s r p running zero settled => ⟨fun trim unselected => ⟨fun few => congrArg Host.Outcome.next (adcEstimate_waits few), fun many => ?_⟩,
      fun task => ⟨fun few => congrArg Host.Outcome.next (dacEstimate_waits few), fun many => ?_⟩,
      fun task => ⟨fun few => congrArg Host.Outcome.next (hybEstimate_waits few), fun many axis => ?_⟩,
      fun task inb k eye ph mapped wide => ⟨_, rfl, dielinkEstimate_lane running zero settled task mapped wide⟩⟩,
    fun s p w o g k swap begins inside => ?_, fun s r i p rest running left busy inside => ⟨fun ⟨x, mem, other⟩ => ?_, fun same => ?_⟩, fun s r running => ?_⟩
  · have runs := exec_calRun takes plain idle unused ready untested one items pairless pairs least most
    have same : ∀ i p, (i, p) ∈ (s.begin q).leaveDormant.calLeft (q.cap.arg 28 1) (q.cap.arg 29 1) ↔ (i, p) ∈ s.calLeft (q.cap.arg 28 1) (q.cap.arg 29 1) :=
      fun i p => by rw [leaveDormant_eq]; exact Iff.rfl
    have some : (s.begin q).leaveDormant.calLeft (q.cap.arg 28 1) (q.cap.arg 29 1) ≠ [] := fun empty => by
      have out : ∀ x, (i, x) ∉ s.calLeft (q.cap.arg 28 1) (q.cap.arg 29 1) := fun x mem => by
        have held := (same i x).mpr mem
        rw [empty] at held
        exact List.not_mem_nil held
      by_cases four : i = 4
      · exact out 4 ((mem_calLeft s _ _ i 4).mpr (.inr ⟨four, rfl, four ▸ named⟩))
      · obtain ⟨x, small, bit⟩ := bitAt_exists pairs fun zeroed => by
          have sixteen := pairless zeroed
          rw [sixteen] at named
          have only : ∀ i < 5, i ≠ 4 → bitAt 16 i = false := by decide
          exact absurd (named.symm.trans (only i five four)) (by decide)
        exact out x ((mem_calLeft s _ _ i x).mpr (.inl ⟨by omega, named, allowed, small, bit⟩))
    rw [startCal_eq, if_neg some] at runs
    refine ⟨_, { tag := q.cap.tag, items := q.cap.arg 28 1, pairs := BitVec.ofNat 4 (q.cap.arg 29 1)
                 left := (s.begin q).leaveDormant.calLeft (q.cap.arg 28 1) (q.cap.arg 29 1)
                 results := (s.begin q).leaveDormant.calResults (q.cap.arg 28 1) }, runs, rfl, rfl, rfl, fun i p => (same i p).trans (mem_calLeft s _ _ i p),
      fun i five => ?_, ?_, ?_, ?_⟩
    · rw [leaveDormant_eq]
      exact getD_calResults s _ five
    · rw [leaveDormant_eq]
      rfl
    · exact leaveDormant_link _
    · exact (congrArg (fun u : State => u.cyo.running ++ [{ q with since := u.time }]) (leaveDormant_eq (s.begin q)) :)
  · have runs := exec_calRun takes plain idle unused ready untested one items pairless pairs least most
    have empty : (s.begin q).leaveDormant.calLeft (q.cap.arg 28 1) (q.cap.arg 29 1) = [] := by
      rw [List.eq_nil_iff_forall_not_mem]
      rintro ⟨i, p⟩ mem
      have held : (i, p) ∈ s.calLeft (q.cap.arg 28 1) (q.cap.arg 29 1) := by rw [leaveDormant_eq] at mem; exact mem
      rcases (mem_calLeft s _ _ i p).mp held with ⟨four, named, allowed, -⟩ | ⟨rfl, -, named⟩
      · exact none i (by omega) named allowed
      · exact none 4 (by decide) named (.inl rfl)
    rw [startCal_eq, if_pos empty] at runs
    obtain ⟨run, results, -⟩ := finishCal_ends (s := (s.begin q).leaveDormant.calStarted q) rfl
    refine ⟨_, runs, run, fun i five => ?_⟩
    rw [results]
    have fresh : ((s.begin q).leaveDormant.calResults (q.cap.arg 28 1)).getD i 9 = (s.calResults (q.cap.arg 28 1)).getD i 9 := by rw [leaveDormant_eq]; rfl
    refine fresh.trans ((getD_calResults s _ five).trans (if_congr ?_ rfl rfl))
    exact ⟨fun both => both.1, fun named => ⟨named, none i five named⟩⟩
  · have recorded := adcRecorded_pair (s := s) (p := p)
    obtain ⟨fresh, inside⟩ := zero_results zero (by decide : 0 < 5)
    refine ⟨_, congrArg Host.Outcome.next (adcEstimate_trims trim unselected many), ?_⟩
    by_cases same : ∀ k < 32, (s.cal.pair.at p).trimSame k ((s.cal.pair.at p).needed (adcFound (s.cal.est.at p).sums s.symbolTime) k) = true
    · rw [trimPair_same (by rw [recorded]; exact same)]
      obtain ⟨ends, kept, -⟩ := endCalItem_ends (s := s.adcRecorded p) (code := 2) (changed := false) running (calTask_mem running trim) fresh inside settled
      rw [kept, recorded]
      refine ⟨rfl, fun _ => ⟨rfl, ends⟩, fun ⟨k, small, moved⟩ => absurd (moved.symm.trans (same k small)) (by decide)⟩
    · have moves : ∃ k < 32, (s.cal.pair.at p).trimSame k ((s.cal.pair.at p).needed (adcFound (s.cal.est.at p).sums s.symbolTime) k) = false := by
        by_contra all
        exact same fun k small => by
          by_contra moved
          exact all ⟨k, small, by simpa using moved⟩
      rw [trimPair_moves (by rw [recorded]; exact moves)]
      generalize made : (s.adcRecorded p).modCal p _ = u
      have run : u.cal.run = some r := by rw [← made]; exact running
      have due : u.cal.revertDue = false := by rw [← made]; exact settled
      obtain ⟨ends, kept, -⟩ := endCalItem_ends (s := u) (code := 1) (changed := true) run (calTask_mem running trim) fresh inside due
      have pair : u.cal.pair.at p = (List.range 32).foldl (fun x k => x.wantTrim k
          ((s.cal.pair.at p).needed (adcFound (s.cal.est.at p).sums s.symbolTime) k)) ((s.adcRecorded p).cal.pair.at p) := by
        rw [← made, modCal_self, recorded]
        rfl
      rw [kept, pair, recorded]
      refine ⟨?_, fun all => absurd all same, fun _ nodup length => ⟨ends, fun k small mapped => ?_⟩⟩
      · refine List.foldlRecOn (motive := fun x : CalPair => x.mismatch = _) _ _ rfl fun x same k _ => ?_
        exact same
      · have trims := wantTrims_self (fun k => (s.cal.pair.at p).needed (adcFound (s.cal.est.at p).sums s.symbolTime) k) (List.range 32)
          { s.cal.pair.at p with mismatch := some ((s.cal.pair.at p).mismatchOf (adcFound (s.cal.est.at p).sums s.symbolTime)) }
          (map_positions_nodup nodup length) (List.mem_range.mpr small) mapped
        exact ⟨congrArg (·.1) trims, congrArg (·.2.1) trims, congrArg (·.2.2) trims⟩
  · obtain ⟨pair, ends⟩ := dacEstimate_ends running zero settled task many
    obtain ⟨err, cells⟩ := replaceCells_keep (s.dacBad p) ({ s.cal.pair.at p with cellErr := s.dacErrors p }, false)
    refine ⟨_, rfl, ?_⟩
    dsimp only
    rw [pair]
    refine ⟨err, cells, fun none => ?_, fun k j one spare => ?_, fun k one spare => ?_⟩
    · have replaced : s.dacReplaced p = ({ s.cal.pair.at p with cellErr := s.dacErrors p }, false) := by rw [State.dacReplaced, show s.dacBad p = [] from none]; rfl
      rw [replaced, if_neg Bool.false_ne_true, if_pos (show s.dacBad p = [] from none)] at ends
      exact ⟨by rw [replaced], ends⟩
    · have bad : s.dacBad p = [k] := one
      have replaced : s.dacReplaced p = (({ s.cal.pair.at p with
          cellErr := s.dacErrors p, cellsTo := setAt (s.cal.pair.at p).cellsTo k j
          cellRetired := (s.cal.pair.at p).cellsTo.getD k 0 :: (s.cal.pair.at p).cellRetired } : CalPair), false) := by
        rw [State.dacReplaced, bad, List.foldl_cons, List.foldl_nil]
        exact replaceCell_some spare
      rw [replaced, if_neg Bool.false_ne_true, if_neg (by rw [bad]; simp)] at ends
      rw [replaced]
      exact ⟨rfl, rfl, ends⟩
    · have bad : s.dacBad p = [k] := one
      have replaced : s.dacReplaced p = ({ s.cal.pair.at p with cellErr := s.dacErrors p }, true) := by
        rw [State.dacReplaced, bad, List.foldl_cons, List.foldl_nil]
        exact replaceCell_none spare
      rw [replaced, if_pos rfl] at ends
      exact ⟨by rw [replaced], ends⟩
  · obtain ⟨pair, goes, ends⟩ := hybEstimate_steps running zero settled task many axis
    refine ⟨_, rfl, ?_⟩
    dsimp only
    rw [pair]
    unfold CalPair.hybMoved
    refine ⟨?_, ?_, ?_, ?_, goes, ends⟩
    · split <;> rfl
    · split <;> rfl
    · by_cases first : (s.cal.est.at p).axis = 0
      · simp only [if_pos first, State.hybStep]
      · simp only [if_neg first]
    · by_cases first : (s.cal.est.at p).axis = 0
      · simp only [if_pos first]
      · simp only [if_neg first, State.hybStep]
  · refine ⟨s.modCal p (fun c => { c with
        slices := modAt c.slices w.inc (fun x => { x with
          offset := clampInt (-2048) 2048 o, gain := clampInt (-1024) 1024 g, skew := clampInt (-160) 160 k
          offsetTo := clampInt (-2048) 2048 o, gainTo := clampInt (-1024) 1024 g, skewTo := clampInt (-160) 160 k })
        swap := some { w with alpha := some 0 } }), ?_, ?_⟩
    · refine congrArg Host.Outcome.next ?_
      rw [swap]
      exact if_neg (by simp [begins])
    · rw [modCal_self]
      refine ⟨rfl, ?_, rfl, rfl⟩
      simp [CalPair.slice, modAt, List.getElem?_eq_getElem inside]
  · have more : r.left.filter (fun x => x.1 ≠ i) ≠ [] := fun empty => by
      have held : x ∈ r.left.filter (fun x => x.1 ≠ i) := List.mem_filter.mpr ⟨by rw [left]; exact List.mem_cons_of_mem _ mem, decide_eq_true other⟩
      rw [empty] at held
      exact List.not_mem_nil held
    refine ⟨_, { r with left := r.left.filter (fun x => x.1 ≠ i), results := setAt r.results i 5 },
      (exec_calNoEngine running left busy).trans (congrArg Host.Outcome.next (if_neg more)), rfl, ?_, rfl, rfl⟩
    simp [setAt, List.getD_eq_getElem?_getD, List.getElem?_set_self inside]
  · have done : r.left.filter (fun x => x.1 ≠ i) = [] := by
      rw [List.filter_eq_nil_iff, left]
      intro x mem
      rcases List.mem_cons.mp mem with rfl | mem
      · simp
      · simp [same x mem]
    obtain ⟨run, results, -⟩ := finishCal_ends (s := { s with cal := { s.cal with
      run := some { r with left := r.left.filter (fun x => x.1 ≠ i), results := setAt r.results i 5 } } }) rfl
    refine ⟨_, (exec_calNoEngine running left busy).trans (congrArg Host.Outcome.next (if_pos done)), run, ?_⟩
    rw [results]
    simp [setAt, List.getD_eq_getElem?_getD, List.getElem?_set_self inside]
  · obtain ⟨run, results, due⟩ := endCalItems_all running 7
    refine ⟨_, rfl, run, fun x mem inside => ?_, fun i out => ?_, due⟩
    · rw [results]
      exact (setAt_results r.results 7 x.1).2 ⟨x, mem, rfl⟩ inside
    · rw [results]
      exact (setAt_results r.results 7 i).1 out

end Sys2Proof.Machine
end

section
/-! PROOFS. O56: idle of the standard modes. -/

namespace Sys2Proof.Machine

set_option Elab.async false

/-! ### The receive chain's part of a quiet link -/

section
variable (s : State)

theorem judgeQuiet_eq : s.judgeQuiet = { s with pwr := { s.pwr with state := s.judgeQuiet.pwr.state } } := by
  unfold State.judgeQuiet
  dsimp only
  split <;> rfl

theorem awake_state : s.awake.pwr.state ≠ .quietLatch := by
  by_cases quiet : s.pwr.state = .quietLatch
  · simp [State.awake, quiet]
  · simp [State.awake, quiet]

/-- The clause's own wake ends a reception with RESULT 1, and changes the receive chain and the record alone (R219, R223). -/
theorem legacyWake_eq : s.legacyWake = { s with rx := s.legacyWake.rx, ql := { s.ql with last := s.legacyWake.ql.last } } := by
  unfold State.legacyWake
  split <;> rfl

theorem freezeGain_eq (k : RxInstant) (back : Nat) : s.freezeGain k back = { s with rx := (s.freezeGain k back).rx } := by
  unfold State.freezeGain
  dsimp only
  split <;> rfl

theorem freezeGain_stops (k : RxInstant) (back : Nat) : (s.freezeGain k back).rx.gainRun = false := rfl

/-- The gap of a native stream drops what was being assembled and touches the line unit, the frames' buffers and nothing else (R209, R274). -/
theorem gapChain_eq : s.gapChain = { s with lc := s.gapChain.lc, kw := s.gapChain.kw } := by
  have item : s.dropItem = { s with lc := s.dropItem.lc, kw := s.dropItem.kw } := by
    unfold State.dropItem
    split
    · rfl
    · dsimp only
      repeat' split
      all_goals rfl
  unfold State.gapChain State.dropPartial
  generalize s.dropItem = u at item
  rw [item]
  split <;> rfl

end

/-- What the latch point leaves (R207, R209, R219). -/
theorem latchAt_latches (s : State) (k : RxInstant) (back : Nat) (who : BitVec 4) (rho : Nat) (r : Reception) :
    let t := s.latchAt k back who rho r
    t.ql.run.rxState = 3 ∧ t.rx.gainRun = false ∧ t.ql.cnt = s.ql.cnt ∧ (∀ p, s.activePair p = true → (t.rx.pair.at p).gain = 0) ∧ t = { s with rx := t.rx, ql := t.ql } := by
  have frozen := freezeGain_eq s k back
  unfold State.latchAt
  dsimp only
  refine ⟨rfl, freezeGain_stops s k back, ?_, fun p active => ?_, ?_⟩
  · rw [frozen]
    rfl
  · refine (congrArg RxPair.gain (Quad.at_mapIdx _ _ p)).trans ?_
    exact congrArg RxPair.gain (if_pos active)
  · rw [frozen]
    rfl

/-- A reception given up: the direction is quiet again, its record says why (R211, R220, R223). -/
theorem abandon_abandons (s : State) (r : Reception) (result : Nat) :
    let t := s.abandon r result
    t.ql = { s.ql with run := { s.ql.run with rxState := 1, rx := none, listen := none }, last := { r.record with result := result } } ∧
      t.rx = s.restoreReception.rx ∧ t = { s with rx := t.rx, ql := t.ql, lc := t.lc, kw := t.kw } := by
  have gap := gapChain_eq s.restoreReception
  unfold State.abandon
  dsimp only
  generalize s.restoreReception.gapChain = u at gap
  rw [gap]
  exact ⟨rfl, rfl, rfl⟩

/-! ### O56: idle of the standard modes and of the T40 part -/

/-- The own wake first sends the rate-hunting burst toward a T40 part (R219, R220). -/
theorem exec_lpiWake_own {s : State} (std : s.stdIdle = true) (quiet : s.ql.run.txState = 2) : exec (.lpiWake true) s =
    .next (if s.link.legacyIdle = true
      then (s.modQlCnt (fun c => { c with wakesTx := inc 32 c.wakesTx })).modQl (fun q => { q with txState := 4, hunt := some 0, wakeDue := none })
      else (s.modQlCnt (fun c => { c with wakesTx := inc 32 c.wakesTx })).modQl (fun q => { q with txState := 0, wakeDue := none })).awake :=
  congrArg Host.Outcome.next ((if_neg (by simp [std, quiet])).trans (if_pos rfl))

/-- Settles O56. -/
theorem standardIdleFollowsItsClause : Obligations.StandardIdleFollowsItsClause := by
  intro s std
  have listens : (s.ql.run.rxState = 1 ∨ s.ql.run.rxState = 2) → (decide (s.ql.run.rxState = 1) || decide (s.ql.run.rxState = 2)) = true := by simp
  refine ⟨fun zero idle => ?_, fun zero => ?_, fun quiet => ?_, fun heard => ⟨?_, ?_, ?_⟩, fun quiet => ?_, fun legacy => ⟨fun rate k ready div quiet => ⟨fun some => ?_, fun none => ?_⟩, fun r some latched => ?_⟩⟩
  · refine ⟨_, congrArg Host.Outcome.next (if_neg (by simp [std, zero, idle])), ?_⟩
    dsimp only
    rw [judgeQuiet_eq]
    exact ⟨rfl, rfl, rfl, rfl⟩
  · refine ⟨_, congrArg Host.Outcome.next (if_neg (by simp [std, zero])), ?_⟩
    dsimp only
    rw [judgeQuiet_eq]
    exact ⟨rfl, rfl, rfl, rfl⟩
  · by_cases legacy : s.link.legacyIdle = true
    · refine ⟨_, (exec_lpiWake_own std quiet).trans (congrArg (fun u : State => Host.Outcome.next u.awake) (if_pos legacy)), rfl, awake_state _, rfl, ?_⟩
      rw [if_pos legacy]
      exact ⟨rfl, rfl⟩
    · refine ⟨_, (exec_lpiWake_own std quiet).trans (congrArg (fun u : State => Host.Outcome.next u.awake) (if_neg legacy)), rfl, awake_state _, rfl, ?_⟩
      rw [if_neg legacy]
      rfl
  · refine ⟨_, congrArg Host.Outcome.next ((if_neg (by simp [std, heard])).trans (if_neg (by decide))), ?_⟩
    refine ⟨rfl, rfl, ?_, awake_state _, ?_⟩
    · rw [legacyWake_eq]
      rfl
    · rw [legacyWake_eq]
      rfl
  · exact congrArg Host.Outcome.next ((if_neg (by simp [std, heard])).trans (if_pos rfl))
  · exact congrArg Host.Outcome.next ((if_neg (by simp [std, heard])).trans (if_neg (by decide)))
  · exact congrArg Host.Outcome.next ((if_pos std).trans (if_pos quiet))
  · obtain ⟨u, held, same⟩ : ∃ u : State, u = (if s.ql.run.rxState = 2 then s else s.holdReception) ∧ u = { s with rx := u.rx } := by
      refine ⟨_, rfl, ?_⟩
      split <;> rfl
    obtain ⟨state, gain, cnt, zero, frame⟩ := latchAt_latches u k 0 (s.pairsWhere (s.legacyFires rate k)) 0 (u.ql.run.rx.getD { since := s.symbolAt k })
    refine ⟨_, congrArg Host.Outcome.next ((if_neg (by simp [std, legacy, ready, div, listens quiet])).trans (if_neg some)), ?_⟩
    rw [← held]
    dsimp only
    generalize u.latchAt k 0 _ 0 _ = t at state gain cnt zero frame
    have counted : t.ql.cnt = s.ql.cnt := by rw [cnt, same]
    refine ⟨state, gain, fun first => ?_, fun second => ?_, fun third => ?_, fun p active => zero p (by rw [same]; exact active), ?_⟩
    · rw [first]
      exact congrArg (fun c : QlCounters => inc 32 c.det3g2) counted
    · rw [second]
      exact congrArg (fun c : QlCounters => inc 32 c.det2g0) counted
    · obtain ⟨n, rfl⟩ := Nat.exists_eq_add_of_le third
      rw [Nat.add_comm]
      exact congrArg (fun c : QlCounters => inc 32 c.det0g8) counted
    · rw [frame, same]
      rfl
  · refine congrArg Host.Outcome.next ((if_neg (by simp [std, legacy, ready, div, listens quiet])).trans (if_pos none))
  · obtain ⟨ql, -, frame⟩ := abandon_abandons (s.modQlCnt (fun c => { c with legacyFalse := inc 32 c.legacyFalse })) r 2
    have runs : exec .legacyWakeTimeout s = .next ((s.modQlCnt (fun c => { c with legacyFalse := inc 32 c.legacyFalse })).abandon r 2) := by
      refine congrArg Host.Outcome.next ?_
      rw [some]
      exact if_pos (by simp [std, legacy, latched])
    refine ⟨_, runs, ?_, ?_, ?_, ?_⟩
    · rw [ql]
    · rw [ql]
      rfl
    · rw [ql]
    · rw [frame]
      rfl

end Sys2Proof.Machine
end

section
/-! PROOFS. O54: entering and leaving the quiet state. -/

namespace Sys2Proof.Machine

set_option Elab.async false

/-! ### What the line driver and the profiles leave -/

theorem drivePair_lc (s : State) (p : Pair) (sym : Option (List Int)) (precode : Bool) :
    ∃ pre cnt, (s.drivePair p sym precode).1 = { s with lc := { s.lc with pre := pre, cnt := cnt } } := by
  unfold State.drivePair
  split
  · exact ⟨_, _, rfl⟩
  · exact ⟨_, _, rfl⟩

/-- Driving the four pairs writes the line unit's chains, its codes and its clip count (R59, R60). -/
theorem drivePairs_lc (s : State) (precode : Bool) (sym : Pair → Option (List Int)) : ∃ pre cnt dac,
    (s.drivePairs precode sym).1 = { s with lc := { s.lc with pre := pre, cnt := cnt, run := { s.lc.run with dac := dac, thpLate := Quad.all 0, firLate := Quad.all 0 } } } := by
  unfold State.drivePairs
  dsimp only
  obtain ⟨p0, c0, e0⟩ := drivePair_lc s 0 (sym 0) precode
  generalize s.drivePair 0 (sym 0) precode = r0 at e0
  rw [e0]
  obtain ⟨p1, c1, e1⟩ := drivePair_lc { s with lc := { s.lc with pre := p0, cnt := c0 } } 1 (sym 1) precode
  generalize State.drivePair _ 1 (sym 1) precode = r1 at e1
  rw [e1]
  obtain ⟨p2, c2, e2⟩ := drivePair_lc { s with lc := { s.lc with pre := p1, cnt := c1 } } 2 (sym 2) precode
  generalize State.drivePair _ 2 (sym 2) precode = r2 at e2
  rw [e2]
  obtain ⟨p3, c3, e3⟩ := drivePair_lc { s with lc := { s.lc with pre := p2, cnt := c2 } } 3 (sym 3) precode
  generalize State.drivePair _ 3 (sym 3) precode = r3 at e3
  rw [e3]
  exact ⟨p3, c3, _, rfl⟩

/-- A burst leaves the STATUS fields, the link and the quiet state (R198). -/
theorem driveBurst_keeps (s : State) (kind lead : Nat) (sym : Pair → List Int) : (s.driveBurst kind lead sym).lc.run.stTx = s.lc.run.stTx ∧
    (s.driveBurst kind lead sym).link = s.link ∧ (s.driveBurst kind lead sym).ql = s.ql := by
  obtain ⟨pre, cnt, dac, driven⟩ := drivePairs_lc s false (fun p => some (sym p))
  unfold State.driveBurst
  generalize s.drivePairs false (fun p => some (sym p)) = r at driven
  dsimp only
  rw [driven]
  exact ⟨rfl, rfl, rfl⟩

theorem statusTx_setStatus_want {s : State} {i : Nat} (v : Nat) (inside : i < s.lc.run.stTx.length) : ((s.setStatus i v).statusTx i).want = v := by
  simp [State.setStatus, State.modRun, State.statusTx, modAt, List.getElem?_eq_getElem inside]

theorem openStaging_eq (s : State) (host : Bool) : ∃ a b, s.openStaging host = { s with eng := { s.eng with
    bankA := a, bankB := b, lastGen := s.eng.lastGen + 1, staging := some { gen := s.eng.lastGen + 1, host := host } } } := by
  unfold State.openStaging State.modEng
  dsimp only
  rw [putInactive_eq]
  exact ⟨_, _, rfl⟩

/-! ### O54: entering and leaving the quiet state -/

section
variable {s : State}

theorem exec_qlIdleTimer (allowed : s.quietAllowed = true) (late : s.idleOver = true) (tx : s.ql.run.txState = 0) (rx : s.ql.run.rxState = 0) (up : s.ben.up = true)
    (free : s.armed = false) : exec .qlIdleTimer s = .next (
      let s1 := s.openStaging false
      let bank := s1.profileBank s1.quietProfile
      match s1.validate bank s1.quietProfile with
      | some (code, e) =>
        State.modQl ((s1.modEng (fun g => { g with staging := none, lastReject := code, lastRejectEng := e })).logEntry unitQuiet 3 kindFault code 0x01 e Status.range.code)
          (fun q => { q with idleSince := none })
      | none =>
        let s2 := s1.modEng (fun g => { (g.putInactive bank) with staging := g.staging.map (fun x => { x with state := 2, profile := some s1.quietProfile }) })
        (s2.setStatus 1 1).modQl (fun q => { q with txState := 1 })) :=
  congrArg Host.Outcome.next (if_neg (by simp [allowed, late, tx, rx, up, free]))

/-- A profile that validates is staged, and QR is wanted (R195, R196). -/
theorem quietStaged_valid (allowed : s.quietAllowed = true) (late : s.idleOver = true) (tx : s.ql.run.txState = 0) (rx : s.ql.run.rxState = 0) (up : s.ben.up = true)
    (free : s.armed = false) (length : 1 < s.lc.run.stTx.length)
    (valid : (s.openStaging false).validate ((s.openStaging false).profileBank s.quietProfile) s.quietProfile = none) :
    ∃ (t : State) (g : Staging), exec .qlIdleTimer s = .next t ∧ t.ql = { s.ql with run := { s.ql.run with txState := 1 } } ∧ (t.statusTx 1).want = 1 ∧
      t.eng.staging = some g ∧ g.state = 2 ∧ g.host = false ∧ g.profile = some s.quietProfile ∧ g.gen = s.eng.lastGen + 1 ∧ t.link = s.link := by
  have runs := exec_qlIdleTimer allowed late tx rx up free
  obtain ⟨a, b, opened⟩ := openStaging_eq s false
  have same : (s.openStaging false).quietProfile = s.quietProfile := rfl
  dsimp only at runs
  rw [same, valid] at runs
  dsimp only at runs
  generalize s.openStaging false = u at runs opened
  refine ⟨_, { gen := s.eng.lastGen + 1, host := false, state := 2, profile := some s.quietProfile }, runs, ?_, statusTx_setStatus_want (s := u.modEng _) 1 ?_, ?_,
    rfl, rfl, rfl, rfl, ?_⟩
  · rw [opened]
    rfl
  · rw [opened]
    exact length
  · rw [opened]
    rfl
  · rw [opened]
    rfl

/-- A profile that does not validate is recorded, and the timer starts again (R196). -/
theorem quietStaged_invalid (allowed : s.quietAllowed = true) (late : s.idleOver = true) (tx : s.ql.run.txState = 0) (rx : s.ql.run.rxState = 0) (up : s.ben.up = true)
    (free : s.armed = false) {code e : Nat}
    (invalid : (s.openStaging false).validate ((s.openStaging false).profileBank s.quietProfile) s.quietProfile = some (code, e)) :
    ∃ t : State, exec .qlIdleTimer s = .next t ∧ t.ql = { s.ql with run := { s.ql.run with idleSince := none } } ∧ t.eng.staging = none ∧
      t.eng.lastReject = code ∧ t.eng.lastRejectEng = e ∧ t.lc = s.lc ∧ t.link = s.link := by
  have runs := exec_qlIdleTimer allowed late tx rx up free
  obtain ⟨a, b, opened⟩ := openStaging_eq s false
  have same : (s.openStaging false).quietProfile = s.quietProfile := rfl
  dsimp only at runs
  rw [same, invalid] at runs
  dsimp only at runs
  refine ⟨_, runs, ?_⟩
  rw [State.logEntry_eq, opened]
  exact ⟨rfl, rfl, rfl, rfl, rfl, rfl⟩

end

theorem quietStart_starts {s : State} (allowed : s.quietAllowed = true) (wanted : s.ql.run.txState = 1) (sent : (s.statusTx 1).now = 1) (age : 8 ≤ (s.statusTx 1).age)
    (far : s.statusRx 1 = 1) (even : s.lc.run.txSeq % 16 = 0) (free : s.armed = false) :
    ∃ t : State, exec .quietStart s = .next t ∧ t.ql.run.txState = 2 ∧ t.ql.run.qc = some 0 ∧ t.ql.cnt.entries = inc 32 s.ql.cnt.entries ∧
      t.eng.staging = none ∧ t.eng.profile = s.quietProfile ∧ t.eng.activeGen = (if s.quietStaged = true then s.eng.lastGen else s.eng.lastGen + 1) ∧
      (s.ql.run.rxState = 1 → s.pwr.state = .active → t.pwr.state = .quietLatch) ∧ t.link = s.link := by
  obtain ⟨u, held, made⟩ : ∃ u : State, u = (if s.quietStaged then s else s.openStaging false) ∧ u = { s with eng := u.eng } ∧
      u.eng.lastGen = if s.quietStaged = true then s.eng.lastGen else s.eng.lastGen + 1 := by
    refine ⟨_, rfl, ?_⟩
    by_cases staged : s.quietStaged = true
    · rw [if_pos staged, if_pos staged]
      exact ⟨rfl, rfl⟩
    · obtain ⟨a, b, opened⟩ := openStaging_eq s false
      rw [if_neg staged, if_neg staged, opened]
      exact ⟨rfl, rfl⟩
  obtain ⟨same, gen⟩ := made
  have ql : u.ql = s.ql := (congrArg State.ql same :)
  have link : u.link = s.link := (congrArg State.link same :)
  have pwr : u.pwr = s.pwr := (congrArg State.pwr same :)
  refine ⟨_, congrArg Host.Outcome.next (if_neg (by simp [allowed, wanted, sent, age, far, even, free])), ?_⟩
  dsimp only
  rw [← held, judgeQuiet_eq]
  refine ⟨rfl, rfl, ?_, rfl, ?_, ?_, fun quiet active => ?_, ?_⟩
  · exact (congrArg (fun v : Quiet => inc 32 v.cnt.entries) ql :)
  · exact congrArg (fun v : Link => if v.mode = some 0 then Profile.ql100 else .ql50) link
  · exact gen
  · rw [← ql] at quiet
    rw [← pwr] at active
    simp [State.judgeQuiet, State.modQlCnt, State.modQl, State.modEng, quiet, active]
  · exact link

/-- A refresh window opens at a multiple of RI (R199). -/
theorem exec_refreshWindow {s : State} {k : Nat} (native : s.nativeData = true) (count : s.ql.run.qc = some k) : exec (.refreshWindow none) s =
    .next (if s.nativeData && s.ql.run.txState = 2 && (if s.link.mode = some 0 then 1562 else 781) ≤ k && k % (if s.link.mode = some 0 then 1562 else 781) = 0 &&
      s.ql.run.wakeDue.isNone then s.modQl (fun q => { q with txState := 3 }) else s) := by
  have clause : ¬ s.stdIdle = true := by
    simp only [State.nativeData, Bool.and_eq_true, Bool.or_eq_true, decide_eq_true_eq] at native
    have mode : s.nativeMode = true := by simpa [State.nativeMode] using native.2
    simp [State.stdIdle, mode]
  refine congrArg Host.Outcome.next ((if_neg clause).trans ?_)
  rw [count]

/-- What the start of a wake burst notes (R200, R223). -/
def State.wakeMarked (s : State) (t0 : Nat) : State :=
  ((State.modQl { s with ql := { s.ql with waitMax := min 65535 (max s.ql.waitMax (s.time - t0)) } }
    (fun q => { q with txState := 4, settleTx := 7, wakeDue := none, burstAt := some s.time })).setStatus 1 0).modQlCnt
    (fun c => { c with wakesTx := inc 32 c.wakesTx })

theorem exec_wakeBurstStart {s : State} {cause t0 : Nat} (native : s.nativeData = true) (quiet : s.ql.run.txState = 2) (due : s.ql.run.wakeDue = some (cause, t0)) :
    exec .wakeBurstStart s = .next ((s.wakeMarked t0).driveBurst 1 64
      (fun p => burstSymbols p.val ((s.lc.run.txSeq + 1) % 256) (if cause = 6 || cause = 7 then 6 else 5))) := by
  refine congrArg Host.Outcome.next ?_
  rw [due]
  exact if_neg (by simp [native, quiet])

theorem wakeBurst_starts {s : State} {cause t0 : Nat} (native : s.nativeData = true) (quiet : s.ql.run.txState = 2) (due : s.ql.run.wakeDue = some (cause, t0))
    (length : 1 < s.lc.run.stTx.length) : ∃ t : State, exec .wakeBurstStart s = .next t ∧ t.ql.run.txState = 4 ∧ t.ql.run.wakeDue = none ∧ t.ql.run.burstAt = some s.time ∧
      t.ql.cnt.wakesTx = inc 32 s.ql.cnt.wakesTx ∧ t.ql.waitMax = min 65535 (max s.ql.waitMax (s.time - t0)) ∧ (t.statusTx 1).want = 0 ∧ t.link = s.link := by
  obtain ⟨fields, link, ql⟩ := driveBurst_keeps (s.wakeMarked t0) 1 64 (fun p => burstSymbols p.val ((s.lc.run.txSeq + 1) % 256) (if cause = 6 || cause = 7 then 6 else 5))
  refine ⟨_, exec_wakeBurstStart native quiet due, ?_⟩
  rw [ql, link]
  refine ⟨rfl, rfl, rfl, rfl, rfl, ?_, rfl⟩
  rw [State.statusTx, fields]
  exact statusTx_setStatus_want (s := State.modQl _ _) 0 length

/-- The partner lost takes the link down (R214, R216). -/
theorem qlHdrLoss_falls {s : State} (native : s.nativeData = true) (heard : s.ql.run.rxState ≠ 0)
    (lost : 8 ≤ s.ql.run.missRow ∨ ∃ t0, s.ql.run.burstAt = some t0 ∧ t0 + 2000000 ≤ s.time) : exec .qlHdrLoss s = .next (s.linkFail 6) := by
  have up : 3 ≤ s.link.state := by
    simp [State.nativeData] at native
    omega
  have row : (decide (8 ≤ s.ql.run.missRow) || s.ql.run.burstAt.any (fun t => t + 2000000 ≤ s.time)) = true := by
    rcases lost with row | ⟨t0, began, old⟩
    · rw [decide_eq_true row, Bool.true_or]
    · rw [began, Option.any_some, decide_eq_true old, Bool.or_true]
  refine congrArg Host.Outcome.next ((if_pos ?_).trans (if_pos up))
  rw [native, row, decide_eq_true heard]
  rfl

/-- Settles O54. -/
theorem quietLatchIsEnteredAndLeft : Obligations.QuietLatchIsEnteredAndLeft := by
  refine ⟨fun s length => ⟨fun allowed late tx rx up free => ⟨fun valid => quietStaged_valid allowed late tx rx up free length valid,
      fun code e invalid => quietStaged_invalid allowed late tx rx up free invalid⟩, fun refused wanted => ?_, fun allowed => congrArg Host.Outcome.next (if_pos allowed)⟩,
    fun s allowed wanted sent age far even free => quietStart_starts allowed wanted sent age far even free, fun s native quiet none absent => ?_,
    fun s k native quiet count => ⟨fun none zero whole => ?_, fun waits => ?_⟩, fun s cause t0 native quiet due length => ?_, fun s native heard lost => ?_⟩
  · have withdrawn : s.withdrawQuiet = ((s.setStatus 1 0).modQl (fun q => { q with txState := 0, idleSince := none })).modEng (fun g => { g with
        staging := match g.staging with | some x => if x.host || x.state = 3 then some x else none | none => none }) := if_pos wanted
    refine ⟨s.withdrawQuiet, congrArg Host.Outcome.next (if_neg (by simp [refused])), ?_⟩
    rw [withdrawn]
    refine ⟨rfl, statusTx_setStatus_want 0 length, fun g staged => ?_, rfl⟩
    have held : (s.setStatus 1 0).eng.staging = some g := staged
    simp [State.modEng, State.modQl, held]
  · refine ⟨State.modQl { s with ql := { s.ql with cnt := { s.ql.cnt with entryAborts := inc 32 s.ql.cnt.entryAborts }, wakeCause := 8 } }
      (fun q => { q with wakeDue := some (8, s.time) }), ?_, rfl, rfl, rfl, rfl⟩
    have moving : (decide (s.ql.run.txState = 2) || decide (s.ql.run.txState = 3)) = true := by simpa using quiet
    have aborted : (decide (3 ≤ s.ql.run.farQr0) || (s.ql.run.farQc.isNone && decide (64 ≤ s.ql.run.waitFar))) = true := by simpa using absent
    refine congrArg Host.Outcome.next ((if_pos (by rw [native, moving, aborted, none]; rfl)).trans ?_)
    refine (if_neg ?_).trans (if_pos ?_)
    · show ¬ s.ql.run.txState = 1
      omega
    · show ((decide (s.ql.run.txState = 2) || decide (s.ql.run.txState = 3)) && s.ql.run.wakeDue.isNone) = true
      rw [moving, none]
      rfl
  · refine (exec_refreshWindow native count).trans (congrArg Host.Outcome.next (if_pos ?_))
    have least := Nat.le_of_dvd (Nat.pos_of_ne_zero zero) (Nat.dvd_of_mod_eq_zero whole)
    rw [native, none, decide_eq_true quiet, decide_eq_true least, decide_eq_true whole]
    rfl
  · refine (exec_refreshWindow native count).trans (congrArg Host.Outcome.next (if_neg fun opens => ?_))
    simp only [Bool.and_eq_true, decide_eq_true_eq] at opens
    obtain ⟨⟨⟨-, least⟩, whole⟩, unasked⟩ := opens
    rcases waits with asked | zero | odd
    · rw [Option.isSome_iff_ne_none] at asked
      exact asked (Option.isNone_iff_eq_none.mp unasked)
    · have some : 0 < if s.link.mode = some 0 then 1562 else 781 := by split <;> decide
      omega
    · exact odd whole
  · exact wakeBurst_starts native quiet due length
  · have up : 3 ≤ s.link.state := by
      simp [State.nativeData] at native
      omega
    obtain ⟨state, -, last⟩ := linkFail_down (s := s) (cause := 6) (retrain := .notReady) (silent := false) up
    exact ⟨_, qlHdrLoss_falls native heard lost, state, by rw [last]; rfl⟩

end Sys2Proof.Machine
end

section
/-! PROOFS. O55: receptions on a quiet link. -/

namespace Sys2Proof.Machine

set_option Elab.async false

/-! ### Parts of a reception -/

section
variable (s : State)

/-- A cause to wake leaves the receive direction of the quiet state (R198). -/
theorem wakeCause_receive (n : Nat) : (s.wakeCause n).ql.last = s.ql.last ∧ (s.wakeCause n).ql.cnt = s.ql.cnt ∧
    (s.wakeCause n).ql.run.rxState = s.ql.run.rxState ∧ (s.wakeCause n).ql.run.rx = s.ql.run.rx := by
  unfold State.wakeCause State.withdrawQuiet
  split
  · exact ⟨rfl, rfl, rfl, rfl⟩
  · split
    · exact ⟨rfl, rfl, rfl, rfl⟩
    · exact ⟨rfl, rfl, rfl, rfl⟩

/-- Freezing the gain leaves the frequency offsets and what was held. -/
theorem freezeGain_heldFreq (k : RxInstant) (back : Nat) : (s.freezeGain k back).rx.heldFreq = s.rx.heldFreq := by
  unfold State.freezeGain
  dsimp only
  split <;> rfl

/-- The record that the latch point leaves (R207, R223). -/
theorem latchAt_reception (k : RxInstant) (back : Nat) (who : BitVec 4) (rho : Nat) (r : Reception) : ∃ ref record,
    (s.latchAt k back who rho r).ql.run.rx = some { r with latch := some (s.symbolAt k - back), pairs := who, ref := ref, record := record } := by
  have frozen := freezeGain_eq s k back
  unfold State.latchAt
  dsimp only
  rw [frozen]
  exact ⟨_, _, rfl⟩

theorem latchAt_peak (k : RxInstant) (back : Nat) (who : BitVec 4) (rho : Nat) (r : Reception) {p : Pair} (active : s.activePair p = true) :
    ((s.latchAt k back who rho r).rx.pair.at p).peak.isSome = true := by
  unfold State.latchAt
  dsimp only
  refine (congrArg (fun x : RxPair => x.peak.isSome) (Quad.at_mapIdx _ _ p)).trans ?_
  exact congrArg (fun x : RxPair => x.peak.isSome) (if_pos active)

theorem latchAt_heldFreq (k : RxInstant) (back : Nat) (who : BitVec 4) (rho : Nat) (r : Reception) : (s.latchAt k back who rho r).rx.heldFreq = s.rx.heldFreq :=
  freezeGain_heldFreq s k back

theorem freezeAfc_bounds (f : Int) : s.rx.heldFreq - 5000 ≤ (s.freezeAfc f).rx.freqOfs ∧ (s.freezeAfc f).rx.freqOfs ≤ s.rx.heldFreq + 5000 := by
  unfold State.freezeAfc clampInt
  dsimp only
  omega

end

/-- What the latch point leaves, as O55 says it. -/
def Latched (s : State) (k : RxInstant) (who : BitVec 4) (t : State) : Prop :=
  t.ql.run.rxState = 3 ∧ t.rx.gainRun = false ∧ (∃ r', t.ql.run.rx = some r' ∧ r'.latch = some (s.symbolAt k) ∧ r'.pairs = who) ∧
    (∀ p : Pair, s.activePair p = true → (t.rx.pair.at p).gain = 0 ∧ (t.rx.pair.at p).peak.isSome = true) ∧ t = { s with rx := t.rx, ql := t.ql }

theorem latchAt_latched (s : State) (k : RxInstant) (who : BitVec 4) (rho : Nat) (r : Reception) : Latched s k who (s.latchAt k 0 who rho r) := by
  obtain ⟨state, gain, -, zero, frame⟩ := latchAt_latches s k 0 who rho r
  obtain ⟨ref, record, rx⟩ := latchAt_reception s k 0 who rho r
  exact ⟨state, gain, ⟨_, rx, rfl, rfl⟩, fun p active => ⟨zero p active, latchAt_peak s k 0 who rho r active⟩, frame⟩

/-- A sync word accepted (R210). -/
theorem acceptSync_accepts (s : State) (k : RxInstant) {r : Reception} (running : s.ql.run.rx = some r) :
    let t := s.acceptSync k r
    ∃ r', t.ql.run.rxState = 4 ∧ t.ql.run.rx = some r' ∧ r'.synced = true ∧ r'.settle = 0 ∧ r'.hdr = false ∧ r'.latch.isSome = true ∧
      s.rx.heldFreq - 5000 ≤ t.rx.freqOfs ∧ t.rx.freqOfs ≤ s.rx.heldFreq + 5000 ∧ t.rx.afcRun = false ∧
      (∀ p : Pair, s.activePair p = true → (t.rx.pair.at p).strength.isSome = true) ∧ t = { s with rx := t.rx, ql := t.ql } := by
  obtain ⟨u, held, frame, held', r0, rx, latch⟩ : ∃ u : State, u = (if r.latch.isNone then s.latchAt k 63 r.pairs ((s.withPart k).rhoMax k r.pairs) r else s) ∧
      u = { s with rx := u.rx, ql := u.ql } ∧ u.rx.heldFreq = s.rx.heldFreq ∧ ∃ r0, u.ql.run.rx = some r0 ∧ r0.latch.isSome = true := by
    refine ⟨_, rfl, ?_⟩
    by_cases fresh : r.latch.isNone = true
    · rw [if_pos fresh]
      obtain ⟨-, -, -, -, frame⟩ := latchAt_latches s k 63 r.pairs ((s.withPart k).rhoMax k r.pairs) r
      obtain ⟨ref, record, rx⟩ := latchAt_reception s k 63 r.pairs ((s.withPart k).rhoMax k r.pairs) r
      exact ⟨frame, latchAt_heldFreq s k 63 _ _ r, _, rx, rfl⟩
    · rw [if_neg fresh]
      exact ⟨rfl, rfl, r, running, by simpa [Option.isNone_iff_eq_none, Option.isSome_iff_ne_none] using fresh⟩
  unfold State.acceptSync
  dsimp only
  rw [← held]
  generalize (s.withPart k).driftFreq _ _ _ = f
  have bounds := freezeAfc_bounds u f
  rw [held'] at bounds
  refine ⟨_, rfl, congrArg (Option.map _) rx, rfl, rfl, rfl, latch, bounds.1, bounds.2, rfl, fun p active => ?_, ?_⟩
  · refine (congrArg (fun x : RxPair => x.strength.isSome) (Quad.at_mapIdx _ _ p)).trans ?_
    exact congrArg (fun x : RxPair => x.strength.isSome) (if_pos active)
  · rw [frame]
    rfl

/-- A stronger peak captures the receiver (R211, R212). -/
theorem captureAt_captures (s : State) (k : RxInstant) (r : Reception) :
    let t := s.captureAt k r
    ∃ r', t.ql.run.rxState = 2 ∧ t.ql.run.rx = some r' ∧ r'.capture = some (s.symbolAt k) ∧ r'.latch = none ∧ t.ql.last.result = 3 ∧
      t.rx.freqOfs = s.rx.heldFreq ∧ t.rx.afcRun = true ∧ t.rx.gainRun = true ∧ t.ql.cnt.captures = inc 32 s.ql.cnt.captures ∧ t.link = s.link := by
  obtain ⟨u, held, frame⟩ : ∃ u : State, u = (if r.synced then s.gapChain else s) ∧ u = { s with lc := u.lc, kw := u.kw } := by
    refine ⟨_, rfl, ?_⟩
    split
    · exact gapChain_eq s
    · rfl
  unfold State.captureAt
  dsimp only
  rw [← held, frame]
  exact ⟨_, rfl, rfl, rfl, rfl, rfl, rfl, rfl, rfl, rfl, rfl⟩

/-- A wake that was none: the direction is quiet again with the values held from before (R211, R213). -/
theorem falseWake_returns (s : State) (r : Reception) (result : Nat) :
    let t := s.falseWake r result
    t.ql.run.rxState = 1 ∧ t.ql.run.rx = none ∧ t.ql.last = { r.record with result := result } ∧
      t.ql.cnt.falseWakes = inc 32 s.ql.cnt.falseWakes ∧ t.rx.freqOfs = s.rx.heldFreq ∧ t.rx.gainRun = false ∧ t.link = s.link := by
  obtain ⟨ql, rx, frame⟩ := abandon_abandons (s.modQlCnt (fun c => { c with falseWakes := inc 32 c.falseWakes })) r result
  unfold State.falseWake
  dsimp only
  refine ⟨by rw [ql], by rw [ql], by rw [ql], by rw [ql]; rfl, by rw [rx]; rfl, by rw [rx]; rfl, ?_⟩
  rw [frame]
  rfl

/-! ### O55: the events of a reception -/

section
variable {s : State} {r : Reception} {k : RxInstant} (running : s.ql.run.rx = some r)
include running

theorem exec_latchPoint_first (native : s.nativeData = true) (acquiring : s.ql.run.rxState = 2) (none : r.capture = none) : exec (.latchPoint k) s = .next (
    if (s.withPart k).peakAt k then s.latchAt k 0 ((s.withPart k).firedPairs k) ((s.withPart k).rhoMax k ((s.withPart k).firedPairs k)) r else s) := by
  refine congrArg Host.Outcome.next ?_
  rw [running]
  dsimp only
  rw [if_neg (by simp [native, acquiring]), none]

theorem exec_latchPoint_captured (native : s.nativeData = true) (acquiring : s.ql.run.rxState = 2) {c : Nat} (some : r.capture = some c) :
    exec (.latchPoint k) s = .next (
      if c + 516 ≤ s.symbolAt k then s.latchAt k 0 r.pairs ((s.withPart k).rhoMax k r.pairs) r
      else if nearSecond (s.symbolAt k) c && (s.withPart k).peakAt k then
        s.latchAt k 0 ((s.withPart k).firedPairs k) ((s.withPart k).rhoMax k ((s.withPart k).firedPairs k)) { r with second := true }
      else s) := by
  refine congrArg Host.Outcome.next ?_
  rw [running]
  dsimp only
  rw [if_neg (by simp [native, acquiring]), some]

theorem latchPoint_latches (native : s.nativeData = true) (acquiring : s.ql.run.rxState = 2) :
    (r.capture = none → (s.withPart k).peakAt k = true → ∃ t : State, exec (.latchPoint k) s = .next t ∧ Latched s k ((s.withPart k).firedPairs k) t) ∧
      ∀ c, r.capture = some c →
        (c + 516 ≤ s.symbolAt k → ∃ t : State, exec (.latchPoint k) s = .next t ∧ Latched s k r.pairs t) ∧
        (s.symbolAt k < c + 516 → c + 508 ≤ s.symbolAt k → (s.withPart k).peakAt k = true →
          ∃ t : State, exec (.latchPoint k) s = .next t ∧ Latched s k ((s.withPart k).firedPairs k) t) := by
  refine ⟨fun none peak => ?_, fun c some => ⟨fun after => ?_, fun before near peak => ?_⟩⟩
  · exact ⟨_, (exec_latchPoint_first running native acquiring none).trans (congrArg Host.Outcome.next (if_pos peak)), latchAt_latched s k _ _ r⟩
  · exact ⟨_, (exec_latchPoint_captured running native acquiring some).trans (congrArg Host.Outcome.next (if_pos after)), latchAt_latched s k _ _ r⟩
  · have second : nearSecond (s.symbolAt k) c = true := by simp [nearSecond, near, Nat.le_of_lt before]
    exact ⟨_, (exec_latchPoint_captured running native acquiring some).trans (congrArg Host.Outcome.next ((if_neg (Nat.not_le.mpr before)).trans (if_pos (by rw [second, peak]; rfl)))), latchAt_latched s k _ _ _⟩

/-- A valid sync word is accepted, another is counted (R210). -/
theorem exec_syncWord (native : s.nativeData = true) (latched : s.ql.run.rxState = 3 ∨ (s.ql.run.rxState = 2 ∧ r.capture.isSome = true)) :
    (∀ w, syncOf ((s.withPart k).syncSums k) = some w → s.syncValid r k w = true → exec (.syncWord k) s = .next (s.acceptSync k r)) ∧
      ((∀ w, syncOf ((s.withPart k).syncSums k) = some w → s.syncValid r k w = false) →
        exec (.syncWord k) s = .next (s.modQlCnt (fun c => { c with syncRejects := inc 32 c.syncRejects }))) := by
  have takes : (decide (s.ql.run.rxState = 3) || (decide (s.ql.run.rxState = 2) && r.capture.isSome)) = true := by simpa using latched
  refine ⟨fun w found valid => ?_, fun invalid => ?_⟩
  · refine congrArg Host.Outcome.next ?_
    rw [running]
    dsimp only
    rw [native, takes, if_neg (by decide), found]
    exact if_pos valid
  · refine congrArg Host.Outcome.next ?_
    rw [running]
    dsimp only
    rw [native, takes, if_neg (by decide)]
    cases found : syncOf ((s.withPart k).syncSums k) with
    | none => rfl
    | some w => exact if_neg (by rw [invalid w found]; decide)

/-- A peak while a reception is in progress (R211). -/
theorem exec_capture (native : s.nativeData = true) (latched : s.ql.run.rxState = 3 ∨ s.ql.run.rxState = 4) (peak : (s.withPart k).peakAt k = true) :
    exec (.capture k) s = .next (if nearSecond (s.symbolAt k) (r.capture.getD (r.latch.getD 0)) then s.modRec (fun r => { r with second := true })
      else if (s.withPart k).captures k r then s.captureAt k r else s.modQlCnt (fun c => { c with peaksIgnored := inc 32 c.peaksIgnored })) := by
  have receiving : s.receiving r = true := by
    rcases latched with three | four
    · simp [State.receiving, native, three]
    · simp [State.receiving, native, four]
  have past : ¬ s.ql.run.rxState = 2 := by omega
  refine congrArg Host.Outcome.next ?_
  rw [running]
  dsimp only
  rw [receiving, peak, if_neg (by decide), if_neg past]

end

/-- The receiver with what it held from before it listened (R212). -/
def State.listenReturned (s : State) : State :=
  { s with rx := { s.rx with pair := match s.ql.run.listenHeld with | some h => s.rx.pair.mapIdx (fun p x => x.returnTo (h.at p)) | none => s.rx.pair } }

theorem listenReturned_at {s : State} {h : Quad RxPair} (held : s.ql.run.listenHeld = some h) (p : Pair) :
    s.listenReturned.rx.pair.at p = (s.rx.pair.at p).returnTo (h.at p) := by
  unfold State.listenReturned
  rw [held]
  exact Quad.at_mapIdx _ _ p

/-- What is held from before comes back where a receiver that listened hears no more (R212). -/
theorem listenTimeout_returns {s : State} {row : Nat} (native : s.nativeData = true) (listening : s.ql.run.rxState = 6) (done : s.ql.run.listen = some (0, row)) :
    ∃ t : State, exec .listenTimeout s = .next t ∧ t.ql.run.rxState = 1 ∧ t.ql.run.listen = none ∧
      t.ql.cnt.listenFails = inc 32 s.ql.cnt.listenFails ∧ t.link = s.link ∧
      (∀ h, s.ql.run.listenHeld = some h → ∀ p : Pair, (t.rx.pair.at p).pga = (h.at p).pga ∧ (t.rx.pair.at p).gain = (h.at p).gain ∧
        (t.rx.pair.at p).phase = (h.at p).phase ∧ (t.rx.pair.at p).mse = (h.at p).mse ∧ (t.rx.pair.at p).coef = (h.at p).coef) := by
  have runs : exec .listenTimeout s = .next
      ((s.listenReturned.gapChain.modQl (fun q => { q with rxState := 1, listen := none, listenHeld := none })).modQlCnt
        (fun c => { c with listenFails := inc 32 c.listenFails })) := congrArg Host.Outcome.next (if_pos (by simp [native, listening, done]))
  refine ⟨_, runs, ?_⟩
  rw [gapChain_eq]
  refine ⟨rfl, rfl, rfl, rfl, fun h held p => ?_⟩
  have same := listenReturned_at held p
  exact ⟨(congrArg RxPair.pga same :), (congrArg RxPair.gain same :), (congrArg RxPair.phase same :), (congrArg RxPair.mse same :), (congrArg RxPair.coef same :)⟩

/-- Settles O55. -/
theorem receptionsAreJudged : Obligations.ReceptionsAreJudged := by
  refine ⟨fun s k may quiet some => ?_, fun s r k running may acquiring uncaptured late => ?_,
    fun s r running native => ⟨fun k => ⟨fun acquiring => (latchPoint_latches running native acquiring).1, fun c acquiring => (latchPoint_latches running native acquiring).2 c,
      fun latched => ⟨fun w found valid => ?_, (exec_syncWord running native latched).2⟩, fun latched peak => ⟨fun near => ?_, fun far => ⟨fun strong => ?_, fun weak => ?_⟩⟩⟩,
      fun latched ends => ?_, fun settling none four => ?_, fun settling heard => ?_⟩,
    fun s row native listening done => listenTimeout_returns native listening done⟩
  · obtain ⟨p, active, onset⟩ := some
    have any : s.activePairs.any (fun p => (s.withPart k).onsetOn k p) = true := by
      rw [List.any_eq_true]
      exact ⟨p, List.mem_filter.mpr ⟨by fin_cases p <;> decide, active⟩, onset⟩
    refine ⟨_, congrArg Host.Outcome.next (if_neg (by simp [may, quiet, any])), rfl, rfl, rfl, rfl, rfl, fun p => ?_, rfl⟩
    exact Quad.at_map _ _ p
  · obtain ⟨ql, rx, -⟩ := abandon_abandons s r 5
    have runs : exec (.acquisitionTimeout k) s = .next (
        if s.nativeMode && s.ql.run.use.detPairs ≤ popCount 4 (s.pairsWhere (fun p => (s.withPart k).onsetOn k p)).toNat then
          (s.abandon r 5).modQl (fun q => { q with rxState := 6, listen := some (16, 0), listenHeld := some (s.abandon r 5).rx.pair })
        else (s.abandon r 5).modQlCnt (fun c => { c with onsets := inc 32 c.onsets })) := by
      refine congrArg Host.Outcome.next ?_
      rw [running]
      exact if_neg (by simp [may, acquiring, uncaptured, late])
    have pair : ∀ p : Pair, ((s.abandon r 5).rx.pair.at p).pga = s.rx.heldPga.at p ∧ ((s.abandon r 5).rx.pair.at p).peak = s.rx.heldPeak.at p := fun p => by
      rw [rx]
      have same := Quad.at_mapIdx s.rx.pair (fun p x => { x with pga := s.rx.heldPga.at p, peak := s.rx.heldPeak.at p }) p
      exact ⟨congrArg RxPair.pga same, congrArg RxPair.peak same⟩
    have freq : (s.abandon r 5).rx.freqOfs = s.rx.heldFreq := by rw [rx]; rfl
    by_cases still : s.nativeMode = true ∧ s.ql.run.use.detPairs ≤ popCount 4 (s.pairsWhere (fun p => (s.withPart k).onsetOn k p)).toNat
    · refine ⟨_, runs.trans (congrArg Host.Outcome.next (if_pos (by simpa using still))), ?_⟩
      rw [if_pos still]
      exact ⟨congrArg Quiet.last ql, congrArg (fun q : Quiet => q.run.rx) ql, freq, pair, rfl, rfl, (congrArg (fun q : Quiet => q.cnt.onsets) ql :)⟩
    · refine ⟨_, runs.trans (congrArg Host.Outcome.next (if_neg (by simpa using still))), ?_⟩
      rw [if_neg still]
      exact ⟨congrArg Quiet.last ql, congrArg (fun q : Quiet => q.run.rx) ql, freq, pair, congrArg (fun q : Quiet => q.run.rxState) ql,
        (congrArg (fun q : Quiet => inc 32 q.cnt.onsets) ql :)⟩
  · obtain ⟨r', accepted⟩ := acceptSync_accepts s k running
    exact ⟨_, r', (exec_syncWord running native latched).1 w found valid, accepted⟩
  · exact (exec_capture running native latched peak).trans (congrArg Host.Outcome.next (if_pos near))
  · obtain ⟨r', captured⟩ := captureAt_captures s k r
    exact ⟨_, r', (exec_capture running native latched peak).trans (congrArg Host.Outcome.next ((if_neg (by rw [far]; decide)).trans (if_pos strong))), captured⟩
  · exact (exec_capture running native latched peak).trans (congrArg Host.Outcome.next ((if_neg (by rw [far]; decide)).trans (if_neg (by rw [weak]; decide))))
  · refine ⟨s.falseWake r 2, congrArg Host.Outcome.next ?_, falseWake_returns s r 2⟩
    rw [running]
    exact if_pos (by simp [native, latched, ends])
  · refine ⟨s.falseWake r 4, congrArg Host.Outcome.next ?_, falseWake_returns s r 4⟩
    rw [running]
    exact if_pos (by simp [native, settling, none, four])
  · have runs : exec .receptionConfirmed s = .next (((s.modQlCnt (fun c => { c with wakesRx := inc 32 c.wakesRx })).endReception r 1).rxAwake 6) := by
      refine congrArg Host.Outcome.next ?_
      rw [running]
      exact if_pos (by simp [native, settling, heard])
    refine ⟨_, runs, ?_⟩
    unfold State.rxAwake
    generalize made : State.modQl _ _ = u
    obtain ⟨last, cnt, state, rx⟩ := wakeCause_receive u 6
    obtain ⟨-, -, link, chain, -⟩ := wakeCause_keeps u 6
    rw [last, cnt, state, rx, link, chain, ← made]
    exact ⟨rfl, rfl, rfl, rfl, rfl, rfl⟩

end Sys2Proof.Machine
end

section
/-! PROOFS. O53, refuted: failing lanes while a reversion is held. -/

namespace Sys2Proof.Machine

set_option Elab.async false

/-! ### O53: a reversion held back by a CAL_RUN reaches the lane phases -/

/-- A link in data whose inbound lane 0 fails with no spare left, 25 healthy lanes away from their factory phase, while a CAL_RUN holds a REVERT back. -/
def revertHeld : State :=
  { dl := { inb := { lanes := (List.range 26).map (fun p => { logical := if p < 24 then p else 0xFE, phase := 5, phaseTo := 5 }), mapped := true }, ready := true }
    link := { state := 8, mode := some 0 }
    cal := { run := some { tag := 0, items := 16, pairs := 0, left := [(4, 4)], results := [0, 0, 0, 0, 0] }, revertDue := true } }

/-- The lanes that the statement expects keep the phase target of lane 1; the fall of the link, which ends the run and makes the reversion, moves it. -/
theorem revertHeld_moves : ((mapLanes (revertHeld.dir true).lanes ((List.range 26).filter (fun k => k ≠ 0 && ((revertHeld.dir true).lane k).logical ≠ 0xFE))
      (logicalLanes true)).getD 1 {}).phaseTo = 5 ∧ (((revertHeld.laneCause true 0 1).dir true).lanes.getD 1 {}).phaseTo = 0 := by
  decide

/-- Refutes O53: where the lost lane takes a 100 Gb/s link down while a CAL_RUN holds a REVERT back, the end of the run makes the reversion (R257), and the
lanes of the reduced map are not the former lanes renumbered: their phase targets have moved. -/
theorem not_failingLanesAreSubstituted : ¬ Obligations.FailingLanesAreSubstituted := by
  unfold Obligations.FailingLanesAreSubstituted
  rintro ⟨-, -, substituted, -⟩
  obtain ⟨-, -, reduces⟩ := substituted revertHeld true 0 1 rfl rfl rfl
  obtain ⟨t, runs, -, lanes, -⟩ := reduces rfl rfl (by decide) rfl rfl (by decide)
  obtain rfl : revertHeld.laneCause true 0 1 = t := Host.Outcome.next.inj runs
  obtain ⟨expected, moved⟩ := revertHeld_moves
  rw [← lanes, moved] at expected
  exact absurd expected (by decide)

end Sys2Proof.Machine
end

section
/-! PROOFS. O46: the line commands. -/

namespace Sys2Proof.Machine

set_option Elab.async false

/-! ### What a fall of the line blanks -/

/-- The transmit buffer, and what Quiet-Latch and Knuckle keep while a link is up. -/
def State.upData (s : State) : List TxFrame × QlRun × KnRun := (s.kw.txBuf, s.ql.run, s.kn.run)

section
variable (s : State)

theorem finish_upData (q : Request) (st : Status) (r : List (Nat × Nat)) (p : List Byte) : (s.finish q st r p).upData = s.upData := by
  have buffer : (s.finish q st r p).kw.txBuf = s.kw.txBuf := by
    have placed : ∀ (u : State) (i n : Nat) (c : Completion), (u.complete i n c).kw.txBuf = u.kw.txBuf := fun u i n c => by
      unfold State.complete
      split <;> rfl
    unfold State.finish
    dsimp only
    refine State.ite_keeps (π := fun t => t.kw.txBuf) rfl ?_
    split
    · exact placed _ _ _ _
    · rfl
    · exact congrArg Keyway.txBuf (State.logEntry_kw _ _ _ _ _ _ _ _ _ _)
  unfold State.upData
  rw [buffer, State.finish_ql, State.finish_kn]

theorem endRun_upData (op : Nat) (p : Capsule → Bool) (st : Status) (r : List (Nat × Nat)) : (s.endRun op p st r).upData = s.upData := by
  unfold State.endRun
  split
  · exact finish_upData _ _ _ _ _
  · rfl

theorem finishDiag_upData (st : Status) : (s.finishDiag st).upData = s.upData := by
  unfold State.finishDiag
  split
  · rfl
  · next r _ =>
    have asked : (if r.onShed then s.sendQuietReq s.kn.shed 0 1 else s).upData = s.upData := by
      refine State.ite_keeps (π := State.upData) ?_ rfl
      unfold State.sendQuietReq State.sendOam
      split <;> rfl
    generalize (if r.onShed then s.sendQuietReq s.kn.shed 0 1 else s) = u at asked
    dsimp only
    rw [endRun_upData]
    have written : ∀ v : State, v.upData = u.upData → (if r.outAddr = 0 then v else v.writeLines r.outAddr 129 (v.traceBytes r)).upData = s.upData := fun v same =>
      State.ite_keeps (π := State.upData) (same.trans asked) ((writeLines_keeps State.upData (fun _ _ _ => rfl) _ _ _ _).trans (same.trans asked))
    have traced := written { u with diag := { u.diag with run := none, elapsed := min 65535 ((u.time - r.since) / 1000000) } } rfl
    generalize (if r.outAddr = 0 then _ else _ : State) = v at traced
    exact State.ite_keeps (π := State.upData) traced traced

theorem interruptDiagRun_upData : s.interruptDiagRun.upData = s.upData := by
  unfold State.interruptDiagRun State.endDiagTests
  split
  · rfl
  · exact finishDiag_upData _ _

theorem openWaiting_upData : s.openWaiting.upData = s.upData := by
  unfold State.openWaiting
  refine State.ite_keeps (π := State.upData) rfl ?_
  split
  · exact finish_upData _ _ _ _ _
  · rfl

theorem commitProfile_kw (p : Profile) : (s.commitProfile p).kw = s.kw := by
  unfold State.commitProfile
  split <;> rfl

theorem finishSwap_kw : s.finishSwap.kw = s.kw := by
  have marked : ∀ (es : List Nat) (u : State), (es.foldl (fun st e => st.modEngine e (fun x => { x with newProg := true })) u).kw = u.kw := fun es => by
    induction es with
    | nil => exact fun _ => rfl
    | cons e es ih => exact fun u => ih _
  unfold State.finishSwap State.loadNew
  refine State.ite_keeps (π := State.kw) rfl ?_
  dsimp only
  refine State.ite_keeps (π := State.kw) (marked _ _) ?_
  rw [State.raiseEvent_eq, State.logEntry_eq]
  exact marked _ _

theorem abandonRepair_kw : s.abandonRepair.kw = s.kw := by
  unfold State.abandonRepair
  split <;> rfl

/-- A fall of the line leaves no frame to send and nothing of Quiet-Latch or Knuckle (R174). -/
theorem lineDown_upData (retrain : Status) : (s.lineDown retrain).upData = ([], {}, {}) := by
  have emptied : (s.lineEnds retrain).kw.txBuf = [] := by
    unfold State.lineEnds
    rw [commitProfile_kw, finishSwap_kw]
    refine (congrArg Keyway.txBuf (abandonRepair_kw _)).trans ?_
    rfl
  have ended : ((s.lineEnds retrain).lineBlank (s.link.mode.getD 0)).endShedDiag.upData = ((s.lineEnds retrain).lineBlank (s.link.mode.getD 0)).upData := by
    unfold State.endShedDiag
    exact State.ite_keeps (π := State.upData) (interruptDiagRun_upData _) rfl
  rw [lineDown_eq, openWaiting_upData, ended]
  exact congrArg (fun b => (b, ({} : QlRun), ({} : KnRun))) emptied

end

/-! ### Administrative down and the host's TRAIN -/

section
variable {s : State}

/-- The link with the host's cause on record, before it falls (R173, R184). -/
def State.hostDown (s : State) : State :=
  let s1 := s.interruptDiagRun
  (if s1.linkInData then s1.modLinkCnt (fun c => { c with linkDowns := inc 32 c.linkDowns }) else s1).recordFailure 9 false false

theorem adminDown_eq (up : s.link.state ≠ 0) : s.adminDown = (if 3 ≤ s.link.state then s.hostDown.lineDown .notReady else s.hostDown).enter 0 := if_neg up

theorem hostDown_link : s.hostDown.link.trainLast.cause = 9 ∧ (s.link.state = 8 → s.hostDown.link.cnt.linkDowns = inc 32 s.link.cnt.linkDowns) := by
  obtain ⟨n, interrupted⟩ := interruptDiagRun_link s
  unfold State.hostDown
  dsimp only
  rw [recordFailure_link]
  refine ⟨rfl, fun data => ?_⟩
  have inData : s.interruptDiagRun.linkInData = true := by
    unfold State.linkInData
    rw [interrupted]
    simp [data]
  rw [if_pos inData]
  exact (congrArg (fun l : Link => inc 32 l.cnt.linkDowns) interrupted :)

/-- LINK_DOWN takes the link to state 0 with cause HOST (R184). -/
theorem adminDown_down (up : s.link.state ≠ 0) : s.adminDown.link.state = 0 ∧ s.adminDown.link.trainLast.cause = 9 ∧
    (s.link.state = 8 → s.adminDown.link.cnt.linkDowns = inc 32 s.link.cnt.linkDowns) ∧ (3 ≤ s.link.state → s.adminDown.upData = ([], {}, {})) := by
  obtain ⟨cause, count⟩ := hostDown_link (s := s)
  rw [adminDown_eq up]
  by_cases three : 3 ≤ s.link.state
  · obtain ⟨n, fallen⟩ := lineDown_link s.hostDown .notReady
    have blanked := lineDown_upData s.hostDown .notReady
    rw [if_pos three]
    generalize s.hostDown.lineDown .notReady = w at fallen blanked
    refine ⟨rfl, ?_, fun data => ?_, fun _ => blanked⟩
    · exact (congrArg (fun l : Link => l.trainLast.cause) fallen).trans cause
    · exact (congrArg (fun l : Link => l.cnt.linkDowns) fallen).trans (count data)
  · rw [if_neg three]
    exact ⟨rfl, cause, count, fun up => absurd up three⟩

theorem adminDown_stays (down : s.link.state = 0) : s.adminDown = s := if_pos down

/-- TRAIN takes the link into the break with cause HOST, without a count (R184). -/
theorem hostTrain_breaks (up : s.link.state ≠ 0) : s.hostTrain.link.state = 2 ∧ s.hostTrain.link.trainLast.cause = 9 ∧
    s.hostTrain.link.trainLast.counted = false ∧ s.hostTrain.link.failCount = s.link.failCount ∧ s.hostTrain.link.ladderPos = s.link.ladderPos := by
  have uncounted : s.causeCounts 9 = false := rfl
  by_cases one : s.link.state = 1
  · have recorded := recordFailure_link s 9 false false
    unfold State.hostTrain
    rw [if_pos one]
    generalize s.recordFailure 9 false false = u at recorded
    refine ⟨rfl, ?_, ?_, ?_, ?_⟩
    all_goals
      show _ = _
      simp only [State.enter, State.modLink, recorded]
      rfl
  · have hosted : s.hostTrain = s.linkFail 9 := if_neg one
    rw [hosted]
    by_cases two : s.link.state = 2
    · have recorded := recordFailure_link s 9 false false
      have failed : s.linkFail 9 = s.recordFailure 9 false false := by
        unfold State.linkFail
        dsimp only
        rw [if_neg up, if_pos (by simp [two]), uncounted, if_neg Bool.false_ne_true]
        rfl
      rw [failed, recorded]
      exact ⟨two, rfl, rfl, rfl, rfl⟩
    · obtain ⟨f, c, p, d, k, n, link, kept⟩ := linkFail_link s (cause := 9) (retrain := .notReady) (silent := false) (.inl (by omega))
      obtain ⟨count, ladder⟩ := kept uncounted
      rw [link, count, ladder]
      exact ⟨rfl, rfl, rfl, rfl, rfl⟩

end

/-! ### The beginning of a negotiation -/

theorem foldl_emit (l : List Out) (s : State) : l.foldl State.emit s = { s with out := l.reverse ++ s.out } := by
  induction l generalizing s with
  | nil => rfl
  | cons o l ih => simp [ih, State.emit]

/-- The settings with which a negotiation begins, once the ladder resets that wait are made (R157, R177). -/
def State.settled (s : State) : State := s.dueReset.modLink (fun l => { l with used := l.ctl })

/-- The negotiation under way, its pages sent (R157, R158). -/
def State.negotiated (s : State) : State :=
  { s.settled with
    link := { s.settled.link with
      neg := { since := s.time, begun := true, seed := freeSeed s.draws, rungs := rungBits s.settled.advertisedRungs
               sent := if s.settled.sendsNative then some s.settled.ownU2 else none, sentLegacy := s.settled.sendsLegacy && s.settled.offersLegacy }
      cnt := { s.settled.link.cnt with negStarts := inc 32 s.link.cnt.negStarts } }
    draws := s.draws + 1
    out := (s.settled.negotiationPages (freeSeed s.draws).toNat).reverse ++ s.out }

theorem dueReset_eq (s : State) : ∃ pos fails due step, s.dueReset = { s with link := { s.link with ladderPos := pos, failCount := fails, resetDue := due, lastStep := step } } := by
  unfold State.dueReset
  split
  · exact ⟨_, _, _, _, rfl⟩
  · exact ⟨_, _, _, _, rfl⟩

theorem beginNegotiation_eq {s : State} (may : s.mayNegotiate = true) : s.beginNegotiation = s.negotiated.endRun 0x48 (fun _ => true) .ok [] := by
  obtain ⟨pos, fails, due, step, reset⟩ := dueReset_eq s
  unfold State.beginNegotiation
  rw [if_neg (by simp [may])]
  dsimp only
  rw [foldl_emit]
  unfold State.negotiated State.settled
  rw [reset]
  rfl

/-- Where the ladder stands once a reset is made (R177). -/
theorem dueReset_top {s : State} (top : s.link.ladderPos = s.ladderTop) (fails : s.link.failCount = 0) : s.dueReset.link.ladderPos = s.ladderTop ∧ s.dueReset.link.failCount = 0 := by
  unfold State.dueReset
  split
  · exact ⟨rfl, rfl⟩
  · exact ⟨top, fails⟩

theorem begin_mayAdvertise (s : State) (q : Request) (c : LinkCtl) (r : Rung) : (s.begin q).mayAdvertise c r = s.mayAdvertise c r := by
  simp only [State.mayAdvertise, State.rungAvailable, begin_ready, State.begin_fuse]
  rfl

theorem begin_ladderTop (s : State) (q : Request) : (s.begin q).ladderTop = s.ladderTop := by
  have same : (s.begin q).advertisable = s.advertisable := funext fun r => begin_mayAdvertise s q s.link.ctl r
  unfold State.ladderTop
  rw [same]
  rfl

/-! ### O46: the line commands -/

/-- A request in progress that nothing else of its opcode precedes is the one that ends (R184). -/
theorem findRun_last {s : State} {q : Request} {op : Nat} {l : List Request} (running : s.cyo.running = l ++ [q]) (mine : q.cap.opcode.toNat = op)
    (alone : ∀ r ∈ l, r.cap.opcode.toNat ≠ op) : s.findRun op (fun _ => true) = some q := by
  unfold State.findRun
  rw [running, List.find?_append, List.find?_eq_none.mpr (fun r mem => by simpa using alone r mem)]
  simp [mine]

/-- The numbers that a request's opcode shows: its command. -/
theorem takes_opcode {s : State} {tag : BitVec 16} {op : Nat} {q : Request} (takes : Takes s tag op q) : q.cap.op = op := by
  have started := takes.1
  unfold State.startable at started
  split at started
  · next p found =>
    split at started
    · next all =>
      obtain rfl := Option.some.inj started
      simp only [Bool.and_eq_true, decide_eq_true_eq] at all
      exact all.1.1
    · cases started
  · cases started

section
variable {s : State} {tag : BitVec 16} {q : Request} (ready : s.ready .line = true) (idle : s.bist.run = none)
include ready idle

omit ready in
theorem begin_yieldFullTest (ok : Bool) : (s.begin q).yieldFullTest ok = s.begin q := by
  have none : (s.begin q).fullTest = false := by simp [State.fullTest, idle]
  unfold State.yieldFullTest
  rw [none, Bool.false_and, if_neg (by decide)]

omit ready in
theorem begin_pairTested : (s.begin q).pairTested = false := by simp [State.pairTested, idle]

theorem exec_linkUp (takes : Takes s tag 0x48 q) (plain : Plain q []) : exec (.linkUp tag) s =
    .next (if s.link.state ≠ 0 then (s.begin q).interruptDiagRun.leaveDormant.finish q .ok [] []
      else ((((s.begin q).startRun q).interruptDiagRun.ladderReset.startNegotiation).leaveDormant).beginNegotiation) := by
  obtain ⟨len, fields⟩ := plain
  refine next_runRequest takes ?_
  dsimp only
  rw [begin_yieldFullTest idle]
  exact guarded_begin takes (by simp [firstFail, len, ready, fields, begin_pairTested idle])

omit idle in
theorem exec_linkDown (takes : Takes s tag 0x49 q) (plain : Plain q []) : exec (.linkDown tag) s = .next ((s.begin q).adminDown.finish q .ok [] []) := by
  obtain ⟨len, fields⟩ := plain
  exact next_runRequest takes (guarded_begin takes (by simp [firstFail, len, ready, fields]))

theorem exec_trainFull (takes : Takes s tag 0x4A q) (plain : Plain q [(28, 1)]) (full : q.cap.arg 28 1 ≠ 1) : exec (.trainFull tag) s =
    .next (if q.cap.arg 28 1 = 0 then (if s.link.state = 0 then (s.begin q).finish q .ok [] []
        else ((s.begin q).interruptDiagRun.leaveDormant.hostTrain).finish q .ok [] [])
      else (s.begin q).finish q .range [] []) := by
  obtain ⟨len, fields⟩ := plain
  refine next_runWhere takes (by simp [full]) ?_
  dsimp only
  rw [begin_yieldFullTest idle]
  by_cases zero : q.cap.arg 28 1 = 0
  · rw [if_pos zero]
    exact guarded_begin takes (by simp [firstFail, len, ready, fields, zero, begin_pairTested idle])
  · rw [if_neg zero]
    exact guarded_begin_fail takes (by simp [firstFail, len, ready, fields, zero, begin_pairTested idle])

theorem exec_trainFast (takes : Takes s tag 0x4A q) (plain : Plain q [(28, 1)]) (fast : q.cap.arg 28 1 = 1) : exec (.trainFast tag) s =
    .next (if s.linkInData = true then (if s.link.frOk && s.link.ctl.frEn then (((s.begin q).interruptDiagRun.startRun q).askRetrain) else (s.begin q).finish q .range [] [])
      else (s.begin q).finish q .notReady [] []) := by
  obtain ⟨len, fields⟩ := plain
  refine next_runWhere takes (by simp [fast]) ?_
  dsimp only
  rw [begin_yieldFullTest idle]
  have inData : (s.begin q).linkInData = s.linkInData := rfl
  by_cases data : s.linkInData = true
  · rw [if_pos data]
    by_cases retrain : (s.link.frOk && s.link.ctl.frEn) = true
    · rw [if_pos retrain]
      exact guarded_begin takes (by simp [firstFail, len, ready, fields, inData, data, retrain, begin_pairTested idle])
    · rw [if_neg retrain]
      exact guarded_begin_fail takes (by simp [firstFail, len, ready, fields, inData, data, retrain, begin_pairTested idle])
  · rw [if_neg data]
    exact guarded_begin_fail takes (by simp [firstFail, len, ready, inData, data])

/-- LINK_UP leaves the administrative down state: negotiation begins with the ladder reset, which completes it (R184). -/
theorem linkUp_negotiates (takes : Takes s tag 0x48 q) (plain : Plain q []) (down : s.link.state = 0) (free : s.diag.run = none)
    (alone : ∀ r ∈ s.cyo.running, r.cap.opcode.toNat ≠ 0x48) (awake : s.pwr.state ≠ .dormant) (run : s.heldReset = false) :
    ∃ u : State, exec (.linkUp tag) s = .next (u.finish { q with since := s.time } .ok [] []) ∧ u.link.state = 1 ∧ u.link.neg.begun = true ∧
      u.link.used = s.link.ctl ∧ u.link.ladderPos = s.ladderTop ∧ u.link.failCount = 0 ∧ u.link.cnt.negStarts = inc 32 s.link.cnt.negStarts ∧
      (∀ r ∈ u.cyo.running, r ∈ s.cyo.running) := by
  have runs := exec_linkUp ready idle takes plain
  rw [if_neg (by simpa using down)] at runs
  have interrupted : ((s.begin q).startRun q).interruptDiagRun = (s.begin q).startRun q := by
    unfold State.interruptDiagRun State.endDiagTests
    rw [show ((s.begin q).startRun q).diag.run = none from free]
  rw [interrupted] at runs
  have stays : (((s.begin q).startRun q).ladderReset.startNegotiation).leaveDormant = ((s.begin q).startRun q).ladderReset.startNegotiation :=
    if_neg (show ¬ s.pwr.state = .dormant from awake)
  rw [stays] at runs
  obtain ⟨v, made⟩ : ∃ v : State, v = ((s.begin q).startRun q).ladderReset.startNegotiation := ⟨_, rfl⟩
  have line : v.lineReady = true := by rw [made]; exact (begin_lineReady s q).trans ready
  have reset : v.heldReset = false := by rw [made]; exact run
  have may : v.mayNegotiate = true := by
    have diag : v.diag.run = none := by rw [made]; exact free
    have power : v.pwr.state ≠ .dormant := by rw [made]; exact awake
    have one : v.link.state = 1 := by rw [made]; rfl
    have fresh : v.link.neg.begun = false := by rw [made]; rfl
    simp [State.mayNegotiate, one, fresh, line, reset, power, diag]
  have top : v.ladderTop = s.ladderTop := by rw [made]; exact begin_ladderTop s q
  obtain ⟨ladder, fails⟩ := dueReset_top (s := v) (by rw [made]; rfl) (by rw [made]; rfl)
  obtain ⟨pos, count, due, step, settled⟩ := dueReset_eq v
  have running : v.negotiated.cyo.running = s.cyo.running ++ [{ q with since := s.time }] := by
    unfold State.negotiated State.settled
    rw [settled, made]
    rfl
  have found := findRun_last (op := 0x48) running (show q.cap.op = 0x48 from takes_opcode takes) alone
  rw [← made, beginNegotiation_eq may, State.endRun, found] at runs
  refine ⟨_, runs, ?_, rfl, ?_, ladder.trans top, fails, ?_, fun r mem => ?_⟩
  · show v.dueReset.link.state = 1
    rw [settled, made]
    rfl
  · show v.dueReset.link.ctl = s.link.ctl
    rw [settled, made]
    rfl
  · show inc 32 v.link.cnt.negStarts = _
    rw [made]
    rfl
  · have held : r ∈ v.negotiated.cyo.running ∧ r.cap.tag ≠ q.cap.tag := by simpa using List.mem_filter.mp mem
    rw [running, List.mem_append, List.mem_singleton] at held
    exact held.1.resolve_right fun same => held.2 (by rw [same])

end

/-- Settles O46. -/
theorem lineCommandsAct : Obligations.LineCommandsAct := by
  refine fun s tag q ready idle => ⟨fun takes plain => ⟨fun up => ?_, fun down free alone => ⟨fun awake run =>
    linkUp_negotiates ready idle takes plain down free alone awake run, fun asleep => ?_⟩⟩, fun takes plain => ?_, fun takes plain =>
    ⟨fun full down => ?_, fun full up => ?_, fun wrong => ?_, fun fast down => ?_, fun fast data => ⟨fun none => ?_, fun frOk frEn free => ?_⟩⟩⟩
  · exact (exec_linkUp ready idle takes plain).trans (congrArg Host.Outcome.next (if_pos up))
  · have runs := exec_linkUp ready idle takes plain
    rw [if_neg (by simpa using down)] at runs
    have interrupted : ((s.begin q).startRun q).interruptDiagRun = (s.begin q).startRun q := by
      unfold State.interruptDiagRun State.endDiagTests
      rw [show ((s.begin q).startRun q).diag.run = none from free]
    have leaves : (((s.begin q).startRun q).ladderReset.startNegotiation).leaveDormant =
        { ((s.begin q).startRun q).ladderReset.startNegotiation with pwr := { s.pwr with dormExit := true } } := if_pos asleep
    rw [interrupted, leaves, State.beginNegotiation, if_pos (by simp [State.mayNegotiate, asleep])] at runs
    exact ⟨_, runs, rfl, rfl, rfl, begin_ladderTop s q, rfl⟩
  · refine ⟨_, exec_linkDown ready takes plain, ?_⟩
    by_cases down : s.link.state = 0
    · have stays : (s.begin q).adminDown = s.begin q := adminDown_stays down
      rw [stays]
      exact ⟨down, fun up => absurd down up, fun _ => rfl, fun data => absurd (down.symm.trans data) (by decide), fun three => by omega⟩
    · obtain ⟨state, cause, count, blanked⟩ := adminDown_down (s := s.begin q) down
      refine ⟨state, fun _ => cause, fun zero => absurd zero down, count, fun three => ?_⟩
      obtain ⟨buffer, rest⟩ := Prod.mk.inj (blanked three)
      exact ⟨buffer, Prod.mk.inj rest⟩
  · exact (exec_trainFull ready idle takes plain (by omega)).trans (congrArg Host.Outcome.next ((if_pos full).trans (if_pos down)))
  · have runs := (exec_trainFull ready idle takes plain (by omega)).trans (congrArg Host.Outcome.next ((if_pos full).trans (if_neg up)))
    obtain ⟨n, interrupted⟩ := interruptDiagRun_link (s.begin q)
    have link : (s.begin q).interruptDiagRun.leaveDormant.link = { s.link with neg := n } := (leaveDormant_link _).trans interrupted
    generalize (s.begin q).interruptDiagRun.leaveDormant = u at runs link
    obtain ⟨state, cause, counted, fails, ladder⟩ := hostTrain_breaks (s := u) (by rw [link]; exact up)
    exact ⟨_, runs, state, cause, counted, by rw [fails, link], by rw [ladder, link]⟩
  · exact (exec_trainFull ready idle takes plain (by omega)).trans (congrArg Host.Outcome.next (if_neg (by omega)))
  · exact (exec_trainFast ready idle takes plain fast).trans (congrArg Host.Outcome.next (if_neg (by rw [down]; decide)))
  · exact (exec_trainFast ready idle takes plain fast).trans (congrArg Host.Outcome.next ((if_pos data).trans (if_neg (by rw [none]; decide))))
  · have runs := (exec_trainFast ready idle takes plain fast).trans (congrArg Host.Outcome.next ((if_pos data).trans (if_pos (by rw [frOk, frEn]; rfl))))
    have interrupted : (s.begin q).interruptDiagRun = s.begin q := by
      unfold State.interruptDiagRun State.endDiagTests
      rw [show (s.begin q).diag.run = none from free]
    rw [interrupted] at runs
    refine ⟨_, runs, ?_⟩
    unfold State.askRetrain
    by_cases want : s.link.frt.want = true
    · rw [if_pos (show ((s.begin q).startRun q).link.frt.want = true from want)]
      exact ⟨want, rfl, fun none => absurd (want.symm.trans none) (by decide), rfl⟩
    · rw [if_neg (show ¬ ((s.begin q).startRun q).link.frt.want = true from want)]
      obtain ⟨-, cyo, link, -, -⟩ := wakeCause_keeps (State.setStatus { (s.begin q).startRun q with link := { ((s.begin q).startRun q).link with
        frt := { ((s.begin q).startRun q).link.frt with want := true, since := ((s.begin q).startRun q).time } } } 5 1) 3
      rw [cyo, link]
      exact ⟨rfl, rfl, fun _ => rfl, rfl⟩

end Sys2Proof.Machine
end

section
/-! PROOFS. O47: the negotiation. -/

namespace Sys2Proof.Machine

set_option Elab.async false

/-! ### The start of a training -/

theorem predictShape_link (s : State) : s.predictShape.link = s.link := by
  unfold State.predictShape
  exact State.ite_keeps (π := State.link) (State.logEntry_link _ _ _ _ _ _ _ _ _ _) rfl

/-- The forced shaping taken up with a training leaves the link (R62). -/
theorem shapeTraining_link (s : State) (m : Rung) : (s.shapeTraining m).link = s.link := by
  unfold State.shapeTraining
  dsimp only
  split
  · exact predictShape_link _
  · rfl

/-- A training that starts: a new state and mode, the rest of the link's record as it was (R166, R172). -/
theorem startTraining_link (s : State) (m : Rung) (n : Nat) : (s.startTraining m n).link.state = n ∧ (s.startTraining m n).link.mode = some m ∧
    (s.startTraining m n).link.since = s.time ∧ (s.startTraining m n).link.train = {} ∧ (s.startTraining m n).link.frt = {} ∧
    { (s.startTraining m n).link.lineRest with state := 0, since := 0 } = { s.link.lineRest with state := 0, since := 0 } := by
  have ends : LineStep s ((s.dropItem.calLinkChange.abandonRepair.supersede).finishSwap.commitProfile (Profile.ofRung m false)) :=
    (((((LineStep.dropItem s).trans (LineStep.calLinkChange _)).trans (LineStep.abandonRepair _)).trans (LineStep.supersede _)).trans (LineStep.finishSwap _)).trans
      (LineStep.commitProfile _ _)
  unfold State.startTraining
  dsimp only
  generalize (s.dropItem.calLinkChange.abandonRepair.supersede).finishSwap.commitProfile (Profile.ofRung m false) = u at ends
  rw [shapeTraining_link]
  have link : u.link.lineRest = s.link.lineRest := congrArg State.link ends.rest
  refine ⟨rfl, rfl, ends.time, rfl, rfl, ?_⟩
  exact (congrArg (fun l : Link => { l with state := 0, since := 0 }) link :)

theorem beginTraining_begins (s : State) (r : Rung) (slave : Bool) : (s.beginTraining r slave).link.state = (if r < 2 then 3 else 10) ∧
    (s.beginTraining r slave).link.mode = some r ∧ (s.beginTraining r slave).link.role = slave ∧
    (s.beginTraining r slave).link.partnerKind = s.link.partnerKind ∧ (s.beginTraining r slave).link.lastPartner = some s.link.neg.identity := by
  unfold State.beginTraining
  dsimp only
  generalize made : s.modLink _ = u
  obtain ⟨state, mode, -, -, -, rest⟩ := startTraining_link u r (if decide (r < 2) = true then 3 else 10)
  refine ⟨?_, mode, ?_, ?_, ?_⟩
  · rw [state]
    exact if_congr (by simp) rfl rfl
  · refine (congrArg Link.role rest).trans ?_
    rw [← made]
    rfl
  · refine (congrArg Link.partnerKind rest).trans ?_
    rw [← made]
    rfl
  · refine (congrArg Link.lastPartner rest).trans ?_
    rw [← made]
    rfl

/-! ### O47: the negotiation -/

/-- A negotiation begun, or that may not begin, leaves the link but its settings, ladder and negotiation (R157, R177). -/
theorem beginNegotiation_keeps (s : State) : s.beginNegotiation.link.state = s.link.state ∧ s.beginNegotiation.link.noPartner = s.link.noPartner ∧
    s.beginNegotiation.link.mode = s.link.mode ∧ s.beginNegotiation.link.trainLast = s.link.trainLast ∧
    s.beginNegotiation.link.lastPartner = s.link.lastPartner ∧ s.beginNegotiation.link.partner = s.link.partner := by
  by_cases may : s.mayNegotiate = true
  · obtain ⟨pos, fails, due, step, reset⟩ := dueReset_eq s
    rw [beginNegotiation_eq may, State.endRun_link]
    unfold State.negotiated State.settled
    rw [reset]
    exact ⟨rfl, rfl, rfl, rfl, rfl, rfl⟩
  · have stays : s.beginNegotiation = s := if_pos (by simpa using may)
    rw [stays]
    exact ⟨rfl, rfl, rfl, rfl, rfl, rfl⟩

theorem beginNegotiation_ladder {s : State} (top : s.link.ladderPos = s.ladderTop) (fails : s.link.failCount = 0) :
    s.beginNegotiation.link.ladderPos = s.ladderTop ∧ s.beginNegotiation.link.failCount = 0 := by
  by_cases may : s.mayNegotiate = true
  · rw [beginNegotiation_eq may, State.endRun_link]
    exact dueReset_top top fails
  · have stays : s.beginNegotiation = s := if_pos (by simpa using may)
    rw [stays]
    exact ⟨top, fails⟩

/-- The kind of the partner (R187). -/
def Negotiation.kind (n : Negotiation) : Nat := if n.native.isSome then 2 else if n.t40.isSome then 3 else 1

/-- The top of the ladder hangs on the settings alone (R177). -/
theorem ladderTop_modLink (s : State) {f : Link → Link} (ctl : (f s.link).ctl = s.link.ctl) : (s.modLink f).ladderTop = s.ladderTop := by
  have same : (s.modLink f).advertisable = s.advertisable := funext fun r => by
    unfold State.advertisable
    rw [show (s.modLink f).link.ctl = s.link.ctl from ctl]
    rfl
  unfold State.ladderTop
  rw [same]
  rfl

/-- The ladder reset for another partner than that of the last link (R179). -/
def State.anotherPartner (s : State) : State := (s.modLink (fun l => { l with lastPartner := some s.link.neg.identity })).ladderReset.startNegotiation

theorem anotherPartner_link (s : State) : s.anotherPartner.link = { s.link with
    lastPartner := some s.link.neg.identity, ladderPos := s.ladderTop, failCount := 0, resetDue := false
    state := 1, since := s.time, neg := {}, noPartner := false, mode := none } ∧ s.anotherPartner.ladderTop = s.ladderTop := by
  have known := ladderTop_modLink s (f := fun l => { l with lastPartner := some s.link.neg.identity }) rfl
  have top : s.anotherPartner.ladderTop = s.ladderTop := by
    unfold State.anotherPartner State.startNegotiation State.enter State.ladderReset
    exact (ladderTop_modLink _ (by rfl)).trans ((ladderTop_modLink _ (by rfl)).trans ((ladderTop_modLink _ (by rfl)).trans known))
  refine ⟨?_, top⟩
  unfold State.anotherPartner State.ladderReset
  rw [known]
  generalize s.ladderTop = n
  rfl

section
variable {s : State} {farMs : Nat} {auto : Option Bool} (one : s.link.state = 1) (begun : s.link.neg.begun = true) (page : s.link.neg.basePage.isSome = true)
include one begun page

/-- Another partner found with the ladder stepped down: the negotiation begins again (R179). -/
theorem resolve_again (changed : s.partnerChanged = true) (lower : s.link.ladderPos ≠ s.ladderTop) :
    ∃ t : State, exec (.negotiationResolve farMs auto) s = .next t ∧ t.link.state = 1 ∧ t.link.ladderPos = s.ladderTop ∧ t.link.failCount = 0 ∧
      t.link.lastPartner = some s.link.neg.identity ∧ t.link.partner = s.link.partner := by
  have runs : exec (.negotiationResolve farMs auto) s = .next s.anotherPartner.beginNegotiation :=
    congrArg Host.Outcome.next ((if_neg (by simp [one, begun, page])).trans (if_pos (by simp [changed, lower])))
  obtain ⟨link, top⟩ := anotherPartner_link s
  obtain ⟨state, -, -, -, last, partner⟩ := beginNegotiation_keeps s.anotherPartner
  obtain ⟨ladder, fails⟩ := beginNegotiation_ladder (s := s.anotherPartner) (by rw [top, link]) (by rw [link])
  refine ⟨_, runs, ?_⟩
  rw [state, ladder, top, fails, last, partner, link]
  exact ⟨rfl, rfl, rfl, rfl, rfl⟩

/-- The state with the partner on record. -/
def State.partnerKnown (s : State) (common : Option Rung) : State :=
  (s.recordPartner common).modLink (fun l => { l with failCount := if s.partnerChanged then 0 else l.failCount })

/-- The role that the manual configurations and the seeds give at a rung (R161). -/
def State.roleAt (s : State) (farMs : Nat) (auto : Option Bool) (r : Rung) : Bool ⊕ Bool :=
  if r < 2 then nativeRole s.link.used.msMode s.link.neg.seed.toNat (bitsAt (s.link.neg.native.getD (0, 0, 0)).2.1 5 2) (s.link.neg.native.getD (0, 0, 0)).2.2
  else stdRole s.link.used.msMode farMs auto

section
variable (same : s.partnerChanged = true → s.link.ladderPos = s.ladderTop)
include same

omit one begun page in
theorem resolve_stays : ¬ (s.partnerChanged && decide (s.link.ladderPos ≠ s.ladderTop)) = true := by
  intro both
  simp only [Bool.and_eq_true, decide_eq_true_eq] at both
  exact both.2 (same both.1)

theorem exec_negotiationResolve_none (absent : (List.range 8).find? (fun r => bitAt s.link.neg.farRungs r && bitAt s.link.neg.rungs r) = none) :
    exec (.negotiationResolve farMs auto) s = .next ((s.partnerKnown none).linkFail 5) := by
  refine congrArg Host.Outcome.next ((if_neg (by simp [one, begun, page])).trans ((if_neg (resolve_stays same)).trans ?_))
  rw [absent]
  rfl

theorem exec_negotiationResolve_some {r : Rung} (found : (List.range 8).find? (fun r => bitAt s.link.neg.farRungs r && bitAt s.link.neg.rungs r) = some r) :
    exec (.negotiationResolve farMs auto) s = .next ((s.partnerKnown (some r)).takeRole r (s.roleAt farMs auto r)) := by
  refine congrArg Host.Outcome.next ((if_neg (by simp [one, begun, page])).trans ((if_neg (resolve_stays same)).trans ?_))
  rw [found]
  rfl

end

end

theorem partnerKnown_link (s : State) (common : Option Rung) : (s.partnerKnown common).link.state = s.link.state ∧ (s.partnerKnown common).link.neg = s.link.neg ∧
    (s.partnerKnown common).link.partnerKind = s.link.neg.kind := ⟨rfl, rfl, rfl⟩

/-- A negotiation that comes to no mode ends in the break (R160, R161, R173). -/
theorem negotiationFails {s : State} (one : s.link.state = 1) {cause : Nat} (fault : cause = 4 ∨ cause = 5) (retrain : Status) (silent : Bool) :
    (s.linkFail cause retrain silent).link.state = 2 ∧ (s.linkFail cause retrain silent).link.trainLast.cause = cause ∧
      (s.linkFail cause retrain silent).link.trainLast.counted = false ∧ (s.linkFail cause retrain silent).link.partnerKind = s.link.partnerKind := by
  obtain ⟨f, c, p, d, k, n, link, -⟩ := linkFail_link s (cause := cause) (retrain := retrain) (silent := silent) (.inr ⟨one, fault⟩)
  have uncounted : s.causeCounts cause = false := by rcases fault with rfl | rfl <;> rfl
  rw [link]
  exact ⟨rfl, rfl, uncounted, rfl⟩

/-- Settles O47. -/
theorem negotiationFindsTheRung : Obligations.NegotiationFindsTheRung := by
  refine ⟨fun s up may => ?_, fun s one begun => ⟨fun p => ?_, fun oui u1 u2 u3 => ?_, fun quiet => ?_, fun farMs auto page => ⟨fun changed lower =>
    resolve_again one begun page changed lower, fun same => ⟨fun none => ?_, fun r some => ⟨fun slave role => ?_, fun equal role => ?_⟩⟩⟩⟩,
    fun s silent low => congrArg Host.Outcome.next (if_pos (by simp [silent, low])), fun s broken up => ?_, fun s p => ⟨?_, fun unexpected => ?_, fun expected active => ?_⟩⟩
  · have runs : exec .negotiationStart s = .next (s.negotiated.endRun 0x48 (fun _ => true) .ok []) :=
      congrArg Host.Outcome.next ((if_pos up).trans (beginNegotiation_eq may))
    obtain ⟨pos, fails, due, step, reset⟩ := dueReset_eq s
    refine ⟨_, runs, ?_⟩
    rw [State.endRun_link]
    refine ⟨rfl, rfl, rfl, rfl, ?_, rfl, fun none => ?_⟩
    · unfold State.negotiated State.settled
      rw [reset]
      rfl
    · have absent : s.negotiated.findRun 0x48 (fun _ => true) = .none := by
        unfold State.negotiated State.settled
        rw [reset]
        exact none
      rw [State.endRun, absent]
      rfl
  · refine ⟨_, congrArg Host.Outcome.next (if_neg (by simp [one, begun])), rfl, rfl, ?_, rfl, rfl, rfl, rfl⟩
    rfl
  · have open1 : ¬ (!(decide (s.link.state = 1) && s.link.neg.begun)) = true := by simp [one, begun]
    by_cases own : oui = 0x2A7D19
    · by_cases ability : u1 % 2048 = 0x5A7 ∧ 1 ≤ u2 / 2 ^ 7 % 2 ^ 4
      · refine ⟨_, congrArg Host.Outcome.next ((if_neg open1).trans ((if_neg (by simp [own])).trans (if_pos (by rw [decide_eq_true ability.1]; exact decide_eq_true ability.2)))), rfl,
          fun other => absurd own other, fun _ _ _ => rfl, fun _ legacy => ?_, fun _ _ => fun short => ?_⟩
        · exact absurd (ability.1.symm.trans legacy) (by decide)
        · have zero := short ability.1
          omega
      · have stays : ¬ (decide (u1 % 2048 = 0x5A7) && decide (1 ≤ bitsAt u2 7 4)) = true := fun both =>
          ability ⟨of_decide_eq_true (Bool.and_eq_true_iff.mp both).1, of_decide_eq_true (Bool.and_eq_true_iff.mp both).2⟩
        by_cases legacy : u1 % 2048 = 0x2E1
        · exact ⟨_, congrArg Host.Outcome.next ((if_neg open1).trans ((if_neg (by simp [own])).trans ((if_neg stays).trans (if_pos legacy)))), rfl,
            fun other => absurd own other, fun _ same new => absurd ⟨same, new⟩ ability, fun _ _ => rfl, fun _ other => absurd legacy other⟩
        · exact ⟨_, congrArg Host.Outcome.next ((if_neg open1).trans ((if_neg (by simp [own])).trans ((if_neg stays).trans (if_neg legacy)))), rfl,
            fun other => absurd own other, fun _ same new => absurd ⟨same, new⟩ ability, fun _ same => absurd same legacy, fun _ _ _ => rfl⟩
    · exact ⟨_, congrArg Host.Outcome.next ((if_neg open1).trans (if_pos own)), rfl, fun _ => rfl, fun same => absurd same own, fun same => absurd same own,
        fun same => absurd same own⟩
  · exact congrArg Host.Outcome.next (if_pos (by simp [one, begun, quiet]))
  · have runs := exec_negotiationResolve_none (farMs := farMs) (auto := auto) one begun page same none
    obtain ⟨state, neg, kind⟩ := partnerKnown_link s .none
    obtain ⟨two, cause, -, partner⟩ := negotiationFails (s := s.partnerKnown .none) (state.trans one) (.inr rfl) .notReady false
    exact ⟨_, runs, two, cause, partner.trans kind⟩
  · have runs := exec_negotiationResolve_some (farMs := farMs) (auto := auto) one begun page same some
    obtain ⟨state, neg, kind⟩ := partnerKnown_link s (.some r)
    obtain ⟨trains, mode, timing, partner, last⟩ := beginTraining_begins (s.partnerKnown (.some r)) r slave
    refine ⟨_, runs.trans (congrArg (fun x => Host.Outcome.next ((s.partnerKnown (.some r)).takeRole r x)) role), trains, mode, timing, partner.trans kind, ?_⟩
    rw [← neg]
    exact last
  · have runs := exec_negotiationResolve_some (farMs := farMs) (auto := auto) one begun page same some
    obtain ⟨state, -, -⟩ := partnerKnown_link s (.some r)
    obtain ⟨two, cause, counted, -⟩ := negotiationFails (s := s.partnerKnown (.some r)) (state.trans one) (.inl rfl) .notReady equal
    exact ⟨_, runs.trans (congrArg (fun x => Host.Outcome.next ((s.partnerKnown (.some r)).takeRole r x)) role), two, cause, counted⟩
  · obtain ⟨state, partner, mode, last, -, -⟩ := beginNegotiation_keeps s.startNegotiation
    refine ⟨_, congrArg Host.Outcome.next (if_pos (by simp [broken, up])), ?_⟩
    rw [state, partner, mode, last]
    exact ⟨rfl, rfl, rfl, rfl⟩
  · by_cases down : s.link.state = 0
    · exact ⟨_, congrArg Host.Outcome.next (if_pos down), rfl, fun _ up => absurd down up, rfl⟩
    · refine ⟨_, congrArg Host.Outcome.next (if_neg down), leaveDormant_link _, fun asleep _ => ?_, ?_⟩
      · exact congrArg State.pwr (if_pos asleep)
      · rw [leaveDormant_eq]
        rfl
  · exact ⟨_, congrArg Host.Outcome.next (if_neg (by rw [unexpected]; decide)), rfl, rfl⟩
  · have data : 3 ≤ s.link.state := by
      simp [State.expectsEnergy, State.linkInData] at expected
      omega
    refine ⟨_, congrArg Host.Outcome.next ((if_pos (by rw [expected, active]; rfl)).trans (if_pos data)), ?_⟩
    generalize made : s.modLink _ = u
    have up : 3 ≤ u.link.state := by rw [← made]; exact data
    obtain ⟨f, c, q, d, k, n, link, -⟩ := linkFail_link u (cause := 2) (retrain := .notReady) (silent := false) (.inl up)
    rw [link, ← made]
    exact ⟨rfl, rfl, rfl⟩

end Sys2Proof.Machine
end

section
/-! PROOFS. O48: training. -/

namespace Sys2Proof.Machine

set_option Elab.async false

/-! ### The parts of a training period -/

section
variable (s : State)

/-- What InfoField slices change: the line unit, but neither the receive direction's start nor its sequence. -/
def SliceStep (s t : State) : Prop := t = { s with lc := t.lc } ∧ t.lc.run.rxOn = s.lc.run.rxOn

theorem SliceStep.trans {s t u : State} (a : SliceStep s t) (b : SliceStep t u) : SliceStep s u := by
  obtain ⟨first, on⟩ := a
  obtain ⟨second, on'⟩ := b
  refine ⟨?_, on'.trans on⟩
  rw [first] at second
  exact second

theorem dropPartial_slice : SliceStep s s.dropPartial := by
  unfold State.dropPartial
  split
  · exact ⟨rfl, rfl⟩
  · exact ⟨rfl, rfl⟩

theorem messageIn_slice (kn : Bool) (l : List (Option Nat)) (seq : Nat) : SliceStep s (s.messageIn kn l seq) := by
  unfold State.messageIn
  split
  · split
    · exact ⟨rfl, rfl⟩
    · exact ⟨rfl, rfl⟩
  · exact ⟨rfl, rfl⟩

/-- A slice of an InfoField message is the line unit's own matter (R77). -/
theorem sliceIn_slice (kn : Bool) (seq : Nat) (info : Option Nat) : SliceStep s (s.sliceIn kn seq info) := by
  unfold State.sliceIn
  split
  · exact ⟨rfl, rfl⟩
  · next i _ =>
    have first : SliceStep s (if s.lc.run.ifIn.any (fun l => l.length ≠ i) then s.dropPartial else s) := by
      split
      · exact dropPartial_slice s
      · exact ⟨rfl, rfl⟩
    dsimp only
    generalize (if s.lc.run.ifIn.any (fun l => l.length ≠ i) then s.dropPartial else s) = u at first
    refine first.trans ?_
    split
    · exact ⟨rfl, rfl⟩
    · split
      · exact ⟨rfl, rfl⟩
      · exact (show SliceStep u (u.modRun (fun r => { r with ifIn := none })) from ⟨rfl, rfl⟩).trans (messageIn_slice _ _ _ _)

/-- A new start of the receive direction leaves the link (R72). -/
theorem freshRx_starts : s.freshRx.link = s.link ∧ s.freshRx.lc.run.rxOn = true ∧ s.freshRx.lc.run.rxSeq = 0 := by
  have item : ∀ u : State, u.dropItem.link = u.link := fun u => by
    unfold State.dropItem
    split
    · rfl
    · dsimp only
      repeat' split
      all_goals rfl
  refine ⟨?_, rfl, rfl⟩
  refine (item s.dropPartial).trans ?_
  rw [(dropPartial_slice s).1]

/-- The exit condition leaves what a training expects of the partner (R167). -/
theorem exitMet_keeps (m : TrainMeas) : (s.exitMet m).1 = { s.link.train with good := (s.exitMet m).1.good } := by
  unfold State.exitMet
  split <;> rfl

end

/-! ### O48: training words -/

section
variable {s : State} {w : BitVec 64} {m : TrainMeas} (low : 4 ≤ s.link.state) (high : s.link.state ≤ 7) (closed : s.lc.run.rxOn = false)
include low high

theorem phase_training : s.phase = s.link.state - 3 := by
  unfold State.phase
  rw [if_neg (by omega), if_pos (by simp [low, high])]

/-- The training with the exit condition judged. -/
def State.judged (s : State) (m : TrainMeas) : State := s.modTrain (fun _ => { (s.exitMet m).1 with ready := (s.exitMet m).1.ready || (s.exitMet m).2 })

/-- A word fits the count that is expected (R165). -/
def State.wordFits (s : State) (w : BitVec 64) : Bool := match s.link.train.expect with | some e => bitsAt w.toNat 48 8 = e | none => true

include closed in
theorem exec_trainingWord : exec (.trainingWord w m) s =
    .next (if trainingWordOk w && s.wordFits w then (s.judged m).wordIn w.toNat else (s.judged m).wordBad) := by
  have notData : (decide (s.link.state = 8) || decide (s.link.state = 9)) = false := by simp; omega
  have native : s.nativeData = false := by
    simp [State.nativeData]
    omega
  have phase := phase_training low high
  refine congrArg Host.Outcome.next ((if_neg ?_).trans ((if_neg ?_).trans ((if_neg ?_).trans rfl)))
  · rw [notData]
    simp
  · rw [native]
    simp
  · have some : s.phase ≠ 0 := by omega
    simp [closed, some]

theorem wordIn_trains (v : Nat) : ((s.judged m).wordIn v).link.train.expect = some ((bitsAt v 48 8 + 1) % 256) ∧ ((s.judged m).wordIn v).link.state = s.link.state ∧
    ((s.judged m).wordIn v).link.train.ready = (s.link.train.ready || (s.exitMet m).2) ∧
    ((s.judged m).wordIn v).link.train.farReady = (if bitsAt v 60 4 = s.link.state - 3 ∧ bitAt v 59 = true then s.link.train.farReady + 1 else 0) ∧
    (bitsAt v 60 4 = 4 → bitsAt v 23 4 = 1 → ((s.judged m).wordIn v).lc.run.rxOn = true ∧ ((s.judged m).wordIn v).lc.run.rxSeq = 0) := by
  have exits := exitMet_keeps s m
  have phase : (s.judged m).phase = s.link.state - 3 := phase_training low high
  unfold State.wordIn
  rw [phase]
  dsimp only
  generalize made : (s.judged m).modTrain _ = u
  have expect : u.link.train.expect = some ((bitsAt v 48 8 + 1) % 256) := by rw [← made]; rfl
  have state : u.link.state = s.link.state := by rw [← made]; rfl
  have ready : u.link.train.ready = (s.link.train.ready || (s.exitMet m).2) := by
    rw [← made]
    exact (congrArg (fun t : Train => t.ready || (s.exitMet m).2) exits :)
  have far : u.link.train.farReady = (if bitsAt v 60 4 = s.link.state - 3 ∧ bitAt v 59 = true then s.link.train.farReady + 1 else 0) := by
    have held : (s.exitMet m).1.farReady = s.link.train.farReady := (congrArg Train.farReady exits :)
    rw [← made, ← held]
    exact if_congr (by simp) rfl rfl
  obtain ⟨x, sliced, link⟩ : ∃ x : State, x = (if 2 ≤ bitsAt v 60 4 then u.sliceIn false (bitsAt v 48 8) (some (bitsAt v 27 21)) else u) ∧ x.link = u.link := by
    refine ⟨_, rfl, ?_⟩
    split
    · rw [(sliceIn_slice u _ _ _).1]
    · rfl
  rw [← sliced]
  obtain ⟨fresh, on, zero⟩ := freshRx_starts x
  by_cases start : bitsAt v 60 4 = 4 ∧ bitsAt v 23 4 = 1
  · rw [if_pos (by simpa using start), fresh, link]
    exact ⟨expect, state, ready, far, fun _ _ => ⟨on, zero⟩⟩
  · rw [if_neg (by simpa using start), link]
    exact ⟨expect, state, ready, far, fun four one => absurd ⟨four, one⟩ start⟩

omit low high in
theorem wordBad_trains : (s.judged m).wordBad.link.train.expect = none ∧ (s.judged m).wordBad.link.train.farReady = 0 ∧ (s.judged m).wordBad.link.state = s.link.state ∧
    (s.judged m).wordBad.link.train.ready = (s.link.train.ready || (s.exitMet m).2) ∧ (s.judged m).wordBad.lc.run.rxOn = s.lc.run.rxOn := by
  have exits := exitMet_keeps s m
  obtain ⟨x, sliced, same, on⟩ : ∃ x : State, (s.judged m).wordBad = x.modTrain (fun t => { t with expect := none, farReady := 0 }) ∧ SliceStep (s.judged m) x := by
    refine ⟨_, rfl, ?_⟩
    split
    · split
      · exact sliceIn_slice _ _ _ _
      · exact ⟨rfl, rfl⟩
    · exact dropPartial_slice _
  rw [sliced, same]
  exact ⟨rfl, rfl, rfl, (congrArg (fun t : Train => t.ready || (s.exitMet m).2) exits :), on⟩

end

/-! ### O48: phases -/

/-- A snapshot writes the pairs and the cable's estimate (R110, R266). -/
theorem takeSnapshot_eq (s : State) : ∃ pair est, s.takeSnapshot = { s with rx := { s.rx with pair := pair }, mon := { s.mon with est := est } } := by
  unfold State.takeSnapshot
  generalize s.activePairs = l
  induction l generalizing s with
  | nil => exact ⟨_, _, rfl⟩
  | cons p l ih =>
    obtain ⟨pair, est, rest⟩ := ih (s.snapshotPair p)
    exact ⟨pair, est, rest⟩

/-- A training that has reached data: the link is up, its transmit direction at SEQ 0 (R169, R172). -/
theorem enterData_enters (s : State) : s.enterData.link.state = 8 ∧ s.enterData.link.upSince = s.time ∧ s.enterData.link.cnt.linkUps = inc 32 s.link.cnt.linkUps ∧
    s.enterData.link.confirmed = false ∧ s.enterData.lc = s.lc ∧ s.enterData.rx = s.rx ∧ s.enterData.fp.event.getLsbD evLink = true := by
  unfold State.enterData
  dsimp only
  generalize made : ({ (State.modLink _ _) with mon := _ } : State) = u
  have flag : (u.raiseEvent evLink).fp.event.getLsbD evLink = true := raiseEvent_flag rfl (by decide)
  rw [State.raiseEvent_eq, ← made]
  rw [State.raiseEvent_eq, ← made] at flag
  exact ⟨rfl, rfl, rfl, rfl, rfl, rfl, flag⟩

theorem coefQueue_length (s : State) : s.coefQueue.length = 66 := by
  simp [State.coefQueue, pairs]

/-- T4 ends in data (R169). -/
theorem reachData_reaches (s : State) (e : PhaseEnd) : (s.reachData e).link.state = 8 ∧ (s.reachData e).link.upSince = s.time ∧
    (s.reachData e).link.cnt.linkUps = inc 32 s.link.cnt.linkUps ∧ (s.reachData e).lc.run.txSeq = 0 ∧ (s.reachData e).link.confirmed = false ∧
    (s.reachData e).rx.freqOfs = clampInt (-250000) 250000 e.freq ∧ (s.reachData e).rx.afcRun = false ∧ (s.reachData e).fp.event.getLsbD evLink = true := by
  unfold State.reachData
  dsimp only
  generalize made : ({ s.nextPhase with rx := _ } : State) = u
  obtain ⟨pair, est, snapshot⟩ := takeSnapshot_eq u
  rw [snapshot]
  generalize kept : State.modLink _ _ = v
  obtain ⟨state, since, ups, confirmed, lc, rx, flag⟩ := enterData_enters v
  rw [state, since, ups, confirmed, lc, rx]
  rw [← kept, ← made] at *
  exact ⟨rfl, rfl, rfl, rfl, rfl, rfl, rfl, flag⟩

section
variable {s : State} {e : PhaseEnd}

theorem ite_not_bool {α : Type} (g : Bool) (a b : α) : (if !g then a else b) = if g = true then b else a := by
  cases g <;> rfl

/-- T0 ends below the background limit (R166, R167). -/
theorem exec_phaseChange_first (first : s.link.state = 3) : exec (.phaseChange e) s = .next (
    if !backgroundOk s.link.mode e.background then s.modTrain (fun t => { t with noise := true })
    else if s.link.role && !e.heard then s
    else
      let s1 := s.nextPhase.modTrain (fun t => { t with tseq := 0, pos := 0, expect := none })
      { s1 with rx := { s1.rx with gainRun := true, pair := s1.rx.pair.map (·.gainStart) } }) := by
  refine congrArg Host.Outcome.next ?_
  rw [first]
  rfl

theorem exec_phaseChange_second (second : s.link.state = 4) : exec (.phaseChange e) s = .next (
    if (if s.link.role then decide (3 ≤ s.link.train.farTwo) else s.link.train.turnReady && s.link.train.pos % 4128 = 2048) = true
    then { s.nextPhase with rx := { s.nextPhase.rx with afcRun := true } } else s) := by
  refine congrArg Host.Outcome.next ?_
  rw [second]
  exact ite_not_bool _ _ _

/-- The map of the pairs is latched at the end of T2 (R168). -/
def State.mapped (s : State) (e : PhaseEnd) : State :=
  let s1 := s.nextPhase
  let s2 : State := { s1 with rx := { s1.rx with
    gainRun := false
    offset := e.offset
    pair := s1.rx.pair.mapIdx (fun p x => { x with peak := some (s1.strengthNow p), gain := 0 }) } }
  ((s2.modLink (fun l => { l with map := { far := e.far, inv := e.inv, delay := e.delay } })).modRun (fun r => { r with ifQueue := s2.coefQueue })).drawn

omit e in
theorem mapped_maps (third : s.link.state = 5) (e : PhaseEnd) : (s.mapped e).link.state = 6 ∧ (s.mapped e).link.map = { far := e.far, inv := e.inv, delay := e.delay } ∧
    (s.mapped e).rx.gainRun = false ∧ (s.mapped e).rx.offset = e.offset ∧ (s.mapped e).lc.run.ifQueue.length = 66 ∧ (s.mapped e).draws = s.draws + 1 := by
  unfold State.mapped
  exact ⟨congrArg (· + 1) third, rfl, rfl, rfl, coefQueue_length _, rfl⟩

theorem exec_phaseChange_third (third : s.link.state = 5) : exec (.phaseChange e) s = .next (if (s.link.train.cd = 1 && mapOk e) = true then s.mapped e else s) := by
  refine congrArg Host.Outcome.next ?_
  rw [third]
  exact ite_not_bool _ _ _

end

/-- An expired phase timer fails the link with its cause (R173). -/
theorem phaseTimer_fails {s : State} {seen : BitVec 4} (low : 3 ≤ s.link.state) (high : s.link.state ≤ 7) : ∃ t : State, exec (.phaseTimer seen) s = .next t ∧
    t.link.state = 2 ∧ t.link.mode = none ∧ t.link.trainLast.phase = s.link.state ∧
    t.link.trainLast.cause = (if s.link.state = 3 then (if s.link.train.noise then 3 else 2) else if s.energyAll seen then 1 else 2) := by
  have runs : exec (.phaseTimer seen) s = .next (s.linkFail (if s.link.state = 3 then (if s.link.train.noise then 3 else 2) else if s.energyAll seen then 1 else 2)) := by
    refine congrArg Host.Outcome.next ?_
    have cases : s.link.state = 3 ∨ s.link.state = 4 ∨ s.link.state = 5 ∨ s.link.state = 6 ∨ s.link.state = 7 := by omega
    rcases cases with at' | at' | at' | at' | at' <;> rw [at'] <;> rfl
  obtain ⟨state, mode, last⟩ := linkFail_down (s := s) (retrain := .notReady) (silent := false)
    (cause := if s.link.state = 3 then (if s.link.train.noise then 3 else 2) else if s.energyAll seen then 1 else 2) low
  exact ⟨_, runs, state, mode, by rw [last]; rfl, by rw [last]; rfl⟩

/-- The headers of the partner lost take a link in data down (R177). -/
theorem hdrLoss_falls {s : State} (native : s.nativeData = true) (on : s.lc.run.rxOn = true) (awake : s.ql.run.rxState = 0) (bad : s.lc.run.badRun ≠ 0) :
    ∃ t : State, exec .hdrLoss s = .next t ∧ t.link.state = 2 ∧ t.link.trainLast.cause = 6 ∧ t.link.cnt.linkDowns = inc 32 s.link.cnt.linkDowns := by
  have up : 3 ≤ s.link.state := by
    simp [State.nativeData] at native
    omega
  have inData : s.linkInData = true := by
    simp [State.nativeData] at native
    simp [State.linkInData, native.1]
  obtain ⟨state, -, last⟩ := linkFail_down (s := s) (cause := 6) (retrain := .notReady) (silent := false) up
  obtain ⟨downs, -⟩ := linkFail_counts (s := s) (cause := 6) (retrain := .notReady) (silent := false) up
  rw [if_pos inData] at downs
  exact ⟨_, congrArg Host.Outcome.next ((if_pos (by simp [native, on, awake, bad])).trans (if_pos up)), state, by rw [last]; rfl, downs⟩

/-- Settles O48. -/
theorem trainingReachesData : Obligations.TrainingReachesData := by
  refine ⟨fun s w m low high closed => ⟨fun good fits => ?_, fun bad => ?_⟩, fun s e => ⟨fun first loud => ?_, fun first quiet heard => ?_,
      fun second slave master => ?_, fun third count map => ?_, fun fourth count => ?_, fun fifth count => ?_⟩, fun s seen low high => ?_, fun s native on awake bad => ?_,
    fun s e seen trains => ⟨?_, ?_⟩, fun s seen data standard => ⟨?_, congrArg Host.Outcome.next (if_pos (by simp [data, standard]))⟩⟩
  · have fit : s.wordFits w = true := by
      unfold State.wordFits
      cases expect : s.link.train.expect with
      | none => rfl
      | some e => exact decide_eq_true (fits e expect)
    obtain ⟨expect, state, ready, far, starts⟩ := wordIn_trains (m := m) low high w.toNat
    exact ⟨_, (exec_trainingWord low high closed).trans (congrArg Host.Outcome.next (if_pos (by rw [good, fit]; rfl))), expect, state, ready, far, starts⟩
  · have unfit : ¬ (trainingWordOk w && s.wordFits w) = true := by
      rcases bad with bad | ⟨e, expect, other⟩
      · simp [bad]
      · simp [State.wordFits, expect, other]
    obtain ⟨expect, far, state, ready, on⟩ := wordBad_trains (s := s) (m := m)
    exact ⟨_, (exec_trainingWord low high closed).trans (congrArg Host.Outcome.next (if_neg unfit)), expect, far, state, ready, on.trans closed⟩
  · exact (exec_phaseChange_first first).trans (congrArg Host.Outcome.next (if_pos (by rw [loud]; rfl)))
  · have heeds : ¬ (s.link.role && !e.heard) = true := by
      intro silent
      simp only [Bool.and_eq_true, Bool.not_eq_true'] at silent
      exact absurd ((heard silent.1).symm.trans silent.2) (by decide)
    exact ⟨_, (exec_phaseChange_first first).trans (congrArg Host.Outcome.next ((if_neg (by rw [quiet]; decide)).trans (if_neg heeds))),
      congrArg (· + 1) first, rfl, rfl, rfl, rfl⟩
  · have goes : (if s.link.role then decide (3 ≤ s.link.train.farTwo) else s.link.train.turnReady && s.link.train.pos % 4128 = 2048) = true := by
      cases role : s.link.role with
      | true => simp [slave role]
      | false => simp [master role]
    exact ⟨_, (exec_phaseChange_second second).trans (congrArg Host.Outcome.next (if_pos goes)), congrArg (· + 1) second, rfl, rfl⟩
  · exact ⟨_, (exec_phaseChange_third third).trans (congrArg Host.Outcome.next (if_pos (by rw [count, map]; rfl))), mapped_maps third e⟩
  · refine ⟨s.nextPhase, congrArg Host.Outcome.next ?_, congrArg (· + 1) fourth, rfl⟩
    rw [fourth]
    exact if_pos count
  · refine ⟨_, congrArg Host.Outcome.next ?_, reachData_reaches s e⟩
    rw [fifth]
    exact if_pos count
  · exact phaseTimer_fails low high
  · exact hdrLoss_falls native on awake bad
  · refine ⟨_, congrArg Host.Outcome.next (if_neg (not_not.mpr trains)), ?_⟩
    dsimp only
    generalize made : State.modQl _ _ = u
    obtain ⟨state, since, ups, confirmed, -, rx, -⟩ := enterData_enters u
    rw [state, since, ups, confirmed, rx, ← made]
    exact ⟨rfl, rfl, rfl, rfl, rfl⟩
  · obtain ⟨state, -, last⟩ := linkFail_down (s := s) (cause := if s.energyAll seen then 0xB else 2) (retrain := .notReady) (silent := false) (by omega)
    exact ⟨_, congrArg Host.Outcome.next (if_pos trains), state, by rw [last]; rfl⟩
  · have up : 3 ≤ s.link.state := by
      simp [State.linkInData] at data
      omega
    have notTen : s.link.state ≠ 10 := by
      simp [State.linkInData] at data
      omega
    obtain ⟨state, -, last⟩ := linkFail_down (s := s) (cause := if s.energyAll seen then 0xC else 2) (retrain := .notReady) (silent := false) up
    exact ⟨_, congrArg Host.Outcome.next ((if_neg notTen).trans (if_pos (by rw [data, standard]; rfl))), state, by rw [last]; rfl⟩

end Sys2Proof.Machine
end

section
/-! PROOFS. O49: fast retrains. -/

namespace Sys2Proof.Machine

set_option Elab.async false

/-! ### O49: fast retrains -/

/-- A request of a fast retrain, or one that stands already (R180). -/
theorem askRetrain_wants (s : State) : s.askRetrain.link.frt.want = true ∧ s.askRetrain.link.state = s.link.state ∧
    (s.link.frt.want = false → s.askRetrain.link.frt.since = s.time) ∧ (s.link.frt.want = true → s.askRetrain = s) := by
  unfold State.askRetrain
  by_cases want : s.link.frt.want = true
  · rw [if_pos want]
    exact ⟨want, rfl, fun none => absurd (want.symm.trans none) (by decide), fun _ => rfl⟩
  · rw [if_neg want]
    obtain ⟨-, -, link, -, -⟩ := wakeCause_keeps (State.setStatus { s with link := { s.link with frt := { s.link.frt with want := true, since := s.time } } } 5 1) 3
    rw [link]
    exact ⟨rfl, rfl, fun _ => rfl, fun same => absurd same want⟩

/-- The state at the start of a fast retrain (R181). -/
def State.retraining (s : State) : State :=
  let s1 := (s.enter 9).modLink (fun l => { l with
    train := {}, frt := { l.frt with started := some s.time }, cnt := { l.cnt with fastRetrains := inc 32 l.cnt.fastRetrains } })
  (s1.recallStream.modRun (fun r => { r with ifNow := none, ifOut := r.ifOut.map (fun o => { o with due := true }) })).modEng (fun g => { g with marked := [] })

theorem recallStream_eq (s : State) : ∃ oam, s.recallStream = { s with
    kw := { s.kw with txBuf := s.lc.run.leaving.filterMap (·.frame) ++ s.kw.txBuf }, lc := { s.lc with run := { s.lc.run with stream := [], leaving := [], oam := oam } } } :=
  ⟨_, rfl⟩

theorem retraining_starts (s : State) : s.retraining.link.state = 9 ∧ s.retraining.link.frt.started = some s.time ∧
    s.retraining.link.cnt.fastRetrains = inc 32 s.link.cnt.fastRetrains ∧ s.retraining.eng.marked = [] ∧ s.retraining.lc.run.stream = [] ∧ s.retraining.lc.run.leaving = [] ∧
    s.retraining.kw.txBuf = s.lc.run.leaving.filterMap (·.frame) ++ s.kw.txBuf ∧ s.retraining.flows = s.flows := by
  unfold State.retraining
  dsimp only
  generalize made : State.modLink _ _ = u
  obtain ⟨oam, recalled⟩ := recallStream_eq u
  have link : u.link.state = 9 ∧ u.link.frt.started = some s.time ∧ u.link.cnt.fastRetrains = inc 32 s.link.cnt.fastRetrains := by
    rw [← made]
    exact ⟨rfl, rfl, rfl⟩
  obtain ⟨run, kw, flows⟩ : u.lc.run = s.lc.run ∧ u.kw = s.kw ∧ u.flows = s.flows := by
    rw [← made]
    exact ⟨rfl, rfl, rfl⟩
  obtain ⟨state, started, count⟩ := link
  rw [recalled, run, kw]
  exact ⟨state, started, count, rfl, rfl, rfl, rfl, flows⟩

/-- The state in which the end of a fast retrain finds data again: a new period 0 (R181). -/
def State.resumed (s : State) : State :=
  let s1 := s.modLink (fun l => { l with
    state := 8, since := s.time, frtTime := match s.link.frt.started with | some t => min 65535 ((s.time - t) / 10000) | none => 0, frt := {} })
  let s2 := if s.nativeMode then s1.takeSnapshot.freshTx.modRun (fun r => { r with mseq := 0, ifOut := none, ifAcks := [], ifLast := none }) else s1
  { s2 with rx := { s2.rx with pending := false, dgCount := 0 } }

theorem resumed_resumes (s : State) : s.resumed.link.state = 8 ∧ s.resumed.link.frt = {} ∧ s.resumed.rx.pending = false ∧ s.resumed.link.cnt = s.link.cnt ∧
    s.resumed.cyo = s.cyo ∧ (s.nativeMode = true → s.resumed.lc.run.txSeq = 0 ∧ s.resumed.lc.run.mseq = 0) := by
  unfold State.resumed
  dsimp only
  by_cases native : s.nativeMode = true
  · rw [if_pos native]
    generalize made : s.modLink _ = u
    obtain ⟨pair, est, snapshot⟩ := takeSnapshot_eq u
    rw [snapshot, ← made]
    exact ⟨rfl, rfl, rfl, rfl, rfl, fun _ => ⟨rfl, rfl⟩⟩
  · rw [if_neg native]
    exact ⟨rfl, rfl, rfl, rfl, rfl, fun same => absurd same native⟩

/-- Settles O49. -/
theorem nativeLinksRetrainFast : Obligations.NativeLinksRetrainFast := by
  refine ⟨fun s data native => ⟨⟨_, congrArg Host.Outcome.next (if_pos (by rw [data, native]; rfl)), rfl, rfl⟩, fun ra far =>
      congrArg Host.Outcome.next (if_pos (by simp [data, native, ra, far]))⟩,
    fun s native => ⟨fun possible => ⟨fun fault => ?_, fun asked => ?_⟩, fun impossible fault => ?_, fun ready => ?_⟩,
    fun s eight standard ok en => ?_, fun s nine count => ?_, fun s native retrains => ?_⟩
  · obtain ⟨want, state, -, -⟩ := askRetrain_wants s
    exact ⟨_, congrArg Host.Outcome.next ((if_pos (by simp [native, fault])).trans (if_pos possible)), want, state⟩
  · exact ⟨_, congrArg Host.Outcome.next (if_pos (by simp [possible, asked])), askRetrain_wants s⟩
  · have up : 3 ≤ s.link.state := by
      simp [State.nativeData] at native
      omega
    obtain ⟨state, -, last⟩ := linkFail_down (s := s) (cause := 7) (retrain := .notReady) (silent := false) up
    exact ⟨_, congrArg Host.Outcome.next ((if_pos (by simp [native, fault])).trans ((if_neg (by rw [impossible]; decide)).trans (if_pos up))), state, by rw [last]; rfl⟩
  · refine ⟨s.retraining, congrArg Host.Outcome.next (if_pos (by simp [native, ready])), ?_⟩
    exact retraining_starts s
  · refine ⟨s.retraining, congrArg Host.Outcome.next (if_pos (by simp [eight, standard, ok, en])), ?_⟩
    obtain ⟨state, started, count, -⟩ := retraining_starts s
    exact ⟨state, started, count⟩
  · have runs : exec .fastRetrainEnd s = .next (s.resumed.endRun 0x4A (fun _ => true) .ok []) := by
      refine congrArg Host.Outcome.next (if_neg ?_)
      cases native : s.nativeMode with
      | true => simp [nine, count native]
      | false => simp [nine]
    obtain ⟨state, frt, pending, cnt, cyo, fresh⟩ := resumed_resumes s
    refine ⟨_, runs, ?_⟩
    rw [State.endRun_link, State.endRun_rx, State.endRun_lc]
    refine ⟨state, frt, pending, cnt, fresh, fun q found => ⟨s.resumed.unrun q.cap.tag, ?_⟩⟩
    have same : s.resumed.findRun 0x4A (fun _ => true) = some q := by
      unfold State.findRun
      rw [cyo]
      exact found
    rw [State.endRun, same]
  · obtain ⟨up, inState⟩ : 3 ≤ s.link.state ∧ (decide (s.link.state = 9) || (decide (s.link.state = 8) && s.link.frt.want)) = true := by
      rcases retrains with nine | ⟨eight, want⟩
      · simp [nine]
      · simp [eight, want]
    obtain ⟨state, -, last⟩ := linkFail_down (s := s.modLinkCnt (fun c => { c with frFails := inc 32 c.frFails })) (cause := 8) (retrain := .timeout) (silent := false) up
    obtain ⟨-, fails⟩ := linkFail_counts (s := s.modLinkCnt (fun c => { c with frFails := inc 32 c.frFails })) (cause := 8) (retrain := .timeout) (silent := false) up
    exact ⟨_, congrArg Host.Outcome.next (if_pos (by rw [native, inState]; rfl)), state, by rw [last]; rfl, fails⟩

end Sys2Proof.Machine
end

section
/-! PROOFS. O51: what a released period leaves, and the drift guard -/

namespace Sys2Proof.Machine

set_option Elab.async false

/-! ### What a period released leaves of the receive sequence -/

/-- A step that leaves the receive sequence where it stands. -/
def SeqStep (s t : State) : Prop := t.lc.run.rxSeq = s.lc.run.rxSeq

namespace SeqStep

theorem refl (s : State) : SeqStep s s := Eq.refl _

theorem trans {s t u : State} (a : SeqStep s t) (b : SeqStep t u) : SeqStep s u := Eq.trans b a

theorem ite {s a b : State} {c : Prop} [Decidable c] (ha : SeqStep s a) (hb : SeqStep s b) : SeqStep s (if c then a else b) := by
  split
  · exact ha
  · exact hb

theorem of_seq {s t : State} (h : t.lc.run.rxSeq = s.lc.run.rxSeq) : SeqStep s t := h

theorem of_lc {s t : State} (h : t.lc = s.lc) : SeqStep s t := congrArg (fun l : LineCode => l.run.rxSeq) h

theorem foldl {α : Type} {f : State → α → State} (each : ∀ u x, SeqStep u (f u x)) (l : List α) (s : State) : SeqStep s (l.foldl f s) := by
  induction l generalizing s with
  | nil => exact refl s
  | cons x l ih => exact (each s x).trans (ih _)

variable (s : State)

/-! The deframer -/

theorem dropItem : SeqStep s s.dropItem := by
  unfold State.dropItem
  split
  · exact refl s
  · dsimp only
    split
    · exact ite (ite (refl _) (refl _)) (ite (refl _) (refl _))
    · exact ite (refl _) (refl _)

theorem discard (f : LcCounters → LcCounters) : SeqStep s (s.discard f) := (show SeqStep s (s.modLc f) from refl s).trans (dropItem _)

theorem finishItem : SeqStep s s.finishItem := by
  unfold State.finishItem
  split
  · exact refl s
  · exact ite (refl s) (ite (discard s _) (ite (discard s _) (ite (refl s) (refl s))))

theorem enterSearch : SeqStep s s.enterSearch := refl s

theorem beginItem (tag : List (Option Byte)) (stamp : Nat) : SeqStep s (s.beginItem tag stamp) := by
  unfold State.beginItem
  refine ite ?_ ?_
  · refine SeqStep.trans ?_ (enterSearch _)
    exact ite (refl s) (refl s)
  · split
    · exact refl s
    · exact refl s

theorem deframe (at' : Nat → Nat) (fuel : Nat) : ∀ (off : Nat) (bs : List (Option Byte)) (s : State), SeqStep s (State.deframe at' fuel off bs s) := by
  induction fuel with
  | zero => exact fun _ _ s => refl s
  | succ fuel ih =>
    intro off bs s
    cases bs with
    | nil =>
      unfold State.deframe
      split
      · exact ite (finishItem s) (refl s)
      · exact refl s
    | cons b bs =>
      unfold State.deframe
      refine ite (refl s) ?_
      split
      · next it _ =>
        refine ite ?_ (ite ?_ ?_)
        · exact (show SeqStep s { s with lc := { s.lc with item := _ } } from refl s).trans (ih _ _ _)
        · exact (show SeqStep s { s with lc := { s.lc with item := _ } } from refl s).trans (ih _ _ _)
        · exact (finishItem s).trans (ih _ _ _)
      · exact ite (refl s) ((beginItem s _ _).trans (ih _ _ _))

/-- What FIRST_TAG overrules is dropped. -/
theorem overruled : SeqStep s (match s.lc.item with
    | some it => if it.isIdle then { s with lc := { s.lc with item := none } } else s.discard (fun c => { c with discChain := inc 32 c.discChain })
    | none => s) := by
  split
  · exact ite (refl s) (discard s _)
  · exact refl s

theorem overrule (bs : List (Option Byte)) : SeqStep s (s.overrule bs) := by
  have begun : SeqStep s (match s.lc.item with
      | some _ => s
      | none => if s.lc.run.tag = [] then s else s.beginItem (s.lc.run.tag ++ bs.take (4 - s.lc.run.tag.length)) s.lc.run.tagStamp) := by
    split
    · exact refl s
    · exact ite (refl s) (beginItem s _ _)
  exact (begun.trans (overruled _)).trans (refl _)

theorem resumeAt (at' : Nat → Nat) (first : Nat) (bs : List (Option Byte)) : SeqStep s (s.resumeAt at' first bs) := by
  unfold State.resumeAt
  exact ite (enterSearch s) ((show SeqStep s (s.modRun (fun r => { r with search := false, tag := [] })) from refl s).trans (deframe _ _ _ _ _))

theorem payloadIn (at' : Nat → Nat) (bs : List (Option Byte)) (first : Option Nat) : SeqStep s (s.payloadIn at' bs first) := by
  unfold State.payloadIn
  split
  · exact deframe _ _ _ _ s
  · dsimp only
    refine ite ?_ (ite (deframe _ _ _ _ s) ((overrule s bs).trans (resumeAt _ _ _ _)))
    have begun : SeqStep s (if s.lc.run.search then s else s.beginItem (s.lc.run.tag ++ bs.take (4 - s.lc.run.tag.length)) s.lc.run.tagStamp) := ite (refl s) (beginItem s _ _)
    refine begun.trans (ite (refl _) ?_)
    exact (show SeqStep _ (State.modLc _ _) from refl _).trans (resumeAt _ _ _ _)

/-! Slices, headers and the form -/

theorem dropPartial : SeqStep s s.dropPartial := by
  unfold State.dropPartial
  split
  · exact refl s
  · exact refl s

theorem messageIn (kn : Bool) (l : List (Option Nat)) (seq : Nat) : SeqStep s (s.messageIn kn l seq) := by
  unfold State.messageIn
  split
  · exact ite (refl s) (refl s)
  · exact refl s

theorem sliceIn (kn : Bool) (seq : Nat) (info : Option Nat) : SeqStep s (s.sliceIn kn seq info) := by
  unfold State.sliceIn
  split
  · exact refl s
  · next i _ =>
    have first : SeqStep s (if s.lc.run.ifIn.any (fun l => l.length ≠ i) then s.dropPartial else s) := ite (dropPartial s) (refl s)
    dsimp only
    generalize (if s.lc.run.ifIn.any (fun l => l.length ≠ i) then s.dropPartial else s) = u at first
    refine first.trans ?_
    split
    · exact refl u
    · exact ite (refl u) ((show SeqStep u (u.modRun (fun r => { r with ifIn := none })) from refl u).trans (messageIn _ _ _ _))

theorem headerIn (kn : Bool) (h : Nat) : SeqStep s (s.headerIn kn h) := by
  unfold State.headerIn
  exact SeqStep.trans (refl s) (sliceIn _ _ _ _)

theorem formsChanged : SeqStep s s.formsChanged := by
  have ended : ∀ (u : State) (st : Status), (u.endKnuckle st).lc = u.lc := fun u st => by
    unfold State.endKnuckle
    split
    · rw [State.endRun_lc]
    · rfl
  unfold State.formsChanged
  refine ite ?_ (ite ?_ (refl s))
  · exact of_lc (by rw [commitProfile_eq])
  · exact of_lc (ended _ _)

theorem takeRxForm (kn : Bool) : SeqStep s (s.takeRxForm kn) := by
  unfold State.takeRxForm
  refine SeqStep.trans ?_ (formsChanged _)
  refine SeqStep.trans ?_ (dropPartial _)
  exact of_seq rfl

theorem sampleAdc (p : Pair) (age : Nat) (part : Bool) : SeqStep s (s.sampleAdc p age part) := ite (refl s) (refl s)

theorem calPeriod (f : Front) (part : Pair → Bool) : SeqStep s (s.calPeriod f part) := by
  unfold State.calPeriod
  refine foldl (fun u p => ?_) _ s
  exact SeqStep.trans (sampleAdc u p 2 (part p)) (of_seq rfl)

/-- A native period decoded as data (R98). -/
theorem dataIn (adapt : Bool) : SeqStep s (s.dataIn adapt) := by
  unfold State.dataIn
  dsimp only
  generalize s.takenForm _ = kn
  have formed : SeqStep s (if kn = s.kn.run.rxForm then s
      else State.takeRxForm { s with kn := { s.kn with formSearches := inc 8 s.kn.formSearches, run := { s.kn.run with formSearch := false } } } kn) := by
    refine ite (refl s) (SeqStep.trans ?_ (takeRxForm _ _))
    exact of_seq rfl
  generalize (if kn = s.kn.run.rxForm then s else _ : State) = u at formed
  refine SeqStep.trans ?_ (payloadIn _ _ _ _)
  have learnt : ∀ (f : Front) (ws : Quad WordOut), SeqStep s ((u.learnPeriod f ws adapt (u.rxOrder kn)).calPeriod f (fun _ => true)) := fun f ws =>
    formed.trans (SeqStep.trans (of_seq rfl) (calPeriod (u.learnPeriod f ws adapt (u.rxOrder kn)) f _))
  generalize seen : (u.learnPeriod _ _ adapt (u.rxOrder kn)).calPeriod _ _ = v
  have step : SeqStep s v := seen ▸ learnt _ _
  refine step.trans (ite (headerIn _ _ _) (SeqStep.trans ?_ (sliceIn _ _ _ _)))
  exact of_seq rfl

/-! Quiet periods -/

theorem restPeriod : SeqStep s s.restPeriod := by
  unfold State.restPeriod
  refine SeqStep.trans ?_ (foldl (fun u p => sampleAdc u p 2 false) _ _)
  exact of_seq rfl

theorem gapChain : SeqStep s s.gapChain := by
  unfold State.gapChain
  refine ((dropItem s).trans (dropPartial _)).trans ?_
  exact of_seq rfl

theorem holdPhase : SeqStep s s.holdPhase := of_seq rfl

theorem modQl (f : QlRun → QlRun) : SeqStep s (s.modQl f) := of_seq rfl

theorem modQlCnt (f : QlCounters → QlCounters) : SeqStep s (s.modQlCnt f) := of_seq rfl

theorem judgeQuiet : SeqStep s s.judgeQuiet := of_lc (by rw [judgeQuiet_eq])

theorem farQuiet : SeqStep s s.farQuiet := by
  unfold State.farQuiet
  exact (((holdPhase s).trans (gapChain _)).trans (modQl _ _)).trans (judgeQuiet _)

theorem contentIn (content : Bool) : SeqStep s (s.contentIn content) := by
  unfold State.contentIn
  refine SeqStep.trans ?_ (calPeriod _ _ _)
  exact of_seq rfl

theorem endFarWindow : SeqStep s s.endFarWindow := by
  unfold State.endFarWindow
  exact (((holdPhase s).trans (gapChain _)).trans (modQl _ _)).trans (modQlCnt _ _)

/-- The content of a refresh window ends with a mark for the drift guard. -/
theorem contentMarked (content mark : Bool) : SeqStep s { s.contentIn content with rx := { (s.contentIn content).rx with dgRefresh := mark } } :=
  (contentIn s content).trans (of_seq rfl)

/-- A period of an open refresh window, the `i`th of its repetition. -/
theorem windowIn (i : Nat) : SeqStep s (if s.ql.run.rxState ≠ 5 then s.restPeriod
    else if i < 32 then { s.contentIn (2 ≤ i) with rx := { (s.contentIn (2 ≤ i)).rx with dgRefresh := (s.contentIn (2 ≤ i)).rx.dgRefresh || i = 31 } }
    else if i = 47 then ((s.dataIn false).modQl (fun q => { q with winHdr := q.winHdr || (s.dataIn false).lastGood })).endFarWindow
    else (s.dataIn false).modQl (fun q => { q with winHdr := q.winHdr || (s.dataIn false).lastGood })) :=
  ite (restPeriod s) (ite (contentMarked s _ _) (((dataIn s false).trans (modQl _ _)).trans (ite (endFarWindow _) (refl _))))

theorem quietIn : SeqStep s s.quietIn := by
  unfold State.quietIn
  extract_lets ri k i inWin u
  have opened : SeqStep s u := ite (modQl s _) (refl s)
  exact opened.trans (windowIn u i)

theorem settleIn : SeqStep s s.settleIn := by
  unfold State.settleIn
  split
  · exact restPeriod s
  · exact ite ((restPeriod s).trans (modQl _ _)) ((dataIn s true).trans (modQl _ _))

theorem wakeCause (n : Nat) : SeqStep s (s.wakeCause n) := by
  unfold State.wakeCause State.withdrawQuiet
  exact ite (ite (refl s) (refl s)) (ite (refl s) (refl s))

theorem rxAwake (cause : Nat) : SeqStep s (s.rxAwake cause) := (modQl s _).trans (wakeCause _ cause)

theorem listenIn : SeqStep s s.listenIn := by
  unfold State.listenIn
  dsimp only
  refine (dataIn s true).trans ?_
  split
  · exact refl _
  · exact ite ((modQlCnt _ _).trans (rxAwake _ 7)) (modQl _ _)

end SeqStep

/-- Each release of a native period moves the receive sequence on (R54, R98). -/
theorem nativeIn_rxSeq (s : State) : s.nativeIn.lc.run.rxSeq = (s.lc.run.rxSeq + 1) % 256 := by
  have moved : ∀ u : State, SeqStep s u → u.nextRx.lc.run.rxSeq = (s.lc.run.rxSeq + 1) % 256 := fun u kept => congrArg (fun n => (n + 1) % 256) kept
  have taken : SeqStep s s.takePeriod := SeqStep.of_seq rfl
  have counted : SeqStep s s.takePeriod.countData := SeqStep.of_seq rfl
  unfold State.nativeIn
  refine moved _ ?_
  split
  · exact SeqStep.ite (taken.trans ((SeqStep.restPeriod _).trans (SeqStep.farQuiet _))) (counted.trans (SeqStep.dataIn _ true))
  · exact taken.trans (SeqStep.quietIn _)
  · exact taken.trans (SeqStep.quietIn _)
  · exact taken.trans (SeqStep.settleIn _)
  · exact taken.trans (SeqStep.listenIn _)
  · exact taken.trans (SeqStep.restPeriod _)

/-! ### Standard modes -/

theorem nativeMode_standard {s : State} {r : Rung} (mode : s.link.mode = some r) (standard : 2 ≤ r) : s.nativeMode = false := by
  unfold State.nativeMode
  rw [mode]
  simp
  constructor <;> rintro rfl <;> exact absurd standard (by decide)

/-- A period released in a standard mode's data (R98, R115). -/
theorem exec_decodeRelease_standard {s : State} {d : DecodeIn} {r : Rung} (data : s.link.state = 8) (mode : s.link.mode = some r) (standard : 2 ≤ r)
    (awake : s.ql.run.rxState = 0) : exec (.decodeRelease d) s = .next (s.standardIn d) :=
  congrArg Host.Outcome.next ((if_neg (by simp [nativeMode_standard mode standard])).trans
    (if_pos (by simp [data, mode, awake, nativeMode_standard mode standard])))

/-- The state in which a frame of a standard mode has been counted and passed on (R115). -/
theorem stdFrameIn_passes (s : State) (f : StdFrame) :
    let bs := s.stdBytes f
    let lost := bs.any Option.isNone
    ∃ pwr, s.stdFrameIn f = { s with
      kw := { s.kw with arrived := s.kw.arrived ++ [{ bytes := bs, stamp := f.stamp, good := !lost && f.good }] }
      lc := { s.lc with cnt := if lost then { s.lc.cnt with framesErrored := inc 32 s.lc.cnt.framesErrored, discLost := inc 32 s.lc.cnt.discLost }
        else if f.good then { s.lc.cnt with framesOk := inc 32 s.lc.cnt.framesOk }
        else { s.lc.cnt with framesErrored := inc 32 s.lc.cnt.framesErrored, discFcs := inc 32 s.lc.cnt.discFcs } }
      pwr := pwr } := by
  intro bs lost
  have bytes : s.stdBytes f = bs := rfl
  have any : bs.any Option.isNone = lost := rfl
  unfold State.stdFrameIn
  dsimp only
  rw [bytes, any]
  cases lost with
  | true => exact ⟨_, rfl⟩
  | false => cases f.good with
    | true => exact ⟨_, rfl⟩
    | false => exact ⟨_, rfl⟩

/-- What the pairs learn from a period of a standard mode with `n` codewords (R115, R120). -/
def State.learnPairs (s : State) (d : DecodeIn) (n : Nat) : State :=
  { s with rx := { s.rx with pair := s.rx.pair.mapIdx (fun p x =>
    s.learn p 2 (s.front.u.at p) (errorsOf s.link.mode (s.front.y.at p) (d.points.at p)) s.front.d (x.dataLearning true (s.stdGood n)) x) } }

theorem standardIn_eq (s : State) (d : DecodeIn) (words : List StdCodeword) (coded : (if s.link.mode = some 7 then [] else d.stdWords) = words) :
    s.standardIn d = d.stdFrames.foldl State.stdFrameIn ((words.foldl State.stdCodeword s.takePeriod).learnPairs d words.length) := by
  rw [← coded]
  rfl

theorem stdCodeword_eq (s : State) (w : StdCodeword) : ∃ pair, s.stdCodeword w =
    { s with rx := { s.rx with pair := pair, wordNo := s.rx.wordNo + 1, flagged := ((!(s.stdWord w).good) :: s.rx.flagged).take 64 } } := ⟨_, rfl⟩

theorem learnPairs_eq (s : State) (d : DecodeIn) (n : Nat) : ∃ pair, s.learnPairs d n = { s with rx := { s.rx with pair := pair } } := ⟨_, rfl⟩

/-- A frame that a period of a standard mode brings is passed on (R115). -/
theorem standardIn_frame (s : State) (d : DecodeIn) (f : StdFrame) (words : d.stdWords = []) (frames : d.stdFrames = [f]) :
    ∃ rx, rx.flagged = s.rx.flagged ∧ s.standardIn d = ({ s with rx := rx } : State).stdFrameIn f := by
  obtain ⟨pair, learnt⟩ := learnPairs_eq s.takePeriod d 0
  refine ⟨{ s.rx with pair := pair }, rfl, ?_⟩
  rw [standardIn_eq s d [] (by rw [words, ite_self]), frames]
  exact congrArg (fun u => State.stdFrameIn u f) learnt

/-- A codeword of a standard mode is remembered for its bytes (R115). -/
theorem standardIn_word (s : State) (d : DecodeIn) (w : StdCodeword) (r : Rung) (mode : s.link.mode = some r) (coded : r ≠ 7) (words : d.stdWords = [w])
    (frames : d.stdFrames = []) : ∃ rx, s.standardIn d = { s with rx := rx } ∧ rx.wordNo = s.rx.wordNo + 1 ∧
      rx.flagged = ((!(s.takePeriod.stdWord w).good) :: s.rx.flagged).take 64 := by
  obtain ⟨counted, word⟩ := stdCodeword_eq s.takePeriod w
  obtain ⟨pair, learnt⟩ := learnPairs_eq (s.takePeriod.stdCodeword w) d 1
  rw [standardIn_eq s d [w] (by rw [words, if_neg (by simp [mode, coded])]), frames]
  rw [word] at learnt
  have taken := (congrArg (fun u => State.learnPairs u d 1) word).trans learnt
  exact ⟨_, taken, rfl, rfl⟩

/-! ### The drift guard -/

/-- Four tests as bits. -/
theorem ofBools_bit : ∀ (a b c d : Bool) (p : Pair), (BitVec.ofNat 4 (ofBools [a, b, c, d])).getLsbD p.val = [a, b, c, d].get p := by decide

theorem pairsWhere_bit (s : State) (f : Pair → Bool) (p : Pair) : (s.pairsWhere f).getLsbD p.val = true ↔ s.activePair p = true ∧ f p = true := by
  have bit : (s.pairsWhere f).getLsbD p.val = (s.activePair p && f p) := by
    refine (ofBools_bit _ _ _ _ p).trans ?_
    fin_cases p <;> rfl
  rw [bit, Bool.and_eq_true]

theorem pairsWhere_any (s : State) (f : Pair → Bool) : s.pairsWhere f ≠ 0 ↔ ∃ p, s.activePair p = true ∧ f p = true := by
  constructor
  · intro some
    by_contra none
    refine some (BitVec.eq_of_getLsbD_eq fun i small => ?_)
    refine Eq.trans ?_ BitVec.getLsbD_zero.symm
    exact Bool.eq_false_iff.mpr fun set => none ⟨⟨i, small⟩, (pairsWhere_bit s f ⟨i, small⟩).mp set⟩
  · rintro ⟨p, picked⟩ zero
    have set := (pairsWhere_bit s f p).mpr picked
    rw [zero] at set
    exact absurd set (by simp)

/-- A pair's MSE has risen by DG_MSE over its snapshot: cause 1 (R111). -/
def State.riseTrips (s : State) (p : Pair) : Bool := decide ((s.rx.ctl.dgMse : Int) ≤ (s.rx.pair.at p).rise)

/-- A block class of a pair has moved by more than DG_NORM: cause 2 (R111). -/
def State.movementTrips (s : State) (p : Pair) : Bool := (s.movements p).any s.moved

/-- A pair's phase lag has stood out for 1,024 periods: cause 3 (R111). -/
def State.lagTrips (s : State) (p : Pair) : Bool := decide (1024 ≤ (s.rx.pair.at p).lagRun)

theorem riseTrips_iff (s : State) (p : Pair) : s.riseTrips p = true ↔ (s.rx.ctl.dgMse : Int) ≤ (s.rx.pair.at p).rise := decide_eq_true_iff

theorem movementTrips_iff (s : State) (p : Pair) :
    s.movementTrips p = true ↔ ∃ k ∈ s.movements p, s.rx.ctl.dgNorm * s.rx.ctl.dgNorm * k.2 < 4096 * k.1 := by
  simp only [State.movementTrips, List.any_eq_true, State.moved, decide_eq_true_eq]

theorem lagTrips_iff (s : State) (p : Pair) : s.lagTrips p = true ↔ 1024 ≤ (s.rx.pair.at p).lagRun := decide_eq_true_iff

/-- The causes are judged in their order (R111). -/
theorem recordDrift_cause (s : State) : s.recordDrift.driftCause =
    if s.pairsWhere s.riseTrips ≠ 0 then (1, s.pairsWhere s.riseTrips)
    else if s.pairsWhere s.movementTrips ≠ 0 then (2, s.pairsWhere s.movementTrips)
    else if s.pairsWhere s.lagTrips ≠ 0 then (3, s.pairsWhere s.lagTrips) else (0, 0) := rfl

theorem exec_driftGuardEval {s : State} (due : s.driftDue = true) : exec .driftGuardEval s =
    .next (if s.recordDrift.driftCause.1 = 0 then s.recordDrift else s.recordDrift.trip s.recordDrift.driftCause.1 s.recordDrift.driftCause.2) :=
  congrArg Host.Outcome.next (if_neg (by simp [due]))

/-- A trip is put on record and warned of before the guard acts on it (R112). -/
theorem trip_eq (s : State) (cause : Nat) (who : BitVec 4) :
    ∃ w : State, w.rx = { s.rx with tripPair := who, tripCause := cause, tripBlock := w.rx.tripBlock, trips := inc 16 s.rx.trips } ∧
      w.link = s.link ∧ w.fp.event.getLsbD evRxq = true ∧
      s.trip cause who = if s.rx.ctl.dgAction then w
        else if w.requestRetrain.link.frt.want then { w.requestRetrain with rx := { w.requestRetrain.rx with pending := true } } else w.requestRetrain := by
  unfold State.trip
  dsimp only
  generalize (if cause = 1 then (6, ofInt 32 s.rx.worstRise, s.rx.ctl.dgMse) else if cause = 2 then (7, s.rx.worstNorm, s.rx.ctl.dgNorm) else (1, 1024, 1024)) = told
  obtain ⟨row, value, limit⟩ := told
  refine ⟨_, ?_, ?_, raiseEvent_flag rfl (by decide), rfl⟩
  · simp only [State.raiseEvent_rx, State.logEntry_rx]
  · simp only [State.raiseEvent_link, State.logEntry_link]

/-- A trip of the drift guard: what it records, and what it does about it (R112, R180). -/
structure Tripped (s t : State) (cause : Nat) (who : BitVec 4) : Prop where
  trips : t.rx.trips = inc 16 s.rx.trips
  count : t.rx.dgCount = s.rx.dgCount
  refresh : t.rx.dgRefresh = s.rx.dgRefresh
  event : t.fp.event.getLsbD evRxq = true
  cause : t.rx.tripCause = cause
  who : t.rx.tripPair = who
  records : s.rx.ctl.dgAction = true → t.link = s.link ∧ t.rx.pending = s.rx.pending
  retrains : s.rx.ctl.dgAction = false → s.retrainPossible = true → t.link.frt.want = true ∧ t.rx.pending = true
  fails : s.rx.ctl.dgAction = false → s.retrainPossible = false → t.link.state = 2 ∧ t.link.trainLast.cause = 8

/-- With no fast retrain possible the link falls with FR_FAIL (R180). -/
theorem requestRetrain_fails {s : State} (data : s.nativeData = true) (none : s.retrainPossible = false) :
    s.requestRetrain.link.state = 2 ∧ s.requestRetrain.link.trainLast.cause = 8 := by
  have up : s.link.state = 8 := by
    unfold State.nativeData at data
    simp at data
    exact data.1
  have link : (s.logEntry unitLine 1 kindState 9 0x01).link = s.link := State.logEntry_link ..
  obtain ⟨state, -, last⟩ := linkFail_down (s := s.logEntry unitLine 1 kindState 9 0x01) (cause := 8) (retrain := .timeout) (silent := false) (by rw [link, up]; decide)
  unfold State.requestRetrain
  rw [if_neg (by simp [none]), if_pos data]
  exact ⟨state, by rw [last]; rfl⟩

theorem trip_trips (s : State) (cause : Nat) (who : BitVec 4) (data : s.nativeData = true) : Tripped s (s.trip cause who) cause who := by
  obtain ⟨w, rx, link, flag, trip⟩ := trip_eq s cause who
  rw [trip]
  have possible : w.retrainPossible = s.retrainPossible := by unfold State.retrainPossible State.nativeData; rw [link]
  cases acts : s.rx.ctl.dgAction with
  | true =>
    rw [if_pos rfl]
    exact { trips := by rw [rx], count := by rw [rx], refresh := by rw [rx], event := flag, cause := by rw [rx], who := by rw [rx]
            records := fun _ => ⟨link, by rw [rx]⟩, retrains := fun no => absurd no (by simp [acts]), fails := fun no => absurd no (by simp [acts]) }
  | false =>
    rw [if_neg Bool.false_ne_true]
    have fallen := LineFall.requestRetrain w
    have kept : { w.requestRetrain.rx with pending := false, gainRun := false, afcRun := false, pair := Quad.all {} } = { w.rx with pending := false, gainRun := false, afcRun := false, pair := Quad.all {} } :=
      (congrArg State.rx fallen.rest :)
    have trips : w.requestRetrain.rx.trips = w.rx.trips := (congrArg Receive.trips kept :)
    have count : w.requestRetrain.rx.dgCount = w.rx.dgCount := (congrArg Receive.dgCount kept :)
    have refresh : w.requestRetrain.rx.dgRefresh = w.rx.dgRefresh := (congrArg Receive.dgRefresh kept :)
    have why : w.requestRetrain.rx.tripCause = w.rx.tripCause := (congrArg Receive.tripCause kept :)
    have pair : w.requestRetrain.rx.tripPair = w.rx.tripPair := (congrArg Receive.tripPair kept :)
    have event := fallen.event evRxq flag
    have wants : s.retrainPossible = true → w.requestRetrain.link.frt.want = true := fun can => by
      unfold State.requestRetrain
      rw [if_pos (possible.trans can)]
      exact (askRetrain_wants w).1
    have fails : s.retrainPossible = false → w.requestRetrain.link.state = 2 ∧ w.requestRetrain.link.trainLast.cause = 8 := fun cannot =>
      requestRetrain_fails (by unfold State.nativeData; rw [link]; exact data) (possible.trans cannot)
    generalize w.requestRetrain = v at trips count refresh why pair event wants fails
    rw [rx] at trips count refresh why pair
    by_cases want : v.link.frt.want = true
    · rw [if_pos want]
      exact { trips := trips, count := count, refresh := refresh, event := event, cause := why, who := pair
              records := fun yes => absurd yes (by simp [acts]), retrains := fun _ can => ⟨wants can, rfl⟩, fails := fun _ cannot => fails cannot }
    · rw [if_neg want]
      exact { trips := trips, count := count, refresh := refresh, event := event, cause := why, who := pair
              records := fun yes => absurd yes (by simp [acts]), retrains := fun _ can => absurd (wants can) want, fails := fun _ cannot => fails cannot }

theorem driftDue_data {s : State} (due : s.driftDue = true) : s.nativeData = true ∧ s.rx.pending = false := by
  unfold State.driftDue at due
  simp at due
  exact ⟨due.1.1.1, due.1.2⟩

/-- An evaluation that finds a cause trips on the first (R111, R112). -/
theorem driftGuardEval_trips {s : State} {cause : Nat} {who : BitVec 4} (due : s.driftDue = true) (found : s.recordDrift.driftCause = (cause, who)) (some : cause ≠ 0) :
    ∃ t, exec .driftGuardEval s = .next t ∧ Tripped s.recordDrift t cause who := by
  rw [exec_driftGuardEval due, found, if_neg some]
  exact ⟨_, rfl, trip_trips s.recordDrift cause who (driftDue_data due).1⟩

/-- Settles O51. -/
theorem releasedPeriodsAreReceived : Obligations.ReleasedPeriodsAreReceived := by
  refine ⟨fun s d on low high native => ?_, fun s d r data mode standard awake => ⟨fun f words frames => ?_, fun w coded words frames => ?_⟩, fun s due => ?_⟩
  · exact ⟨s.nativeIn, congrArg Host.Outcome.next (if_pos (by simp [on, low, high, native])), nativeIn_rxSeq s⟩
  · obtain ⟨rx, flagged, passed⟩ := standardIn_frame s d f words frames
    obtain ⟨pwr, counted⟩ := stdFrameIn_passes { s with rx := rx } f
    have bytes : ({ s with rx := rx } : State).stdBytes f = s.stdBytes f := by unfold State.stdBytes; rw [flagged]
    rw [bytes] at counted
    exact ⟨_, (exec_decodeRelease_standard data mode standard awake).trans (congrArg Host.Outcome.next (passed.trans counted)), rfl, rfl, rfl⟩
  · obtain ⟨rx, taken, no, flagged⟩ := standardIn_word s d w r mode coded words frames
    exact ⟨_, (exec_decodeRelease_standard data mode standard awake).trans (congrArg Host.Outcome.next taken), no, flagged, rfl⟩
  · have risen := pairsWhere_any s s.riseTrips
    have moved := pairsWhere_any s s.movementTrips
    have lagged := pairsWhere_any s s.lagTrips
    have risenWho := pairsWhere_bit s s.riseTrips
    have movedWho := pairsWhere_bit s s.movementTrips
    have laggedWho := pairsWhere_bit s s.lagTrips
    have found := recordDrift_cause s
    simp only [riseTrips_iff] at risen risenWho
    simp only [movementTrips_iff] at moved movedWho
    simp only [lagTrips_iff] at lagged laggedWho
    have pending : s.recordDrift.rx.pending = false := (driftDue_data due).2
    dsimp only
    rw [← risen, ← moved, ← lagged]
    refine ⟨fun some => ?_, fun none => ?_⟩
    · by_cases first : s.pairsWhere s.riseTrips ≠ 0
      · rw [if_pos first] at found
        obtain ⟨t, run, trip⟩ := driftGuardEval_trips due found (by decide)
        exact ⟨t, run, trip.trips, trip.count, trip.refresh, trip.event, fun _ => ⟨trip.cause, fun p => by rw [trip.who]; exact risenWho p⟩,
          fun no => absurd first no, fun no => absurd first no, fun acts => ⟨(trip.records acts).1, (trip.records acts).2.trans pending⟩, trip.retrains, trip.fails⟩
      · rw [if_neg first] at found
        by_cases second : s.pairsWhere s.movementTrips ≠ 0
        · rw [if_pos second] at found
          obtain ⟨t, run, trip⟩ := driftGuardEval_trips due found (by decide)
          exact ⟨t, run, trip.trips, trip.count, trip.refresh, trip.event, fun yes => absurd yes first,
            fun _ _ => ⟨trip.cause, fun p => by rw [trip.who]; exact movedWho p⟩, fun _ no => absurd second no, fun acts => ⟨(trip.records acts).1, (trip.records acts).2.trans pending⟩, trip.retrains, trip.fails⟩
        · rw [if_neg second, if_pos ((some.resolve_left first).resolve_left second)] at found
          obtain ⟨t, run, trip⟩ := driftGuardEval_trips due found (by decide)
          exact ⟨t, run, trip.trips, trip.count, trip.refresh, trip.event, fun yes => absurd yes first,
            fun _ yes => absurd yes second, fun _ _ => ⟨trip.cause, fun p => by rw [trip.who]; exact laggedWho p⟩, fun acts => ⟨(trip.records acts).1, (trip.records acts).2.trans pending⟩, trip.retrains, trip.fails⟩
    · rw [not_or, not_or] at none
      rw [if_neg none.1, if_neg none.2.1, if_neg none.2.2] at found
      exact ⟨s.recordDrift, (exec_driftGuardEval due).trans (by rw [found, if_pos rfl]), rfl, rfl, rfl⟩

end Sys2Proof.Machine
end

section
/-! PROOFS. O52: the alignment search, and Dormant -/

namespace Sys2Proof.Machine

set_option Elab.async false

/-! ### What keeps a device out of Dormant -/

/-- The device is in Active, with no exit of Dormant in progress and the die link out of deep low power. -/
def State.roused (s : State) : Prop := s.pwr.state = .active ∧ s.pwr.dormExit = false ∧ s.dl.deep = false

/-- A step that leaves a roused device so. -/
def RouseStep (s t : State) : Prop := s.roused → t.roused

namespace RouseStep

theorem refl (s : State) : RouseStep s s := fun h => h

theorem trans {s t u : State} (a : RouseStep s t) (b : RouseStep t u) : RouseStep s u := fun h => b (a h)

theorem ite {s a b : State} {c : Prop} [Decidable c] (ha : RouseStep s a) (hb : RouseStep s b) : RouseStep s (if c then a else b) := by
  split
  · exact ha
  · exact hb

theorem of_same {s t : State} (state : t.pwr.state = s.pwr.state) (exit : t.pwr.dormExit = s.pwr.dormExit) (deep : t.dl.deep = s.dl.deep) : RouseStep s t :=
  fun h => ⟨state.trans h.1, exit.trans h.2.1, deep.trans h.2.2⟩

theorem of_units {s t : State} (pwr : t.pwr = s.pwr) (dl : t.dl = s.dl) : RouseStep s t :=
  of_same (congrArg Power.state pwr) (congrArg Power.dormExit pwr) (congrArg DieLink.deep dl)

theorem foldl {α : Type} {f : State → α → State} (each : ∀ u x, RouseStep u (f u x)) (l : List α) (s : State) : RouseStep s (l.foldl f s) := by
  induction l generalizing s with
  | nil => exact refl s
  | cons x l ih => exact (each s x).trans (ih _)

variable (s : State)

theorem logEntry (u sev kind detail obj a0 a1 a2 a3 : Nat) : RouseStep s (s.logEntry u sev kind detail obj a0 a1 a2 a3) :=
  of_units (State.logEntry_pwr _ _ _ _ _ _ _ _ _ _) (State.logEntry_dl _ _ _ _ _ _ _ _ _ _)

theorem raiseEvent (i : Nat) : RouseStep s (s.raiseEvent i) := of_units (State.raiseEvent_pwr ..) (State.raiseEvent_dl ..)

/-! What a fall of the line ends -/

theorem finish (q : Request) (st : Status) (r : List (Nat × Nat)) (p : List Byte) : RouseStep s (s.finish q st r p) := by
  unfold State.finish
  dsimp only
  refine ite (of_units rfl rfl) ?_
  split
  · exact of_units (State.complete_pwr ..) (State.complete_dl ..)
  · exact of_units rfl rfl
  · exact (show RouseStep s { s with pwr := { s.pwr with ctrlLost := inc 16 s.pwr.ctrlLost } } from of_same rfl rfl rfl).trans (logEntry _ _ _ _ _ _ _ _ _ _)

theorem endRun (op : Nat) (p : Capsule → Bool) (st : Status) (r : List (Nat × Nat)) : RouseStep s (s.endRun op p st r) := by
  unfold State.endRun
  split
  · exact (show RouseStep s (s.unrun _) from of_units rfl rfl).trans (finish _ _ _ _ _)
  · exact refl s

theorem heldRevert : RouseStep s s.heldRevert := by
  unfold State.heldRevert
  exact ite (of_same rfl rfl rfl) (refl s)

theorem finishCal : RouseStep s s.finishCal := by
  unfold State.finishCal
  split
  · exact refl s
  · next r _ =>
    exact (show RouseStep s { s with cal := { s.cal with run := none, results := r.results } } from of_units rfl rfl).trans ((endRun _ _ _ _ _).trans (heldRevert _))

theorem cal (c : Cal) : RouseStep s { s with cal := c } := of_units rfl rfl

theorem endCalItems (code : Nat) (which : Nat → Bool) : RouseStep s (s.endCalItems code which) := by
  unfold State.endCalItems
  split
  · exact refl s
  · exact ite ((cal s _).trans (finishCal _)) (cal s _)

theorem calLinkChange : RouseStep s s.calLinkChange := by
  unfold State.calLinkChange
  exact (cal s _).trans (endCalItems _ _ _)

theorem endKnuckle (st : Status) : RouseStep s (s.endKnuckle st) := by
  unfold State.endKnuckle
  split
  · exact (show RouseStep s { s with kn := { s.kn with run := { s.kn.run with request := none } } } from of_units rfl rfl).trans (endRun _ _ _ _ _)
  · exact refl s

theorem sendOam (typ : Nat) (body : List Byte) : RouseStep s (s.sendOam typ body) := by
  unfold State.sendOam
  exact ite (refl s) (of_units rfl rfl)

theorem writeLines (n : Nat) (a : Nat) (bs : List Byte) : RouseStep s (s.writeLines a n bs) :=
  of_units (writeLines_keeps State.pwr (fun _ _ _ => rfl) _ _ _ _) (writeLines_keeps State.dl (fun _ _ _ => rfl) _ _ _ _)

theorem diag (d : Diag) : RouseStep s { s with diag := d } := of_units rfl rfl

theorem finishDiag (st : Status) : RouseStep s (s.finishDiag st) := by
  unfold State.finishDiag
  split
  · exact refl s
  · dsimp only
    refine RouseStep.trans ?_ (endRun _ _ _ _ _)
    refine RouseStep.trans ?_ (ite (by exact of_units rfl rfl) (refl _))
    refine RouseStep.trans ?_ (ite (refl _) (writeLines _ _ _ _))
    exact (ite (sendOam s _ _) (refl s) : RouseStep s _).trans (diag _ _)

theorem interruptDiagRun : RouseStep s s.interruptDiagRun := by
  unfold State.interruptDiagRun State.endDiagTests
  split
  · exact refl s
  · exact (diag s _).trans (finishDiag _ _)

theorem dropItem : RouseStep s s.dropItem := by
  unfold State.dropItem
  split
  · exact refl s
  · dsimp only
    split
    · exact ite (ite (of_units rfl rfl) (of_units rfl rfl)) (ite (of_units rfl rfl) (of_units rfl rfl))
    · exact ite (of_units rfl rfl) (of_units rfl rfl)

theorem modStats (f : Nat) (g : FlowStats → FlowStats) : RouseStep s (s.modStats f g) := of_units rfl rfl

theorem dropTx : RouseStep s s.dropTx := by
  unfold State.dropTx
  dsimp only
  refine RouseStep.trans ?_ (of_units rfl rfl)
  refine RouseStep.trans ?_ (foldl (fun u e => modStats u _ _) _ _)
  exact foldl (fun u f => modStats u _ _) _ _

theorem abandonRepair : RouseStep s s.abandonRepair := by
  unfold State.abandonRepair
  split
  · exact of_units rfl rfl
  · exact refl s

theorem supersede : RouseStep s s.supersede := of_units rfl rfl

theorem loadNew (es : List Nat) : RouseStep s (s.loadNew es) := by
  have marked : RouseStep s (es.foldl (fun st e => st.modEngine e (fun x => { x with newProg := true })) s) :=
    foldl (fun u e => (of_units rfl rfl : RouseStep u (u.modEngine e _))) es s
  unfold State.loadNew
  dsimp only
  refine marked.trans (ite (of_units rfl rfl) ?_)
  refine RouseStep.trans ?_ (raiseEvent _ _)
  refine RouseStep.trans ?_ (logEntry _ _ _ _ _ _ _ _ _ _)
  exact of_units rfl rfl

theorem finishSwap : RouseStep s s.finishSwap := ite (refl s) (loadNew s _)

theorem commitProfile (p : Profile) : RouseStep s (s.commitProfile p) := of_units (by rw [commitProfile_eq]) (by rw [commitProfile_eq])

theorem openWaiting : RouseStep s s.openWaiting := by
  unfold State.openWaiting
  refine ite (refl s) ?_
  split
  · exact (show RouseStep s ((s.openStaging true).unrun _) from of_units rfl rfl).trans (finish _ _ _ _ _)
  · exact refl s

/-! A fall of the line -/

theorem lineEnds (retrain : Status) : RouseStep s (s.lineEnds retrain) := by
  have ended := (((dropItem s).trans (calLinkChange _)).trans (endKnuckle _ .notReady)).trans (endRun _ 0x4A (fun _ => true) retrain [])
  have left := (ended.trans (dropTx _)).trans (abandonRepair _)
  exact ((left.trans (supersede _)).trans (finishSwap _)).trans (commitProfile _ .noLink)

theorem lineBlank (m : Rung) : RouseStep s (s.lineBlank m) := fun h => ⟨by
  show (if s.pwr.state = .quietLatch then PowerState.active else s.pwr.state) = .active
  rw [h.1]
  rfl, h.2.1, h.2.2⟩

theorem lineDown (retrain : Status) : RouseStep s (s.lineDown retrain) := by
  rw [lineDown_eq]
  exact (((lineEnds s retrain).trans (lineBlank _ _)).trans (ite (interruptDiagRun _) (refl _))).trans (openWaiting _)

theorem modLink (f : Link → Link) : RouseStep s (s.modLink f) := of_units rfl rfl

theorem recordFailure (cause : Nat) (counted quiet : Bool) : RouseStep s (s.recordFailure cause counted quiet) := by
  have raised := RouseStep.trans (show RouseStep s { s with link := s.failedLink cause counted } from of_units rfl rfl) (raiseEvent _ evLink)
  exact ite raised (raised.trans (logEntry _ _ _ _ _ _ _ _ _ _))

theorem ladderStep (r : Rung) : RouseStep s (s.ladderStep r) := by
  unfold State.ladderStep
  dsimp only
  refine ite (modLink s _) ?_
  refine RouseStep.trans ?_ ((logEntry _ _ _ _ _ _ _ _ _ _).trans (raiseEvent _ _))
  split
  · exact ite (modLink s _) (modLink s _)
  · exact modLink s _

theorem linkFail (cause : Nat) (retrain : Status) (silent : Bool) : RouseStep s (s.linkFail cause retrain silent) := by
  have recorded := recordFailure s cause (s.causeCounts cause) (silent || ((cause = 4 || cause = 5) && s.link.lastNegCause = cause))
  have stepped := recorded.trans (ite (c := s.causeCounts cause = true) (ladderStep _ (s.link.mode.getD s.link.ladderPos)) (refl _))
  unfold State.linkFail
  dsimp only
  refine ite (refl s) (ite stepped ?_)
  refine RouseStep.trans ?_ (modLink _ _)
  refine RouseStep.trans ?_ (lineDown _ _)
  exact ite (stepped.trans (of_units rfl rfl)) stepped

theorem linkDown (cause : Nat) : RouseStep s (s.linkDown cause) := by
  unfold State.linkDown
  exact ite (linkFail s _ _ _) (refl s)

/-! Lanes replaced -/

theorem dielinkFall : RouseStep s s.dielinkFall := by
  unfold State.dielinkFall
  exact ite ((show RouseStep s { s with dl := { s.dl with ready := false } } from of_same rfl rfl rfl).trans (linkFail _ _ _ _)) (refl s)

theorem modDir (inb : Bool) (f : DlDir → DlDir) : RouseStep s (s.modDir inb f) := by
  cases inb with
  | false => exact of_same rfl rfl rfl
  | true => exact of_same rfl rfl rfl

theorem reduceMap (inb : Bool) (bad : Nat) : RouseStep s (s.reduceMap inb bad) := by
  unfold State.reduceMap
  dsimp only
  refine ite ((modDir s _ _).trans (dielinkFall _)) ?_
  have noted := (modDir s inb (fun d => { d with
    lanes := mapLanes d.lanes ((List.range 26).filter (fun k => k ≠ bad && ((s.dir inb).lane k).logical ≠ 0xFE)) (logicalLanes true), reduced := true, subst := none
    waiting := d.waiting.filter (·.1 ≠ bad) })).trans ((logEntry _ unitLine 1 kindState 2 0x40 (b2n s.dl.reduced) 1 (b2n inb) 0).trans (raiseEvent _ evDielink))
  exact ite (noted.trans (linkDown _ _)) noted

theorem substitute (inb : Bool) (lane cause : Nat) : RouseStep s (s.substitute inb lane cause) := by
  unfold State.substitute
  dsimp only
  refine ite (refl s) (ite (modDir s _ _) ?_)
  split
  · exact modDir s _ _
  · exact reduceMap s _ _

theorem nextSubst (inb : Bool) (n : Nat) : ∀ s : State, RouseStep s (s.nextSubst inb n) := by
  induction n with
  | zero => exact fun s => refl s
  | succ n ih =>
    intro s
    unfold State.nextSubst
    refine ite (refl s) ?_
    split
    · exact ((modDir s _ _).trans (substitute _ _ _ _)).trans (ih _)
    · exact refl s

theorem replaceAtExit (inb : Bool) (lane : Nat) : RouseStep s (s.replaceAtExit inb lane) := by
  unfold State.replaceAtExit
  dsimp only
  refine ite (refl s) ?_
  split
  · exact (modDir s _ _).trans (of_same rfl rfl rfl)
  · exact reduceMap s _ _

theorem startNegotiation : RouseStep s s.startNegotiation := of_units rfl rfl

theorem gateEngines : RouseStep s s.gateEngines := of_units rfl rfl

end RouseStep

/-! ### The alignment search -/

theorem dielinkFall_dl (s : State) : s.dielinkFall.dl.lineRest = { s.dl.lineRest with ready := false } ∧
    (s.dl.ready = true → 3 ≤ s.link.state → s.dielinkFall.link.state = 2 ∧ s.dielinkFall.link.trainLast.cause = 10) := by
  unfold State.dielinkFall
  by_cases ready : s.dl.ready = true
  · rw [if_pos ready]
    refine ⟨(congrArg State.dl (LineFall.linkFail { s with dl := { s.dl with ready := false } } 0xA .notReady false).rest :), fun _ up => ?_⟩
    obtain ⟨state, -, last⟩ := linkFail_down (s := { s with dl := { s.dl with ready := false } }) (cause := 0xA) (retrain := .notReady) (silent := false) up
    exact ⟨state, by rw [last]; rfl⟩
  · rw [if_neg ready]
    refine ⟨?_, fun yes => absurd yes ready⟩
    unfold DieLink.lineRest
    dsimp only
    rw [Bool.eq_false_iff.mpr ready]

/-- A search that starts takes the link down (R30). -/
theorem startSearch_starts (s : State) : s.startSearch.dl.searching = some s.time ∧ s.startSearch.dl.ready = false ∧ s.startSearch.dl.searches = inc 16 s.dl.searches ∧
    (s.dl.ready = true → 3 ≤ s.link.state → s.startSearch.link.state = 2 ∧ s.startSearch.link.trainLast.cause = 10) := by
  obtain ⟨dl, falls⟩ := dielinkFall_dl { s with dl := { s.dl with
    searching := some s.time, searches := inc 16 s.dl.searches
    outb := { s.dl.outb with subst := none, waiting := [] }, inb := { s.dl.inb with subst := none, waiting := [] } } }
  have searching := congrArg DieLink.searching dl
  have ready := congrArg DieLink.ready dl
  have searches := congrArg DieLink.searches dl
  exact ⟨searching, ready, searches, falls⟩

theorem exec_alignmentSearch {s : State} (held : s.heldReset = false) (idle : s.dl.searching = none) (rail : s.pwr.railLow &&& 3 = 0) :
    exec .alignmentSearch s = .next s.startSearch :=
  congrArg Host.Outcome.next (if_neg (by simpa [held, idle] using rail))

theorem exec_alignmentRetry {s : State} (held : s.heldReset = false) (idle : s.dl.searching = none) (rail : s.pwr.railLow &&& 3 = 0)
    (searched : s.dl.searches ≠ 0) (unmapped : (s.dl.outb.mapped && s.dl.inb.mapped) = false) : exec .alignmentRetry s = .next s.startSearch :=
  congrArg Host.Outcome.next (if_neg (by simpa [held, idle, searched, unmapped] using rail))

/-- What the end of a search says of a direction: that it has no map, or a reduced one (R30). -/
def State.sayMap (st : State) (d : DlDir) (inb was : Bool) : State :=
  if !d.mapped then st.logEntry unitLine 4 kindFault 0 0x40 (b2n inb) else if d.reduced then st.noteReduced inb was else st

theorem sayMap_keeps (s : State) (d : DlDir) (inb was : Bool) :
    (s.sayMap d inb was).dl = s.dl ∧ (s.sayMap d inb was).link = s.link ∧ (s.sayMap d inb was).lc = s.lc := by
  unfold State.sayMap State.noteReduced
  split
  · simp only [State.logEntry_dl, State.logEntry_link, State.logEntry_lc, and_self]
  · split
    · simp only [State.raiseEvent_dl, State.logEntry_dl, State.raiseEvent_link, State.logEntry_link, State.raiseEvent_lc, State.logEntry_lc, and_self]
    · exact ⟨rfl, rfl, rfl⟩

/-- A reduced map raises the event, and no event clears (R30). -/
theorem sayMap_event (s : State) (d : DlDir) (inb was : Bool) :
    ((d.mapped && d.reduced) = true → (s.sayMap d inb was).fp.event.getLsbD evDielink = true) ∧
    (s.fp.event.getLsbD evDielink = true → (s.sayMap d inb was).fp.event.getLsbD evDielink = true) := by
  unfold State.sayMap State.noteReduced
  by_cases mapped : d.mapped = true
  · rw [if_neg (by simp [mapped])]
    by_cases reduced : d.reduced = true
    · rw [if_pos reduced]
      exact ⟨fun _ => raiseEvent_flag rfl (by decide), fun _ => raiseEvent_flag rfl (by decide)⟩
    · rw [if_neg reduced]
      exact ⟨fun both => absurd both (by simp [reduced]), fun h => h⟩
  · rw [if_pos (by simp [mapped])]
    exact ⟨fun both => absurd both (by simp [mapped]), (LineStep.logEntry s _ _ _ _ _ _ _ _ _).event _⟩

theorem exec_alignmentSearchEnd {s : State} (o i : List LaneTest) (searching : s.dl.searching.isSome = true) : exec (.alignmentSearchEnd o i) s =
    .next ((({ s with dl := { s.dl with outb := s.dl.outb.search o, inb := s.dl.inb.search i, searching := none
                                        ready := (s.dl.outb.search o).mapped && (s.dl.inb.search i).mapped } } : State).sayMap
      (s.dl.outb.search o) false s.dl.reduced).sayMap (s.dl.inb.search i) true (s.dl.reduced || (s.dl.outb.search o).reduced)) :=
  congrArg Host.Outcome.next (if_neg (by simp [Option.isSome_iff_ne_none.mp searching]))

theorem alignmentSearchEnd_maps {s : State} (o i : List LaneTest) (searching : s.dl.searching.isSome = true) :
    ∃ t : State, exec (.alignmentSearchEnd o i) s = .next t ∧ t.dl.outb = s.dl.outb.search o ∧ t.dl.inb = s.dl.inb.search i ∧ t.dl.searching = none ∧
      t.dl.ready = ((s.dl.outb.search o).mapped && (s.dl.inb.search i).mapped) ∧ t.link = s.link ∧ t.lc = s.lc ∧
      ((t.dl.outb.mapped && t.dl.outb.reduced) = true ∨ (t.dl.inb.mapped && t.dl.inb.reduced) = true → t.fp.event.getLsbD evDielink = true) := by
  refine ⟨_, exec_alignmentSearchEnd o i searching, ?_⟩
  generalize found : ({ s with dl := { s.dl with outb := s.dl.outb.search o, inb := s.dl.inb.search i, searching := none
                                                 ready := (s.dl.outb.search o).mapped && (s.dl.inb.search i).mapped } } : State) = u
  obtain ⟨dl₁, link₁, lc₁⟩ := sayMap_keeps u (s.dl.outb.search o) false s.dl.reduced
  obtain ⟨raised₁, -⟩ := sayMap_event u (s.dl.outb.search o) false s.dl.reduced
  generalize u.sayMap (s.dl.outb.search o) false s.dl.reduced = v at dl₁ link₁ lc₁ raised₁
  obtain ⟨dl₂, link₂, lc₂⟩ := sayMap_keeps v (s.dl.inb.search i) true (s.dl.reduced || (s.dl.outb.search o).reduced)
  obtain ⟨raised₂, kept₂⟩ := sayMap_event v (s.dl.inb.search i) true (s.dl.reduced || (s.dl.outb.search o).reduced)
  rw [dl₂, dl₁, link₂, link₁, lc₂, lc₁, ← found]
  exact ⟨rfl, rfl, rfl, rfl, rfl, rfl, fun either => either.elim (fun out => kept₂ (raised₁ out)) raised₂⟩

/-! ### The lanes that a search maps -/

/-- A place in a strictly rising list is the number of entries below. -/
theorem idxOf_rising {k : Nat} : ∀ l : List Nat, l.Pairwise (· < ·) → k ∈ l → l.idxOf? k = some (l.filter (· < k)).length := by
  intro l
  induction l with
  | nil => exact fun _ mem => absurd mem List.not_mem_nil
  | cons a l ih =>
    intro rising mem
    obtain ⟨above, rest⟩ := List.pairwise_cons.mp rising
    rw [List.idxOf?_cons]
    by_cases here : a = k
    · subst here
      have none : l.filter (· < a) = [] := List.filter_eq_nil_iff.mpr fun b mem => by
        have := above b mem
        simp
        omega
      simp [none]
    · have later : k ∈ l := (List.mem_cons.mp mem).resolve_left (Ne.symm here)
      have below : a < k := above k later
      simp [here, below, ih rest later]

theorem range_filter_rising (f : Nat → Bool) (n : Nat) : ((List.range n).filter f).Pairwise (· < ·) := List.pairwise_lt_range.filter f

/-- The logical lane of a lane of the map. -/
theorem mapLanes_lane (ls : List Lane) (healthy logical : List Nat) {k : Nat} (small : k < ls.length) :
    (healthy.idxOf? k = none → ((mapLanes ls healthy logical).getD k {}).logical = 0xFE) ∧
    (∀ i, healthy.idxOf? k = some i → ((mapLanes ls healthy logical).getD k {}).logical = logical.getD i 0xFF) := by
  unfold mapLanes
  rw [List.getD_eq_getElem?_getD, List.getElem?_map, List.getElem?_zipIdx, List.getElem?_eq_getElem small]
  exact ⟨fun none => by simp [none], fun i found => by simp [found]⟩

theorem logicalLanes_full : ∀ i < 27, (logicalLanes false).getD i 0xFF = if i < 24 then i else 0xFF := by decide

theorem logicalLanes_reduced : ∀ i < 27, (logicalLanes true).getD i 0xFF = if i < 20 then i / 5 * 6 + i % 5 else 0xFF := by decide

section
variable {d : DlDir} {ts : List LaneTest} (lanes : d.lanes.length = 26)
include lanes

/-- The healthy lanes of a search, in ascending order. -/
def healthyLanes (ts : List LaneTest) : List Nat := (List.range 26).filter (fun k => laneHealthy (ts.getD k ⟨false, 0, 0, 0⟩))

omit lanes in
theorem search_counts : (d.search ts).mapped = decide (20 ≤ (healthyLanes ts).length) ∧
    (d.search ts).reduced = decide (20 ≤ (healthyLanes ts).length ∧ (healthyLanes ts).length < 24) ∧ (d.search ts).epoch = 0 :=
  ⟨rfl, (Bool.decide_and _ _).symm, rfl⟩

/-- The logical lane that a search gives each lane (R30). -/
theorem search_lane {k : Nat} (small : k < 26) :
    (k ∉ healthyLanes ts → ((d.search ts).lane k).logical = 0xFE) ∧
    (k ∈ healthyLanes ts → ((d.search ts).lane k).logical =
      (if 24 ≤ (healthyLanes ts).length then logicalLanes false else if 20 ≤ (healthyLanes ts).length then logicalLanes true else []).getD
        ((healthyLanes ts).filter (· < k)).length 0xFF) := by
  obtain ⟨unmapped, mapped⟩ := mapLanes_lane
    (d.lanes.zipIdx.map (fun x => { x.1 with eye := (ts.getD x.2 ⟨false, 0, 0, 0⟩).eye % 256, slips := (ts.getD x.2 ⟨false, 0, 0, 0⟩).slips % 32, recent := [] }))
    (healthyLanes ts) (if 24 ≤ (healthyLanes ts).length then logicalLanes false else if 20 ≤ (healthyLanes ts).length then logicalLanes true else []) (k := k)
    (by simp [lanes, small])
  refine ⟨fun ill => unmapped (List.idxOf?_eq_none_iff.mpr ill), fun well => mapped _ ?_⟩
  exact idxOf_rising _ (range_filter_rising _ _) well

/-- The logical lane that a search gives a healthy lane, by how many are healthy and how many below (R30). -/
theorem search_healthy {k : Nat} (small : k < 26) (well : k ∈ healthyLanes ts) : ((d.search ts).lane k).logical =
    if 24 ≤ (healthyLanes ts).length then (if ((healthyLanes ts).filter (· < k)).length < 24 then ((healthyLanes ts).filter (· < k)).length else 0xFF)
    else if 20 ≤ (healthyLanes ts).length then
      (if ((healthyLanes ts).filter (· < k)).length < 20 then ((healthyLanes ts).filter (· < k)).length / 5 * 6 + ((healthyLanes ts).filter (· < k)).length % 5 else 0xFF)
    else 0xFF := by
  have few : ((healthyLanes ts).filter (· < k)).length < 27 := by
    have below := List.length_filter_le (· < k) (healthyLanes ts)
    have all := List.length_filter_le (fun k => laneHealthy (ts.getD k ⟨false, 0, 0, 0⟩)) (List.range 26)
    rw [List.length_range] at all
    exact Nat.lt_succ_of_le (below.trans all)
  rw [(search_lane lanes small).2 well]
  split
  · exact logicalLanes_full _ few
  · split
    · exact logicalLanes_reduced _ few
    · rfl

end

/-! ### Dormant -/

/-- What a substitution that Dormant interrupts leaves: its cause waits (R35). -/
def DlDir.giveUp (d : DlDir) : DlDir :=
  match d.subst with
  | some x => { d with subst := none, waiting := (x.old, x.cause) :: d.waiting }
  | none => d

theorem giveUp_waits (d : DlDir) : d.giveUp.subst = none ∧ d.giveUp.lanes = d.lanes ∧
    ∀ x, d.subst = some x → d.giveUp.waiting = (x.old, x.cause) :: d.waiting := by
  unfold DlDir.giveUp
  cases going : d.subst with
  | none => exact ⟨going, rfl, fun _ none => absurd none (by simp)⟩
  | some x => exact ⟨rfl, rfl, fun y found => by rw [Option.some.inj found]⟩

theorem gateEngines_eq (s : State) : ∃ g a, s.gateEngines = { s with eng := g, gate := a } := ⟨_, _, rfl⟩

theorem exec_dormantEntry {s : State} (held : s.heldReset = false) (active : s.pwr.state = .active) (wanted : s.dormantWanted = true) (free : s.dormantBlocked = false) :
    exec .dormantEntry s = .next (State.gateEngines { s with
      pwr := { s.pwr with state := .dormant, dormExit := false, dormByAdmin := s.link.state = 0 && s.pwr.dormAdmin }
      dl := { s.dl with deep := true, outb := s.dl.outb.giveUp, inb := s.dl.inb.giveUp }
      link := { s.link with neg := {} } }) :=
  congrArg Host.Outcome.next (if_neg (by simp [held, active, wanted, free]))

theorem dormantEntry_enters {s : State} (held : s.heldReset = false) (active : s.pwr.state = .active) (wanted : s.dormantWanted = true) (free : s.dormantBlocked = false) :
    ∃ t : State, exec .dormantEntry s = .next t ∧ t.pwr.state = .dormant ∧ t.pwr.dormExit = false ∧ t.dl.deep = true ∧ t.link = { s.link with neg := {} } ∧
      (∀ inb, (t.dir inb).subst = none ∧ (t.dir inb).lanes = (s.dir inb).lanes ∧
        (∀ x, (s.dir inb).subst = some x → (t.dir inb).waiting = (x.old, x.cause) :: (s.dir inb).waiting)) ∧
      t = { s with pwr := { s.pwr with state := t.pwr.state, dormExit := t.pwr.dormExit, dormByAdmin := t.pwr.dormByAdmin }
                   dl := t.dl, link := t.link, eng := t.eng, gate := t.gate } := by
  have run := exec_dormantEntry held active wanted free
  obtain ⟨g, a, gated⟩ := gateEngines_eq { s with
      pwr := { s.pwr with state := .dormant, dormExit := false, dormByAdmin := s.link.state = 0 && s.pwr.dormAdmin }
      dl := { s.dl with deep := true, outb := s.dl.outb.giveUp, inb := s.dl.inb.giveUp }
      link := { s.link with neg := {} } }
  rw [gated] at run
  refine ⟨_, run, rfl, rfl, rfl, rfl, fun inb => ?_, rfl⟩
  cases inb with
  | false => exact giveUp_waits s.dl.outb
  | true => exact giveUp_waits s.dl.inb

/-- The state in which an exit of Dormant finds the lanes (R34). -/
def State.wakes (s : State) : State := { s with pwr := { s.pwr with state := .active, dormExit := false }, dl := { s.dl with deep := false } }

/-- What an exit of Dormant does after it has replaced lanes (R32, R35). -/
def State.resume (s : State) : State := (((if s.link.state = 1 then s.startNegotiation else s).nextSubst false 26).nextSubst true 26).gateEngines

theorem exec_deepLowPowerExit {s : State} (o i : List Nat) (dormant : s.pwr.state = .dormant) (exit : s.pwr.dormExit = true) : exec (.deepLowPowerExit o i) s =
    .next (State.resume (i.foldl (fun st k => st.replaceAtExit true k) (o.foldl (fun st k => st.replaceAtExit false k) s.wakes))) :=
  congrArg Host.Outcome.next (if_neg (by simp [dormant, exit]))

theorem resume_roused (s : State) (up : s.roused) : s.resume.roused := by
  have begun : (if s.link.state = 1 then s.startNegotiation else s).roused := RouseStep.ite (RouseStep.startNegotiation s) (RouseStep.refl s) up
  exact RouseStep.gateEngines _ (RouseStep.nextSubst true 26 _ (RouseStep.nextSubst false 26 _ begun))

/-- The device is in Active after an exit, whichever lanes have failed their check (R34, R43). -/
theorem deepLowPowerExit_rouses {s : State} (o i : List Nat) (dormant : s.pwr.state = .dormant) (exit : s.pwr.dormExit = true) :
    ∃ t : State, exec (.deepLowPowerExit o i) s = .next t ∧ t.roused := by
  refine ⟨_, exec_deepLowPowerExit o i dormant exit, resume_roused _ ?_⟩
  exact RouseStep.foldl (fun u k => RouseStep.replaceAtExit u true k) i _ (RouseStep.foldl (fun u k => RouseStep.replaceAtExit u false k) o _ ⟨rfl, rfl, rfl⟩)

/-- With no cause waiting none is taken up. -/
theorem nextSubst_none {s : State} {inb : Bool} (idle : (s.dir inb).waiting = []) (n : Nat) : s.nextSubst inb n = s := by
  cases n with
  | zero => rfl
  | succ n => simp [State.nextSubst, idle]

/-- An exit with no cause waiting leaves the lanes as they are (R34). -/
theorem resume_keeps (s : State) (outb : s.dl.outb.waiting = []) (inb : s.dl.inb.waiting = []) : s.resume.dl = s.dl ∧ s.resume.link.state = s.link.state := by
  have begun : (if s.link.state = 1 then s.startNegotiation else s).dl = s.dl ∧ (if s.link.state = 1 then s.startNegotiation else s).link.state = s.link.state := by
    split
    · next one => exact ⟨rfl, one.symm⟩
    · exact ⟨rfl, rfl⟩
  unfold State.resume
  generalize (if s.link.state = 1 then s.startNegotiation else s) = u at begun
  obtain ⟨dl, state⟩ := begun
  rw [nextSubst_none (inb := false) (by show u.dl.outb.waiting = []; rw [dl]; exact outb), nextSubst_none (inb := true) (by show u.dl.inb.waiting = []; rw [dl]; exact inb)]
  exact ⟨dl, state⟩

/-- A lane that is listed stands within the list. -/
theorem lane_listed {d : DlDir} {k : Nat} (known : (d.lane k).logical ≠ 0xFE) : k < d.lanes.length := by
  by_contra beyond
  refine known ?_
  unfold DlDir.lane
  rw [List.getD_eq_getElem?_getD, List.getElem?_eq_none (by omega)]
  rfl

theorem modLane_lane (d : DlDir) (k j : Nat) (f : Lane → Lane) (small : k < d.lanes.length) : (d.modLane k f).lane j = if k = j then f (d.lane j) else d.lane j := by
  unfold DlDir.modLane DlDir.lane modAt
  rw [List.getD_eq_getElem?_getD, List.getD_eq_getElem?_getD, List.getElem?_modify]
  split
  · next here => subst here; simp [List.getElem?_eq_getElem small]
  · simp

theorem spare_logical {d : DlDir} {j : Nat} (found : d.spare = some j) : (d.lane j).logical = 0xFF := by
  have fits := List.find?_some found
  simp only [Bool.and_eq_true, decide_eq_true_eq] at fits
  exact fits.1

/-- A spare takes the logical lane of the lane it replaces (R32, R34). -/
theorem move_lane {d : DlDir} {k j : Nat} (carries : d.carries k = true) (free : d.spare = some j) :
    ((d.move k j).lane j).logical = (d.lane k).logical ∧ ((d.move k j).lane k).logical = 0xFE := by
  have spare := spare_logical free
  have logical : (d.lane k).logical < 24 := by simpa [DlDir.carries] using carries
  have other : k ≠ j := fun same => by rw [same] at logical; omega
  have listedJ := lane_listed (d := d) (k := j) (by rw [spare]; decide)
  have listedK := lane_listed (d := d) (k := k) (by omega)
  have still : k < (d.modLane j (fun l => { l with logical := (d.lane k).logical })).lanes.length := by simpa [DlDir.modLane, modAt] using listedK
  unfold DlDir.move
  rw [modLane_lane _ _ _ _ still, modLane_lane _ _ _ _ still, if_neg other, if_pos rfl, modLane_lane _ _ _ _ listedJ, if_pos rfl]
  exact ⟨rfl, rfl⟩

/-- A mapped lane that fails its check at exit is replaced by the spare (R34). -/
theorem replaceAtExit_moves {s : State} {k j : Nat} (carries : s.dl.outb.carries k = true) (free : s.dl.outb.spare = some j) :
    s.replaceAtExit false k = { s with dl := { s.dl with outb := s.dl.outb.move k j, substs := inc 16 s.dl.substs } } := by
  have carried : ((s.dir false).carries k) = true := carries
  have spare : (s.dir false).spare = some j := free
  unfold State.replaceAtExit
  dsimp only
  rw [if_neg (by simp [carried]), spare]
  rfl

/-- Settles O52. -/
theorem theDieLinkComesUpAndSleeps : Obligations.TheDieLinkComesUpAndSleeps := by
  refine ⟨⟨fun s held idle rail => ⟨?_, fun searched unmapped => ?_⟩, fun s o i searching => alignmentSearchEnd_maps o i searching, fun d ts lanes _ => ?_⟩,
    fun s held active wanted free => dormantEntry_enters held active wanted free, fun s dormant cause => ?_, fun s dormant exit => ⟨fun o i => ?_, fun outb inb => ⟨?_, ?_⟩⟩⟩
  · obtain ⟨searching, ready, searches, falls⟩ := startSearch_starts s
    exact ⟨_, exec_alignmentSearch held idle rail, searching, ready, searches, falls⟩
  · obtain ⟨searching, ready, searches, -⟩ := startSearch_starts s
    exact ⟨_, exec_alignmentRetry held idle rail searched unmapped, searching, ready, searches⟩
  · obtain ⟨mapped, reduced, epoch⟩ := search_counts (d := d) (ts := ts)
    exact ⟨mapped, reduced, epoch, fun k small => ⟨(search_lane lanes small).1, search_healthy lanes small⟩⟩
  · exact congrArg Host.Outcome.next ((if_pos cause).trans (if_pos dormant))
  · obtain ⟨t, run, up⟩ := deepLowPowerExit_rouses o i dormant exit
    exact ⟨t, run, up⟩
  · obtain ⟨dl, state⟩ := resume_keeps s.wakes outb inb
    exact ⟨_, exec_deepLowPowerExit [] [] dormant exit, (congrArg DieLink.outb dl :), (congrArg DieLink.inb dl :), state⟩
  · intro k j carries free
    obtain ⟨taken, retired⟩ := move_lane carries free
    have moved := replaceAtExit_moves (s := s.wakes) carries free
    obtain ⟨dl, -⟩ := resume_keeps { s.wakes with dl := { s.wakes.dl with outb := s.dl.outb.move k j, substs := inc 16 s.dl.substs } } outb inb
    refine ⟨_, (exec_deepLowPowerExit [k] [] dormant exit).trans (congrArg (fun u => Host.Outcome.next (State.resume u)) moved), ?_⟩
    exact ⟨(congrArg (fun l => (l.outb.lane j).logical) dl).trans taken, (congrArg (fun l => (l.outb.lane k).logical) dl).trans retired,
      (congrArg DieLink.substs dl :), (congrArg DieLink.inb dl :)⟩

end Sys2Proof.Machine
end

section
/-! PROOFS. O38: deadlines and boundaries of the timeline -/

namespace Sys2Proof.Machine

set_option Elab.async false

/-! ### O38: deadlines -/

theorem modEngine_engine (s : State) {e : Nat} (f : Engine → Engine) (inside : e < s.eng.eng.length) :
    (s.modEngine e f).engine e = f (s.engine e) ∧ ∀ k, k ≠ e → (s.modEngine e f).engine k = s.engine k := by
  unfold State.engine State.modEngine modAt
  dsimp only
  constructor
  · simp [List.getD_eq_getElem?_getD, List.getElem?_eq_getElem inside]
  · intro k other
    rw [List.getD_eq_getElem?_getD, List.getD_eq_getElem?_getD, List.getElem?_modify_ne _ _ (Ne.symm other)]

/-- The state in which a slot that ran to its deadline unfinished has been counted (R128). -/
def State.dropCounted (s : State) (e : Nat) (late : Prop) [Decidable late] : State :=
  (if late then s.modEngine e (fun x => { x with overrun := inc 16 x.overrun }) else s).modEngine e (fun x => { x with drops := inc 16 x.drops })

theorem dropCounted_counts (s : State) {e : Nat} (late : Prop) [Decidable late] (inside : e < s.eng.eng.length) :
    ((s.dropCounted e late).engine e).drops = inc 16 (s.engine e).drops ∧
    ((s.dropCounted e late).engine e).overrun = (if late then inc 16 (s.engine e).overrun else (s.engine e).overrun) ∧
    (∀ k, k ≠ e → (s.dropCounted e late).engine k = s.engine k) ∧ (s.dropCounted e late).eng.active = s.eng.active ∧
    s.dropCounted e late = { s with eng := (s.dropCounted e late).eng } := by
  unfold State.dropCounted
  by_cases over' : late
  · rw [if_pos over', if_pos over']
    obtain ⟨here₁, there₁⟩ := modEngine_engine s (fun x => { x with overrun := inc 16 x.overrun }) inside
    obtain ⟨here₂, there₂⟩ := modEngine_engine (s.modEngine e (fun x => { x with overrun := inc 16 x.overrun })) (fun x => { x with drops := inc 16 x.drops })
      (by simpa [State.modEngine, modAt] using inside)
    rw [here₂, here₁]
    exact ⟨rfl, rfl, fun k other => (there₂ k other).trans (there₁ k other), rfl, rfl⟩
  · rw [if_neg over', if_neg over']
    obtain ⟨here, there⟩ := modEngine_engine s (fun x => { x with drops := inc 16 x.drops }) inside
    rw [here]
    exact ⟨rfl, rfl, there, rfl, rfl⟩

section
variable {s : State} {e i n prev : Nat} (inside : e < s.fuse.part.engines) (slot : i < 16) (task : slotTask (sget 0 s.eng.active (16 * e + i)) ≠ 0)
include inside slot task

/-- A slot that reaches its deadline unfinished is counted and stopped (R128). -/
theorem exec_slotDeadline (undone : slotComplete (sget 0 s.eng.active (16 * e + i)) n = false) (live : s.slotSkipped (sget 0 s.eng.active (16 * e + i)) = false) :
    exec (.slotDeadline e i n prev) s = .next ((s.dropCounted e (slotBudget (sget 0 s.eng.active (16 * e + i)) <
      taskDeadline (slotTask (sget 0 s.eng.active (16 * e + i))) s.cycles - max (slotStart (sget 0 s.eng.active (16 * e + i))) prev)).stopSlot e i n) :=
  congrArg Host.Outcome.next (if_neg (by
    generalize sget 0 s.eng.active (16 * e + i) = w at task undone live
    simp [inside, slot, task, undone, live]))

omit inside slot task in
theorem exec_slotDeadline_idle (over' : slotComplete (sget 0 s.eng.active (16 * e + i)) n = true ∨ s.slotSkipped (sget 0 s.eng.active (16 * e + i)) = true) :
    exec (.slotDeadline e i n prev) s = .next s :=
  congrArg Host.Outcome.next (if_pos (by
    generalize sget 0 s.eng.active (16 * e + i) = w at over'
    rcases over' with done | skipped
    · simp [done]
    · simp [skipped]))

/-- A drop is counted at its engine, and at no other (R128). -/
theorem slotDeadline_counts (listed : e < s.eng.eng.length) (undone : slotComplete (sget 0 s.eng.active (16 * e + i)) n = false)
    (live : s.slotSkipped (sget 0 s.eng.active (16 * e + i)) = false) :
    ∃ t : State, exec (.slotDeadline e i n prev) s = .next t ∧ (t.engine e).drops = inc 16 (s.engine e).drops ∧
      (t.engine e).overrun = (if slotBudget (sget 0 s.eng.active (16 * e + i)) <
        taskDeadline (slotTask (sget 0 s.eng.active (16 * e + i))) s.cycles - max (slotStart (sget 0 s.eng.active (16 * e + i))) prev
        then inc 16 (s.engine e).overrun else (s.engine e).overrun) ∧ t.eng.active = s.eng.active ∧
      (∀ k, k ≠ e → t.engine k = s.engine k) ∧ t = { s with eng := t.eng, rx := t.rx, lc := t.lc } := by
  have run := exec_slotDeadline (prev := prev) inside slot task undone live
  obtain ⟨drops, overrun, others, active, rest⟩ := dropCounted_counts s (slotBudget (sget 0 s.eng.active (16 * e + i)) <
      taskDeadline (slotTask (sget 0 s.eng.active (16 * e + i))) s.cycles - max (slotStart (sget 0 s.eng.active (16 * e + i))) prev) listed
  generalize s.dropCounted e (slotBudget (sget 0 s.eng.active (16 * e + i)) <
      taskDeadline (slotTask (sget 0 s.eng.active (16 * e + i))) s.cycles - max (slotStart (sget 0 s.eng.active (16 * e + i))) prev) = u
    at run drops overrun others active rest
  rw [stopSlot_eq] at run
  refine ⟨_, run, drops, overrun, active, others, ?_⟩
  rw [rest]

end

/-! ### O38: what a boundary leaves of the link and of the sequences -/

/-- A step that leaves the link, the quiet state, the transmit sequence and the timeline's own count. -/
structure BeatStep (s t : State) : Prop where
  link : t.link = s.link
  ql : t.ql = s.ql
  seq : t.lc.run.txSeq = s.lc.run.txSeq
  period : t.eng.period = s.eng.period
  cycle : t.eng.cycle = s.eng.cycle

namespace BeatStep

theorem refl (s : State) : BeatStep s s := ⟨rfl, rfl, rfl, rfl, rfl⟩

theorem trans {s t u : State} (a : BeatStep s t) (b : BeatStep t u) : BeatStep s u :=
  ⟨b.link.trans a.link, b.ql.trans a.ql, b.seq.trans a.seq, b.period.trans a.period, b.cycle.trans a.cycle⟩

theorem ite {s a b : State} {c : Prop} [Decidable c] (ha : BeatStep s a) (hb : BeatStep s b) : BeatStep s (if c then a else b) := by
  split
  · exact ha
  · exact hb

theorem foldl {α : Type} {f : State → α → State} (each : ∀ u x, BeatStep u (f u x)) (l : List α) (s : State) : BeatStep s (l.foldl f s) := by
  induction l generalizing s with
  | nil => exact refl s
  | cons x l ih => exact (each s x).trans (ih _)

theorem of_units {s t : State} (link : t.link = s.link) (ql : t.ql = s.ql) (lc : t.lc = s.lc) (eng : t.eng = s.eng) : BeatStep s t :=
  ⟨link, ql, congrArg (fun l : LineCode => l.run.txSeq) lc, congrArg Engines.period eng, congrArg Engines.cycle eng⟩

variable (s : State)

theorem rx (r : Receive) : BeatStep s { s with rx := r } := ⟨rfl, rfl, rfl, rfl, rfl⟩

theorem cal (c : Cal) : BeatStep s { s with cal := c } := ⟨rfl, rfl, rfl, rfl, rfl⟩

theorem modRun (f : LcRun → LcRun) (kept : (f s.lc.run).txSeq = s.lc.run.txSeq) : BeatStep s (s.modRun f) := ⟨rfl, rfl, kept, rfl, rfl⟩

theorem emit (o : Out) : BeatStep s (s.emit o) := ⟨rfl, rfl, rfl, rfl, rfl⟩

theorem drawn : BeatStep s s.drawn := ⟨rfl, rfl, rfl, rfl, rfl⟩

theorem modRing (i : Nat) (f : Ring → Ring) : BeatStep s (s.modRing i f) := ⟨rfl, rfl, rfl, rfl, rfl⟩

theorem modEngine (e : Nat) (f : Engine → Engine) : BeatStep s (s.modEngine e f) := ⟨rfl, rfl, rfl, rfl, rfl⟩

theorem logEntry (u sev kind detail obj a0 a1 a2 a3 : Nat) : BeatStep s (s.logEntry u sev kind detail obj a0 a1 a2 a3) := by
  rw [State.logEntry_eq]
  exact ⟨rfl, rfl, rfl, rfl, rfl⟩

theorem raiseEvent (i : Nat) : BeatStep s (s.raiseEvent i) :=
  of_units (State.raiseEvent_link ..) (State.raiseEvent_ql ..) (State.raiseEvent_lc ..) (State.raiseEvent_eng ..)

theorem endRun (op : Nat) (p : Capsule → Bool) (st : Status) (r : List (Nat × Nat)) : BeatStep s (s.endRun op p st r) :=
  of_units (State.endRun_link ..) (State.endRun_ql ..) (State.endRun_lc ..) (State.endRun_eng ..)

/-! What the engines did, and what entered -/

theorem repairCause (e cause : Nat) (auto : Bool) : BeatStep s (s.repairCause e cause auto) := by
  have told : ∀ f : Engine → Engine, ∀ sev kind detail : Nat, BeatStep s (((s.modEngine e f).logEntry unitEngines sev kind detail 0x02 e).raiseEvent evEngines) := fun f sev kind detail =>
    ((modEngine s e f).trans (logEntry _ _ _ _ _ _ _ _ _ _)).trans (raiseEvent _ _)
  unfold State.repairCause
  exact ite (refl s) (ite (told _ _ _ _) (ite (told _ _ _ _) ⟨rfl, rfl, rfl, rfl, rfl⟩))

theorem recordLoad (ls : List EngineLoad) : BeatStep s (s.recordLoad ls) := by
  have each : ∀ (u : State) (e : Nat) (f : Engine → Engine) (c : Bool), BeatStep u (if c then (u.modEngine e f).repairCause e 3 true else u.modEngine e f) := fun u e f c =>
    ite ((modEngine u e f).trans (repairCause _ _ _ _)) (modEngine u e f)
  unfold State.recordLoad
  refine BeatStep.trans (foldl (fun u e => ?_) _ s) ⟨rfl, rfl, rfl, rfl, rfl⟩
  exact each u e _ _

theorem enterPeriod (adc : Quad (List Int)) : BeatStep s (s.enterPeriod adc) := rx s _

theorem acquireGain : BeatStep s s.acquireGain := by
  unfold State.acquireGain
  exact ((ite (rx s _) (refl s) : BeatStep s _).trans (ite (rx _ _) (refl _))).trans (rx _ _)

theorem trainIn : BeatStep s s.trainIn := by
  unfold State.trainIn
  exact (rx s _).trans (ite (rx _ _) (rx _ _))

theorem sampleAdc (p : Pair) (age : Nat) (part : Bool) : BeatStep s (s.sampleAdc p age part) := ite (cal s _) (cal s _)

theorem loopbackIn : BeatStep s s.loopbackIn := by
  unfold State.loopbackIn
  refine foldl (fun u p => ?_) _ s
  exact (sampleAdc u p 0 true).trans (cal _ _)

theorem openEngines : BeatStep s s.openEngines := ⟨rfl, rfl, rfl, rfl, rfl⟩

/-! One period of calibration -/

theorem heldRevert : BeatStep s s.heldRevert := by
  unfold State.heldRevert
  exact ite ⟨rfl, rfl, rfl, rfl, rfl⟩ (refl s)

theorem finishCal : BeatStep s s.finishCal := by
  unfold State.finishCal
  split
  · exact refl s
  · exact ((cal s _).trans (endRun _ _ _ _ _)).trans (heldRevert _)

theorem endCalItem (item pair code : Nat) (changed : Bool) : BeatStep s (s.endCalItem item pair code changed) := by
  unfold State.endCalItem
  split
  · exact refl s
  · exact ite (refl s) (ite ((cal s _).trans (finishCal _)) (cal s _))

theorem selectDone (p : Pair) : BeatStep s (s.selectDone p) := by
  unfold State.selectDone
  refine ite ?_ (refl s)
  split
  · exact ite (endCalItem s _ _ _ _) (refl s)
  · exact refl s

theorem echoSettled (p : Pair) : BeatStep s (s.echoSettled p) := by
  unfold State.echoSettled
  refine ite ?_ (refl s)
  exact ite ⟨rfl, rfl, rfl, rfl, rfl⟩ ⟨rfl, rfl, rfl, rfl, rfl⟩

theorem pairDetents (go quiet : Bool) (p : Pair) : BeatStep s (s.pairDetents go quiet p) := by
  unfold State.pairDetents
  exact ite (((cal s _).trans (selectDone _ _)).trans (echoSettled _ _)) (((cal s _).trans (selectDone _ _)).trans (echoSettled _ _))

theorem calTick : BeatStep s s.calTick := by
  have lanes : ∀ n, BeatStep s (s.lanePhases n) := fun n => ⟨rfl, rfl, rfl, rfl, rfl⟩
  have held : ∀ (u : State) (f : CalPair → Pair → List Byte → CalPair), BeatStep u (u.takeHeld f) := fun u f => by
    unfold State.takeHeld
    split
    · exact refl u
    · exact ite (refl u) (cal u _)
  unfold State.calTick
  exact ((lanes _).trans (held _ _)).trans (ite (refl _) (foldl (fun u p => pairDetents u _ _ p) _ _))

/-! What is sent -/

theorem beginMsg (kn : Bool) (seq : Nat) : BeatStep s (s.beginMsg kn seq) := by
  unfold State.beginMsg
  dsimp only
  split
  · exact modRun s _ rfl
  · exact ite (modRun s _ rfl) (refl s)
  · exact (modRun s _ rfl).trans (drawn _)
  · exact refl s

theorem infoTx (kn : Bool) (seq room : Nat) : BeatStep s (s.infoTx kn seq room).1 := by
  have aged : BeatStep s (s.modRun (fun r => { r with ifOut := r.ifOut.map (fun o => if 0 < o.sends then { o with waited := o.waited + 1 } else o) })) := modRun s _ rfl
  unfold State.infoTx
  generalize s.modRun (fun r => { r with ifOut := r.ifOut.map (fun o => if 0 < o.sends then { o with waited := o.waited + 1 } else o) }) = u at aged
  dsimp only
  split
  · exact aged
  · next i _ =>
    have begun : BeatStep s (if i = 0 then (if sliceCount kn ≤ room then u.beginMsg kn seq else u) else u) :=
      ite (ite (aged.trans (beginMsg u kn seq)) aged) aged
    generalize (if i = 0 then (if sliceCount kn ≤ room then u.beginMsg kn seq else u) else u) = v at begun
    split
    · exact begun
    · exact begun.trans (ite (refl v) (modRun v _ rfl))

theorem drive (kind : Nat) (precode : Bool) (sym : Pair → Option (List Int)) : BeatStep s (s.drive kind precode sym) := by
  obtain ⟨pre, cnt, dac, driven⟩ := drivePairs_lc s precode sym
  unfold State.drive
  generalize s.drivePairs precode sym = r at driven
  dsimp only
  rw [driven]
  exact ⟨rfl, rfl, rfl, rfl, rfl⟩

theorem pushItem (typ : Nat) (body : List Byte) : BeatStep s (s.pushItem typ body) := modRun s _ rfl

theorem pushFrame (f : TxFrame) (dt : Nat) : BeatStep s (s.pushFrame f dt) := by
  unfold State.pushFrame
  refine BeatStep.trans ?_ (modRing _ _ _)
  exact ⟨rfl, rfl, rfl, rfl, rfl⟩

theorem pushOam (o : List Byte) : BeatStep s (s.pushOam o) := (pushItem s 1 o).trans (modRun _ _ rfl)

theorem pushLast (left : Nat) : BeatStep s (s.pushLast left) := ⟨rfl, rfl, rfl, rfl, rfl⟩

theorem pushIdle : BeatStep s s.pushIdle := (pushItem s 3 _).trans (drawn _)

theorem fillStream (need : Nat) (total : Option Nat) (idleOnly : Bool) (fuel : Nat) : ∀ s : State, BeatStep s (s.fillStream need total idleOnly fuel) := by
  induction fuel with
  | zero => exact fun s => refl s
  | succ fuel ih =>
    intro s
    unfold State.fillStream
    refine ite (refl s) (ite (modRun s _ rfl) (ite ((ite (pushLast s _) (pushIdle s) : BeatStep s _).trans (ih _)) ?_))
    split
    · exact ite ((pushOam s _).trans (ih _)) ((pushLast s _).trans (ih _))
    · exact ite ((pushFrame s _ _).trans (ih _)) ((pushLast s _).trans (ih _))
    · exact (ite (pushLast s _) (pushIdle s) : BeatStep s _).trans (ih _)

theorem itemSent (x : Leaving) : BeatStep s (s.itemSent x) := by
  unfold State.itemSent
  split
  · exact refl s
  · exact ⟨rfl, rfl, rfl, rfl, rfl⟩

theorem takeStream (n : Nat) : BeatStep s (s.takeStream n) := by
  unfold State.takeStream
  exact (modRun s _ rfl).trans (foldl itemSent _ _)

theorem probe (p : Pair) : BeatStep s (s.probe p) := by
  unfold State.probe
  exact ite ⟨rfl, rfl, rfl, rfl, rfl⟩ (ite ⟨rfl, rfl, rfl, rfl, rfl⟩ (refl s))

theorem probes (idle : Bool) : BeatStep s (s.probes idle) := by
  unfold State.probes
  exact foldl (fun u p => ite (probe u p) (refl u)) _ s

theorem statusStep (seq : Nat) : BeatStep s (s.statusStep seq) := ⟨rfl, rfl, rfl, rfl, rfl⟩

theorem silent : BeatStep s s.silent := ⟨rfl, rfl, rfl, rfl, rfl⟩

theorem loopback : BeatStep s s.loopback := rx s _

end BeatStep

/-- A data period moves the transmit sequence on (R54). -/
theorem sendData_seq (s : State) (idleOnly : Bool) (room : Nat) : (s.sendData idleOnly room).lc.run.txSeq = (s.lc.run.txSeq + 1) % 256 ∧
    (s.sendData idleOnly room).link = s.link ∧ (s.sendData idleOnly room).ql = s.ql ∧ (s.sendData idleOnly room).eng.period = s.eng.period := by
  have sent : ∀ u v : State, BeatStep s u → (v = u.modRun (fun r => { r with txSeq := (s.lc.run.txSeq + 1) % 256 })) →
      v.lc.run.txSeq = (s.lc.run.txSeq + 1) % 256 ∧ v.link = s.link ∧ v.ql = s.ql ∧ v.eng.period = s.eng.period := by
    rintro u _ kept rfl
    exact ⟨rfl, kept.link, kept.ql, kept.period⟩
  refine sent _ _ ?_ rfl
  refine BeatStep.trans ?_ (BeatStep.drive _ _ _ _)
  refine BeatStep.trans ?_ (BeatStep.takeStream _ _)
  refine BeatStep.trans ?_ (BeatStep.infoTx _ _ _ _)
  refine BeatStep.trans ?_ (BeatStep.statusStep _ _)
  exact (BeatStep.fillStream _ _ _ _ s).trans (BeatStep.probes _ _)

/-- A training period moves TSEQ on (R163). -/
theorem sendTraining_seq (s : State) (phase : Nat) (frt : Bool) : (s.sendTraining phase frt).link.train.tseq = (s.link.train.tseq + 1) % 256 ∧
    (s.sendTraining phase frt).link.train.pos = s.link.train.pos + 1 ∧ (s.sendTraining phase frt).link.state = s.link.state ∧
    (s.sendTraining phase frt).eng.period = s.eng.period := by
  have sent : ∀ w v : State, BeatStep w v → w.link.train.tseq = (s.link.train.tseq + 1) % 256 ∧ w.link.train.pos = s.link.train.pos + 1 ∧
      w.link.state = s.link.state ∧ w.eng.period = s.eng.period → v.link.train.tseq = (s.link.train.tseq + 1) % 256 ∧ v.link.train.pos = s.link.train.pos + 1 ∧
      v.link.state = s.link.state ∧ v.eng.period = s.eng.period := by
    intro w v step stands
    rw [step.link, step.period]
    exact stands
  have told : BeatStep s (if phase = 1 then (s, 0) else s.infoTx false s.link.train.tseq 256).1 := by
    split
    · exact BeatStep.refl s
    · exact BeatStep.infoTx s _ _ _
  unfold State.sendTraining
  dsimp only
  refine sent _ _ (BeatStep.ite (BeatStep.drive _ _ _ _) (BeatStep.silent _)) ?_
  exact ⟨rfl, rfl, (congrArg Link.state told.link :), told.period⟩

/-! ### O38: the boundary -/

/-- The period that ends is counted, and the erasures move on (R102, R125). -/
def State.countPeriod (s : State) : State :=
  { s with eng := { s.eng with period := s.eng.period + 1, cycle := 0 }, rx := { s.rx with pair := s.rx.pair.map (·.nextPeriod) } }

/-- Training and the loopback learn from the period that ends, gates open, and calibration moves on (R170, R238, R138, R235). -/
def State.learnPeriodEnd (s : State) : State :=
  let t := if 4 ≤ s.link.state && s.link.state ≤ 9 && !s.lc.run.rxOn && s.nativeMode then s.trainIn else s
  (if t.link.state = 0 && t.cal.run.isSome then t.loopbackIn else t).openEngines.calTick

theorem learnPeriodEnd_step (s : State) : BeatStep s s.learnPeriodEnd := by
  have learnt := BeatStep.ite (c := (4 ≤ s.link.state && s.link.state ≤ 9 && !s.lc.run.rxOn && s.nativeMode) = true) (BeatStep.trainIn s) (BeatStep.refl s)
  unfold State.learnPeriodEnd
  exact ((learnt.trans (BeatStep.ite (BeatStep.loopbackIn _) (BeatStep.refl _))).trans (BeatStep.openEngines _)).trans (BeatStep.calTick _)

theorem exec_timelineBoundary_eq {s : State} (ls : List EngineLoad) (adc : Quad (List Int)) (held : s.heldReset = false) :
    exec (.timelineBoundary ls adc) s = .next ((((s.recordLoad ls).enterPeriod adc).acquireGain.countPeriod).learnPeriodEnd).txPeriod :=
  congrArg Host.Outcome.next (if_neg (by simp [held]))

/-- A boundary counts a period, and the period that begins is sent from where the link and the sequences stood (R125). -/
theorem exec_timelineBoundary {s : State} (ls : List EngineLoad) (adc : Quad (List Int)) (held : s.heldReset = false) :
    ∃ u : State, exec (.timelineBoundary ls adc) s = .next u.txPeriod ∧ u.link = s.link ∧ u.ql = s.ql ∧ u.lc.run.txSeq = s.lc.run.txSeq ∧
      u.eng.period = s.eng.period + 1 ∧ u.eng.cycle = 0 := by
  have run := exec_timelineBoundary_eq ls adc held
  have entered := ((BeatStep.recordLoad s ls).trans (BeatStep.enterPeriod _ adc)).trans (BeatStep.acquireGain _)
  generalize ((s.recordLoad ls).enterPeriod adc).acquireGain = a at run entered
  have step := learnPeriodEnd_step a.countPeriod
  exact ⟨_, run, step.link.trans entered.link, step.ql.trans entered.ql, step.seq.trans entered.seq, step.period.trans (congrArg (· + 1) entered.period), step.cycle⟩

/-- The period that begins while nothing is sent (R238). -/
theorem txPeriod_idle (s : State) (down : s.link.state ≤ 3) : BeatStep s s.txPeriod := by
  have data : s.nativeData = false := by
    unfold State.nativeData
    rw [decide_eq_false (by omega), Bool.false_and]
  have linked : s.linkInData = false := by
    unfold State.linkInData
    rw [decide_eq_false (by omega), decide_eq_false (by omega)]
    rfl
  unfold State.txPeriod
  rw [if_neg (by omega), if_neg (by omega), if_neg (by omega), if_neg (by omega), if_neg (by simp; omega), if_neg (by simp [data]), if_neg (by simp [linked]),
    if_neg (by simp [linked])]
  exact BeatStep.ite ((BeatStep.loopback s).trans (BeatStep.foldl BeatStep.probe _ _)) (BeatStep.refl s)

/-- The period that begins in training is a training period (R163). -/
theorem txPeriod_training (s : State) (low : 4 ≤ s.link.state) (high : s.link.state ≤ 7) : ∃ phase, s.txPeriod = s.sendTraining phase false := by
  unfold State.txPeriod
  by_cases four : s.link.state = 4
  · exact ⟨1, if_pos four⟩
  · rw [if_neg four]
    by_cases five : s.link.state = 5
    · exact ⟨2, if_pos five⟩
    · rw [if_neg five]
      by_cases six : s.link.state = 6
      · exact ⟨3, if_pos six⟩
      · rw [if_neg six]
        exact ⟨4, if_pos (by omega)⟩

/-- The period that begins in native data outside Quiet-Latch is a data period (R54). -/
theorem txPeriod_data (s : State) (data : s.nativeData = true) (awake : s.ql.run.txState = 0) (normal : s.ql.run.laid = false) :
    ∃ ql, s.txPeriod = { s.sendData false 256 with ql := ql } := by
  have state : s.link.state = 8 := by
    unfold State.nativeData at data
    simp at data
    exact data.1
  have sent : s.sendQuiet = s.sendData false 256 := by
    unfold State.sendQuiet
    dsimp only
    rw [awake]
    rcases s.ql.run.qc with _ | k
    · rfl
    · rfl
  obtain ⟨-, -, ql, -⟩ := sendData_seq s false 256
  unfold State.txPeriod
  rw [if_neg (by omega), if_neg (by omega), if_neg (by omega), if_neg (by omega), if_neg (by simp; omega), if_pos data, sent]
  generalize s.sendData false 256 = u at ql
  have left : u.leaveQuiet = u := if_pos (by simp [ql, normal])
  have bank : u.quietBank = u.modQl (fun q => { q with rx := q.rx.map (fun r => { r with bankIn := r.bankIn.map (· - 1) }) }) :=
    if_neg (by simp [State.modQl, ql, normal])
  rw [left, bank]
  unfold State.idleTick
  split
  · split
    · exact ⟨_, rfl⟩
    · exact ⟨_, rfl⟩
  · exact ⟨_, rfl⟩

/-- Settles O38. -/
theorem theTimelineAdvances : Obligations.TheTimelineAdvances := by
  refine ⟨fun s e i n prev inside slot listed task => ⟨fun undone live => slotDeadline_counts inside slot task listed undone live, exec_slotDeadline_idle⟩,
    fun s ls adc held down => ?_, fun s ls adc held low high => ?_, fun s ls adc held data awake normal => ?_⟩
  · obtain ⟨u, run, link, ql, -, period, cycle⟩ := exec_timelineBoundary ls adc held
    have sent := txPeriod_idle u (by rw [link]; exact down)
    exact ⟨_, run, sent.period.trans period, sent.cycle.trans cycle, sent.link.trans link, sent.ql.trans ql⟩
  · obtain ⟨u, run, link, -, -, period, -⟩ := exec_timelineBoundary ls adc held
    obtain ⟨phase, sent⟩ := txPeriod_training u (by rw [link]; exact low) (by rw [link]; exact high)
    obtain ⟨tseq, pos, state, kept⟩ := sendTraining_seq u phase false
    rw [sent] at run
    rw [link] at tseq pos state
    exact ⟨_, run, kept.trans period, tseq, pos, state⟩
  · obtain ⟨u, run, link, ql, seq, period, -⟩ := exec_timelineBoundary ls adc held
    obtain ⟨q, sent⟩ := txPeriod_data u (by unfold State.nativeData; rw [link]; exact data) (by rw [ql]; exact awake) (by rw [ql]; exact normal)
    obtain ⟨moved, -, -, kept⟩ := sendData_seq u false 256
    rw [sent] at run
    rw [seq] at moved
    exact ⟨_, run, kept.trans period, moved⟩

end Sys2Proof.Machine
end

section
/-! PROOFS. O27: the sources of the root, and LCLK -/

namespace Sys2Proof.Machine

set_option Elab.async false

/-! ### O27: losing lock, and the windows of the monitors -/

/-- Losing lock aborts a self-test; with none running it only clears ML0_LOCK (R436). -/
theorem loseLock_idle {s : State} (idle : s.bist.run = none) (started : s.bist.startup = false) : s.loseLock = s.modClk (fun c => { c with ml0Lock := false }) := by
  have none : (s.modClk (fun c => { c with ml0Lock := false })).excursion = s.modClk (fun c => { c with ml0Lock := false }) := by
    have kept : (s.modClk (fun c => { c with ml0Lock := false })).startupExcursion = s.modClk (fun c => { c with ml0Lock := false }) := if_pos (by simp [State.modClk, started])
    unfold State.excursion
    rw [kept]
    exact abortTest_idle idle
  unfold State.loseLock
  dsimp only
  rw [none, ite_self]

/-- ML1 alone is written as a link's timing is tracked, and that only with a link and its gate open (R293). -/
theorem trackMl1_eq (s : State) : ∃ word, s.trackMl1 = s.modClk (fun c => { c with ml1 := word }) ∧ (s.link.state < 4 ∨ s.gate.closed.getLsbD 105 = true → word = s.clk.ml1) := by
  unfold State.trackMl1
  by_cases still : s.link.state < 4 ∨ s.gate.closed.getLsbD 105 = true
  · rw [if_pos (by simpa using still)]
    exact ⟨s.clk.ml1, rfl, fun _ => rfl⟩
  · rw [if_neg (by simpa using still)]
    exact ⟨_, rfl, fun yes => absurd yes still⟩

section
variable (s : State) (a b : Int) (c : Option Int)

/-- What CM2 records of a window in which XIN0 runs (R308). -/
theorem takeWindow_xin0 (cfg : s.clk.xin0Cfg ≠ 0) : ∃ mon first, s.takeWindow { ifo := some a, iso := true, x0 := some b, x1 := c } =
      { s with clk := { s.clk with mon := mon, ifoFirst := first } } ∧ mon.at 2 = (s.clk.mon.at 2).record b 0 (decide (b.natAbs ≤ 10000)) ∧
      (∀ x, c = some x → s.clk.xin1Cfg ≠ 0 → mon.at 3 = (s.clk.mon.at 3).record x 0 (decide (x.natAbs ≤ 10000))) ∧ (c = none → (mon.at 3).goodWin = 0) := by
  have configured : ∀ m f, Clock.xinCfg { s.clk with mon := m, ifoFirst := f } 1 ≠ 0 := fun _ _ => cfg
  unfold State.takeWindow
  dsimp only
  rw [if_pos rfl, if_neg (configured _ _)]
  cases c with
  | none =>
    refine ⟨_, _, rfl, ?_, fun x none => absurd none (by simp), fun _ => ?_⟩
    · simp [monOf, Quad.at_upd]
    · simp [monOf]
  | some x =>
    by_cases second : s.clk.xin1Cfg = 0
    · dsimp only
      rw [if_pos (by exact second)]
      refine ⟨_, _, rfl, ?_, fun _ _ no => absurd second no, fun none => absurd none (by simp)⟩
      simp [monOf, Quad.at_upd]
    · dsimp only
      rw [if_neg (by exact second)]
      refine ⟨_, _, rfl, ?_, fun y found _ => ?_, fun none => absurd none (by simp)⟩
      · simp [monOf, Quad.at_upd]
      · simp [monOf, Quad.at_upd, Option.some.inj found]

end

/-- The window as the monitors see it: with VDD_IO low the XIN inputs are dead (R457). -/
def State.seenWindow (s : State) (w : ClockWindow) : ClockWindow := if s.pwr.railLow.getLsbD 4 then { w with x0 := none, x1 := none } else w

/-- The window taken, with the ISO judged (R288, R290). -/
def State.isoJudged (s : State) (w : ClockWindow) : State :=
  if (match w.ifo with | some x => !w.iso || decide (100000000 + x < 10 * (x.natAbs : Int)) | none => false) then
    (if s.clk.isoFailed then s.takeWindow w else (s.takeWindow w).isoFails)
  else (s.takeWindow w).modClk (fun c => { c with isoFailed := false })

/-- The sources that a window judges failed (R289). -/
def State.badSources (s : State) (w : ClockWindow) : List Nat := failedSources s.clk w (fun i => (s.clk.mon.at (monOf i)).running)

/-- The sources that this window judges failed, taken out of use (R290). -/
def State.failSources (s : State) (bad : List Nat) : State := bad.foldl (fun st i => if st.clk.failed.getLsbD i then st else st.sourceFailed i) s

/-- The sources that this window judges stable, and a reference that REF_SEL asks for (R292). -/
def State.riseSources (s : State) (bad : List Nat) : State :=
  let s4 := ((List.range 3).filter (fun i => s.clk.rises i && !bad.contains i)).foldl (fun st i => st.sourceStable i) s
  let s5 := if s4.clk.holdover && s4.clk.srcInUse ≠ 3 then s4.modClk (fun c => { c with holdover := false }) else s4
  match s5.clk.wanted with
  | some i => if s5.clk.revert && s5.clk.ready && s5.clk.srcInUse ≠ i then (s5.switchTo i).raiseEvent evClock else s5
  | none => s5

theorem exec_clockMonitorWindow {s : State} (w : ClockWindow) (por : s.pwr.porHeld = false) (warm : s.pwr.warmHeld = false) :
    exec (.clockMonitorWindow w) s = .next (((s.isoJudged (s.seenWindow w)).failSources (s.badSources (s.seenWindow w))).riseSources (s.badSources (s.seenWindow w))).trackMl1 :=
  congrArg Host.Outcome.next (if_neg (by simp [por, warm]))

/-- An IFO near its ratio leaves the ISO good (R288). -/
theorem isoJudged_good (s : State) (a : Int) (x0 x1 : Option Int) (near : a.natAbs ≤ 5000) : s.isoJudged { ifo := some a, iso := true, x0 := x0, x1 := x1 } =
    (s.takeWindow { ifo := some a, iso := true, x0 := x0, x1 := x1 }).modClk (fun c => { c with isoFailed := false }) :=
  if_neg (by simp only [Bool.not_true, Bool.false_or, decide_eq_true_eq]; omega)

/-- With no source that rises, no holdover and the reference that REF_SEL asks for in use, or none to be had, nothing is switched (R292). -/
theorem riseSources_none {s : State} {bad : List Nat} (none : ∀ i < 3, (s.clk.rises i && !bad.contains i) = false) (held : s.clk.holdover = false)
    (steady : s.clk.wanted = Option.none ∨ s.clk.wanted = some s.clk.srcInUse) : s.riseSources bad = s := by
  have still : (List.range 3).filter (fun i => s.clk.rises i && !bad.contains i) = [] :=
    List.filter_eq_nil_iff.mpr fun i mem => by rw [none i (List.mem_range.mp mem)]; decide
  unfold State.riseSources
  rw [still]
  dsimp only [List.foldl_nil]
  rw [if_neg (by simp [held])]
  rcases steady with absent | here
  · rw [absent]
  · rw [here]
    exact if_neg (by simp)

theorem clock_seven : ∀ i < 3, (7 : BitVec 3).getLsbD i = true := by decide

/-- A window in which every running source is good and the reference asked for is in use is only recorded (R288, R308). -/
theorem clockMonitorWindow_records {s : State} {a b c : Int} (por : s.pwr.porHeld = false) (warm : s.pwr.warmHeld = false) (rail : s.pwr.railLow.getLsbD 4 = false)
    (stable : s.clk.stable = 7) (cfg0 : s.clk.xin0Cfg ≠ 0) (cfg1 : s.clk.xin1Cfg ≠ 0) (iso : s.clk.isoFailed = false) (held : s.clk.holdover = false)
    (asked : s.clk.refSel = s.clk.srcInUse) (used : s.clk.srcInUse ≤ 2) (near : a.natAbs ≤ 5000) (near0 : b.natAbs ≤ 10000) (near1 : c.natAbs ≤ 10000) :
    ∃ t : State, exec (.clockMonitorWindow { ifo := some a, iso := true, x0 := some b, x1 := some c }) s = .next t ∧
      (t.clk.mon.at 2).offset = b ∧ (t.clk.mon.at 2).goodWin = min 255 ((s.clk.mon.at 2).goodWin + 1) ∧
      (t.clk.mon.at 2).worst = max (s.clk.mon.at 2).worst b.natAbs ∧ (t.clk.mon.at 3).offset = c ∧
      (s.link.state < 4 ∨ s.gate.closed.getLsbD 105 = true → t.clk.ml1 = s.clk.ml1) ∧
      t.clk = { s.clk with mon := t.clk.mon, ifoFirst := t.clk.ifoFirst, ml1 := t.clk.ml1 } ∧ t = { s with clk := t.clk } := by
  have seen : s.seenWindow { ifo := some a, iso := true, x0 := some b, x1 := some c } = { ifo := some a, iso := true, x0 := some b, x1 := some c } := if_neg (by simp only [rail]; decide)
  have none : s.badSources { ifo := some a, iso := true, x0 := some b, x1 := some c } = [] := by
    have here : ∀ i < 3, s.clk.isStable i = true := fun i small => by unfold Clock.isStable; rw [stable]; exact clock_seven i small
    unfold State.badSources failedSources
    dsimp only
    have steady : ¬ 50000 < b.natAbs := by omega
    have steady' : ¬ 50000 < c.natAbs := by omega
    simp [here 1 (by decide), here 2 (by decide), steady, steady']
  obtain ⟨mon, first, taken, mon2, mon3, -⟩ := takeWindow_xin0 s a b (some c) cfg0
  have run := exec_clockMonitorWindow { ifo := some a, iso := true, x0 := some b, x1 := some c } por warm
  rw [seen, none, isoJudged_good s a _ _ near, taken] at run
  have clock : ({ s with clk := { s.clk with mon := mon, ifoFirst := first } } : State).modClk (fun c => { c with isoFailed := false }) =
      { s with clk := { s.clk with mon := mon, ifoFirst := first } } := by
    unfold State.modClk
    dsimp only
    rw [← iso]
  have still : ({ s with clk := { s.clk with mon := mon, ifoFirst := first } } : State).riseSources [] = { s with clk := { s.clk with mon := mon, ifoFirst := first } } := by
    have here : ∀ i < 3, Clock.isStable { s.clk with mon := mon, ifoFirst := first } i = true := fun i small => by
      show s.clk.stable.getLsbD i = true
      rw [stable]
      exact clock_seven i small
    refine riseSources_none (fun i small => ?_) held (.inr ?_)
    · unfold Clock.rises
      rw [here i small]
      rfl
    · show (if s.clk.refSel = 3 then _ else if Clock.isStable { s.clk with mon := mon, ifoFirst := first } s.clk.refSel then some s.clk.refSel else Option.none) = some s.clk.srcInUse
      rw [if_neg (by omega), asked, if_pos (here _ (by omega))]
  have unfailed : ∀ u : State, u.failSources [] = u := fun _ => rfl
  rw [clock, unfailed, still] at run
  obtain ⟨word, tracked, kept⟩ := trackMl1_eq { s with clk := { s.clk with mon := mon, ifoFirst := first } }
  rw [tracked] at run
  have third := mon3 c rfl cfg1
  refine ⟨_, run, ?_, ?_, ?_, ?_, kept, rfl, rfl⟩
  · show (mon.at 2).offset = b
    rw [mon2]
    simp only [ClkMon.record, clampInt]
    omega
  · show (mon.at 2).goodWin = _
    rw [mon2]
    exact if_pos (decide_eq_true near0)
  · show (mon.at 2).worst = _
    rw [mon2]
    simp only [ClkMon.record]
    omega
  · show (mon.at 3).offset = c
    rw [third]
    simp only [ClkMon.record, clampInt]
    omega

/-! ### O27: a source that fails -/

/-- The root goes over to the IFO, ML0 out of lock (R290, R291). -/
theorem replaceRef_ifo {s : State} (xin : s.clk.srcInUse ≠ 0) (stable : s.clk.isStable 0 = true) (idle : s.bist.run = none) (started : s.bist.startup = false) :
    s.replaceRef = s.modClk (fun c => { c with srcInUse := 0, holdover := false, switches := inc 16 c.switches, ml0Lock := false }) := by
  have found : (if s.clk.srcInUse = 0 then [1, 2] else [0]).find? s.clk.isStable = some 0 := by
    rw [if_neg xin]
    simp [stable]
  unfold State.replaceRef
  dsimp only
  rw [found]
  exact loseLock_idle idle started

/-- XIN0 in use, judged failed: record, event and the IFO as the root (R290). -/
theorem sourceFailed_xin0 {s : State} (used : s.clk.srcInUse = 1) (stable : s.clk.stable = 3) (failed : s.clk.failed = 0) (idle : s.bist.run = none)
    (started : s.bist.startup = false) : ∃ mon, (s.sourceFailed 1).clk = { s.clk with
        stable := 1, failed := 2, fails := inc 8 s.clk.fails, mon := mon, srcInUse := 0, holdover := false, switches := inc 16 s.clk.switches, ml0Lock := false } ∧
      mon.at 3 = s.clk.mon.at 3 ∧ (s.sourceFailed 1).fp.nme = s.fp.nme ||| BitVec.twoPow 7 nmeClock ∧ (s.sourceFailed 1).link = s.link ∧ (s.sourceFailed 1).ward = s.ward := by
  have recorded : ∃ u : State, (s.sourceFailed 1) = u.replaceRef ∧ (∃ mon, u.clk = { s.clk with stable := 1, failed := 2, fails := inc 8 s.clk.fails, mon := mon } ∧
      mon.at 3 = s.clk.mon.at 3) ∧ u.fp.nme = s.fp.nme ||| BitVec.twoPow 7 nmeClock ∧ u.link = s.link ∧ u.ward = s.ward ∧ u.bist = s.bist := by
    refine ⟨_, if_pos used, ⟨s.clk.mon.upd 2 (fun m => { m with goodWin := 0, fails := inc 16 m.fails }), ?_, Quad.at_upd_ne (by decide)⟩, ?_, ?_, ?_, ?_⟩
    · simp only [State.logEntry_clk, State.raiseNme_clk, State.modClk, stable, failed]
      rfl
    · simp only [State.logEntry_fp, raiseNme_nme, State.modClk]
    · simp only [State.logEntry_link, State.raiseNme_link, State.modClk]
    · simp only [State.logEntry_ward, State.raiseNme_ward, State.modClk]
    · simp only [State.logEntry_bist, State.raiseNme_bist, State.modClk]
  obtain ⟨u, is, ⟨mon, clk, kept⟩, nme, link, ward, bist⟩ := recorded
  have replaced := replaceRef_ifo (s := u) (by rw [clk]; show s.clk.srcInUse ≠ 0; omega) (by rw [clk]; show (1 : BitVec 3).getLsbD 0 = true; decide) (by rw [bist]; exact idle) (by rw [bist]; exact started)
  rw [is, replaced]
  refine ⟨mon, ?_, kept, nme, link, ward⟩
  unfold State.modClk
  dsimp only
  rw [clk]

/-- An XIN in use that strays by more than 500 ppm is judged failed, and the root goes over to the IFO (R289, R290). -/
theorem clockMonitorWindow_fails {s : State} {a b : Int} (por : s.pwr.porHeld = false) (warm : s.pwr.warmHeld = false) (rail : s.pwr.railLow.getLsbD 4 = false)
    (stable : s.clk.stable = 3) (failed : s.clk.failed = 0) (cfg0 : s.clk.xin0Cfg ≠ 0) (cfg1 : s.clk.xin1Cfg = 0) (asked : s.clk.refSel = 1)
    (used : s.clk.srcInUse = 1) (idle : s.bist.run = none) (started : s.bist.startup = false) (near : a.natAbs ≤ 5000) (off : 50000 < b.natAbs) :
    ∃ t : State, exec (.clockMonitorWindow { ifo := some a, iso := true, x0 := some b, x1 := none }) s = .next t ∧
      t.clk.srcInUse = 0 ∧ t.clk.stable = 1 ∧ t.clk.failed = 2 ∧ t.clk.fails = inc 8 s.clk.fails ∧ t.clk.ml0Lock = false ∧
      t.clk.switches = inc 16 s.clk.switches ∧ t.fp.nme = s.fp.nme ||| BitVec.twoPow 7 nmeClock ∧ t.link = s.link ∧ t.ward = s.ward := by
  have seen : s.seenWindow { ifo := some a, iso := true, x0 := some b, x1 := none } = { ifo := some a, iso := true, x0 := some b, x1 := none } := if_neg (by simp only [rail]; decide)
  have one : s.badSources { ifo := some a, iso := true, x0 := some b, x1 := none } = [1] := by
    have first : s.clk.isStable 1 = true := by unfold Clock.isStable; rw [stable]; decide
    unfold State.badSources failedSources
    dsimp only
    simp [Clock.xinCfg, first, off, cfg0, cfg1]
  obtain ⟨mon, first, taken, -, -, mon3⟩ := takeWindow_xin0 s a b none cfg0
  have run := exec_clockMonitorWindow { ifo := some a, iso := true, x0 := some b, x1 := none } por warm
  rw [seen, one, isoJudged_good s a _ _ near, taken] at run
  obtain ⟨mon', clk, kept, nme, link, ward⟩ := sourceFailed_xin0 (s := ({ s with clk := { s.clk with mon := mon, ifoFirst := first } } : State).modClk (fun c => { c with isoFailed := false }))
    used stable failed idle started
  have failedNow : (({ s with clk := { s.clk with mon := mon, ifoFirst := first } } : State).modClk (fun c => { c with isoFailed := false })).failSources [1] =
      (({ s with clk := { s.clk with mon := mon, ifoFirst := first } } : State).modClk (fun c => { c with isoFailed := false })).sourceFailed 1 := by
    refine if_neg ?_
    show ¬ s.clk.failed.getLsbD 1 = true
    rw [failed]
    decide
  rw [failedNow] at run
  have quiet : (mon'.at 3).goodWin = 0 := by rw [kept]; exact mon3 rfl
  generalize (({ s with clk := { s.clk with mon := mon, ifoFirst := first } } : State).modClk (fun c => { c with isoFailed := false })).sourceFailed 1 = u
    at run clk nme link ward
  have still : u.riseSources [1] = u := by
    refine riseSources_none (fun i small => ?_) (by rw [clk]) (.inl ?_)
    · rw [clk]
      match i, small with
      | 0, _ => simp [Clock.rises, Clock.isStable]
      | 1, _ => exact Bool.and_false _
      | 2, _ => simp [Clock.rises, monOf, quiet]
    · rw [clk]
      show (if s.clk.refSel = 3 then _ else if (1 : BitVec 3).getLsbD s.clk.refSel then some s.clk.refSel else none) = none
      rw [if_neg (by omega), asked]
      rfl
  rw [still] at run
  obtain ⟨word, tracked, -⟩ := trackMl1_eq u
  rw [tracked] at run
  refine ⟨_, run, ?_⟩
  unfold State.modClk
  dsimp only
  rw [clk]
  exact ⟨rfl, rfl, rfl, rfl, rfl, rfl, nme, link, ward⟩

/-! ### O27: holdover, relock and LCLK -/

theorem keywayRise_eq (s : State) : ∃ pwr, s.keywayRise = { s with pwr := pwr } := by
  unfold State.keywayRise
  split
  · exact ⟨_, rfl⟩
  · exact ⟨s.pwr, rfl⟩

/-- Settles O27. -/
theorem theClocksFollowTheirSources : Obligations.TheClocksFollowTheirSources := by
  refine ⟨⟨?_, ?_, ?_, ?_, ?_⟩, ?_, ?_⟩
  · intro s a b c por warm rail stable cfg0 cfg1 iso held _ asked used near near0 near1
    exact clockMonitorWindow_records por warm rail stable cfg0 cfg1 iso held asked used near near0 near1
  · intro s a b por warm rail stable failed cfg0 cfg1 _ _ asked used _ idle started near off _
    exact clockMonitorWindow_fails por warm rail stable failed cfg0 cfg1 asked used idle started near off
  · intro s ready used idle started
    have lost := loseLock_idle (s := s.modClk (fun c => { c with holdover := true, holdSince := if c.holdover then c.holdSince else s.time })) idle started
    refine ⟨_, congrArg Host.Outcome.next ((if_pos (by simp [ready, used])).trans lost), rfl, fun fresh => ?_, rfl, rfl⟩
    show (if s.clk.holdover = true then s.clk.holdSince else s.time) = s.time
    rw [fresh, if_neg Bool.false_ne_true]
  · intro s held lost late up
    obtain ⟨state, -, last⟩ := linkFail_down (s := s) (cause := 0xD) (retrain := .notReady) (silent := false) up
    exact ⟨_, congrArg Host.Outcome.next (if_pos (by simp [held, lost, late])), state, by rw [last]; rfl⟩
  · intro s used held unlocked stable
    obtain ⟨pwr, risen⟩ := keywayRise_eq ((s.modClk (fun c => { c with ml0Lock := true, ready := true })).raiseEvent evClock)
    refine ⟨_, congrArg Host.Outcome.next ((if_pos ?_).trans risen), ?_, ?_, ?_⟩
    · simp [Clock.isStable, held, unlocked, stable]
      omega
    · exact State.raiseEvent_clk _ _
    · exact raiseEvent_flag rfl (by decide)
    · exact State.raiseEvent_link _ _
  · intro s d listed down none
    have idle : s.inT40Idle = false := by
      unfold State.inT40Idle
      rw [decide_eq_false (p := s.link.state = 8) (by omega)]
      rfl
    have silent : s.lclkSilent = true := by
      unfold State.lclkSilent
      rw [decide_eq_true down]
      rfl
    have still : ((s.modClk (fun c => { c with dacDiv := d, adcDiv := d })).restartCycle).huntStep d = (s.modClk (fun c => { c with dacDiv := d, adcDiv := d })).restartCycle := by
      unfold State.huntStep
      have hunt : (s.modClk (fun c => { c with dacDiv := d, adcDiv := d })).restartCycle.ql.run.hunt = Option.none := none
      rw [hunt]
    exact ⟨_, congrArg Host.Outcome.next ((if_pos (by simp [idle, silent, listed])).trans still), rfl, rfl, rfl, rfl⟩
  · intro s dac adc refused
    refine congrArg Host.Outcome.next (if_neg ?_)
    rcases refused with unlisted | unlisted | ⟨unequal, elsewhere⟩
    · simp [unlisted]
    · simp [unlisted]
    · have idle : s.inT40Idle = false := by
        unfold State.inT40Idle
        rw [decide_eq_false elsewhere]
        rfl
      simp [idle, unequal]

end Sys2Proof.Machine
end

section
/-! PROOFS. O13: parameters read and written -/

namespace Sys2Proof.Machine

set_option Elab.async false

/-! ### O13: a SET_PARAM that passes every check -/

/-- A row for a SET_PARAM executes the request once no GATE_CTL write is in progress and the object and value are the row's (R361). -/
theorem setParamOf_takes {s : State} {tag : BitVec 16} {q : Request} {p : Nat → Nat → Bool} (takes : Takes s tag 0x43 q) (free : s.gate.hostAsked = 0)
    (named : p (q.cap.arg 28 2) (leNat q.cap.payload) = true) : s.setParamOf tag p = (s.begin q).setParam q := by
  unfold State.setParamOf
  rw [takes.1]
  dsimp only
  rw [if_neg (by simp [free]), if_pos named]
  exact runRequest_takes _ takes

/-- The request names a writable object that is there, with a whole value that its rules allow (R9, R10, R361). -/
structure WritesObject (s : State) (q : Request) (r : ObjectRow) : Prop where
  row : objectRow (q.cap.arg 28 2) = some r
  rw : r.rw = true
  len : q.cap.len = r.size
  fields : q.cap.fieldsOk [(28, 4)] = true
  index : q.cap.arg 30 2 = 0
  present : s.objectAbsent (q.cap.arg 28 2) = false
  value : s.valueAbsent (q.cap.arg 28 2) (leNat q.cap.payload) = false
  open' : s.objectGated (q.cap.arg 28 2) = false
  clock : q.cap.arg 28 2 = 0x0500 → s.clkNotReady (leNat q.cap.payload) = false
  gates : q.cap.arg 28 2 = 0x0503 → s.gateCtlTested (leNat q.cap.payload) = false
  ward : q.cap.arg 28 2 = 0x0700 → s.wardApproved = true → bitsAt (leNat q.cap.payload) 3 2 = 2
  allowed : objectOk (q.cap.arg 28 2) (leNat q.cap.payload) q.cap.payload = true
  hasp : q.cap.arg 28 2 = 0x0880 → s.haspForbids (leNat q.cap.payload) = false

section
variable {s : State} {tag : BitVec 16} {q : Request} {r : ObjectRow} (takes : Takes s tag 0x43 q) (writes : WritesObject s q r)
include takes writes

/-- It is stored whole: GATE_CTL by its handshakes, any other object at once (R361). -/
theorem setParam_stores : (s.begin q).setParam q = if q.cap.arg 28 2 = 0x0503 then (s.begin q).storeGateCtl q (leNat q.cap.payload)
    else ((s.begin q).storeObject (q.cap.arg 28 2) (leNat q.cap.payload) q.cap.payload).1.finish q
      ((s.begin q).storeObject (q.cap.arg 28 2) (leNat q.cap.payload) q.cap.payload).2 [] [] := by
  have present : (s.begin q).objectAbsent (q.cap.arg 28 2) = false := writes.present
  have value : (s.begin q).valueAbsent (q.cap.arg 28 2) (leNat q.cap.payload) = false := writes.value
  have gate : (s.begin q).objectGated (q.cap.arg 28 2) = false := writes.open'
  have clock : (q.cap.arg 28 2 = 0x0500 && (s.begin q).clkNotReady (leNat q.cap.payload)) = false := by
    rw [Bool.and_eq_false_imp]
    exact fun yes => writes.clock (of_decide_eq_true yes)
  have gates : (q.cap.arg 28 2 = 0x0503 && (s.begin q).gateCtlTested (leNat q.cap.payload)) = false := by
    rw [Bool.and_eq_false_imp]
    exact fun yes => writes.gates (of_decide_eq_true yes)
  have hasp : (q.cap.arg 28 2 = 0x0880 && (s.begin q).haspForbids (leNat q.cap.payload)) = false := by
    rw [Bool.and_eq_false_imp]
    exact fun yes => writes.hasp (of_decide_eq_true yes)
  have ward : (q.cap.arg 28 2 = 0x0700 && (s.begin q).wardApproved && bitsAt (leNat q.cap.payload) 3 2 ≠ 2) = false := by
    rw [begin_wardApproved, Bool.and_eq_false_imp]
    intro both
    rw [Bool.and_eq_true] at both
    simp [writes.ward (of_decide_eq_true both.1) both.2]
  unfold State.setParam
  refine guarded_pass ?_
  rw [failing_begin takes]
  simp only [firstFail_cons, firstFail_nil, present, value, gate, clock, gates, ward, hasp, writes.row, writes.rw, writes.len, writes.fields, writes.index, writes.allowed]
  simp

theorem exec_writesObject {i : Instr} {p : Nat → Nat → Bool} (is : exec i s = .next (s.setParamOf tag p)) (free : s.gate.hostAsked = 0)
    (named : p (q.cap.arg 28 2) (leNat q.cap.payload) = true) (other : q.cap.arg 28 2 ≠ 0x0503) : exec i s =
      .next (((s.begin q).storeObject (q.cap.arg 28 2) (leNat q.cap.payload) q.cap.payload).1.finish q
        ((s.begin q).storeObject (q.cap.arg 28 2) (leNat q.cap.payload) q.cap.payload).2 [] []) := by
  rw [is, setParamOf_takes takes free named, setParam_stores takes writes, if_neg other]

theorem exec_writesGateCtl {i : Instr} {p : Nat → Nat → Bool} (is : exec i s = .next (s.setParamOf tag p)) (free : s.gate.hostAsked = 0)
    (named : p (q.cap.arg 28 2) (leNat q.cap.payload) = true) (id : q.cap.arg 28 2 = 0x0503) :
    exec i s = .next ((s.begin q).storeGateCtl q (leNat q.cap.payload)) := by
  rw [is, setParamOf_takes takes free named, setParam_stores takes writes, if_pos id]

end

/-! ### O13: the rows of their own -/

theorem storeObject_calCtl (s : State) (v : Nat) (bs : List Byte) : s.storeObject 0x0300 v bs = (s.writeCalCtl v, .ok) := rfl

theorem storeObject_clkCtl (s : State) (v : Nat) (bs : List Byte) : s.storeObject 0x0500 v bs = (s.storeClkCtl v, .ok) := rfl

theorem storeObject_engCtl (s : State) (v : Nat) (bs : List Byte) : s.storeObject 0x0200 v bs = s.writeEngCtl v := rfl

theorem storeObject_alarmStatus (s : State) (v : Nat) (bs : List Byte) : s.storeObject 0x0184 v bs = (s.clearAlarms v, .ok) := rfl

theorem objectRow_alarmStatus : objectRow 0x0184 = some (rw 0x0184 8 State.alarmStatusImage) := rfl

theorem bitAt_testBit (v i : Nat) : bitAt v i = v.testBit i := by
  unfold bitAt
  rw [Nat.testBit_eq_decide_div_mod_eq]

/-- A bit stays set that its clearing mask does not name (R16). -/
theorem clearedBit (b : BitVec 16) (v n : Nat) {i : Nat} (small : i < 16) : (b &&& ~~~(BitVec.ofNat 16 (v / 2 ^ n))).getLsbD i = (b.getLsbD i && !bitAt v (n + i)) := by
  rw [bitAt_testBit, BitVec.getLsbD_and, BitVec.getLsbD_not, BitVec.getLsbD_ofNat, Nat.testBit_div_two_pow]
  simp [small, Nat.add_comm]

/-- The write of ALARM_STATUS that clears passes every check (R283). -/
theorem writes_alarmStatus {s : State} {q : Request} (id : q.cap.arg 28 2 = 0x0184) (len : q.cap.len = 8) (fields : q.cap.fieldsOk [(28, 4)] = true)
    (index : q.cap.arg 30 2 = 0) (small : leNat q.cap.payload / 2 ^ 48 = 0) : WritesObject s q (rw 0x0184 8 State.alarmStatusImage) where
  row := by rw [id, objectRow_alarmStatus]
  rw := rfl
  len := len
  fields := fields
  index := index
  present := by rw [id]; simp [State.objectAbsent]
  value := by rw [id]; rfl
  open' := by rw [id]; simp [State.objectGated]
  clock := fun no => absurd (id.symm.trans no) (by decide)
  gates := fun no => absurd (id.symm.trans no) (by decide)
  ward := fun no => absurd (id.symm.trans no) (by decide)
  allowed := by
    rw [id]
    exact decide_eq_true small
  hasp := fun no => absurd (id.symm.trans no) (by decide)

/-- Settles O13. -/
theorem parametersAreReadAndWritten : Obligations.ParametersAreReadAndWritten := by
  refine ⟨?_, ?_, ?_⟩
  · intro s tag q r takes plain row present index n offAligned offInside lenAligned inside room atMost
    exact exec_getParam_of_objectRow takes plain row present index rfl offAligned offInside lenAligned inside room atMost
  · intro s tag q r takes free row rw len fields index id v b present value gate clock gates ward allowed hasp
    have writes : WritesObject s q r := ⟨row, rw, len, fields, index, present, value, gate, clock, gates, ward, allowed, hasp⟩
    refine ⟨fun other => exec_writesObject takes writes rfl free rfl other, fun is => ⟨?_, ?_⟩,
      fun (is : q.cap.arg 28 2 = 0x0300) (bit : bitAt (leNat q.cap.payload) 1 = true) => ?_,
      fun (is : q.cap.arg 28 2 = 0x0500) (changes : bitsAt (leNat q.cap.payload) 0 2 ≠ s.clk.refSel) => ?_,
      fun (is : q.cap.arg 28 2 = 0x0200) (bit : bitAt (leNat q.cap.payload) 24 = true) => ?_⟩
    · exact exec_writesGateCtl takes writes rfl free rfl is
    · exact exec_writesGateCtl takes writes rfl free (decide_eq_true is) is
    · have run := exec_writesObject (i := .revert tag) takes writes rfl free (by simp [is, bit]) (by rw [is]; decide)
      rw [is, storeObject_calCtl] at run
      exact run
    · have run := exec_writesObject (i := .refSel tag) takes writes rfl free (by simp [is, changes]) (by rw [is]; decide)
      rw [is, storeObject_clkCtl] at run
      exact run
    · have run := exec_writesObject (i := .repairGo tag) takes writes rfl free (by simp [is, bit]) (by rw [is]; decide)
      rw [is, storeObject_engCtl] at run
      exact run
  · intro s tag q takes free id len fields index small
    have run := exec_writesObject (i := .alarmStatusClear tag) takes (writes_alarmStatus id len fields index small) rfl free (by simp [id]) (by rw [id]; decide)
    rw [id, storeObject_alarmStatus] at run
    exact ⟨_, run, fun i low => clearedBit _ _ _ low, fun i low => clearedBit _ _ _ low, rfl⟩

end Sys2Proof.Machine
end
